-- ==== Sys2Proof/Word.lean ====
section
/-! DEFINITION. The word types of the model and their plainest arithmetic. -/

namespace Sys2Proof

/-- A byte; the spec counts bits from 0, the least significant (R17). -/
abbrev Byte := BitVec 8
/-- A 32-bit register value. -/
abbrev W32 := BitVec 32
/-- A 64-bit register value. -/
abbrev W64 := BitVec 64

end Sys2Proof
end

