-- ==== Sys2Proof/Syntax.lean ====
section
/-! DEFINITION. The commands of the block: one constructor of Instr per row of spec/opcode_table.json, with what the row takes
from outside. A command that the hardware's clock or an event brings about carries `dt`, the TIO cycles (R359) since the command
before it; a command that the host sends carries none. -/

namespace Sys2Proof

/-- The register units that reset and access checks act on: the 41 blocks of R44, with the LQ and TPT blocks by window (R45), and
the RNG window of the HOST island. -/
inductive RUnit
  | dev | rst | aon | cfg | err | mbx | evt | wpu | dsp | time | bal | cal | thm
  | pipe (n : Fin 17)
  | mos | seg | cls
  | lq (q : Fin 13)
  | tpt (p : Fin 16)
  | rdg | pcx | eth
  | hbm (s : Fin 2)
  | tha | rng
  deriving DecidableEq, Repr

/-- Who makes a register access (the source codes of R496). -/
inductive AccSrc
  | host | keel | optionLoading | ridge
  | mailbox (m : Fin 16)
  deriving DecidableEq, Repr

/-- One memory access of the host to BAR0 or BAR2: the byte offset in the BAR, the size in bytes, and for a write the data,
little-endian (R17); `data` of a read is not used. Accesses of 4 and 8 bytes use the first one or two words. -/
structure BusAccess where
  bar2 : Bool
  write : Bool
  addr : Nat
  size : Nat
  data : List Byte
  deriving DecidableEq, Repr

/-- The header of a command envelope (R332) with the mailbox it was taken from. -/
structure EnvHdr where
  mailbox   : Fin 16
  tag       : W32
  noDefer   : Bool
  barrier   : Bool
  quiet     : Bool
  noInterim : Bool
  timeoutMs : BitVec 16
  deriving DecidableEq, Repr

/-- One entry of REG_READ (R349). -/
structure RegSel where
  addr : W32
  size : Byte
  deriving DecidableEq, Repr

/-- One entry of REG_WRITE (R349). -/
structure RegPut where
  addr  : W32
  size  : Byte
  value : W64
  deriving DecidableEq, Repr

/-- The arguments of TABLE_LOAD and TABLE_READ (R352). `addr` is SRC_ADDR or DST_ADDR. -/
structure TableXfer where
  table  : Byte
  inst   : Byte
  bank   : Byte
  loc    : Bool
  thatch : Bool
  part   : Bool
  offset : W32
  len    : W32
  srcLen : W32
  addr   : W64
  deriving DecidableEq, Repr

/-- The arguments of VIEW_RESERVE (R354). -/
structure ViewArgs where
  slot : Byte
  zoom : Byte
  rate : Byte
  dest : Byte
  x0   : W32
  x1   : W32
  hOut : BitVec 16
  deriving DecidableEq, Repr

/-- The source of FW_STAGE and NV_WRITE (R355, R356). -/
structure ImageSrc where
  loc    : Bool
  thatch : Bool
  srcLen : W32
  addr   : W64
  deriving DecidableEq, Repr

/-- The 32 commands an envelope can carry, with their arguments (R349 to R356). -/
inductive Cmd
  | nop | info
  | cmdQuery (mailbox : Byte) (tag : W32)
  | regRead (entries : List RegSel)
  | regWrite (entries : List RegPut)
  | modeSet (target : Byte)
  | rollNext
  | loftExport (first last : W64) (ring : BitVec 16)
  | tableLoad (t : TableXfer)
  | tableRead (t : TableXfer)
  | camRegRead (port : Byte) (count : BitVec 16) (addr : W32)
  | camRegWrite (port : Byte) (addr : W32) (words : List W32)
  | viewReserve (v : ViewArgs)
  | viewRelease (slot : Byte)
  | hbmSetpoint (mask sp : Byte)
  | hbmRetire (stack pc : Byte)
  | fwStage (src : ImageSrc)
  | fwSwap
  | pipeTakeover (target : Byte)
  | laneRetrain (lane : Byte)
  | partnerRejoin | serviceAbort
  | calRun (item : BitVec 16) (arg : W64)
  | calRead (item : BitVec 16)
  | calStore | cfgOpen | cfgCommit
  | nvWrite (src : ImageSrc)
  | fuseProgram (levels : List Byte)
  | timeStep (amount : W64)
  | evtCommit | pairHandover
  deriving DecidableEq, Repr

/-- A reset source that is asserted from outside the register and envelope paths (R464); SW_BLOCK, SW_DEVICE, KEEL_LOCKSTEP,
FATAL_ERR, THERMAL_TRIP, JTAG, SMBUS, CORE_PG and IO_SUPPLY have commands of their own, but may be named here too. -/
inductive ResetSrc
  | por | corePg | resetN | perstN | pcieFlr | swDevice | keelWdt | keelLockstep | fatalErr | thermalTrip | jtag | smbus
  | refclkLoss | ioSupply
  /-- SW_BLOCK: the block named, or its whole island. -/
  | swBlock (u : RUnit) (island : Bool)
  /-- KEEL_REQ: the block or island named. -/
  | keelReq (u : RUnit) (island : Bool)
  deriving DecidableEq, Repr

/-- What option loading reads from the boot flash, which lies outside the package (R469, R472): both user NV copies, both
calibration copies. -/
structure FlashRead where
  nv0  : List Byte
  nv1  : List Byte
  cal0 : List Byte
  cal1 : List Byte
  deriving DecidableEq, Repr

/-- What the Keel reads from the boot flash when it boots (R475): BOOT_BANK and both firmware images. -/
structure FwBoot where
  bootB : Bool
  imgA  : List Byte
  imgB  : List Byte
  deriving DecidableEq, Repr

/-- The six merge points of R42. -/
inductive MergeId
  | mosaic | seam | record | evt | err | pair
  deriving DecidableEq, Repr

/-- What one ballast client asks for in one window, in the units of R66: of each stack, of the engines, of the Keel, of ring DMA. -/
structure Demand where
  hbm0 : Nat
  hbm1 : Nat
  tha  : Nat
  keel : Nat
  dma  : Nat
  deriving DecidableEq, Repr

/-- The fields of a PTP message that the device uses (R369 to R371). Timestamps are in 1/8 ns; correction in 2^-16 ns. `ts8` is
the receive timestamp the port takes at the message timestamp point, in eighths of a nanosecond within the current cycle. -/
structure PtpMsg where
  port      : Fin 4
  udp       : Bool
  domain    : Byte
  twoStep   : Bool
  seqId     : BitVec 16
  srcId     : BitVec 80
  reqId     : BitVec 80
  seconds   : BitVec 48
  nanos     : W32
  correction : Int
  logInterval : Byte
  utcOffset : BitVec 16
  utcValid  : Bool
  priority1 : Byte
  clockClass : Byte
  clockAcc  : Byte
  variance  : BitVec 16
  priority2 : Byte
  gmId      : W64
  stepsRemoved : BitVec 16
  ts8       : Fin 8
  deriving DecidableEq, Repr

/-- Why outbound transfers stop (R302). -/
inductive LinkStop
  | busMasterOff | d3hot | linkDown
  deriving DecidableEq, Repr

/-- A UDP or ICMP frame received on an Ethernet port: addresses, ports and payload (R321, R323). -/
structure UdpFrame where
  port    : Fin 4
  srcIp   : W32
  dstIp   : W32
  srcMac  : BitVec 48
  srcPort : BitVec 16
  payload : List Byte
  deriving DecidableEq, Repr

/-- What the patrol found in the SRAM word it read (R500, R501). -/
inductive SramStore
  | batten | mosaicBuffer | neighbourhood
  | columnModel (col : Nat)
  | labelTable (entry : Nat)
  | coefCache | ringCache
  | thatchHistory (engine : Fin 16)
  | tree (bank : Bool) | actionTable (bank : Bool)
  | fwBankInForce | fwBankIdle
  | other
  deriving DecidableEq, Repr

/-- One patrol read: the block, the array address, and what was found there. -/
structure SramFinding where
  unit  : RUnit
  addr  : BitVec 36
  /-- 0 no error, 1 corrected, 2 uncorrectable. -/
  kind  : Fin 3
  store : SramStore
  deriving DecidableEq, Repr
/-- The outcome of start-up training of a stack (R398, R403, R405): bit p set where pseudo-channel p failed verify at 6.4 Gb/s, whether the
3.2 Gb/s setpoint trained, RAAIMT, RAAMMT and the temperature read from the stack. -/
structure TrainResult where
  failed : W32
  slow   : Bool
  raaimt : Nat
  raammt : Nat
  temp   : Byte
  deriving DecidableEq, Repr

/-- An SRAM repair at an array's safe instant (R516): the array and the row or column replaced. -/
structure SramRepair where
  unit  : RUnit
  store : SramStore
  row   : W32
  deriving DecidableEq, Repr


/-- A training frame as a receiver decodes it (R425, R426): the fields and their complements, the marker found inverted; and what the
local receiver decides as it takes the frame: adaptation finished, and the request it sends back (bits 7 to 0 of CONTROL). -/
structure TrainFrame where
  control  : BitVec 16
  controlN : BitVec 16
  status   : BitVec 16
  statusN  : BitVec 16
  inverted : Bool
  adapted  : Bool
  request  : Byte
  deriving DecidableEq, Repr


/-- A job placed on a Thatch engine (R277 to R283, R293): compression or decompression for a ballast client; the level, the KIND of the stream,
the output mode with OUT_LIMIT; OUT_MAX of a decompression; the input, and after how many bytes of it the client requests a flush; the HBM address of
the destination and the bytes free there. -/
structure ThaJob where
  compress : Bool
  client   : Fin 24
  level    : Fin 10
  kind     : Fin 6
  bounded  : Bool
  outLimit : Nat
  outMax   : Nat
  input    : List Byte
  flushes  : List Nat
  dst      : Nat
  room     : Nat
  deriving DecidableEq, Repr


/-- What the host programs in the function's configuration space (R297, R298, R300, R301): the base addresses of BAR0 and BAR2, Max Payload Size and Max
Read Request Size (each 128 bytes times two to the code), Relaxed Ordering enabled, MSI-X Enable and Function Mask. -/
structure PcieCtl where
  bar0   : W64
  bar2   : W64
  mps    : BitVec 3
  mrrs   : BitVec 3
  ro     : Bool
  msixOn : Bool
  masked : Bool
  deriving DecidableEq, Repr

/-- What resumes outbound transfers, with what the host has programmed in the configuration space by then (R302). -/
structure LinkResume where
  why : LinkStop
  ctl : PcieCtl
  deriving DecidableEq, Repr

/-- A level or code at pins, and for how many cycles it has been stable (R76, R384). -/
structure Held (α : Type) where
  level  : α
  stable : Nat
  deriving DecidableEq, Repr

/-- What is seen on channel or lane `at_` of n. -/
structure Seen (n : Nat) (α : Type) where
  at_  : Fin n
  what : α
  deriving DecidableEq, Repr


/-- The commands of the block, in the order of the table, those without operands last (the compiler allows no constructor with fields beyond the 244th). -/
inductive Instr
  /-- NOP (R349): Envelope command that does nothing and returns a final response. -/
  | nop (h : EnvHdr)
  /-- INFO (R349): Envelope command that returns identity, firmware versions, device time, epoch and pair role. -/
  | info (h : EnvHdr)
  /-- CMD_QUERY (R346): Envelope command that reports the state and status of a command by mailbox and TAG. -/
  | cmdQuery (h : EnvHdr) (mailbox : BitVec 8) (tag : W32)
  /-- REG_READ (R349): Envelope command that reads up to 64 BAR0 registers in order until the first failing entry. -/
  | regRead (h : EnvHdr) (entries : List RegSel)
  /-- REG_WRITE (R341): Envelope command that writes up to 64 registers in list order across islands until the first failing entry. -/
  | regWrite (h : EnvHdr) (entries : List RegPut)
  /-- MODE_SET (R351): Envelope command that checks and requests a transition to a target mode. -/
  | modeSet (h : EnvHdr) (target : BitVec 8)
  /-- ROLL_NEXT (R274): Envelope command that requests a roll change on the first line issued after acceptance. -/
  | rollNext (h : EnvHdr)
  /-- LOFT_EXPORT (R320): Envelope command that delivers a line range of the frozen loft to a ring as one content-5 object. -/
  | loftExport (h : EnvHdr) (first : W64) (last : W64) (ring : BitVec 16)
  /-- TABLE_LOAD (R353): Envelope command that writes a table from host or HBM memory, optionally Thatch-decoded, and then marks or validates its bank. -/
  | tableLoad (h : EnvHdr) (t : TableXfer)
  /-- TABLE_READ (R352): Envelope command that copies a table range to a destination address. -/
  | tableRead (h : EnvHdr) (t : TableXfer)
  /-- CAM_REG_READ (R354): Envelope command that reads camera registers over the Tether link with REG_RD. -/
  | camRegRead (h : EnvHdr) (port : BitVec 8) (count : BitVec 16) (addr : W32)
  /-- CAM_REG_WRITE (R354): Envelope command that writes camera registers over the Tether link with REG_WR. -/
  | camRegWrite (h : EnvHdr) (port : BitVec 8) (addr : W32) (words : List W32)
  /-- VIEW_RESERVE (R354): Envelope command that reserves a live-view slot for a fixed destination that never expires. -/
  | viewReserve (h : EnvHdr) (v : ViewArgs)
  /-- VIEW_RELEASE (R354): Envelope command that releases a reserved live-view slot. -/
  | viewRelease (h : EnvHdr) (slot : BitVec 8)
  /-- HBM_SETPOINT (R406): Envelope command that changes the HBM stacks between the 6.4 and 3.2 Gb/s setpoints. -/
  | hbmSetpoint (h : EnvHdr) (mask : BitVec 8) (sp : BitVec 8)
  /-- HBM_RETIRE (R411): Service command that retires one HBM pseudo-channel and migrates its data into the refuge. -/
  | hbmRetire (h : EnvHdr) (stack : BitVec 8) (pc : BitVec 8)
  /-- FW_STAGE (R507): Envelope command that checks a signed firmware image and writes it to the idle bank and its flash copy. -/
  | fwStage (h : EnvHdr) (src : ImageSrc)
  /-- FW_SWAP (R508): Service command that switches the Keel to the staged firmware bank. -/
  | fwSwap (h : EnvHdr)
  /-- PIPE_TAKEOVER (R511): Service command that moves a target pipeline's port to the spare after two shadow courses. -/
  | pipeTakeover (h : EnvHdr) (target : BitVec 8)
  /-- LANE_RETRAIN (R434): Service command that restarts one lane from receiver detect at its present rate. -/
  | laneRetrain (h : EnvHdr) (lane : BitVec 8)
  /-- PARTNER_REJOIN (R458): Service command on the authority that re-establishes a partner by state transfer and reconciliation. -/
  | partnerRejoin (h : EnvHdr)
  /-- SERVICE_ABORT (R355): Envelope command that aborts the running service operation. -/
  | serviceAbort (h : EnvHdr)
  /-- CAL_RUN (R519): Envelope command that captures data for a calibration item and computes it. -/
  | calRun (h : EnvHdr) (item : BitVec 16) (arg : W64)
  /-- CAL_READ (R356): Envelope command that returns a calibration item's count, time and coefficients. -/
  | calRead (h : EnvHdr) (item : BitVec 16)
  /-- CAL_STORE (R524): Envelope command that writes every stored calibration item to the flash copy not in force. -/
  | calStore (h : EnvHdr)
  /-- CFG_OPEN (R491): Envelope command that opens the configuration window and suspends CRC comparison. -/
  | cfgOpen (h : EnvHdr)
  /-- CFG_COMMIT (R491): Envelope command that runs a sweep, stores the result as CRC_REF and closes the window. -/
  | cfgCommit (h : EnvHdr)
  /-- NV_WRITE (R470): Envelope command that writes a user NV image to the flash copy not in force and verifies it. -/
  | nvWrite (h : EnvHdr) (src : ImageSrc)
  /-- FUSE_PROGRAM (R465): Envelope command that programs the reset fuse table once in OTP. -/
  | fuseProgram (h : EnvHdr) (levels : List (BitVec 8))
  /-- TIME_STEP (R374): Envelope command that steps device time by a signed amount after draining every merge point. -/
  | timeStep (h : EnvHdr) (amount : W64)
  /-- EVT_COMMIT (R386): Envelope command that checks event routing for loops and brings it into force in one cycle. -/
  | evtCommit (h : EnvHdr)
  /-- PAIR_HANDOVER (R454): Envelope command that passes the authority token to the partner. -/
  | pairHandover (h : EnvHdr)
  /-- ENVELOPE_TAKE (R331): The Keel takes the next envelope round-robin from an enabled mailbox, checks it and writes its descriptor back. -/
  | envelopeTake (dt : Nat) (desc : List Byte) (env : List Byte)
  /-- COMMAND_WAIT_START (R338): A command waiting for its predecessor or a held object starts once that wait ends. -/
  | commandWaitStart (dt : Nat) (m : Fin 16)
  /-- COMMAND_TIMEOUT (R338): A command not started within TIMEOUT_MS ends with E_TIMEOUT and no effect. -/
  | commandTimeout (dt : Nat) (m : Fin 16)
  /-- FW_SWAP_PAUSE (R508): Once no other class D command is pending, the firmware pause runs: handover record, restart from the staged bank, then the final response. -/
  | fwSwapPause (dt : Nat) (ready : Bool)
  /-- FW_SWAP_READY_TIMEOUT (R509): If the new firmware has not reported ready by P + 1.5 ms, the cores restart from the old bank and the swap answers E_IMAGE. -/
  | fwSwapReadyTimeout (dt : Nat)
  /-- REGISTER_WRITE (R9): A BAR0 write to a register without behaviour of its own takes effect by its access code and Takes effect term. -/
  | registerWrite (acc : BusAccess)
  /-- RC_READ (R43): A read of a register holding RC fields returns them and clears them. -/
  | rcRead (acc : BusAccess)
  /-- SAFE_REQ (R64): A write of 1 to DEV.SAFE_REQ.REQ enters SAFE_HOLD with SAFE_CAUSE 3. -/
  | safeReq (data : W32)
  /-- WPU_COMMIT (R85): A write of 1 to WPU.COMMIT.GO checks and brings the encoder, scale, SSI, control and slip settings into force. -/
  | wpuCommit (data : W32)
  /-- LATCH_REQ (R86): A write of 1 to WPU.LATCH_REQ captures the master position and device time in a latch slot. -/
  | latchReq (data : W32)
  /-- CMP_PUSH (R102): A push to WPU.CMP_PUSH tests the compare value for lateness and inserts it into the unit's sorted queue. -/
  | cmpPush (u : Fin 32) (acc : BusAccess)
  /-- CMP_CLEAR (R105): A write of 1 to CMP_STAT.CLEAR empties a compare queue at once. -/
  | cmpClear (u : Fin 32) (data : W64)
  /-- DSP_COMMIT (R123): A write of 1 to DSP.COMMIT.GO checks the filter settings and restarts every changed filter. -/
  | dspCommit (data : W32)
  /-- COEF_MARK (R168): A write of 1 to PIPE.COEF_CTRL.MARK sets LOADED of the idle coefficient bank. -/
  | coefMark (n : Fin 17) (data : W32)
  /-- COEF_SWAP (R169): A write of 1 to PIPE.COEF_CTRL.SWAP requests the idle coefficient bank at the next course boundary. -/
  | coefSwap (n : Fin 17) (data : W32)
  /-- CM_CLEAR (R222): A write to SEG.CM_CTRL.CLEAR requests the clearing of a region's column model at the course boundary. -/
  | cmClear (data : W32)
  /-- REP_CAPTURE_GO (R228): A write of 1 to SEG.REP_CAPTURE.GO starts a repeat capture in CALIBRATE. -/
  | repCaptureGo (data : W64)
  /-- BANK_MARK (R250): A write of 1 to CLS.BANK_CTRL.MARK validates the idle classifier bank. -/
  | bankMark (data : W32)
  /-- BANK_SWAP (R251): A write of 1 to CLS.BANK_CTRL.SWAP requests the idle classifier bank for the next course boundary. -/
  | bankSwap (data : W32)
  /-- ROLL_NOW (R274): A write of 1 to CLS.ROLL_CTRL.NOW requests a roll change on the next issued line. -/
  | rollNow (data : W64)
  /-- LOFT_FREEZE (R264): A write of 1 to LOFT_CTRL.FREEZE arms a loft freeze after FREEZE_DELAY lines. -/
  | loftFreeze (data : W64)
  /-- LOFT_RESUME (R264): A write of 1 to LOFT_CTRL.RESUME restarts loft writing from the next mosaic line. -/
  | loftResume (data : W64)
  /-- TPT_RETRAIN (R154): A write to TPT.CTRL.RETRAIN0 or RETRAIN1 returns a Tether lane to receiver detect. -/
  | tptRetrain (p : Fin 16) (data : W32)
  /-- SW_FIRE (R381): A write to EVT.SW_FIRE fires the named channel if software firing is allowed. -/
  | swFire (data : W32)
  /-- CH_CTRL_WRITE (R387): A write to EVT.CH_CTRL clears STORM and re-enables a channel, or is refused while STORM stays set. -/
  | chCtrlWrite (c : Fin 256) (data : W32)
  /-- TT_ARM (R372): A write to TIME.TT_CFG arms, keeps or disarms a time trigger, setting LATE for a past start. -/
  | ttArm (k : Fin 8) (data : W64)
  /-- PR_GO (R401): A write of 1 to HBMs.PR_CTRL.GO enters partial retention in STANDBY. -/
  | prGo (st : Fin 2) (data : W64)
  /-- PR_EXIT (R402): A write of 1 to PR_CTRL.EXIT, or any request or HBM command, ends partial retention. -/
  | prExit (st : Fin 2) (data : W64)
  /-- EYE_GO (R435): A write of 1 to LQ.EYE_CTRL.GO starts an eye scan on a lane in stage 5. -/
  | eyeGo (q : Fin 13) (k : Fin 4) (data : W32)
  /-- BLOCK_RST (R481): A write to RST.BLOCK_RST asserts source SW_BLOCK for a named block or island. -/
  | blockRst (data : W32)
  /-- DEV_RST (R464): A write of the key to RST.DEV_RST asserts source SW_DEVICE. -/
  | devRst (data : W32)
  /-- CLK_TIMEOUT_RETRY (R467): A write of 1 to a bit of RST.CLK_TIMEOUT restarts the 10 ms clock-good wait for that island. -/
  | clkTimeoutRetry (data : W64)
  /-- ERR_ACK (R497): A write of 1 to ERR.STAT.ACK retires the current error entry and makes the next one current. -/
  | errAck (data : W64)
  /-- FATAL_PEND_CLEAR (R499): A write of 1 to ERR.STAT.FATAL_PEND clears it if the fatal condition has ended. -/
  | fatalPendClear (data : W64)
  /-- LOCK_SET (R484): A write of 1 to a block's LOCK.SET locks its configuration and tables until reset. -/
  | lockSet (u : RUnit) (data : W32)
  /-- RING_CONTEXT_WRITE (R305): A write to a ring context validates and enables the ring, or disables it at the next item boundary. -/
  | ringContextWrite (acc : BusAccess)
  /-- DOORBELL (R306): A doorbell write posts descriptors to a ring by a new TAIL and optionally arms its interrupt. -/
  | doorbell (acc : BusAccess) (descs : List W64)
  /-- TBL_WINDOW_ACCESS (R316): An access through the TBL window reads or writes the selected table under its owner's lock rules. -/
  | tblWindowAccess (acc : BusAccess)
  /-- MSIX_UNMASK (R315): Unmasking an MSI-X vector sends the message held in its pending bit. -/
  | msixUnmask (v : Fin 2048)
  /-- RIPCORD_ASSERT (R63): An accepted low on RIPCORD_N stops triggers, drives outputs safe and enters SAFE_HOLD. -/
  | ripcordAssert (dt : Nat)
  /-- RIPCORD_RELEASE (R62): An accepted high on RIPCORD_N sets DEV.MODE.RIPCORD to 1 without leaving SAFE_HOLD. -/
  | ripcordRelease (dt : Nat)
  /-- MODE_ENTRY (R52): Within 1 ms of an accepted request the device leaves STANDBY or SAFE_HOLD for the target mode. -/
  | modeEntry (dt : Nat)
  /-- RESET (R463): A reset source is asserted and resets its scope at the level from the fuse table. -/
  | reset (dt : Nat) (src : ResetSrc)
  /-- SUPPLY_FAULT (R529): A rail out of range for 5 µs asserts CORE_PG or IO_SUPPLY. -/
  | supplyFault (dt : Nat) (io : Bool)
  /-- POWER_GOOD (R461): The rising edge of RESET_N starts the start-up sequence and samples PRIMARY_STRAP. -/
  | powerGood (dt : Nat) (primary : Bool)
  /-- CLOCK_GOOD (R27): An island's PLL has held lock for 256 cycles and its clock-good becomes true. -/
  | clockGood (dt : Nat) (isl : Fin 40)
  /-- CLOCK_GOOD_LOSS (R27): An island's PLL loses lock and its clock-good becomes false at once. -/
  | clockGoodLoss (dt : Nat) (isl : Fin 40)
  /-- BLOCK_RELEASE (R467): A block whose reset has ended is released once its island's clock-good is true, with NV fields reapplied. -/
  | blockRelease (dt : Nat) (u : RUnit) (senses : List Bool)
  /-- CLK_GOOD_TIMEOUT (R467): Clock-good still false 10 ms after a reset ended keeps the block in reset and reports RESET_CLK_TIMEOUT. -/
  | clkGoodTimeout (dt : Nat) (isl : Fin 40)
  /-- IDLE_TIMEOUT (R466): A block not idle after IDLE_US is reset anyway and its junction contents discarded. -/
  | idleTimeout (dt : Nat) (u : RUnit)
  /-- OPTION_LOADING_DONE (R473): Option loading completes: NV image applied, safe levels driven, calibration loaded, DONE set. -/
  | optionLoadingDone (dt : Nat) (flash : FlashRead)
  /-- FW_BOOT_DONE (R475): The Keel finishes loading and verifying a firmware image, falling back or starting the recovery monitor. -/
  | fwBootDone (dt : Nat) (boot : FwBoot)
  /-- HBM_TRAINING_DONE (R403): Start-up training of both setpoints of a stack ends, retiring any pseudo-channel that failed verify. -/
  | hbmTrainingDone (dt : Nat) (st : Fin 2) (res : TrainResult)
  /-- STARTUP_COMPLETE (R480): At step 8 of start-up the device enters STANDBY, or SAFE_HOLD under R58. -/
  | startupComplete (dt : Nat)
  /-- QUAD_STATE_CHANGE (R76): An accepted quadrature state change counts one step and updates speed, trigger position and compare units. -/
  | quadStateChange (dt : Nat) (n : Fin 4) (a : Held Bool) (b : Held Bool)
  /-- INDEX_EDGE (R77): An accepted rising edge of ENCn_I latches raw position and time and raises INDEX. -/
  | indexEdge (dt : Nat) (n : Seen 4 Nat)
  /-- HALL_STATE_CHANGE (R82): An accepted Hall U V W state change counts a step or reports an invalid or skipped state. -/
  | hallStateChange (dt : Nat) (n : Fin 4) (uvw : Held (Fin 8))
  /-- SSI_FRAME (R81): Every PERIOD_US the SSI interface clocks one frame and applies the absolute value. -/
  | ssiFrame (dt : Nat) (n : Fin 4) (bits : List Bool)
  /-- TPOS_EXTRAPOLATE (R92): Each TIO cycle the trigger position of a sine/cosine or SSI master is advanced by extrapolation. -/
  | tposExtrapolate (dt : Nat)
  /-- STANDSTILL (R89): No edge for STANDSTILL_TIMEOUT_US declares standstill and makes speed invalid. -/
  | standstill (dt : Nat)
  /-- MARKER_PULSE_START (R101): DELAY_NS after a firing the marker pulse begins on its MKO pin, merged if the pin is active. -/
  | markerPulseStart (dt : Nat) (n : Fin 16)
  /-- MARKER_PULSE_END (R101): WIDTH_NS after it began the marker pulse ends. -/
  | markerPulseEnd (dt : Nat) (n : Fin 16)
  /-- STROBE_PULSE_START (R98): DELAY_NS after a strobe start the pulse begins unless the duty limiter is at its limit. -/
  | strobePulseStart (dt : Nat) (n : Fin 8)
  /-- STROBE_PULSE_END (R99): A strobe pulse ends after WIDTH_NS or early when the duty limiter or WMAX_NS is reached. -/
  | strobePulseEnd (dt : Nat) (n : Fin 8)
  /-- FILTER_OUTPUT (R111): At each main output instant a filter delivers y or the coarse value to its consumer. -/
  | filterOutput (dt : Nat) (f8 : Fin 8) (bits : List Bool)
  /-- COARSE_VALUE (R115): Each group of 8 modulator bits gives a new coarse value. -/
  | coarseValue (dt : Nat) (f8 : Fin 8) (bits : List Bool)
  /-- SETTLE_END (R116): The settle counter reaches zero and the next output instant delivers the main path. -/
  | settleEnd (dt : Nat) (f8 : Fin 8) (bits : List Bool)
  /-- DSM_STUCK (R118): DSM_Df holding one level for 1,024 clocks marks the filter stuck and reports it. -/
  | dsmStuck (dt : Nat) (f8 : Fin 8) (bits : List Bool)
  /-- LINE_SEG (R155): A LINE_SEG packet is received and its payload taken into the open line slot or discarded by the counting rules. -/
  | lineSeg (dt : Nat) (l : Fin 32) (pkt : List Byte)
  /-- CAP (R153): A CAP packet is validated and answered with GRANT or recorded in CAP_ERR. -/
  | cap (dt : Nat) (l : Fin 32) (pkt : List Byte)
  /-- ACK (R149): An upstream ACK of a GRANT or SET is received, recording the applied line and late sets. -/
  | ack (dt : Nat) (l : Fin 32) (pkt : List Byte)
  /-- REG_RSP (R151): A camera REG_RSP completes an outstanding register request. -/
  | regRsp (dt : Nat) (l : Fin 32) (pkt : List Byte)
  /-- CAM_EVENT (R152): A camera EVENT packet is acknowledged, stamped, raised and delivered to the metadata ring. -/
  | camEvent (dt : Nat) (l : Fin 32) (pkt : List Byte)
  /-- ECHO_RSP (R144): An ECHO_RSP yields a round trip and updates the one-way delay of the lane. -/
  | echoRsp (dt : Nat) (l : Fin 32) (blk : List Byte) (rtt : Nat)
  /-- ECHO_PERIODIC (R144): Every 100 ms the device sends one ECHO_REQ on each active lane. -/
  | echoPeriodic (dt : Nat)
  /-- CAM_REQUEST_TIMEOUT (R151): A camera request without answer for 1 ms is resent, and after two resends fails with CAM_TIMEOUT. -/
  | camRequestTimeout (dt : Nat) (p : Fin 16)
  /-- LINE_SLOT_CLOSE (R155): A port's line slot closes at its deadline and the line goes to the pipeline with missing bytes invalid. -/
  | lineSlotClose (dt : Nat) (p : Fin 16)
  /-- ALIGN_LOSS (R133): Four consecutive expected ALIGN blocks missing drop the receiver's ALIGN lock. -/
  | alignLoss (dt : Nat) (l : Seen 40 Nat)
  /-- BRINGUP_STEP_TIMEOUT (R154): A bring-up step not finished in its limit returns the lane to receiver detect. -/
  | bringupStepTimeout (dt : Nat) (l : Fin 40)
  /-- BRINGUP_PAUSE_END (R154): After the 1 s pause the lane restarts bring-up at receiver detect. -/
  | bringupPauseEnd (dt : Nat) (l : Fin 40)
  /-- RECEIVER_DETECT (R424): The transmitter steps its common mode to find the far termination, repeating every 12 ms. -/
  | receiverDetect (dt : Nat) (l : Fin 52) (found : Bool)
  /-- TRAINING_FRAME (R425): A training frame is received and its CONTROL and STATUS fields acted on. -/
  | trainingFrame (dt : Nat) (l : Fin 40) (f : TrainFrame)
  /-- LANE_LOCK_LOSS (R429): A lane in stage 3 to 5 loses CDR or ALIGN lock and returns to stage 1. -/
  | laneLockLoss (dt : Nat) (l : Fin 52)
  /-- LANE_PLL_UNLOCK (R429): A quad PLL loses lock and every lane of the quad returns to stage 1 once clock-good returns. -/
  | lanePllUnlock (dt : Nat) (q : Fin 13)
  /-- CAL_BURST_SEND (R431): 950 µs after the last one a transmitter sends a 32-block calibration burst. -/
  | calBurstSend (dt : Nat) (l : Fin 40)
  /-- CAL_BURST_RECEIVE (R432): A received burst lets the receiver adapt and brings pending lane calibration into force. -/
  | calBurstReceive (dt : Nat) (l : Fin 40)
  /-- LANE_BURST_MISS (R432): No burst for 2 ms on a stage-5 lane counts BURST_MISS_CNT and reports it. -/
  | laneBurstMiss (dt : Nat) (l : Fin 40)
  /-- ADAPT_FREEZE (R430): Idle longer than 64 ns or above 90 % of 4 µs freezes receiver adaptation. -/
  | adaptFreeze (dt : Nat) (l : Fin 52)
  /-- ADAPT_RESUME (R430): 1 µs of contiguous data with idle share at most 90 % resumes adaptation. -/
  | adaptResume (dt : Nat) (l : Fin 52)
  /-- EYE_SCAN_DONE (R435): An eye scan finishes its dwell, writes EYE_RES and sets DONE. -/
  | eyeScanDone (dt : Nat) (l : Fin 52) (errors : Nat)
  /-- PIPE_LINE (R161): After the slot of L + ALIGN_LAG closes a pipeline processes line L through its stages to the mosaic. -/
  | pipeLine (dt : Nat) (n : Fin 17)
  /-- MOSAIC_LINE (R197): Once every pipeline has delivered line L + MD_MAX the mosaic emits line L with edges and position. -/
  | mosaicLine (dt : Nat)
  /-- LOFT_FROZEN (R264): FREEZE_DELAY lines after a freeze request the loft writer stops. -/
  | loftFrozen (dt : Nat)
  /-- SEAM_UPDATE (R202): After a course the mosaic scores each seam and moves its registration toward the target. -/
  | seamUpdate (dt : Nat)
  /-- LINE_LABEL (R218): After line L + H arrives SEG thresholds, labels and merges line L and updates the column model. -/
  | lineLabel (dt : Nat)
  /-- REPMARK_POSITION (R225): Once the descriptors around a repeat mark exist its position is computed and the mark accepted or rejected. -/
  | repmarkPosition (dt : Nat)
  /-- MERGE_ARRIVAL (R40): An item arrives at a merge point and is held, released by the full rule, or passed at once as LATE_ORDER. -/
  | mergeArrival (dt : Nat) (m : MergeId)
  /-- MERGE_TIMEOUT_RELEASE (R39): A held item that has waited 100 µs causes release in key order. -/
  | mergeTimeoutRelease (dt : Nat) (m : MergeId)
  /-- BLOB_CLASSIFY (R253): A walker takes a released blob, walks the tree and carries out the class's action entry. -/
  | blobClassify (dt : Nat)
  /-- COURSE_CLOSE_TIMEOUT (R273): 200 µs, or 2,200 µs in INSPECT_DEEP, after the next course's first line the course closes. -/
  | courseCloseTimeout (dt : Nat)
  /-- COURSE_RECORD_SEND (R273): Once a course is closed and its mosaic and statistics records have arrived the Spaene course record is sent. -/
  | courseRecordSend (dt : Nat)
  /-- PASS2_DONE (R255): The second pass finishes its loft window and walks from ROOT2 to the final class. -/
  | pass2Done (dt : Nat)
  /-- PASS2_TIMEOUT (R257): A second pass unfinished 2 ms after the first-pass leaf fails with PASS2_FAIL. -/
  | pass2Timeout (dt : Nat)
  /-- CROP_CUT_START (R266): Once the window's last line is in the loft and the crop heads the queue the cut starts and pins the window. -/
  | cropCutStart (dt : Nat)
  /-- CROP_PIN_EXPIRY (R267): The pin expires and the crop closes TRUNCATED after the last complete line. -/
  | cropPinExpiry (dt : Nat)
  /-- CROP_END (R268): A crop finishes and its trailer is delivered with its status. -/
  | cropEnd (dt : Nat)
  /-- RING_ITEM_DELIVER (R309): An item leaving the record merge is placed into ring buffers as fragments, or staged or dropped. -/
  | ringItemDeliver (dt : Nat) (r : Fin 4096) (dmaOk : Bool)
  /-- BUFFER_FLUSH (R310): FLUSH_US after its first fragment a buffer completes with FLUSHED. -/
  | bufferFlush (dt : Nat) (r : Fin 4096)
  /-- RING_COALESCE_TIMER (R315): COAL_US after the first unreported completion an armed ring sends its interrupt. -/
  | ringCoalesceTimer (dt : Nat) (r : Fin 4096)
  /-- DMA_COPY (R314): A posted DMA-ring descriptor is copied between host memory and HBM and its status written back. -/
  | dmaCopy (dt : Nat) (r : Fin 4096) (desc : List Byte) (data : List Byte) (dmaOk : Bool)
  /-- OUTBOUND_STOP (R302): Bus Master Enable 0, D3hot or link down stops outbound transfers. -/
  | outboundStop (dt : Nat) (why : LinkStop)
  /-- OUTBOUND_RESUME (R302): When the stop condition ends delivery resumes from staging in order. -/
  | outboundResume (dt : Nat) (why : LinkResume)
  /-- SUBSCRIBE (R324): A SUBSCRIBE message is checked against VIEW_ACL and budgets and answered with VIEW_ACK. -/
  | subscribe (dt : Nat) (f : UdpFrame)
  /-- RENEW (R323): A RENEW message extends a view's lease. -/
  | renew (dt : Nat) (f : UdpFrame)
  /-- UNSUBSCRIBE (R323): An UNSUBSCRIBE message ends a view. -/
  | unsubscribe (dt : Nat) (f : UdpFrame)
  /-- VIEW_LEASE_EXPIRY (R323): A view without SUBSCRIBE or RENEW for LEASE_MS expires. -/
  | viewLeaseExpiry (dt : Nat) (v : Fin 32)
  /-- VIEW_FRAME (R325): At each frame time a view's frame is cut into tiles and sent, or skipped. -/
  | viewFrame (dt : Nat) (v : Fin 32)
  /-- ARP_REQUEST (R321): An ARP request for a device address is answered. -/
  | arpRequest (dt : Nat) (port : Fin 4) (targetIp : W32) (senderIp : W32) (senderMac : BitVec 48)
  /-- ICMP_ECHO (R321): An ICMP echo request for a device address is answered. -/
  | icmpEcho (dt : Nat) (port : Fin 4) (f : UdpFrame)
  /-- FRAME_DISCARD (R321): Any other received Ethernet frame is counted and discarded. -/
  | frameDiscard (dt : Nat) (port : Fin 4) (ptp : Bool)
  /-- PTP_SYNC_RX (R370): A received Sync is timestamped as t2 for the offset computation. -/
  | ptpSyncRx (dt : Nat) (msg : PtpMsg)
  /-- PTP_FOLLOW_UP_RX (R370): A received Follow_Up supplies t1 for a two-step Sync. -/
  | ptpFollowUpRx (dt : Nat) (msg : PtpMsg)
  /-- PTP_DELAY_RESP_RX (R370): A received Delay_Resp completes an offset, which sets time, updates the servo and lock state. -/
  | ptpDelayRespRx (dt : Nat) (msg : PtpMsg)
  /-- PTP_ANNOUNCE_RX (R369): A received Announce feeds the best master clock algorithm and UTC offset. -/
  | ptpAnnounceRx (dt : Nat) (msg : PtpMsg)
  /-- PTP_DELAY_REQ_RX (R369): As master the device answers a received Delay_Req with Delay_Resp. -/
  | ptpDelayReqRx (dt : Nat) (msg : PtpMsg)
  /-- PTP_SYNC_TX (R371): As master the device sends a one-step Sync at each sync interval. -/
  | ptpSyncTx (dt : Nat) (f8 : Fin 8)
  /-- PTP_DELAY_REQ_TX (R371): As slave the device sends a Delay_Req and keeps its transmit time as t3. -/
  | ptpDelayReqTx (dt : Nat) (f8 : Fin 8)
  /-- PTP_ANNOUNCE_TIMEOUT (R369): No Announce within announceReceiptTimeout changes the PTP port state. -/
  | ptpAnnounceTimeout (dt : Nat)
  /-- PPS_IN_EDGE (R366): A PPS_IN rising edge is timestamped and, if accepted, gives an offset with TOD_NEXT. -/
  | ppsInEdge (dt : Nat) (f8 : Fin 8)
  /-- PPS_OUT_RISE (R367): At each second plus OFS_NS PPS_OUT rises and raises TIME_PPS. -/
  | ppsOutRise (dt : Nat)
  /-- PPS_OUT_FALL (R367): WIDTH_NS after rising PPS_OUT falls. -/
  | ppsOutFall (dt : Nat)
  /-- TIME_TT (R372): An armed time trigger reaches its fire time, raises TIME_TT and optionally commits the DSP. -/
  | timeTt (dt : Nat) (k : Fin 8)
  /-- TIME_SAVE (R361): Every 1 ms device time and epoch are saved to AON retained memory. -/
  | timeSave (dt : Nat)
  /-- HOLDOVER (R364): No offset for 4 s clears LOCKED and sets HOLDOVER. -/
  | holdover (dt : Nat)
  /-- TIME_STEP_APPLY (R374): Once every merge point has drained device time steps, the epoch rises and time triggers are adjusted. -/
  | timeStepApply (dt : Nat)
  /-- CHANNEL_FIRE (R380): An event reaching the router fires its channel and is delivered to consumers and the log. -/
  | channelFire (dt : Nat) (c : Fin 256)
  /-- EVIO_EDGE (R384): An accepted level change on an input EVIO pin raises EVIO_RISE or EVIO_FALL. -/
  | evioEdge (dt : Nat) (n : Fin 32) (level : Held Bool)
  /-- EVIO_PULSE_END (R384): WIDTH_NS after a pulse-mode output began the EVIO pin returns to its safe level. -/
  | evioPulseEnd (dt : Nat) (n : Fin 32)
  /-- EVT_RATE_WINDOW (R387): Each 100 µs window ends a channel's firing count and checks the storm guard. -/
  | evtRateWindow (dt : Nat)
  /-- JCT_STALL (R30): A junction full for 1 ms sets its island bit and reports JCT_STALL. -/
  | jctStall (dt : Nat) (isl : Fin 40)
  /-- BALLAST_WINDOW (R66): Every 1.024 µs the ballast budgets of all clients are renewed. -/
  | ballastWindow (dt : Nat) (demand : List Demand)
  /-- THATCH_JOB_START (R277): The Keel places a compression or decompression job on an engine. -/
  | thatchJobStart (dt : Nat) (e : Fin 16) (job : ThaJob)
  /-- THATCH_RESUME (R281): A stalled engine resumes when destination space and budget are both present. -/
  | thatchResume (dt : Nat) (e : Fin 16) (room : Nat)
  /-- THATCH_SAVE (R285): At the next block boundary an engine's state is saved to HBM. -/
  | thatchSave (dt : Nat) (e : Fin 16) (pos : Nat) (addr : Nat)
  /-- THATCH_RESTORE (R284): An engine reads back a saved state and rebuilds its match tables. -/
  | thatchRestore (dt : Nat) (e : Fin 16) (addr : Nat)
  /-- THATCH_JOB_END (R294): A Thatch job ends with its end block or decoder status. -/
  | thatchJobEnd (dt : Nat) (e : Fin 16)
  /-- REFRESH (R397): A per-bank refresh is issued at its interval. -/
  | refresh (dt : Nat) (st : Fin 2) (pc : Fin 32) (bank : Fin 48)
  /-- HBM_TEMP_SAMPLE (R397): Every 1 ms the stack temperature is sampled and HOT set or cleared. -/
  | hbmTempSample (dt : Nat) (st : Fin 2) (temp : Byte)
  /-- RFM (R398): A bank whose activation count reached RAAIMT receives RFM at its next opportunity. -/
  | rfm (dt : Nat) (st : Fin 2) (pc : Fin 32) (bank : Fin 48)
  /-- POWER_DOWN_ENTRY (R399): A pseudo-channel idle for PD_IDLE cycles enters power-down. -/
  | powerDownEntry (dt : Nat) (st : Fin 2) (pc : Fin 32)
  /-- SELF_REFRESH_ENTRY (R399): A pseudo-channel idle for SR_IDLE µs drains and enters self-refresh. -/
  | selfRefreshEntry (dt : Nat) (st : Fin 2) (pc : Fin 32)
  /-- SELF_REFRESH_EXIT (R400): After minimum residency a waiting request brings the pseudo-channel out of self-refresh. -/
  | selfRefreshExit (dt : Nat) (st : Fin 2) (pc : Fin 32)
  /-- PC_ZERO_DONE (R402): Zeroing of a lost pseudo-channel ends and its waiting requests proceed. -/
  | pcZeroDone (dt : Nat) (st : Fin 2) (pc : Fin 32)
  /-- TRACKING_STEP_P (R403): Every 100 ms per pseudo-channel the controller runs read and write delay tracking. -/
  | trackingStepP (dt : Nat) (st : Fin 2) (pc : Fin 32)
  /-- SETPOINT_RELOCK (R406): After the MEM PLL relocks the new setpoint's values load, self-refresh ends and requests resume. -/
  | setpointRelock (dt : Nat)
  /-- HBM_SCRUB (R410): The patrol scrubber reads and corrects the next granule of the stack. -/
  | hbmScrub (dt : Nat) (st : Fin 2) (kind : Fin 4)
  /-- MIGRATION_DONE (R413): Migration of a retired pseudo-channel ends and the channel is powered off. -/
  | migrationDone (dt : Nat)
  /-- HELLO (R441): A received HELLO is checked and starts or continues pair establishment. -/
  | hello (dt : Nat) (pkt : List Byte)
  /-- KEEP (R439): A control lane idle for 1 µs sends KEEP. -/
  | keep (dt : Nat) (l : Fin 40) (pkt : List Byte)
  /-- LINE_DESC (R443): The partner adopts a received LINE_DESC as its own issued line. -/
  | lineDesc (dt : Nat) (pkt : List Byte)
  /-- MIRROR (R441): The partner applies mirrored register writes received from the authority. -/
  | mirror (dt : Nat) (pkt : List Byte)
  /-- ENVELOPE_PACKET (R329): A received ENVELOPE packet is posted to mailbox 15 or delivered as a response. -/
  | envelopePacket (dt : Nat) (pkt : List Byte)
  /-- AUTH_OFFER (R454): A received AUTH OFFER is answered with ACCEPT for a handover. -/
  | authOffer (dt : Nat) (pkt : List Byte)
  /-- AUTH_ACCEPT (R454): A received AUTH ACCEPT fixes the handover instant H. -/
  | authAccept (dt : Nat) (pkt : List Byte)
  /-- AUTH_RELEASE (R452): A received AUTH RELEASE makes the partner take authority. -/
  | authRelease (dt : Nat) (pkt : List Byte)
  /-- AUTH_SAFE (R455): A received AUTH SAFE enters SAFE_HOLD on the partner with the same cause. -/
  | authSafe (dt : Nat) (pkt : List Byte)
  /-- LATCH (R441): A received LATCH packet sets the latch instant or gives the authority's captured values for POS_OFS. -/
  | latch (dt : Nat) (pkt : List Byte)
  /-- PAIR_LATCH_CAPTURE (R441): At device time tL each device captures its master raw word and position. -/
  | pairLatchCapture (dt : Nat)
  /-- RIDGE_RECORD (R448): A partner or reconciliation RECORD packet is compared with the authority's records. -/
  | ridgeRecord (dt : Nat) (pkt : List Byte)
  /-- XSEG (R449): A forwarded LINE_SEG is taken into the port as if received on its own lane. -/
  | xseg (dt : Nat) (pkt : List Byte)
  /-- SYNC_DATA (R441): The partner applies received state-transfer data. -/
  | syncData (dt : Nat) (pkt : List Byte)
  /-- TIME_SYNC (R365): A TIME_SYNC exchange gives the partner an offset against the authority. -/
  | timeSync (dt : Nat) (f8 : Fin 8) (pkt : List Byte)
  /-- RIDGE_GAP (R439): A packet missing for 50 µs is reported and the following packets delivered. -/
  | ridgeGap (dt : Nat) (bulk : Bool)
  /-- RIDGE_LOST (R440): 10 µs without a valid control packet clears RIDGE_UP. -/
  | ridgeLost (dt : Nat)
  /-- SPLIT_DECISION (R452): 110 µs after the Ridge link is lost each device decides authority from FENCE and the strap. -/
  | splitDecision (dt : Nat)
  /-- FENCE_PULSE (R451): At its 20 µs phase a device pulls FENCE low for 1 µs. -/
  | fencePulse (dt : Nat)
  /-- FENCE_PARTNER_PULSE (R451): A partner low pulse on FENCE of at least 500 ns sets FENCE_OK. -/
  | fencePartnerPulse (dt : Nat)
  /-- FENCE_RELEASE_SEEN (R451): FENCE low for 25 µs from the partner is a release, and the partner takes authority. -/
  | fenceReleaseSeen (dt : Nat)
  /-- FENCE_OK_TIMEOUT (R451): No partner pulse for 100 µs clears FENCE_OK. -/
  | fenceOkTimeout (dt : Nat)
  /-- PAIR_COMPARE_TIMEOUT (R448): A record unmatched 2 ms after arrival or release is counted and optionally sent to DIFF_RING. -/
  | pairCompareTimeout (dt : Nat)
  /-- HANDOVER_SAFE_LEVEL (R454): At H + 1,200 µs the new holder starts driving the safe level on joined outputs. -/
  | handoverSafeLevel (dt : Nat)
  /-- SHADOW_SLIP (R444): A shadow point and a LINE_DESC unmatched within 5 µs count SHADOW_SLIP. -/
  | shadowSlip (dt : Nat)
  /-- HELD_SEGMENT_TIMEOUT (R457): A held LINE_SEG not taken within 20 µs counts as ORPHAN. -/
  | heldSegmentTimeout (dt : Nat) (p : Fin 16)
  /-- REJOIN_LOCK_TIMEOUT (R458): A joining device not time-locked within 60 s ends the rejoin with E_ABORTED. -/
  | rejoinLockTimeout (dt : Nat)
  /-- CFG_SWEEP (R490): Every 1 ms a sweep computes the configuration CRC and compares it with CRC_REF. -/
  | cfgSweep (dt : Nat)
  /-- CFG_WINDOW_LONG (R493): A window open longer than WIN_MAX_S reports CFG_WINDOW_LONG once. -/
  | cfgWindowLong (dt : Nat)
  /-- SRAM_PATROL (R500): A block's patrol reads the next SRAM word and writes back a correction. -/
  | sramPatrol (dt : Nat) (f : SramFinding)
  /-- SRAM_REPAIR (R516): At the array's safe instant a spare row or column replaces a failing one. -/
  | sramRepair (dt : Nat) (r : SramRepair)
  /-- KEEL_LOCKSTEP (R502): A disagreement of the Keel core pairs asserts reset source KEEL_LOCKSTEP. -/
  | keelLockstep (dt : Nat)
  /-- THERMAL_SAMPLE (R542): Every 100 µs the sensors are read and Tj judged against the thermal thresholds. -/
  | thermalSample (dt : Nat) (temps : List (BitVec 16))
  /-- THERMAL_CLEAR (R543): Tj 3 °C below a threshold for 1 s clears its condition. -/
  | thermalClear (dt : Nat)
  /-- TAKEOVER_COPY_DONE (R511): The copy of the target's registers and banks into the spare completes, setting the shadow start. -/
  | takeoverCopyDone (dt : Nat)
  /-- CAL_CAPTURE_DONE (R519): A calibration capture completes and its result is held pending. -/
  | calCaptureDone (dt : Nat) (coefs : List W32)
  /-- CAL_APPLY (R522): At its safe instant a calibration item's pending values come into force in one step. -/
  | calApply (dt : Nat)
  /-- ALIGN_LOCK (R133): A Tether or Ridge receiver finds three ALIGN blocks at the expected spacing, becomes locked and advances its lane past bit and symbol lock. -/
  | alignLock (dt : Nat) (l : Seen 40 (List (List Byte)))
  /-- SIGNAL_DETECT (R423): An Ethernet lane sees energy at its receiver for 1 ms and leaves stage 1. -/
  | signalDetect (dt : Nat) (k : Fin 4)
  /-- BLOCK_LOCK (R423): An Ethernet lane gains block lock and FEC alignment, then PCS link status, and comes up. -/
  | blockLock (dt : Nat) (k : Fin 4)
  /-- MALFORMED (R132): A received control block with an unknown code, or a packet with a bad TYPE or LEN, is discarded and counted as MALFORMED. -/
  | malformed (dt : Nat) (l : Fin 40)
  /-- UNCORRECTABLE_CODEWORD (R155): A received RS codeword that cannot be corrected has its blocks discarded, losing the packets in it, and FEC_UNCORR counts it. -/
  | uncorrectableCodeword (dt : Nat) (l : Seen 40 (List (BitVec 10)))
  /-- TABLE_LOAD_COMPLETION (R353): The TABLE_LOAD transfer finishes, marks or validates the bank and sends the final response. -/
  | tableLoadCompletion (dt : Nat) (src : List Byte)
  /-- TABLE_READ_COMPLETION (R352): The TABLE_READ copy to the destination finishes and the final response reports the bytes read. -/
  | tableReadCompletion (dt : Nat)
  /-- FLASH_WRITE_COMPLETION (R470): A boot-flash write for NV_WRITE, CAL_STORE or FW_STAGE is verified, its generation written and the final response sent. -/
  | flashWriteCompletion (dt : Nat) (ok : Bool) (src : List Byte)
  /-- OTP_WRITE_COMPLETION (R465): The FUSE_PROGRAM write of the fuse table into OTP completes and the final response is sent. -/
  | otpWriteCompletion (dt : Nat)
  /-- RESERVED_LOCATION_READ (R482): A BAR0 or BAR2 read of a reserved location completes with Completer Abort and logs RESERVED_ACCESS. -/
  | reservedLocationRead (acc : BusAccess)
  /-- PTP_ANNOUNCE_TX (R369): As master, the device sends an Announce at each announce interval. -/
  | ptpAnnounceTx (dt : Nat)
  /-- HELLO_TX (R439): Every 1 ms, and in stage 4, a Ridge device sends HELLO on its control lanes. -/
  | helloTx (dt : Nat)
  /-- ROW_CLOSE (R395): An open HBM row is closed after PAGE_IDLE cycles without an access to its bank. -/
  | rowClose (dt : Nat) (st : Fin 2) (pc : Fin 32) (bank : Fin 48)
  /-- POR_RELEASE (R530): VAON rises above 1.66 V, POR is released and the AON island starts with cleared retained memory. -/
  | porRelease (dt : Nat)
  /-- TRIP_RELEASE (R543): Every trip comparator reads below 95 °C and the THERMAL_TRIP reset is released. -/
  | tripRelease (dt : Nat)
  /-- SMB_READ_ID (R541): SMBus command 0x01 returns DEV.ID. -/
  | smbReadId
  /-- SMB_READ_TJ (R541): SMBus command 0x02 returns the AON copy of Tj. -/
  | smbReadTj
  /-- SMB_READ_MODE (R541): SMBus command 0x03 returns the mode byte. -/
  | smbReadMode
  /-- SMB_READ_RST_CAUSE (R541): SMBus command 0x04 returns DEV.RST_CAUSE bits 31:0. -/
  | smbReadRstCause
  /-- SMB_RESET (R541): SMBus command 0x10 with 0x52 asserts reset source SMBUS. -/
  | smbReset
  /-- JTAG_RESET (R464): The JTAG_RESET instruction asserts reset source JTAG. -/
  | jtagReset
  deriving DecidableEq, Repr

end Sys2Proof
end

