-- ==== Sys2Proof/Decode.lean ====
section
/-! DEFINITION. The command a word spells. No row of spec/opcode_table.json gives its command any bits: a register write is spelled by
its address and data, an envelope by its bytes (R331 to R356), which ENVELOPE_TAKE reads. So no word spells a command. -/

namespace Sys2Proof

/-- The command that an instruction word of nbits bits spells: none, for the table gives no row bits. -/
def decodeTableWord (_nbits _w : Nat) : Option Instr := none

end Sys2Proof
end

