-- ==== Sys2Proof/Machine/Operands.lean ====
section
/-! DEFINITION. The arithmetic and byte layouts the chapters share: rounding (R84, R163), clamps, serial comparison (R38),
little-endian layouts (R17), CRC-32C (R134), and access to lists by index. -/

namespace Sys2Proof.Machine

/-- floor(a / 2^k). -/
def fshr (a : Int) (k : Nat) : Int := Int.fdiv a (2 ^ k)

/-- rhe(x, k): x / 2^k, round half to even (R84). -/
def rhe (x : Int) (k : Nat) : Int :=
  if k = 0 then x
  else
    let q := fshr x k
    let r := x - q * 2 ^ k
    let half : Int := 2 ^ (k - 1)
    if r > half ∨ (r = half ∧ q % 2 = 1) then q + 1 else q

/-- rdiv(a, b): a / b, round half to even, b > 0 (R163). -/
def rdiv (a b : Int) : Int :=
  let q := Int.fdiv a b
  let r := a - q * b
  if 2 * r > b ∨ (2 * r = b ∧ q % 2 = 1) then q + 1 else q

/-- x limited to lo … hi. -/
def clampI (x lo hi : Int) : Int := if x < lo then lo else if hi < x then hi else x

/-- x limited to lo … hi. -/
def clampN (x lo hi : Nat) : Nat := if x < lo then lo else if hi < x then hi else x

/-- clamp16 of R163. -/
def clamp16 (x : Int) : Nat := (clampI x 0 0xFFFF).toNat

/-- The signed value of the low w bits of n (R18). -/
def sext (n w : Nat) : Int :=
  let m := n % 2 ^ w
  if m < 2 ^ (w - 1) then (m : Int) else (m : Int) - 2 ^ w

/-- The low w bits of a signed value, in two's complement (R18). -/
def uwrap (x : Int) (w : Nat) : Nat := (x % (2 ^ w : Int)).toNat

/-- A quotient rounded up. -/
def ceilDiv (a b : Nat) : Nat := (a + b - 1) / b

/-- a precedes b by serial arithmetic on w bits, the smaller value first where they lie half the range apart (R38). -/
def serialBefore (w a b : Nat) : Bool :=
  let d := (b + 2 ^ w - a % 2 ^ w) % 2 ^ w
  if d = 2 ^ (w - 1) then a < b else 1 ≤ d && d < 2 ^ (w - 1)

/-- The integer square root, rounded down: the largest r < 2^k with r² ≤ n, found bit by bit. -/
def isqrtBits : Nat → Nat → Nat → Nat
  | 0, _, r => r
  | k + 1, n, r => if (r + 2 ^ k) * (r + 2 ^ k) ≤ n then isqrtBits k n (r + 2 ^ k) else isqrtBits k n r

/-- floor(sqrt n) for n below 2^128. -/
def isqrt (n : Nat) : Nat := isqrtBits 64 n 0

/-- The smallest k with n ≤ 2^k. -/
def ceilLog2 (n : Nat) : Nat := if n ≤ 1 then 0 else Nat.log2 (n - 1) + 1

/-- n as k bytes, little-endian (R17). -/
def leBytes : Nat → Nat → List Byte
  | 0, _ => []
  | k + 1, n => BitVec.ofNat 8 (n % 256) :: leBytes k (n / 256)

/-- The value of little-endian bytes (R17). -/
def leNat : List Byte → Nat
  | [] => 0
  | b :: bs => b.toNat + 256 * leNat bs

/-- Bytes o … o + n − 1 of a byte string, short where it ends. -/
def slice (bs : List Byte) (o n : Nat) : List Byte := (bs.drop o).take n

/-- The little-endian value of bytes o … o + n − 1. -/
def leAt (bs : List Byte) (o n : Nat) : Nat := leNat (slice bs o n)

/-- n zero bytes. -/
def zeros (n : Nat) : List Byte := List.replicate n 0

/-- A byte string padded with zeros to n bytes. -/
def padTo (bs : List Byte) (n : Nat) : List Byte := bs ++ zeros (n - bs.length)

/-- Zero padding of a byte string to a multiple of n. -/
def padMul (bs : List Byte) (n : Nat) : List Byte := bs ++ zeros ((n - bs.length % n) % n)

/-- One bit of the reflected CRC-32C division. -/
def crcBit (c : Nat) : Nat := if c % 2 = 1 then (c / 2) ^^^ 0x82F63B78 else c / 2

/-- The CRC register after one byte. -/
def crcByte (c : Nat) (b : Byte) : Nat :=
  crcBit (crcBit (crcBit (crcBit (crcBit (crcBit (crcBit (crcBit (c ^^^ b.toNat))))))))

/-- CRC-32C: reflected Castagnoli, initial value and final XOR 0xFFFF_FFFF (R134). -/
def crc32c (bs : List Byte) : Nat := (bs.foldl crcByte 0xFFFFFFFF) ^^^ 0xFFFFFFFF

/-- Entry i of a list, d where there is none. -/
def lget {α : Type} (l : List α) (i : Nat) (d : α) : α := l.getD i d

/-- A list with entry i replaced, where there is one. -/
def lset {α : Type} (l : List α) (i : Nat) (x : α) : List α := l.set i x

/-- The value kept under a key of an association list with rising keys, d where there is none. -/
def alGet {α : Type} (l : List (Nat × α)) (k : Nat) (d : α) : α :=
  match l.find? (fun p => p.1 = k) with
  | some p => p.2
  | none => d

/-- An association list with the value of a key replaced or inserted, keys rising. -/
def alSet {α : Type} : List (Nat × α) → Nat → α → List (Nat × α)
  | [], k, v => [(k, v)]
  | p :: l, k, v => if p.1 = k then (k, v) :: l else if k < p.1 then (k, v) :: p :: l else p :: alSet l k v

/-- An association list without a key. -/
def alErase {α : Type} (l : List (Nat × α)) (k : Nat) : List (Nat × α) := l.filter (fun p => p.1 ≠ k)

/-- Do n times, with the step number from 0. -/
def iter {α : Type} (n : Nat) (f : Nat → α → α) (x : α) : α := (List.range n).foldl (fun y i => f i y) x

end Sys2Proof.Machine
end

