-- ==== Sys2Proof/Machine/Coding.lean ====
section
/-! DEFINITION. The coding of the camera lanes (R130 to R133): control blocks, 257-bit blocks, the scrambler, RS(544,514) over GF(2^10), and
PAM4. Which of two symbols goes first, and which bit of a symbol, is as the standard that R131 names has it (log entry 108). -/

namespace Sys2Proof.Machine

/-! ### Blocks (R131 to R133) -/

/-- Codeword time at a rate in picoseconds, rounded up: 5,440 bits at 14, 28 or 56 Gb/s (R130, R131). -/
def codewordPs (rate : Nat) : Nat := ceilDiv (5440 * 1000) (14 * 2 ^ min rate 2)

/-- The time of one block slot, of which a codeword has twenty, in picoseconds. -/
def blockPs (rate : Nat) : Nat := codewordPs rate / 20

/-- An IDLE block, which stands in every slot that nothing else takes. -/
def idleBlock : List Byte := 0x1E :: zeros 31

/-- The ALIGN block with a counter. -/
def alignBlock (n : BitVec 16) : List Byte := [0x3C] ++ leBytes 2 n.toNat ++ zeros 29

/-- A block received is an ALIGN block. -/
def isAlign (b : List Byte) : Bool := leAt b 0 1 = 0x3C

/-- The data blocks of a packet: its bytes in groups of 32, the last filled with zeros (R134). -/
def dataBlocks (b : List Byte) : List (List Byte) :=
  (List.range (ceilDiv b.length 32)).map (fun i => padTo (slice b (32 * i) 32) 32)

/-- Bits of bytes in the order sent, each byte least significant bit first. -/
def byteBits (b : List Byte) : List Bool := b.flatMap (fun x => (List.range 8).map x.getLsbD)

/-- One bit of the self-synchronous scrambler x^58 + x^39 + 1: the bit sent, and the 58 sent last with it, newest first. -/
def scrambleBit (s : List Bool) (b : Bool) : Bool × List Bool :=
  let o := b ^^ s.getD 38 false ^^ s.getD 57 false
  (o, (o :: s).take 58)

/-- The 257 bits of a block behind those sent before: the header, 1 for a data block, then the scrambled payload. -/
def blockBits (s : List Bool) (data : Bool) (b : List Byte) : List Bool × List Bool :=
  (byteBits b).foldl (fun (acc : List Bool × List Bool) x =>
    let (o, s) := scrambleBit acc.2 x
    (acc.1 ++ [o], s)) ([data], s)

/-- The symbols of a message: ten bits each, the first bit the least significant. -/
def symbolsOf (bits : List Bool) : List Nat :=
  (List.range (bits.length / 10)).map (fun i =>
    (List.range 10).foldl (fun v k => if bits.getD (10 * i + k) false then v + 2 ^ k else v) 0)

/-- The level, 0 lowest to 3, that PAM4 sends for a pair of bits, first bit first: Gray mapping without precoding. -/
def pam4 (a b : Bool) : Nat :=
  match a, b with
  | false, false => 0
  | false, true => 1
  | true, true => 2
  | true, false => 3

/-! ### RS(544,514) (R131) -/

/-- Product in GF(2^10) with the field polynomial x^10 + x^3 + 1. -/
def gfMul (a b : Nat) : Nat :=
  if a = 0 || b = 0 then 0
  else (List.range 10).foldr (fun i p =>
    let q := if p < 512 then 2 * p else (2 * p) ^^^ 0x409
    if b.testBit i then q ^^^ a else q) 0

/-- The powers of a, n of them from a^0 on. -/
def gfPowers (a n : Nat) : List Nat := ((List.range n).foldl (fun (acc : List Nat × Nat) _ => (acc.2 :: acc.1, gfMul a acc.2)) ([], 1)).1.reverse

/-- The inverse: a to the power 1,022. -/
def gfInv (a : Nat) : Nat :=
  ((List.range 9).foldl (fun (acc : Nat × Nat) _ =>
    let s := gfMul acc.2 acc.2
    (gfMul acc.1 s, s)) (1, a)).1

/-- The value of a polynomial, its coefficients highest first. -/
def gfEval (c : List Nat) (x : Nat) : Nat := c.foldl (fun v y => gfMul v x ^^^ y) 0

/-- The thirty lower coefficients of the generator, whose roots are the first thirty powers of 2, its leading 1 left out; highest first. -/
def rsGenerator : List Nat :=
  ((gfPowers 2 30).foldl (fun g r => (g ++ [0]).zipWith (· ^^^ ·) (0 :: g.map (gfMul r))) [1]).drop 1

/-- The codeword of 514 message symbols: the remainder that completes a multiple of the generator follows them. -/
def rsEncode (m : List Nat) : List Nat :=
  m ++ m.foldl (fun r x =>
    let f := r.headD 0 ^^^ x
    (r.drop 1 ++ [0]).zipWith (· ^^^ ·) (rsGenerator.map (gfMul f))) (List.replicate 30 0)

/-- The thirty syndromes of a word received. -/
def rsSyndromes (w : List Nat) : List Nat := (gfPowers 2 30).map (gfEval w)

/-- The error locator that the Berlekamp-Massey iteration leaves, lowest coefficient first, and its length. -/
def rsLocator (s : List Nat) : List Nat × Nat :=
  let go (acc : List Nat × List Nat × Nat × Nat) (n : Nat) : List Nat × List Nat × Nat × Nat :=
    let (c, b, l, inv) := acc
    let b := 0 :: b
    let d := (List.range (l + 1)).foldl (fun v i => v ^^^ gfMul (c.getD i 0) (s.getD (n - i) 0)) 0
    if d = 0 then (c, b, l, inv)
    else
      let k := gfMul d inv
      let next := (List.range (max c.length b.length)).map (fun i => c.getD i 0 ^^^ gfMul k (b.getD i 0))
      if 2 * l ≤ n then (next, c, n + 1 - l, gfInv d) else (next, b, l, inv)
  let r := (List.range 30).foldl go ([1], [1], 0, 1)
  (r.1, r.2.2.1)

/-- What a receiver makes of a codeword of 544 symbols: how many it corrects, at most fifteen; none where it cannot be corrected. -/
def rsCorrect (w : List Nat) : Option Nat :=
  let s := rsSyndromes w
  if s.all (· = 0) then some 0
  else
    let (c, l) := rsLocator s
    if 15 < l then none
    else if ((gfPowers 0x204 544).filter (fun x => gfEval c.reverse x = 0)).length = l then some l else none

end Sys2Proof.Machine
end

