-- ==== Sys2Proof/Config.lean ====
section
/-! DEFINITION. The free values of the model: what the spec leaves open while the machine goes on. Each is a constant without a body, so
nothing can be proved of its value. -/

namespace Sys2Proof.Config

/-- The device's internal PTP latency for a PORT_MODE, transmit (true) or receive, in 1/8 ns (R370 gives no number). -/
opaque ptpLatency : Nat → Bool → Int

/-- The sense of the four-state Gray sequence that counts as forward (R76 does not say which of A and B leads): true when A leads. -/
opaque quadForward : Bool

/-- The 12-bit angle a CORDIC makes of a sine and a cosine sample (R79 gives neither its rounding nor its iterations). -/
opaque cordicAngle : Int → Int → BitVec 12

/-- The magnitude a CORDIC makes of a sine and a cosine sample, as a fraction of full scale in 2^-23 (R79, R80). -/
opaque cordicMagnitude : Int → Int → Nat

/-- The way an angle that has moved by exactly half a period has gone: true forward (R80 takes the shorter path and both are equal). -/
opaque halfTurn : Bool

/-- Coefficient i of a calibration item as the factory left it in OTP (R472, R523 give no values). -/
opaque factoryCal : Nat → Nat → BitVec 32

/-- Tap i of the FIR of a filter preset, S1.17 (R114 keeps the taps in OTP and gives no values). -/
opaque presetTap : Nat → Nat → BitVec 18

/-- Where the codeword that carries a TRIGGER ends on a lane: picoseconds after t_issue + 40 ns, by lane and TIO cycle (R143 gives the
placement rule, not the phase of a lane's codewords; R147 bounds it by two codeword times, and the model takes it modulo that). -/
opaque triggerSlot : Nat → Nat → Nat

/-- How the compressor of a level parses a block's input after a history (newest byte first): none for a stored block, otherwise its
tokens, (0, b) a literal byte and (n, m) a match of n bytes at distance m (R279 fixes that the parse is always the same, not what it is). -/
opaque thatchParse : Nat → List (BitVec 8) → List (BitVec 8) → Option (List (Nat × Nat))

/-- The code lengths of the dynamic tables an engine makes for tokens: literal/length alphabet, distance alphabet (R279, R291 fix what tables
are valid and which are chosen, not how they are made). -/
opaque thatchTables : Nat → List (Nat × Nat) → List Nat × List Nat

/-- The class a walk ends with that leaves the rules of R250, from the node it reached: possible only in a bank in force whose tables were
written outside an acquiring mode and never validated. -/
opaque strayClass : Nat → BitVec 8

/-- MD_POS, in nanometres, of a line that no kept descriptor holds: one never acquired, or older than the last 16,384 (R261, R267 ask for the
MD_POS of a line and give none for such a line). -/
opaque unknownPos : Nat → BitVec 64

/-- FIRST_LINE, LAST_LINE, MD_START, MD_END and TIME_START (0 to 4) of the record of a roll that held no line (R271 says what they are of its
lines, R274 lets such a roll end). -/
opaque emptyRoll : Nat → BitVec 64

/-- How many KiB a migration has copied at a cycle, up to its whole (R413 shows the count and gives its pace by budget alone). -/
opaque migratedKib : Nat → Nat

/-- Which MiB of the stacks the Keel saves its state in (R329, R508 name the area and give no place). -/
opaque keelArea : Nat

/-- Byte i of the 256-byte context of a saved engine state, of the CRC, the total, the level, WINDOW_LOG, the output mode and the code lengths of
the previous block's tables (R284 names its content and gives no layout). -/
opaque thatchContext : List Nat → Nat → BitVec 8

/-- The CRC register (0) and the total (1) that an engine takes from 256 bytes which no save wrote (R284 says what a restore reads back, not what
overwritten bytes give). -/
opaque thatchContextRead : List (BitVec 8) → Nat → Nat

/-- Engine cycles of a decompression that another command needs, of its output length (R277 charges a cycle in which an engine works; R278 gives rates
of compression only). -/
opaque thatchDecodeCycles : Nat → Nat

/-- Subsystem vendor (0) and subsystem ID (1) of the function (R297: from option loading; no register holds them). -/
opaque subsystem : Nat → BitVec 16

/-- Core-pair cycles the Keel spends on a command of an opcode (R71 names KEEL_RT its client; no rule gives the time). -/
opaque keelCycles : Nat → Nat

/-- The level at the ball of EVIOn in TIO cycle k, high true, as a commit turns an output into an input (R384: the level then sensed; it comes
from the board). -/
opaque pinSensed : Nat → Nat → Bool

/-- Whether PCIe lane k is in the link that came up at a TIO cycle and at which rate, modulo 6: 0 not in the link, 1 to 5 for 2.5 to 32 GT/s
(R417, R423; both come from the link partner). -/
opaque pcieRate : Nat → Nat → Nat

/-- Which line, row and columns (choice 0, 1, 2) the word at an SRAM array address holds in a TIO cycle (R501 gives the effect on what a word
holds, and nothing says where the arrays keep it). -/
opaque sramPlace : Nat → Nat → Nat → Nat

/-- OTP holds, for a key slot that is not revoked, the SHA-384 digest of a public key (R507 check 3; set at the factory). -/
opaque otpKey : Nat → List (BitVec 8) → Bool

/-- A signature verifies under a public key over a message: ECDSA P-384 with SHA-384 (R507 check 4; the model does not compute it). -/
opaque ecdsaOk : List (BitVec 8) → List (BitVec 8) → List (BitVec 8) → Bool

/-- The least SEC_VER that OTP allows (R507 check 5). -/
opaque otpMinVersion : Nat

/-- TRN_PAT and TRN_CMP of a stack as start-up training leaves them at a TIO cycle (R404; the Keel firmware writes them as it sees fit). -/
opaque trainHelper : Nat → Nat → Bool → BitVec 64

/-- The serial number that HELLO carries (R439 names it; no register shows it and no value is given). -/
opaque serial : BitVec 64

end Sys2Proof.Config
end

