-- ==== Sys2Proof/Machine/RegMap.lean ====
section
/-! DEFINITION. How a register is described (R5 to R12): its fields, access codes, reset values and Takes effect terms, and the
operations on one field of a register value. The tables themselves are RegMapA, RegMapB and RegMapC. -/

namespace Sys2Proof.Machine

/-- A field of a register: its least significant bit and its width. -/
structure Fld where
  lo : Nat
  w  : Nat
  deriving DecidableEq, Repr

/-- The access codes of R9. -/
inductive Acc
  | rw | ro | rc | w1c | w1s | wo | wot | lk
  deriving DecidableEq, Repr

/-- Which commit brings an "at commit" field into force (each chapter names its own). -/
inductive CommitKind
  /-- WPU.COMMIT.GO (R85). -/
  | wpu
  /-- DSP.COMMIT.GO (R123). -/
  | dsp
  /-- The EVT_COMMIT envelope (R385). -/
  | evt
  /-- Loading of a ballast profile (R74). -/
  | bal
  /-- A write of TIME.PTP_CFG that sets EN from 0 to 1. -/
  | ptp
  /-- HBMs.PR_CTRL.GO. -/
  | prGo
  /-- Entry from STANDBY to an acquiring mode. -/
  | entryStandby
  /-- Entry to any acquiring mode. -/
  | entry
  /-- Entry to RECORD. -/
  | record
  deriving DecidableEq, Repr

/-- The Takes effect terms of R12. -/
inductive Eff
  | atOnce | course | bringUp | reset
  | commit (k : CommitKind)
  deriving DecidableEq, Repr

/-- One row of a field map. `rst` is the Reset entry, or the factory default where `nv` says the entry is NV (R7). -/
structure FieldRow where
  fld : Fld
  acc : Acc
  nv  : Bool
  rst : Nat
  eff : Eff
  deriving DecidableEq, Repr

/-- One index of a register family: first index, count and stride in bytes. -/
structure Dim where
  first  : Nat
  count  : Nat
  stride : Nat
  deriving DecidableEq, Repr

/-- One register family of a block: offset of index 0, its indices, 64 bits wide or 32, CRC-covered, mirrored, its fields. -/
structure Reg where
  off    : Nat
  dims   : List Dim
  wide   : Bool
  crc    : Bool
  mir    : Bool
  fields : List FieldRow
  deriving DecidableEq, Repr

/-- Bytes a register occupies. -/
def Reg.bytes (r : Reg) : Nat := if r.wide then 8 else 4

/-- The value of a field in a register value. -/
def fget (v : W64) (f : Fld) : Nat := (v.toNat >>> f.lo) % 2 ^ f.w

/-- The value of a signed (two's complement, R18) field. -/
def fgetS (v : W64) (f : Fld) : Int :=
  let n := fget v f
  if n < 2 ^ (f.w - 1) then (n : Int) else (n : Int) - 2 ^ f.w

/-- A one-bit field as a truth value. -/
def fbit (v : W64) (f : Fld) : Bool := fget v f != 0

/-- The bits a field occupies. -/
def Fld.mask (f : Fld) : W64 := BitVec.ofNat 64 ((2 ^ f.w - 1) <<< f.lo)

/-- A register value with a field replaced; the new value is taken modulo the field's width. -/
def fset (v : W64) (f : Fld) (n : Nat) : W64 :=
  (v &&& ~~~ f.mask) ||| BitVec.ofNat 64 ((n % 2 ^ f.w) <<< f.lo)

/-- fset of a signed value, in two's complement. -/
def fsetS (v : W64) (f : Fld) (n : Int) : W64 := fset v f (n % 2 ^ f.w).toNat

/-- The offset lies at the start of a register of the family: the indices it selects. -/
def Reg.indexAt (r : Reg) (off : Nat) : Option (List Nat) :=
  let rec go : List Dim → Nat → Option (List Nat)
    | [], d => if d = 0 then some [] else none
    | x :: xs, d =>
      let i := d / x.stride
      if x.first ≤ i ∧ i < x.count then (go xs (d % x.stride)).map (i :: ·) else none
  if off < r.off then none else go r.dims (off - r.off)

/-- The static value of a register after reset, from its field map: reset values, and factory defaults where the entry is NV. -/
def Reg.value (r : Reg) : W64 := r.fields.foldl (fun v x => fset v x.fld x.rst) 0

end Sys2Proof.Machine
end

