-- ==== Sys2Proof/Machine/Flags.lean ====
section
/-! DEFINITION. The flag computations: saturating counters, and what a write or a read does to one field by its access code
(R9, R10, R484, R485). -/

namespace Sys2Proof.Machine

/-- A counter field raised by n, saturating at its largest value. -/
def fincSat (v : W64) (f : Fld) (n : Nat) : W64 := fset v f (min (fget v f + n) (2 ^ f.w - 1))

/-- a where the mask has ones, b elsewhere. -/
def blend (m a b : W64) : W64 := (a &&& m) ||| (b &&& ~~~ m)

/-- What a write makes of one field: the new register value, and whether something was discarded (logged as LOCK_VIOLATION).
`old` is the register, `new` the data laid out as the register, `wm` the bits of the bytes written, `locked` says that the
block's lock covers the field, `first` that a WOT field has not been written since reset (R9, R484, R485, R488). A write of
zeros to a field that cannot be written is not logged: a driver writes zero to the fields it does not mean (log entry 9). -/
def writeField (x : FieldRow) (wm : W64) (locked first : Bool) (old new : W64) : W64 × Bool :=
  if wm &&& x.fld.mask = 0 then (old, false)
  else
    let n := fget (new &&& wm) x.fld
    let o := fget old x.fld
    match x.acc with
    | .rw | .lk => if locked then (old, true) else (fset old x.fld (fget (blend wm new old) x.fld), false)
    | .ro | .rc => (old, n != 0)
    | .w1c => (fset old x.fld (o &&& (2 ^ x.fld.w - 1 - n)), false)
    | .w1s => (fset old x.fld (o ||| n), false)
    | .wo => (fset old x.fld n, false)
    | .wot => if first then (fset old x.fld (fget (blend wm new old) x.fld), false) else (old, true)

/-- What a read returns of one field: WO fields read zero (R9). -/
def readField (x : FieldRow) (v : W64) : W64 := if x.acc = .wo then fset 0 x.fld 0 else v &&& x.fld.mask

/-- The register as a read returns it: every listed field by its access code, reserved bits zero (R8, R9). -/
def readReg (r : Reg) (v : W64) : W64 := r.fields.foldl (fun w x => w ||| readField x v) 0

/-- The register after its RC fields were read (R9, R43). -/
def clearRC (r : Reg) (v : W64) : W64 := r.fields.foldl (fun w x => if x.acc = .rc then fset w x.fld 0 else w) v

/-- The register holds RC fields (R43). -/
def Reg.hasRC (r : Reg) : Bool := r.fields.any (fun x => x.acc = .rc)

/-- No field of the register within the bits wm can be written (R9, R504). -/
def Reg.readOnlyIn (r : Reg) (wm : W64) : Bool :=
  r.fields.all (fun x => x.acc = .ro || x.acc = .rc || wm &&& x.fld.mask = 0)

/-- The bits of a register's fields of access code c (R9). -/
def Reg.accMask (r : Reg) (c : Acc) : W64 := r.fields.foldl (fun m x => if x.acc = c then m ||| x.fld.mask else m) 0

/-- The bits of a register whose Takes effect term is e. -/
def Reg.effMask (r : Reg) (e : Eff) : W64 := r.fields.foldl (fun m x => if x.eff = e then m ||| x.fld.mask else m) 0

/-- The bits of a register that take effect at a commit. -/
def Reg.commitMask (r : Reg) : W64 := r.fields.foldl (fun m x => match x.eff with | .commit _ => m ||| x.fld.mask | _ => m) 0

/-- The bits of a register whose reset entry is NV. -/
def Reg.nvMask (r : Reg) : W64 := r.fields.foldl (fun m x => if x.nv then m ||| x.fld.mask else m) 0

end Sys2Proof.Machine
end

