-- ==== Sys2Proof/Machine/RegMapA.lean ====
section
/-! DEFINITION. Register map, part A: the registers of blocks DEV, RST, AON, CFG, ERR, MBX, EVT, WPU, DSP, one entry per register family, written from the
field maps of the chapters (offset, width, CRC-covered, mirrored; per field its bits, access code, reset or factory value and
Takes effect term). Reserved fields have no entry: their bits read 0 and what is written to them is ignored (R8).
f_<BLOCK>_<REGISTER>_<FIELD> is a field; a_<BLOCK>_<REGISTER> its BAR0 address (R6, R44); r_… the register. -/

namespace Sys2Proof.Machine

abbrev f_DEV_ID_PART : Fld := ⟨16, 16⟩
abbrev f_DEV_ID_STEPPING : Fld := ⟨8, 8⟩
/-- DEV.ID (R5, 00_scope). -/
def a_DEV_ID : Nat := 0
def r_DEV_ID : Reg := ⟨0, [], false, false, false, [⟨f_DEV_ID_PART, .ro, false, 0x1624, .atOnce⟩, ⟨f_DEV_ID_STEPPING, .ro, false, 0xb0, .atOnce⟩]⟩
abbrev f_DEV_ISL_CLKGOOD_CLKGOOD : Fld := ⟨0, 40⟩
/-- DEV.ISL_CLKGOOD (R46, 01_planes_and_islands). -/
def a_DEV_ISL_CLKGOOD : Nat := 0x10
def r_DEV_ISL_CLKGOOD : Reg := ⟨0x10, [], true, false, false, [⟨f_DEV_ISL_CLKGOOD_CLKGOOD, .ro, false, 1, .atOnce⟩]⟩
abbrev f_DEV_ISL_RESET_IN_RESET : Fld := ⟨0, 40⟩
/-- DEV.ISL_RESET (R46, 01_planes_and_islands). -/
def a_DEV_ISL_RESET : Nat := 0x18
def r_DEV_ISL_RESET : Reg := ⟨0x18, [], true, false, false, [⟨f_DEV_ISL_RESET_IN_RESET, .ro, false, 0xfffffffffe, .atOnce⟩]⟩
abbrev f_DEV_JCT_STALL_STALLED : Fld := ⟨0, 40⟩
/-- DEV.JCT_STALL (R46, 01_planes_and_islands). -/
def a_DEV_JCT_STALL : Nat := 0x20
def r_DEV_JCT_STALL : Reg := ⟨0x20, [], true, false, false, [⟨f_DEV_JCT_STALL_STALLED, .w1c, false, 0, .atOnce⟩]⟩
abbrev f_DEV_MODE_SAFE_CAUSE : Fld := ⟨20, 4⟩
abbrev f_DEV_MODE_RIPCORD : Fld := ⟨19, 1⟩
abbrev f_DEV_MODE_SERVICE : Fld := ⟨18, 1⟩
abbrev f_DEV_MODE_PEND_VALID : Fld := ⟨17, 1⟩
abbrev f_DEV_MODE_PEND_MODE : Fld := ⟨14, 3⟩
abbrev f_DEV_MODE_CUR_MODE : Fld := ⟨11, 3⟩
abbrev f_DEV_MODE_STARTING : Fld := ⟨10, 1⟩
/-- DEV.MODE (R65, 02_modes_and_ballast). -/
def a_DEV_MODE : Nat := 0x30
def r_DEV_MODE : Reg := ⟨0x30, [], false, false, true, [⟨f_DEV_MODE_SAFE_CAUSE, .ro, false, 0, .atOnce⟩, ⟨f_DEV_MODE_RIPCORD, .ro, false, 0, .atOnce⟩, ⟨f_DEV_MODE_SERVICE, .ro, false, 0, .atOnce⟩, ⟨f_DEV_MODE_PEND_VALID, .ro, false, 0, .atOnce⟩, ⟨f_DEV_MODE_PEND_MODE, .ro, false, 0, .atOnce⟩, ⟨f_DEV_MODE_CUR_MODE, .ro, false, 0, .atOnce⟩, ⟨f_DEV_MODE_STARTING, .ro, false, 1, .atOnce⟩]⟩
abbrev f_DEV_SAFE_REQ_REQ : Fld := ⟨0, 1⟩
/-- DEV.SAFE_REQ (R65, 02_modes_and_ballast). -/
def a_DEV_SAFE_REQ : Nat := 0x34
def r_DEV_SAFE_REQ : Reg := ⟨0x34, [], false, false, false, [⟨f_DEV_SAFE_REQ_REQ, .w1s, false, 0, .atOnce⟩]⟩
abbrev f_DEV_PIN_SAFE_STB_SAFE : Fld := ⟨16, 8⟩
abbrev f_DEV_PIN_SAFE_MKO_SAFE : Fld := ⟨0, 16⟩
/-- DEV.PIN_SAFE (R481, 18_reset_startup). -/
def a_DEV_PIN_SAFE : Nat := 0x40
def r_DEV_PIN_SAFE : Reg := ⟨0x40, [], false, true, false, [⟨f_DEV_PIN_SAFE_STB_SAFE, .ro, true, 0, .reset⟩, ⟨f_DEV_PIN_SAFE_MKO_SAFE, .ro, true, 0, .reset⟩]⟩
abbrev f_DEV_RST_CAUSE_BOOTS : Fld := ⟨32, 32⟩
abbrev f_DEV_RST_CAUSE_SOURCES : Fld := ⟨16, 16⟩
abbrev f_DEV_RST_CAUSE_LAST_SRC : Fld := ⟨4, 4⟩
abbrev f_DEV_RST_CAUSE_LAST_LEVEL : Fld := ⟨0, 3⟩
/-- DEV.RST_CAUSE (R481, 18_reset_startup). -/
def a_DEV_RST_CAUSE : Nat := 0x50
def r_DEV_RST_CAUSE : Reg := ⟨0x50, [], true, false, false, [⟨f_DEV_RST_CAUSE_BOOTS, .ro, false, 0, .atOnce⟩, ⟨f_DEV_RST_CAUSE_SOURCES, .w1c, false, 1, .atOnce⟩, ⟨f_DEV_RST_CAUSE_LAST_SRC, .ro, false, 0, .atOnce⟩, ⟨f_DEV_RST_CAUSE_LAST_LEVEL, .ro, false, 4, .atOnce⟩]⟩
abbrev f_DEV_LOCK_SET : Fld := ⟨0, 1⟩
/-- DEV.LOCK (R483, 19_registers_integrity). -/
def a_DEV_LOCK : Nat := 0xff8
def r_DEV_LOCK : Reg := ⟨0xff8, [], false, false, true, [⟨f_DEV_LOCK_SET, .w1s, false, 0, .atOnce⟩]⟩

/-- The registers of a DEV block, in rising offset. -/
def regs_DEV : List Reg :=
  [r_DEV_ID, r_DEV_ISL_CLKGOOD, r_DEV_ISL_RESET, r_DEV_JCT_STALL, r_DEV_MODE, r_DEV_SAFE_REQ, r_DEV_PIN_SAFE, r_DEV_RST_CAUSE, r_DEV_LOCK]

abbrev f_RST_CFG_IDLE_US : Fld := ⟨0, 16⟩
/-- RST.CFG (R481, 18_reset_startup). -/
def a_RST_CFG : Nat := 0x10000
def r_RST_CFG : Reg := ⟨0, [], false, true, false, [⟨f_RST_CFG_IDLE_US, .rw, true, 0x64, .atOnce⟩]⟩
abbrev f_RST_BLOCK_RST_ISLAND : Fld := ⟨31, 1⟩
abbrev f_RST_BLOCK_RST_BASE_4K : Fld := ⟨0, 20⟩
/-- RST.BLOCK_RST (R481, 18_reset_startup). -/
def a_RST_BLOCK_RST : Nat := 0x10008
def r_RST_BLOCK_RST : Reg := ⟨8, [], false, false, false, [⟨f_RST_BLOCK_RST_ISLAND, .wo, false, 0, .atOnce⟩, ⟨f_RST_BLOCK_RST_BASE_4K, .wo, false, 0, .atOnce⟩]⟩
abbrev f_RST_DEV_RST_KEY : Fld := ⟨0, 16⟩
/-- RST.DEV_RST (R481, 18_reset_startup). -/
def a_RST_DEV_RST : Nat := 0x1000c
def r_RST_DEV_RST : Reg := ⟨0xc, [], false, false, false, [⟨f_RST_DEV_RST_KEY, .wo, false, 0, .atOnce⟩]⟩
abbrev f_RST_CLK_PEND_PEND : Fld := ⟨0, 40⟩
/-- RST.CLK_PEND (R481, 18_reset_startup). -/
def a_RST_CLK_PEND : Nat := 0x10010
def r_RST_CLK_PEND : Reg := ⟨0x10, [], true, false, false, [⟨f_RST_CLK_PEND_PEND, .ro, false, 0, .atOnce⟩]⟩
abbrev f_RST_CLK_TIMEOUT_TIMEOUT : Fld := ⟨0, 40⟩
/-- RST.CLK_TIMEOUT (R481, 18_reset_startup). -/
def a_RST_CLK_TIMEOUT : Nat := 0x10018
def r_RST_CLK_TIMEOUT : Reg := ⟨0x18, [], true, false, false, [⟨f_RST_CLK_TIMEOUT_TIMEOUT, .w1c, false, 0, .atOnce⟩]⟩
abbrev f_RST_IDLE_STAT_DISCARD_CNT : Fld := ⟨32, 32⟩
abbrev f_RST_IDLE_STAT_IDLE_TIMEOUT_CNT : Fld := ⟨16, 16⟩
/-- RST.IDLE_STAT (R481, 18_reset_startup). -/
def a_RST_IDLE_STAT : Nat := 0x10020
def r_RST_IDLE_STAT : Reg := ⟨0x20, [], true, false, false, [⟨f_RST_IDLE_STAT_DISCARD_CNT, .rc, false, 0, .atOnce⟩, ⟨f_RST_IDLE_STAT_IDLE_TIMEOUT_CNT, .rc, false, 0, .atOnce⟩]⟩
abbrev f_RST_FUSE_PROGRAMMED : Fld := ⟨8, 1⟩
abbrev f_RST_FUSE_MIN : Fld := ⟨4, 3⟩
abbrev f_RST_FUSE_LEVEL : Fld := ⟨0, 3⟩
/-- RST.FUSE[s] (R481, 18_reset_startup). -/
def a_RST_FUSE (s : Nat) : Nat := 0x10100 + s * 4
def r_RST_FUSE : Reg := ⟨0x100, [⟨0, 16, 4⟩], false, false, false, [⟨f_RST_FUSE_PROGRAMMED, .ro, true, 0, .reset⟩, ⟨f_RST_FUSE_MIN, .ro, true, 0, .reset⟩, ⟨f_RST_FUSE_LEVEL, .ro, true, 0, .reset⟩]⟩
abbrev f_RST_LOCK_SET : Fld := ⟨0, 1⟩
/-- RST.LOCK (R483, 19_registers_integrity). -/
def a_RST_LOCK : Nat := 0x10ff8
def r_RST_LOCK : Reg := ⟨0xff8, [], false, false, true, [⟨f_RST_LOCK_SET, .w1s, false, 0, .atOnce⟩]⟩

/-- The registers of a RST block, in rising offset. -/
def regs_RST : List Reg :=
  [r_RST_CFG, r_RST_BLOCK_RST, r_RST_DEV_RST, r_RST_CLK_PEND, r_RST_CLK_TIMEOUT, r_RST_IDLE_STAT, r_RST_FUSE, r_RST_LOCK]

abbrev f_AON_BKP_V : Fld := ⟨0, 32⟩
/-- AON.BKP[i] (R481, 18_reset_startup). -/
def a_AON_BKP (i : Nat) : Nat := 0x20000 + i * 4
def r_AON_BKP : Reg := ⟨0, [⟨0, 32, 4⟩], false, false, false, [⟨f_AON_BKP_V, .rw, false, 0, .atOnce⟩]⟩
abbrev f_AON_LOCK_SET : Fld := ⟨0, 1⟩
/-- AON.LOCK (R483, 19_registers_integrity). -/
def a_AON_LOCK : Nat := 0x20ff8
def r_AON_LOCK : Reg := ⟨0xff8, [], false, false, true, [⟨f_AON_LOCK_SET, .w1s, false, 0, .atOnce⟩]⟩

/-- The registers of a AON block, in rising offset. -/
def regs_AON : List Reg :=
  [r_AON_BKP, r_AON_LOCK]

abbrev f_CFG_OPT_STAT_NV_GEN : Fld := ⟨32, 32⟩
abbrev f_CFG_OPT_STAT_SKIPPED : Fld := ⟨16, 16⟩
abbrev f_CFG_OPT_STAT_RESTARTS : Fld := ⟨12, 4⟩
abbrev f_CFG_OPT_STAT_PINS_RELEASED : Fld := ⟨7, 1⟩
abbrev f_CFG_OPT_STAT_USER_NV_BAD : Fld := ⟨6, 1⟩
abbrev f_CFG_OPT_STAT_FW_FALLBACK : Fld := ⟨5, 1⟩
abbrev f_CFG_OPT_STAT_CAL_FALLBACK : Fld := ⟨4, 1⟩
abbrev f_CFG_OPT_STAT_NV_COPY : Fld := ⟨3, 1⟩
abbrev f_CFG_OPT_STAT_FACTORY_FORCED : Fld := ⟨2, 1⟩
abbrev f_CFG_OPT_STAT_USER_NV : Fld := ⟨1, 1⟩
abbrev f_CFG_OPT_STAT_DONE : Fld := ⟨0, 1⟩
/-- CFG.OPT_STAT (R481, 18_reset_startup). -/
def a_CFG_OPT_STAT : Nat := 0x30100
def r_CFG_OPT_STAT : Reg := ⟨0x100, [], true, false, false, [⟨f_CFG_OPT_STAT_NV_GEN, .ro, false, 0, .atOnce⟩, ⟨f_CFG_OPT_STAT_SKIPPED, .ro, false, 0, .atOnce⟩, ⟨f_CFG_OPT_STAT_RESTARTS, .ro, false, 0, .atOnce⟩, ⟨f_CFG_OPT_STAT_PINS_RELEASED, .ro, false, 0, .atOnce⟩, ⟨f_CFG_OPT_STAT_USER_NV_BAD, .ro, false, 0, .atOnce⟩, ⟨f_CFG_OPT_STAT_FW_FALLBACK, .ro, false, 0, .atOnce⟩, ⟨f_CFG_OPT_STAT_CAL_FALLBACK, .ro, false, 0, .atOnce⟩, ⟨f_CFG_OPT_STAT_NV_COPY, .ro, false, 0, .atOnce⟩, ⟨f_CFG_OPT_STAT_FACTORY_FORCED, .ro, false, 0, .atOnce⟩, ⟨f_CFG_OPT_STAT_USER_NV, .ro, false, 0, .atOnce⟩, ⟨f_CFG_OPT_STAT_DONE, .ro, false, 0, .atOnce⟩]⟩
abbrev f_CFG_CRC_CTRL_WIN_MAX_S : Fld := ⟨0, 16⟩
/-- CFG.CRC_CTRL (R493, 19_registers_integrity). -/
def a_CFG_CRC_CTRL : Nat := 0x30200
def r_CFG_CRC_CTRL : Reg := ⟨0x200, [], false, true, false, [⟨f_CFG_CRC_CTRL_WIN_MAX_S, .rw, true, 0x258, .atOnce⟩]⟩
abbrev f_CFG_CRC_STAT_LAST : Fld := ⟨32, 32⟩
abbrev f_CFG_CRC_STAT_SKIP_CNT : Fld := ⟨16, 16⟩
abbrev f_CFG_CRC_STAT_WINDOW : Fld := ⟨1, 1⟩
abbrev f_CFG_CRC_STAT_MISMATCH : Fld := ⟨0, 1⟩
/-- CFG.CRC_STAT (R493, 19_registers_integrity). -/
def a_CFG_CRC_STAT : Nat := 0x30208
def r_CFG_CRC_STAT : Reg := ⟨0x208, [], true, false, false, [⟨f_CFG_CRC_STAT_LAST, .ro, false, 0, .atOnce⟩, ⟨f_CFG_CRC_STAT_SKIP_CNT, .rc, false, 0, .atOnce⟩, ⟨f_CFG_CRC_STAT_WINDOW, .ro, false, 0, .atOnce⟩, ⟨f_CFG_CRC_STAT_MISMATCH, .ro, false, 0, .atOnce⟩]⟩
abbrev f_CFG_CRC_REF_V : Fld := ⟨0, 32⟩
/-- CFG.CRC_REF (R493, 19_registers_integrity). -/
def a_CFG_CRC_REF : Nat := 0x30210
def r_CFG_CRC_REF : Reg := ⟨0x210, [], false, false, false, [⟨f_CFG_CRC_REF_V, .ro, false, 0, .atOnce⟩]⟩
abbrev f_CFG_LOCK_SET : Fld := ⟨0, 1⟩
/-- CFG.LOCK (R483, 19_registers_integrity). -/
def a_CFG_LOCK : Nat := 0x30ff8
def r_CFG_LOCK : Reg := ⟨0xff8, [], false, false, true, [⟨f_CFG_LOCK_SET, .w1s, false, 0, .atOnce⟩]⟩

/-- The registers of a CFG block, in rising offset. -/
def regs_CFG : List Reg :=
  [r_CFG_OPT_STAT, r_CFG_CRC_CTRL, r_CFG_CRC_STAT, r_CFG_CRC_REF, r_CFG_LOCK]

abbrev f_ERR_CFG_RING_EN : Fld := ⟨31, 1⟩
abbrev f_ERR_CFG_RING : Fld := ⟨16, 12⟩
abbrev f_ERR_CFG_VECTOR : Fld := ⟨0, 11⟩
/-- ERR.CFG (R499, 19_registers_integrity). -/
def a_ERR_CFG : Nat := 0x40000
def r_ERR_CFG : Reg := ⟨0, [], false, true, false, [⟨f_ERR_CFG_RING_EN, .rw, true, 0, .atOnce⟩, ⟨f_ERR_CFG_RING, .rw, true, 0, .atOnce⟩, ⟨f_ERR_CFG_VECTOR, .rw, true, 0, .atOnce⟩]⟩
abbrev f_ERR_CUR_V : Fld := ⟨0, 64⟩
/-- ERR.CUR[i] (R499, 19_registers_integrity). -/
def a_ERR_CUR (i : Nat) : Nat := 0x40010 + i * 8
def r_ERR_CUR : Reg := ⟨0x10, [⟨0, 4, 8⟩], true, false, false, [⟨f_ERR_CUR_V, .ro, false, 0, .atOnce⟩]⟩
abbrev f_ERR_STAT_OVF_CNT : Fld := ⟨48, 16⟩
abbrev f_ERR_STAT_QUEUED : Fld := ⟨16, 7⟩
abbrev f_ERR_STAT_FATAL_PEND : Fld := ⟨2, 1⟩
abbrev f_ERR_STAT_ACK : Fld := ⟨1, 1⟩
abbrev f_ERR_STAT_CUR_VALID : Fld := ⟨0, 1⟩
/-- ERR.STAT (R499, 19_registers_integrity). -/
def a_ERR_STAT : Nat := 0x40030
def r_ERR_STAT : Reg := ⟨0x30, [], true, false, false, [⟨f_ERR_STAT_OVF_CNT, .rc, false, 0, .atOnce⟩, ⟨f_ERR_STAT_QUEUED, .ro, false, 0, .atOnce⟩, ⟨f_ERR_STAT_FATAL_PEND, .w1c, false, 0, .atOnce⟩, ⟨f_ERR_STAT_ACK, .w1s, false, 0, .atOnce⟩, ⟨f_ERR_STAT_CUR_VALID, .ro, false, 0, .atOnce⟩]⟩
abbrev f_ERR_LAST_FATAL_V : Fld := ⟨0, 64⟩
/-- ERR.LAST_FATAL[i] (R499, 19_registers_integrity). -/
def a_ERR_LAST_FATAL (i : Nat) : Nat := 0x40040 + i * 8
def r_ERR_LAST_FATAL : Reg := ⟨0x40, [⟨0, 4, 8⟩], true, false, false, [⟨f_ERR_LAST_FATAL_V, .ro, false, 0, .atOnce⟩]⟩
abbrev f_ERR_PATROL_COURSES : Fld := ⟨32, 32⟩
abbrev f_ERR_PATROL_MISMATCH_CNT : Fld := ⟨16, 16⟩
abbrev f_ERR_PATROL_TARGET : Fld := ⟨0, 5⟩
/-- ERR.PATROL (R503, 19_registers_integrity). -/
def a_ERR_PATROL : Nat := 0x40060
def r_ERR_PATROL : Reg := ⟨0x60, [], true, false, false, [⟨f_ERR_PATROL_COURSES, .rc, false, 0, .atOnce⟩, ⟨f_ERR_PATROL_MISMATCH_CNT, .rc, false, 0, .atOnce⟩, ⟨f_ERR_PATROL_TARGET, .ro, false, 0, .atOnce⟩]⟩
abbrev f_ERR_MRG_STAT_LATE_CNT : Fld := ⟨32, 32⟩
abbrev f_ERR_MRG_STAT_PEAK : Fld := ⟨16, 13⟩
abbrev f_ERR_MRG_STAT_OCC : Fld := ⟨0, 13⟩
/-- ERR.MRG_STAT (R42, 01_planes_and_islands). -/
def a_ERR_MRG_STAT : Nat := 0x40f00
def r_ERR_MRG_STAT : Reg := ⟨0xf00, [], true, false, false, [⟨f_ERR_MRG_STAT_LATE_CNT, .rc, false, 0, .atOnce⟩, ⟨f_ERR_MRG_STAT_PEAK, .rc, false, 0, .atOnce⟩, ⟨f_ERR_MRG_STAT_OCC, .ro, false, 0, .atOnce⟩]⟩
abbrev f_ERR_LOCK_SET : Fld := ⟨0, 1⟩
/-- ERR.LOCK (R483, 19_registers_integrity). -/
def a_ERR_LOCK : Nat := 0x40ff8
def r_ERR_LOCK : Reg := ⟨0xff8, [], false, false, true, [⟨f_ERR_LOCK_SET, .w1s, false, 0, .atOnce⟩]⟩
abbrev f_ERR_MAP_RESET : Fld := ⟨2, 1⟩
abbrev f_ERR_MAP_SAFE : Fld := ⟨1, 1⟩
abbrev f_ERR_MAP_IRQ : Fld := ⟨0, 1⟩
/-- ERR.MAP[c] (R499, 19_registers_integrity). -/
def a_ERR_MAP (c : Nat) : Nat := 0x41000 + c * 4
def r_ERR_MAP : Reg := ⟨0x1000, [⟨1, 80, 4⟩], false, true, true, [⟨f_ERR_MAP_RESET, .rw, true, 0, .atOnce⟩, ⟨f_ERR_MAP_SAFE, .rw, true, 0, .atOnce⟩, ⟨f_ERR_MAP_IRQ, .rw, true, 0, .atOnce⟩]⟩

/-- The registers of a ERR block, in rising offset. -/
def regs_ERR : List Reg :=
  [r_ERR_CFG, r_ERR_CUR, r_ERR_STAT, r_ERR_LAST_FATAL, r_ERR_PATROL, r_ERR_MRG_STAT, r_ERR_LOCK, r_ERR_MAP]

abbrev f_MBX_CFG_EN : Fld := ⟨31, 1⟩
abbrev f_MBX_CFG_RESP_RING : Fld := ⟨16, 12⟩
/-- MBX.CFG[m] (R357, 12_keel_commands). -/
def a_MBX_CFG (m : Nat) : Nat := 0x50000 + m * 8
def r_MBX_CFG : Reg := ⟨0, [⟨0, 16, 8⟩], false, true, false, [⟨f_MBX_CFG_EN, .rw, true, 0, .atOnce⟩, ⟨f_MBX_CFG_RESP_RING, .rw, true, 0, .atOnce⟩]⟩
abbrev f_MBX_STAT_RESP_DROP : Fld := ⟨48, 16⟩
abbrev f_MBX_STAT_BAD_DESC : Fld := ⟨32, 16⟩
abbrev f_MBX_STAT_TIMEOUT_CNT : Fld := ⟨16, 16⟩
abbrev f_MBX_STAT_SERVICE : Fld := ⟨1, 1⟩
abbrev f_MBX_STAT_PAUSED : Fld := ⟨0, 1⟩
/-- MBX.STAT (R357, 12_keel_commands). -/
def a_MBX_STAT : Nat := 0x50100
def r_MBX_STAT : Reg := ⟨0x100, [], true, false, false, [⟨f_MBX_STAT_RESP_DROP, .rc, false, 0, .atOnce⟩, ⟨f_MBX_STAT_BAD_DESC, .rc, false, 0, .atOnce⟩, ⟨f_MBX_STAT_TIMEOUT_CNT, .rc, false, 0, .atOnce⟩, ⟨f_MBX_STAT_SERVICE, .ro, false, 0, .atOnce⟩, ⟨f_MBX_STAT_PAUSED, .ro, false, 0, .atOnce⟩]⟩
abbrev f_MBX_MB_STAT_TAKEN : Fld := ⟨32, 32⟩
abbrev f_MBX_MB_STAT_PENDING : Fld := ⟨16, 16⟩
abbrev f_MBX_MB_STAT_WAITING : Fld := ⟨0, 16⟩
/-- MBX.MB_STAT[m] (R357, 12_keel_commands). -/
def a_MBX_MB_STAT (m : Nat) : Nat := 0x50200 + m * 8
def r_MBX_MB_STAT : Reg := ⟨0x200, [⟨0, 16, 8⟩], true, false, false, [⟨f_MBX_MB_STAT_TAKEN, .rc, false, 0, .atOnce⟩, ⟨f_MBX_MB_STAT_PENDING, .ro, false, 0, .atOnce⟩, ⟨f_MBX_MB_STAT_WAITING, .ro, false, 0, .atOnce⟩]⟩
abbrev f_MBX_LOCK_SET : Fld := ⟨0, 1⟩
/-- MBX.LOCK (R483, 19_registers_integrity). -/
def a_MBX_LOCK : Nat := 0x50ff8
def r_MBX_LOCK : Reg := ⟨0xff8, [], false, false, true, [⟨f_MBX_LOCK_SET, .w1s, false, 0, .atOnce⟩]⟩

/-- The registers of a MBX block, in rising offset. -/
def regs_MBX : List Reg :=
  [r_MBX_CFG, r_MBX_STAT, r_MBX_MB_STAT, r_MBX_LOCK]

abbrev f_EVT_SW_FIRE_CHANNEL : Fld := ⟨0, 8⟩
/-- EVT.SW_FIRE (R390, 14_events). -/
def a_EVT_SW_FIRE : Nat := 0x60010
def r_EVT_SW_FIRE : Reg := ⟨0x10, [], false, false, false, [⟨f_EVT_SW_FIRE_CHANNEL, .wo, false, 0, .atOnce⟩]⟩
abbrev f_EVT_COMMIT_STAT_GEN : Fld := ⟨16, 16⟩
abbrev f_EVT_COMMIT_STAT_LOOP_CNT : Fld := ⟨8, 8⟩
abbrev f_EVT_COMMIT_STAT_LAST_REFUSED : Fld := ⟨0, 1⟩
/-- EVT.COMMIT_STAT (R390, 14_events). -/
def a_EVT_COMMIT_STAT : Nat := 0x60018
def r_EVT_COMMIT_STAT : Reg := ⟨0x18, [], false, false, true, [⟨f_EVT_COMMIT_STAT_GEN, .ro, false, 0, .atOnce⟩, ⟨f_EVT_COMMIT_STAT_LOOP_CNT, .rc, false, 0, .atOnce⟩, ⟨f_EVT_COMMIT_STAT_LAST_REFUSED, .ro, false, 0, .atOnce⟩]⟩
abbrev f_EVT_LOG_CFG_EN : Fld := ⟨31, 1⟩
abbrev f_EVT_LOG_CFG_RING : Fld := ⟨16, 12⟩
/-- EVT.LOG_CFG (R390, 14_events). -/
def a_EVT_LOG_CFG : Nat := 0x60020
def r_EVT_LOG_CFG : Reg := ⟨0x20, [], false, true, true, [⟨f_EVT_LOG_CFG_EN, .rw, true, 0, .atOnce⟩, ⟨f_EVT_LOG_CFG_RING, .rw, true, 0, .atOnce⟩]⟩
abbrev f_EVT_IRQ_CFG_EN : Fld := ⟨31, 1⟩
abbrev f_EVT_IRQ_CFG_VECTOR : Fld := ⟨0, 11⟩
/-- EVT.IRQ_CFG (R390, 14_events). -/
def a_EVT_IRQ_CFG : Nat := 0x60028
def r_EVT_IRQ_CFG : Reg := ⟨0x28, [], false, true, false, [⟨f_EVT_IRQ_CFG_EN, .rw, true, 0, .atOnce⟩, ⟨f_EVT_IRQ_CFG_VECTOR, .rw, true, 0, .atOnce⟩]⟩
abbrev f_EVT_IRQ_PEND_PEND : Fld := ⟨0, 32⟩
/-- EVT.IRQ_PEND (R390, 14_events). -/
def a_EVT_IRQ_PEND : Nat := 0x60030
def r_EVT_IRQ_PEND : Reg := ⟨0x30, [], false, false, false, [⟨f_EVT_IRQ_PEND_PEND, .w1c, false, 0, .atOnce⟩]⟩
abbrev f_EVT_EVIO_CFG_WIDTH_NS : Fld := ⟨48, 16⟩
abbrev f_EVT_EVIO_CFG_SAFE : Fld := ⟨9, 1⟩
abbrev f_EVT_EVIO_CFG_INV : Fld := ⟨8, 1⟩
abbrev f_EVT_EVIO_CFG_FILT : Fld := ⟨4, 4⟩
abbrev f_EVT_EVIO_CFG_MODE : Fld := ⟨1, 2⟩
abbrev f_EVT_EVIO_CFG_DIR : Fld := ⟨0, 1⟩
/-- EVT.EVIO_CFG[n] (R390, 14_events). -/
def a_EVT_EVIO_CFG (n : Nat) : Nat := 0x60100 + n * 8
def r_EVT_EVIO_CFG : Reg := ⟨0x100, [⟨0, 32, 8⟩], true, true, true, [⟨f_EVT_EVIO_CFG_WIDTH_NS, .rw, true, 0, .commit .evt⟩, ⟨f_EVT_EVIO_CFG_SAFE, .ro, true, 0, .reset⟩, ⟨f_EVT_EVIO_CFG_INV, .rw, true, 0, .commit .evt⟩, ⟨f_EVT_EVIO_CFG_FILT, .rw, true, 3, .commit .evt⟩, ⟨f_EVT_EVIO_CFG_MODE, .rw, true, 0, .commit .evt⟩, ⟨f_EVT_EVIO_CFG_DIR, .rw, true, 0, .commit .evt⟩]⟩
abbrev f_EVT_MRG_STAT_LATE_CNT : Fld := ⟨32, 32⟩
abbrev f_EVT_MRG_STAT_PEAK : Fld := ⟨16, 13⟩
abbrev f_EVT_MRG_STAT_OCC : Fld := ⟨0, 13⟩
/-- EVT.MRG_STAT (R42, 01_planes_and_islands). -/
def a_EVT_MRG_STAT : Nat := 0x60f00
def r_EVT_MRG_STAT : Reg := ⟨0xf00, [], true, false, false, [⟨f_EVT_MRG_STAT_LATE_CNT, .rc, false, 0, .atOnce⟩, ⟨f_EVT_MRG_STAT_PEAK, .rc, false, 0, .atOnce⟩, ⟨f_EVT_MRG_STAT_OCC, .ro, false, 0, .atOnce⟩]⟩
abbrev f_EVT_LOCK_SET : Fld := ⟨0, 1⟩
/-- EVT.LOCK (R483, 19_registers_integrity). -/
def a_EVT_LOCK : Nat := 0x60ff8
def r_EVT_LOCK : Reg := ⟨0xff8, [], false, false, true, [⟨f_EVT_LOCK_SET, .w1s, false, 0, .atOnce⟩]⟩
abbrev f_EVT_CH_SRC_OWNER : Fld := ⟨63, 1⟩
abbrev f_EVT_CH_SRC_SW_OK : Fld := ⟨62, 1⟩
abbrev f_EVT_CH_SRC_LOG : Fld := ⟨61, 1⟩
abbrev f_EVT_CH_SRC_SRC3 : Fld := ⟨30, 10⟩
abbrev f_EVT_CH_SRC_SRC2 : Fld := ⟨20, 10⟩
abbrev f_EVT_CH_SRC_SRC1 : Fld := ⟨10, 10⟩
abbrev f_EVT_CH_SRC_SRC0 : Fld := ⟨0, 10⟩
/-- EVT.CH_SRC[c] (R390, 14_events). -/
def a_EVT_CH_SRC (c : Nat) : Nat := 0x61000 + c * 8
def r_EVT_CH_SRC : Reg := ⟨0x1000, [⟨0, 256, 8⟩], true, true, true, [⟨f_EVT_CH_SRC_OWNER, .ro, false, 0, .atOnce⟩, ⟨f_EVT_CH_SRC_SW_OK, .rw, true, 0, .commit .evt⟩, ⟨f_EVT_CH_SRC_LOG, .rw, true, 0, .commit .evt⟩, ⟨f_EVT_CH_SRC_SRC3, .rw, true, 0x3ff, .commit .evt⟩, ⟨f_EVT_CH_SRC_SRC2, .rw, true, 0x3ff, .commit .evt⟩, ⟨f_EVT_CH_SRC_SRC1, .rw, true, 0x3ff, .commit .evt⟩, ⟨f_EVT_CH_SRC_SRC0, .rw, true, 0x3ff, .commit .evt⟩]⟩
abbrev f_EVT_CH_CTRL_EN : Fld := ⟨31, 1⟩
abbrev f_EVT_CH_CTRL_STORM : Fld := ⟨30, 1⟩
abbrev f_EVT_CH_CTRL_STORM_WIN : Fld := ⟨16, 8⟩
abbrev f_EVT_CH_CTRL_LIMIT : Fld := ⟨0, 16⟩
/-- EVT.CH_CTRL[c] (R390, 14_events). -/
def a_EVT_CH_CTRL (c : Nat) : Nat := 0x62000 + c * 8
def r_EVT_CH_CTRL : Reg := ⟨0x2000, [⟨0, 256, 8⟩], false, false, true, [⟨f_EVT_CH_CTRL_EN, .rw, true, 1, .atOnce⟩, ⟨f_EVT_CH_CTRL_STORM, .w1c, false, 0, .atOnce⟩, ⟨f_EVT_CH_CTRL_STORM_WIN, .rw, true, 0xa, .atOnce⟩, ⟨f_EVT_CH_CTRL_LIMIT, .rw, true, 0x400, .atOnce⟩]⟩
abbrev f_EVT_CH_STAT_FIRE_CNT : Fld := ⟨32, 32⟩
abbrev f_EVT_CH_STAT_RATE_DROP : Fld := ⟨16, 16⟩
abbrev f_EVT_CH_STAT_OR_CNT : Fld := ⟨0, 16⟩
/-- EVT.CH_STAT[c] (R390, 14_events). -/
def a_EVT_CH_STAT (c : Nat) : Nat := 0x63000 + c * 8
def r_EVT_CH_STAT : Reg := ⟨0x3000, [⟨0, 256, 8⟩], true, false, false, [⟨f_EVT_CH_STAT_FIRE_CNT, .rc, false, 0, .atOnce⟩, ⟨f_EVT_CH_STAT_RATE_DROP, .rc, false, 0, .atOnce⟩, ⟨f_EVT_CH_STAT_OR_CNT, .rc, false, 0, .atOnce⟩]⟩
abbrev f_EVT_CON_SEL_ENB : Fld := ⟨17, 1⟩
abbrev f_EVT_CON_SEL_ENA : Fld := ⟨16, 1⟩
abbrev f_EVT_CON_SEL_CHB : Fld := ⟨8, 8⟩
abbrev f_EVT_CON_SEL_CHA : Fld := ⟨0, 8⟩
/-- EVT.CON_SEL[i] (R390, 14_events). -/
def a_EVT_CON_SEL (i : Nat) : Nat := 0x64000 + i * 8
def r_EVT_CON_SEL : Reg := ⟨0x4000, [⟨0, 512, 8⟩], false, true, true, [⟨f_EVT_CON_SEL_ENB, .rw, true, 0, .commit .evt⟩, ⟨f_EVT_CON_SEL_ENA, .rw, true, 0, .commit .evt⟩, ⟨f_EVT_CON_SEL_CHB, .rw, true, 0, .commit .evt⟩, ⟨f_EVT_CON_SEL_CHA, .rw, true, 0, .commit .evt⟩]⟩
abbrev f_EVT_CON_STAT_COALESCED : Fld := ⟨48, 16⟩
abbrev f_EVT_CON_STAT_BUSY_CNT : Fld := ⟨32, 16⟩
abbrev f_EVT_CON_STAT_BLOCKED_CNT : Fld := ⟨16, 16⟩
/-- EVT.CON_STAT[i] (R390, 14_events). -/
def a_EVT_CON_STAT (i : Nat) : Nat := 0x65000 + i * 8
def r_EVT_CON_STAT : Reg := ⟨0x5000, [⟨0, 512, 8⟩], true, false, false, [⟨f_EVT_CON_STAT_COALESCED, .rc, false, 0, .atOnce⟩, ⟨f_EVT_CON_STAT_BUSY_CNT, .rc, false, 0, .atOnce⟩, ⟨f_EVT_CON_STAT_BLOCKED_CNT, .rc, false, 0, .atOnce⟩]⟩

/-- The registers of a EVT block, in rising offset. -/
def regs_EVT : List Reg :=
  [r_EVT_SW_FIRE, r_EVT_COMMIT_STAT, r_EVT_LOG_CFG, r_EVT_IRQ_CFG, r_EVT_IRQ_PEND, r_EVT_EVIO_CFG, r_EVT_MRG_STAT, r_EVT_LOCK, r_EVT_CH_SRC, r_EVT_CH_CTRL, r_EVT_CH_STAT, r_EVT_CON_SEL] ++
  [r_EVT_CON_STAT]

abbrev f_WPU_COMMIT_ERR : Fld := ⟨4, 4⟩
abbrev f_WPU_COMMIT_GO : Fld := ⟨0, 1⟩
/-- WPU.COMMIT (R107, 03_web_position). -/
def a_WPU_COMMIT : Nat := 0x70004
def r_WPU_COMMIT : Reg := ⟨4, [], false, false, false, [⟨f_WPU_COMMIT_ERR, .ro, false, 0, .atOnce⟩, ⟨f_WPU_COMMIT_GO, .w1s, false, 0, .atOnce⟩]⟩
abbrev f_WPU_CTRL_SPEED_GATE_US : Fld := ⟨48, 16⟩
abbrev f_WPU_CTRL_STANDSTILL_TIMEOUT_US : Fld := ⟨32, 16⟩
abbrev f_WPU_CTRL_REV_MODE : Fld := ⟨5, 1⟩
abbrev f_WPU_CTRL_SLIP_EN : Fld := ⟨4, 1⟩
abbrev f_WPU_CTRL_SLIP_CH : Fld := ⟨2, 2⟩
abbrev f_WPU_CTRL_MASTER : Fld := ⟨0, 2⟩
/-- WPU.CTRL (R107, 03_web_position). -/
def a_WPU_CTRL : Nat := 0x70008
def r_WPU_CTRL : Reg := ⟨8, [], true, true, true, [⟨f_WPU_CTRL_SPEED_GATE_US, .rw, true, 0x64, .commit .wpu⟩, ⟨f_WPU_CTRL_STANDSTILL_TIMEOUT_US, .rw, true, 0xc350, .commit .wpu⟩, ⟨f_WPU_CTRL_REV_MODE, .rw, true, 0, .commit .wpu⟩, ⟨f_WPU_CTRL_SLIP_EN, .rw, true, 0, .commit .wpu⟩, ⟨f_WPU_CTRL_SLIP_CH, .rw, true, 1, .commit .wpu⟩, ⟨f_WPU_CTRL_MASTER, .rw, true, 0, .commit .wpu⟩]⟩
abbrev f_WPU_ENC_CFG_AMP_MAX : Fld := ⟨24, 8⟩
abbrev f_WPU_ENC_CFG_AMP_MIN : Fld := ⟨16, 8⟩
abbrev f_WPU_ENC_CFG_IDX_EN : Fld := ⟨14, 1⟩
abbrev f_WPU_ENC_CFG_SC_PAIR : Fld := ⟨12, 2⟩
abbrev f_WPU_ENC_CFG_FILT : Fld := ⟨4, 8⟩
abbrev f_WPU_ENC_CFG_DIR_INV : Fld := ⟨3, 1⟩
abbrev f_WPU_ENC_CFG_TYPE : Fld := ⟨0, 3⟩
/-- WPU.ENC_CFG[n] (R107, 03_web_position). -/
def a_WPU_ENC_CFG (n : Nat) : Nat := 0x70100 + n * 0x40
def r_WPU_ENC_CFG : Reg := ⟨0x100, [⟨0, 4, 0x40⟩], false, true, true, [⟨f_WPU_ENC_CFG_AMP_MAX, .rw, true, 0xf8, .commit .wpu⟩, ⟨f_WPU_ENC_CFG_AMP_MIN, .rw, true, 0x40, .commit .wpu⟩, ⟨f_WPU_ENC_CFG_IDX_EN, .rw, true, 0, .commit .wpu⟩, ⟨f_WPU_ENC_CFG_SC_PAIR, .rw, true, 0, .commit .wpu⟩, ⟨f_WPU_ENC_CFG_FILT, .rw, true, 7, .commit .wpu⟩, ⟨f_WPU_ENC_CFG_DIR_INV, .rw, true, 0, .commit .wpu⟩, ⟨f_WPU_ENC_CFG_TYPE, .rw, true, 0, .commit .wpu⟩]⟩
abbrev f_WPU_ENC_SCALE_SCALE : Fld := ⟨0, 64⟩
/-- WPU.ENC_SCALE[n] (R107, 03_web_position). -/
def a_WPU_ENC_SCALE (n : Nat) : Nat := 0x70108 + n * 0x40
def r_WPU_ENC_SCALE : Reg := ⟨0x108, [⟨0, 4, 0x40⟩], true, true, true, [⟨f_WPU_ENC_SCALE_SCALE, .rw, true, 0, .commit .wpu⟩]⟩
abbrev f_WPU_ENC_POS_RAW : Fld := ⟨0, 64⟩
/-- WPU.ENC_POS[n] (R107, 03_web_position). -/
def a_WPU_ENC_POS (n : Nat) : Nat := 0x70110 + n * 0x40
def r_WPU_ENC_POS : Reg := ⟨0x110, [⟨0, 4, 0x40⟩], true, false, false, [⟨f_WPU_ENC_POS_RAW, .ro, false, 0, .atOnce⟩]⟩
abbrev f_WPU_ENC_STAT_FAULT_CNT : Fld := ⟨48, 16⟩
abbrev f_WPU_ENC_STAT_SKIP_CNT : Fld := ⟨32, 16⟩
abbrev f_WPU_ENC_STAT_INVALID_CNT : Fld := ⟨16, 16⟩
abbrev f_WPU_ENC_STAT_QUAD_ERR_CNT : Fld := ⟨0, 16⟩
/-- WPU.ENC_STAT[n] (R107, 03_web_position). -/
def a_WPU_ENC_STAT (n : Nat) : Nat := 0x70118 + n * 0x40
def r_WPU_ENC_STAT : Reg := ⟨0x118, [⟨0, 4, 0x40⟩], true, false, false, [⟨f_WPU_ENC_STAT_FAULT_CNT, .rc, false, 0, .atOnce⟩, ⟨f_WPU_ENC_STAT_SKIP_CNT, .rc, false, 0, .atOnce⟩, ⟨f_WPU_ENC_STAT_INVALID_CNT, .rc, false, 0, .atOnce⟩, ⟨f_WPU_ENC_STAT_QUAD_ERR_CNT, .rc, false, 0, .atOnce⟩]⟩
abbrev f_WPU_IDX_CFG_TOL : Fld := ⟨32, 16⟩
abbrev f_WPU_IDX_CFG_PERIOD : Fld := ⟨0, 32⟩
/-- WPU.IDX_CFG[n] (R107, 03_web_position). -/
def a_WPU_IDX_CFG (n : Nat) : Nat := 0x70120 + n * 0x40
def r_WPU_IDX_CFG : Reg := ⟨0x120, [⟨0, 4, 0x40⟩], true, true, true, [⟨f_WPU_IDX_CFG_TOL, .rw, true, 0, .commit .wpu⟩, ⟨f_WPU_IDX_CFG_PERIOD, .rw, true, 0, .commit .wpu⟩]⟩
abbrev f_WPU_IDX_POS_V : Fld := ⟨0, 64⟩
/-- WPU.IDX_POS[n] (R107, 03_web_position). -/
def a_WPU_IDX_POS (n : Nat) : Nat := 0x70128 + n * 0x40
def r_WPU_IDX_POS : Reg := ⟨0x128, [⟨0, 4, 0x40⟩], true, false, false, [⟨f_WPU_IDX_POS_V, .ro, false, 0, .atOnce⟩]⟩
abbrev f_WPU_IDX_TIME_V : Fld := ⟨0, 64⟩
/-- WPU.IDX_TIME[n] (R107, 03_web_position). -/
def a_WPU_IDX_TIME (n : Nat) : Nat := 0x70130 + n * 0x40
def r_WPU_IDX_TIME : Reg := ⟨0x130, [⟨0, 4, 0x40⟩], true, false, false, [⟨f_WPU_IDX_TIME_V, .ro, false, 0, .atOnce⟩]⟩
abbrev f_WPU_IDX_ERR_DRIFT_CNT : Fld := ⟨32, 32⟩
abbrev f_WPU_IDX_ERR_ERR : Fld := ⟨0, 32⟩
/-- WPU.IDX_ERR[n] (R107, 03_web_position). -/
def a_WPU_IDX_ERR (n : Nat) : Nat := 0x70138 + n * 0x40
def r_WPU_IDX_ERR : Reg := ⟨0x138, [⟨0, 4, 0x40⟩], true, false, false, [⟨f_WPU_IDX_ERR_DRIFT_CNT, .rc, false, 0, .atOnce⟩, ⟨f_WPU_IDX_ERR_ERR, .ro, false, 0, .atOnce⟩]⟩
abbrev f_WPU_SSI_CFG_MAX_DELTA : Fld := ⟨48, 16⟩
abbrev f_WPU_SSI_CFG_MONO_US : Fld := ⟨40, 6⟩
abbrev f_WPU_SSI_CFG_PERIOD_US : Fld := ⟨24, 16⟩
abbrev f_WPU_SSI_CFG_PARITY : Fld := ⟨21, 2⟩
abbrev f_WPU_SSI_CFG_GRAY : Fld := ⟨20, 1⟩
abbrev f_WPU_SSI_CFG_BITS : Fld := ⟨14, 6⟩
abbrev f_WPU_SSI_CFG_CLK_KHZ : Fld := ⟨0, 14⟩
/-- WPU.SSI_CFG (R107, 03_web_position). -/
def a_WPU_SSI_CFG : Nat := 0x70200
def r_WPU_SSI_CFG : Reg := ⟨0x200, [], true, true, true, [⟨f_WPU_SSI_CFG_MAX_DELTA, .rw, true, 0, .commit .wpu⟩, ⟨f_WPU_SSI_CFG_MONO_US, .rw, true, 0, .commit .wpu⟩, ⟨f_WPU_SSI_CFG_PERIOD_US, .rw, true, 0, .commit .wpu⟩, ⟨f_WPU_SSI_CFG_PARITY, .rw, true, 0, .commit .wpu⟩, ⟨f_WPU_SSI_CFG_GRAY, .rw, true, 0, .commit .wpu⟩, ⟨f_WPU_SSI_CFG_BITS, .rw, true, 0, .commit .wpu⟩, ⟨f_WPU_SSI_CFG_CLK_KHZ, .rw, true, 0, .commit .wpu⟩]⟩
abbrev f_WPU_LINE_PITCH_PHASE : Fld := ⟨32, 32⟩
abbrev f_WPU_LINE_PITCH_PITCH : Fld := ⟨0, 32⟩
/-- WPU.LINE_PITCH (R107, 03_web_position). -/
def a_WPU_LINE_PITCH : Nat := 0x70400
def r_WPU_LINE_PITCH : Reg := ⟨0x400, [], true, true, true, [⟨f_WPU_LINE_PITCH_PHASE, .rw, true, 0, .course⟩, ⟨f_WPU_LINE_PITCH_PITCH, .rw, true, 0, .course⟩]⟩
abbrev f_WPU_TRIG_MIN_MIN_NS : Fld := ⟨0, 32⟩
/-- WPU.TRIG_MIN (R107, 03_web_position). -/
def a_WPU_TRIG_MIN : Nat := 0x70408
def r_WPU_TRIG_MIN : Reg := ⟨0x408, [], false, true, true, [⟨f_WPU_TRIG_MIN_MIN_NS, .rw, true, 0, .course⟩]⟩
abbrev f_WPU_LINE_CNT_V : Fld := ⟨0, 64⟩
/-- WPU.LINE_CNT (R107, 03_web_position). -/
def a_WPU_LINE_CNT : Nat := 0x70410
def r_WPU_LINE_CNT : Reg := ⟨0x410, [], true, false, true, [⟨f_WPU_LINE_CNT_V, .ro, false, 0, .atOnce⟩]⟩
abbrev f_WPU_TPOS_V : Fld := ⟨0, 64⟩
/-- WPU.TPOS (R107, 03_web_position). -/
def a_WPU_TPOS : Nat := 0x70418
def r_WPU_TPOS : Reg := ⟨0x418, [], true, false, true, [⟨f_WPU_TPOS_V, .ro, false, 0, .atOnce⟩]⟩
abbrev f_WPU_SPEED_V : Fld := ⟨0, 64⟩
/-- WPU.SPEED (R107, 03_web_position). -/
def a_WPU_SPEED : Nat := 0x70420
def r_WPU_SPEED : Reg := ⟨0x420, [], true, false, true, [⟨f_WPU_SPEED_V, .ro, false, 0, .atOnce⟩]⟩
abbrev f_WPU_MOTION_OVERRUN_CNT : Fld := ⟨32, 32⟩
abbrev f_WPU_MOTION_POS_SAT : Fld := ⟨3, 1⟩
abbrev f_WPU_MOTION_STANDSTILL : Fld := ⟨2, 1⟩
abbrev f_WPU_MOTION_DIR : Fld := ⟨1, 1⟩
abbrev f_WPU_MOTION_SPEED_VALID : Fld := ⟨0, 1⟩
/-- WPU.MOTION (R107, 03_web_position). -/
def a_WPU_MOTION : Nat := 0x70428
def r_WPU_MOTION : Reg := ⟨0x428, [], true, false, false, [⟨f_WPU_MOTION_OVERRUN_CNT, .rc, false, 0, .atOnce⟩, ⟨f_WPU_MOTION_POS_SAT, .w1c, false, 0, .atOnce⟩, ⟨f_WPU_MOTION_STANDSTILL, .ro, false, 1, .atOnce⟩, ⟨f_WPU_MOTION_DIR, .ro, false, 0, .atOnce⟩, ⟨f_WPU_MOTION_SPEED_VALID, .ro, false, 0, .atOnce⟩]⟩
abbrev f_WPU_COURSE_LOG2_LEN : Fld := ⟨0, 4⟩
/-- WPU.COURSE (R189, 06_pixel_pipeline). -/
def a_WPU_COURSE : Nat := 0x70430
def r_WPU_COURSE : Reg := ⟨0x430, [], false, true, true, [⟨f_WPU_COURSE_LOG2_LEN, .rw, true, 0xa, .commit .entryStandby⟩]⟩
abbrev f_WPU_LATCH_CFG_SRC : Fld := ⟨0, 8⟩
/-- WPU.LATCH_CFG (R107, 03_web_position). -/
def a_WPU_LATCH_CFG : Nat := 0x70500
def r_WPU_LATCH_CFG : Reg := ⟨0x500, [], false, true, true, [⟨f_WPU_LATCH_CFG_SRC, .rw, true, 0, .atOnce⟩]⟩
abbrev f_WPU_LATCH_REQ_REQ : Fld := ⟨0, 4⟩
/-- WPU.LATCH_REQ (R107, 03_web_position). -/
def a_WPU_LATCH_REQ : Nat := 0x70504
def r_WPU_LATCH_REQ : Reg := ⟨0x504, [], false, false, false, [⟨f_WPU_LATCH_REQ_REQ, .w1s, false, 0, .atOnce⟩]⟩
abbrev f_WPU_LATCH_POS_V : Fld := ⟨0, 64⟩
/-- WPU.LATCH_POS[k] (R107, 03_web_position). -/
def a_WPU_LATCH_POS (k : Nat) : Nat := 0x70510 + k * 0x10
def r_WPU_LATCH_POS : Reg := ⟨0x510, [⟨0, 4, 0x10⟩], true, false, false, [⟨f_WPU_LATCH_POS_V, .ro, false, 0, .atOnce⟩]⟩
abbrev f_WPU_LATCH_TIME_V : Fld := ⟨0, 64⟩
/-- WPU.LATCH_TIME[k] (R107, 03_web_position). -/
def a_WPU_LATCH_TIME (k : Nat) : Nat := 0x70518 + k * 0x10
def r_WPU_LATCH_TIME : Reg := ⟨0x518, [⟨0, 4, 0x10⟩], true, false, false, [⟨f_WPU_LATCH_TIME_V, .ro, false, 0, .atOnce⟩]⟩
abbrev f_WPU_STB_CFG_WIDTH_NS : Fld := ⟨48, 16⟩
abbrev f_WPU_STB_CFG_DELAY_NS : Fld := ⟨28, 20⟩
abbrev f_WPU_STB_CFG_DIV : Fld := ⟨16, 12⟩
abbrev f_WPU_STB_CFG_SRC : Fld := ⟨1, 2⟩
abbrev f_WPU_STB_CFG_EN : Fld := ⟨0, 1⟩
/-- WPU.STB_CFG[s] (R107, 03_web_position). -/
def a_WPU_STB_CFG (s : Nat) : Nat := 0x70600 + s * 0x10
def r_WPU_STB_CFG : Reg := ⟨0x600, [⟨0, 8, 0x10⟩], true, true, true, [⟨f_WPU_STB_CFG_WIDTH_NS, .rw, true, 0, .course⟩, ⟨f_WPU_STB_CFG_DELAY_NS, .rw, true, 0, .course⟩, ⟨f_WPU_STB_CFG_DIV, .rw, true, 0, .course⟩, ⟨f_WPU_STB_CFG_SRC, .rw, true, 0, .course⟩, ⟨f_WPU_STB_CFG_EN, .rw, true, 0, .course⟩]⟩
abbrev f_WPU_STB_LIM_DUTY_PPT : Fld := ⟨22, 10⟩
abbrev f_WPU_STB_LIM_WMAX_NS : Fld := ⟨0, 22⟩
/-- WPU.STB_LIM[s] (R107, 03_web_position). -/
def a_WPU_STB_LIM (s : Nat) : Nat := 0x70608 + s * 0x10
def r_WPU_STB_LIM : Reg := ⟨0x608, [⟨0, 8, 0x10⟩], false, true, false, [⟨f_WPU_STB_LIM_DUTY_PPT, .ro, true, 0x14, .reset⟩, ⟨f_WPU_STB_LIM_WMAX_NS, .ro, true, 0x1388, .reset⟩]⟩
abbrev f_WPU_STB_STAT_LIMIT_CNT : Fld := ⟨32, 32⟩
abbrev f_WPU_STB_STAT_MERGE_CNT : Fld := ⟨0, 32⟩
/-- WPU.STB_STAT[s] (R107, 03_web_position). -/
def a_WPU_STB_STAT (s : Nat) : Nat := 0x70680 + s * 8
def r_WPU_STB_STAT : Reg := ⟨0x680, [⟨0, 8, 8⟩], true, false, false, [⟨f_WPU_STB_STAT_LIMIT_CNT, .rc, false, 0, .atOnce⟩, ⟨f_WPU_STB_STAT_MERGE_CNT, .rc, false, 0, .atOnce⟩]⟩
abbrev f_WPU_CMP_CFG_LATE_WINDOW : Fld := ⟨48, 16⟩
abbrev f_WPU_CMP_CFG_WIDTH_NS : Fld := ⟨32, 16⟩
abbrev f_WPU_CMP_CFG_DELAY_NS : Fld := ⟨12, 20⟩
abbrev f_WPU_CMP_CFG_DIR : Fld := ⟨5, 1⟩
abbrev f_WPU_CMP_CFG_OUT : Fld := ⟨0, 5⟩
/-- WPU.CMP_CFG[u] (R107, 03_web_position). -/
def a_WPU_CMP_CFG (u : Nat) : Nat := 0x70800 + u * 0x20
def r_WPU_CMP_CFG : Reg := ⟨0x800, [⟨0, 32, 0x20⟩], true, true, true, [⟨f_WPU_CMP_CFG_LATE_WINDOW, .rw, true, 0, .atOnce⟩, ⟨f_WPU_CMP_CFG_WIDTH_NS, .rw, true, 0, .atOnce⟩, ⟨f_WPU_CMP_CFG_DELAY_NS, .rw, true, 0, .atOnce⟩, ⟨f_WPU_CMP_CFG_DIR, .rw, true, 0, .atOnce⟩, ⟨f_WPU_CMP_CFG_OUT, .rw, true, 0, .atOnce⟩]⟩
abbrev f_WPU_CMP_PUSH_VALUE : Fld := ⟨0, 64⟩
/-- WPU.CMP_PUSH[u] (R107, 03_web_position). -/
def a_WPU_CMP_PUSH (u : Nat) : Nat := 0x70808 + u * 0x20
def r_WPU_CMP_PUSH : Reg := ⟨0x808, [⟨0, 32, 0x20⟩], true, false, true, [⟨f_WPU_CMP_PUSH_VALUE, .wo, false, 0, .atOnce⟩]⟩
abbrev f_WPU_CMP_STAT_FIRE_CNT : Fld := ⟨48, 16⟩
abbrev f_WPU_CMP_STAT_LATE_CNT : Fld := ⟨40, 8⟩
abbrev f_WPU_CMP_STAT_LATE_FIRED_CNT : Fld := ⟨32, 8⟩
abbrev f_WPU_CMP_STAT_FULL_CNT : Fld := ⟨24, 8⟩
abbrev f_WPU_CMP_STAT_BLOCKED_CNT : Fld := ⟨16, 8⟩
abbrev f_WPU_CMP_STAT_MERGE_CNT : Fld := ⟨8, 8⟩
abbrev f_WPU_CMP_STAT_LATE : Fld := ⟨7, 1⟩
abbrev f_WPU_CMP_STAT_CLEAR : Fld := ⟨6, 1⟩
abbrev f_WPU_CMP_STAT_DEPTH : Fld := ⟨0, 6⟩
/-- WPU.CMP_STAT[u] (R107, 03_web_position). -/
def a_WPU_CMP_STAT (u : Nat) : Nat := 0x70810 + u * 0x20
def r_WPU_CMP_STAT : Reg := ⟨0x810, [⟨0, 32, 0x20⟩], true, false, false, [⟨f_WPU_CMP_STAT_FIRE_CNT, .rc, false, 0, .atOnce⟩, ⟨f_WPU_CMP_STAT_LATE_CNT, .rc, false, 0, .atOnce⟩, ⟨f_WPU_CMP_STAT_LATE_FIRED_CNT, .rc, false, 0, .atOnce⟩, ⟨f_WPU_CMP_STAT_FULL_CNT, .rc, false, 0, .atOnce⟩, ⟨f_WPU_CMP_STAT_BLOCKED_CNT, .rc, false, 0, .atOnce⟩, ⟨f_WPU_CMP_STAT_MERGE_CNT, .rc, false, 0, .atOnce⟩, ⟨f_WPU_CMP_STAT_LATE, .w1c, false, 0, .atOnce⟩, ⟨f_WPU_CMP_STAT_CLEAR, .w1s, false, 0, .atOnce⟩, ⟨f_WPU_CMP_STAT_DEPTH, .ro, false, 0, .atOnce⟩]⟩
abbrev f_WPU_SLIP_CFG_SLIP_LIMIT_PPM : Fld := ⟨32, 16⟩
abbrev f_WPU_SLIP_CFG_SLIP_WIN_KNM : Fld := ⟨0, 32⟩
/-- WPU.SLIP_CFG (R107, 03_web_position). -/
def a_WPU_SLIP_CFG : Nat := 0x70c00
def r_WPU_SLIP_CFG : Reg := ⟨0xc00, [], true, true, true, [⟨f_WPU_SLIP_CFG_SLIP_LIMIT_PPM, .rw, true, 0, .commit .wpu⟩, ⟨f_WPU_SLIP_CFG_SLIP_WIN_KNM, .rw, true, 0xf4240, .commit .wpu⟩]⟩
abbrev f_WPU_SLIP_STAT_SLIP_CNT : Fld := ⟨32, 32⟩
abbrev f_WPU_SLIP_STAT_SLIP_PPM : Fld := ⟨0, 32⟩
/-- WPU.SLIP_STAT (R107, 03_web_position). -/
def a_WPU_SLIP_STAT : Nat := 0x70c08
def r_WPU_SLIP_STAT : Reg := ⟨0xc08, [], true, false, false, [⟨f_WPU_SLIP_STAT_SLIP_CNT, .rc, false, 0, .atOnce⟩, ⟨f_WPU_SLIP_STAT_SLIP_PPM, .ro, false, 0, .atOnce⟩]⟩
abbrev f_WPU_LOCK_SET : Fld := ⟨0, 1⟩
/-- WPU.LOCK (R483, 19_registers_integrity). -/
def a_WPU_LOCK : Nat := 0x70ff8
def r_WPU_LOCK : Reg := ⟨0xff8, [], false, false, true, [⟨f_WPU_LOCK_SET, .w1s, false, 0, .atOnce⟩]⟩

/-- The registers of a WPU block, in rising offset. -/
def regs_WPU : List Reg :=
  [r_WPU_COMMIT, r_WPU_CTRL, r_WPU_ENC_CFG, r_WPU_ENC_SCALE, r_WPU_ENC_POS, r_WPU_ENC_STAT, r_WPU_IDX_CFG, r_WPU_IDX_POS, r_WPU_IDX_TIME, r_WPU_IDX_ERR, r_WPU_SSI_CFG, r_WPU_LINE_PITCH] ++
  [r_WPU_TRIG_MIN, r_WPU_LINE_CNT, r_WPU_TPOS, r_WPU_SPEED, r_WPU_MOTION, r_WPU_COURSE, r_WPU_LATCH_CFG, r_WPU_LATCH_REQ, r_WPU_LATCH_POS, r_WPU_LATCH_TIME, r_WPU_STB_CFG, r_WPU_STB_LIM] ++
  [r_WPU_STB_STAT, r_WPU_CMP_CFG, r_WPU_CMP_PUSH, r_WPU_CMP_STAT, r_WPU_SLIP_CFG, r_WPU_SLIP_STAT, r_WPU_LOCK]

abbrev f_DSP_COMMIT_ERR : Fld := ⟨4, 4⟩
abbrev f_DSP_COMMIT_GO : Fld := ⟨0, 1⟩
/-- DSP.COMMIT (R125, 04_filter_chain). -/
def a_DSP_COMMIT : Nat := 0x80004
def r_DSP_COMMIT : Reg := ⟨4, [], false, false, false, [⟨f_DSP_COMMIT_ERR, .ro, false, 0, .atOnce⟩, ⟨f_DSP_COMMIT_GO, .w1s, false, 0, .atOnce⟩]⟩
abbrev f_DSP_CLK_CFG_EN1 : Fld := ⟨24, 1⟩
abbrev f_DSP_CLK_CFG_CKDIV1 : Fld := ⟨16, 8⟩
abbrev f_DSP_CLK_CFG_EN0 : Fld := ⟨8, 1⟩
abbrev f_DSP_CLK_CFG_CKDIV0 : Fld := ⟨0, 8⟩
/-- DSP.CLK_CFG (R125, 04_filter_chain). -/
def a_DSP_CLK_CFG : Nat := 0x80008
def r_DSP_CLK_CFG : Reg := ⟨8, [], false, true, true, [⟨f_DSP_CLK_CFG_EN1, .rw, true, 0, .commit .dsp⟩, ⟨f_DSP_CLK_CFG_CKDIV1, .rw, true, 0x32, .commit .dsp⟩, ⟨f_DSP_CLK_CFG_EN0, .rw, true, 0, .commit .dsp⟩, ⟨f_DSP_CLK_CFG_CKDIV0, .rw, true, 0x32, .commit .dsp⟩]⟩
abbrev f_DSP_FLT_CFG_CWIN : Fld := ⟨19, 3⟩
abbrev f_DSP_FLT_CFG_STEP_EN : Fld := ⟨18, 1⟩
abbrev f_DSP_FLT_CFG_SLOT : Fld := ⟨16, 2⟩
abbrev f_DSP_FLT_CFG_USE : Fld := ⟨14, 2⟩
abbrev f_DSP_FLT_CFG_PATH : Fld := ⟨13, 1⟩
abbrev f_DSP_FLT_CFG_PRESET : Fld := ⟨10, 3⟩
abbrev f_DSP_FLT_CFG_CAP_DLY : Fld := ⟨6, 4⟩
abbrev f_DSP_FLT_CFG_CKSEL : Fld := ⟨5, 1⟩
/-- DSP.FLT_CFG[f] (R125, 04_filter_chain). -/
def a_DSP_FLT_CFG (f : Nat) : Nat := 0x80100 + f * 0x40
def r_DSP_FLT_CFG : Reg := ⟨0x100, [⟨0, 8, 0x40⟩], false, true, true, [⟨f_DSP_FLT_CFG_CWIN, .rw, true, 3, .commit .dsp⟩, ⟨f_DSP_FLT_CFG_STEP_EN, .rw, true, 0, .commit .dsp⟩, ⟨f_DSP_FLT_CFG_SLOT, .rw, true, 0, .commit .dsp⟩, ⟨f_DSP_FLT_CFG_USE, .rw, true, 0, .commit .dsp⟩, ⟨f_DSP_FLT_CFG_PATH, .rw, true, 0, .commit .dsp⟩, ⟨f_DSP_FLT_CFG_PRESET, .rw, true, 1, .commit .dsp⟩, ⟨f_DSP_FLT_CFG_CAP_DLY, .rw, true, 4, .commit .dsp⟩, ⟨f_DSP_FLT_CFG_CKSEL, .rw, true, 0, .commit .dsp⟩]⟩
abbrev f_DSP_FLT_CUSTOM_FGD16 : Fld := ⟨48, 16⟩
abbrev f_DSP_FLT_CUSTOM_FIR_DEC : Fld := ⟨33, 1⟩
abbrev f_DSP_FLT_CUSTOM_MINPH : Fld := ⟨32, 1⟩
abbrev f_DSP_FLT_CUSTOM_L : Fld := ⟨24, 8⟩
abbrev f_DSP_FLT_CUSTOM_M : Fld := ⟨10, 14⟩
abbrev f_DSP_FLT_CUSTOM_N : Fld := ⟨0, 3⟩
/-- DSP.FLT_CUSTOM[f] (R125, 04_filter_chain). -/
def a_DSP_FLT_CUSTOM (f : Nat) : Nat := 0x80108 + f * 0x40
def r_DSP_FLT_CUSTOM : Reg := ⟨0x108, [⟨0, 8, 0x40⟩], true, true, true, [⟨f_DSP_FLT_CUSTOM_FGD16, .rw, true, 0, .commit .dsp⟩, ⟨f_DSP_FLT_CUSTOM_FIR_DEC, .rw, true, 0, .commit .dsp⟩, ⟨f_DSP_FLT_CUSTOM_MINPH, .rw, true, 0, .commit .dsp⟩, ⟨f_DSP_FLT_CUSTOM_L, .rw, true, 0, .commit .dsp⟩, ⟨f_DSP_FLT_CUSTOM_M, .rw, true, 0, .commit .dsp⟩, ⟨f_DSP_FLT_CUSTOM_N, .rw, true, 0, .commit .dsp⟩]⟩
abbrev f_DSP_FLT_STEP_STEP_THR : Fld := ⟨0, 23⟩
/-- DSP.FLT_STEP[f] (R125, 04_filter_chain). -/
def a_DSP_FLT_STEP (f : Nat) : Nat := 0x80110 + f * 0x40
def r_DSP_FLT_STEP : Reg := ⟨0x110, [⟨0, 8, 0x40⟩], false, true, true, [⟨f_DSP_FLT_STEP_STEP_THR, .rw, true, 0, .commit .dsp⟩]⟩
abbrev f_DSP_FLT_OUT_STUCK : Fld := ⟨43, 1⟩
abbrev f_DSP_FLT_OUT_SAT : Fld := ⟨42, 1⟩
abbrev f_DSP_FLT_OUT_COARSE : Fld := ⟨41, 1⟩
abbrev f_DSP_FLT_OUT_VALID : Fld := ⟨40, 1⟩
abbrev f_DSP_FLT_OUT_VALUE : Fld := ⟨0, 40⟩
/-- DSP.FLT_OUT[f] (R125, 04_filter_chain). -/
def a_DSP_FLT_OUT (f : Nat) : Nat := 0x80118 + f * 0x40
def r_DSP_FLT_OUT : Reg := ⟨0x118, [⟨0, 8, 0x40⟩], true, false, false, [⟨f_DSP_FLT_OUT_STUCK, .ro, false, 0, .atOnce⟩, ⟨f_DSP_FLT_OUT_SAT, .ro, false, 0, .atOnce⟩, ⟨f_DSP_FLT_OUT_COARSE, .ro, false, 0, .atOnce⟩, ⟨f_DSP_FLT_OUT_VALID, .ro, false, 0, .atOnce⟩, ⟨f_DSP_FLT_OUT_VALUE, .ro, false, 0, .atOnce⟩]⟩
abbrev f_DSP_FLT_TIME_V : Fld := ⟨0, 64⟩
/-- DSP.FLT_TIME[f] (R125, 04_filter_chain). -/
def a_DSP_FLT_TIME (f : Nat) : Nat := 0x80120 + f * 0x40
def r_DSP_FLT_TIME : Reg := ⟨0x120, [⟨0, 8, 0x40⟩], true, false, false, [⟨f_DSP_FLT_TIME_V, .ro, false, 0, .atOnce⟩]⟩
abbrev f_DSP_FLT_GD_GD_NS : Fld := ⟨0, 32⟩
/-- DSP.FLT_GD[f] (R125, 04_filter_chain). -/
def a_DSP_FLT_GD (f : Nat) : Nat := 0x80128 + f * 0x40
def r_DSP_FLT_GD : Reg := ⟨0x128, [⟨0, 8, 0x40⟩], false, false, false, [⟨f_DSP_FLT_GD_GD_NS, .ro, false, 0, .commit .dsp⟩]⟩
abbrev f_DSP_FLT_STAT_SAT_CNT : Fld := ⟨48, 16⟩
abbrev f_DSP_FLT_STAT_STEP_CNT : Fld := ⟨32, 16⟩
abbrev f_DSP_FLT_STAT_STUCK_CNT : Fld := ⟨16, 16⟩
abbrev f_DSP_FLT_STAT_SETTLING : Fld := ⟨0, 1⟩
/-- DSP.FLT_STAT[f] (R125, 04_filter_chain). -/
def a_DSP_FLT_STAT (f : Nat) : Nat := 0x80130 + f * 0x40
def r_DSP_FLT_STAT : Reg := ⟨0x130, [⟨0, 8, 0x40⟩], true, false, false, [⟨f_DSP_FLT_STAT_SAT_CNT, .rc, false, 0, .atOnce⟩, ⟨f_DSP_FLT_STAT_STEP_CNT, .rc, false, 0, .atOnce⟩, ⟨f_DSP_FLT_STAT_STUCK_CNT, .rc, false, 0, .atOnce⟩, ⟨f_DSP_FLT_STAT_SETTLING, .ro, false, 1, .atOnce⟩]⟩
abbrev f_DSP_AUX_CFG_EN : Fld := ⟨31, 1⟩
abbrev f_DSP_AUX_CFG_RING : Fld := ⟨16, 12⟩
abbrev f_DSP_AUX_CFG_DIV : Fld := ⟨0, 16⟩
/-- DSP.AUX_CFG[a] (R125, 04_filter_chain). -/
def a_DSP_AUX_CFG (a : Nat) : Nat := 0x80400 + a * 8
def r_DSP_AUX_CFG : Reg := ⟨0x400, [⟨0, 4, 8⟩], false, true, true, [⟨f_DSP_AUX_CFG_EN, .rw, true, 0, .commit .dsp⟩, ⟨f_DSP_AUX_CFG_RING, .rw, true, 0, .commit .dsp⟩, ⟨f_DSP_AUX_CFG_DIV, .rw, true, 0, .commit .dsp⟩]⟩
abbrev f_DSP_LOCK_SET : Fld := ⟨0, 1⟩
/-- DSP.LOCK (R483, 19_registers_integrity). -/
def a_DSP_LOCK : Nat := 0x80ff8
def r_DSP_LOCK : Reg := ⟨0xff8, [], false, false, true, [⟨f_DSP_LOCK_SET, .w1s, false, 0, .atOnce⟩]⟩
abbrev f_DSP_TAP_TAP : Fld := ⟨0, 18⟩
/-- DSP.TAP[f][i] (R125, 04_filter_chain). -/
def a_DSP_TAP (f i : Nat) : Nat := 0x82000 + f * 0x100 + i * 4
def r_DSP_TAP : Reg := ⟨0x2000, [⟨0, 8, 0x100⟩, ⟨0, 64, 4⟩], false, true, true, [⟨f_DSP_TAP_TAP, .rw, true, 0, .commit .dsp⟩]⟩

/-- The registers of a DSP block, in rising offset. -/
def regs_DSP : List Reg :=
  [r_DSP_COMMIT, r_DSP_CLK_CFG, r_DSP_FLT_CFG, r_DSP_FLT_CUSTOM, r_DSP_FLT_STEP, r_DSP_FLT_OUT, r_DSP_FLT_TIME, r_DSP_FLT_GD, r_DSP_FLT_STAT, r_DSP_AUX_CFG, r_DSP_LOCK, r_DSP_TAP]

end Sys2Proof.Machine
end

