-- ==== Sys2Proof/Machine/RegMapB.lean ====
section
/-! DEFINITION. Register map, part B: the registers of blocks TIME, BAL, CAL, THM, PIPE, MOS, SEG, CLS, one entry per register family, written from the
field maps of the chapters (offset, width, CRC-covered, mirrored; per field its bits, access code, reset or factory value and
Takes effect term). Reserved fields have no entry: their bits read 0 and what is written to them is ignored (R8).
f_<BLOCK>_<REGISTER>_<FIELD> is a field; a_<BLOCK>_<REGISTER> its BAR0 address (R6, R44); r_… the register. -/

namespace Sys2Proof.Machine

abbrev f_TIME_NOW_V : Fld := ⟨0, 64⟩
/-- TIME.NOW (R375, 13_time). -/
def a_TIME_NOW : Nat := 0x90000
def r_TIME_NOW : Reg := ⟨0, [], true, false, false, [⟨f_TIME_NOW_V, .ro, false, 0, .atOnce⟩]⟩
abbrev f_TIME_CTRL_OFFSET_LIMIT_NS : Fld := ⟨32, 32⟩
abbrev f_TIME_CTRL_LOCK_NS : Fld := ⟨16, 16⟩
abbrev f_TIME_CTRL_KI_SHIFT : Fld := ⟨12, 4⟩
abbrev f_TIME_CTRL_KP_SHIFT : Fld := ⟨8, 4⟩
abbrev f_TIME_CTRL_SERVO_EN : Fld := ⟨7, 1⟩
abbrev f_TIME_CTRL_PPS_ALWAYS : Fld := ⟨6, 1⟩
abbrev f_TIME_CTRL_SRC : Fld := ⟨0, 2⟩
/-- TIME.CTRL (R375, 13_time). -/
def a_TIME_CTRL : Nat := 0x90010
def r_TIME_CTRL : Reg := ⟨0x10, [], true, true, true, [⟨f_TIME_CTRL_OFFSET_LIMIT_NS, .rw, true, 0x989680, .atOnce⟩, ⟨f_TIME_CTRL_LOCK_NS, .rw, true, 0x3e8, .atOnce⟩, ⟨f_TIME_CTRL_KI_SHIFT, .rw, true, 4, .atOnce⟩, ⟨f_TIME_CTRL_KP_SHIFT, .rw, true, 1, .atOnce⟩, ⟨f_TIME_CTRL_SERVO_EN, .rw, true, 1, .atOnce⟩, ⟨f_TIME_CTRL_PPS_ALWAYS, .rw, true, 0, .atOnce⟩, ⟨f_TIME_CTRL_SRC, .rw, true, 0, .atOnce⟩]⟩
abbrev f_TIME_RATE_V : Fld := ⟨0, 64⟩
/-- TIME.RATE (R375, 13_time). -/
def a_TIME_RATE : Nat := 0x90018
def r_TIME_RATE : Reg := ⟨0x18, [], true, false, false, [⟨f_TIME_RATE_V, .rw, false, 0, .atOnce⟩]⟩
abbrev f_TIME_OFFSET_V : Fld := ⟨0, 64⟩
/-- TIME.OFFSET (R375, 13_time). -/
def a_TIME_OFFSET : Nat := 0x90020
def r_TIME_OFFSET : Reg := ⟨0x20, [], true, false, false, [⟨f_TIME_OFFSET_V, .ro, false, 0, .atOnce⟩]⟩
abbrev f_TIME_STAT_PPS_GLITCH_CNT : Fld := ⟨48, 16⟩
abbrev f_TIME_STAT_EPOCH : Fld := ⟨32, 16⟩
abbrev f_TIME_STAT_ALARM : Fld := ⟨4, 1⟩
abbrev f_TIME_STAT_HOLDOVER : Fld := ⟨3, 1⟩
abbrev f_TIME_STAT_LOCKED : Fld := ⟨2, 1⟩
abbrev f_TIME_STAT_SET : Fld := ⟨1, 1⟩
abbrev f_TIME_STAT_RESTARTED : Fld := ⟨0, 1⟩
/-- TIME.STAT (R375, 13_time). -/
def a_TIME_STAT : Nat := 0x90028
def r_TIME_STAT : Reg := ⟨0x28, [], true, false, true, [⟨f_TIME_STAT_PPS_GLITCH_CNT, .rc, false, 0, .atOnce⟩, ⟨f_TIME_STAT_EPOCH, .ro, false, 0, .atOnce⟩, ⟨f_TIME_STAT_ALARM, .w1c, false, 0, .atOnce⟩, ⟨f_TIME_STAT_HOLDOVER, .ro, false, 0, .atOnce⟩, ⟨f_TIME_STAT_LOCKED, .ro, false, 0, .atOnce⟩, ⟨f_TIME_STAT_SET, .ro, false, 0, .atOnce⟩, ⟨f_TIME_STAT_RESTARTED, .ro, false, 0, .atOnce⟩]⟩
abbrev f_TIME_PPS_OUT_WIDTH_NS : Fld := ⟨32, 32⟩
abbrev f_TIME_PPS_OUT_OFS_NS : Fld := ⟨0, 30⟩
/-- TIME.PPS_OUT (R375, 13_time). -/
def a_TIME_PPS_OUT : Nat := 0x90030
def r_TIME_PPS_OUT : Reg := ⟨0x30, [], true, true, true, [⟨f_TIME_PPS_OUT_WIDTH_NS, .rw, true, 0x5f5e100, .atOnce⟩, ⟨f_TIME_PPS_OUT_OFS_NS, .rw, true, 0, .atOnce⟩]⟩
abbrev f_TIME_PPS_IN_TS_V : Fld := ⟨0, 64⟩
/-- TIME.PPS_IN_TS (R375, 13_time). -/
def a_TIME_PPS_IN_TS : Nat := 0x90038
def r_TIME_PPS_IN_TS : Reg := ⟨0x38, [], true, false, false, [⟨f_TIME_PPS_IN_TS_V, .ro, false, 0, .atOnce⟩]⟩
abbrev f_TIME_TOD_NEXT_V : Fld := ⟨0, 64⟩
/-- TIME.TOD_NEXT (R375, 13_time). -/
def a_TIME_TOD_NEXT : Nat := 0x90040
def r_TIME_TOD_NEXT : Reg := ⟨0x40, [], true, false, false, [⟨f_TIME_TOD_NEXT_V, .rw, false, 0, .atOnce⟩]⟩
abbrev f_TIME_UTC_VALID : Fld := ⟨16, 1⟩
abbrev f_TIME_UTC_OFFSET : Fld := ⟨0, 16⟩
/-- TIME.UTC (R375, 13_time). -/
def a_TIME_UTC : Nat := 0x90048
def r_TIME_UTC : Reg := ⟨0x48, [], false, false, false, [⟨f_TIME_UTC_VALID, .ro, false, 0, .atOnce⟩, ⟨f_TIME_UTC_OFFSET, .ro, false, 0, .atOnce⟩]⟩
abbrev f_TIME_PTP_CFG_DOMAIN : Fld := ⟨56, 8⟩
abbrev f_TIME_PTP_CFG_PRIORITY1 : Fld := ⟨48, 8⟩
abbrev f_TIME_PTP_CFG_PRIORITY2 : Fld := ⟨40, 8⟩
abbrev f_TIME_PTP_CFG_CLOCK_CLASS : Fld := ⟨32, 8⟩
abbrev f_TIME_PTP_CFG_LOG_SYNC : Fld := ⟨28, 4⟩
abbrev f_TIME_PTP_CFG_LOG_DELAY_REQ : Fld := ⟨24, 4⟩
abbrev f_TIME_PTP_CFG_LOG_ANNOUNCE : Fld := ⟨20, 4⟩
abbrev f_TIME_PTP_CFG_SLAVE_ONLY : Fld := ⟨5, 1⟩
abbrev f_TIME_PTP_CFG_TRANSPORT : Fld := ⟨4, 1⟩
abbrev f_TIME_PTP_CFG_PORT : Fld := ⟨2, 2⟩
abbrev f_TIME_PTP_CFG_EN : Fld := ⟨0, 1⟩
/-- TIME.PTP_CFG (R375, 13_time). -/
def a_TIME_PTP_CFG : Nat := 0x90100
def r_TIME_PTP_CFG : Reg := ⟨0x100, [], true, true, false, [⟨f_TIME_PTP_CFG_DOMAIN, .rw, true, 0, .commit .ptp⟩, ⟨f_TIME_PTP_CFG_PRIORITY1, .rw, true, 0x80, .commit .ptp⟩, ⟨f_TIME_PTP_CFG_PRIORITY2, .rw, true, 0x80, .commit .ptp⟩, ⟨f_TIME_PTP_CFG_CLOCK_CLASS, .rw, true, 0xf8, .commit .ptp⟩, ⟨f_TIME_PTP_CFG_LOG_SYNC, .rw, true, 0xd, .commit .ptp⟩, ⟨f_TIME_PTP_CFG_LOG_DELAY_REQ, .rw, true, 0xd, .commit .ptp⟩, ⟨f_TIME_PTP_CFG_LOG_ANNOUNCE, .rw, true, 1, .commit .ptp⟩, ⟨f_TIME_PTP_CFG_SLAVE_ONLY, .rw, true, 1, .commit .ptp⟩, ⟨f_TIME_PTP_CFG_TRANSPORT, .rw, true, 0, .commit .ptp⟩, ⟨f_TIME_PTP_CFG_PORT, .rw, true, 0, .commit .ptp⟩, ⟨f_TIME_PTP_CFG_EN, .rw, true, 0, .atOnce⟩]⟩
abbrev f_TIME_PTP_LAT_ASYM_NS : Fld := ⟨32, 32⟩
abbrev f_TIME_PTP_LAT_EGRESS_LAT : Fld := ⟨16, 16⟩
abbrev f_TIME_PTP_LAT_INGRESS_LAT : Fld := ⟨0, 16⟩
/-- TIME.PTP_LAT (R375, 13_time). -/
def a_TIME_PTP_LAT : Nat := 0x90108
def r_TIME_PTP_LAT : Reg := ⟨0x108, [], true, true, false, [⟨f_TIME_PTP_LAT_ASYM_NS, .rw, true, 0, .atOnce⟩, ⟨f_TIME_PTP_LAT_EGRESS_LAT, .rw, true, 0, .atOnce⟩, ⟨f_TIME_PTP_LAT_INGRESS_LAT, .rw, true, 0, .atOnce⟩]⟩
abbrev f_TIME_PTP_STAT_RX_DISCARD : Fld := ⟨48, 16⟩
abbrev f_TIME_PTP_STAT_SYNC_CNT : Fld := ⟨32, 16⟩
abbrev f_TIME_PTP_STAT_PORT_STATE : Fld := ⟨0, 4⟩
/-- TIME.PTP_STAT (R375, 13_time). -/
def a_TIME_PTP_STAT : Nat := 0x90110
def r_TIME_PTP_STAT : Reg := ⟨0x110, [], true, false, false, [⟨f_TIME_PTP_STAT_RX_DISCARD, .rc, false, 0, .atOnce⟩, ⟨f_TIME_PTP_STAT_SYNC_CNT, .rc, false, 0, .atOnce⟩, ⟨f_TIME_PTP_STAT_PORT_STATE, .ro, false, 3, .atOnce⟩]⟩
abbrev f_TIME_TT_START_V : Fld := ⟨0, 64⟩
/-- TIME.TT_START[k] (R375, 13_time). -/
def a_TIME_TT_START (k : Nat) : Nat := 0x90200 + k * 0x20
def r_TIME_TT_START : Reg := ⟨0x200, [⟨0, 8, 0x20⟩], true, false, true, [⟨f_TIME_TT_START_V, .rw, false, 0, .atOnce⟩]⟩
abbrev f_TIME_TT_CFG_EN : Fld := ⟨63, 1⟩
abbrev f_TIME_TT_CFG_ACTION : Fld := ⟨62, 1⟩
abbrev f_TIME_TT_CFG_PERIOD_NS : Fld := ⟨0, 40⟩
/-- TIME.TT_CFG[k] (R375, 13_time). -/
def a_TIME_TT_CFG (k : Nat) : Nat := 0x90208 + k * 0x20
def r_TIME_TT_CFG : Reg := ⟨0x208, [⟨0, 8, 0x20⟩], true, false, true, [⟨f_TIME_TT_CFG_EN, .rw, false, 0, .atOnce⟩, ⟨f_TIME_TT_CFG_ACTION, .rw, false, 0, .atOnce⟩, ⟨f_TIME_TT_CFG_PERIOD_NS, .rw, false, 0, .atOnce⟩]⟩
abbrev f_TIME_TT_STAT_FIRE_CNT : Fld := ⟨32, 32⟩
abbrev f_TIME_TT_STAT_MISSED : Fld := ⟨16, 16⟩
abbrev f_TIME_TT_STAT_LATE : Fld := ⟨0, 1⟩
/-- TIME.TT_STAT[k] (R375, 13_time). -/
def a_TIME_TT_STAT (k : Nat) : Nat := 0x90210 + k * 0x20
def r_TIME_TT_STAT : Reg := ⟨0x210, [⟨0, 8, 0x20⟩], true, false, false, [⟨f_TIME_TT_STAT_FIRE_CNT, .rc, false, 0, .atOnce⟩, ⟨f_TIME_TT_STAT_MISSED, .rc, false, 0, .atOnce⟩, ⟨f_TIME_TT_STAT_LATE, .w1c, false, 0, .atOnce⟩]⟩
abbrev f_TIME_LOCK_SET : Fld := ⟨0, 1⟩
/-- TIME.LOCK (R483, 19_registers_integrity). -/
def a_TIME_LOCK : Nat := 0x90ff8
def r_TIME_LOCK : Reg := ⟨0xff8, [], false, false, true, [⟨f_TIME_LOCK_SET, .w1s, false, 0, .atOnce⟩]⟩

/-- The registers of a TIME block, in rising offset. -/
def regs_TIME : List Reg :=
  [r_TIME_NOW, r_TIME_CTRL, r_TIME_RATE, r_TIME_OFFSET, r_TIME_STAT, r_TIME_PPS_OUT, r_TIME_PPS_IN_TS, r_TIME_TOD_NEXT, r_TIME_UTC, r_TIME_PTP_CFG, r_TIME_PTP_LAT, r_TIME_PTP_STAT] ++
  [r_TIME_TT_START, r_TIME_TT_CFG, r_TIME_TT_STAT, r_TIME_LOCK]

abbrev f_BAL_ACTIVE_BUDGETS : Fld := ⟨0, 64⟩
/-- BAL.ACTIVE[c] (R74, 02_modes_and_ballast). -/
def a_BAL_ACTIVE (c : Nat) : Nat := 0xa0100 + c * 8
def r_BAL_ACTIVE : Reg := ⟨0x100, [⟨0, 24, 8⟩], true, false, false, [⟨f_BAL_ACTIVE_BUDGETS, .ro, false, 0, .atOnce⟩]⟩
abbrev f_BAL_STAT_SHORT_CNT : Fld := ⟨32, 32⟩
abbrev f_BAL_STAT_STALL_CNT : Fld := ⟨0, 32⟩
/-- BAL.STAT[c] (R74, 02_modes_and_ballast). -/
def a_BAL_STAT (c : Nat) : Nat := 0xa0200 + c * 8
def r_BAL_STAT : Reg := ⟨0x200, [⟨0, 24, 8⟩], true, false, false, [⟨f_BAL_STAT_SHORT_CNT, .rc, false, 0, .atOnce⟩, ⟨f_BAL_STAT_STALL_CNT, .rc, false, 0, .atOnce⟩]⟩
abbrev f_BAL_LOCK_SET : Fld := ⟨0, 1⟩
/-- BAL.LOCK (R483, 19_registers_integrity). -/
def a_BAL_LOCK : Nat := 0xa0ff8
def r_BAL_LOCK : Reg := ⟨0xff8, [], false, false, true, [⟨f_BAL_LOCK_SET, .w1s, false, 0, .atOnce⟩]⟩
abbrev f_BAL_PROFILE_DMA : Fld := ⟨48, 16⟩
abbrev f_BAL_PROFILE_KEEL : Fld := ⟨32, 16⟩
abbrev f_BAL_PROFILE_THA : Fld := ⟨16, 16⟩
abbrev f_BAL_PROFILE_HBM : Fld := ⟨0, 16⟩
/-- BAL.PROFILE[m][c] (R74, 02_modes_and_ballast). -/
def a_BAL_PROFILE (m c : Nat) : Nat := 0xa1000 + m * 0x100 + c * 8
def r_BAL_PROFILE : Reg := ⟨0x1000, [⟨0, 8, 0x100⟩, ⟨0, 24, 8⟩], true, true, true, [⟨f_BAL_PROFILE_DMA, .rw, true, 0, .commit .bal⟩, ⟨f_BAL_PROFILE_KEEL, .rw, true, 0, .commit .bal⟩, ⟨f_BAL_PROFILE_THA, .rw, true, 0, .commit .bal⟩, ⟨f_BAL_PROFILE_HBM, .rw, true, 0, .commit .bal⟩]⟩

/-- The registers of a BAL block, in rising offset. -/
def regs_BAL : List Reg :=
  [r_BAL_ACTIVE, r_BAL_STAT, r_BAL_LOCK, r_BAL_PROFILE]

abbrev f_CAL_STORE_STAT_GEN : Fld := ⟨32, 32⟩
abbrev f_CAL_STORE_STAT_ITEMS : Fld := ⟨16, 16⟩
abbrev f_CAL_STORE_STAT_PENDING : Fld := ⟨2, 1⟩
abbrev f_CAL_STORE_STAT_DIRTY : Fld := ⟨1, 1⟩
abbrev f_CAL_STORE_STAT_COPY : Fld := ⟨0, 1⟩
/-- CAL.STORE_STAT (R525, 20_in_service). -/
def a_CAL_STORE_STAT : Nat := 0xb0000
def r_CAL_STORE_STAT : Reg := ⟨0, [], true, false, false, [⟨f_CAL_STORE_STAT_GEN, .ro, false, 0, .atOnce⟩, ⟨f_CAL_STORE_STAT_ITEMS, .ro, false, 0, .atOnce⟩, ⟨f_CAL_STORE_STAT_PENDING, .ro, false, 0, .atOnce⟩, ⟨f_CAL_STORE_STAT_DIRTY, .ro, false, 0, .atOnce⟩, ⟨f_CAL_STORE_STAT_COPY, .ro, false, 0, .atOnce⟩]⟩
abbrev f_CAL_SVC_STAT_OPCODE : Fld := ⟨48, 16⟩
abbrev f_CAL_SVC_STAT_PHASE : Fld := ⟨40, 8⟩
abbrev f_CAL_SVC_STAT_TARGET : Fld := ⟨32, 8⟩
abbrev f_CAL_SVC_STAT_DIFF : Fld := ⟨0, 32⟩
/-- CAL.SVC_STAT (R525, 20_in_service). -/
def a_CAL_SVC_STAT : Nat := 0xb0008
def r_CAL_SVC_STAT : Reg := ⟨8, [], true, false, false, [⟨f_CAL_SVC_STAT_OPCODE, .ro, false, 0, .atOnce⟩, ⟨f_CAL_SVC_STAT_PHASE, .ro, false, 0, .atOnce⟩, ⟨f_CAL_SVC_STAT_TARGET, .ro, false, 0, .atOnce⟩, ⟨f_CAL_SVC_STAT_DIFF, .ro, false, 0, .atOnce⟩]⟩
abbrev f_CAL_SRAM_STAT_REPAIRS : Fld := ⟨32, 32⟩
abbrev f_CAL_SRAM_STAT_PENDING : Fld := ⟨16, 16⟩
abbrev f_CAL_SRAM_STAT_EXHAUSTED : Fld := ⟨0, 1⟩
/-- CAL.SRAM_STAT (R525, 20_in_service). -/
def a_CAL_SRAM_STAT : Nat := 0xb0010
def r_CAL_SRAM_STAT : Reg := ⟨0x10, [], true, false, false, [⟨f_CAL_SRAM_STAT_REPAIRS, .ro, false, 0, .atOnce⟩, ⟨f_CAL_SRAM_STAT_PENDING, .ro, false, 0, .atOnce⟩, ⟨f_CAL_SRAM_STAT_EXHAUSTED, .w1c, false, 0, .atOnce⟩]⟩
abbrev f_CAL_LOCK_SET : Fld := ⟨0, 1⟩
/-- CAL.LOCK (R483, 19_registers_integrity). -/
def a_CAL_LOCK : Nat := 0xb0ff8
def r_CAL_LOCK : Reg := ⟨0xff8, [], false, false, true, [⟨f_CAL_LOCK_SET, .w1s, false, 0, .atOnce⟩]⟩

/-- The registers of a CAL block, in rising offset. -/
def regs_CAL : List Reg :=
  [r_CAL_STORE_STAT, r_CAL_SVC_STAT, r_CAL_SRAM_STAT, r_CAL_LOCK]

abbrev f_THM_TJ_SENSOR : Fld := ⟨16, 6⟩
abbrev f_THM_TJ_TJ : Fld := ⟨0, 16⟩
/-- THM.TJ (R546, 21_electrical). -/
def a_THM_TJ : Nat := 0xc0000
def r_THM_TJ : Reg := ⟨0, [], false, false, true, [⟨f_THM_TJ_SENSOR, .ro, false, 0, .atOnce⟩, ⟨f_THM_TJ_TJ, .ro, false, 0, .atOnce⟩]⟩
abbrev f_THM_CFG_THROTTLE_C : Fld := ⟨8, 8⟩
abbrev f_THM_CFG_WARN_C : Fld := ⟨0, 8⟩
/-- THM.CFG (R546, 21_electrical). -/
def a_THM_CFG : Nat := 0xc0008
def r_THM_CFG : Reg := ⟨8, [], false, true, true, [⟨f_THM_CFG_THROTTLE_C, .rw, true, 0x61, .atOnce⟩, ⟨f_THM_CFG_WARN_C, .rw, true, 0x5a, .atOnce⟩]⟩
abbrev f_THM_STAT_PEAK : Fld := ⟨48, 16⟩
abbrev f_THM_STAT_THROTTLE_S : Fld := ⟨32, 16⟩
abbrev f_THM_STAT_INVALID : Fld := ⟨24, 8⟩
abbrev f_THM_STAT_TRIPPED : Fld := ⟨3, 1⟩
abbrev f_THM_STAT_HOT : Fld := ⟨2, 1⟩
abbrev f_THM_STAT_THROTTLE : Fld := ⟨1, 1⟩
abbrev f_THM_STAT_WARN : Fld := ⟨0, 1⟩
/-- THM.STAT (R546, 21_electrical). -/
def a_THM_STAT : Nat := 0xc0010
def r_THM_STAT : Reg := ⟨0x10, [], true, false, false, [⟨f_THM_STAT_PEAK, .rc, false, 0, .atOnce⟩, ⟨f_THM_STAT_THROTTLE_S, .rc, false, 0, .atOnce⟩, ⟨f_THM_STAT_INVALID, .ro, false, 0, .atOnce⟩, ⟨f_THM_STAT_TRIPPED, .w1c, false, 0, .atOnce⟩, ⟨f_THM_STAT_HOT, .ro, false, 0, .atOnce⟩, ⟨f_THM_STAT_THROTTLE, .ro, false, 0, .atOnce⟩, ⟨f_THM_STAT_WARN, .ro, false, 0, .atOnce⟩]⟩
abbrev f_THM_TEMP_VALID : Fld := ⟨31, 1⟩
abbrev f_THM_TEMP_T : Fld := ⟨0, 16⟩
/-- THM.TEMP[i] (R546, 21_electrical). -/
def a_THM_TEMP (i : Nat) : Nat := 0xc0100 + i * 4
def r_THM_TEMP : Reg := ⟨0x100, [⟨0, 40, 4⟩], false, false, false, [⟨f_THM_TEMP_VALID, .ro, false, 0, .atOnce⟩, ⟨f_THM_TEMP_T, .ro, false, 0, .atOnce⟩]⟩
abbrev f_THM_LOCK_SET : Fld := ⟨0, 1⟩
/-- THM.LOCK (R483, 19_registers_integrity). -/
def a_THM_LOCK : Nat := 0xc0ff8
def r_THM_LOCK : Reg := ⟨0xff8, [], false, false, true, [⟨f_THM_LOCK_SET, .w1s, false, 0, .atOnce⟩]⟩

/-- The registers of a THM block, in rising offset. -/
def regs_THM : List Reg :=
  [r_THM_TJ, r_THM_CFG, r_THM_STAT, r_THM_TEMP, r_THM_LOCK]

abbrev f_PIPE_ROLE_PORT : Fld := ⟨8, 4⟩
abbrev f_PIPE_ROLE_ROLE : Fld := ⟨0, 3⟩
/-- PIPE.ROLE (R189, 06_pixel_pipeline). -/
def a_PIPE_ROLE (n : Nat) : Nat := 0x100000 + n * 0x10000
def r_PIPE_ROLE : Reg := ⟨0, [], false, false, true, [⟨f_PIPE_ROLE_PORT, .ro, false, 0, .course⟩, ⟨f_PIPE_ROLE_ROLE, .ro, false, 0, .course⟩]⟩
abbrev f_PIPE_FFC_CTRL_MAX_RUN : Fld := ⟨4, 3⟩
abbrev f_PIPE_FFC_CTRL_DPR_EN : Fld := ⟨1, 1⟩
abbrev f_PIPE_FFC_CTRL_EN : Fld := ⟨0, 1⟩
/-- PIPE.FFC_CTRL (R189, 06_pixel_pipeline). -/
def a_PIPE_FFC_CTRL (n : Nat) : Nat := 0x100008 + n * 0x10000
def r_PIPE_FFC_CTRL : Reg := ⟨8, [], false, true, true, [⟨f_PIPE_FFC_CTRL_MAX_RUN, .rw, true, 2, .course⟩, ⟨f_PIPE_FFC_CTRL_DPR_EN, .rw, true, 1, .course⟩, ⟨f_PIPE_FFC_CTRL_EN, .rw, true, 1, .course⟩]⟩
abbrev f_PIPE_COEF_CTRL_ERR : Fld := ⟨12, 4⟩
abbrev f_PIPE_COEF_CTRL_IN_FORCE : Fld := ⟨8, 1⟩
abbrev f_PIPE_COEF_CTRL_LOADED : Fld := ⟨4, 2⟩
abbrev f_PIPE_COEF_CTRL_WIDE : Fld := ⟨3, 1⟩
abbrev f_PIPE_COEF_CTRL_MARK : Fld := ⟨2, 1⟩
abbrev f_PIPE_COEF_CTRL_SWAP : Fld := ⟨0, 1⟩
/-- PIPE.COEF_CTRL (R189, 06_pixel_pipeline). -/
def a_PIPE_COEF_CTRL (n : Nat) : Nat := 0x100010 + n * 0x10000
def r_PIPE_COEF_CTRL : Reg := ⟨0x10, [], false, false, true, [⟨f_PIPE_COEF_CTRL_ERR, .ro, false, 0, .atOnce⟩, ⟨f_PIPE_COEF_CTRL_IN_FORCE, .ro, false, 0, .course⟩, ⟨f_PIPE_COEF_CTRL_LOADED, .ro, false, 3, .atOnce⟩, ⟨f_PIPE_COEF_CTRL_WIDE, .rw, true, 0, .reset⟩, ⟨f_PIPE_COEF_CTRL_MARK, .w1s, false, 0, .atOnce⟩, ⟨f_PIPE_COEF_CTRL_SWAP, .w1s, false, 0, .course⟩]⟩
abbrev f_PIPE_LG_CFG_LG_MAX : Fld := ⟨48, 16⟩
abbrev f_PIPE_LG_CFG_LG_MIN : Fld := ⟨32, 16⟩
abbrev f_PIPE_LG_CFG_REF : Fld := ⟨8, 24⟩
abbrev f_PIPE_LG_CFG_SLOT : Fld := ⟨1, 2⟩
abbrev f_PIPE_LG_CFG_EN : Fld := ⟨0, 1⟩
/-- PIPE.LG_CFG (R189, 06_pixel_pipeline). -/
def a_PIPE_LG_CFG (n : Nat) : Nat := 0x100018 + n * 0x10000
def r_PIPE_LG_CFG : Reg := ⟨0x18, [], true, true, true, [⟨f_PIPE_LG_CFG_LG_MAX, .rw, true, 0x8000, .course⟩, ⟨f_PIPE_LG_CFG_LG_MIN, .rw, true, 0x2000, .course⟩, ⟨f_PIPE_LG_CFG_REF, .rw, true, 0, .course⟩, ⟨f_PIPE_LG_CFG_SLOT, .rw, true, 0, .course⟩, ⟨f_PIPE_LG_CFG_EN, .rw, true, 0, .course⟩]⟩
abbrev f_PIPE_ALIGN_CFG_ALIGN_LAG : Fld := ⟨24, 5⟩
abbrev f_PIPE_ALIGN_CFG_IN_SLOTS : Fld := ⟨20, 4⟩
abbrev f_PIPE_ALIGN_CFG_ROW_DELAY : Fld := ⟨0, 11⟩
/-- PIPE.ALIGN_CFG (R189, 06_pixel_pipeline). -/
def a_PIPE_ALIGN_CFG (n : Nat) : Nat := 0x100020 + n * 0x10000
def r_PIPE_ALIGN_CFG : Reg := ⟨0x20, [], false, true, true, [⟨f_PIPE_ALIGN_CFG_ALIGN_LAG, .ro, false, 0, .commit .entry⟩, ⟨f_PIPE_ALIGN_CFG_IN_SLOTS, .rw, true, 4, .commit .entry⟩, ⟨f_PIPE_ALIGN_CFG_ROW_DELAY, .rw, true, 0, .commit .entry⟩]⟩
abbrev f_PIPE_WB_WB_B : Fld := ⟨32, 16⟩
abbrev f_PIPE_WB_WB_G : Fld := ⟨16, 16⟩
abbrev f_PIPE_WB_WB_R : Fld := ⟨0, 16⟩
/-- PIPE.WB (R189, 06_pixel_pipeline). -/
def a_PIPE_WB (n : Nat) : Nat := 0x100028 + n * 0x10000
def r_PIPE_WB : Reg := ⟨0x28, [], true, true, true, [⟨f_PIPE_WB_WB_B, .rw, true, 0x4000, .course⟩, ⟨f_PIPE_WB_WB_G, .rw, true, 0x4000, .course⟩, ⟨f_PIPE_WB_WB_R, .rw, true, 0x4000, .course⟩]⟩
abbrev f_PIPE_MIX_K_B : Fld := ⟨32, 16⟩
abbrev f_PIPE_MIX_K_G : Fld := ⟨16, 16⟩
abbrev f_PIPE_MIX_K_R : Fld := ⟨0, 16⟩
/-- PIPE.MIX (R189, 06_pixel_pipeline). -/
def a_PIPE_MIX (n : Nat) : Nat := 0x100030 + n * 0x10000
def r_PIPE_MIX : Reg := ⟨0x30, [], true, true, true, [⟨f_PIPE_MIX_K_B, .rw, true, 0, .course⟩, ⟨f_PIPE_MIX_K_G, .rw, true, 0, .course⟩, ⟨f_PIPE_MIX_K_R, .rw, true, 0x4000, .course⟩]⟩
abbrev f_PIPE_STAT_CFG_STAT_RING : Fld := ⟨16, 12⟩
abbrev f_PIPE_STAT_CFG_HIST_SRC : Fld := ⟨1, 2⟩
abbrev f_PIPE_STAT_CFG_EN : Fld := ⟨0, 1⟩
/-- PIPE.STAT_CFG (R189, 06_pixel_pipeline). -/
def a_PIPE_STAT_CFG (n : Nat) : Nat := 0x100038 + n * 0x10000
def r_PIPE_STAT_CFG : Reg := ⟨0x38, [], false, true, true, [⟨f_PIPE_STAT_CFG_STAT_RING, .rw, true, 0, .course⟩, ⟨f_PIPE_STAT_CFG_HIST_SRC, .rw, true, 0, .course⟩, ⟨f_PIPE_STAT_CFG_EN, .rw, true, 1, .course⟩]⟩
abbrev f_PIPE_RS_CFG_N_M1 : Fld := ⟨48, 15⟩
abbrev f_PIPE_RS_CFG_G0 : Fld := ⟨16, 19⟩
abbrev f_PIPE_RS_CFG_EN : Fld := ⟨0, 1⟩
/-- PIPE.RS_CFG (R189, 06_pixel_pipeline). -/
def a_PIPE_RS_CFG (n : Nat) : Nat := 0x100040 + n * 0x10000
def r_PIPE_RS_CFG : Reg := ⟨0x40, [], true, true, true, [⟨f_PIPE_RS_CFG_N_M1, .rw, true, 0, .course⟩, ⟨f_PIPE_RS_CFG_G0, .rw, true, 0, .course⟩, ⟨f_PIPE_RS_CFG_EN, .rw, true, 0, .course⟩]⟩
abbrev f_PIPE_RS_C0_V : Fld := ⟨0, 64⟩
/-- PIPE.RS_C0 (R189, 06_pixel_pipeline). -/
def a_PIPE_RS_C0 (n : Nat) : Nat := 0x100048 + n * 0x10000
def r_PIPE_RS_C0 : Reg := ⟨0x48, [], true, true, true, [⟨f_PIPE_RS_C0_V, .rw, true, 0, .course⟩]⟩
abbrev f_PIPE_RS_C1_V : Fld := ⟨0, 64⟩
/-- PIPE.RS_C1 (R189, 06_pixel_pipeline). -/
def a_PIPE_RS_C1 (n : Nat) : Nat := 0x100050 + n * 0x10000
def r_PIPE_RS_C1 : Reg := ⟨0x50, [], true, true, true, [⟨f_PIPE_RS_C1_V, .rw, true, 0, .course⟩]⟩
abbrev f_PIPE_RS_C2_V : Fld := ⟨0, 64⟩
/-- PIPE.RS_C2 (R189, 06_pixel_pipeline). -/
def a_PIPE_RS_C2 (n : Nat) : Nat := 0x100058 + n * 0x10000
def r_PIPE_RS_C2 : Reg := ⟨0x58, [], true, true, true, [⟨f_PIPE_RS_C2_V, .rw, true, 0, .course⟩]⟩
abbrev f_PIPE_RS_C3_V : Fld := ⟨0, 64⟩
/-- PIPE.RS_C3 (R189, 06_pixel_pipeline). -/
def a_PIPE_RS_C3 (n : Nat) : Nat := 0x100060 + n * 0x10000
def r_PIPE_RS_C3 : Reg := ⟨0x60, [], true, true, true, [⟨f_PIPE_RS_C3_V, .rw, true, 0, .course⟩]⟩
abbrev f_PIPE_STAT0_VOID_CNT : Fld := ⟨48, 16⟩
abbrev f_PIPE_STAT0_OVF_CNT : Fld := ⟨32, 16⟩
abbrev f_PIPE_STAT0_LG_HOLD_CNT : Fld := ⟨16, 16⟩
abbrev f_PIPE_STAT0_SAT_CNT : Fld := ⟨0, 16⟩
/-- PIPE.STAT0 (R189, 06_pixel_pipeline). -/
def a_PIPE_STAT0 (n : Nat) : Nat := 0x100100 + n * 0x10000
def r_PIPE_STAT0 : Reg := ⟨0x100, [], true, false, false, [⟨f_PIPE_STAT0_VOID_CNT, .rc, false, 0, .atOnce⟩, ⟨f_PIPE_STAT0_OVF_CNT, .rc, false, 0, .atOnce⟩, ⟨f_PIPE_STAT0_LG_HOLD_CNT, .rc, false, 0, .atOnce⟩, ⟨f_PIPE_STAT0_SAT_CNT, .rc, false, 0, .atOnce⟩]⟩
abbrev f_PIPE_STAT1_DPR_REPL : Fld := ⟨32, 32⟩
abbrev f_PIPE_STAT1_DPR_INVALID : Fld := ⟨16, 16⟩
abbrev f_PIPE_STAT1_TURN_CNT : Fld := ⟨0, 16⟩
/-- PIPE.STAT1 (R189, 06_pixel_pipeline). -/
def a_PIPE_STAT1 (n : Nat) : Nat := 0x100108 + n * 0x10000
def r_PIPE_STAT1 : Reg := ⟨0x108, [], true, false, false, [⟨f_PIPE_STAT1_DPR_REPL, .rc, false, 0, .atOnce⟩, ⟨f_PIPE_STAT1_DPR_INVALID, .rc, false, 0, .atOnce⟩, ⟨f_PIPE_STAT1_TURN_CNT, .rc, false, 0, .atOnce⟩]⟩
abbrev f_PIPE_BATTEN_IN_PEAK : Fld := ⟨8, 7⟩
abbrev f_PIPE_BATTEN_SLOTS : Fld := ⟨0, 7⟩
/-- PIPE.BATTEN (R189, 06_pixel_pipeline). -/
def a_PIPE_BATTEN (n : Nat) : Nat := 0x100110 + n * 0x10000
def r_PIPE_BATTEN : Reg := ⟨0x110, [], false, false, false, [⟨f_PIPE_BATTEN_IN_PEAK, .rc, false, 0, .atOnce⟩, ⟨f_PIPE_BATTEN_SLOTS, .ro, false, 0, .commit .entry⟩]⟩
abbrev f_PIPE_LOCK_SET : Fld := ⟨0, 1⟩
/-- PIPE.LOCK (R483, 19_registers_integrity). -/
def a_PIPE_LOCK (n : Nat) : Nat := 0x100ff8 + n * 0x10000
def r_PIPE_LOCK : Reg := ⟨0xff8, [], false, false, true, [⟨f_PIPE_LOCK_SET, .w1s, false, 0, .atOnce⟩]⟩

/-- The registers of a PIPE block, in rising offset. -/
def regs_PIPE : List Reg :=
  [r_PIPE_ROLE, r_PIPE_FFC_CTRL, r_PIPE_COEF_CTRL, r_PIPE_LG_CFG, r_PIPE_ALIGN_CFG, r_PIPE_WB, r_PIPE_MIX, r_PIPE_STAT_CFG, r_PIPE_RS_CFG, r_PIPE_RS_C0, r_PIPE_RS_C1, r_PIPE_RS_C2] ++
  [r_PIPE_RS_C3, r_PIPE_STAT0, r_PIPE_STAT1, r_PIPE_BATTEN, r_PIPE_LOCK]

abbrev f_MOS_GRID_PITCH_NM : Fld := ⟨32, 20⟩
abbrev f_MOS_GRID_WIDTH_M1 : Fld := ⟨0, 19⟩
/-- MOS.GRID (R215, 07_stitching). -/
def a_MOS_GRID : Nat := 0x300000
def r_MOS_GRID : Reg := ⟨0, [], true, true, true, [⟨f_MOS_GRID_PITCH_NM, .rw, true, 0, .commit .entryStandby⟩, ⟨f_MOS_GRID_WIDTH_M1, .rw, true, 0, .commit .entryStandby⟩]⟩
abbrev f_MOS_CFG_ANCHOR : Fld := ⟨12, 4⟩
abbrev f_MOS_CFG_ANCHOR_AUTO : Fld := ⟨11, 1⟩
abbrev f_MOS_CFG_MD_MAX : Fld := ⟨8, 3⟩
abbrev f_MOS_CFG_BORROW_EN : Fld := ⟨3, 1⟩
abbrev f_MOS_CFG_CD_REF : Fld := ⟨2, 1⟩
abbrev f_MOS_CFG_OS_SIDE : Fld := ⟨1, 1⟩
abbrev f_MOS_CFG_REG_EN : Fld := ⟨0, 1⟩
/-- MOS.CFG (R215, 07_stitching). -/
def a_MOS_CFG : Nat := 0x300008
def r_MOS_CFG : Reg := ⟨8, [], false, true, true, [⟨f_MOS_CFG_ANCHOR, .rw, true, 0, .commit .entry⟩, ⟨f_MOS_CFG_ANCHOR_AUTO, .rw, true, 1, .commit .entry⟩, ⟨f_MOS_CFG_MD_MAX, .rw, true, 2, .commit .entry⟩, ⟨f_MOS_CFG_BORROW_EN, .rw, true, 1, .course⟩, ⟨f_MOS_CFG_CD_REF, .rw, true, 0, .course⟩, ⟨f_MOS_CFG_OS_SIDE, .rw, true, 0, .commit .entry⟩, ⟨f_MOS_CFG_REG_EN, .rw, true, 1, .course⟩]⟩
abbrev f_MOS_DATUM_V : Fld := ⟨0, 64⟩
/-- MOS.DATUM (R215, 07_stitching). -/
def a_MOS_DATUM : Nat := 0x300010
def r_MOS_DATUM : Reg := ⟨0x10, [], true, true, true, [⟨f_MOS_DATUM_V, .rw, true, 0, .course⟩]⟩
abbrev f_MOS_REG_CFG0_CONF_MIN : Fld := ⟨48, 16⟩
abbrev f_MOS_REG_CFG0_STEP_Y : Fld := ⟨40, 8⟩
abbrev f_MOS_REG_CFG0_STEP_X : Fld := ⟨32, 8⟩
abbrev f_MOS_REG_CFG0_TEX_MIN : Fld := ⟨24, 8⟩
abbrev f_MOS_REG_CFG0_CORR_COLS : Fld := ⟨15, 9⟩
abbrev f_MOS_REG_CFG0_SR_Y : Fld := ⟨4, 2⟩
abbrev f_MOS_REG_CFG0_SR_X : Fld := ⟨0, 4⟩
/-- MOS.REG_CFG0 (R215, 07_stitching). -/
def a_MOS_REG_CFG0 : Nat := 0x300018
def r_MOS_REG_CFG0 : Reg := ⟨0x18, [], true, true, true, [⟨f_MOS_REG_CFG0_CONF_MIN, .rw, true, 0x8000, .course⟩, ⟨f_MOS_REG_CFG0_STEP_Y, .rw, true, 4, .course⟩, ⟨f_MOS_REG_CFG0_STEP_X, .rw, true, 4, .course⟩, ⟨f_MOS_REG_CFG0_TEX_MIN, .rw, true, 8, .course⟩, ⟨f_MOS_REG_CFG0_CORR_COLS, .rw, true, 0x80, .course⟩, ⟨f_MOS_REG_CFG0_SR_Y, .rw, true, 1, .course⟩, ⟨f_MOS_REG_CFG0_SR_X, .rw, true, 4, .course⟩]⟩
abbrev f_MOS_REG_CFG1_LIMIT_Y : Fld := ⟨48, 16⟩
abbrev f_MOS_REG_CFG1_LIMIT_X : Fld := ⟨32, 16⟩
abbrev f_MOS_REG_CFG1_PAIRS_MIN : Fld := ⟨0, 32⟩
/-- MOS.REG_CFG1 (R215, 07_stitching). -/
def a_MOS_REG_CFG1 : Nat := 0x300020
def r_MOS_REG_CFG1 : Reg := ⟨0x20, [], true, true, true, [⟨f_MOS_REG_CFG1_LIMIT_Y, .rw, true, 0x100, .course⟩, ⟨f_MOS_REG_CFG1_LIMIT_X, .rw, true, 0x100, .course⟩, ⟨f_MOS_REG_CFG1_PAIRS_MIN, .rw, true, 0x2000, .course⟩]⟩
abbrev f_MOS_EDGE_CFG_LOST_LINES : Fld := ⟨48, 16⟩
abbrev f_MOS_EDGE_CFG_WIN : Fld := ⟨32, 16⟩
abbrev f_MOS_EDGE_CFG_THR : Fld := ⟨16, 16⟩
abbrev f_MOS_EDGE_CFG_RUN : Fld := ⟨11, 5⟩
abbrev f_MOS_EDGE_CFG_FILT_SHIFT : Fld := ⟨7, 4⟩
abbrev f_MOS_EDGE_CFG_POL : Fld := ⟨3, 1⟩
abbrev f_MOS_EDGE_CFG_EN_DS : Fld := ⟨1, 1⟩
abbrev f_MOS_EDGE_CFG_EN_OS : Fld := ⟨0, 1⟩
/-- MOS.EDGE_CFG (R215, 07_stitching). -/
def a_MOS_EDGE_CFG : Nat := 0x300028
def r_MOS_EDGE_CFG : Reg := ⟨0x28, [], true, true, true, [⟨f_MOS_EDGE_CFG_LOST_LINES, .rw, true, 0x40, .course⟩, ⟨f_MOS_EDGE_CFG_WIN, .rw, true, 0x100, .course⟩, ⟨f_MOS_EDGE_CFG_THR, .rw, true, 0, .course⟩, ⟨f_MOS_EDGE_CFG_RUN, .rw, true, 8, .course⟩, ⟨f_MOS_EDGE_CFG_FILT_SHIFT, .rw, true, 4, .course⟩, ⟨f_MOS_EDGE_CFG_POL, .rw, true, 0, .course⟩, ⟨f_MOS_EDGE_CFG_EN_DS, .rw, true, 1, .course⟩, ⟨f_MOS_EDGE_CFG_EN_OS, .rw, true, 1, .course⟩]⟩
abbrev f_MOS_EDGE_POS_RAW_Q : Fld := ⟨32, 32⟩
abbrev f_MOS_EDGE_POS_FILT_Q : Fld := ⟨0, 32⟩
/-- MOS.EDGE_POS[k] (R215, 07_stitching). -/
def a_MOS_EDGE_POS (k : Nat) : Nat := 0x300030 + k * 8
def r_MOS_EDGE_POS : Reg := ⟨0x30, [⟨0, 2, 8⟩], true, false, false, [⟨f_MOS_EDGE_POS_RAW_Q, .ro, false, 0x80000000, .atOnce⟩, ⟨f_MOS_EDGE_POS_FILT_Q, .ro, false, 0x80000000, .atOnce⟩]⟩
abbrev f_MOS_LANE_CFG_LANE_ERR : Fld := ⟨8, 1⟩
abbrev f_MOS_LANE_CFG_N_LANES : Fld := ⟨0, 7⟩
/-- MOS.LANE_CFG (R215, 07_stitching). -/
def a_MOS_LANE_CFG : Nat := 0x300040
def r_MOS_LANE_CFG : Reg := ⟨0x40, [], false, true, true, [⟨f_MOS_LANE_CFG_LANE_ERR, .w1c, false, 0, .atOnce⟩, ⟨f_MOS_LANE_CFG_N_LANES, .rw, true, 0, .course⟩]⟩
abbrev f_MOS_REC_CFG_EN : Fld := ⟨31, 1⟩
abbrev f_MOS_REC_CFG_RING : Fld := ⟨16, 12⟩
/-- MOS.REC_CFG (R215, 07_stitching). -/
def a_MOS_REC_CFG : Nat := 0x300048
def r_MOS_REC_CFG : Reg := ⟨0x48, [], false, true, true, [⟨f_MOS_REC_CFG_EN, .rw, true, 1, .course⟩, ⟨f_MOS_REC_CFG_RING, .rw, true, 0, .course⟩]⟩
abbrev f_MOS_STAT_VOID_LINE_CNT : Fld := ⟨48, 16⟩
abbrev f_MOS_STAT_EDGE_LOST_CNT : Fld := ⟨32, 16⟩
abbrev f_MOS_STAT_SEAM_TURN_CNT : Fld := ⟨16, 16⟩
abbrev f_MOS_STAT_MD_EXTRAP_CNT : Fld := ⟨0, 16⟩
/-- MOS.STAT (R215, 07_stitching). -/
def a_MOS_STAT : Nat := 0x300050
def r_MOS_STAT : Reg := ⟨0x50, [], true, false, false, [⟨f_MOS_STAT_VOID_LINE_CNT, .rc, false, 0, .atOnce⟩, ⟨f_MOS_STAT_EDGE_LOST_CNT, .rc, false, 0, .atOnce⟩, ⟨f_MOS_STAT_SEAM_TURN_CNT, .rc, false, 0, .atOnce⟩, ⟨f_MOS_STAT_MD_EXTRAP_CNT, .rc, false, 0, .atOnce⟩]⟩
abbrev f_MOS_SEAM_CFG_MODE : Fld := ⟨62, 2⟩
abbrev f_MOS_SEAM_CFG_STATIC_Y : Fld := ⟨32, 16⟩
abbrev f_MOS_SEAM_CFG_STATIC_X : Fld := ⟨16, 16⟩
abbrev f_MOS_SEAM_CFG_POS : Fld := ⟨0, 16⟩
/-- MOS.SEAM_CFG[s] (R215, 07_stitching). -/
def a_MOS_SEAM_CFG (s : Nat) : Nat := 0x300200 + s * 0x20
def r_MOS_SEAM_CFG : Reg := ⟨0x200, [⟨0, 15, 0x20⟩], true, true, true, [⟨f_MOS_SEAM_CFG_MODE, .rw, true, 0, .course⟩, ⟨f_MOS_SEAM_CFG_STATIC_Y, .rw, true, 0, .course⟩, ⟨f_MOS_SEAM_CFG_STATIC_X, .rw, true, 0, .course⟩, ⟨f_MOS_SEAM_CFG_POS, .rw, true, 0, .course⟩]⟩
abbrev f_MOS_SEAM_STAT_SCORE : Fld := ⟨48, 16⟩
abbrev f_MOS_SEAM_STAT_REASON : Fld := ⟨44, 4⟩
abbrev f_MOS_SEAM_STAT_FLAGS : Fld := ⟨40, 4⟩
abbrev f_MOS_SEAM_STAT_APP_Y : Fld := ⟨16, 16⟩
abbrev f_MOS_SEAM_STAT_APP_X : Fld := ⟨0, 16⟩
/-- MOS.SEAM_STAT[s] (R215, 07_stitching). -/
def a_MOS_SEAM_STAT (s : Nat) : Nat := 0x300208 + s * 0x20
def r_MOS_SEAM_STAT : Reg := ⟨0x208, [⟨0, 15, 0x20⟩], true, false, true, [⟨f_MOS_SEAM_STAT_SCORE, .ro, false, 0, .atOnce⟩, ⟨f_MOS_SEAM_STAT_REASON, .ro, false, 0, .atOnce⟩, ⟨f_MOS_SEAM_STAT_FLAGS, .ro, false, 0, .atOnce⟩, ⟨f_MOS_SEAM_STAT_APP_Y, .ro, false, 0, .course⟩, ⟨f_MOS_SEAM_STAT_APP_X, .ro, false, 0, .course⟩]⟩
abbrev f_MOS_SEAM_POS_BORROW_CNT : Fld := ⟨40, 24⟩
abbrev f_MOS_SEAM_POS_RIGHT_PORT : Fld := ⟨36, 4⟩
abbrev f_MOS_SEAM_POS_LEFT_PORT : Fld := ⟨32, 4⟩
abbrev f_MOS_SEAM_POS_SEAM_COL : Fld := ⟨0, 19⟩
/-- MOS.SEAM_POS[s] (R215, 07_stitching). -/
def a_MOS_SEAM_POS (s : Nat) : Nat := 0x300210 + s * 0x20
def r_MOS_SEAM_POS : Reg := ⟨0x210, [⟨0, 15, 0x20⟩], true, false, false, [⟨f_MOS_SEAM_POS_BORROW_CNT, .rc, false, 0, .atOnce⟩, ⟨f_MOS_SEAM_POS_RIGHT_PORT, .ro, false, 0, .course⟩, ⟨f_MOS_SEAM_POS_LEFT_PORT, .ro, false, 0, .course⟩, ⟨f_MOS_SEAM_POS_SEAM_COL, .ro, false, 0, .course⟩]⟩
abbrev f_MOS_CAM_D_DY : Fld := ⟨16, 16⟩
abbrev f_MOS_CAM_D_DX : Fld := ⟨0, 16⟩
/-- MOS.CAM_D[p] (R215, 07_stitching). -/
def a_MOS_CAM_D (p : Nat) : Nat := 0x300400 + p * 8
def r_MOS_CAM_D : Reg := ⟨0x400, [⟨0, 16, 8⟩], false, false, false, [⟨f_MOS_CAM_D_DY, .ro, false, 0, .course⟩, ⟨f_MOS_CAM_D_DX, .ro, false, 0, .course⟩]⟩
abbrev f_MOS_MRG_STAT_LATE_CNT : Fld := ⟨32, 32⟩
abbrev f_MOS_MRG_STAT_PEAK : Fld := ⟨16, 13⟩
abbrev f_MOS_MRG_STAT_OCC : Fld := ⟨0, 13⟩
/-- MOS.MRG_STAT (R42, 01_planes_and_islands). -/
def a_MOS_MRG_STAT : Nat := 0x300f00
def r_MOS_MRG_STAT : Reg := ⟨0xf00, [], true, false, false, [⟨f_MOS_MRG_STAT_LATE_CNT, .rc, false, 0, .atOnce⟩, ⟨f_MOS_MRG_STAT_PEAK, .rc, false, 0, .atOnce⟩, ⟨f_MOS_MRG_STAT_OCC, .ro, false, 0, .atOnce⟩]⟩
abbrev f_MOS_LOCK_SET : Fld := ⟨0, 1⟩
/-- MOS.LOCK (R483, 19_registers_integrity). -/
def a_MOS_LOCK : Nat := 0x300ff8
def r_MOS_LOCK : Reg := ⟨0xff8, [], false, false, true, [⟨f_MOS_LOCK_SET, .w1s, false, 0, .atOnce⟩]⟩
abbrev f_MOS_LANE_B_V : Fld := ⟨0, 64⟩
/-- MOS.LANE_B[j] (R215, 07_stitching). -/
def a_MOS_LANE_B (j : Nat) : Nat := 0x301000 + j * 8
def r_MOS_LANE_B : Reg := ⟨0x1000, [⟨0, 65, 8⟩], true, true, true, [⟨f_MOS_LANE_B_V, .rw, true, 0, .course⟩]⟩

/-- The registers of a MOS block, in rising offset. -/
def regs_MOS : List Reg :=
  [r_MOS_GRID, r_MOS_CFG, r_MOS_DATUM, r_MOS_REG_CFG0, r_MOS_REG_CFG1, r_MOS_EDGE_CFG, r_MOS_EDGE_POS, r_MOS_LANE_CFG, r_MOS_REC_CFG, r_MOS_STAT, r_MOS_SEAM_CFG, r_MOS_SEAM_STAT] ++
  [r_MOS_SEAM_POS, r_MOS_CAM_D, r_MOS_MRG_STAT, r_MOS_LOCK, r_MOS_LANE_B]

abbrev f_SEG_CFG_LEARN_MIN : Fld := ⟨48, 16⟩
abbrev f_SEG_CFG_LBL_WARN : Fld := ⟨32, 16⟩
abbrev f_SEG_CFG_SD_MIN : Fld := ⟨16, 16⟩
abbrev f_SEG_CFG_VOID_BRIDGE : Fld := ⟨1, 2⟩
abbrev f_SEG_CFG_EN : Fld := ⟨0, 1⟩
/-- SEG.CFG (R248, 08_segmentation). -/
def a_SEG_CFG : Nat := 0x380000
def r_SEG_CFG : Reg := ⟨0, [], true, true, true, [⟨f_SEG_CFG_LEARN_MIN, .rw, true, 0x100, .course⟩, ⟨f_SEG_CFG_LBL_WARN, .rw, true, 0xe000, .atOnce⟩, ⟨f_SEG_CFG_SD_MIN, .rw, true, 0x10, .course⟩, ⟨f_SEG_CFG_VOID_BRIDGE, .rw, true, 2, .course⟩, ⟨f_SEG_CFG_EN, .rw, true, 1, .commit .entry⟩]⟩
abbrev f_SEG_REGION_COLS_COL_HI : Fld := ⟨32, 19⟩
abbrev f_SEG_REGION_COLS_COL_LO : Fld := ⟨0, 19⟩
/-- SEG.REGION_COLS[r] (R248, 08_segmentation). -/
def a_SEG_REGION_COLS (r : Nat) : Nat := 0x380100 + r * 0x20
def r_SEG_REGION_COLS : Reg := ⟨0x100, [⟨0, 16, 0x20⟩], true, true, true, [⟨f_SEG_REGION_COLS_COL_HI, .rw, true, 0, .course⟩, ⟨f_SEG_REGION_COLS_COL_LO, .rw, true, 0, .course⟩]⟩
abbrev f_SEG_REGION_CFG_AREA_MIN : Fld := ⟨48, 16⟩
abbrev f_SEG_REGION_CFG_ENV_SHIFT : Fld := ⟨36, 4⟩
abbrev f_SEG_REGION_CFG_ALPHA : Fld := ⟨32, 4⟩
abbrev f_SEG_REGION_CFG_MORPH : Fld := ⟨26, 3⟩
abbrev f_SEG_REGION_CFG_MSIZE : Fld := ⟨25, 1⟩
abbrev f_SEG_REGION_CFG_KSEL : Fld := ⟨20, 2⟩
abbrev f_SEG_REGION_CFG_REF_MODE : Fld := ⟨16, 2⟩
abbrev f_SEG_REGION_CFG_UPDATE : Fld := ⟨9, 1⟩
abbrev f_SEG_REGION_CFG_DARK_EN : Fld := ⟨3, 1⟩
abbrev f_SEG_REGION_CFG_LIGHT_EN : Fld := ⟨2, 1⟩
abbrev f_SEG_REGION_CFG_MODEL : Fld := ⟨0, 2⟩
/-- SEG.REGION_CFG[r] (R248, 08_segmentation). -/
def a_SEG_REGION_CFG (r : Nat) : Nat := 0x380108 + r * 0x20
def r_SEG_REGION_CFG : Reg := ⟨0x108, [⟨0, 16, 0x20⟩], true, true, true, [⟨f_SEG_REGION_CFG_AREA_MIN, .rw, true, 1, .course⟩, ⟨f_SEG_REGION_CFG_ENV_SHIFT, .rw, true, 0xc, .course⟩, ⟨f_SEG_REGION_CFG_ALPHA, .rw, true, 8, .course⟩, ⟨f_SEG_REGION_CFG_MORPH, .rw, true, 0, .commit .entry⟩, ⟨f_SEG_REGION_CFG_MSIZE, .rw, true, 0, .commit .entry⟩, ⟨f_SEG_REGION_CFG_KSEL, .rw, true, 0, .commit .entry⟩, ⟨f_SEG_REGION_CFG_REF_MODE, .rw, true, 0, .course⟩, ⟨f_SEG_REGION_CFG_UPDATE, .rw, true, 1, .course⟩, ⟨f_SEG_REGION_CFG_DARK_EN, .rw, true, 1, .course⟩, ⟨f_SEG_REGION_CFG_LIGHT_EN, .rw, true, 1, .course⟩, ⟨f_SEG_REGION_CFG_MODEL, .rw, true, 0, .course⟩]⟩
abbrev f_SEG_REGION_THR_TDG : Fld := ⟨48, 16⟩
abbrev f_SEG_REGION_THR_TDS : Fld := ⟨32, 16⟩
abbrev f_SEG_REGION_THR_TLG : Fld := ⟨16, 16⟩
abbrev f_SEG_REGION_THR_TLS : Fld := ⟨0, 16⟩
/-- SEG.REGION_THR[r] (R248, 08_segmentation). -/
def a_SEG_REGION_THR (r : Nat) : Nat := 0x380110 + r * 0x20
def r_SEG_REGION_THR : Reg := ⟨0x110, [⟨0, 16, 0x20⟩], true, true, true, [⟨f_SEG_REGION_THR_TDG, .rw, true, 0xffff, .course⟩, ⟨f_SEG_REGION_THR_TDS, .rw, true, 0xffff, .course⟩, ⟨f_SEG_REGION_THR_TLG, .rw, true, 0xffff, .course⟩, ⟨f_SEG_REGION_THR_TLS, .rw, true, 0xffff, .course⟩]⟩
abbrev f_SEG_KERNEL_CFG_KSIZE : Fld := ⟨0, 5⟩
/-- SEG.KERNEL_CFG[k] (R248, 08_segmentation). -/
def a_SEG_KERNEL_CFG (k : Nat) : Nat := 0x380300 + k * 8
def r_SEG_KERNEL_CFG : Reg := ⟨0x300, [⟨1, 4, 8⟩], false, true, true, [⟨f_SEG_KERNEL_CFG_KSIZE, .rw, true, 3, .commit .entry⟩]⟩
abbrev f_SEG_REP_CFG_R_LINES : Fld := ⟨32, 32⟩
abbrev f_SEG_REP_CFG_AVG : Fld := ⟨25, 2⟩
abbrev f_SEG_REP_CFG_CD_FOLLOW : Fld := ⟨24, 1⟩
abbrev f_SEG_REP_CFG_BANK : Fld := ⟨23, 1⟩
abbrev f_SEG_REP_CFG_REG_SRC : Fld := ⟨22, 1⟩
abbrev f_SEG_REP_CFG_COL0 : Fld := ⟨0, 19⟩
/-- SEG.REP_CFG (R248, 08_segmentation). -/
def a_SEG_REP_CFG : Nat := 0x380400
def r_SEG_REP_CFG : Reg := ⟨0x400, [], true, true, true, [⟨f_SEG_REP_CFG_R_LINES, .rw, true, 0, .commit .entry⟩, ⟨f_SEG_REP_CFG_AVG, .rw, true, 0, .atOnce⟩, ⟨f_SEG_REP_CFG_CD_FOLLOW, .rw, true, 0, .course⟩, ⟨f_SEG_REP_CFG_BANK, .rw, true, 0, .course⟩, ⟨f_SEG_REP_CFG_REG_SRC, .rw, true, 0, .commit .entry⟩, ⟨f_SEG_REP_CFG_COL0, .rw, true, 0, .commit .entry⟩]⟩
abbrev f_SEG_REP_GEOM_WIDTH_M1 : Fld := ⟨32, 19⟩
abbrev f_SEG_REP_GEOM_OS_REF_Q : Fld := ⟨0, 32⟩
/-- SEG.REP_GEOM (R248, 08_segmentation). -/
def a_SEG_REP_GEOM : Nat := 0x380408
def r_SEG_REP_GEOM : Reg := ⟨0x408, [], true, true, true, [⟨f_SEG_REP_GEOM_WIDTH_M1, .rw, true, 0, .commit .entry⟩, ⟨f_SEG_REP_GEOM_OS_REF_Q, .rw, true, 0, .course⟩]⟩
abbrev f_SEG_REP_LEN_V : Fld := ⟨0, 64⟩
/-- SEG.REP_LEN (R248, 08_segmentation). -/
def a_SEG_REP_LEN : Nat := 0x380410
def r_SEG_REP_LEN : Reg := ⟨0x410, [], true, true, true, [⟨f_SEG_REP_LEN_V, .rw, true, 0, .course⟩]⟩
abbrev f_SEG_REP_ORIGIN_V : Fld := ⟨0, 64⟩
/-- SEG.REP_ORIGIN (R248, 08_segmentation). -/
def a_SEG_REP_ORIGIN : Nat := 0x380418
def r_SEG_REP_ORIGIN : Reg := ⟨0x418, [], true, true, true, [⟨f_SEG_REP_ORIGIN_V, .rw, true, 0, .course⟩]⟩
abbrev f_SEG_REP_MARK_MARK_TOL_NM : Fld := ⟨32, 32⟩
abbrev f_SEG_REP_MARK_MARK_OFS_NM : Fld := ⟨0, 32⟩
/-- SEG.REP_MARK (R248, 08_segmentation). -/
def a_SEG_REP_MARK : Nat := 0x380420
def r_SEG_REP_MARK : Reg := ⟨0x420, [], true, true, true, [⟨f_SEG_REP_MARK_MARK_TOL_NM, .rw, true, 0, .course⟩, ⟨f_SEG_REP_MARK_MARK_OFS_NM, .rw, true, 0, .course⟩]⟩
abbrev f_SEG_REP_BASE_V : Fld := ⟨0, 64⟩
/-- SEG.REP_BASE[b] (R248, 08_segmentation). -/
def a_SEG_REP_BASE (b : Nat) : Nat := 0x380428 + b * 8
def r_SEG_REP_BASE : Reg := ⟨0x428, [⟨0, 2, 8⟩], true, true, true, [⟨f_SEG_REP_BASE_V, .rw, true, 0, .commit .entry⟩]⟩
abbrev f_SEG_REP_STAT_REJECT_CNT : Fld := ⟨48, 16⟩
abbrev f_SEG_REP_STAT_FREEWHEEL : Fld := ⟨39, 1⟩
abbrev f_SEG_REP_STAT_LOCKED : Fld := ⟨38, 1⟩
abbrev f_SEG_REP_STAT_IN_FORCE : Fld := ⟨37, 1⟩
abbrev f_SEG_REP_STAT_MARK_ERR_NM : Fld := ⟨0, 32⟩
/-- SEG.REP_STAT (R248, 08_segmentation). -/
def a_SEG_REP_STAT : Nat := 0x380440
def r_SEG_REP_STAT : Reg := ⟨0x440, [], true, false, false, [⟨f_SEG_REP_STAT_REJECT_CNT, .rc, false, 0, .atOnce⟩, ⟨f_SEG_REP_STAT_FREEWHEEL, .ro, false, 0, .atOnce⟩, ⟨f_SEG_REP_STAT_LOCKED, .ro, false, 0, .atOnce⟩, ⟨f_SEG_REP_STAT_IN_FORCE, .ro, false, 0, .course⟩, ⟨f_SEG_REP_STAT_MARK_ERR_NM, .ro, false, 0, .atOnce⟩]⟩
abbrev f_SEG_REP_CAPTURE_HOLES : Fld := ⟨32, 32⟩
abbrev f_SEG_REP_CAPTURE_BUSY : Fld := ⟨31, 1⟩
abbrev f_SEG_REP_CAPTURE_DONE : Fld := ⟨30, 1⟩
abbrev f_SEG_REP_CAPTURE_ERR : Fld := ⟨1, 3⟩
abbrev f_SEG_REP_CAPTURE_GO : Fld := ⟨0, 1⟩
/-- SEG.REP_CAPTURE (R248, 08_segmentation). -/
def a_SEG_REP_CAPTURE : Nat := 0x380448
def r_SEG_REP_CAPTURE : Reg := ⟨0x448, [], true, false, false, [⟨f_SEG_REP_CAPTURE_HOLES, .ro, false, 0, .atOnce⟩, ⟨f_SEG_REP_CAPTURE_BUSY, .ro, false, 0, .atOnce⟩, ⟨f_SEG_REP_CAPTURE_DONE, .w1c, false, 0, .atOnce⟩, ⟨f_SEG_REP_CAPTURE_ERR, .ro, false, 0, .atOnce⟩, ⟨f_SEG_REP_CAPTURE_GO, .w1s, false, 0, .atOnce⟩]⟩
abbrev f_SEG_LBL_STAT_FULL_CNT : Fld := ⟨48, 16⟩
abbrev f_SEG_LBL_STAT_PEAK : Fld := ⟨32, 16⟩
abbrev f_SEG_LBL_STAT_OPEN : Fld := ⟨0, 17⟩
/-- SEG.LBL_STAT (R248, 08_segmentation). -/
def a_SEG_LBL_STAT : Nat := 0x380500
def r_SEG_LBL_STAT : Reg := ⟨0x500, [], true, false, false, [⟨f_SEG_LBL_STAT_FULL_CNT, .rc, false, 0, .atOnce⟩, ⟨f_SEG_LBL_STAT_PEAK, .rc, false, 0, .atOnce⟩, ⟨f_SEG_LBL_STAT_OPEN, .ro, false, 0, .atOnce⟩]⟩
abbrev f_SEG_STAT0_BLOBS : Fld := ⟨32, 32⟩
abbrev f_SEG_STAT0_NOSEED : Fld := ⟨16, 16⟩
abbrev f_SEG_STAT0_SMALL : Fld := ⟨0, 16⟩
/-- SEG.STAT0 (R248, 08_segmentation). -/
def a_SEG_STAT0 : Nat := 0x380508
def r_SEG_STAT0 : Reg := ⟨0x508, [], true, false, false, [⟨f_SEG_STAT0_BLOBS, .rc, false, 0, .atOnce⟩, ⟨f_SEG_STAT0_NOSEED, .rc, false, 0, .atOnce⟩, ⟨f_SEG_STAT0_SMALL, .rc, false, 0, .atOnce⟩]⟩
abbrev f_SEG_STAT1_FRAG_CNT : Fld := ⟨48, 16⟩
abbrev f_SEG_STAT1_VOID_CUT_CNT : Fld := ⟨32, 16⟩
abbrev f_SEG_STAT1_SEAM_JOIN_CNT : Fld := ⟨16, 16⟩
abbrev f_SEG_STAT1_CONTRAST_SAT : Fld := ⟨0, 16⟩
/-- SEG.STAT1 (R248, 08_segmentation). -/
def a_SEG_STAT1 : Nat := 0x380510
def r_SEG_STAT1 : Reg := ⟨0x510, [], true, false, false, [⟨f_SEG_STAT1_FRAG_CNT, .rc, false, 0, .atOnce⟩, ⟨f_SEG_STAT1_VOID_CUT_CNT, .rc, false, 0, .atOnce⟩, ⟨f_SEG_STAT1_SEAM_JOIN_CNT, .rc, false, 0, .atOnce⟩, ⟨f_SEG_STAT1_CONTRAST_SAT, .rc, false, 0, .atOnce⟩]⟩
abbrev f_SEG_STAT2_BOTH_CNT : Fld := ⟨48, 16⟩
abbrev f_SEG_STAT2_REP_WAIT_LINES : Fld := ⟨32, 16⟩
abbrev f_SEG_STAT2_LEARN_CNT : Fld := ⟨0, 32⟩
/-- SEG.STAT2 (R248, 08_segmentation). -/
def a_SEG_STAT2 : Nat := 0x380518
def r_SEG_STAT2 : Reg := ⟨0x518, [], true, false, false, [⟨f_SEG_STAT2_BOTH_CNT, .rc, false, 0, .atOnce⟩, ⟨f_SEG_STAT2_REP_WAIT_LINES, .rc, false, 0, .atOnce⟩, ⟨f_SEG_STAT2_LEARN_CNT, .rc, false, 0, .atOnce⟩]⟩
abbrev f_SEG_CM_CTRL_CLEAR : Fld := ⟨0, 16⟩
/-- SEG.CM_CTRL (R248, 08_segmentation). -/
def a_SEG_CM_CTRL : Nat := 0x380600
def r_SEG_CM_CTRL : Reg := ⟨0x600, [], false, false, true, [⟨f_SEG_CM_CTRL_CLEAR, .w1s, false, 0, .course⟩]⟩
abbrev f_SEG_MRG_STAT_LATE_CNT : Fld := ⟨32, 32⟩
abbrev f_SEG_MRG_STAT_PEAK : Fld := ⟨16, 13⟩
abbrev f_SEG_MRG_STAT_OCC : Fld := ⟨0, 13⟩
/-- SEG.MRG_STAT (R42, 01_planes_and_islands). -/
def a_SEG_MRG_STAT : Nat := 0x380f00
def r_SEG_MRG_STAT : Reg := ⟨0xf00, [], true, false, false, [⟨f_SEG_MRG_STAT_LATE_CNT, .rc, false, 0, .atOnce⟩, ⟨f_SEG_MRG_STAT_PEAK, .rc, false, 0, .atOnce⟩, ⟨f_SEG_MRG_STAT_OCC, .ro, false, 0, .atOnce⟩]⟩
abbrev f_SEG_LOCK_SET : Fld := ⟨0, 1⟩
/-- SEG.LOCK (R483, 19_registers_integrity). -/
def a_SEG_LOCK : Nat := 0x380ff8
def r_SEG_LOCK : Reg := ⟨0xff8, [], false, false, true, [⟨f_SEG_LOCK_SET, .w1s, false, 0, .atOnce⟩]⟩

/-- The registers of a SEG block, in rising offset. -/
def regs_SEG : List Reg :=
  [r_SEG_CFG, r_SEG_REGION_COLS, r_SEG_REGION_CFG, r_SEG_REGION_THR, r_SEG_KERNEL_CFG, r_SEG_REP_CFG, r_SEG_REP_GEOM, r_SEG_REP_LEN, r_SEG_REP_ORIGIN, r_SEG_REP_MARK, r_SEG_REP_BASE, r_SEG_REP_STAT] ++
  [r_SEG_REP_CAPTURE, r_SEG_LBL_STAT, r_SEG_STAT0, r_SEG_STAT1, r_SEG_STAT2, r_SEG_CM_CTRL, r_SEG_MRG_STAT, r_SEG_LOCK]

abbrev f_CLS_CFG_PASS2_EN : Fld := ⟨32, 1⟩
abbrev f_CLS_CFG_COURSE_EN : Fld := ⟨31, 1⟩
abbrev f_CLS_CFG_ROLL_EN : Fld := ⟨30, 1⟩
abbrev f_CLS_CFG_ROLL_RING : Fld := ⟨16, 12⟩
abbrev f_CLS_CFG_COURSE_RING : Fld := ⟨0, 12⟩
/-- CLS.CFG (R276, 09_classification_records). -/
def a_CLS_CFG : Nat := 0x3c0000
def r_CLS_CFG : Reg := ⟨0, [], true, true, true, [⟨f_CLS_CFG_PASS2_EN, .rw, true, 0, .course⟩, ⟨f_CLS_CFG_COURSE_EN, .rw, true, 1, .course⟩, ⟨f_CLS_CFG_ROLL_EN, .rw, true, 1, .course⟩, ⟨f_CLS_CFG_ROLL_RING, .rw, true, 0, .course⟩, ⟨f_CLS_CFG_COURSE_RING, .rw, true, 0, .course⟩]⟩
abbrev f_CLS_BANK_CTRL_ERR : Fld := ⟨29, 3⟩
abbrev f_CLS_BANK_CTRL_VAL_NODE : Fld := ⟨16, 13⟩
abbrev f_CLS_BANK_CTRL_VAL_ERR : Fld := ⟨12, 4⟩
abbrev f_CLS_BANK_CTRL_IN_FORCE : Fld := ⟨8, 1⟩
abbrev f_CLS_BANK_CTRL_LOADED : Fld := ⟨4, 2⟩
abbrev f_CLS_BANK_CTRL_MARK : Fld := ⟨2, 1⟩
abbrev f_CLS_BANK_CTRL_SWAP : Fld := ⟨0, 1⟩
/-- CLS.BANK_CTRL (R276, 09_classification_records). -/
def a_CLS_BANK_CTRL : Nat := 0x3c0008
def r_CLS_BANK_CTRL : Reg := ⟨8, [], false, false, true, [⟨f_CLS_BANK_CTRL_ERR, .ro, false, 0, .atOnce⟩, ⟨f_CLS_BANK_CTRL_VAL_NODE, .ro, false, 0, .atOnce⟩, ⟨f_CLS_BANK_CTRL_VAL_ERR, .ro, false, 0, .atOnce⟩, ⟨f_CLS_BANK_CTRL_IN_FORCE, .ro, false, 0, .course⟩, ⟨f_CLS_BANK_CTRL_LOADED, .ro, false, 3, .atOnce⟩, ⟨f_CLS_BANK_CTRL_MARK, .w1s, false, 0, .atOnce⟩, ⟨f_CLS_BANK_CTRL_SWAP, .w1s, false, 0, .course⟩]⟩
abbrev f_CLS_ROLL_CTRL_NEXT_ID : Fld := ⟨32, 32⟩
abbrev f_CLS_ROLL_CTRL_POS_EN : Fld := ⟨2, 1⟩
abbrev f_CLS_ROLL_CTRL_EVT_EN : Fld := ⟨1, 1⟩
abbrev f_CLS_ROLL_CTRL_NOW : Fld := ⟨0, 1⟩
/-- CLS.ROLL_CTRL (R276, 09_classification_records). -/
def a_CLS_ROLL_CTRL : Nat := 0x3c0020
def r_CLS_ROLL_CTRL : Reg := ⟨0x20, [], true, false, true, [⟨f_CLS_ROLL_CTRL_NEXT_ID, .rw, true, 0, .atOnce⟩, ⟨f_CLS_ROLL_CTRL_POS_EN, .rw, false, 0, .atOnce⟩, ⟨f_CLS_ROLL_CTRL_EVT_EN, .rw, true, 0, .atOnce⟩, ⟨f_CLS_ROLL_CTRL_NOW, .w1s, false, 0, .atOnce⟩]⟩
abbrev f_CLS_ROLL_AT_V : Fld := ⟨0, 64⟩
/-- CLS.ROLL_AT (R276, 09_classification_records). -/
def a_CLS_ROLL_AT : Nat := 0x3c0028
def r_CLS_ROLL_AT : Reg := ⟨0x28, [], true, false, true, [⟨f_CLS_ROLL_AT_V, .rw, true, 0, .atOnce⟩]⟩
abbrev f_CLS_ROLL_STAT_CUR_ID : Fld := ⟨32, 32⟩
abbrev f_CLS_ROLL_STAT_REFUSED_CNT : Fld := ⟨16, 16⟩
abbrev f_CLS_ROLL_STAT_CLOSING : Fld := ⟨0, 1⟩
/-- CLS.ROLL_STAT (R276, 09_classification_records). -/
def a_CLS_ROLL_STAT : Nat := 0x3c0030
def r_CLS_ROLL_STAT : Reg := ⟨0x30, [], true, false, true, [⟨f_CLS_ROLL_STAT_CUR_ID, .ro, false, 0, .atOnce⟩, ⟨f_CLS_ROLL_STAT_REFUSED_CNT, .rc, false, 0, .atOnce⟩, ⟨f_CLS_ROLL_STAT_CLOSING, .ro, false, 0, .atOnce⟩]⟩
abbrev f_CLS_LOFT_BASE_V : Fld := ⟨0, 64⟩
/-- CLS.LOFT_BASE (R276, 09_classification_records). -/
def a_CLS_LOFT_BASE : Nat := 0x3c0040
def r_CLS_LOFT_BASE : Reg := ⟨0x40, [], true, true, true, [⟨f_CLS_LOFT_BASE_V, .rw, true, 0, .commit .entry⟩]⟩
abbrev f_CLS_LOFT_CFG_FREEZE_DELAY : Fld := ⟨48, 16⟩
abbrev f_CLS_LOFT_CFG_LINES : Fld := ⟨0, 32⟩
/-- CLS.LOFT_CFG (R276, 09_classification_records). -/
def a_CLS_LOFT_CFG : Nat := 0x3c0048
def r_CLS_LOFT_CFG : Reg := ⟨0x48, [], true, true, true, [⟨f_CLS_LOFT_CFG_FREEZE_DELAY, .rw, true, 0, .atOnce⟩, ⟨f_CLS_LOFT_CFG_LINES, .rw, true, 0, .commit .entry⟩]⟩
abbrev f_CLS_LOFT_CTRL_NEWEST : Fld := ⟨3, 61⟩
abbrev f_CLS_LOFT_CTRL_FROZEN : Fld := ⟨2, 1⟩
abbrev f_CLS_LOFT_CTRL_RESUME : Fld := ⟨1, 1⟩
abbrev f_CLS_LOFT_CTRL_FREEZE : Fld := ⟨0, 1⟩
/-- CLS.LOFT_CTRL (R276, 09_classification_records). -/
def a_CLS_LOFT_CTRL : Nat := 0x3c0050
def r_CLS_LOFT_CTRL : Reg := ⟨0x50, [], true, false, false, [⟨f_CLS_LOFT_CTRL_NEWEST, .ro, false, 0, .atOnce⟩, ⟨f_CLS_LOFT_CTRL_FROZEN, .ro, false, 0, .atOnce⟩, ⟨f_CLS_LOFT_CTRL_RESUME, .w1s, false, 0, .atOnce⟩, ⟨f_CLS_LOFT_CTRL_FREEZE, .w1s, false, 0, .atOnce⟩]⟩
abbrev f_CLS_CROP_CFG_PIN_MS : Fld := ⟨0, 16⟩
/-- CLS.CROP_CFG (R276, 09_classification_records). -/
def a_CLS_CROP_CFG : Nat := 0x3c0058
def r_CLS_CROP_CFG : Reg := ⟨0x58, [], false, true, true, [⟨f_CLS_CROP_CFG_PIN_MS, .rw, true, 0x7d0, .atOnce⟩]⟩
abbrev f_CLS_STAT0_CLASSIFIED : Fld := ⟨32, 32⟩
abbrev f_CLS_STAT0_SUPPRESSED_CNT : Fld := ⟨16, 16⟩
abbrev f_CLS_STAT0_P2_FAIL_CNT : Fld := ⟨0, 16⟩
/-- CLS.STAT0 (R276, 09_classification_records). -/
def a_CLS_STAT0 : Nat := 0x3c0100
def r_CLS_STAT0 : Reg := ⟨0x100, [], true, false, false, [⟨f_CLS_STAT0_CLASSIFIED, .rc, false, 0, .atOnce⟩, ⟨f_CLS_STAT0_SUPPRESSED_CNT, .rc, false, 0, .atOnce⟩, ⟨f_CLS_STAT0_P2_FAIL_CNT, .rc, false, 0, .atOnce⟩]⟩
abbrev f_CLS_STAT1_CROP_TRUNC_CNT : Fld := ⟨48, 16⟩
abbrev f_CLS_STAT1_CROP_LOST_CNT : Fld := ⟨32, 16⟩
abbrev f_CLS_STAT1_CROP_SKIP_CNT : Fld := ⟨16, 16⟩
abbrev f_CLS_STAT1_CROP_QUEUE : Fld := ⟨0, 9⟩
/-- CLS.STAT1 (R276, 09_classification_records). -/
def a_CLS_STAT1 : Nat := 0x3c0108
def r_CLS_STAT1 : Reg := ⟨0x108, [], true, false, false, [⟨f_CLS_STAT1_CROP_TRUNC_CNT, .rc, false, 0, .atOnce⟩, ⟨f_CLS_STAT1_CROP_LOST_CNT, .rc, false, 0, .atOnce⟩, ⟨f_CLS_STAT1_CROP_SKIP_CNT, .rc, false, 0, .atOnce⟩, ⟨f_CLS_STAT1_CROP_QUEUE, .ro, false, 0, .atOnce⟩]⟩
abbrev f_CLS_MRG_STAT_LATE_CNT : Fld := ⟨32, 32⟩
abbrev f_CLS_MRG_STAT_PEAK : Fld := ⟨16, 13⟩
abbrev f_CLS_MRG_STAT_OCC : Fld := ⟨0, 13⟩
/-- CLS.MRG_STAT (R42, 01_planes_and_islands). -/
def a_CLS_MRG_STAT : Nat := 0x3c0f00
def r_CLS_MRG_STAT : Reg := ⟨0xf00, [], true, false, false, [⟨f_CLS_MRG_STAT_LATE_CNT, .rc, false, 0, .atOnce⟩, ⟨f_CLS_MRG_STAT_PEAK, .rc, false, 0, .atOnce⟩, ⟨f_CLS_MRG_STAT_OCC, .ro, false, 0, .atOnce⟩]⟩
abbrev f_CLS_LOCK_SET : Fld := ⟨0, 1⟩
/-- CLS.LOCK (R483, 19_registers_integrity). -/
def a_CLS_LOCK : Nat := 0x3c0ff8
def r_CLS_LOCK : Reg := ⟨0xff8, [], false, false, true, [⟨f_CLS_LOCK_SET, .w1s, false, 0, .atOnce⟩]⟩

/-- The registers of a CLS block, in rising offset. -/
def regs_CLS : List Reg :=
  [r_CLS_CFG, r_CLS_BANK_CTRL, r_CLS_ROLL_CTRL, r_CLS_ROLL_AT, r_CLS_ROLL_STAT, r_CLS_LOFT_BASE, r_CLS_LOFT_CFG, r_CLS_LOFT_CTRL, r_CLS_CROP_CFG, r_CLS_STAT0, r_CLS_STAT1, r_CLS_MRG_STAT] ++
  [r_CLS_LOCK]

end Sys2Proof.Machine
end

