-- ==== Sys2Proof/Machine/RegMapC.lean ====
section
/-! DEFINITION. Register map, part C: the registers of blocks LQ, TPT, RDG, PCX, ETH, HBM, THA, one entry per register family, written from the
field maps of the chapters (offset, width, CRC-covered, mirrored; per field its bits, access code, reset or factory value and
Takes effect term). Reserved fields have no entry: their bits read 0 and what is written to them is ignored (R8).
f_<BLOCK>_<REGISTER>_<FIELD> is a field; a_<BLOCK>_<REGISTER> its BAR0 address (R6, R44); r_… the register. -/

namespace Sys2Proof.Machine

abbrev f_LQ_QUAD_STAT_UNLOCK_CNT : Fld := ⟨16, 16⟩
abbrev f_LQ_QUAD_STAT_REF : Fld := ⟨4, 4⟩
abbrev f_LQ_QUAD_STAT_SSC : Fld := ⟨1, 1⟩
abbrev f_LQ_QUAD_STAT_PLL_LOCK : Fld := ⟨0, 1⟩
/-- LQ.QUAD_STAT (R436, 16_lanes). -/
def a_LQ_QUAD_STAT (q : Nat) : Nat := 0x400000 + q * 0x10000
def r_LQ_QUAD_STAT : Reg := ⟨0, [], false, false, false, [⟨f_LQ_QUAD_STAT_UNLOCK_CNT, .rc, false, 0, .atOnce⟩, ⟨f_LQ_QUAD_STAT_REF, .ro, false, 0, .atOnce⟩, ⟨f_LQ_QUAD_STAT_SSC, .ro, false, 0, .atOnce⟩, ⟨f_LQ_QUAD_STAT_PLL_LOCK, .ro, false, 0, .atOnce⟩]⟩
abbrev f_LQ_LN_CFG_FIX_POST : Fld := ⟨19, 5⟩
abbrev f_LQ_LN_CFG_FIX_PRE : Fld := ⟨14, 5⟩
abbrev f_LQ_LN_CFG_EQ_FIXED : Fld := ⟨13, 1⟩
abbrev f_LQ_LN_CFG_INIT_PRESET : Fld := ⟨10, 3⟩
abbrev f_LQ_LN_CFG_RX_INV : Fld := ⟨9, 1⟩
abbrev f_LQ_LN_CFG_TX_INV : Fld := ⟨8, 1⟩
abbrev f_LQ_LN_CFG_FREEZE_HOLD : Fld := ⟨1, 1⟩
/-- LQ.LN_CFG[k] (R436, 16_lanes). -/
def a_LQ_LN_CFG (q k : Nat) : Nat := 0x400100 + q * 0x10000 + k * 0x40
def r_LQ_LN_CFG : Reg := ⟨0x100, [⟨0, 4, 0x40⟩], false, true, false, [⟨f_LQ_LN_CFG_FIX_POST, .rw, true, 8, .bringUp⟩, ⟨f_LQ_LN_CFG_FIX_PRE, .rw, true, 0, .bringUp⟩, ⟨f_LQ_LN_CFG_EQ_FIXED, .rw, true, 0, .bringUp⟩, ⟨f_LQ_LN_CFG_INIT_PRESET, .rw, true, 1, .bringUp⟩, ⟨f_LQ_LN_CFG_RX_INV, .rw, true, 0, .bringUp⟩, ⟨f_LQ_LN_CFG_TX_INV, .rw, true, 0, .bringUp⟩, ⟨f_LQ_LN_CFG_FREEZE_HOLD, .rw, false, 0, .atOnce⟩]⟩
abbrev f_LQ_LN_STAT_POST : Fld := ⟨43, 5⟩
abbrev f_LQ_LN_STAT_PRE : Fld := ⟨38, 5⟩
abbrev f_LQ_LN_STAT_MAIN : Fld := ⟨32, 6⟩
abbrev f_LQ_LN_STAT_RATE : Fld := ⟨12, 4⟩
abbrev f_LQ_LN_STAT_RX_POL_INV : Fld := ⟨11, 1⟩
abbrev f_LQ_LN_STAT_FROZEN : Fld := ⟨10, 1⟩
abbrev f_LQ_LN_STAT_CDR_LOCK : Fld := ⟨9, 1⟩
abbrev f_LQ_LN_STAT_STAGE : Fld := ⟨0, 3⟩
/-- LQ.LN_STAT[k] (R436, 16_lanes). -/
def a_LQ_LN_STAT (q k : Nat) : Nat := 0x400108 + q * 0x10000 + k * 0x40
def r_LQ_LN_STAT : Reg := ⟨0x108, [⟨0, 4, 0x40⟩], true, false, false, [⟨f_LQ_LN_STAT_POST, .ro, false, 0, .atOnce⟩, ⟨f_LQ_LN_STAT_PRE, .ro, false, 0, .atOnce⟩, ⟨f_LQ_LN_STAT_MAIN, .ro, false, 0, .atOnce⟩, ⟨f_LQ_LN_STAT_RATE, .ro, false, 0, .atOnce⟩, ⟨f_LQ_LN_STAT_RX_POL_INV, .ro, false, 0, .atOnce⟩, ⟨f_LQ_LN_STAT_FROZEN, .ro, false, 0, .atOnce⟩, ⟨f_LQ_LN_STAT_CDR_LOCK, .ro, false, 0, .atOnce⟩, ⟨f_LQ_LN_STAT_STAGE, .ro, false, 0, .atOnce⟩]⟩
abbrev f_LQ_LN_CNT_DOWN_CNT : Fld := ⟨32, 16⟩
abbrev f_LQ_LN_CNT_ABORT_CNT : Fld := ⟨16, 16⟩
abbrev f_LQ_LN_CNT_BURST_MISS_CNT : Fld := ⟨0, 16⟩
/-- LQ.LN_CNT[k] (R436, 16_lanes). -/
def a_LQ_LN_CNT (q k : Nat) : Nat := 0x400110 + q * 0x10000 + k * 0x40
def r_LQ_LN_CNT : Reg := ⟨0x110, [⟨0, 4, 0x40⟩], true, false, false, [⟨f_LQ_LN_CNT_DOWN_CNT, .rc, false, 0, .atOnce⟩, ⟨f_LQ_LN_CNT_ABORT_CNT, .rc, false, 0, .atOnce⟩, ⟨f_LQ_LN_CNT_BURST_MISS_CNT, .rc, false, 0, .atOnce⟩]⟩
abbrev f_LQ_EYE_CTRL_GO : Fld := ⟨31, 1⟩
abbrev f_LQ_EYE_CTRL_DONE : Fld := ⟨30, 1⟩
abbrev f_LQ_EYE_CTRL_ERR : Fld := ⟨28, 2⟩
abbrev f_LQ_EYE_CTRL_EYE : Fld := ⟨26, 2⟩
abbrev f_LQ_EYE_CTRL_DWELL : Fld := ⟨21, 5⟩
abbrev f_LQ_EYE_CTRL_H_OFS : Fld := ⟨7, 7⟩
abbrev f_LQ_EYE_CTRL_V_OFS : Fld := ⟨0, 7⟩
/-- LQ.EYE_CTRL[k] (R436, 16_lanes). -/
def a_LQ_EYE_CTRL (q k : Nat) : Nat := 0x400118 + q * 0x10000 + k * 0x40
def r_LQ_EYE_CTRL : Reg := ⟨0x118, [⟨0, 4, 0x40⟩], false, false, false, [⟨f_LQ_EYE_CTRL_GO, .w1s, false, 0, .atOnce⟩, ⟨f_LQ_EYE_CTRL_DONE, .w1c, false, 0, .atOnce⟩, ⟨f_LQ_EYE_CTRL_ERR, .ro, false, 0, .atOnce⟩, ⟨f_LQ_EYE_CTRL_EYE, .rw, false, 0, .atOnce⟩, ⟨f_LQ_EYE_CTRL_DWELL, .rw, false, 0xa, .atOnce⟩, ⟨f_LQ_EYE_CTRL_H_OFS, .rw, false, 0, .atOnce⟩, ⟨f_LQ_EYE_CTRL_V_OFS, .rw, false, 0, .atOnce⟩]⟩
abbrev f_LQ_EYE_RES_ERRORS : Fld := ⟨32, 32⟩
abbrev f_LQ_EYE_RES_BITS : Fld := ⟨0, 32⟩
/-- LQ.EYE_RES[k] (R436, 16_lanes). -/
def a_LQ_EYE_RES (q k : Nat) : Nat := 0x400120 + q * 0x10000 + k * 0x40
def r_LQ_EYE_RES : Reg := ⟨0x120, [⟨0, 4, 0x40⟩], true, false, false, [⟨f_LQ_EYE_RES_ERRORS, .ro, false, 0, .atOnce⟩, ⟨f_LQ_EYE_RES_BITS, .ro, false, 0, .atOnce⟩]⟩
abbrev f_LQ_LOCK_SET : Fld := ⟨0, 1⟩
/-- LQ.LOCK (R483, 19_registers_integrity). -/
def a_LQ_LOCK (q : Nat) : Nat := 0x400ff8 + q * 0x10000
def r_LQ_LOCK : Reg := ⟨0xff8, [], false, false, true, [⟨f_LQ_LOCK_SET, .w1s, false, 0, .atOnce⟩]⟩

/-- The registers of a LQ block, in rising offset. -/
def regs_LQ : List Reg :=
  [r_LQ_QUAD_STAT, r_LQ_LN_CFG, r_LQ_LN_STAT, r_LQ_LN_CNT, r_LQ_EYE_CTRL, r_LQ_EYE_RES, r_LQ_LOCK]

abbrev f_TPT_CFG_DEADLINE_NS : Fld := ⟨32, 32⟩
abbrev f_TPT_CFG_WIDTH : Fld := ⟨16, 16⟩
abbrev f_TPT_CFG_PIX_DT : Fld := ⟨8, 8⟩
abbrev f_TPT_CFG_PIX_VC : Fld := ⟨4, 4⟩
abbrev f_TPT_CFG_RATE_MAX : Fld := ⟨2, 2⟩
abbrev f_TPT_CFG_LANE_MODE : Fld := ⟨0, 2⟩
/-- TPT.CFG[p] (R158, 05_tether_link). -/
def a_TPT_CFG (p : Nat) : Nat := 0x500000 + p * 0x1000
def r_TPT_CFG : Reg := ⟨0, [], true, true, true, [⟨f_TPT_CFG_DEADLINE_NS, .rw, true, 0, .course⟩, ⟨f_TPT_CFG_WIDTH, .rw, true, 0, .bringUp⟩, ⟨f_TPT_CFG_PIX_DT, .rw, true, 0, .bringUp⟩, ⟨f_TPT_CFG_PIX_VC, .rw, true, 0, .bringUp⟩, ⟨f_TPT_CFG_RATE_MAX, .rw, true, 2, .bringUp⟩, ⟨f_TPT_CFG_LANE_MODE, .rw, true, 0, .bringUp⟩]⟩
abbrev f_TPT_VC_ROUTE_META_RING : Fld := ⟨32, 12⟩
abbrev f_TPT_VC_ROUTE_ROUTE : Fld := ⟨0, 32⟩
/-- TPT.VC_ROUTE[p] (R158, 05_tether_link). -/
def a_TPT_VC_ROUTE (p : Nat) : Nat := 0x500008 + p * 0x1000
def r_TPT_VC_ROUTE : Reg := ⟨8, [], true, true, true, [⟨f_TPT_VC_ROUTE_META_RING, .rw, true, 0, .course⟩, ⟨f_TPT_VC_ROUTE_ROUTE, .rw, true, 0, .course⟩]⟩
abbrev f_TPT_CTRL_RETRAIN1 : Fld := ⟨1, 1⟩
abbrev f_TPT_CTRL_RETRAIN0 : Fld := ⟨0, 1⟩
/-- TPT.CTRL[p] (R158, 05_tether_link). -/
def a_TPT_CTRL (p : Nat) : Nat := 0x500010 + p * 0x1000
def r_TPT_CTRL : Reg := ⟨0x10, [], false, false, false, [⟨f_TPT_CTRL_RETRAIN1, .w1s, false, 0, .atOnce⟩, ⟨f_TPT_CTRL_RETRAIN0, .w1s, false, 0, .atOnce⟩]⟩
abbrev f_TPT_EXPO_BLACK : Fld := ⟨48, 16⟩
abbrev f_TPT_EXPO_EXPO_NS : Fld := ⟨0, 32⟩
/-- TPT.EXPO[p] (R189, 06_pixel_pipeline). -/
def a_TPT_EXPO (p : Nat) : Nat := 0x500020 + p * 0x1000
def r_TPT_EXPO : Reg := ⟨0x20, [], true, true, true, [⟨f_TPT_EXPO_BLACK, .rw, true, 0, .course⟩, ⟨f_TPT_EXPO_EXPO_NS, .rw, true, 0, .course⟩]⟩
abbrev f_TPT_GAIN_GAIN2 : Fld := ⟨32, 16⟩
abbrev f_TPT_GAIN_GAIN1 : Fld := ⟨16, 16⟩
abbrev f_TPT_GAIN_GAIN0 : Fld := ⟨0, 16⟩
/-- TPT.GAIN[p] (R189, 06_pixel_pipeline). -/
def a_TPT_GAIN (p : Nat) : Nat := 0x500028 + p * 0x1000
def r_TPT_GAIN : Reg := ⟨0x28, [], true, true, true, [⟨f_TPT_GAIN_GAIN2, .rw, true, 0x1000, .course⟩, ⟨f_TPT_GAIN_GAIN1, .rw, true, 0x1000, .course⟩, ⟨f_TPT_GAIN_GAIN0, .rw, true, 0x1000, .course⟩]⟩
abbrev f_TPT_EPOCH_APPLIED_LINE : Fld := ⟨32, 32⟩
abbrev f_TPT_EPOCH_LATE_SET_CNT : Fld := ⟨24, 8⟩
abbrev f_TPT_EPOCH_EXPO_CLAMP : Fld := ⟨16, 1⟩
abbrev f_TPT_EPOCH_EPOCH : Fld := ⟨0, 16⟩
/-- TPT.EPOCH[p] (R189, 06_pixel_pipeline). -/
def a_TPT_EPOCH (p : Nat) : Nat := 0x500030 + p * 0x1000
def r_TPT_EPOCH : Reg := ⟨0x30, [], true, false, true, [⟨f_TPT_EPOCH_APPLIED_LINE, .ro, false, 0, .atOnce⟩, ⟨f_TPT_EPOCH_LATE_SET_CNT, .rc, false, 0, .atOnce⟩, ⟨f_TPT_EPOCH_EXPO_CLAMP, .w1c, false, 0, .atOnce⟩, ⟨f_TPT_EPOCH_EPOCH, .ro, false, 0, .atOnce⟩]⟩
abbrev f_TPT_LINK_DLY1 : Fld := ⟨48, 16⟩
abbrev f_TPT_LINK_DLY0 : Fld := ⟨32, 16⟩
abbrev f_TPT_LINK_CAP_ERR : Fld := ⟨24, 4⟩
abbrev f_TPT_LINK_STATE1 : Fld := ⟨20, 4⟩
abbrev f_TPT_LINK_STATE0 : Fld := ⟨16, 4⟩
abbrev f_TPT_LINK_RATE : Fld := ⟨14, 2⟩
abbrev f_TPT_LINK_TRIG_LANE : Fld := ⟨13, 1⟩
abbrev f_TPT_LINK_ACTIVE : Fld := ⟨12, 1⟩
/-- TPT.LINK[p] (R158, 05_tether_link). -/
def a_TPT_LINK (p : Nat) : Nat := 0x500040 + p * 0x1000
def r_TPT_LINK : Reg := ⟨0x40, [], true, false, false, [⟨f_TPT_LINK_DLY1, .ro, false, 0, .atOnce⟩, ⟨f_TPT_LINK_DLY0, .ro, false, 0, .atOnce⟩, ⟨f_TPT_LINK_CAP_ERR, .ro, false, 0, .atOnce⟩, ⟨f_TPT_LINK_STATE1, .ro, false, 0, .atOnce⟩, ⟨f_TPT_LINK_STATE0, .ro, false, 0, .atOnce⟩, ⟨f_TPT_LINK_RATE, .ro, false, 0, .atOnce⟩, ⟨f_TPT_LINK_TRIG_LANE, .ro, false, 0, .atOnce⟩, ⟨f_TPT_LINK_ACTIVE, .ro, false, 0, .atOnce⟩]⟩
abbrev f_TPT_CAP_V : Fld := ⟨0, 64⟩
/-- TPT.CAP[i] (R158, 05_tether_link). -/
def a_TPT_CAP (p i : Nat) : Nat := 0x500080 + p * 0x1000 + i * 8
def r_TPT_CAP : Reg := ⟨0x80, [⟨0, 8, 8⟩], true, false, false, [⟨f_TPT_CAP_V, .ro, false, 0, .atOnce⟩]⟩
abbrev f_TPT_STAT0_SEG_CRC : Fld := ⟨48, 16⟩
abbrev f_TPT_STAT0_FEC_UNCORR : Fld := ⟨32, 16⟩
abbrev f_TPT_STAT0_SHORT_LINE : Fld := ⟨16, 16⟩
abbrev f_TPT_STAT0_LONG_LINE : Fld := ⟨0, 16⟩
/-- TPT.STAT0[p] (R158, 05_tether_link). -/
def a_TPT_STAT0 (p : Nat) : Nat := 0x500100 + p * 0x1000
def r_TPT_STAT0 : Reg := ⟨0x100, [], true, false, false, [⟨f_TPT_STAT0_SEG_CRC, .rc, false, 0, .atOnce⟩, ⟨f_TPT_STAT0_FEC_UNCORR, .rc, false, 0, .atOnce⟩, ⟨f_TPT_STAT0_SHORT_LINE, .rc, false, 0, .atOnce⟩, ⟨f_TPT_STAT0_LONG_LINE, .rc, false, 0, .atOnce⟩]⟩
abbrev f_TPT_STAT1_MISSING : Fld := ⟨48, 16⟩
abbrev f_TPT_STAT1_LATE_SEG : Fld := ⟨32, 16⟩
abbrev f_TPT_STAT1_ORPHAN : Fld := ⟨16, 16⟩
abbrev f_TPT_STAT1_DUP_SEG : Fld := ⟨0, 16⟩
/-- TPT.STAT1[p] (R158, 05_tether_link). -/
def a_TPT_STAT1 (p : Nat) : Nat := 0x500108 + p * 0x1000
def r_TPT_STAT1 : Reg := ⟨0x108, [], true, false, false, [⟨f_TPT_STAT1_MISSING, .rc, false, 0, .atOnce⟩, ⟨f_TPT_STAT1_LATE_SEG, .rc, false, 0, .atOnce⟩, ⟨f_TPT_STAT1_ORPHAN, .rc, false, 0, .atOnce⟩, ⟨f_TPT_STAT1_DUP_SEG, .rc, false, 0, .atOnce⟩]⟩
abbrev f_TPT_STAT2_DT_MISMATCH : Fld := ⟨48, 16⟩
abbrev f_TPT_STAT2_MALFORMED : Fld := ⟨32, 16⟩
abbrev f_TPT_STAT2_TRIG_MOVE : Fld := ⟨16, 16⟩
abbrev f_TPT_STAT2_REQ_RETRY : Fld := ⟨0, 16⟩
/-- TPT.STAT2[p] (R158, 05_tether_link). -/
def a_TPT_STAT2 (p : Nat) : Nat := 0x500110 + p * 0x1000
def r_TPT_STAT2 : Reg := ⟨0x110, [], true, false, false, [⟨f_TPT_STAT2_DT_MISMATCH, .rc, false, 0, .atOnce⟩, ⟨f_TPT_STAT2_MALFORMED, .rc, false, 0, .atOnce⟩, ⟨f_TPT_STAT2_TRIG_MOVE, .rc, false, 0, .atOnce⟩, ⟨f_TPT_STAT2_REQ_RETRY, .rc, false, 0, .atOnce⟩]⟩
abbrev f_TPT_FEC_CORR_SYMBOLS : Fld := ⟨0, 32⟩
/-- TPT.FEC_CORR[p] (R158, 05_tether_link). -/
def a_TPT_FEC_CORR (p : Nat) : Nat := 0x500118 + p * 0x1000
def r_TPT_FEC_CORR : Reg := ⟨0x118, [], true, false, false, [⟨f_TPT_FEC_CORR_SYMBOLS, .rc, false, 0, .atOnce⟩]⟩
abbrev f_TPT_TRIG_LAT_LAT_NS : Fld := ⟨0, 14⟩
/-- TPT.TRIG_LAT (R158, 05_tether_link). -/
def a_TPT_TRIG_LAT (p : Nat) : Nat := 0x500f80 + p * 0x1000
def r_TPT_TRIG_LAT : Reg := ⟨0xf80, [], false, true, true, [⟨f_TPT_TRIG_LAT_LAT_NS, .rw, true, 0x7d0, .reset⟩]⟩
abbrev f_TPT_SSC_DOWN_PPM : Fld := ⟨0, 12⟩
/-- TPT.SSC (R158, 05_tether_link). -/
def a_TPT_SSC (p : Nat) : Nat := 0x500f84 + p * 0x1000
def r_TPT_SSC : Reg := ⟨0xf84, [], false, true, true, [⟨f_TPT_SSC_DOWN_PPM, .rw, true, 0, .reset⟩]⟩
abbrev f_TPT_LOCK_SET : Fld := ⟨0, 1⟩
/-- TPT.LOCK (R483, 19_registers_integrity). -/
def a_TPT_LOCK (p : Nat) : Nat := 0x500ff8 + p * 0x1000
def r_TPT_LOCK : Reg := ⟨0xff8, [], false, false, true, [⟨f_TPT_LOCK_SET, .w1s, false, 0, .atOnce⟩]⟩

/-- The registers of a TPT block, in rising offset. -/
def regs_TPT : List Reg :=
  [r_TPT_CFG, r_TPT_VC_ROUTE, r_TPT_CTRL, r_TPT_EXPO, r_TPT_GAIN, r_TPT_EPOCH, r_TPT_LINK, r_TPT_CAP, r_TPT_STAT0, r_TPT_STAT1, r_TPT_STAT2, r_TPT_FEC_CORR] ++
  [r_TPT_TRIG_LAT, r_TPT_SSC, r_TPT_LOCK]

abbrev f_RDG_CFG_DIFF_EN : Fld := ⟨63, 1⟩
abbrev f_RDG_CFG_DIFF_RING : Fld := ⟨48, 12⟩
abbrev f_RDG_CFG_RECON_MIB : Fld := ⟨16, 16⟩
abbrev f_RDG_CFG_EN : Fld := ⟨0, 1⟩
/-- RDG.CFG (R459, 17_pairing). -/
def a_RDG_CFG : Nat := 0x580000
def r_RDG_CFG : Reg := ⟨0, [], true, true, false, [⟨f_RDG_CFG_DIFF_EN, .rw, true, 0, .atOnce⟩, ⟨f_RDG_CFG_DIFF_RING, .rw, true, 0, .atOnce⟩, ⟨f_RDG_CFG_RECON_MIB, .rw, true, 0x40, .reset⟩, ⟨f_RDG_CFG_EN, .rw, true, 0, .reset⟩]⟩
abbrev f_RDG_RECON_BASE_V : Fld := ⟨0, 64⟩
/-- RDG.RECON_BASE (R459, 17_pairing). -/
def a_RDG_RECON_BASE : Nat := 0x580008
def r_RDG_RECON_BASE : Reg := ⟨8, [], true, true, false, [⟨f_RDG_RECON_BASE_V, .rw, true, 0, .reset⟩]⟩
abbrev f_RDG_STAT_BULK_LANES : Fld := ⟨32, 4⟩
abbrev f_RDG_STAT_PAIR_ERR : Fld := ⟨28, 4⟩
abbrev f_RDG_STAT_RECON_OVF : Fld := ⟨8, 1⟩
abbrev f_RDG_STAT_SPLIT : Fld := ⟨6, 1⟩
abbrev f_RDG_STAT_UNVERIFIED : Fld := ⟨5, 1⟩
abbrev f_RDG_STAT_FENCE_OK : Fld := ⟨4, 1⟩
abbrev f_RDG_STAT_RIDGE_UP : Fld := ⟨3, 1⟩
abbrev f_RDG_STAT_ESTABLISHED : Fld := ⟨2, 1⟩
abbrev f_RDG_STAT_AUTHORITY : Fld := ⟨1, 1⟩
abbrev f_RDG_STAT_PAIR_ID : Fld := ⟨0, 1⟩
/-- RDG.STAT (R459, 17_pairing). -/
def a_RDG_STAT : Nat := 0x580010
def r_RDG_STAT : Reg := ⟨0x10, [], true, false, false, [⟨f_RDG_STAT_BULK_LANES, .ro, false, 0, .atOnce⟩, ⟨f_RDG_STAT_PAIR_ERR, .ro, false, 0, .atOnce⟩, ⟨f_RDG_STAT_RECON_OVF, .w1c, false, 0, .atOnce⟩, ⟨f_RDG_STAT_SPLIT, .ro, false, 0, .atOnce⟩, ⟨f_RDG_STAT_UNVERIFIED, .ro, false, 0, .atOnce⟩, ⟨f_RDG_STAT_FENCE_OK, .ro, false, 0, .atOnce⟩, ⟨f_RDG_STAT_RIDGE_UP, .ro, false, 0, .atOnce⟩, ⟨f_RDG_STAT_ESTABLISHED, .ro, false, 0, .atOnce⟩, ⟨f_RDG_STAT_AUTHORITY, .ro, false, 0, .atOnce⟩, ⟨f_RDG_STAT_PAIR_ID, .ro, true, 0, .reset⟩]⟩
abbrev f_RDG_CNT0_MATCH_CNT : Fld := ⟨32, 32⟩
abbrev f_RDG_CNT0_MISMATCH_CNT : Fld := ⟨16, 16⟩
abbrev f_RDG_CNT0_ONLY_AUTH_CNT : Fld := ⟨0, 16⟩
/-- RDG.CNT0 (R459, 17_pairing). -/
def a_RDG_CNT0 : Nat := 0x580018
def r_RDG_CNT0 : Reg := ⟨0x18, [], true, false, false, [⟨f_RDG_CNT0_MATCH_CNT, .rc, false, 0, .atOnce⟩, ⟨f_RDG_CNT0_MISMATCH_CNT, .rc, false, 0, .atOnce⟩, ⟨f_RDG_CNT0_ONLY_AUTH_CNT, .rc, false, 0, .atOnce⟩]⟩
abbrev f_RDG_CNT1_SHADOW_SLIP : Fld := ⟨48, 16⟩
abbrev f_RDG_CNT1_RECON_MATCH : Fld := ⟨32, 16⟩
abbrev f_RDG_CNT1_TAKEOVER_CNT : Fld := ⟨16, 16⟩
abbrev f_RDG_CNT1_GAP_CNT : Fld := ⟨0, 16⟩
/-- RDG.CNT1 (R459, 17_pairing). -/
def a_RDG_CNT1 : Nat := 0x580020
def r_RDG_CNT1 : Reg := ⟨0x20, [], true, false, false, [⟨f_RDG_CNT1_SHADOW_SLIP, .rc, false, 0, .atOnce⟩, ⟨f_RDG_CNT1_RECON_MATCH, .rc, false, 0, .atOnce⟩, ⟨f_RDG_CNT1_TAKEOVER_CNT, .rc, false, 0, .atOnce⟩, ⟨f_RDG_CNT1_GAP_CNT, .rc, false, 0, .atOnce⟩]⟩
abbrev f_RDG_POS_OFS_V : Fld := ⟨0, 64⟩
/-- RDG.POS_OFS (R459, 17_pairing). -/
def a_RDG_POS_OFS : Nat := 0x580028
def r_RDG_POS_OFS : Reg := ⟨0x28, [], true, false, false, [⟨f_RDG_POS_OFS_V, .ro, false, 0, .atOnce⟩]⟩
abbrev f_RDG_OUT_JOIN_JOIN : Fld := ⟨0, 32⟩
/-- RDG.OUT_JOIN (R459, 17_pairing). -/
def a_RDG_OUT_JOIN : Nat := 0x580030
def r_RDG_OUT_JOIN : Reg := ⟨0x30, [], false, true, true, [⟨f_RDG_OUT_JOIN_JOIN, .rw, true, 0, .reset⟩]⟩
abbrev f_RDG_XFWD_RECEIVED : Fld := ⟨16, 16⟩
abbrev f_RDG_XFWD_DONATED : Fld := ⟨0, 16⟩
/-- RDG.XFWD (R459, 17_pairing). -/
def a_RDG_XFWD : Nat := 0x580038
def r_RDG_XFWD : Reg := ⟨0x38, [], false, false, false, [⟨f_RDG_XFWD_RECEIVED, .ro, false, 0, .atOnce⟩, ⟨f_RDG_XFWD_DONATED, .ro, false, 0, .atOnce⟩]⟩
abbrev f_RDG_MRG_STAT_LATE_CNT : Fld := ⟨32, 32⟩
abbrev f_RDG_MRG_STAT_PEAK : Fld := ⟨16, 13⟩
abbrev f_RDG_MRG_STAT_OCC : Fld := ⟨0, 13⟩
/-- RDG.MRG_STAT (R42, 01_planes_and_islands). -/
def a_RDG_MRG_STAT : Nat := 0x580f00
def r_RDG_MRG_STAT : Reg := ⟨0xf00, [], true, false, false, [⟨f_RDG_MRG_STAT_LATE_CNT, .rc, false, 0, .atOnce⟩, ⟨f_RDG_MRG_STAT_PEAK, .rc, false, 0, .atOnce⟩, ⟨f_RDG_MRG_STAT_OCC, .ro, false, 0, .atOnce⟩]⟩
abbrev f_RDG_LOCK_SET : Fld := ⟨0, 1⟩
/-- RDG.LOCK (R483, 19_registers_integrity). -/
def a_RDG_LOCK : Nat := 0x580ff8
def r_RDG_LOCK : Reg := ⟨0xff8, [], false, false, true, [⟨f_RDG_LOCK_SET, .w1s, false, 0, .atOnce⟩]⟩

/-- The registers of a RDG block, in rising offset. -/
def regs_RDG : List Reg :=
  [r_RDG_CFG, r_RDG_RECON_BASE, r_RDG_STAT, r_RDG_CNT0, r_RDG_CNT1, r_RDG_POS_OFS, r_RDG_OUT_JOIN, r_RDG_XFWD, r_RDG_MRG_STAT, r_RDG_LOCK]

abbrev f_PCX_TBL_SEL_TABLE : Fld := ⟨24, 8⟩
abbrev f_PCX_TBL_SEL_INST : Fld := ⟨19, 5⟩
abbrev f_PCX_TBL_SEL_BANK : Fld := ⟨18, 1⟩
abbrev f_PCX_TBL_SEL_PAGE : Fld := ⟨0, 2⟩
/-- PCX.TBL_SEL (R327, 11_host_paths). -/
def a_PCX_TBL_SEL : Nat := 0x5c0100
def r_PCX_TBL_SEL : Reg := ⟨0x100, [], false, false, false, [⟨f_PCX_TBL_SEL_TABLE, .rw, false, 0, .atOnce⟩, ⟨f_PCX_TBL_SEL_INST, .rw, false, 0, .atOnce⟩, ⟨f_PCX_TBL_SEL_BANK, .rw, false, 0, .atOnce⟩, ⟨f_PCX_TBL_SEL_PAGE, .rw, false, 0, .atOnce⟩]⟩
abbrev f_PCX_STAGE_BASE_V : Fld := ⟨0, 64⟩
/-- PCX.STAGE_BASE (R327, 11_host_paths). -/
def a_PCX_STAGE_BASE : Nat := 0x5c0108
def r_PCX_STAGE_BASE : Reg := ⟨0x108, [], true, true, false, [⟨f_PCX_STAGE_BASE_V, .rw, true, 0, .reset⟩]⟩
abbrev f_PCX_STAGE_CFG_SIZE_MIB : Fld := ⟨0, 16⟩
/-- PCX.STAGE_CFG (R327, 11_host_paths). -/
def a_PCX_STAGE_CFG : Nat := 0x5c0110
def r_PCX_STAGE_CFG : Reg := ⟨0x110, [], false, true, false, [⟨f_PCX_STAGE_CFG_SIZE_MIB, .rw, true, 0x100, .reset⟩]⟩
abbrev f_PCX_STAT_ACCESS_SIZE_CNT : Fld := ⟨48, 16⟩
abbrev f_PCX_STAT_DB_ERR_CNT : Fld := ⟨32, 16⟩
abbrev f_PCX_STAT_DMA_ERR_CNT : Fld := ⟨16, 16⟩
abbrev f_PCX_STAT_DROP_RINGS : Fld := ⟨0, 16⟩
/-- PCX.STAT (R327, 11_host_paths). -/
def a_PCX_STAT : Nat := 0x5c0118
def r_PCX_STAT : Reg := ⟨0x118, [], true, false, false, [⟨f_PCX_STAT_ACCESS_SIZE_CNT, .rc, false, 0, .atOnce⟩, ⟨f_PCX_STAT_DB_ERR_CNT, .rc, false, 0, .atOnce⟩, ⟨f_PCX_STAT_DMA_ERR_CNT, .rc, false, 0, .atOnce⟩, ⟨f_PCX_STAT_DROP_RINGS, .ro, false, 0, .atOnce⟩]⟩
abbrev f_PCX_LOCK_SET : Fld := ⟨0, 1⟩
/-- PCX.LOCK (R483, 19_registers_integrity). -/
def a_PCX_LOCK : Nat := 0x5c0ff8
def r_PCX_LOCK : Reg := ⟨0xff8, [], false, false, true, [⟨f_PCX_LOCK_SET, .w1s, false, 0, .atOnce⟩]⟩

/-- The registers of a PCX block, in rising offset. -/
def regs_PCX : List Reg :=
  [r_PCX_TBL_SEL, r_PCX_STAGE_BASE, r_PCX_STAGE_CFG, r_PCX_STAT, r_PCX_LOCK]

abbrev f_ETH_CFG_VIEW_PORT : Fld := ⟨48, 16⟩
abbrev f_ETH_CFG_MTU : Fld := ⟨34, 14⟩
abbrev f_ETH_CFG_PORT_MODE : Fld := ⟨32, 2⟩
abbrev f_ETH_CFG_FEC25 : Fld := ⟨0, 1⟩
/-- ETH.CFG (R327, 11_host_paths). -/
def a_ETH_CFG : Nat := 0x5e0000
def r_ETH_CFG : Reg := ⟨0, [], true, true, false, [⟨f_ETH_CFG_VIEW_PORT, .rw, true, 0xb838, .atOnce⟩, ⟨f_ETH_CFG_MTU, .rw, true, 0x5dc, .atOnce⟩, ⟨f_ETH_CFG_PORT_MODE, .rw, true, 0, .bringUp⟩, ⟨f_ETH_CFG_FEC25, .rw, true, 1, .bringUp⟩]⟩
abbrev f_ETH_MAC_BASE_MAC : Fld := ⟨0, 48⟩
/-- ETH.MAC_BASE (R327, 11_host_paths). -/
def a_ETH_MAC_BASE : Nat := 0x5e0008
def r_ETH_MAC_BASE : Reg := ⟨8, [], true, true, false, [⟨f_ETH_MAC_BASE_MAC, .rw, true, 0, .atOnce⟩]⟩
abbrev f_ETH_PORT_IP_PREFIX : Fld := ⟨32, 6⟩
abbrev f_ETH_PORT_IP_IPV4 : Fld := ⟨0, 32⟩
/-- ETH.PORT_IP[i] (R327, 11_host_paths). -/
def a_ETH_PORT_IP (i : Nat) : Nat := 0x5e0010 + i * 8
def r_ETH_PORT_IP : Reg := ⟨0x10, [⟨0, 4, 8⟩], true, true, false, [⟨f_ETH_PORT_IP_PREFIX, .rw, true, 0, .atOnce⟩, ⟨f_ETH_PORT_IP_IPV4, .rw, true, 0, .atOnce⟩]⟩
abbrev f_ETH_VIEW_ACL_PREFIX : Fld := ⟨32, 6⟩
abbrev f_ETH_VIEW_ACL_IPV4 : Fld := ⟨0, 32⟩
/-- ETH.VIEW_ACL (R327, 11_host_paths). -/
def a_ETH_VIEW_ACL : Nat := 0x5e0030
def r_ETH_VIEW_ACL : Reg := ⟨0x30, [], true, true, false, [⟨f_ETH_VIEW_ACL_PREFIX, .rw, true, 0, .atOnce⟩, ⟨f_ETH_VIEW_ACL_IPV4, .rw, true, 0, .atOnce⟩]⟩
abbrev f_ETH_VIEW_STAT_ACTIVE : Fld := ⟨32, 32⟩
abbrev f_ETH_VIEW_STAT_SKIP_CNT : Fld := ⟨16, 16⟩
abbrev f_ETH_VIEW_STAT_REFUSED_CNT : Fld := ⟨0, 16⟩
/-- ETH.VIEW_STAT (R327, 11_host_paths). -/
def a_ETH_VIEW_STAT : Nat := 0x5e0040
def r_ETH_VIEW_STAT : Reg := ⟨0x40, [], true, false, false, [⟨f_ETH_VIEW_STAT_ACTIVE, .ro, false, 0, .atOnce⟩, ⟨f_ETH_VIEW_STAT_SKIP_CNT, .rc, false, 0, .atOnce⟩, ⟨f_ETH_VIEW_STAT_REFUSED_CNT, .rc, false, 0, .atOnce⟩]⟩
abbrev f_ETH_VIEW_RSV_RSV : Fld := ⟨0, 32⟩
/-- ETH.VIEW_RSV (R327, 11_host_paths). -/
def a_ETH_VIEW_RSV : Nat := 0x5e0048
def r_ETH_VIEW_RSV : Reg := ⟨0x48, [], false, true, false, [⟨f_ETH_VIEW_RSV_RSV, .rw, true, 0, .atOnce⟩]⟩
abbrev f_ETH_DEST_RATE : Fld := ⟨53, 11⟩
abbrev f_ETH_DEST_PORT : Fld := ⟨51, 2⟩
abbrev f_ETH_DEST_VLAN_EN : Fld := ⟨50, 1⟩
abbrev f_ETH_DEST_VLAN_ID : Fld := ⟨38, 12⟩
abbrev f_ETH_DEST_DSCP : Fld := ⟨32, 6⟩
abbrev f_ETH_DEST_IPV4 : Fld := ⟨0, 32⟩
/-- ETH.DEST[d] (R327, 11_host_paths). -/
def a_ETH_DEST (d : Nat) : Nat := 0x5e0100 + d * 0x10
def r_ETH_DEST : Reg := ⟨0x100, [⟨0, 64, 0x10⟩], true, true, false, [⟨f_ETH_DEST_RATE, .rw, true, 0, .atOnce⟩, ⟨f_ETH_DEST_PORT, .rw, true, 0, .atOnce⟩, ⟨f_ETH_DEST_VLAN_EN, .rw, true, 0, .atOnce⟩, ⟨f_ETH_DEST_VLAN_ID, .rw, true, 0, .atOnce⟩, ⟨f_ETH_DEST_DSCP, .rw, true, 0, .atOnce⟩, ⟨f_ETH_DEST_IPV4, .rw, true, 0, .atOnce⟩]⟩
abbrev f_ETH_DEST_L2_UDP_PORT : Fld := ⟨48, 16⟩
abbrev f_ETH_DEST_L2_MAC : Fld := ⟨0, 48⟩
/-- ETH.DEST_L2[d] (R327, 11_host_paths). -/
def a_ETH_DEST_L2 (d : Nat) : Nat := 0x5e0108 + d * 0x10
def r_ETH_DEST_L2 : Reg := ⟨0x108, [⟨0, 64, 0x10⟩], true, true, false, [⟨f_ETH_DEST_L2_UDP_PORT, .rw, true, 0, .atOnce⟩, ⟨f_ETH_DEST_L2_MAC, .rw, true, 0, .atOnce⟩]⟩
abbrev f_ETH_LOCK_SET : Fld := ⟨0, 1⟩
/-- ETH.LOCK (R483, 19_registers_integrity). -/
def a_ETH_LOCK : Nat := 0x5e0ff8
def r_ETH_LOCK : Reg := ⟨0xff8, [], false, false, true, [⟨f_ETH_LOCK_SET, .w1s, false, 0, .atOnce⟩]⟩

/-- The registers of a ETH block, in rising offset. -/
def regs_ETH : List Reg :=
  [r_ETH_CFG, r_ETH_MAC_BASE, r_ETH_PORT_IP, r_ETH_VIEW_ACL, r_ETH_VIEW_STAT, r_ETH_VIEW_RSV, r_ETH_DEST, r_ETH_DEST_L2, r_ETH_LOCK]

abbrev f_HBM_MAP_ORDER : Fld := ⟨0, 2⟩
/-- HBM.MAP (R414, 15_hbm). -/
def a_HBM_MAP (s : Nat) : Nat := 0x600000 + s * 0x80000
def r_HBM_MAP : Reg := ⟨0, [], false, true, false, [⟨f_HBM_MAP_ORDER, .rw, true, 0, .reset⟩]⟩
abbrev f_HBM_PAGE_PWR_SR_IDLE : Fld := ⟨48, 16⟩
abbrev f_HBM_PAGE_PWR_PD_IDLE : Fld := ⟨32, 16⟩
abbrev f_HBM_PAGE_PWR_PAGE_IDLE : Fld := ⟨16, 16⟩
abbrev f_HBM_PAGE_PWR_POLICY : Fld := ⟨0, 2⟩
/-- HBM.PAGE_PWR (R414, 15_hbm). -/
def a_HBM_PAGE_PWR (s : Nat) : Nat := 0x600008 + s * 0x80000
def r_HBM_PAGE_PWR : Reg := ⟨8, [], true, true, false, [⟨f_HBM_PAGE_PWR_SR_IDLE, .rw, true, 0, .atOnce⟩, ⟨f_HBM_PAGE_PWR_PD_IDLE, .rw, true, 0x40, .atOnce⟩, ⟨f_HBM_PAGE_PWR_PAGE_IDLE, .rw, true, 0x100, .atOnce⟩, ⟨f_HBM_PAGE_PWR_POLICY, .rw, true, 0, .atOnce⟩]⟩
abbrev f_HBM_PR_CTRL_RET_MASK : Fld := ⟨32, 32⟩
abbrev f_HBM_PR_CTRL_ERR : Fld := ⟨3, 2⟩
abbrev f_HBM_PR_CTRL_ACTIVE : Fld := ⟨2, 1⟩
abbrev f_HBM_PR_CTRL_EXIT : Fld := ⟨1, 1⟩
abbrev f_HBM_PR_CTRL_GO : Fld := ⟨0, 1⟩
/-- HBM.PR_CTRL (R414, 15_hbm). -/
def a_HBM_PR_CTRL (s : Nat) : Nat := 0x600010 + s * 0x80000
def r_HBM_PR_CTRL : Reg := ⟨0x10, [], true, false, false, [⟨f_HBM_PR_CTRL_RET_MASK, .rw, false, 0, .commit .prGo⟩, ⟨f_HBM_PR_CTRL_ERR, .ro, false, 0, .atOnce⟩, ⟨f_HBM_PR_CTRL_ACTIVE, .ro, false, 0, .atOnce⟩, ⟨f_HBM_PR_CTRL_EXIT, .w1s, false, 0, .atOnce⟩, ⟨f_HBM_PR_CTRL_GO, .w1s, false, 0, .atOnce⟩]⟩
abbrev f_HBM_PC_STAT_LOST : Fld := ⟨32, 32⟩
abbrev f_HBM_PC_STAT_RETIRED : Fld := ⟨0, 32⟩
/-- HBM.PC_STAT (R414, 15_hbm). -/
def a_HBM_PC_STAT (s : Nat) : Nat := 0x600018 + s * 0x80000
def r_HBM_PC_STAT : Reg := ⟨0x18, [], true, false, true, [⟨f_HBM_PC_STAT_LOST, .w1c, false, 0, .atOnce⟩, ⟨f_HBM_PC_STAT_RETIRED, .ro, false, 0, .atOnce⟩]⟩
abbrev f_HBM_TRN_STAT_STEP : Fld := ⟨24, 8⟩
abbrev f_HBM_TRN_STAT_TRAINED_32 : Fld := ⟨3, 1⟩
abbrev f_HBM_TRN_STAT_TRAINED_64 : Fld := ⟨2, 1⟩
abbrev f_HBM_TRN_STAT_SETPOINT : Fld := ⟨1, 1⟩
abbrev f_HBM_TRN_STAT_BUSY : Fld := ⟨0, 1⟩
/-- HBM.TRN_STAT (R414, 15_hbm). -/
def a_HBM_TRN_STAT (s : Nat) : Nat := 0x600020 + s * 0x80000
def r_HBM_TRN_STAT : Reg := ⟨0x20, [], false, false, false, [⟨f_HBM_TRN_STAT_STEP, .ro, false, 0, .atOnce⟩, ⟨f_HBM_TRN_STAT_TRAINED_32, .ro, false, 0, .atOnce⟩, ⟨f_HBM_TRN_STAT_TRAINED_64, .ro, false, 0, .atOnce⟩, ⟨f_HBM_TRN_STAT_SETPOINT, .ro, false, 0, .atOnce⟩, ⟨f_HBM_TRN_STAT_BUSY, .ro, false, 0, .atOnce⟩]⟩
abbrev f_HBM_REF_STAT_RFM_CNT : Fld := ⟨32, 32⟩
abbrev f_HBM_REF_STAT_ALERT_CNT : Fld := ⟨16, 16⟩
abbrev f_HBM_REF_STAT_TEMP : Fld := ⟨8, 8⟩
abbrev f_HBM_REF_STAT_HOT : Fld := ⟨0, 1⟩
/-- HBM.REF_STAT (R414, 15_hbm). -/
def a_HBM_REF_STAT (s : Nat) : Nat := 0x600028 + s * 0x80000
def r_HBM_REF_STAT : Reg := ⟨0x28, [], true, false, false, [⟨f_HBM_REF_STAT_RFM_CNT, .rc, false, 0, .atOnce⟩, ⟨f_HBM_REF_STAT_ALERT_CNT, .rc, false, 0, .atOnce⟩, ⟨f_HBM_REF_STAT_TEMP, .ro, false, 0, .atOnce⟩, ⟨f_HBM_REF_STAT_HOT, .ro, false, 0, .atOnce⟩]⟩
abbrev f_HBM_ECC_STAT_CE_CNT : Fld := ⟨32, 32⟩
abbrev f_HBM_ECC_STAT_UE_CNT : Fld := ⟨16, 16⟩
abbrev f_HBM_ECC_STAT_ODE_CNT : Fld := ⟨0, 16⟩
/-- HBM.ECC_STAT (R414, 15_hbm). -/
def a_HBM_ECC_STAT (s : Nat) : Nat := 0x600030 + s * 0x80000
def r_HBM_ECC_STAT : Reg := ⟨0x30, [], true, false, false, [⟨f_HBM_ECC_STAT_CE_CNT, .rc, false, 0, .atOnce⟩, ⟨f_HBM_ECC_STAT_UE_CNT, .rc, false, 0, .atOnce⟩, ⟨f_HBM_ECC_STAT_ODE_CNT, .rc, false, 0, .atOnce⟩]⟩
abbrev f_HBM_ECC_ADDR_ADDR : Fld := ⟨0, 36⟩
/-- HBM.ECC_ADDR (R414, 15_hbm). -/
def a_HBM_ECC_ADDR (s : Nat) : Nat := 0x600038 + s * 0x80000
def r_HBM_ECC_ADDR : Reg := ⟨0x38, [], true, false, false, [⟨f_HBM_ECC_ADDR_ADDR, .ro, false, 0, .atOnce⟩]⟩
abbrev f_HBM_SCRUB_CFG_EN : Fld := ⟨31, 1⟩
abbrev f_HBM_SCRUB_CFG_CE_LIMIT : Fld := ⟨16, 15⟩
abbrev f_HBM_SCRUB_CFG_PERIOD_H : Fld := ⟨0, 16⟩
/-- HBM.SCRUB_CFG (R414, 15_hbm). -/
def a_HBM_SCRUB_CFG (s : Nat) : Nat := 0x600040 + s * 0x80000
def r_HBM_SCRUB_CFG : Reg := ⟨0x40, [], false, true, false, [⟨f_HBM_SCRUB_CFG_EN, .rw, true, 1, .atOnce⟩, ⟨f_HBM_SCRUB_CFG_CE_LIMIT, .rw, true, 0x40, .atOnce⟩, ⟨f_HBM_SCRUB_CFG_PERIOD_H, .rw, true, 0x18, .atOnce⟩]⟩
abbrev f_HBM_MIGRATE_DONE_KIB : Fld := ⟨32, 32⟩
abbrev f_HBM_MIGRATE_TOTAL_KIB : Fld := ⟨0, 32⟩
/-- HBM.MIGRATE (R414, 15_hbm). -/
def a_HBM_MIGRATE (s : Nat) : Nat := 0x600048 + s * 0x80000
def r_HBM_MIGRATE : Reg := ⟨0x48, [], true, false, false, [⟨f_HBM_MIGRATE_DONE_KIB, .ro, false, 0, .atOnce⟩, ⟨f_HBM_MIGRATE_TOTAL_KIB, .ro, false, 0, .atOnce⟩]⟩
abbrev f_HBM_LOFT_LIMIT_V : Fld := ⟨0, 32⟩
/-- HBM.LOFT_LIMIT (R414, 15_hbm). -/
def a_HBM_LOFT_LIMIT (s : Nat) : Nat := 0x600050 + s * 0x80000
def r_HBM_LOFT_LIMIT : Reg := ⟨0x50, [], false, false, true, [⟨f_HBM_LOFT_LIMIT_V, .ro, false, 0xffffffff, .atOnce⟩]⟩
abbrev f_HBM_TRN_PAT_SEED : Fld := ⟨32, 32⟩
abbrev f_HBM_TRN_PAT_PC : Fld := ⟨8, 5⟩
abbrev f_HBM_TRN_PAT_KIND : Fld := ⟨0, 3⟩
/-- HBM.TRN_PAT (R414, 15_hbm). -/
def a_HBM_TRN_PAT (s : Nat) : Nat := 0x600100 + s * 0x80000
def r_HBM_TRN_PAT : Reg := ⟨0x100, [], true, false, false, [⟨f_HBM_TRN_PAT_SEED, .ro, false, 0, .atOnce⟩, ⟨f_HBM_TRN_PAT_PC, .ro, false, 0, .atOnce⟩, ⟨f_HBM_TRN_PAT_KIND, .ro, false, 0, .atOnce⟩]⟩
abbrev f_HBM_TRN_CMP_ERR_BEATS : Fld := ⟨32, 32⟩
abbrev f_HBM_TRN_CMP_DQ_FAIL : Fld := ⟨0, 32⟩
/-- HBM.TRN_CMP (R414, 15_hbm). -/
def a_HBM_TRN_CMP (s : Nat) : Nat := 0x600108 + s * 0x80000
def r_HBM_TRN_CMP : Reg := ⟨0x108, [], true, false, false, [⟨f_HBM_TRN_CMP_ERR_BEATS, .rc, false, 0, .atOnce⟩, ⟨f_HBM_TRN_CMP_DQ_FAIL, .ro, false, 0, .atOnce⟩]⟩
abbrev f_HBM_LOCK_SET : Fld := ⟨0, 1⟩
/-- HBM.LOCK (R483, 19_registers_integrity). -/
def a_HBM_LOCK (s : Nat) : Nat := 0x600ff8 + s * 0x80000
def r_HBM_LOCK : Reg := ⟨0xff8, [], false, false, true, [⟨f_HBM_LOCK_SET, .w1s, false, 0, .atOnce⟩]⟩

/-- The registers of a HBM block, in rising offset. -/
def regs_HBM : List Reg :=
  [r_HBM_MAP, r_HBM_PAGE_PWR, r_HBM_PR_CTRL, r_HBM_PC_STAT, r_HBM_TRN_STAT, r_HBM_REF_STAT, r_HBM_ECC_STAT, r_HBM_ECC_ADDR, r_HBM_SCRUB_CFG, r_HBM_MIGRATE, r_HBM_LOFT_LIMIT, r_HBM_TRN_PAT] ++
  [r_HBM_TRN_CMP, r_HBM_LOCK]

abbrev f_THA_CFG_RATIO : Fld := ⟨0, 13⟩
/-- THA.CFG (R296, 10_thatch). -/
def a_THA_CFG : Nat := 0x700000
def r_THA_CFG : Reg := ⟨0, [], false, true, true, [⟨f_THA_CFG_RATIO, .rw, true, 0x40, .atOnce⟩]⟩
abbrev f_THA_ENG_STAT_STATE : Fld := ⟨28, 4⟩
abbrev f_THA_ENG_STAT_CLIENT : Fld := ⟨23, 5⟩
abbrev f_THA_ENG_STAT_MODE : Fld := ⟨22, 1⟩
abbrev f_THA_ENG_STAT_LEVEL : Fld := ⟨18, 4⟩
/-- THA.ENG_STAT[e] (R296, 10_thatch). -/
def a_THA_ENG_STAT (e : Nat) : Nat := 0x700100 + e * 0x10
def r_THA_ENG_STAT : Reg := ⟨0x100, [⟨0, 16, 0x10⟩], false, false, false, [⟨f_THA_ENG_STAT_STATE, .ro, false, 0, .atOnce⟩, ⟨f_THA_ENG_STAT_CLIENT, .ro, false, 0, .atOnce⟩, ⟨f_THA_ENG_STAT_MODE, .ro, false, 0, .atOnce⟩, ⟨f_THA_ENG_STAT_LEVEL, .ro, false, 0, .atOnce⟩]⟩
abbrev f_THA_ENG_CNT_IN_KIB : Fld := ⟨32, 32⟩
abbrev f_THA_ENG_CNT_OUT_KIB : Fld := ⟨0, 32⟩
/-- THA.ENG_CNT[e] (R296, 10_thatch). -/
def a_THA_ENG_CNT (e : Nat) : Nat := 0x700108 + e * 0x10
def r_THA_ENG_CNT : Reg := ⟨0x108, [⟨0, 16, 0x10⟩], true, false, false, [⟨f_THA_ENG_CNT_IN_KIB, .rc, false, 0, .atOnce⟩, ⟨f_THA_ENG_CNT_OUT_KIB, .rc, false, 0, .atOnce⟩]⟩
abbrev f_THA_DEC_STAT_ERR_CNT : Fld := ⟨48, 16⟩
abbrev f_THA_DEC_STAT_RATIO_CNT : Fld := ⟨32, 16⟩
abbrev f_THA_DEC_STAT_OUT_LIMIT_CNT : Fld := ⟨16, 16⟩
abbrev f_THA_DEC_STAT_LAST_ERR : Fld := ⟨0, 4⟩
/-- THA.DEC_STAT (R296, 10_thatch). -/
def a_THA_DEC_STAT : Nat := 0x700200
def r_THA_DEC_STAT : Reg := ⟨0x200, [], true, false, false, [⟨f_THA_DEC_STAT_ERR_CNT, .rc, false, 0, .atOnce⟩, ⟨f_THA_DEC_STAT_RATIO_CNT, .rc, false, 0, .atOnce⟩, ⟨f_THA_DEC_STAT_OUT_LIMIT_CNT, .rc, false, 0, .atOnce⟩, ⟨f_THA_DEC_STAT_LAST_ERR, .ro, false, 0, .atOnce⟩]⟩
abbrev f_THA_REC_CFG_COL_HI : Fld := ⟨45, 19⟩
abbrev f_THA_REC_CFG_COL_LO : Fld := ⟨26, 19⟩
abbrev f_THA_REC_CFG_SEG_COURSES : Fld := ⟨18, 8⟩
abbrev f_THA_REC_CFG_LEVEL : Fld := ⟨14, 4⟩
abbrev f_THA_REC_CFG_DEST : Fld := ⟨0, 12⟩
/-- THA.REC_CFG (R327, 11_host_paths). -/
def a_THA_REC_CFG : Nat := 0x700400
def r_THA_REC_CFG : Reg := ⟨0x400, [], true, true, true, [⟨f_THA_REC_CFG_COL_HI, .rw, true, 0, .commit .record⟩, ⟨f_THA_REC_CFG_COL_LO, .rw, true, 0, .commit .record⟩, ⟨f_THA_REC_CFG_SEG_COURSES, .rw, true, 0x10, .commit .record⟩, ⟨f_THA_REC_CFG_LEVEL, .rw, true, 1, .commit .record⟩, ⟨f_THA_REC_CFG_DEST, .rw, true, 0, .commit .record⟩]⟩
abbrev f_THA_REC_STAGE_STAGE_BASE_HI : Fld := ⟨16, 48⟩
abbrev f_THA_REC_STAGE_STAGE_MIB : Fld := ⟨0, 16⟩
/-- THA.REC_STAGE (R327, 11_host_paths). -/
def a_THA_REC_STAGE : Nat := 0x700408
def r_THA_REC_STAGE : Reg := ⟨0x408, [], true, true, false, [⟨f_THA_REC_STAGE_STAGE_BASE_HI, .rw, true, 0, .commit .record⟩, ⟨f_THA_REC_STAGE_STAGE_MIB, .rw, true, 0, .commit .record⟩]⟩
abbrev f_THA_REC_STAT_REC_GAP_CNT : Fld := ⟨32, 32⟩
abbrev f_THA_REC_STAT_SEGMENT : Fld := ⟨1, 31⟩
abbrev f_THA_REC_STAT_WAITING : Fld := ⟨0, 1⟩
/-- THA.REC_STAT (R327, 11_host_paths). -/
def a_THA_REC_STAT : Nat := 0x700410
def r_THA_REC_STAT : Reg := ⟨0x410, [], true, false, false, [⟨f_THA_REC_STAT_REC_GAP_CNT, .rc, false, 0, .atOnce⟩, ⟨f_THA_REC_STAT_SEGMENT, .ro, false, 0, .atOnce⟩, ⟨f_THA_REC_STAT_WAITING, .ro, false, 0, .atOnce⟩]⟩
abbrev f_THA_LOCK_SET : Fld := ⟨0, 1⟩
/-- THA.LOCK (R483, 19_registers_integrity). -/
def a_THA_LOCK : Nat := 0x700ff8
def r_THA_LOCK : Reg := ⟨0xff8, [], false, false, true, [⟨f_THA_LOCK_SET, .w1s, false, 0, .atOnce⟩]⟩

/-- The registers of a THA block, in rising offset. -/
def regs_THA : List Reg :=
  [r_THA_CFG, r_THA_ENG_STAT, r_THA_ENG_CNT, r_THA_DEC_STAT, r_THA_REC_CFG, r_THA_REC_STAGE, r_THA_REC_STAT, r_THA_LOCK]

end Sys2Proof.Machine
end

