-- ==== Sys2Proof/Machine/State.lean ====
section
/-! DEFINITION. The state of the block, as plain data: everything the spec gives it (INVENTORY.md lists it), and the queue of the
commands that wait. -/

set_option maxRecDepth 4096

namespace Sys2Proof.Machine

/-- A register store: BAR0 address of a register and its value, addresses strictly rising; a register not listed holds its default
(its reset value, or the value option loading applied). -/
abbrev RegStore := List (Nat × W64)

/-- Byte memory in canonical form: addresses strictly rising, no entry equal to what an unlisted address reads as. -/
abbrev Mem := List Host.Cell

/-- The stamp of an item (R34). -/
structure Stamp where
  time   : W64
  seq    : BitVec 16
  origin : BitVec 6
  pair   : Bool
  late   : Bool
  deriving DecidableEq, Repr

/-- An item on its way to a ring: a whole unfragmented item, or the bytes of an object made so far (R308, R309). -/
structure RingItem where
  ring     : Nat
  content  : Nat
  objId    : W32
  tag      : W64
  body     : List Byte
  /-- Bytes of `body` already delivered in fragments, and the number of the next fragment. -/
  off      : Nat
  fseq     : Nat
  /-- The object is complete: its last byte is in `body`. Always true of an unfragmented item. -/
  complete : Bool
  trunc    : Bool
  /-- The envelope outcome the item answers, for content 8: its mailbox (R346). -/
  mailbox  : Option (Fin 16)
  deriving DecidableEq, Repr

/-- An error entry (R496). -/
structure ErrEntry where
  stamp   : Stamp
  epoch   : BitVec 16
  code    : BitVec 16
  cls     : Byte
  safe    : Bool
  rst     : Bool
  evicted : Bool
  rpt     : W32
  info    : W64
  deriving DecidableEq, Repr

/-- A merge point (R39 to R42). `fly` holds the items that its sources have made and that have not arrived yet, oldest first;
`held` the reorder window with each item's arrival in elapsed nanoseconds; `last` the stamp last released, `gone` every stamp
released since the block's reset, newest first, by which a duplicate is known (R40). -/
structure MergePt (α : Type) where
  fly      : List α
  held     : List (α × Nat)
  last     : Option Stamp
  gone     : List Stamp
  deriving DecidableEq, Repr

/-- The clock of the TIME block (R359 to R361). `acc` is device time with 48 fraction bits; `el` is elapsed time in units of
2^-48 ns, which no step changes (R360). -/
structure Clock where
  /-- TIO cycles since the model began, which number the cycles of the router (R380). -/
  cyc        : Nat
  acc        : BitVec 112
  el         : Nat
  epoch      : BitVec 16
  /-- The value saved in AON retained memory (R361), and the elapsed time of the last save since TIME's release. -/
  savedTime  : W64
  savedEpoch : BitVec 16
  savedAt    : Option Nat
  /-- The integral term of the servo (R363), the reference instant of the previous offset, and the run of used offsets inside and
  outside LOCK_NS (R364). -/
  iAcc       : Int
  lastRef    : Option Nat
  runIn      : Nat
  runOut     : Nat
  lastOffset : Nat
  /-- Elapsed time in 1/8 ns of the last accepted PPS_IN edge since SRC or CTRL was written (R366). -/
  ppsLast    : Option Nat
  /-- PPS_OUT is high until this elapsed time (R367); `ppsDone` is the last edge instant driven. -/
  ppsOutEnd  : Option Nat
  ppsDone    : Option Nat
  /-- Next fire time of each armed time trigger with the TT_START it was armed from (R372): none when disarmed. -/
  ttNext     : List (Option (Nat × Nat))
  /-- A TIME_STEP accepted and not yet applied: the command's id and the signed amount. -/
  step       : Option (Nat × Int)
  /-- The last step applied: its elapsed time and amount, to express an earlier instant in the time then in force. -/
  lastStep   : Option (Nat × Int)
  /-- The PTP port (R369 to R371): the Sync awaiting its Follow_Up (sequence, t2, correction); the last complete pair t1, t2, cs in
  2^-16 ns; the Delay_Req in flight (sequence, t3). -/
  ptpSync    : Option (BitVec 16 × Int × Int)
  ptpPair    : Option (Int × Int × Int)
  ptpReq     : Option (BitVec 16 × Int)
  /-- Sequence numbers of the messages the device sends: Delay_Req, Sync, Announce. -/
  ptpReqSeq  : BitVec 16
  ptpSyncSeq : BitVec 16
  ptpAnnSeq  : BitVec 16
  /-- The master followed: its identity and the data set it announced, as comparison keys; and when it was last heard. -/
  ptpMaster  : Option (BitVec 80 × List Nat)
  ptpAnnAt   : Nat
  /-- Foreign masters heard: identity, comparison key, elapsed times of their last two Announces, newest first. -/
  foreign    : List (BitVec 80 × List Nat × List Nat)
  deriving DecidableEq, Repr

/-- The eight modes of R48; code 6 is never reported. -/
inductive Mode
  | standby | calibrate | inspectWide | inspectPaired | inspectDeep | record | safeHold
  deriving DecidableEq, Repr

/-- A mode change accepted and not yet in force (R52): its target, the command that asked, and the first line it is in force on
when that is known. -/
structure ModePend where
  target : Mode
  cmd    : Option Nat
  /-- The change was accepted after the sync point of the course in progress (R12). -/
  line   : Option Nat
  deriving DecidableEq, Repr

/-- DEV.MODE and what stands behind it (R48 to R65, R548). -/
structure ModeSt where
  starting  : Bool
  cur       : Mode
  pend      : Option ModePend
  safeCause : BitVec 4
  /-- The first cause of SAFE_HOLD kept during start-up (R58). -/
  bootCause : Option (BitVec 4)
  /-- Filtered level of RIPCORD_N. -/
  ripcord   : Bool
  /-- The command id of the service operation that runs (R59). -/
  service   : Option Nat
  /-- Entries to an acquiring mode so far, which number them. -/
  entries   : Nat
  deriving DecidableEq, Repr

/-- A command taken and not yet started (R338). `id` numbers commands in the order they were taken. -/
structure Taken where
  id    : Nat
  h     : EnvHdr
  cmd   : Cmd
  at_   : Nat
  /-- Of the partner's commands: the line a course-boundary effect has, and the next line, when the envelope came (R342; log entry 101). -/
  line  : Option (Nat × Nat)
  deriving DecidableEq, Repr

/-- A class D command that has been accepted and awaits its final response (R336), with the elapsed time at which it was taken. -/
structure PendCmd where
  id    : Nat
  h     : EnvHdr
  cmd   : Cmd
  line  : W64
  at_   : Nat
  deriving DecidableEq, Repr

/-- An outcome kept for CMD_QUERY (R346). -/
structure Kept where
  mailbox : Fin 16
  tag     : W32
  opcode  : BitVec 16
  status  : BitVec 16
  line    : W64
  id      : Nat
  deriving DecidableEq, Repr

/-- A firmware bank (R475, R506, R507): its version, 0 where empty or failed; whether it holds a verified image; HO_FMT, HO_MIN and HO_MAX of the
image. -/
structure FwBank where
  version  : W32
  verified : Bool
  hoFmt    : Nat
  hoMin    : Nat
  hoMax    : Nat
  deriving DecidableEq, Repr

/-- A command marked A that the authority has sent on to the partner (R342): how it ended here, once it has, and whether it has ended there. -/
structure Fwd where
  id     : Nat
  cmd    : Cmd
  h      : EnvHdr
  mine   : Option (BitVec 16 × W64 × List Byte)
  theirs : Option (BitVec 16)
  deriving DecidableEq, Repr

/-- The Keel: commands in progress, kept outcomes, firmware banks (R331 to R346, R475, R508). -/
structure Keel where
  nextId   : Nat
  nextBox  : Nat
  waiting  : List Taken
  pending  : List PendCmd
  kept     : List Kept
  fwd      : List Fwd
  paused   : Bool
  bankA    : FwBank
  bankB    : FwBank
  /-- The bank in force: false A, true B. -/
  bankInB  : Bool
  recovery : Bool
  /-- A firmware swap is pausing: elapsed time of its start (R508, R509). -/
  pauseAt  : Option Nat
  deriving DecidableEq, Repr

/-- A block or island asked to go idle before an L0 or L1 reset (R466), with the elapsed time at which the wait ends. -/
structure IdleReq where
  unit     : RUnit
  deadline : Nat
  deriving DecidableEq, Repr

/-- Reset, clocks, start-up (R27, R463 to R475, R530). -/
structure ResetSt where
  clkGood   : BitVec 40
  /-- Units held in reset, with the elapsed time at which the reset ended and the wait for clock-good began. -/
  held      : List (RUnit × Option Nat)
  idle      : List IdleReq
  /-- VAON is below its threshold: POR asserted and not yet released (R530). -/
  por       : Bool
  /-- A reset of L2 or above whose cause is still present holds the device (RESET_N low). -/
  pinLow    : Bool
  /-- Option loading: running, and its restarts within the 1 s window (elapsed instants). -/
  optRun    : Bool
  optRuns   : List Nat
  forced    : Bool
  fwDone    : Bool
  hbmDone   : List Bool
  trip      : Bool
  /-- An option loading since power-on has driven or released the actuator pins (R477). -/
  pinsSet   : Bool
  /-- Level of a reset of L2 or above in progress until start-up completes, 0 if none. -/
  level     : Nat
  /-- Fuse table in OTP (R465): programmed, and the levels. -/
  otpProg   : Bool
  otpLevels : List Nat
  primary   : Bool
  deriving DecidableEq, Repr

/-- The error controller (R494 to R499). The head of `queue` is the current entry; `lastFatal` lies in AON retained memory. -/
structure ErrSt where
  queue      : List ErrEntry
  lastFatal  : Option ErrEntry
  evicted    : Bool
  /-- A FATAL error mapped to RESET, or a profile that failed admission on entry to SAFE_HOLD, was found in this step (R494, R67). -/
  resetDue   : Bool
  profileDue : Bool
  /-- Codes of FATAL errors whose condition may still be present (R499). -/
  fatalCodes : List Nat
  /-- Elapsed time of the last report of errors limited to one a second or one a course, by code and unit. -/
  lastReport : List ((Nat × Nat) × Nat)
  sweepAt    : Nat
  winOpen    : Option Nat
  winLong    : Bool
  deriving DecidableEq, Repr

/-- An event that has reached the router for one channel in one cycle (R380). `src` is the producer point, none for software. -/
structure DueEvt where
  chan  : Nat
  src   : Option Nat
  time  : W64
  epoch : BitVec 16
  cycle : Nat
  deriving DecidableEq, Repr

/-- Rate limit and storm guard of one channel (R387). -/
structure RateSt where
  count   : Nat
  dropped : Bool
  run     : Nat
  deriving DecidableEq, Repr

/-- One event pin (R384): accepted level of an input, and of an output the driven state (true active) and the end of a pulse. -/
structure EvioSt where
  level  : Bool
  active : Bool
  until_ : Option Nat
  deriving DecidableEq, Repr

/-- The event router's state besides its registers (R376 to R390). -/
structure EvtSt where
  due   : List DueEvt
  rate  : List (Nat × RateSt)
  /-- Consumer inputs that received an event in the given cycle (elapsed), for COALESCED (R380). -/
  fired : List (Nat × Nat)
  evio  : List EvioSt
  winAt : Nat
  deriving DecidableEq, Repr

/-- Ballast: when the last window began, and whether BAL_RT_SHORT was reported in this course (R66 to R70). -/
structure BalSt where
  /-- Budgets were reported short in this course (R69). -/
  rtReported : Bool
  /-- Client the best-effort round-robin serves first (R70). -/
  rr         : Nat
  /-- The profile of the mode in force that failed the check and has been reported (R67), each client's budgets. -/
  over_      : Option (List (Nat × Nat × Nat × Nat))
  /-- What each client has used in the window that began at this multiple of 1,024 ns of elapsed time (R66, R277, R313). -/
  window     : Nat
  used       : List Demand
  /-- Clients that found their share of the window used up (R69, R70). -/
  short      : List Nat
  deriving DecidableEq, Repr

/-- A ring context (R304) and what the device keeps beside it. -/
structure RingCtx where
  descBase  : W64
  typ       : BitVec 4
  loc       : Bool
  ro        : Bool
  flushLast : Bool
  en        : Bool
  log2Size  : Byte
  log2Buf   : Byte
  dest      : Byte
  vector    : BitVec 16
  coalDesc  : BitVec 16
  coalUs    : BitVec 16
  flushUs   : BitVec 16
  head      : BitVec 16
  tail      : BitVec 16
  stageKib  : W32
  dropCnt   : W32
  staged    : Nat
  offCnt    : W32
  items     : W64
  armed     : Bool
  err       : Byte
  deriving DecidableEq, Repr

/-- What the device keeps of an enabled ring beside its context: addresses of buffers posted and not yet completed (a ring in host memory), the
buffer in progress (its bytes, fragments and start), completions not yet reported and the first of them, whether items were dropped since the
last fragment, staged items, the datagram sequence of a TYPE 4 ring, descriptors prefetched, the ballast client of the first fragment in the buffer
and whether one of a best-effort client is in it (R306, R309 to R315, R322). -/
structure RingRun where
  posted   : List W64
  buf      : List Byte
  frags    : Nat
  bufAt    : Nat
  unrep    : Nat
  unrepAt  : Nat
  dropped  : Bool
  stage    : List RingItem
  dgram    : W64
  fetched  : Nat
  client   : Nat
  best     : Bool
  deriving DecidableEq, Repr

/-- The PCIe side and the Ethernet streams (R297 to R322). -/
structure HostSt where
  rings   : List (Nat × RingCtx)
  runs    : List (Nat × RingRun)
  /-- Items waiting for their ring, in the order they left the record merge. -/
  queue   : List RingItem
  /-- MSI-X: vectors not masked, vectors whose pending bit is set, and address and data of each entry by dword of the table. -/
  unmasked : List Nat
  msixPend : List Nat
  msixTab  : List (Nat × W32)
  busMaster : Bool
  /-- What the host has programmed in the configuration space (R297, R298, R300, R301). -/
  ctl      : PcieCtl
  d0       : Bool
  linkUp   : Bool
  /-- Elapsed time until which a destination's RATE cap, and a port's capacity, is used by datagrams sent (R322). -/
  destBusy : List (Nat × Nat)
  portBusy : List (Nat × Nat)
  /-- Frames received on the Ethernet ports and discarded (R321); no register shows it. -/
  ethDropped : Nat
  deriving DecidableEq, Repr

/-- One live view (R323 to R326): its slot; the destination of one that the host reserved; CLIENT_TAG; its window; where its frames go; elapsed
time of the last SUBSCRIBE or RENEW; frames sent; the number of its last frame instant; the elapsed time at which the last frame has been sent. -/
structure View where
  slot    : Nat
  dest    : Option Nat
  ctag    : W32
  x0      : Nat
  x1      : Nat
  zoom    : Nat
  rate    : Nat
  hOut    : Nat
  ip      : W32
  port    : BitVec 16
  mac     : BitVec 48
  ethPort : Nat
  lease   : Nat
  frame   : W32
  last    : Nat
  busyUntil : Nat
  /-- Datagrams of the frame being sent that have not begun to leave: when each is to, its tile, its bytes (R327). -/
  todo    : List (Nat × Nat × List Byte)
  /-- The tile that has begun to leave last. -/
  tile    : Option Nat
  deriving DecidableEq, Repr
/-- One active camera in the geometry of a course (R191): its port, its pipeline, first grid column and columns. -/
structure Cam where
  port : Nat
  pipe : Nat
  g0   : Nat
  n    : Nat
  deriving DecidableEq, Repr

/-- What is fixed for the lines of one course (R12, R56, R181): its first line and length, the mode, the shadowed registers in
force, the cameras in cross-direction order, whether that order was kept because new geometry broke R191 (R214), and the applied
registration of each seam (R193). Each line carries the settings it was issued under, so no line is processed under a mixture. -/
structure CourseCtx where
  first : Nat
  len   : Nat
  mode  : Nat
  cfg   : RegStore
  cams  : List Cam
  kept  : Bool
  /-- Seam columns S_s (R192). -/
  seams : List Nat
  reg   : List (Int × Int)
  /-- The entry to an acquiring mode that its mode began with, the entry from STANDBY that its acquisition began with, and whether that one
  started the column model anew (R172, R202, R222). -/
  entry : Nat
  run   : Nat
  anew  : Bool
  /-- Regions whose columns are cleared from the first line of the course on (R222). -/
  clear : Nat
  deriving DecidableEq, Repr

/-- The line descriptor of R97. -/
structure LineDesc where
  line       : Nat
  time       : W64
  epoch      : BitVec 16
  raw        : W64
  pos        : Int
  speed      : Int
  gap        : Nat
  dir        : Bool
  dirChange  : Bool
  speedValid : Bool
  extrap     : Bool
  /-- First line of its course (R181). -/
  first      : Bool
  /-- The settings of its course. -/
  ctx        : CourseCtx
  deriving DecidableEq, Repr

/-- One encoder channel besides its registers (R75 to R83). -/
structure EncSt where
  /-- Accepted levels of A, B and I; for a Hall channel U, V and W. -/
  a : Bool
  b : Bool
  i : Bool
  /-- Levels at the balls, A, B and I as bits 2 to 0, accepted or not (R76). -/
  ball : Nat
  /-- Last valid Hall state (R82). -/
  hall    : Option Nat
  /-- Value of the last valid SSI frame (R81). -/
  ssi     : Option Nat
  /-- Elapsed time at which the last SSI frame began (R81). -/
  frameAt : Option Int
  /-- Angle of the last applied sine/cosine sample (R79). -/
  angle   : Option Nat
  /-- Sign of the last count step: true backward; and elapsed time of the last change (R78). -/
  back    : Option Bool
  movedAt : Nat
  /-- Count at the previous index, while an index may be compared with it (R78). -/
  index   : Option Int
  deriving DecidableEq, Repr

/-- A pulse to come on an output (R98, R101): elapsed instants of the firing and of the pulse's beginning, and its width; for a marker the
compare unit and the pin. -/
structure Pulse where
  unit  : Nat
  pin   : Nat
  fired : Nat
  start : Nat
  width : Nat
  deriving DecidableEq, Repr

/-- One strobe output (R98, R99): pulses scheduled, the pulse in progress, and the pulses that lie in the preceding 100 µs, in elapsed
nanoseconds. -/
structure StrobeSt where
  sched  : List Pulse
  active : Option (Nat × Nat)
  past   : List (Nat × Nat)
  deriving DecidableEq, Repr

/-- The web position unit besides its registers. -/
structure WpuSt where
  enc       : List EncSt
  /-- Trigger position in position-word units and direction, true reverse (R91). -/
  t         : Int
  rev       : Bool
  /-- to_nm(t, S) at the previous evaluation (R93). -/
  evalNm    : Int
  /-- Edges of the run in progress, newest first: position in nm and elapsed time (R88); direction of the last edge. -/
  edges     : List (Int × Int)
  edgeBack  : Option Bool
  edgeAt    : Nat
  /-- Standstill has been declared since the last edge (R89). -/
  still     : Bool
  /-- Last applied sample of a sine/cosine or SSI master: nm, its instant and the sample period (R92). -/
  sample    : Option (Int × Int × Nat)
  extrap    : Bool
  /-- Furthest point triggered (R94); elapsed time of the last issued trigger (R95); points skipped since (R96). -/
  furthest  : Option Int
  lastTrig  : Option Nat
  gap       : Nat
  dirChange : Bool
  /-- The course in progress: its first line, its length, and whether its sync point has passed (R12, R181). -/
  courseAt  : Nat
  courseLen : Nat
  synced    : Bool
  /-- No line has been issued since the acquiring mode took effect. -/
  fresh     : Bool
  lastLine  : Option LineDesc
  /-- Settings of the course in progress, and the last 256 lines issued, newest first (R210). -/
  ctx       : CourseCtx
  issued    : List LineDesc
  /-- TIME, epoch and elapsed time of the instant acquisition last stopped (R180). -/
  stopAt    : W64 × BitVec 16
  stopEl    : Nat
  strobes   : List StrobeSt
  /-- Compare queues by unit (R100). -/
  cmp       : List (Nat × List Int)
  /-- Marker pulses to come; and the end of the pulse in progress on each pin (R101, R104). -/
  marks     : List Pulse
  mko       : List (Option Nat)
  /-- Slip window in progress: master and slip positions at its start (R106). -/
  slip      : Option (Int × Int)
  deriving DecidableEq, Repr

/-- A sample a filter delivered (R111 to R116): its value, how it was made, its true instant and the epoch in force then. -/
structure Sample where
  value  : Int
  coarse : Bool
  sat    : Bool
  stuck  : Bool
  time   : W64
  epoch  : BitVec 16
  deriving DecidableEq, Repr

/-- One filter of the DSP besides its registers (R110 to R118). -/
structure FltSt where
  /-- Integrators and comb delays, modulo 2^40, first stage first (R110). -/
  integ   : List Nat
  comb    : List Nat
  /-- Modulator bits since the last CIC output; CIC samples x, newest first; CIC samples since the last output instant. -/
  phase   : Nat
  xs      : List Int
  firPh   : Nat
  /-- A clamp since the last delivered sample. -/
  clamped : Bool
  /-- Coarse path: bits and ones of the group in progress, the last counts, newest first, the latest xc and whether it clamped. -/
  grp     : Nat
  ones    : Nat
  counts  : List Nat
  xc      : Option (Int × Bool)
  /-- Settle counter, the xc that began the settling, and the last y (R116, R117). -/
  settle  : Nat
  ref     : Option Int
  y       : Option Int
  /-- Level of the input and for how many modulator clocks it has held; stuck (R118). -/
  level   : Bool
  held    : Nat
  stuck   : Bool
  /-- The last delivered sample, and the samples delivered since the start (R122). -/
  out     : Option Sample
  aux     : Nat
  /-- TIO cycle up to which the filter has taken its modulator bits (R108). -/
  at_     : Nat
  deriving DecidableEq, Repr

/-- The settings of one filter, presets resolved (R114). -/
structure FltCfg where
  n      : Nat
  m      : Nat
  l      : Nat
  dec    : Nat
  fgd16  : Nat
  ckdiv  : Nat
  clkOn  : Bool
  /-- The filter's clock is DSM_CK1; CAP_DLY. -/
  second : Bool
  dly    : Nat
  raw    : Bool
  use    : Nat
  slot   : Nat
  preset : Nat
  cwin   : Nat
  stepEn : Bool
  thr    : Nat
  deriving DecidableEq, Repr

/-- One serial lane besides its registers (R415 to R436). `step` is the Tether state code of TPT.LINK, 0 DOWN to 6 ACTIVE; other
lanes use 0 to 3 and 4, 6 for their stages 4 and 5. -/
structure LaneSt where
  step     : Nat
  since    : Nat
  rate     : Nat
  /-- Training goes on at the granted rate: ALIGN lock leads to the delay measurement (R153 steps 7 and 8). -/
  final    : Bool
  /-- Consecutive returns to receiver detect, TETHER_BRINGUP_FAIL already reported, end of the pause (R154). -/
  returns  : Nat
  failed   : Bool
  pause    : Option Nat
  /-- The quad PLL lost lock; the lane returns to stage 1 with clock-good (R429). -/
  unlocked : Bool
  /-- Training (R425 to R428): statuses reported, requests already acted on, own receiver ready, consecutive valid frames with the far
  RX_READY, frames since both are ready. -/
  preStat  : Nat
  postStat : Nat
  preDone  : Bool
  ready    : Bool
  farRun   : Nat
  extra    : Option Nat
  /-- Calibration bursts (R431, R432): next BURST and when the last was sent; last one received; a miss already reported. -/
  burst    : BitVec 16
  burstAt  : Nat
  heardAt  : Nat
  missed   : Bool
  /-- Echo (R144): requests in flight by TAG; round trip less TURN of the last 64 exchanges in ps, newest first; exchanges since the
  measurement began; delay in use in ps. -/
  echoes   : List (BitVec 16)
  trips    : List Int
  count    : Nat
  dly      : Int
  /-- Elapsed time of the last periodic ECHO_REQ. -/
  echoAt   : Nat
  /-- Elapsed time of the last entry to receiver detect, at which what takes effect at next bring-up comes into force. -/
  detectAt : Nat
  /-- What the transmitter sends (R133): when its first codeword began, the ALIGN blocks sent since, and the counter of the next one. -/
  txFrom   : Nat
  aligns   : Nat
  alignNext : BitVec 16
  /-- In picoseconds (R133, R143, R157): where what has been given to the lane ends, and the slot of the last TRIGGER. -/
  txEnd    : Nat
  trigAt   : Nat
  deriving DecidableEq, Repr

/-- A request outstanding at a camera (R151): the packet as sent, when it was last sent, how often resent, the command it serves. -/
structure CamReq where
  typ     : Nat
  tag     : BitVec 16
  lane    : Nat
  packet  : List Byte
  sentAt  : Nat
  resends : Nat
  cmd     : Option Nat
  deriving DecidableEq, Repr

/-- An open line slot of a port (R155): the line, the epoch its TRIGGER named, its closing instant, the monitor readings of the line
(R121), the pixel segments received, and those of VCs routed to the host. -/
structure Slot where
  desc    : LineDesc
  due     : BitVec 16
  closeAt : Nat
  mons    : List (Option Sample)
  segs    : List (Nat × List Byte)
  epoch   : Option (BitVec 16)
  last    : Option Nat
  long    : Bool
  /-- Per VC routed to the host: offset, bytes, and whether LAST was set. -/
  meta_   : List (Nat × Nat × List Byte × Bool)
  deriving DecidableEq, Repr

/-- One Tether port besides its registers. -/
structure PortSt where
  slots    : List Slot
  /-- Highest line number of a slot that has closed. -/
  closedTo : Option Nat
  reqs     : List CamReq
  nextTag  : BitVec 16
  echoTag  : BitVec 16
  /-- TAGs of camera events acknowledged (R152). -/
  evTags   : List (BitVec 16)
  /-- Exposure epochs (R182), newest first: first line, epoch and EXPO_NS sent; and the port is marked changed. -/
  epochs   : List (Nat × BitVec 16 × Nat)
  changed  : Bool
  /-- A bring-up of the port since reset has sent a GRANT. -/
  granted  : Bool
  lastTrig : Option Nat
  /-- Elapsed time since which the bridle clock runs (R127, R153). -/
  clockAt  : Option Nat
  /-- Segments of lines not yet opened, kept in a pair (R457): when they arrived, lane and packet. -/
  heldSegs : List (Nat × Nat × List Byte)
  deriving DecidableEq, Repr

/-- A line as it reaches a pipeline when its slot closes (R155, R187). -/
structure InLine where
  desc  : LineDesc
  epoch : BitVec 16
  /-- The epoch its TRIGGER named, which a void line takes (R183). -/
  due   : BitVec 16
  void  : Bool
  short : Bool
  long  : Bool
  ovf   : Bool
  mons  : List (Option Sample)
  segs  : List (Nat × List Byte)
  deriving DecidableEq, Repr

/-- A line after stage 4 (R162): the rows of samples, none where invalid, with what the line header will carry. -/
structure RowLine where
  desc  : LineDesc
  epoch : BitVec 16
  void  : Bool
  short : Bool
  long  : Bool
  ovf   : Bool
  hold  : Bool
  sat   : Nat
  lg    : Nat
  rows  : List (List (Option Nat))
  deriving DecidableEq, Repr

/-- An output line of a pipeline (R186). `flags` has bit 0 VOID, 1 SHORT, 2 LONG, 3 OVERFLOW, 4 COLOUR_TURN, 5 COLOUR_GAP, 6 LG_HOLD,
7 SAT. -/
structure OutLine where
  desc    : LineDesc
  pipe    : Nat
  port    : Nat
  epoch   : BitVec 16
  g0      : Nat
  n       : Nat
  lg      : Nat
  flags   : Nat
  samples : List (Option Nat)
  deriving DecidableEq, Repr

/-- The statistics of one course in one pipeline (R179 to R183). -/
structure Stats where
  ctx     : CourseCtx
  port    : Nat
  rows    : Nat
  hist    : List Nat
  /-- Per zone: sums of R (or mono), G, B and the count of valid pixels. -/
  zones   : List (Nat × Nat × Nat × Nat)
  lines   : Nat
  voids   : Nat
  sat     : Nat
  flags   : Nat
  epochA  : Option (BitVec 16)
  epochB  : BitVec 16
  changes : Nat
  split   : Nat
  partial_ : Bool
  deriving DecidableEq, Repr

/-- An input overflow (R188): the first line of its course, the line from which the course is void, and whether the input slots were emptied,
which the overflow of a course's last line leaves as they are (R189). -/
structure Overflow where
  first   : Nat
  from_   : Nat
  emptied : Bool
  deriving DecidableEq, Repr

/-- One pipeline besides its registers. -/
structure PipeSt where
  input   : List InLine
  hist    : List RowLine
  lg      : Nat
  stats   : Option Stats
  /-- Statistics of courses whose record waits for the first line of the next course (R180). -/
  ready   : List Stats
  /-- The last overflows, newest first (R188). -/
  ovf     : List Overflow
  /-- Highest line emitted since acquisition began. -/
  done    : Option Nat
  /-- The entry to an acquiring mode of the last line taken in (R172). -/
  entry   : Option Nat
  deriving DecidableEq, Repr

/-- A mosaic line with its descriptor (R211). `flags`: bits 0 to 7 of the pipelines' flags, then 8 SEAM_TURN, 9 MD_EXTRAP,
10 EDGE_LOST_OS, 11 EDGE_LOST_DS, 12 REF_DATUM. -/
structure MosLine where
  stamp   : Stamp
  desc    : LineDesc
  md      : Int
  ref     : Int
  osq     : Option Int
  dsq     : Option Int
  voids   : Nat
  flags   : Nat
  samples : List (Option Nat)
  deriving DecidableEq, Repr

/-- One web edge (R205 to R207). -/
structure EdgeSt where
  tracking : Bool
  filt     : Option Int
  lost     : Nat
  /-- The last line of this side was lost. -/
  wasLost  : Bool
  deriving DecidableEq, Repr

/-- What the mosaic gathers over one course for its record (R212). -/
structure MosCourse where
  ctx     : CourseCtx
  lines   : Nat
  voids   : Nat
  mdFirst : Int
  mdLast  : Int
  /-- OS_MIN, OS_MAX, DS_MIN, DS_MAX. -/
  os      : Option (Int × Int)
  ds      : Option (Int × Int)
  osLost  : Nat
  dsLost  : Nat
  flags   : Nat
  borrow  : List Nat
  partial_ : Bool
  deriving DecidableEq, Repr

/-- A mosaic course record made and waiting for its TIME, or a finished measurement of a course (R202, R212). -/
structure SeamEntry where
  reason : Nat
  est    : Option (Int × Int)
  app    : Int × Int
  next   : Int × Int
  score  : Nat
  tex    : Nat
  pairs  : Nat
  limited : Bool
  static_ : Bool
  hold   : Bool
  deriving DecidableEq, Repr

/-- The mosaic besides its registers. -/
structure MosSt where
  /-- Lines issued and not yet emitted, oldest first. -/
  todo    : List LineDesc
  /-- Pipeline outputs released by the mosaic line merge, newest first, as deep as correction and registration need. -/
  got     : List OutLine
  edges   : List EdgeSt
  course  : Option MosCourse
  /-- Courses complete and awaiting SEAM_UPDATE, oldest first. -/
  closed  : List MosCourse
  /-- Applied registration by the first course (its first line) in which it is in force. -/
  regAt   : List (Nat × List (Int × Int))
  /-- Seams whose target was EST in the last course (R215). -/
  wasEst  : List Bool
  /-- Mosaic course records made and not yet complete with TIME. -/
  out     : List (MosCourse × List SeamEntry)
  /-- The entry to an acquiring mode of the last line made. -/
  entry   : Option Nat
  deriving DecidableEq, Repr

/-- One entry of the column model (R219). -/
structure CmEntry where
  m  : Nat
  v  : Nat
  mn : Nat
  mx : Nat
  n  : Nat
  deriving DecidableEq, Repr

/-- A mosaic line inside segmentation: difference d, contrast and masks by column. `d` is none where the sample is invalid or not
inspected; `cl` holds light and dark contrast; masks are 0 clear, 1 light grow, 2 light seed, 3 dark grow, 4 dark seed. -/
structure SegLine where
  line    : MosLine
  /-- Region of each column, none where not inspected. -/
  region  : List (Option Nat)
  d       : List (Option Int)
  cl      : List (Option (Int × Int))
  mask    : List Nat
  freewheel : Bool
  /-- A repeat model of the line awaits its first mark (R225); the shift of R226. -/
  waited  : Bool
  sh      : Int
  deriving DecidableEq, Repr

/-- A part: runs of one polarity in one strip (R234). `runs` lie on line `line`, its last with pixels; `cur` on the line in progress. -/
structure BlobPart where
  strip : Nat
  dark  : Bool
  blob  : Nat
  runs  : List (Nat × Nat)
  cur   : List (Nat × Nat)
  line  : Nat
  open_ : Bool
  deriving DecidableEq, Repr

/-- A blob being built (R237 to R246); coordinate sums are over grid columns and line numbers as they are. -/
structure Blob where
  id      : Nat
  dark    : Bool
  chain   : Nat
  frag    : Nat
  first   : Nat
  last    : Nat
  /-- Line, column and region of the first pixel. -/
  origin  : Option (Nat × Nat × Nat)
  area    : Nat
  sx      : Nat
  sy      : Nat
  sxx     : Nat
  syy     : Nat
  sxy     : Nat
  x0      : Nat
  x1      : Nat
  cmin    : Int
  cmax    : Int
  csum    : Int
  p4      : Nat
  seeds   : Nat
  seeded  : Bool
  voids   : Nat
  seams   : Nat
  regions : Nat
  joined  : Nat
  flags   : Nat
  deriving DecidableEq, Repr

/-- A blob delivered to classification (R246). -/
structure BlobDesc where
  stamp   : Stamp
  epoch   : BitVec 16
  ctx     : CourseCtx
  dark    : Bool
  area    : Nat
  x0      : Nat
  x1      : Nat
  height  : Nat
  cxq     : Nat
  cyq     : Nat
  mu20    : Nat
  mu02    : Nat
  mu11    : Int
  elong   : Nat
  cmin    : Int
  cmax    : Int
  cmean   : Int
  perim   : Nat
  p4      : Nat
  seamMask : Nat
  voids   : Nat
  seeds   : Nat
  region  : Nat
  frag    : Nat
  md      : Int
  cd      : Int
  first   : Nat
  last    : Nat
  closing : Nat
  regions : Nat
  chain   : Nat
  joined  : Nat
  flags   : Nat
  deriving DecidableEq, Repr

/-- An overflow entry (R243). -/
structure Ovf where
  strip : Nat
  dark  : Bool
  blob  : Blob
  deriving DecidableEq, Repr

/-- A repeat capture (R228): waiting for its first line or running; lines taken; per reference sample the sum and number of valid
values. -/
structure CapSt where
  running : Bool
  taken   : Nat
  sums    : List (Nat × Nat × Nat)
  deriving DecidableEq, Repr

/-- Registration of the repeat model by marks (R225): the mode entry it belongs to, the origin, a mark accepted, the web position of the last one. -/
structure RepReg where
  entry    : Nat
  origin   : Int
  marked   : Bool
  lastMark : Option Int
  deriving DecidableEq, Repr

/-- A blob closed on line `desc` with the runs of its parts there. -/
structure TailBlob where
  blob : Blob
  desc : LineDesc
  runs : List (Nat × Nat)
  deriving DecidableEq, Repr

/-- Segmentation besides its registers. -/
structure SegSt where
  enabled : Bool
  /-- The acquisition and the mode entry of the last line taken in, and the last line number at which thresholding advanced. -/
  run     : Option Nat
  entry   : Option Nat
  at_     : Nat
  /-- Mosaic lines arrived and not yet taken in, and lines taken in, newest first, as deep as kernels and morphology need. -/
  arrived : List MosLine
  hist    : List SegLine
  /-- The last line labelled: its final mask (0 clear, 1 light, 2 dark) with its line number. -/
  prev    : Option (Nat × List Nat)
  cm      : List (Nat × CmEntry)
  parts   : List BlobPart
  blobs   : List Blob
  ovf     : List Ovf
  nextBlob : Nat
  nextChain : Nat
  /-- Consecutive void lines of each strip. -/
  voidRun : List Nat
  warned  : Bool
  fullIn  : Option Nat
  /-- Registration of the repeat model (R225, R226): origin in force, a mark accepted, freewheel, the web position of the last accepted
  mark, the last shift, and a mark taken whose position is not yet computed (its time). -/
  origin  : Int
  marked  : Bool
  lastMark : Option Int
  sh      : Int
  mark    : Option W64
  capture : Option CapSt
  /-- Blobs are to be closed when a line has been labelled (R241): the acquisition, the line, and the flag bit; oldest first. -/
  closeAs : List (Nat × Nat × Nat)
  /-- Registration under the mode entry before the present one, for lines of it that are still to come; and the entry of the present one. -/
  repOld  : RepReg
  repEntry : Nat
  /-- Blobs closed on a line whose open sides below the next line will tell (R244). -/
  tail    : List TailBlob
  /-- The most entries of the label table during the line in progress (R236, R242). -/
  high    : Nat
  deriving DecidableEq, Repr

/-- Counts of a course or roll (R271). -/
structure Counts where
  blobs    : Nat
  defects  : Nat
  suppressed : Nat
  late     : Nat
  tableFull : Nat
  classes  : List (Nat × Nat)
  lanes    : List (Nat × Nat × Nat)
  voids    : Nat
  courses  : Nat
  deriving DecidableEq, Repr

/-- A course open or closing in classification (R273): its context, its roll and its number in it, counts, reported defects by class, whether
it is closed, the instant it ends at (TIME and epoch of the first line after it, or of the instant acquisition stopped, and elapsed time), and
the records that have arrived. -/
structure ClsCourse where
  ctx     : CourseCtx
  roll    : Nat
  number  : Nat
  counts  : Counts
  rated   : List (Nat × Nat)
  closed  : Bool
  ends    : Option (W64 × BitVec 16 × Nat)
  partial_ : Bool
  mosaic  : Option (List Byte)
  stats   : List (Nat × List Byte)
  deriving DecidableEq, Repr

/-- A roll (R274): its first line with its TIME and, once known, its MD_POS, and its last line with the settings in force there; END_CAUSE and
the instant of the line that ended it. -/
structure Roll where
  id      : Nat
  counts  : Counts
  fromReset : Bool
  first   : Option (Nat × W64)
  last    : Nat
  mdFirst : Option Int
  cause   : Nat
  ends    : Option (W64 × BitVec 16 × Nat)
  under   : Option CourseCtx
  deriving DecidableEq, Repr

/-- A Thatch stream being written (R280): level, history (newest first), tables of the last compressed block, whether the next block is the
first, the input not yet in a block, the running CRC-32C register and the total. -/
structure StreamSt where
  level : Nat
  hist  : List Byte
  prev  : Option (List Nat × List Nat)
  fresh : Bool
  pend  : List Byte
  crc   : Nat
  total : Nat
  deriving DecidableEq, Repr

/-- A crop queued or being cut (R265 to R268): its window, the elapsed time its cut started, lines read, bytes before and after compression,
and the STATUS it is to close with. -/
structure Crop where
  id      : Nat
  defect  : Stamp
  ring    : Nat
  level   : Nat
  x0      : Nat
  w       : Nat
  y0      : Nat
  h       : Nat
  started : Option Nat
  lines   : Nat
  raw     : Nat
  sent    : Nat
  enc     : StreamSt
  closed  : Option Nat
  deriving DecidableEq, Repr

/-- A loft export in progress (R320, R350): its command, ring and object, the next line to read, the first and the last, the bytes of a slot, the payload
bytes delivered, and whether it has lost a line. -/
structure Export where
  cmd  : Nat
  ring : Nat
  obj  : Nat
  next : Nat
  last : Nat
  first : Nat
  slot : Nat
  sent : Nat
  cut  : Bool
  deriving DecidableEq, Repr

/-- A line that the recorder is still to read from the loft (R318, R319): its number, whether it is the first of a course, or that RECORD has ended
before it. -/
structure RecLine where
  line  : Nat
  first : Bool
  ends  : Bool
  deriving DecidableEq, Repr

/-- The recorder (R318, R319): the number of the segment in progress or last closed, its stream, the courses it holds, whether it waits after an
interruption, the bytes ever put into the staging ring, and the lines not yet read, oldest first. -/
structure RecSt where
  seg     : Nat
  enc     : Option StreamSt
  courses : Nat
  course  : Nat
  waiting : Bool
  wr      : Nat
  unread  : List RecLine
  deriving DecidableEq, Repr

/-- A blob in its second pass (R255). -/
structure Pass2 where
  blob    : BlobDesc
  cls1    : Nat
  at_     : Nat
  deriving DecidableEq, Repr

/-- Position of a mosaic line (R210, R208): line, MD_POS, ref, TIME. -/
structure LinePos where
  line  : Nat
  md    : Int
  ref   : Int
  time  : W64
  deriving DecidableEq, Repr

/-- A roll change due (R274): END_CAUSE; for an event its stamp TIME, which the line's must exceed; the least line it may begin with; and the
ROLL_NEXT that waits for it (R337). -/
structure RollDue where
  cause : Nat
  after : Option W64
  line  : Nat
  cmd   : Option Nat
  deriving DecidableEq, Repr

/-- Classification besides its registers. -/
structure ClsSt where
  queue   : List BlobDesc
  pass2   : List Pass2
  courses : List ClsCourse
  rolls   : List Roll
  nextCrop : Nat
  crops   : List Crop
  /-- Loft (R263, R264): a freeze is pending with the lines left; lines written since entry, newest first by number. -/
  freeze  : Option Nat
  frozen  : Bool
  newest  : Option Nat
  written : List Nat
  /-- Positions of the last 16,384 mosaic lines, newest first (R261). -/
  pos     : List LinePos
  /-- Roll changes due. -/
  rollDue : List RollDue
  /-- Highest mosaic line emitted. -/
  emitted : Option Nat
  /-- Loft exports made, and the one in progress. -/
  objects : Nat
  exp     : Option Export
  rec_    : RecSt
  deriving DecidableEq, Repr


/-- The key of a defect record in the pair compare (R448): TIME, FIRST_LINE, X0, POLARITY and CLASS. -/
structure PairKey where
  time  : W64
  line  : Nat
  x0    : Nat
  dark  : Bool
  cls   : Nat
  deriving DecidableEq, Repr

/-- One side's LATCH of R441 step 5: raw position word and to_nm at the latch instant. -/
structure LatchVal where
  raw : W64
  nm  : Int
  deriving DecidableEq, Repr

/-- The pair logic besides its registers (R437 to R459). -/
structure PairSt where
  /-- RSEQ of the next packet sent and expected, control class then bulk class (R439). -/
  txCtl  : W32
  txBulk : W32
  rxCtl  : W32
  rxBulk : W32
  /-- For each envelope posted to mailbox 15 and not yet taken (R329): the line a course-boundary effect had when it came, and the next line
  (R342). The envelopes lie in HBM. -/
  box    : List (Nat × Nat)
  /-- Packets that wait for one sent before them: bulk class, RSEQ, arrival, the packet. -/
  early  : List (Bool × W32 × Nat × List Byte)
  /-- A HELLO has been sent, one has been received; elapsed time of the last HELLO sent and of the last control packet received. -/
  sent   : Bool
  got    : Bool
  sentAt : Nat
  heard  : Nat
  /-- The partner's last HELLO, and one whose check failed (R441). -/
  hello  : Option (List Byte)
  failed : Option (List Byte)
  /-- Steps of R441 done; 6 is established. -/
  step   : Nat
  /-- Latch instant, what this device captured at it and what the partner sent (R441 step 5). -/
  tL     : Option W64
  mine   : Option LatchVal
  theirs : Option LatchVal
  /-- LINE is taken from the next LINE_DESC. -/
  adopt  : Bool
  /-- Elapsed time of the last partner pulse on FENCE, and of the last pulse driven (R451). -/
  pulse  : Option Nat
  drove  : Option Nat
  /-- Elapsed time at which the link was lost, while the case of R452 is not decided. -/
  lostAt : Option Nat
  /-- PAIR_HANDOVER in progress: its command, whether it waits for a course boundary, and H once known (R454). -/
  hand   : Option (Nat × Bool × Option W64)
  /-- After a change of holder: elapsed H, whether this device took authority, and whether its safe level is already driven (R454). -/
  moved  : Option (Nat × Bool × Bool)
  /-- Points the shadow unit found due that no LINE_DESC has named, oldest first, with the elapsed time; and LINE_DESCs adopted before
  their point fell due (R444, R457). -/
  points : List (LineDesc × Nat)
  descs  : List (Nat × Nat)
  /-- What a device that took authority still adds to its positions (R445; log entry 32). -/
  kept   : Int
  /-- Sum and number of the differences of this course (R445). -/
  diff   : Int × Nat
  /-- Defect records awaiting their counterpart, with the elapsed time: own, released, and the partner's (R448). -/
  own    : List (PairKey × List Byte × Nat)
  theirs_ : List (PairKey × List Byte × Nat)
  told   : Bool
  /-- Keys of the own records since the start of a split, and records in the reconciliation store (R457, R459). -/
  keys   : List PairKey
  store  : Nat
  /-- PARTNER_REJOIN: its command and its start; the reconciliation of R459 is under way. -/
  rejoin : Option (Nat × Nat)
  joinAt : Option Nat
  recon  : Bool
  /-- Lines whose records are UNVERIFIED (R453, R457, R458): the first, and the first after them once known. -/
  unv    : Option (Nat × Option Nat)
  deriving DecidableEq, Repr

/-- PIPE_TAKEOVER in progress (R511): its command, target and spare, the copy's end, the first line of the first shadow course once
known, and the line from which the spare serves the port. -/
structure TakeSt where
  cmd    : Nat
  target : Nat
  spare  : Nat
  copied : Bool
  first  : Option Nat
  serves : Option Nat
  deriving DecidableEq, Repr

/-- A course, or two shadow courses, in which a spare is compared with a target (R503, R511): first and last line, lines that differ. -/
structure Comp where
  target : Nat
  first  : Nat
  last   : Nat
  diffs  : Nat
  shadow : Bool
  deriving DecidableEq, Repr

/-- The comparison of a spare pipeline (R503, R511): the target patrolled last; comparisons whose lines have not all left, oldest first; output
lines of the spare and of the targets that await their counterpart: line, void, samples; a takeover in progress. -/
structure SpareSt where
  at_   : Option Nat
  comps : List Comp
  spare : List (Nat × Bool × List (Option Nat))
  its   : List (Nat × Bool × List (Option Nat))
  take  : Option TakeSt
  deriving DecidableEq, Repr

/-- One Thatch engine (R277 to R285): its job with the input not yet in a block, RATIO as it was when the job started, the state of its stream; in
bounded mode the bytes of the buffer in progress; input taken for the next block, in hundredths of a byte; input bytes already in blocks; whether the
end block has been made; output made and not yet written, bytes written and bytes of the destination free for the job in all; the HBM address of a
save requested; the elapsed time up to which it has worked; whether a state moves to or from the stacks, and leaves; and the client and level of a
crop or recording that it codes. -/
structure EngSt where
  job    : Option ThaJob
  ratio  : Nat
  enc    : StreamSt
  cur    : Nat
  got    : Nat
  coded  : Nat
  ends   : Bool
  todo   : List Byte
  wrote  : Nat
  room   : Nat
  save   : Option Nat
  at_    : Nat
  busy   : Bool
  leaving : Bool
  own    : Option (Nat × Nat)
  deriving DecidableEq, Repr

/-- The Thatch engines and the states saved in HBM, by address (R284). -/
structure ThaSt where
  engines : List EngSt
  saved   : List (Nat × EngSt)
  deriving DecidableEq, Repr
/-- One bank of a pseudo-channel (R395 to R398): the open row, the row last accessed, the page predictor, the rolling activation count,
activations held at RAAMMT since the last RFM, and when it was last accessed. -/
structure BankSt where
  row  : Option Nat
  last : Option Nat
  pred : Nat
  raa  : Nat
  held : Nat
  at_  : Nat
  deriving DecidableEq, Repr

/-- What a pseudo-channel is doing (R399 to R402, R413). -/
inductive PcMode
  | active | powerDown | draining | selfRefresh | off | zeroing
  deriving DecidableEq, Repr

/-- One pseudo-channel: its mode and since when, its last request, a request waiting for it, when it was last tracked, and the corrections of
this scrub pass. -/
structure PcSt where
  mode  : PcMode
  since : Nat
  at_   : Nat
  wants : Bool
  track : Nat
  ce    : Nat
  deriving DecidableEq, Repr

/-- One stack and its controller besides its registers: banks by pseudo-channel * 64 + bank; RAAIMT and RAAMMT; partial retention in force;
the pseudo-channel under step P; the next granule of the scrubber; the stack readout was 95 degrees or above. -/
structure StackSt where
  pcs      : List PcSt
  banks    : List (Nat × BankSt)
  raaimt   : Nat
  raammt   : Nat
  retained : Bool
  stepP    : Option Nat
  scrub    : Nat
  hot95    : Bool
  deriving DecidableEq, Repr

/-- A retirement accepted (R411 to R413): its command, none where start-up found the failure; the stack and pseudo-channel; whether its
point has been reached and migration runs. -/
structure Retire where
  cmd     : Option Nat
  stack   : Nat
  pc      : Nat
  started : Bool
  deriving DecidableEq, Repr

/-- The memory controllers: the stacks; 64-byte words that are uncorrectable and granules whose HBM_UE has been reported (R408); a setpoint
change with its stacks, its target and whether the PLLs retune (R406); a retirement under way; pseudo-channels retired, kept in the
calibration store; the loft limit in force, and the refuge closed (R412). -/
structure MemSt where
  stack   : List StackSt
  bad     : List Nat
  told    : List Nat
  setp    : Option (Nat × Nat × Nat × Bool)
  retire  : Option Retire
  retired : List Nat
  limit   : Option Nat
  closed  : Bool
  deriving DecidableEq, Repr

/-- One calibration item in force (R518, R523). -/
structure CalItem where
  item  : Nat
  coefs : List W32
  count : Nat
  time  : W64
  deriving DecidableEq, Repr

/-- CAL_RUN under way (R519 to R522): its command, item and argument; the first line of its capture once known; lines taken; per row and pixel
the sum and number of valid samples; EST and REASON of a seam; the result pending with the instant it was made and the line its course
boundary is waited from; which halves of a lane's set have come into force. -/
structure CalRun where
  cmd   : Nat
  item  : Nat
  arg   : W64
  start : Option Nat
  taken : Nat
  sums  : List (List (Nat × Nat))
  seam  : Option (Nat × Int × Int)
  pend  : Option (List W32 × W64 × Nat)
  rx    : Bool
  tx    : Bool
  deriving DecidableEq, Repr

/-- The calibration store and SRAM repair (R515 to R524): items in force; the run under way; the copy in force, its GENERATION and the copy
that a store writes; repairs in force as their 32-bit entries, and pending; corrections by word, with their instants; words whose SRAM_UE has been reported; a stored item has
changed since the last store; a store of the device's own is due; items in the copy in force. -/
structure CalSt where
  items   : List CalItem
  run     : Option CalRun
  copy    : Option Nat
  gen     : W32
  target  : Nat
  repairs : List W32
  pendRep : List (RUnit × SramStore × W32)
  ces     : List ((RUnit × Nat) × List Nat)
  ues     : List (RUnit × Nat)
  dirty   : Bool
  auto    : Bool
  loaded  : Nat
  deriving DecidableEq, Repr

/-- The user NV image in flash (R470 to R472): the copy in force, the copy that NV_WRITE writes; a fuse table being programmed; BOOT_BANK. -/
structure FlashSt where
  copy   : Option Nat
  target : Nat
  bootB  : Bool
  deriving DecidableEq, Repr

/-- Temperatures besides THM's registers (R542, R543): a reading has been taken; sensors reported invalid; since when Tj has been 3 degrees
below the thresholds of WARN, THROTTLE and HOT; time in THROTTLE not yet counted and the last reading; the last reset was a trip. -/
structure ThmSt where
  read    : Bool
  failed  : List Nat
  below   : List (Option Nat)
  thrNs   : Nat
  at_     : Nat
  tripped : Bool
  deriving DecidableEq, Repr
/-- What an item carries (R42). -/
inductive Payload
  /-- A record, crop fragment object, auxiliary item or event log entry, for its ring. -/
  | ring (r : RingItem)
  /-- An error entry (R496). -/
  | err (e : ErrEntry)
  /-- An output line of a pipeline (R186). -/
  | line (l : OutLine)
  /-- A blob (R246). -/
  | blob (b : BlobDesc)
  /-- A record of the partner, or of its reconciliation store, and its arrival in elapsed time (R448, R459). -/
  | pairRec (recon : Bool) (at_ : Nat) (bytes : List Byte)
  deriving DecidableEq, Repr

/-- An item at a merge point: its stamp, the epoch of its defining instant, and what it carries. -/
structure Item where
  stamp   : Stamp
  epoch   : BitVec 16
  payload : Payload
  deriving DecidableEq, Repr

/-- The six merge points (R42). -/
structure Merges where
  mosaic : MergePt Item
  seam   : MergePt Item
  record : MergePt Item
  evt    : MergePt Item
  err    : MergePt Item
  pair   : MergePt Item
  deriving DecidableEq, Repr

/-- An actuator or signal pin whose level the spec gives (R477). -/
inductive Pin
  | mko (n : Nat) | stb (n : Nat) | evio (n : Nat)
  | ppsOut | dsmCk (k : Nat) | bridleCk (p : Nat) | fence | smbAlert
  deriving DecidableEq, Repr

/-- What drives a pin: a level, or released to its weak pull. -/
inductive Drive
  | low | high | released
  deriving DecidableEq, Repr

/-- Something the device makes its surroundings see, in the order made. -/
inductive Out
  /-- A read completes with data (the value, zero-extended). -/
  | readData (v : W64)
  /-- A read completes with Completer Abort (R33, R482). -/
  | completerAbort
  /-- A PCIe advisory non-fatal error: AER status and ERR_COR (R33, R482). -/
  | advisory
  /-- An MSI-X message on a vector. -/
  | msix (vector : Nat)
  /-- A memory write request to host memory, with its Relaxed Ordering attribute; and a memory read request (R301). No request has No Snoop set. -/
  | hostWrite (addr : W64) (ro : Bool) (bytes : List Byte)
  | hostRead (addr : W64) (len : Nat)
  | pin (p : Pin) (d : Drive)
  /-- DSM_CKk runs: a rising edge every ckdiv cycles, high for half of them, integer part (R108). -/
  | dsmClock (k ckdiv : Nat)
  /-- SSI_CK gives periods at a frequency in kHz, the first beginning with a falling edge at an elapsed instant, and is high from then on (R81). -/
  | ssiClock (start : Int) (periods khz : Nat)
  /-- A write to the boot flash (R469). -/
  | flashWrite (addr : Nat) (bytes : List Byte)
  /-- A packet or control block on a Tether lane (R134, R142), and the instant in picoseconds of its first block slot. A TRIGGER takes its slot
  wherever it falls; the blocks of a packet or burst around it go on behind it (R133, R157). -/
  | tether (p : Nat) (lane : Nat) (slot : Nat) (bytes : List Byte)
  /-- `n` ALIGN blocks have stood on a lane since it was last said, one at the head of every 4,096th codeword, with counters from `first` on. Every
  slot that nothing takes holds an IDLE block (R132, R133). -/
  | align (lane : Nat) (first : BitVec 16) (n : Nat)
  /-- A packet on the Ridge link (R439): type and body. -/
  | ridge (typ : Nat) (bytes : List Byte)
  /-- An Ethernet frame's ARP, ICMP or PTP content, to an address; `tag` holds the 802.1Q tag and the DSCP of a configured
  destination: bit 18 tagged, bits 17 to 6 identifier, bits 5 to 0 DSCP (R321). -/
  | eth (port : Nat) (ip : W32) (mac : BitVec 48) (tag : Nat) (bytes : List Byte)
  /-- A UDP datagram, besides with source and destination port and checksum (R322). -/
  | udp (port : Nat) (ip : W32) (mac : BitVec 48) (src dst check : BitVec 16) (tag : Nat) (bytes : List Byte)
  /-- An Ethernet lane comes up, with RS-FEC or without (R321). -/
  | ethUp (lane : Nat) (fec : Bool)
  /-- A FENCE pulse of the given nanoseconds (R451). -/
  | fencePulse (ns : Nat)
  /-- Bytes answered on SMBus (R541). -/
  | smbus (bytes : List Byte)
  /-- Something a transmitter of a lane sends that is not a packet: kind and lane (R424, R425, R431). -/
  | lane (lane : Nat) (kind : Nat) (bytes : List Byte)
  /-- A Thatch job's result (R294): engine, status, input bytes consumed, output bytes. -/
  | thatch (engine status consumed produced : Nat)
  deriving DecidableEq, Repr

/-- A counter field raised in the TIO cycle that runs: its register, its place, what it held as the cycle found it, and how often. -/
structure Raised where
  addr   : Nat
  lsb    : Nat
  w      : Nat
  before : Nat
  times  : Nat
  deriving DecidableEq, Repr

/-- What an access in the same TIO cycle must know of it (R10): bits of W1C fields that the device has set, counters it has raised, and bits of
W1S fields written 1 while they were set. Empty as a new cycle begins. -/
structure CycleSt where
  flags  : List (Nat × W64)
  raised : List Raised
  asked  : List (Nat × W64)
  /-- Channels whose index has latched, each with the count of the index before and its IDX_ERR before (R77); and the line issued (R125). -/
  idx    : List (Nat × Option Int × W64)
  line   : Option Nat
  deriving DecidableEq, Repr

/-- Everything but the HBM bytes and the command queue. -/
structure Dev where
  /-- Values written (R13); values in force of shadowed fields; values as they stood at the sync point (R12). -/
  regs     : RegStore
  force    : RegStore
  snap     : RegStore
  /-- Values applied by the last option loading, or brought into force by a reset since (R468). -/
  nv       : RegStore
  /-- Pending copies of fields that take effect at next reset, in AON retained memory (R547). -/
  nextRst  : RegStore
  /-- Contents of the tables of R317, by tabAddr; the user's part of AON retained memory (R476). -/
  tab      : Mem
  aonUser  : Mem
  /-- Next SEQ of each origin (R37). -/
  seqs     : List (BitVec 16)
  /-- The TIO cycle that runs (R10). -/
  cycle    : CycleSt
  clk      : Clock
  mode     : ModeSt
  keel     : Keel
  rst      : ResetSt
  err      : ErrSt
  evt      : EvtSt
  bal      : BalSt
  host     : HostSt
  views    : List View
  mrg      : Merges
  /-- The web position unit (R75 to R107). -/
  wpu : WpuSt
  /-- The filters F0 to F7 (R108 to R125). -/
  flt : List FltSt
  /-- TIO cycles in which the modulator clocks DSM_CK0 and DSM_CK1 began to run as they run (R108). -/
  ckAt : List Nat
  /-- The serial lanes (R415 to R436). -/
  lanes : List LaneSt
  /-- The Tether ports (R126 to R158). -/
  ports : List PortSt
  /-- The pixel pipelines (R159 to R189). -/
  pipes : List PipeSt
  /-- The mosaic (R190 to R215). -/
  mos : MosSt
  /-- Segmentation (R216 to R248). -/
  seg : SegSt
  /-- Classification, the loft writer and crops (R249 to R276). -/
  cls : ClsSt
  /-- The pair logic (R437 to R459). -/
  pair : PairSt
  /-- Bytes that the step in progress stores in the HBM stacks, oldest first; empty between steps. -/
  hbmw : List (Nat × List Byte)
  /-- Ranges of the stacks that the step in progress reads, oldest first; empty between steps. -/
  hbmr : List (Nat × Nat)
  /-- Stacks and pseudo-channels whose contents the step in progress loses; empty between steps. -/
  hbmLost : List (Nat × Nat)
  /-- The comparison of the spare pipeline (R503, R511). -/
  spare : SpareSt
  /-- The Thatch engines (R277 to R296). -/
  tha : ThaSt
  /-- The memory controllers (R391 to R414). -/
  mem : MemSt
  /-- Calibration and SRAM repair (R515 to R524). -/
  cal : CalSt
  /-- What the device knows of the boot flash (R469 to R475). -/
  flash : FlashSt
  /-- Temperatures (R542 to R544). -/
  thm : ThmSt
  out      : List Out
  deriving DecidableEq, Repr

/-- The machine: the block, the bytes of the two HBM stacks (R391), and the commands waiting, first in first out. -/
structure State where
  dev     : Dev
  hbm     : Mem
  pending : List Instr
  deriving DecidableEq, Repr

/-- No path of this model faults: every command the table lists has the effect the spec gives it, and an address outside the
stacks or the register space has a described outcome (R304, R314, R482). It has no constructor, so a step cannot answer it. -/
inductive Fault
  deriving DecidableEq, Repr

/-- Why a command is refused. -/
inductive Refusal
  /-- The command has no meaning in the model yet; raised by Dispatch alone. Safe: the machine stops. -/
  | notModelled (mnemonic : String)
  deriving DecidableEq, Repr
/-- A merge point that holds nothing. -/
def MergePt.empty {α : Type} : MergePt α := ⟨[], [], none, []⟩

/-- The clock after power-on: device time 0 and TIME_EPOCH 0, unset (R361). -/
def Clock.reset : Clock where
  cyc := 0
  acc := 0
  el := 0
  epoch := 0
  savedTime := 0
  savedEpoch := 0
  savedAt := none
  iAcc := 0
  lastRef := none
  runIn := 0
  runOut := 0
  lastOffset := 0
  ppsLast := none
  ppsOutEnd := none
  ppsDone := none
  ttNext := List.replicate 8 none
  step := none
  lastStep := none
  ptpSync := none
  ptpPair := none
  ptpReq := none
  ptpReqSeq := 0
  ptpSyncSeq := 0
  ptpAnnSeq := 0
  ptpMaster := none
  ptpAnnAt := 0
  foreign := []

/-- No mode is in force until start-up ends (R548): STARTING reads 1, CUR_MODE 0, RIPCORD 0. -/
def ModeSt.reset : ModeSt where
  starting := true
  cur := .standby
  pend := none
  safeCause := 0
  bootCause := none
  ripcord := false
  service := none
  entries := 0

/-- The Keel before its firmware runs. -/
def Keel.reset : Keel where
  nextId := 0
  nextBox := 0
  waiting := []
  pending := []
  kept := []
  fwd := []
  paused := false
  bankA := ⟨0, false, 0, 0, 0⟩
  bankB := ⟨0, false, 0, 0, 0⟩
  bankInB := false
  recovery := false
  pauseAt := none

/-- Every unit outside the AON island, all held in reset after power-on (DEV.ISL_RESET reads 0xFF_FFFF_FFFE). -/
def allUnits : List RUnit :=
  [.cfg, .err, .mbx, .evt, .wpu, .dsp, .time, .bal, .cal, .thm] ++ (List.finRange 17).map .pipe ++ [.mos, .seg, .cls] ++
  (List.finRange 13).map .lq ++ (List.finRange 16).map .tpt ++ [.rdg, .pcx, .eth, .hbm 0, .hbm 1, .tha, .rng]

/-- Reset logic after power-on: only the AON island has clock-good (R46), every other unit is held in reset. -/
def ResetSt.reset : ResetSt where
  clkGood := 1
  held := allUnits.map (fun u => (u, none))
  idle := []
  por := false
  pinLow := true
  optRun := false
  optRuns := []
  forced := false
  fwDone := false
  hbmDone := [false, false]
  trip := false
  pinsSet := false
  level := 4
  otpProg := false
  otpLevels := [4, 3, 3, 1, 1, 0, 3, 2, 2, 2, 3, 3, 3, 3, 0, 3]
  primary := false

/-- No error has occurred. -/
def ErrSt.reset : ErrSt where
  queue := []
  lastFatal := none
  evicted := false
  resetDue := false
  profileDue := false
  fatalCodes := []
  lastReport := []
  sweepAt := 0
  winOpen := none
  winLong := false

/-- Nothing has reached the router; the event pins are inputs that sense low. -/
def EvtSt.reset : EvtSt where
  due := []
  rate := []
  fired := []
  evio := List.replicate 32 ⟨false, false, none⟩
  winAt := 0

/-- The configuration space after reset: no base address, payloads of 128 bytes and read requests of 512, Relaxed Ordering enabled, MSI-X off
(PRESUMED: log entry 112). -/
def pcieReset : PcieCtl := ⟨0, 0, 0, 2, true, false, false⟩

/-- No ring is enabled; every MSI-X vector is masked, as the PCI Express Base Specification resets it (R300). -/
def HostSt.reset : HostSt where
  rings := []
  runs := []
  queue := []
  unmasked := []
  msixPend := []
  msixTab := []
  busMaster := false
  ctl := pcieReset
  d0 := true
  linkUp := false
  destBusy := []
  portBusy := []
  ethDropped := 0

/-- No course. -/
def CourseCtx.none_ : CourseCtx := ⟨0, 1024, 0, [], [], false, [], [], 0, 0, false, 0⟩

/-- An encoder channel after reset (R83). -/
def EncSt.reset : EncSt := ⟨false, false, false, 0, none, none, none, none, none, 0, none⟩

/-- The web position unit after reset (R83, R91): positions 0, forward, standstill. -/
def WpuSt.reset : WpuSt where
  enc := List.replicate 4 .reset
  t := 0
  rev := false
  evalNm := 0
  edges := []
  edgeBack := none
  edgeAt := 0
  still := true
  sample := none
  extrap := false
  furthest := none
  lastTrig := none
  gap := 0
  dirChange := false
  courseAt := 0
  courseLen := 1024
  synced := false
  fresh := true
  lastLine := none
  ctx := .none_
  issued := []
  stopAt := (0, 0)
  stopEl := 0
  strobes := List.replicate 8 ⟨[], none, []⟩
  cmp := []
  marks := []
  mko := List.replicate 16 none
  slip := none

/-- A filter at its start: everything cleared, settling over n CIC samples (R116, R123). -/
def FltSt.start (n : Nat) : FltSt where
  integ := [0, 0, 0, 0, 0]
  comb := [0, 0, 0, 0, 0]
  phase := 0
  xs := []
  firPh := 0
  clamped := false
  grp := 0
  ones := 0
  counts := []
  xc := none
  settle := n
  ref := none
  y := none
  level := false
  held := 0
  stuck := false
  out := none
  aux := 0
  at_ := 0

/-- A lane after reset: DOWN. -/
def LaneSt.reset : LaneSt where
  step := 0
  since := 0
  rate := 0
  final := false
  returns := 0
  failed := false
  pause := none
  unlocked := false
  preStat := 0
  postStat := 0
  preDone := false
  ready := false
  farRun := 0
  extra := none
  burst := 0
  burstAt := 0
  heardAt := 0
  missed := false
  echoes := []
  trips := []
  count := 0
  dly := 0
  echoAt := 0
  detectAt := 0
  txFrom := 0
  aligns := 0
  alignNext := 0
  txEnd := 0
  trigAt := 0

/-- A Tether port after reset. -/
def PortSt.reset : PortSt where
  slots := []
  closedTo := none
  reqs := []
  nextTag := 0
  echoTag := 0
  evTags := []
  epochs := []
  changed := false
  granted := false
  lastTrig := none
  clockAt := none
  heldSegs := []

/-- A pipeline after reset. -/
def PipeSt.reset : PipeSt := ⟨[], [], 16384, none, [], [], none, none⟩

/-- A web edge in acquisition. -/
def EdgeSt.reset : EdgeSt := ⟨false, none, 0, false⟩

/-- The mosaic after reset. -/
def MosSt.reset : MosSt := ⟨[], [], [.reset, .reset], none, [], [], [], [], none⟩

/-- Segmentation after reset. -/
def SegSt.reset : SegSt where
  enabled := false
  run := none
  entry := none
  at_ := 0
  arrived := []
  hist := []
  prev := none
  cm := []
  parts := []
  blobs := []
  ovf := []
  nextBlob := 0
  nextChain := 1
  voidRun := []
  warned := false
  fullIn := none
  origin := 0
  marked := false
  lastMark := none
  sh := 0
  mark := none
  capture := none
  closeAs := []
  repOld := ⟨0, 0, false, none⟩
  repEntry := 0
  tail := []
  high := 0

/-- No counts. -/
def Counts.empty : Counts := ⟨0, 0, 0, 0, 0, [], [], 0, 0⟩

/-- Classification after reset: the roll that starts at reset takes NEXT_ID and carries ROLL_PARTIAL (R274). -/
def ClsSt.reset : ClsSt where
  queue := []
  pass2 := []
  courses := []
  rolls := [⟨0, .empty, true, none, 0, none, 3, none, none⟩]
  nextCrop := 1
  crops := []
  freeze := none
  frozen := false
  newest := none
  written := []
  pos := []
  rollDue := []
  emitted := none
  objects := 0
  exp := none
  rec_ := ⟨0, none, 0, 0, false, 0, []⟩


/-- An idle engine. -/
def EngSt.reset : EngSt := ⟨none, 64, ⟨0, [], none, true, [], 0, 0⟩, 0, 0, 0, false, [], 0, 0, none, 0, false, false, none⟩

/-- The Thatch engines after reset: idle, nothing saved. -/
def ThaSt.reset : ThaSt := ⟨List.replicate 16 .reset, []⟩


/-- A pseudo-channel taking requests. -/
def PcSt.reset : PcSt := ⟨.active, 0, 0, false, 0, 0⟩

/-- A bank at reset (R396). -/
def BankSt.reset : BankSt := ⟨none, none, 2, 0, 0, 0⟩

/-- A stack before its training. -/
def StackSt.reset : StackSt := ⟨List.replicate 32 .reset, [], 0, 0, false, none, 0, false⟩

/-- The memory controllers before their training. -/
def MemSt.reset : MemSt := ⟨[.reset, .reset], [], [], none, none, [0, 0], none, false⟩

/-- No calibration loaded. -/
def CalSt.reset : CalSt := ⟨[], none, none, 0, 0, [], [], [], [], false, false, 0⟩

/-- Nothing read yet. -/
def ThmSt.reset : ThmSt := ⟨false, [], [none, none, none], 0, 0, false⟩
/-- No pair. -/
def PairSt.reset : PairSt where
  txCtl := 0
  txBulk := 0
  rxCtl := 0
  rxBulk := 0
  box := []
  early := []
  sent := false
  got := false
  sentAt := 0
  heard := 0
  hello := none
  failed := none
  step := 0
  tL := none
  mine := none
  theirs := none
  adopt := false
  pulse := none
  drove := none
  lostAt := none
  hand := none
  moved := none
  points := []
  descs := []
  kept := 0
  diff := (0, 0)
  own := []
  theirs_ := []
  told := false
  keys := []
  store := 0
  rejoin := none
  joinAt := none
  recon := false
  unv := none

/-- No comparison. -/
def SpareSt.reset : SpareSt := ⟨none, [], [], [], none⟩

/-- The block right after power-on (L4). -/
def Dev.reset : Dev where
  regs := []
  force := []
  snap := []
  nv := []
  nextRst := []
  tab := []
  aonUser := []
  seqs := List.replicate 64 0
  cycle := ⟨[], [], [], [], none⟩
  clk := .reset
  mode := .reset
  keel := .reset
  rst := .reset
  err := .reset
  evt := .reset
  bal := ⟨false, 11, none, 0, [], []⟩
  host := .reset
  views := []
  mrg := ⟨.empty, .empty, .empty, .empty, .empty, .empty⟩
  wpu := .reset
  flt := List.replicate 8 (.start 20)
  ckAt := [0, 0]
  lanes := List.replicate 52 .reset
  ports := List.replicate 16 .reset
  pipes := List.replicate 17 .reset
  mos := .reset
  seg := .reset
  cls := .reset
  pair := .reset
  hbmw := []
  hbmr := []
  hbmLost := []
  spare := .reset
  tha := .reset
  mem := .reset
  cal := .reset
  flash := ⟨none, 0, false⟩
  thm := .reset
  out := []

/-- The machine right after reset: power-on, before the power-good instant of R461, no command waiting. -/
def State.reset : State where
  dev := .reset
  hbm := []
  pending := []

end Sys2Proof.Machine
end

