-- ==== Sys2Proof/Machine/Ops.lean ====
section
/-! DEFINITION. The named operations over registers, memory, time and stamps that every command uses. -/

namespace Sys2Proof.Machine

/-! ### Stores -/

/-- The value listed for an address. -/
def RegStore.find : RegStore → Nat → Option W64
  | [], _ => none
  | p :: m, a => if p.1 = a then some p.2 else if a < p.1 then none else RegStore.find m a

/-- The store with an address listed at a value; addresses stay rising. -/
def RegStore.put : RegStore → Nat → W64 → RegStore
  | [], a, v => [(a, v)]
  | p :: m, a, v => if p.1 = a then (a, v) :: m else if a < p.1 then (a, v) :: p :: m else p :: RegStore.put m a v

/-- The store without the addresses that satisfy p. -/
def RegStore.drop (m : RegStore) (p : Nat → Bool) : RegStore := m.filter (fun e => !p e.1)

/-- The byte at an address; an unlisted address reads as dflt says. -/
def Mem.read (dflt : Nat → Byte) : Mem → Nat → Byte
  | [], a => dflt a
  | p :: m, a => if p.1 = a then p.2 else if a < p.1 then dflt a else Mem.read dflt m a

/-- Store a byte, keeping the canonical form: writing what an unlisted address reads as removes the entry. -/
def Mem.write (dflt : Nat → Byte) : Mem → Nat → Byte → Mem
  | [], a, b => if b = dflt a then [] else [(a, b)]
  | p :: m, a, b =>
    if p.1 = a then (if b = dflt a then m else (a, b) :: m)
    else if a < p.1 then (if b = dflt a then p :: m else (a, b) :: p :: m)
    else p :: Mem.write dflt m a b

/-- Addresses strictly rise from above lo, and no entry equals its default. -/
def Mem.wfFrom (dflt : Nat → Byte) : Nat → Mem → Bool
  | _, [] => true
  | lo, p :: m => decide (lo ≤ p.1) && decide (p.2 ≠ dflt p.1) && Mem.wfFrom dflt (p.1 + 1) m

/-- The canonical form. -/
def Mem.wf (dflt : Nat → Byte) (m : Mem) : Bool := Mem.wfFrom dflt 0 m

/-- n bytes from an address up. -/
def Mem.readBytes (dflt : Nat → Byte) (m : Mem) (a n : Nat) : List Byte :=
  (List.range n).map (fun i => m.read dflt (a + i))

/-- Store bytes from an address up. -/
def Mem.writeBytes (dflt : Nat → Byte) : Mem → Nat → List Byte → Mem
  | m, _, [] => m
  | m, a, b :: bs => Mem.writeBytes dflt (m.write dflt a b) (a + 1) bs

/-- What an HBM byte that nothing has written reads as: zero (log entry 5). -/
def hbmDefault (_ : Nat) : Byte := 0

/-- Bytes of both stacks together (R391): 48 GiB. -/
def hbmBytes : Nat := 48 * 2 ^ 30

/-! ### Units and the register map (R44) -/

end Sys2Proof.Machine

namespace Sys2Proof

open Machine

/-- The BAR0 address of a unit's window. -/
def RUnit.base : RUnit → Nat
  | .dev => 0x00000 | .rst => 0x10000 | .aon => 0x20000 | .cfg => 0x30000 | .err => 0x40000 | .mbx => 0x50000
  | .evt => 0x60000 | .wpu => 0x70000 | .dsp => 0x80000 | .time => 0x90000 | .bal => 0xA0000 | .cal => 0xB0000
  | .thm => 0xC0000
  | .pipe n => 0x100000 + n * 0x10000
  | .mos => 0x300000 | .seg => 0x380000 | .cls => 0x3C0000
  | .lq q => 0x400000 + q * 0x10000
  | .tpt p => 0x500000 + p * 0x1000
  | .rdg => 0x580000 | .pcx => 0x5C0000 | .eth => 0x5E0000
  | .hbm s => 0x600000 + s * 0x80000
  | .tha => 0x700000 | .rng => 0x800000

/-- Bytes of a unit's window. -/
def RUnit.size : RUnit → Nat
  | .mos => 0x80000 | .seg => 0x40000 | .cls => 0x40000
  | .tpt _ => 0x1000
  | .rdg => 0x40000 | .pcx => 0x20000 | .eth => 0x20000
  | .hbm _ => 0x80000 | .tha => 0x100000 | .rng => 0x40000
  | _ => 0x10000

end Sys2Proof

namespace Sys2Proof.Machine

/-- The unit whose window holds a BAR0 address (R44); the TBL window and addresses outside every range belong to none. -/
def unitAt (a : Nat) : Option RUnit :=
  let k := a / 0x10000
  if k < 16 then
    match k with
    | 0 => some .dev | 1 => some .rst | 2 => some .aon | 3 => some .cfg | 4 => some .err | 5 => some .mbx | 6 => some .evt
    | 7 => some .wpu | 8 => some .dsp | 9 => some .time | 10 => some .bal | 11 => some .cal | 12 => some .thm
    | _ => none
  else if k < 0x21 then (if h : k - 16 < 17 then some (.pipe ⟨k - 16, h⟩) else none)
  else if k < 0x30 then none
  else if k < 0x38 then some .mos
  else if k < 0x3C then some .seg
  else if k < 0x40 then some .cls
  else if k < 0x4D then (if h : k - 0x40 < 13 then some (.lq ⟨k - 0x40, h⟩) else none)
  else if k < 0x50 then none
  else if k < 0x51 then (if h : (a - 0x500000) / 0x1000 < 16 then some (.tpt ⟨(a - 0x500000) / 0x1000, h⟩) else none)
  else if k < 0x58 then none
  else if k < 0x5C then some .rdg
  else if k < 0x5E then some .pcx
  else if k < 0x60 then some .eth
  else if k < 0x68 then some (.hbm 0)
  else if k < 0x70 then some (.hbm 1)
  else if k < 0x80 then some .tha
  else if k < 0x84 then some .rng
  else none

end Sys2Proof.Machine

namespace Sys2Proof

open Machine

/-- The address lies in a unit's window. -/
def RUnit.has (u : RUnit) (a : Nat) : Bool := u.base ≤ a && a < u.base + u.size

/-- The islands a unit's clock comes from (R25, R44). -/
def RUnit.islands : RUnit → List Nat
  | .dev | .rst | .aon => [0]
  | .cfg | .err | .mbx | .bal | .cal | .thm => [1]
  | .rng => [2]
  | .lq q => [3 + q]
  | .tpt p => [3 + p / 2]
  | .rdg => [11, 12]
  | .pcx => [13, 14]
  | .eth => [15]
  | .pipe n => [16 + n]
  | .mos => [33] | .seg => [34] | .cls => [35] | .tha => [36]
  | .hbm s => [37 + s]
  | .evt | .wpu | .dsp | .time => [39]

/-- The register families of a unit; common TPT registers and the LQ and TPT locks lie in window 0 alone, and
LOFT_LIMIT in HBM0 alone (R45, R482). -/
def RUnit.regs : RUnit → List Reg
  | .dev => regs_DEV | .rst => regs_RST | .aon => regs_AON | .cfg => regs_CFG | .err => regs_ERR | .mbx => regs_MBX
  | .evt => regs_EVT | .wpu => regs_WPU | .dsp => regs_DSP | .time => regs_TIME | .bal => regs_BAL | .cal => regs_CAL
  | .thm => regs_THM | .pipe _ => regs_PIPE | .mos => regs_MOS | .seg => regs_SEG | .cls => regs_CLS
  | .lq q => if q.val = 0 then regs_LQ else regs_LQ.filter (fun r => r.off < 0xFF8)
  | .tpt p => if p.val = 0 then regs_TPT else regs_TPT.filter (fun r => r.off < 0xF80)
  | .rdg => regs_RDG | .pcx => regs_PCX | .eth => regs_ETH
  | .hbm s => if s.val = 0 then regs_HBM else regs_HBM.filter (fun r => r.off ≠ 0x50)
  | .tha => regs_THA | .rng => []

/-- The register at an offset of a unit's window, with its indices. -/
def RUnit.find (u : RUnit) (off : Nat) : Option (Reg × List Nat) :=
  u.regs.findSome? (fun r => (r.indexAt off).map (fun i => (r, i)))

end Sys2Proof

namespace Sys2Proof.Machine

/-- The register at a BAR0 address. -/
def regAt (a : Nat) : Option (RUnit × Reg × List Nat) :=
  (unitAt a).bind (fun u => (u.find (a - u.base)).map (fun p => (u, p.1, p.2)))

/-- The factory reset levels and minima of the sixteen sources (R464). -/
def factoryLevels : List Nat := [4, 3, 3, 1, 1, 0, 3, 2, 2, 2, 3, 3, 3, 3, 0, 3]
/-- The minimum reset levels (R464). -/
def minLevels : List Nat := [4, 3, 2, 1, 1, 0, 2, 2, 2, 2, 3, 2, 2, 3, 0, 3]

/-- The class of an error code (R495, R544 and the thermal table): 0 NOTICE, 1 CORRECTED, 2 UNCORRECTED, 3 FATAL. -/
def errClass (c : Nat) : Nat :=
  if c ∈ [0x01, 0x02, 0x03] then 3
  else if c ∈ [0x07, 0x09] then 1
  else if c ∈ [0x0A, 0x0B, 0x0D, 0x0E, 0x0F, 0x10, 0x12, 0x18, 0x1B, 0x1F, 0x21, 0x22, 0x26, 0x27, 0x28, 0x2B, 0x2E] then 0
  else if 0x40 ≤ c then thermalClass c
  else 2
where
  /-- The classes of the thermal codes (R544). -/
  thermalClass (c : Nat) : Nat := if c = 0x43 then 3 else if c = 0x40 ∨ c = 0x41 then 0 else 2

/-- A best-effort client's cap in the resources R71 gives it: HBM, Thatch, Keel, DMA (R73). -/
def bestEffortCaps (c : Nat) : Nat × Nat × Nat × Nat :=
  let h := if c ∈ [11, 12, 13, 14, 15, 18, 19, 20, 21, 22] then 4096 else 0
  let t := if c ∈ [11, 16, 17] then 2048 else 0
  let k := if c ∈ [15, 16, 17, 21, 22, 23] then 1024 else 0
  let d := if c ∈ [12, 13, 14, 15, 17, 20, 22] then 448 else 0
  (h, t, k, d)

/-- The factory profile of mode index m for client c (R72, R73): HBM, Thatch, Keel, DMA. -/
def factoryProfile (m c : Nat) : Nat × Nat × Nat × Nat :=
  if m = 6 then (0, 0, 0, 0)
  else if 11 ≤ c then bestEffortCaps c
  else
    match c, m with
    | 0, 2 | 0, 5 | 1, 2 | 1, 5 => (1920, 0, 0, 0)
    | 0, 3 | 1, 3 => (1632, 0, 0, 0)
    | 0, 4 | 1, 4 => (960, 0, 0, 0)
    | 2, 4 => (128, 0, 0, 0)
    | 2, 1 | 2, 2 | 2, 3 | 2, 5 => (256, 0, 0, 0)
    | 3, 1 | 3, 2 | 3, 3 | 3, 4 | 3, 5 => (32, 0, 0, 64)
    | 4, _ => (16, 0, 0, 8)
    | 5, 2 | 5, 3 | 5, 4 | 5, 5 => (256, 2048, 0, 0)
    | 6, 3 => (512, 0, 0, 0)
    | 7, 5 => (1536, 12288, 0, 0)
    | 8, _ => (64, 0, 1024, 0)
    | 9, 1 => (1920, 0, 0, 0)
    | 10, 4 => (1024, 0, 0, 0)
    | _, _ => (0, 0, 0, 0)

/-- Four budgets in the layout of BAL.PROFILE. -/
def packBudget (b : Nat × Nat × Nat × Nat) : W64 :=
  fset (fset (fset (fset 0 f_BAL_PROFILE_HBM b.1) f_BAL_PROFILE_THA b.2.1) f_BAL_PROFILE_KEEL b.2.2.1) f_BAL_PROFILE_DMA b.2.2.2

/-- The value of a register after reset where no option loading has run: reset values and factory defaults, with the entries that
depend on the index (PIPE.ROLE, CH_SRC.OWNER, QUAD_STAT.REF, the factory profiles, error map and fuse table). -/
def staticReg (a : Nat) : W64 :=
  match regAt a with
  | none => 0
  | some (u, r, ix) =>
    let i := ix.headD 0
    match u with
    | .pipe n =>
      if r.off = 0 then (if n.val = 16 then fset r.value f_PIPE_ROLE_ROLE 1 else fset r.value f_PIPE_ROLE_PORT n) else r.value
    | .evt => if r.off = 0x1000 ∧ 240 ≤ i then fset r.value f_EVT_CH_SRC_OWNER 1 else r.value
    | .lq q => if r.off = 0 ∧ (q.val = 10 ∨ q.val = 11) then fset r.value f_LQ_QUAD_STAT_REF 1 else r.value
    | .bal => if r.off = 0x1000 then packBudget (factoryProfile i (ix.getD 1 0)) else r.value
    | .err =>
      if r.off = 0x1000 then
        (if errClass i = 3 then fset (fset 0 f_ERR_MAP_IRQ 1) f_ERR_MAP_SAFE 1
         else if errClass i = 2 then fset 0 f_ERR_MAP_IRQ 1 else 0)
      else r.value
    | .rst =>
      if r.off = 0x100 then fset (fset 0 f_RST_FUSE_MIN (minLevels.getD i 0)) f_RST_FUSE_LEVEL (factoryLevels.getD i 0)
      else r.value
    | _ => r.value

/-- What one access touches of one register: the register, the byte of it the access starts at, the bytes touched, and the byte of
the access data they correspond to (R483, R488). -/
structure Part where
  addr  : Nat
  unit  : RUnit
  reg   : Reg
  index : List Nat
  lo    : Nat
  n     : Nat
  at_   : Nat
  deriving DecidableEq, Repr

/-- The part of a 4-byte access: a 32-bit register, or half of a 64-bit one. -/
def part4 (a at_ : Nat) : Option Part :=
  match regAt a with
  | some (u, r, ix) => some ⟨a, u, r, ix, 0, 4, at_⟩
  | none =>
    if a % 8 = 4 then
      match regAt (a - 4) with
      | some (u, r, ix) => if r.wide then some ⟨a - 4, u, r, ix, 4, 4, at_⟩ else none
      | none => none
    else none

/-- The registers an aligned access of 4 or 8 bytes touches, lower first; none where it includes a reserved location (R482, R483). -/
def accessParts (a size : Nat) : Option (List Part) :=
  if size = 4 then (part4 a 0).map (fun p => [p])
  else
    match regAt a with
    | some (u, r, ix) =>
      if r.wide then some [⟨a, u, r, ix, 0, 8, 0⟩]
      else (part4 (a + 4) 4).map (fun p => [⟨a, u, r, ix, 0, 4, 0⟩, p])
    | none => none

/-- The bits of its register that a part covers. -/
def Part.mask (p : Part) : W64 := BitVec.ofNat 64 ((2 ^ (8 * p.n) - 1) <<< (8 * p.lo))

/-- Access data laid out as the register of a part. -/
def Part.lay (p : Part) (data : W64) : W64 := ((data >>> (8 * p.at_)) <<< (8 * p.lo)) &&& p.mask

/-! ### The device's own accesses to registers -/

/-- The value a register takes at reset of its block: what option loading applied (R468), or the static value. -/
def Dev.dflt (d : Dev) (a : Nat) : W64 := (d.nv.find a).getD (staticReg a)

/-- The register as last written (R13). -/
def Dev.rd (d : Dev) (a : Nat) : W64 := (d.regs.find a).getD (d.dflt a)

/-- Set a register. -/
def Dev.wr (d : Dev) (a : Nat) (v : W64) : Dev := { d with regs := d.regs.put a v }

/-- A field as last written. -/
def Dev.rdF (d : Dev) (a : Nat) (f : Fld) : Nat := fget (d.rd a) f

/-- A one-bit field as last written. -/
def Dev.rdB (d : Dev) (a : Nat) (f : Fld) : Bool := fbit (d.rd a) f

/-- Set a field. -/
def Dev.wrF (d : Dev) (a : Nat) (f : Fld) (n : Nat) : Dev := d.wr a (fset (d.rd a) f n)

/-- Set a one-bit field. -/
def Dev.wrB (d : Dev) (a : Nat) (f : Fld) (b : Bool) : Dev := d.wrF a f (if b then 1 else 0)

/-- Set a signed field. -/
def Dev.wrS (d : Dev) (a : Nat) (f : Fld) (n : Int) : Dev := d.wr a (fsetS (d.rd a) f n)

/-- The cycle has raised a counter n times that held `before` (R10). -/
def CycleSt.raise (c : CycleSt) (a : Nat) (f : Fld) (before n : Nat) : CycleSt :=
  let mine (r : Raised) : Bool := r.addr = a && r.lsb = f.lo && r.w = f.w
  if c.raised.any mine then { c with raised := c.raised.map (fun r => if mine r then { r with times := r.times + n } else r) }
  else { c with raised := c.raised ++ [⟨a, f.lo, f.w, before, n⟩] }

/-- Raise a saturating counter field. -/
def Dev.inc (d : Dev) (a : Nat) (f : Fld) (n : Nat := 1) : Dev :=
  { d.wr a (fincSat (d.rd a) f n) with cycle := d.cycle.raise a f (fget (d.rd a) f) n }

/-- Set bits of a W1C field, which a write in the same cycle does not clear (R10). -/
def Dev.flag (d : Dev) (a : Nat) (f : Fld) (bits : Nat := 1) : Dev :=
  { d.wrF a f (d.rdF a f ||| bits) with cycle := { d.cycle with flags := (a, fset 0 f bits) :: d.cycle.flags } }

/-- Bits of a list of masks at an address. -/
def masksAt (l : List (Nat × W64)) (a : Nat) : W64 := l.foldl (fun m p => if p.1 = a then m ||| p.2 else m) 0

/-- Clear bits of a W1S field; those that a write has asked for in the same cycle stay set (R10). -/
def Dev.unask (d : Dev) (a : Nat) (f : Fld) (bits : Nat := 1) : Dev :=
  d.wr a (d.rd a &&& ~~~(fset 0 f bits &&& ~~~masksAt d.cycle.asked a))

/-- A register of shadowed fields as it is in force (R12). -/
def Dev.inForce (d : Dev) (a : Nat) : W64 := (d.force.find a).getD (d.dflt a)

/-- A shadowed field in force. -/
def Dev.inF (d : Dev) (a : Nat) (f : Fld) : Nat := fget (d.inForce a) f

/-- A shadowed signed field in force. -/
def Dev.inS (d : Dev) (a : Nat) (f : Fld) : Int := fgetS (d.inForce a) f

/-- A shadowed one-bit field in force. -/
def Dev.inB (d : Dev) (a : Nat) (f : Fld) : Bool := fbit (d.inForce a) f

/-- A register as in force for the lines of a course (R56). -/
def Dev.under (d : Dev) (c : CourseCtx) (a : Nat) : W64 := (c.cfg.find a).getD (d.dflt a)

/-- A field in force for the lines of a course. -/
def Dev.cF (d : Dev) (c : CourseCtx) (a : Nat) (f : Fld) : Nat := fget (d.under c a) f

/-- A signed field in force for the lines of a course. -/
def Dev.cS (d : Dev) (c : CourseCtx) (a : Nat) (f : Fld) : Int := fgetS (d.under c a) f

/-- A one-bit field in force for the lines of a course. -/
def Dev.cB (d : Dev) (c : CourseCtx) (a : Nat) (f : Fld) : Bool := fbit (d.under c a) f

/-- Set a shadowed field in force and as written (a change the device makes itself). -/
def Dev.wrForce (d : Dev) (a : Nat) (f : Fld) (n : Nat) : Dev :=
  { d with regs := d.regs.put a (fset (d.rd a) f n), force := d.force.put a (fset (d.inForce a) f n) }

/-- wrForce of a signed field. -/
def Dev.wrForceS (d : Dev) (a : Nat) (f : Fld) (n : Int) : Dev := d.wrForce a f (uwrap n f.w)

/-- Bring the fields with Takes effect term e into force from the written values `src`, at the addresses that satisfy p (R12). -/
def Dev.bringFrom (d : Dev) (src : RegStore) (e : Eff) (p : Nat → Bool) : Dev :=
  let addrs := ((src ++ d.force).map (·.1)).filter p
  let force := addrs.foldl (fun (f : RegStore) a =>
    match regAt a with
    | none => f
    | some (_, r, _) =>
      let m := r.effMask e
      if m = 0 then f
      else f.put a (blend m ((src.find a).getD (d.dflt a)) ((f.find a).getD (d.dflt a)))) d.force
  { d with force := force }

/-- Bring the fields of a commit into force. -/
def Dev.commit (d : Dev) (k : CommitKind) : Dev := d.bringFrom d.regs (.commit k) (fun _ => true)

/-! ### Time (R359, R360) -/

/-- MAXR of R359: 500 ppm in units of 2^-48. -/
def maxRate : Int := 140737488355

/-- RATE in force, within its limits. -/
def Dev.rate (d : Dev) : Int := clampI (d.rd a_TIME_RATE).toInt (-maxRate) maxRate

/-- A unit is held in reset. -/
def Dev.isHeld (d : Dev) (u : RUnit) : Bool := d.rst.held.any (fun p => p.1 = u)

/-- An island's clock-good (R27). -/
def Dev.clockGood (d : Dev) (i : Nat) : Bool := d.rst.clkGood.getLsbD i

/-- An island holds a unit in reset: its bit of DEV.ISL_RESET. -/
def Dev.islandHeld (d : Dev) (i : Nat) : Bool := d.rst.held.any (fun p => i ∈ p.1.islands)

/-- The unit is reachable for register access (R47). -/
def Dev.reachable (d : Dev) (u : RUnit) : Bool :=
  match u with
  | .dev | .rst | .aon => true
  | _ => u.islands.all (fun i => d.clockGood i && !d.islandHeld i)

/-- Device time, in nanoseconds of TAI (R359). -/
def Dev.now (d : Dev) : W64 := (d.clk.acc >>> 48).setWidth 64

/-- Elapsed time in nanoseconds (R360). -/
def Dev.el (d : Dev) : Nat := d.clk.el >>> 48

/-- Nanoseconds of the REFCLK timebase, on which the intervals of the Tether link and of the lanes are measured (R360). -/
def Dev.refNs (d : Dev) : Nat := d.clk.cyc

/-- dt TIO cycles pass: device time advances by 2^48 + RATE a cycle while TIME is out of reset (R359, R361). -/
def Dev.elapse (d : Dev) (dt : Nat) : Dev :=
  let step : Nat := (2 ^ 48 + d.rate).toNat
  let runs := !d.isHeld .time
  { d with
    cycle := if dt = 0 then d.cycle else ⟨[], [], [], [], none⟩
    clk := { d.clk with
      cyc := d.clk.cyc + dt
      acc := if runs then d.clk.acc + BitVec.ofNat 112 (dt * step) else d.clk.acc
      el := d.clk.el + dt * (if runs then step else 2 ^ 48) } }

/-- Make something visible outside. -/
def Dev.emit (d : Dev) (o : Out) : Dev := { d with out := d.out ++ [o] }

/-- Store bytes in the stacks; a range that reaches outside them stores nothing (R391). -/
def Dev.hbmPut (d : Dev) (a : Nat) (bs : List Byte) : Dev :=
  if a + bs.length ≤ hbmBytes then { d with hbmw := d.hbmw ++ [(a, bs)] } else d

/-! ### Stamps (R34 to R38) -/

/-- ORIGIN codes of R36; what LQ, DEV, RST, AON and other blocks without a code of their own report has 43 (log entry 119). -/
def originOf : RUnit → Nat
  | .pipe n => n
  | .mos => 17 | .seg => 18 | .cls => 19 | .wpu => 20 | .dsp => 21 | .evt => 22 | .time => 23
  | .tpt p => 24 + p
  | .tha => 40 | .pcx => 41 | .rng => 41
  | .hbm s => 44 + s
  | .rdg => 46 | .eth => 47
  | _ => 43

/-- A pair is established (R441). -/
def Dev.established (d : Dev) : Bool := d.rdB a_RDG_STAT f_RDG_STAT_ESTABLISHED

/-- The PAIR bit of a stamp: PAIR_ID while the pair is enabled, 0 otherwise (R437). Device A, PAIR_ID 0, has PRIMARY_STRAP high. -/
def Dev.pairBit (d : Dev) : Bool := d.inB a_RDG_CFG f_RDG_CFG_EN && !d.rst.primary

/-- A new stamp of an origin at a time, taking the origin's next SEQ (R37). -/
def Dev.mkStamp (d : Dev) (origin : Nat) (time : W64) : Stamp × Dev :=
  let q := lget d.seqs origin 0
  (⟨time, q, BitVec.ofNat 6 origin, d.pairBit, false⟩, { d with seqs := lset d.seqs origin (q + 1) })

/-- precedes of R38, over the key (TIME, PAIR, ORIGIN, SEQ). -/
def Stamp.precedes (x y : Stamp) : Bool :=
  if x.time ≠ y.time then decide (x.time.toNat < y.time.toNat)
  else if x.pair ≠ y.pair then !x.pair
  else if x.origin ≠ y.origin then decide (x.origin.toNat < y.origin.toNat)
  else if x.seq = y.seq then false
  else serialBefore 16 x.seq.toNat y.seq.toNat

/-- The keys of two stamps are equal. -/
def Stamp.sameKey (x y : Stamp) : Bool :=
  x.time == y.time && x.pair == y.pair && x.origin == y.origin && x.seq == y.seq

/-- before of R375: epochs by serial arithmetic, then precedes. -/
def beforeEpoch (ex : BitVec 16) (x : Stamp) (ey : BitVec 16) (y : Stamp) : Bool :=
  if ex ≠ ey then serialBefore 16 ex.toNat ey.toNat else x.precedes y

/-- The 12 bytes of a stamp (R34). -/
def Stamp.bytes (x : Stamp) : List Byte :=
  leBytes 8 x.time.toNat ++ leBytes 2 x.seq.toNat ++
  [BitVec.ofNat 8 (x.origin.toNat + (if x.pair then 64 else 0) + (if x.late then 128 else 0)), 0]

end Sys2Proof.Machine
end

