-- ==== Sys2Proof/Machine/MemOps.lean ====
section
/-! DEFINITION. The HBM address map (R391 to R394), and what an access does to its pseudo-channel and bank (R395 to R400, R408). -/

namespace Sys2Proof.Machine

/-! ### Address map (R392 to R394) -/

/-- ORDER in force. -/
def Dev.mapOrder (d : Dev) : Nat := let o := fget (d.dflt (a_HBM_MAP 0)) f_HBM_MAP_ORDER; if o = 3 then 0 else o

/-- Bytes of one pseudo-channel. -/
def pcBytes : Nat := 768 * 2 ^ 20

/-- Stack, pseudo-channel and granule of an HBM byte address (R392). -/
def mapAddr (order a : Nat) : Nat × Nat × Nat :=
  match order with
  | 1 => let g := a % (24 * 2 ^ 30) / 256; (a / (24 * 2 ^ 30), g % 32, g / 32)
  | 2 => let k := a / pcBytes; (k / 32, k % 32, a % pcBytes / 256)
  | _ => let g := a / 256; (g % 2, g / 2 % 32, g / 64)

/-- The HBM byte address of a granule: the inverse of mapAddr. -/
def unmapAddr (order s p r : Nat) : Nat :=
  match order with
  | 1 => s * (24 * 2 ^ 30) + (r * 32 + p) * 256
  | 2 => (s * 32 + p) * pcBytes + r * 256
  | _ => (r * 64 + p * 2 + s) * 256

/-- Bank within a pseudo-channel (SID, bank group, bank) and row of a granule (R393). -/
def granuleBank (r : Nat) : Nat × Nat := (r / 2 ^ 20 * 16 + r / 4 % 4 * 4 + r / 16 % 4, r / 64 % 16384)

/-- The refuge: SID 2, row 12,288 and above (R394). -/
def granuleInRefuge (r : Nat) : Bool := r / 2 ^ 20 = 2 && 12288 ≤ r / 64 % 16384

/-- The start of the first part of the refuge that ends above an address, and its end. -/
def nextRefuge (order a : Nat) : Nat × Nat :=
  match order with
  | 1 => if a < 24 * 2 ^ 30 then (22 * 2 ^ 30, 24 * 2 ^ 30) else (46 * 2 ^ 30, 48 * 2 ^ 30)
  | 2 => let k := a / pcBytes; (k * pcBytes + 704 * 2 ^ 20, (k + 1) * pcBytes)
  | _ => (44 * 2 ^ 30, 48 * 2 ^ 30)

/-- n bytes from an address touch the refuge. -/
def hitsRefuge (order a n : Nat) : Bool := n ≠ 0 && (nextRefuge order a).1 < a + n

/-- n bytes from an address are not addressable: they leave the stacks, or touch the refuge while it is closed (R391, R412). -/
def Dev.outside (d : Dev) (a n : Nat) : Bool := decide (hbmBytes < a + n) || (d.mem.closed && hitsRefuge d.mapOrder a n)

/-- The loft limit: slots from a base that lie below the refuge (R412). -/
def loftLimitOf (order base slot : Nat) : Nat :=
  let lo := (nextRefuge order base).1
  if lo ≤ base then 0 else (lo - base) / slot

/-! ### Accesses (R395 to R400) -/

/-- An access to a row of a bank: `hit` says that a request already queued to the bank names the same row; at RAAMMT its activation is held until
an RFM (R398). -/
def BankSt.access (b : BankSt) (policy row : Nat) (hit : Bool) (raammt now : Nat) : BankSt :=
  let pred := match b.last with
    | some x => if x = row then min 3 (b.pred + 1) else b.pred - 1
    | none => b.pred
  let act := b.row ≠ some row
  let full := raammt ≠ 0 && (raammt ≤ b.raa || b.held ≠ 0)
  let keep := match policy with
    | 1 => true
    | 2 => hit
    | _ => hit || 2 ≤ pred
  { row := if keep then some row else none, last := some row, pred := pred
    raa := if act && !full then b.raa + 1 else b.raa, held := if act && full then b.held + 1 else b.held, at_ := now }

/-- An RFM pays RAAIMT off a bank's count, and activations held at RAAMMT follow it as far as the count allows (R398). -/
def BankSt.pay (b : BankSt) (n raammt : Nat) : BankSt :=
  let k := min b.held (raammt - (b.raa - n))
  { b with raa := b.raa - n + k, held := b.held - k }

/-- A request wakes its pseudo-channel: power-down and the drain phase end, self-refresh and zeroing make it wait (R399, R400, R402). -/
def PcSt.request (x : PcSt) (now : Nat) : PcSt :=
  match x.mode with
  | .active => { x with at_ := now }
  | .powerDown | .draining => { x with mode := .active, since := now, at_ := now }
  | _ => { x with at_ := now, wants := true }

/-- Partial retention ends: channels that were retained leave self-refresh as requests come; the others, but for those retired, are zeroed (R402). -/
def StackSt.endRetention (x : StackSt) (retired now : Nat) : StackSt :=
  if x.retained then
    { x with retained := false, pcs := x.pcs.mapIdx (fun p (y : PcSt) =>
        if y.mode = .off && !retired.testBit p then { y with mode := .zeroing, since := now }
        else if y.mode = .selfRefresh then { y with wants := true } else y) }
  else x

/-- The 64-byte words of a range. -/
def wordsOf (a n : Nat) : List Nat := if n = 0 then [] else (List.range ((a + n - 1) / 64 - a / 64 + 1)).map (fun i => a / 64 + i)

/-- One access reaches its stack. -/
def Dev.touchWord (d : Dev) (word : Nat) (next : Option Nat) : Dev :=
  let (s, p, r) := mapAddr d.mapOrder (word * 64)
  let (b, row) := granuleBank r
  let hit := match next with
    | some w =>
      let (s', p', r') := mapAddr d.mapOrder (w * 64)
      s' = s && p' = p && decide (granuleBank r' = (b, row))
    | none => false
  let x := lget d.mem.stack s .reset
  let x := x.endRetention (lget d.mem.retired s 0) d.el
  let bank := (alGet x.banks (p * 64 + b) .reset).access (d.rdF (a_HBM_PAGE_PWR s) f_HBM_PAGE_PWR_POLICY) row hit x.raammt d.el
  let x := { x with banks := alSet x.banks (p * 64 + b) bank, pcs := lset x.pcs p ((lget x.pcs p .reset).request d.el) }
  { d with mem := { d.mem with stack := lset d.mem.stack s x } }

/-- The accesses of a step reach their stacks in order; a granule written is no longer
uncorrectable, nor one lost, which is zeroed or trained over (R402, R408). -/
def Dev.touchAll (d : Dev) : Dev :=
  let wr := d.hbmw.flatMap (fun p => wordsOf p.1 p.2.length)
  let words := d.hbmr.flatMap (fun p => wordsOf p.1 p.2) ++ wr
  let d := (words.zip (words.drop 1 |>.map some |>.append [none])).foldl (fun d p => d.touchWord p.1 p.2) d
  let lost (a : Nat) : Bool := let (s, p, _) := mapAddr d.mapOrder a; d.hbmLost.contains (s, p)
  if d.mem.bad.isEmpty && d.mem.told.isEmpty then d
  else
    { d with mem := { d.mem with bad := d.mem.bad.filter (fun w => !wr.contains w && !lost (w * 64))
                                 told := d.mem.told.filter (fun g => !wr.any (fun w => w / 4 = g) && !lost (g * 256)) } }

/-- Bytes read with every uncorrectable 64-byte word read as zeros (R409, for loft reads). -/
def Dev.zeroBad (d : Dev) (a : Nat) (bs : List Byte) : List Byte :=
  if d.mem.bad.isEmpty then bs else bs.mapIdx (fun i b => if d.mem.bad.contains ((a + i) / 64) then 0 else b)

/-- A range holds an uncorrectable word. -/
def Dev.hasBad (d : Dev) (a n : Nat) : Bool := d.mem.bad.any (fun w => a < (w + 1) * 64 && w * 64 < a + n)

/-- The contents of an HBM memory without those lost in the step. -/
def loseContents (order : Nat) (lost : List (Nat × Nat)) (m : Mem) : Mem :=
  if lost.isEmpty then m else m.filter (fun c => let (s, p, _) := mapAddr order c.1; !lost.contains (s, p))

end Sys2Proof.Machine
end

