-- ==== Sys2Proof/Machine/ThatchOps.lean ====
section
/-! DEFINITION. The Thatch stream format (R286 to R294): the decoder, complete, and the encoder, whose parse and dynamic tables are free
values (R279). -/

namespace Sys2Proof.Machine

/-! ### Codes (R286, R289 to R291) -/

/-- Tables of a compressed block: code lengths of the literal/length and of the distance alphabet. -/
abbrev Codes := List Nat × List Nat

/-- The fixed tables (R290). -/
def fixedCodes : Codes := (List.replicate 309 9, List.replicate 36 6)

/-- Symbols of a code length, rising. -/
def symsOf (lens : List Nat) (n : Nat) : List Nat := (List.range lens.length).filter (fun i => lens.getD i 0 = n)

/-- The longest code. -/
def maxLen (lens : List Nat) : Nat := lens.foldl max 0

/-- The code lengths oversubscribe the code space (R286). -/
def oversubscribed (lens : List Nat) : Bool := 2 ^ 15 < ((lens.filter (· ≠ 0)).map (fun n => 2 ^ (15 - n))).foldl (· + ·) 0

/-- The first canonical code of length n (RFC 1951, 3.2.2). -/
def firstCode (lens : List Nat) : Nat → Nat
  | 0 => 0
  | n + 1 => (firstCode lens n + (if n = 0 then 0 else (symsOf lens n).length)) * 2

/-- The canonical code of a symbol with its length; none where it has no code. -/
def codeOf (lens : List Nat) (sym : Nat) : Option (Nat × Nat) :=
  let n := lens.getD sym 0
  if n = 0 then none else some (firstCode lens n + ((symsOf lens n).filter (· < sym)).length, n)

/-- Extra bits and base of match-length symbol 257 + k (R289). -/
def lenBase (k : Nat) : Nat × Nat := if k < 8 then (0, 4 + k) else ((k - 8) / 4 + 1, 4 + (4 + (k - 8) % 4) * 2 ^ ((k - 8) / 4 + 1))

/-- Extra bits and base of distance symbol k (R289). -/
def distBase (k : Nat) : Nat × Nat := if k < 4 then (0, 1 + k) else ((k - 4) / 2 + 1, 1 + (2 + (k - 4) % 2) * 2 ^ ((k - 4) / 2 + 1))

/-! ### Decoder (R286 to R294) -/

/-- What a decoder has done: input left, input bytes of which a bit has been read, output (newest first), its length, output bytes since the
last FRESH block, and those of the block in progress. -/
structure DecSt where
  bits  : List Bool
  read  : Nat
  out   : List Byte
  n     : Nat
  since : Nat
  blk   : Nat
  deriving DecidableEq, Repr

/-- Bits of a byte string, least significant first. -/
def bitsOf (bs : List Byte) : List Bool := bs.flatMap (fun b => (List.range 8).map (fun i => b.getLsbD i))

/-- Result of a decoder step: a status of R294 with the state where it stopped, or the state and a value. -/
inductive Dec (α : Type)
  | stop (code : Nat) (s : DecSt)
  | ok (s : DecSt) (v : α)
  deriving Repr

/-- One step after another. -/
def Dec.bind {α β : Type} (x : Dec α) (f : DecSt → α → Dec β) : Dec β :=
  match x with
  | .stop c s => .stop c s
  | .ok s v => f s v

/-- Read n bits as an integer, least significant first. -/
def DecSt.take (s : DecSt) : Nat → Dec Nat
  | 0 => .ok s 0
  | n + 1 =>
    match s.bits with
    | [] => .stop 10 s
    | b :: bs => (DecSt.take { s with bits := bs, read := s.read + 1 } n).bind (fun s v => .ok s ((if b then 1 else 0) + 2 * v))

/-- Input bytes consumed (R293). -/
def DecSt.consumed (s : DecSt) : Nat := (s.read + 7) / 8

/-- Limits of a job: RATIO, OUT_MAX, and 2^WINDOW_LOG. -/
structure DecLim where
  ratio  : Nat
  outMax : Nat
  window : Nat
  deriving DecidableEq, Repr

/-- Write one output byte (R292, R293): BAD_LEN past the block's limit, then RATIO, then OUT_LIMIT. -/
def DecSt.put (s : DecSt) (l : DecLim) (b : Byte) : Dec Unit :=
  if 131072 ≤ s.blk then .stop 8 s
  else if l.ratio * s.consumed + 65536 < s.n + 1 then .stop 11 s
  else if l.outMax < s.n + 1 then .stop 12 s
  else .ok { s with out := b :: s.out, n := s.n + 1, since := s.since + 1, blk := s.blk + 1 } ()

/-- Copy n bytes from distance m back, one at a time. -/
def DecSt.copy (l : DecLim) (m : Nat) : Nat → DecSt → Dec Unit
  | 0, s => .ok s ()
  | n + 1, s => (s.put l (s.out.getD (m - 1) 0)).bind (fun s _ => DecSt.copy l m n s)

/-- Copy n content bytes of a stored block. -/
def DecSt.stored (l : DecLim) : Nat → DecSt → Dec Unit
  | 0, s => .ok s ()
  | n + 1, s => (s.take 8).bind (fun s b => (s.put l (BitVec.ofNat 8 b)).bind (fun s _ => DecSt.stored l n s))

/-- Read a symbol of a canonical code: `code` and `first` as in RFC 1951, length n so far, and the lengths left to try. -/
def DecSt.symGo (lens : List Nat) (code first n : Nat) : Nat → DecSt → Dec Nat
  | 0, s => .stop 6 s
  | k + 1, s => (s.take 1).bind (fun s b =>
      let code := 2 * code + b
      let here := symsOf lens (n + 1)
      if first ≤ code ∧ code < first + here.length then .ok s (here.getD (code - first) 0)
      else DecSt.symGo lens code (2 * (first + here.length)) (n + 1) k s)

/-- Read a symbol; BAD_SYMBOL where no code matches. -/
def DecSt.sym (s : DecSt) (lens : List Nat) : Dec Nat := s.symGo lens 0 0 0 (maxLen lens)

/-- Read the length items of a dynamic table: `left` symbols are still to be given a length (R291). -/
def DecSt.items : Nat → Nat → DecSt → Dec (List Nat)
  | 0, left, s => if left = 0 then .ok s [] else .stop 5 s
  | fuel + 1, left, s =>
    if left = 0 then .ok s []
    else (s.take 4).bind (fun s v =>
      if v ≠ 0 then (DecSt.items fuel (left - 1) s).bind (fun s t => .ok s (v :: t))
      else (s.take 4).bind (fun s n =>
        if left < n + 1 then .stop 5 s
        else (DecSt.items fuel (left - (n + 1)) s).bind (fun s t => .ok s (List.replicate (n + 1) 0 ++ t))))

/-- Read the dynamic tables (R291). -/
def DecSt.dynamic (s : DecSt) : Dec Codes :=
  (s.take 6).bind (fun s hl => if 52 < hl then .stop 5 s else
    (s.take 6).bind (fun s hd => if 35 < hd then .stop 5 s else
      (s.items (257 + hl + 1 + hd) (257 + hl + 1 + hd)).bind (fun s lens =>
        let ll := lens.take (257 + hl)
        let ds := lens.drop (257 + hl)
        if ll.getD 256 0 = 0 || oversubscribed ll || oversubscribed ds then .stop 5 s else .ok s (ll, ds))))

/-- Decode symbols up to end-of-block (R292). -/
def DecSt.symbols (l : DecLim) (c : Codes) : Nat → DecSt → Dec Unit
  | 0, s => .stop 10 s
  | fuel + 1, s => (s.sym c.1).bind (fun s y =>
      if y < 256 then (s.put l (BitVec.ofNat 8 y)).bind (fun s _ => DecSt.symbols l c fuel s)
      else if y = 256 then .ok s ()
      else
        let (e, base) := lenBase (y - 257)
        (s.take e).bind (fun s x =>
          if maxLen c.2 = 0 then .stop 6 s
          else (s.sym c.2).bind (fun s k =>
            let (e, db) := distBase k
            (s.take e).bind (fun s y =>
              if l.window < db + y || s.since < db + y then .stop 7 s
              else (DecSt.copy l (db + y) (base + x) s).bind (fun s _ => DecSt.symbols l c fuel s)))))

/-- Skip to the next byte. -/
def DecSt.align (s : DecSt) : DecSt :=
  let k := (8 - s.read % 8) % 8
  { s with bits := s.bits.drop k, read := s.read + k }

/-- One block (R287 to R292): true where it was the end block. `size` is CONTENT_SIZE; `prev` the tables of the last compressed block. -/
def DecSt.block (s : DecSt) (l : DecLim) (size : Nat) (prev : Option Codes) : Dec (Bool × Option Codes) :=
  (s.take 32).bind (fun s w =>
    let typ := w % 4
    let tab := w / 4 % 4
    let fresh := w / 16 % 2 = 1
    let len := w / 2 ^ 14
    if typ = 3 || (typ = 1 && tab = 3) || (typ ≠ 1 && tab ≠ 0) || w / 32 % 512 ≠ 0 || (typ ≠ 0 && len ≠ 0) then .stop 4 s
    else
      let s := { s with since := if fresh then 0 else s.since, blk := 0 }
      if typ = 0 then
        if 131072 < len then .stop 8 s else (DecSt.stored l len s).bind (fun s _ => .ok s (false, prev))
      else if typ = 2 then
        (s.take 32).bind (fun s crc =>
          if crc ≠ crc32c s.out.reverse then .stop 9 s
          else (s.take 64).bind (fun s total =>
            if total ≠ s.n || (size ≠ 2 ^ 64 - 1 && total ≠ size) then .stop 8 s else .ok s (true, prev)))
      else
        let codes : Dec Codes := if tab = 0 then s.dynamic else if tab = 1 then .ok s fixedCodes else
          match prev with
          | some c => .ok s c
          | none => .stop 5 s
        codes.bind (fun s c => (DecSt.symbols l c (s.bits.length + 1) s).bind (fun s _ =>
          (s.align.take 32).bind (fun s t =>
            if t / 2 ^ 18 ≠ 0 then .stop 4 s
            else if 131072 < t || t ≠ s.blk then .stop 8 s
            else .ok s (false, some c)))))

/-- Blocks up to the end block. -/
def DecSt.blocks (l : DecLim) (size : Nat) : Nat → Option Codes → DecSt → Dec Unit
  | 0, _, s => .stop 10 s
  | fuel + 1, prev, s => (s.block l size prev).bind (fun s r => if r.1 then .ok s () else DecSt.blocks l size fuel r.2 s)

/-- The 16-byte stream header (R286), byte by byte: WINDOW_LOG and CONTENT_SIZE. -/
def DecSt.header (s : DecSt) : Dec (Nat × Nat) :=
  (s.take 8).bind (fun s b => if b ≠ 0x54 then .stop 1 s else
    (s.take 8).bind (fun s b => if b ≠ 0x48 then .stop 1 s else
      (s.take 8).bind (fun s b => if b ≠ 1 then .stop 2 s else
        (s.take 8).bind (fun s w => if w < 10 || 18 < w then .stop 3 s else
          (s.take 16).bind (fun s _ =>
            (s.take 16).bind (fun s z => if z ≠ 0 then .stop 2 s else
              (s.take 64).bind (fun s n => .ok s (w, n))))))))

/-- What a decompression job ends with (R294): status, input bytes consumed, output. -/
structure DecResult where
  status   : Nat
  consumed : Nat
  out      : List Byte
  deriving DecidableEq, Repr

/-- Decode a stream under RATIO (0 acts as 64) and OUT_MAX. -/
def thatchDecode (ratio outMax : Nat) (input : List Byte) : DecResult :=
  let ratio := if ratio = 0 then 64 else min ratio 4096
  let s : DecSt := ⟨bitsOf input, 0, [], 0, 0, 0⟩
  let r : Dec Unit := s.header.bind (fun s h => DecSt.blocks ⟨ratio, outMax, 2 ^ h.1⟩ h.2 (input.length + 1) none s)
  match r with
  | .stop c s => ⟨c, s.consumed, s.out.reverse⟩
  | .ok s _ => ⟨0, s.consumed, s.out.reverse⟩

/-! ### Encoder (R278 to R283) -/

/-- WINDOW_LOG written at a level (R278). -/
def levelWindow (level : Nat) : Nat := lget [10, 16, 16, 17, 17, 17, 18, 18, 18, 18] level 18

/-- Input bytes an engine takes at a level in a hundred cycles of 1.0 GHz (R278; log entry 114). -/
def levelRate (level : Nat) : Nat := lget [800, 400, 300, 250, 200, 150, 120, 100, 75, 50] level 50

/-- A stream before its first block. -/
def StreamSt.start (level : Nat) : StreamSt := ⟨level, [], none, true, [], 0xFFFFFFFF, 0⟩

/-- The stream header. -/
def streamHeader (level kind size : Nat) : List Byte :=
  [0x54, 0x48, 1, BitVec.ofNat 8 (levelWindow level), BitVec.ofNat 8 level, BitVec.ofNat 8 kind, 0, 0] ++ leBytes 8 size

/-- n as k bits, least significant first. -/
def lsb (n k : Nat) : List Bool := (List.range k).map (fun i => n.testBit i)

/-- n as k bits, most significant first. -/
def msb (n k : Nat) : List Bool := (lsb n k).reverse

/-- Bits packed into bytes from the least significant up, zero padded. -/
def packBits : List Bool → List Byte
  | [] => []
  | a :: b :: c :: d :: e :: f :: g :: h :: t =>
    BitVec.ofNat 8 ((List.zipWith (fun (x : Bool) k => if x then 2 ^ k else 0) [a, b, c, d, e, f, g, h] (List.range 8)).foldl (· + ·) 0) :: packBits t
  | l => [BitVec.ofNat 8 ((List.zipWith (fun (x : Bool) k => if x then 2 ^ k else 0) l (List.range 8)).foldl (· + ·) 0)]

/-- The symbol of a value with its extra bits: the largest k whose base is not above it. -/
def symFor (base : Nat → Nat × Nat) (n v : Nat) : Nat × Nat × Nat :=
  let k := ((List.range n).filter (fun k => (base k).2 ≤ v)).length - 1
  (k, (base k).1, v - (base k).2)

/-- The bits of one token; none where the tables have no code for it. -/
def tokenBits (c : Codes) (t : Nat × Nat) : Option (List Bool) :=
  if t.1 = 0 then (codeOf c.1 t.2).map (fun x => msb x.1 x.2)
  else
    let (k, e, x) := symFor lenBase 52 t.1
    let (j, f, y) := symFor distBase 36 t.2
    match codeOf c.1 (257 + k), codeOf c.2 j with
    | some a, some b => some (msb a.1 a.2 ++ lsb x e ++ msb b.1 b.2 ++ lsb y f)
    | _, _ => none

/-- The length items of a list of code lengths: runs of zeros up to sixteen (R291). -/
def lengthItems : Nat → List Nat → List Bool
  | _, [] => []
  | 0, _ => []
  | fuel + 1, v :: t =>
    if v ≠ 0 then lsb v 4 ++ lengthItems fuel t
    else
      let n := min 15 (t.takeWhile (· = 0)).length
      lsb 0 4 ++ lsb n 4 ++ lengthItems fuel (t.drop n)

/-- The tables are valid (R291). -/
def codesOk (c : Codes) : Bool :=
  c.1.length ≤ 309 && 257 ≤ c.1.length && c.2.length ≤ 36 && 1 ≤ c.2.length && c.1.getD 256 0 ≠ 0 && !oversubscribed c.1 && !oversubscribed c.2 &&
  maxLen c.1 ≤ 15 && maxLen c.2 ≤ 15

/-- The bits that give dynamic tables. -/
def tableBits (c : Codes) : List Bool :=
  lsb (c.1.length - 257) 6 ++ lsb (c.2.length - 1) 6 ++ lengthItems 400 (c.1 ++ c.2)

/-- The tokens reproduce the input after a history, with matches of at least 4 bytes in reach (R279, R292). -/
def parseOk (window : Nat) : List (Nat × Nat) → List Byte → List Byte → Bool
  | [], _, input => input.isEmpty
  | (0, b) :: t, hist, input =>
    match input with
    | x :: rest => x.toNat = b && parseOk window t (x :: hist) rest
    | [] => false
  | (n + 1, m) :: t, hist, input =>
    let piece := input.take (n + 1)
    let back := (List.range (n + 1)).foldl (fun (h : List Byte) _ => h.getD (m - 1) 0 :: h) hist
    4 ≤ n + 1 && n + 1 ≤ 16387 && 1 ≤ m && m ≤ window && m ≤ hist.length && piece.length = n + 1 && back.take (n + 1) = piece.reverse &&
    parseOk window t back (input.drop (n + 1))

/-- The tables an engine chooses for tokens: fixed, repeat or dynamic, whichever gives the fewest payload bits, ties to fixed, then to
repeat (R279). Answers TABLE, the tables and the bits before the tokens. -/
def chooseCodes (level : Nat) (prev : Option Codes) (ts : List (Nat × Nat)) : Nat × Codes × List Bool :=
  let cost (c : Codes) (pre : Nat) : Option Nat :=
    match codeOf c.1 256 with
    | none => none
    | some e => (ts.foldl (fun (acc : Option Nat) t => acc.bind (fun n => (tokenBits c t).map (fun b => n + b.length))) (some (pre + e.2)))
  let dyn := Config.thatchTables level ts
  let fixedCost := (cost fixedCodes 0).getD 0
  let rep : Option (Codes × Nat) := prev.bind (fun c => (cost c 0).map (fun n => (c, n)))
  let dynCost : Option Nat := if codesOk dyn then cost dyn (tableBits dyn).length else none
  let best : Nat × Codes × List Bool × Nat := (1, fixedCodes, [], fixedCost)
  let best := match rep with | some (c, n) => if n < best.2.2.2 then (2, c, [], n) else best | none => best
  let best := match dynCost with | some n => if n < best.2.2.2 then (0, dyn, tableBits dyn, n) else best | none => best
  (best.1, best.2.1, best.2.2.1)

/-- A block header word. -/
def blockWord (typ tab : Nat) (fresh : Bool) (len : Nat) : List Byte := leBytes 4 (typ + 4 * tab + (if fresh then 16 else 0) + 2 ^ 14 * len)

/-- The bits of tokens, and the input bytes they stand for. -/
def allTokens (c : Codes) : List (Nat × Nat) → List Bool × Nat
  | [] => ([], 0)
  | t :: ts =>
    let (bs, n) := allTokens c ts
    ((tokenBits c t).getD [] ++ bs, n + max 1 t.1)

/-- The compressed block of tokens under the tables chosen for them: its bytes without its length, and its input bytes (R279, R288). -/
def tokenBlock (level : Nat) (prev : Option Codes) (fresh : Bool) (ts : List (Nat × Nat)) : List Byte × Nat × Codes :=
  let (tab, c, pre) := chooseCodes level prev ts
  let eob := match codeOf c.1 256 with | some e => msb e.1 e.2 | none => []
  let (bs, n) := allTokens c ts
  (blockWord 1 tab fresh 0 ++ packBits (pre ++ bs ++ eob) ++ leBytes 4 n, n, c)

/-- The tokens of a block that is cut: each is emitted while the block that they make, under the tables chosen for them, still fits (R279, R283). -/
def fitTokens (level : Nat) (prev : Option Codes) (room : Nat) : List (Nat × Nat) → List (Nat × Nat) → List (Nat × Nat)
  | done, [] => done
  | done, t :: ts =>
    if (tokenBlock level prev false (done ++ [t])).1.length ≤ room then fitTokens level prev room (done ++ [t]) ts else done

/-- Write one block of `input`: room for the block in bytes (none unbounded), and the bytes kept free for the end block where a compressed
block takes all of the input. Answers the block's bytes and how many input bytes it holds; no bytes where nothing fits (R283). -/
def StreamSt.block (s : StreamSt) (input : List Byte) (room : Option Nat) (tail : Nat) : List Byte × Nat × StreamSt :=
  let parse := if s.level = 0 then none else
    (Config.thatchParse s.level s.hist input).filter (fun ts => parseOk (2 ^ levelWindow s.level) ts s.hist input)
  let after (n : Nat) (prev : Option Codes) : StreamSt :=
    let done := input.take n
    { s with
      hist := (done.reverse ++ s.hist).take (2 ^ levelWindow s.level), prev := prev, fresh := false
      crc := done.foldl crcByte s.crc, total := s.total + n }
  match parse with
  | none =>
    let n := match room with
      | none => input.length
      | some r => min input.length (r - 4)
    if n = 0 && !input.isEmpty then ([], 0, s)
    else (blockWord 0 0 s.fresh n ++ input.take n, n, after n s.prev)
  | some ts =>
    let emitted := match room with
      | none => ts
      | some r =>
        if (tokenBlock s.level s.prev s.fresh ts).1.length + tail ≤ r then ts
        else
          let fit := fitTokens s.level s.prev r [] ts
          if fit.length = ts.length then ts.dropLast else fit
    if emitted.isEmpty && !input.isEmpty then ([], 0, s)
    else
      let (b, n, c) := tokenBlock s.level s.prev s.fresh emitted
      (b, n, after n (some c))

/-- The end block (R288). -/
def StreamSt.endBlock (s : StreamSt) : List Byte := blockWord 2 0 false 0 ++ leBytes 4 (s.crc ^^^ 0xFFFFFFFF) ++ leBytes 8 s.total

/-- Take input in: every full block of 131,072 bytes is written (R280). -/
def StreamSt.feed (s : StreamSt) (bs : List Byte) : List Byte × StreamSt :=
  let all := s.pend ++ bs
  let n := all.length / 131072
  let (out, s) := (List.range n).foldl (fun (acc : List Byte × StreamSt) i =>
    let (b, _, s) := acc.2.block ((all.drop (131072 * i)).take 131072) none 0
    (acc.1 ++ b, s)) (([] : List Byte), s)
  (out, { s with pend := all.drop (131072 * n) })

/-- Write what is pending as a block: a flush or a save (R280, R285). -/
def StreamSt.flush (s : StreamSt) : List Byte × StreamSt :=
  if s.pend.isEmpty then ([], s)
  else
    let (b, _, t) := s.block s.pend none 0
    (b, { t with pend := [] })

/-- Close the stream. -/
def StreamSt.close (s : StreamSt) : List Byte :=
  let (b, s) := s.flush
  b ++ s.endBlock

/-- A whole stream in streaming mode. -/
def thatchStream (level kind size : Nat) (input : List Byte) : List Byte :=
  let (b, s) := (StreamSt.start level).feed input
  streamHeader level kind size ++ b ++ s.close

/-- Buffers of a stream in bounded mode (R282, R283): `cur` is the buffer in progress, `fuel` bounds blocks and buffers. -/
def boundedGo (limit : Nat) : Nat → StreamSt → List Byte → List Byte → List (List Byte)
  | 0, _, _, cur => [cur]
  | fuel + 1, s, input, cur =>
    if input.isEmpty then
      if cur.length + 16 ≤ limit then [cur ++ s.endBlock] else [cur, s.endBlock]
    else
      let piece := input.take 131072
      let tail := if input.length ≤ 131072 then 16 else 0
      let (b, n, t) := s.block piece (some (limit - cur.length)) tail
      if n = 0 then cur :: boundedGo limit fuel s input []
      else if n < piece.length then (cur ++ b) :: boundedGo limit fuel t (input.drop n) []
      else boundedGo limit fuel t (input.drop n) (cur ++ b)

/-- A whole stream in bounded mode. -/
def thatchBounded (level kind limit : Nat) (input : List Byte) : List (List Byte) :=
  boundedGo limit (2 * input.length + 2) (.start level) input (streamHeader level kind input.length)

end Sys2Proof.Machine
end

