-- ==== Sys2Proof/Machine/Engines.lean ====
section
/-! DEFINITION. Budgets and engines: the profiles of the ballast clients and what they use of a window (R66 to R74), and the Thatch engines at work
(R277 to R285, R293 to R296). -/

namespace Sys2Proof.Machine

/-! ### Ballast profiles (R66 to R74) -/

/-- Codes of the modes (R48). -/
def Mode.code : Mode → Nat
  | .standby => 0 | .calibrate => 1 | .inspectWide => 2 | .inspectPaired => 3 | .inspectDeep => 4 | .record => 5 | .safeHold => 7

/-- The mode of a code; code 6 and codes above 7 name none (R48). -/
def modeOf : Nat → Option Mode
  | 0 => some .standby | 1 => some .calibrate | 2 => some .inspectWide | 3 => some .inspectPaired | 4 => some .inspectDeep
  | 5 => some .record | 7 => some .safeHold
  | _ => none

/-- The acquiring modes (R52). -/
def Mode.acquiring : Mode → Bool
  | .standby | .safeHold => false
  | _ => true

/-- An acquiring mode is in force. -/
def Dev.acquiring (d : Dev) : Bool := !d.mode.starting && d.mode.cur.acquiring

/-- The mode in force is SAFE_HOLD. -/
def Dev.inSafe (d : Dev) : Bool := !d.mode.starting && d.mode.cur == .safeHold

/-- SMB_ALERT_N is low: WARN, or SAFE_HOLD in force (R541). -/
def Dev.smbAlert (d : Dev) : Bool := d.inSafe || d.rdB a_THM_STAT f_THM_STAT_WARN

/-- SMB_ALERT_N, which stood as `was`, follows what it shows; it is open-drain and released while it is not low (R541). -/
def Dev.alertFrom (d : Dev) (was : Bool) : Dev :=
  if d.smbAlert = was then d else d.emit (.pin .smbAlert (if d.smbAlert then .low else .released))

/-- Budget of client c in the profile of mode m as written, with the SERVICE additions while SERVICE is set (R73). -/
def Dev.profile (d : Dev) (m c : Nat) : Nat × Nat × Nat × Nat :=
  let v := d.rd (a_BAL_PROFILE m c)
  let w : W64 := if d.mode.service.isSome then d.rd (a_BAL_PROFILE 6 c) else 0
  (fget v f_BAL_PROFILE_HBM + fget w f_BAL_PROFILE_HBM, fget v f_BAL_PROFILE_THA + fget w f_BAL_PROFILE_THA,
   fget v f_BAL_PROFILE_KEEL + fget w f_BAL_PROFILE_KEEL, fget v f_BAL_PROFILE_DMA + fget w f_BAL_PROFILE_DMA)

/-- Pseudo-channels of stack s that are retired: HBMs.PC_STAT.RETIRED (R411). -/
def Dev.retired (d : Dev) (s : Nat) : Nat := lget d.mem.retired s 0

/-- Ones in the low 32 bits. -/
def popcount32 (n : Nat) : Nat := (List.range 32).foldl (fun k i => if n.testBit i then k + 1 else k) 0

/-- HBM units a window can schedule in both stacks together: half of each budget falls to each stack, so the stack with more
retired pseudo-channels decides (R66, R407; log entry 14). A retirement accepted counts from its acceptance (R411). -/
def Dev.hbmSchedulable (d : Dev) (extra : Nat × Nat) : Nat :=
  let coming (s : Nat) : Nat := match d.mem.retire with | some r => if r.stack = s then 1 else 0 | none => 0
  let of (s more : Nat) : Nat :=
    let n := popcount32 (d.retired s) + coming s + more
    if d.rdB (a_HBM_TRN_STAT s) f_HBM_TRN_STAT_SETPOINT then 6144 - 192 * n else 12288 - 384 * n
  2 * min (of 0 extra.1) (of 1 extra.2)

/-- The profile of mode m is admitted: for each resource the reserved budgets fit (R67). `extra` counts pseudo-channels about to be
retired. -/
def Dev.admitted (d : Dev) (m : Nat) (extra : Nat × Nat) : Bool :=
  let b := (List.range 11).map (fun c => d.profile m c)
  let sum (f : Nat × Nat × Nat × Nat → Nat) := (b.map f).foldl (· + ·) 0
  sum (·.1) ≤ d.hbmSchedulable extra && sum (·.2.1) ≤ 16384 && sum (·.2.2.1) ≤ 2048 && sum (·.2.2.2) ≤ 448

/-- The profile of mode m, client by client. -/
def Dev.profiles (d : Dev) (m : Nat) : List (Nat × Nat × Nat × Nat) := (List.range 24).map (d.profile m)

/-- Load the profile of mode m into BAL.ACTIVE (R74). A profile that fails admission is not loaded, and BAL_PROFILE_OVER falls due
(R67). -/
def Dev.loadProfile (d : Dev) (m : Nat) : Dev :=
  if d.admitted m (0, 0) then
    iter 24 (fun c d => d.wr (a_BAL_ACTIVE c) (packBudget (d.profile m c))) { d with bal := { d.bal with over_ := none } }
  else { d with err := { d.err with profileDue := true }, bal := { d.bal with over_ := some (d.profiles m) } }

/-- The profile of the mode in force has changed and is loaded again (R74); each one that fails the check is reported once (R67). -/
def Dev.reloadProfile (d : Dev) : Dev :=
  let m := d.mode.cur.code
  let same := (List.range 24).all (fun c => d.rd (a_BAL_ACTIVE c) == packBudget (d.profile m c))
  if same || (d.bal.over_ == some (d.profiles m) && !d.admitted m (0, 0)) then d else d.loadProfile m

/-! ### What the clients use (R66 to R70, R277, R313) -/

/-- 64-byte units of n bytes. -/
def units64 (n : Nat) : Nat := (n + 63) / 64

/-- Sum of two demands. -/
def Demand.plus (x y : Sys2Proof.Demand) : Demand := ⟨x.hbm0 + y.hbm0, x.hbm1 + y.hbm1, x.tha + y.tha, x.keel + y.keel, x.dma + y.dma⟩

/-- HBM units of n bytes, half of them from each stack (R66). -/
def hbmUnits (n : Nat) : Demand := ⟨(units64 n + 1) / 2, units64 n / 2, 0, 0, 0⟩

/-- A resource of R66: a stack's bandwidth, the engines, the Keel, ring DMA. -/
inductive BalRes
  | hbm (s : Fin 2) | tha | keel | dma
  deriving DecidableEq, Repr

/-- The part of a demand that falls on a resource. -/
def Demand.of (x : Demand) : BalRes → Nat
  | .hbm s => if s = 0 then x.hbm0 else x.hbm1
  | .tha => x.tha | .keel => x.keel | .dma => x.dma

/-- HBM units that the controller of stack s schedules in a window (R66, R407). -/
def Dev.stackUnits (d : Dev) (s : Nat) : Nat :=
  let n := popcount32 (d.retired s)
  if d.rdB (a_HBM_TRN_STAT s) f_HBM_TRN_STAT_SETPOINT then 6144 - 192 * n else 12288 - 384 * n

/-- What a window can schedule of a resource (R66). -/
def Dev.schedulable (d : Dev) : BalRes → Nat
  | .hbm s => d.stackUnits s | .tha => 16384 | .keel => 2048 | .dma => 448

/-- Budget or cap of client c of a resource in force (R73): of an HBM budget each controller enforces its half (R66; the odd unit is HBM0's), and in
THROTTLE every best-effort cap is halved (R543). -/
def Dev.budgetOf (d : Dev) (c : Nat) (r : BalRes) : Nat :=
  let get (f : Fld) : Nat := d.rdF (a_BAL_ACTIVE c) f / (if d.rdB a_THM_STAT f_THM_STAT_THROTTLE && 11 ≤ c then 2 else 1)
  match r with
  | .hbm s => if s = 0 then (get f_BAL_PROFILE_HBM + 1) / 2 else get f_BAL_PROFILE_HBM / 2
  | .tha => get f_BAL_PROFILE_THA
  | .keel => get f_BAL_PROFILE_KEEL
  | .dma => get f_BAL_PROFILE_DMA

/-- What client c can have of a resource in one window: a reserved client its budget and what nobody reserves, a best-effort client its cap (R69,
R70). -/
def Dev.shareOf (d : Dev) (c : Nat) (r : BalRes) : Nat :=
  if c < 11 then d.budgetOf c r + (d.schedulable r - ((List.range 11).map (fun k => d.budgetOf k r)).foldl (· + ·) 0) else d.budgetOf c r

/-- What client c has used in the window that runs: what it used beyond its share before counts on (a transfer takes as many windows as its units
need). -/
def Dev.usedBy (d : Dev) (c : Nat) : Demand :=
  let u := (d.bal.used[c]?).getD ⟨0, 0, 0, 0, 0⟩
  let n := d.el / 1024 - d.bal.window
  let after (r : BalRes) : Nat := if n = 0 then Demand.of u r else Demand.of u r - n * d.shareOf c r
  ⟨after (.hbm 0), after (.hbm 1), after .tha, after .keel, after .dma⟩

/-- What client c has used beyond its share as the window ends, which the next one owes (R69, R70). -/
def Dev.carried (d : Dev) (c : Nat) : Demand :=
  let u := d.usedBy c
  let n := if d.bal.window = d.el / 1024 then 1 else 0
  let after (r : BalRes) : Nat := Demand.of u r - n * d.shareOf c r
  ⟨after (.hbm 0), after (.hbm 1), after .tha, after .keel, after .dma⟩

/-- Client c uses units in the window that runs. -/
def Dev.charge (d : Dev) (c : Nat) (x : Demand) : Dev :=
  let used := (List.range 24).map d.usedBy
  { d with bal := { d.bal with window := d.el / 1024, used := used.mapIdx (fun k u => if k = c then Demand.plus u x else u) } }

/-- Client c can use no more of a resource in this window (R69, R70): it has had its budget or cap, and for a reserved client nothing unreserved is
left either; a best-effort client also waits where all that the window schedules is used. -/
def Dev.exhausted (d : Dev) (c : Nat) (r : BalRes) : Bool :=
  let left := decide (d.schedulable r ≤ ((List.range 24).map (fun k => Demand.of (d.usedBy k) r)).foldl (· + ·) 0)
  let own := decide (d.budgetOf c r ≤ Demand.of (d.usedBy c) r)
  if c < 11 then own && left else own || left

/-- Client c found its share used up in this window. -/
def Dev.noteShort (d : Dev) (c : Nat) : Dev :=
  if d.bal.short.contains c then d else { d with bal := { d.bal with short := d.bal.short ++ [c] } }

/-- Engine cycles that the budget of client c allowed since elapsed time `from_`. -/
def Dev.thaCycles (d : Dev) (c from_ : Nat) : Nat :=
  let n := d.el / 1024 - from_ / 1024
  min (d.el - from_) (n * d.shareOf c .tha + (d.shareOf c .tha - (d.usedBy c).tha))

/-- Cycles of compression at a level that n bytes take (R278). -/
def levelCycles (level n : Nat) : Nat := ceilDiv (100 * n) (levelRate level)

/-! ### The engines (R277, R280 to R285) -/

/-- Engine e. -/
def Dev.engine (d : Dev) (e : Nat) : EngSt := lget d.tha.engines e .reset

/-- Set engine e, its STATE shown with what its job is. -/
def Dev.setEngine (d : Dev) (e : Nat) (x : EngSt) (state : Nat) : Dev :=
  let d := { d with tha := { d.tha with engines := lset d.tha.engines e x } }
  let a := a_THA_ENG_STAT e
  let (client, bounded, level) := match x.job, x.own with
    | some j, _ => (j.client.val, j.bounded, if j.compress then j.level.val else 0)
    | none, some (c, l) => (c, false, l)
    | none, none => (0, false, 0)
  (((d.wrF a f_THA_ENG_STAT_STATE state).wrF a f_THA_ENG_STAT_CLIENT client).wrB a f_THA_ENG_STAT_MODE bounded).wrF a f_THA_ENG_STAT_LEVEL level

/-- Engine e has no job. -/
def Dev.engIdle (d : Dev) (e : Nat) : Bool := (d.engine e).job.isNone && (d.engine e).own.isNone

/-- The engine on which the Keel places a job: the first that is idle, in an island that is reachable (R277; log entry 113). -/
def Dev.freeEngine (d : Dev) : Option Nat := if d.reachable .tha then (List.range 16).find? d.engIdle else none

/-- A crop or recording of client c keeps an engine. -/
def Dev.claimEngine (d : Dev) (c level : Nat) : Dev :=
  match d.freeEngine with
  | some e => d.setEngine e { EngSt.reset with own := some (c, level) } 1
  | none => d

/-- Client c keeps an engine. -/
def Dev.hasEngine (d : Dev) (c : Nat) : Bool :=
  d.reachable .tha && (List.range 16).any (fun e => match (d.engine e).own with | some p => decide (p.1 = c) | none => false)

/-- Client c's engine is idle again. -/
def Dev.freeOwn (d : Dev) (c : Nat) : Dev :=
  iter 16 (fun e d => match (d.engine e).own with
    | some p => if p.1 = c then d.setEngine e .reset 0 else d
    | none => d) d

/-- OUT_LIMIT of a job, at most 1,048,576 (R282). -/
def jobLimit (j : ThaJob) : Nat := min j.outLimit 1048576

/-- Output made goes to the destination as far as there is space (R281). -/
def EngSt.spill (x : EngSt) : EngSt × List Byte :=
  let b := x.todo.take (x.room - x.wrote)
  ({ x with todo := x.todo.drop b.length, wrote := x.wrote + b.length }, b)

/-- Input bytes of the next block: to the end of the input, a flush that the client requests, at most 131,072 (R280). -/
def EngSt.need (x : EngSt) (j : ThaJob) : Nat :=
  ((j.flushes.filter (fun f => x.coded < f)).map (· - x.coded)).foldl min (min 131072 j.input.length)

/-- One block of n bytes of input; in bounded mode what does not fit in the buffer in progress waits for the next one (R283). -/
def EngSt.codeBlock (x : EngSt) (j : ThaJob) (n : Nat) : EngSt :=
  let (b, k, s) := x.enc.block (j.input.take n) (if j.bounded then some (jobLimit j - x.cur) else none) (if n = j.input.length then 16 else 0)
  if k = 0 then { x with cur := 0 }
  else { x with
    job := some { j with input := j.input.drop k }, enc := s, coded := x.coded + k, got := 100 * (n - k), todo := x.todo ++ b
    cur := if j.bounded && k = n then x.cur + b.length else 0 }

/-- A compression works for at most c cycles: block after block, to the end block, as far as its output finds space (R280, R281); the cycles left and
what it has written. A requested save takes no more input. -/
def EngSt.work : Nat → Nat → EngSt → List Byte → EngSt × Nat × List Byte
  | 0, c, x, w => (x, c, w)
  | fuel + 1, c, x, w =>
    let (x, b) := x.spill
    let w := w ++ b
    match x.job with
    | none => (x, c, w)
    | some j =>
      if !x.todo.isEmpty || x.ends || x.save.isSome then (x, c, w)
      else if j.input.isEmpty then EngSt.work fuel c { x with todo := x.enc.endBlock, ends := true } w
      else
        let n := x.need j
        let cost := ceilDiv (100 * n - x.got) (levelRate j.level)
        if c < cost then ({ x with got := x.got + c * levelRate j.level }, 0, w)
        else EngSt.work fuel (c - cost) ({ x with got := 100 * n }.codeBlock j n) w

/-- Steps that bound the work of a job: its blocks and buffers, its end block, and its last write. -/
def jobSteps (j : ThaJob) : Nat := 2 * j.input.length + 4

/-- What an engine has written goes to its destination; input and output are counted, in whole KiB, and charged with the cycles it worked. -/
def Dev.engWrote (d : Dev) (e : Nat) (j : ThaJob) (x y : EngSt) (w : List Byte) (cycles : Nat) : Dev :=
  let c := j.client.val
  let units : Demand := if j.compress then hbmUnits w.length else ⟨0, 0, 0, 0, 0⟩
  let d := d.charge c { units with tha := cycles }
  let d := if w.isEmpty then d else d.hbmPut (j.dst + x.wrote) w
  (d.inc (a_THA_ENG_CNT e) f_THA_ENG_CNT_IN_KIB (y.coded / 1024 - x.coded / 1024)).inc (a_THA_ENG_CNT e) f_THA_ENG_CNT_OUT_KIB
    (y.wrote / 1024 - x.wrote / 1024)

/-- STATE of an engine whose job is j: stalled while its destination is full or its budget is used up (R281, R296). -/
def EngSt.state (x : EngSt) (j : ThaJob) (short : Bool) : Nat := if !x.todo.isEmpty || short then 3 else if j.compress then 1 else 2

/-- An engine works up to now. One that moves a state waits for its client's HBM budget (R284). -/
def Dev.engRun (d : Dev) (e : Nat) : Dev :=
  let x := d.engine e
  match x.job with
  | none => d
  | some j =>
    let c := j.client.val
    if x.busy then
      if d.exhausted c (.hbm 0) || d.exhausted c (.hbm 1) then (d.noteShort c).setEngine e { x with at_ := d.el } (if x.leaving then 4 else 5)
      else if x.leaving then d.setEngine e .reset 0
      else d.setEngine e { x with busy := false, at_ := d.el } (x.state j false)
    else
      let n := d.thaCycles c x.at_
      let (y, left, w) := x.work (jobSteps j) n []
      let short := y.todo.isEmpty && !y.ends && decide (n < d.el - x.at_)
      let d := d.engWrote e j x y w (if j.compress then n - left else if y.todo.isEmpty then n else 0)
      (if short then d.noteShort c else d).setEngine e { y with at_ := d.el } (y.state j short)

/-- Every engine works up to now. -/
def Dev.enginesRun (d : Dev) : Dev := iter 16 (fun e d => d.engRun e) d

/-- The job of an engine ends where its client has cycles and all its output finds space, its end block too; its result is given (R281, R294, R296).
Answers the status. -/
def Dev.jobDone (d : Dev) (e : Nat) : Dev × Nat :=
  let x := d.engine e
  match x.job with
  | none => (d, 0)
  | some j =>
    if x.busy || d.exhausted j.client.val .tha then (d, 0)
    else
      let (y, _, w) := x.work (jobSteps j) (100 * j.input.length) []
      if !y.todo.isEmpty || !y.ends then ((d.engWrote e j x y w 0).setEngine e y (y.state j false), 0)
      else
        let r := thatchDecode x.ratio j.outMax j.input
        let (status, taken) := if j.compress then (0, y.coded) else (r.status, r.consumed)
        let d := d.engWrote e j x { y with coded := taken } w 0
        ((d.setEngine e .reset 0).emit (.thatch e status taken y.wrote), status)

/-- Acquisition ends: a compression that it fed, a crop's, a recording's or a view's, takes no further input, closes its stream and ends (R296). -/
def Dev.engineStops (d : Dev) : Dev :=
  iter 16 (fun e d =>
    match (d.engine e).job with
    | none => d
    | some j =>
      if !j.compress || !(j.client.val = 5 || j.client.val = 7 || j.client.val = 11) then d
      else
        let d := d.engRun e
        let x := d.engine e
        match x.job with
        | none => d
        | some j => ((d.setEngine e { x with job := some { j with input := j.input.take (x.got / 100) } } (x.state j false)).jobDone e).1) d

end Sys2Proof.Machine
end

