-- ==== Sys2Proof/Machine/Items.lean ====
section
/-! DEFINITION. What every family uses to reach the outside and the other families: interrupt messages, items for rings, envelope
responses, ballast profiles, SAFE_HOLD, errors and events. -/

namespace Sys2Proof.Machine

/-! ### Interrupts and rings -/

/-- Outbound transfers run (R302). -/
def Dev.outboundOk (d : Dev) : Bool := d.host.busMaster && d.host.d0 && d.host.linkUp

/-- A vector sends: outbound transfers run, MSI-X is enabled, and neither the function nor the vector is masked (R300, R302). -/
def Dev.msixOpen (d : Dev) (v : Nat) : Bool := d.outboundOk && d.host.ctl.msixOn && !d.host.ctl.masked && d.host.unmasked.contains v

/-- Requests that n bytes at address a take: none longer than `limit`, none across a 4 KiB boundary (R301; greedy: log entry 115). -/
def requests (limit : Nat) : Nat → Nat → Nat → List (Nat × Nat)
  | 0, _, _ => []
  | _, _, 0 => []
  | fuel + 1, a, n =>
    let k := max 1 (min n (min limit (4096 - a % 4096)))
    (a, k) :: requests limit fuel (a + k) (n - k)

/-- Bytes that a size code of the configuration space stands for, a best-effort client's at most 256 (R68, R301). -/
def requestLimit (code : BitVec 3) (best : Bool) : Nat := let n := 128 * 2 ^ code.toNat; if best then min 256 n else n

/-- Bytes are written to host memory: by at most Max Payload Size, which is 512 at most (R297, R301). -/
def Dev.hostPut (d : Dev) (a : Nat) (ro best : Bool) (bs : List Byte) : Dev :=
  let l := requests (min 512 (requestLimit d.host.ctl.mps best)) bs.length a bs.length
  { d with out := d.out ++ l.map (fun p => .hostWrite (BitVec.ofNat 64 p.1) (ro && d.host.ctl.ro) (slice bs (p.1 - a) p.2)) }

/-- n bytes are read from host memory: by at most Max Read Request Size (R301). -/
def Dev.hostGet (d : Dev) (a : Nat) (best : Bool) (n : Nat) : Dev :=
  let l := requests (requestLimit d.host.ctl.mrrs best) n a n
  { d with out := d.out ++ l.map (fun p => .hostRead (BitVec.ofNat 64 p.1) p.2) }

/-- Send an MSI-X message, or set its pending bit while it is masked or outbound transfers are stopped (R302, R315). -/
def Dev.msix (d : Dev) (v : Nat) : Dev :=
  if d.msixOpen v then d.emit (.msix v)
  else if d.host.msixPend.contains v then d
  else { d with host := { d.host with msixPend := d.host.msixPend ++ [v] } }

/-- A ring context after reset: off (R303). -/
def RingCtx.off : RingCtx where
  descBase := 0
  typ := 0
  loc := false
  ro := false
  flushLast := false
  en := false
  log2Size := 0
  log2Buf := 0
  dest := 0
  vector := 0
  coalDesc := 0
  coalUs := 0
  flushUs := 0
  head := 0
  tail := 0
  stageKib := 0
  dropCnt := 0
  staged := 0
  offCnt := 0
  items := 0
  armed := false
  err := 0

/-- What the device keeps of a ring when it is enabled. -/
def RingRun.empty : RingRun := ⟨[], [], 0, 0, 0, 0, false, [], 0, 0, 0, false⟩

/-- The context of ring r. -/
def Dev.ring (d : Dev) (r : Nat) : RingCtx := alGet d.host.rings r .off

/-- What the device keeps of ring r. -/
def Dev.ringRun (d : Dev) (r : Nat) : RingRun := alGet d.host.runs r .empty

/-- Descriptors posted to a ring and not completed (R306). -/
def RingCtx.posted (c : RingCtx) : Nat := (c.tail - c.head).toNat

/-- Set the context of ring r. -/
def Dev.setRing (d : Dev) (r : Nat) (c : RingCtx) : Dev := { d with host := { d.host with rings := alSet d.host.rings r c } }

/-- Set what the device keeps of ring r. -/
def Dev.setRun (d : Dev) (r : Nat) (c : RingRun) : Dev := { d with host := { d.host with runs := alSet d.host.runs r c } }

/-- An unfragmented item for a ring (R309). -/
def RingItem.whole (ring content : Nat) (body : List Byte) : RingItem :=
  { ring := ring, content := content, objId := 0, tag := 0, body := body, off := 0, fseq := 0, complete := true, trunc := false,
    mailbox := none }

/-- Hand an item to its ring. -/
def Dev.toRing (d : Dev) (x : RingItem) : Dev := { d with host := { d.host with queue := d.host.queue ++ [x] } }

/-! ### Merge points (R39 to R42) -/

/-- The state of a merge point. -/
def Merges.get (m : Merges) : MergeId → MergePt Item
  | .mosaic => m.mosaic | .seam => m.seam | .record => m.record | .evt => m.evt | .err => m.err | .pair => m.pair

/-- The merge points with one replaced. -/
def Merges.set (m : Merges) (i : MergeId) (x : MergePt Item) : Merges :=
  match i with
  | .mosaic => { m with mosaic := x }
  | .seam => { m with seam := x }
  | .record => { m with record := x }
  | .evt => { m with evt := x }
  | .err => { m with err := x }
  | .pair => { m with pair := x }

/-- A source has made an item for a merge point; it arrives with MERGE_ARRIVAL, in the order made. -/
def Dev.fly (d : Dev) (i : MergeId) (x : Item) : Dev :=
  let p := d.mrg.get i
  { d with mrg := d.mrg.set i { p with fly := p.fly ++ [x] } }

/-! ### Envelope responses (R333 to R346) -/

end Sys2Proof.Machine

namespace Sys2Proof

/-- OPCODE of a command (R349 to R356). -/
def Cmd.opcode : Cmd → Nat
  | .nop => 0x01 | .info => 0x02 | .cmdQuery .. => 0x03 | .regRead _ => 0x04 | .regWrite _ => 0x05
  | .modeSet _ => 0x10 | .rollNext => 0x11 | .loftExport .. => 0x12
  | .tableLoad _ => 0x20 | .tableRead _ => 0x21
  | .camRegRead .. => 0x30 | .camRegWrite .. => 0x31 | .viewReserve _ => 0x32 | .viewRelease _ => 0x33
  | .hbmSetpoint .. => 0x40 | .hbmRetire .. => 0x41
  | .fwStage _ => 0x50 | .fwSwap => 0x51 | .pipeTakeover _ => 0x52 | .laneRetrain _ => 0x53 | .partnerRejoin => 0x54
  | .serviceAbort => 0x55
  | .calRun .. => 0x60 | .calRead _ => 0x61 | .calStore => 0x62
  | .cfgOpen => 0x70 | .cfgCommit => 0x71 | .nvWrite _ => 0x72 | .fuseProgram _ => 0x73
  | .timeStep _ => 0x80 | .evtCommit => 0x81 | .pairHandover => 0x90

/-- A command of class D, deferred (R336). -/
def Cmd.deferred : Cmd → Bool
  | .modeSet _ | .loftExport .. | .tableLoad _ | .tableRead _ | .camRegRead .. | .camRegWrite .. | .hbmSetpoint ..
  | .hbmRetire .. | .fwStage _ | .fwSwap | .pipeTakeover _ | .laneRetrain _ | .partnerRejoin | .calRun .. | .calStore
  | .nvWrite _ | .fuseProgram _ | .timeStep _ | .pairHandover => true
  | _ => false

/-- A command marked A, which needs authority in a pair, but for REG_WRITE, which needs it by entry (R342, R348). -/
def Cmd.needsAuthority : Cmd → Bool
  | .modeSet _ | .rollNext | .tableLoad _ | .partnerRejoin | .timeStep _ | .evtCommit | .pairHandover => true
  | _ => false

/-- A flag as a number. -/
def bitN (b : Bool) (k : Nat) : Nat := if b then 2 ^ k else 0

/-- TIMEOUT_MS in nanoseconds; 0 selects 100 ms (R332). -/
def EnvHdr.timeoutNs (h : EnvHdr) : Nat := (if h.timeoutMs = 0 then 100 else h.timeoutMs.toNat) * 1000000

end Sys2Proof

namespace Sys2Proof.Machine

/-- EFFECT_LINE of an effect that is not tied to a line (R333). -/
def noLine : W64 := 0xFFFFFFFFFFFFFFFF

/-- The bytes of a response (R333). -/
def respBytes (st : Stamp) (opcode : Nat) (h : EnvHdr) (status : Nat) (interim : Bool) (line : W64) (body : List Byte) : List Byte :=
  st.bytes ++ leBytes 2 opcode ++ leBytes 2 (32 + body.length) ++ leBytes 4 h.tag.toNat ++ leBytes 2 status ++
  [BitVec.ofNat 8 h.mailbox, if interim then 1 else 0] ++ leBytes 8 line.toNat ++ body

/-- A packet of the Tether and Ridge links (R134): header, payload, CRC, zero padding to 32-byte blocks. `h` is header bytes 4 to 15. -/
def packet (typ b1 : Nat) (h payload : List Byte) : List Byte :=
  let b := [BitVec.ofNat 8 typ, BitVec.ofNat 8 b1] ++ leBytes 2 payload.length ++ padTo h 12 ++ payload
  padMul (b ++ leBytes 4 (crc32c b)) 32

/-- ACTIVE lanes of the Ridge link of one class: lanes 32 and 36 carry the control class, the others the bulk class (R439). -/
def Dev.ridgeLanes (d : Dev) (bulk : Bool) : Nat :=
  ((List.range 8).filter (fun i => (decide (i % 4 ≠ 0) == bulk) && (lget d.lanes (32 + i) .reset).step = 6)).length

/-- Send a packet over the Ridge link with the next RSEQ of its class (R439); without an ACTIVE lane of the class nothing is sent. -/
def Dev.ridge (d : Dev) (typ : Nat) (body : List Byte) : Dev :=
  let bulk : Bool := 0x90 ≤ typ
  let seq := if bulk then d.pair.txBulk else d.pair.txCtl
  if d.ridgeLanes bulk = 0 then d
  else
    let d := { d with pair := if bulk then { d.pair with txBulk := seq + 1 } else { d.pair with txCtl := seq + 1 } }
    d.emit (.ridge typ (packet typ 0 (leBytes 4 seq.toNat) body))

/-- Send a response of the Keel (R328, R329, R334, R346): to the mailbox's response ring, or over the Ridge link for mailbox 15; a
response whose ring is not an enabled item ring is lost and counted. -/
def Dev.respond (d : Dev) (opcode : Nat) (h : EnvHdr) (status : Nat) (interim : Bool) (line : W64) (body : List Byte) : Dev :=
  let (st, d) := d.mkStamp 63 d.now
  let bytes := respBytes st opcode h status interim line body
  if h.mailbox.val = 15 then d.ridge 0x85 bytes
  else
    let r := d.rdF (a_MBX_CFG h.mailbox) f_MBX_CFG_RESP_RING
    let c := d.ring r
    if 16 ≤ r && c.en && c.typ = 1 then
      d.toRing { RingItem.whole r 8 bytes with mailbox := some h.mailbox }
    else d.inc a_MBX_STAT f_MBX_STAT_RESP_DROP

/-- Keep the outcome of a finished command among the last 64 of its mailbox (R346). -/
def Keel.keep (k : Keel) (x : Kept) : Keel :=
  let mine := k.kept.filter (fun y => y.mailbox = x.mailbox)
  let rest := k.kept.filter (fun y => y.mailbox ≠ x.mailbox)
  { k with kept := (x :: mine).take 64 ++ rest }

/-- The final response of a command goes out and its outcome is kept (R336): QUIET leaves out a final response of OK. -/
def Dev.answer (d : Dev) (id : Nat) (cmd : Cmd) (h : EnvHdr) (status : Nat) (line : W64) (body : List Byte) : Dev :=
  let d := if h.quiet && status = 0 then d else d.respond cmd.opcode h status false line body
  { d with keel := d.keel.keep ⟨h.mailbox, h.tag, BitVec.ofNat 16 cmd.opcode, BitVec.ofNat 16 status, line, id⟩ }

/-- End a command with its final response; one that the partner runs too waits for it, and where it succeeded here and not there the
partner's status is the answer (R342; log entry 31). -/
def Dev.finalResp (d : Dev) (id : Nat) (cmd : Cmd) (h : EnvHdr) (status : Nat) (line : W64) (body : List Byte) : Dev :=
  match d.keel.fwd.find? (fun f => f.id = id) with
  | none => d.answer id cmd h status line body
  | some f =>
    match f.theirs with
    | some st =>
      ({ d with keel := { d.keel with fwd := d.keel.fwd.filter (fun g => g.id ≠ id) } } : Dev).answer id cmd h
        (if status = 0 then st.toNat else status) line (if status = 0 && st ≠ 0 then [] else body)
    | none =>
      { d with keel := { d.keel with fwd := d.keel.fwd.map (fun (g : Fwd) =>
          if g.id = id then { g with mine := some (BitVec.ofNat 16 status, line, body) } else g) } }

/-- Commands of mailbox m taken and not started have no effect: its ring is disabled (R357). -/
def Dev.cancelWaiting (d : Dev) (m : Fin 16) : Dev :=
  let l := d.keel.waiting.filter (fun t => t.h.mailbox = m)
  let d := { d with keel := { d.keel with waiting := d.keel.waiting.filter (fun t => t.h.mailbox ≠ m) } }
  l.foldl (fun d t => d.answer t.id t.cmd t.h 3 noLine []) d

/-- End a pending command (R336); nothing happens where the command is no longer pending. -/
def Dev.finish (d : Dev) (id : Nat) (status : Nat) (line : W64) (body : List Byte) : Dev :=
  match d.keel.pending.find? (fun p => p.id = id) with
  | none => d
  | some p =>
    let d := { d with keel := { d.keel with pending := d.keel.pending.filter (fun q => q.id ≠ id) } }
    d.finalResp id p.cmd p.h status line body

/-- Accept a class D command: it becomes pending, and an interim response is sent unless NO_INTERIM is set (R336). -/
def Dev.accept (d : Dev) (t : Taken) (line : W64) : Dev :=
  let d := { d with keel := { d.keel with pending := d.keel.pending ++ [⟨t.id, t.h, t.cmd, line, t.at_⟩] } }
  if t.h.noInterim then d else d.respond t.cmd.opcode t.h 1 true line []

/-- The pending command that satisfies p, oldest first. -/
def Dev.pendingCmd (d : Dev) (p : Cmd → Bool) : Option PendCmd := d.keel.pending.find? (fun x => p x.cmd)

/-! ### Pair roles -/

/-- The device is the partner of an established pair. -/
def Dev.isPartner (d : Dev) : Bool := d.established && !d.rdB a_RDG_STAT f_RDG_STAT_AUTHORITY

/-! ### Who drives the joined outputs (R447, R454) -/

/-- This device drives the pulses fired at an elapsed instant on MKO, STB and joined event pins: it holds the token, or at a change of holder
the pulse was fired on its side of H. -/
def Dev.drives (d : Dev) (fired : Nat) : Bool :=
  match d.pair.moved with
  | some (h, took, _) => if took then h ≤ fired else fired < h
  | none => !d.isPartner

/-- A device that holds the outputs drives them between pulses: not the partner, and the new holder from H + 1,200 µs (R454). -/
def Dev.drivesIdle (d : Dev) : Bool :=
  match d.pair.moved with
  | some (_, took, level) => took && level
  | none => !d.isPartner

/-- EVIOn is joined to the partner's ball (R438). -/
def Dev.evioJoined (d : Dev) (n : Nat) : Bool := (d.rdF a_RDG_OUT_JOIN f_RDG_OUT_JOIN_JOIN).testBit n

/-! ### Actuator pins (R477, R478) -/

/-- Pins are released because option loading applied factory defaults alone (R478). -/
def Dev.pinsReleased (d : Dev) : Bool := d.rdB a_CFG_OPT_STAT f_CFG_OPT_STAT_PINS_RELEASED || !d.rst.pinsSet

/-- The safe level of MKOn is high. -/
def Dev.mkoSafe (d : Dev) (n : Nat) : Bool := (d.inF a_DEV_PIN_SAFE f_DEV_PIN_SAFE_MKO_SAFE).testBit n

/-- The safe level of STBs is high. -/
def Dev.stbSafe (d : Dev) (s : Nat) : Bool := (d.inF a_DEV_PIN_SAFE f_DEV_PIN_SAFE_STB_SAFE).testBit s

/-- The safe level of EVIOn is high. -/
def Dev.evioSafe (d : Dev) (n : Nat) : Bool := d.inB (a_EVT_EVIO_CFG n) f_EVT_EVIO_CFG_SAFE

/-- What an output drives: the opposite of its safe level while active; released pins are driven high while active (R384, R478). -/
def Dev.drive (d : Dev) (safeHigh active : Bool) : Drive :=
  if d.pinsReleased then (if active then .high else .released)
  else if safeHigh != active then .high else .low

/-- What an output drives while no pulse is on it: a ball joined to the partner's is released by a device that does not hold it (R447, R454). -/
def Dev.restLevel (d : Dev) (joined safeHigh : Bool) : Drive := if joined && !d.drivesIdle then .released else d.drive safeHigh false

/-- EVIOn is an output (in force). -/
def Dev.evioOut (d : Dev) (n : Nat) : Bool := d.inB (a_EVT_EVIO_CFG n) f_EVT_EVIO_CFG_DIR

/-- Markers are driven (R48): an acquiring mode other than CALIBRATE is in force (log entry 129). -/
def Dev.mkoDriven (d : Dev) : Bool := d.acquiring && d.mode.cur != .calibrate

/-- Strobe and event pins hold their safe levels: before start-up has ended (R58), and in SAFE_HOLD (R65). -/
def Dev.pinsHeld (d : Dev) : Bool := d.mode.starting || d.mode.cur == .safeHold

/-- Drive every marker pin to its safe level, cutting short what is in progress; pulses to come are dropped (R48, R63, R477). -/
def Dev.mkoPinsSafe (d : Dev) : Dev :=
  iter 16 (fun n d => d.emit (.pin (.mko n) (d.restLevel true (d.mkoSafe n)))) { d with wpu := { d.wpu with marks := [], mko := List.replicate 16 none } }

/-- The levels at the balls become the accepted levels, and the decoders' starting state (R76, R82). -/
def EncSt.fromBalls (e : EncSt) : EncSt :=
  let h := e.ball % 8
  { e with a := h.testBit 2, b := h.testBit 1, i := h.testBit 0, hall := if h = 0 ∨ h = 7 then none else some h }

/-- A strobe cut short now: what it has been active counts in the window of its limiter (R99). -/
def StrobeSt.cut (x : StrobeSt) (now : Nat) : StrobeSt :=
  { sched := [], active := none, past := match x.active with | some (b, _) => (b, now) :: x.past | none => x.past }

/-- Drive every marker and strobe pin to its safe level, cutting short what is in progress; pulses to come are dropped (R63, R477). -/
def Dev.wpuPinsSafe (d : Dev) : Dev :=
  let d := { d with wpu := { d.wpu with strobes := d.wpu.strobes.map (fun x => StrobeSt.cut x d.el) } }
  iter 8 (fun s d => d.emit (.pin (.stb s) (d.restLevel true (d.stbSafe s)))) d.mkoPinsSafe

/-- Drive every event pin that is an output to its safe level (R63, R477). -/
def Dev.evioPinsSafe (d : Dev) : Dev :=
  let d := { d with evt := { d.evt with evio :=
    (d.evt.evio.mapIdx (fun n x => if d.evioOut n then { x with active := false, until_ := none } else x)) } }
  iter 32 (fun n d => if d.evioOut n then d.emit (.pin (.evio n) (d.restLevel (d.evioJoined n) (d.evioSafe n))) else d) d

/-- The joined outputs on which no pulse is in progress take the level that is theirs now (R447, R454). -/
def Dev.outputsIdle (d : Dev) : Dev :=
  let d := iter 16 (fun n d => if (lget d.wpu.mko n none).isSome then d else d.emit (.pin (.mko n) (d.restLevel true (d.mkoSafe n)))) d
  let d := iter 8 (fun s d => match d.wpu.strobes[s]? with
    | some x => if x.active.isSome then d else d.emit (.pin (.stb s) (d.restLevel true (d.stbSafe s)))
    | none => d) d
  iter 32 (fun n d =>
    let busy : Bool := match d.evt.evio[n]? with | some x => x.until_.isSome | none => false
    let high : Bool := match d.evt.evio[n]? with | some x => x.active | none => false
    if d.evioOut n && d.evioJoined n && !busy then
      d.emit (.pin (.evio n) (if d.drivesIdle then d.drive (d.evioSafe n) high else .released))
    else d) d

/-! ### Objects that grow (R309) -/

/-- CROP_QUEUE shows the crops queued or being cut. -/
def Dev.showCrops (d : Dev) : Dev := d.wrF a_CLS_STAT1 f_CLS_STAT1_CROP_QUEUE d.cls.crops.length

/-- Bytes join an object on its way to a ring, wherever it is; an object that its ring has discarded takes none (R305). -/
def Dev.growObject (d : Dev) (content obj : Nat) (bs : List Byte) (complete trunc : Bool) : Dev :=
  let f (x : RingItem) : RingItem :=
    if x.content = content && x.objId.toNat = obj && !x.complete then
      { x with body := x.body ++ bs, complete := complete, trunc := x.trunc || trunc }
    else x
  let g (x : Item) : Item :=
    match x.payload with
    | .ring r => { x with payload := .ring (f r) }
    | _ => x
  let m := d.mrg.record
  { d with
    host := { d.host with queue := d.host.queue.map f }
    mrg := { d.mrg with record := { m with fly := m.fly.map g, held := m.held.map (fun p => (g p.1, p.2)) } } }

/-- Bytes of a recording segment go to the staging ring at STAGE_BASE (R318) and on to its object. -/
def Dev.stagePut (d : Dev) (bs : List Byte) (complete trunc : Bool) : Dev :=
  let r := d.cls.rec_
  let base := d.inF a_THA_REC_STAGE f_THA_REC_STAGE_STAGE_BASE_HI * 65536
  let size := max 1 (d.inF a_THA_REC_STAGE f_THA_REC_STAGE_STAGE_MIB * 2 ^ 20)
  let at_ := r.wr % size
  let d := (d.hbmPut (base + at_) (bs.take (size - at_))).hbmPut base (bs.drop (size - at_))
  let d := { d with cls := { d.cls with rec_ := { r with wr := r.wr + bs.length } } }
  d.growObject 6 r.seg bs complete trunc

/-- Close the recording segment in progress with its end block (R296, R318). -/
def Dev.closeSegment (d : Dev) (trunc : Bool) : Dev :=
  match d.cls.rec_.enc with
  | none => d
  | some e => (({ d with cls := { d.cls with rec_ := { d.cls.rec_ with enc := none, courses := 0 } } } : Dev).freeOwn 7).stagePut e.close true trunc

/-- Acquisition stops: crops in the queue or being cut close ABORTED (R268), the recording ends, and so do the engines' jobs that it fed (R296). -/
def Dev.stopJobs (d : Dev) : Dev :=
  (({ d with cls := { d.cls with
    crops := d.cls.crops.map (fun (c : Crop) => { c with closed := some (c.closed.getD 3) })
    rec_ := { d.cls.rec_ with unread := [] } } } : Dev).closeSegment false).engineStops

/-- The course in progress in classification ends (R273): it belongs to the roll in progress and takes its number there. -/
def ClsSt.endCourses (s : ClsSt) (ends : W64 × BitVec 16 × Nat) (partial_ : ClsCourse → Bool) : ClsSt :=
  let n := (s.courses.filter (fun c => c.ends.isNone)).length
  let r := s.rolls.getLast?
  { s with
    courses := s.courses.map (fun (c : ClsCourse) => if c.ends.isNone then
      { c with ends := some ends, partial_ := partial_ c, roll := (r.map (·.id)).getD 0, number := ((r.map (·.counts.courses)).getD 0) + 1 } else c)
    rolls := s.rolls.mapIdx (fun i (x : Roll) => if i + 1 = s.rolls.length then
      { x with counts := { x.counts with courses := x.counts.courses + n } } else x) }

/-- A mode change ends a repeat capture with ERR = 2 (R228). -/
def Dev.captureAbort (d : Dev) : Dev :=
  if d.seg.capture.isSome then
    ((({ d with seg := { d.seg with capture := none } } : Dev).wrF a_SEG_REP_CAPTURE f_SEG_REP_CAPTURE_ERR 2).wrB a_SEG_REP_CAPTURE
      f_SEG_REP_CAPTURE_BUSY false)
  else d

/-- The acquisition that a course belongs to has ended: lines not acquired yet will not come. -/
def Dev.runOver (d : Dev) (c : CourseCtx) : Bool := !d.acquiring || d.wpu.ctx.run ≠ c.run

/-- Every blob open after the last line triggered is to close with a flag bit (R63 step 5, R241). -/
def Dev.closeAfterLast (d : Dev) (bit : Nat) : Dev :=
  match d.wpu.lastLine with
  | some x => { d with seg := { d.seg with closeAs := d.seg.closeAs ++ [(x.ctx.run, x.line, bit)] } }
  | none => d

/-- Acquisition stops now: its instant is kept, the course in progress ends, the jobs acquisition fed stop, and the spare pipeline is idle
(R48). -/
def Dev.acqStops (d : Dev) : Dev :=
  let last := d.wpu.lastLine.map (·.line)
  let cut (c : ClsCourse) : Bool := match last with | some l => decide (l + 1 < c.ctx.first + c.ctx.len) | none => true
  let d := ({ d with wpu := { d.wpu with stopAt := (d.now, d.clk.epoch), stopEl := d.el }
                     cls := d.cls.endCourses (d.now, d.clk.epoch, d.el) cut } : Dev).stopJobs.captureAbort
  iter 17 (fun n d => if d.rdF (a_PIPE_ROLE n) f_PIPE_ROLE_ROLE ∈ [2, 4] then d.wrForce (a_PIPE_ROLE n) f_PIPE_ROLE_ROLE 1 else d) d

/-! ### The pair -/

/-- The partner answers no more: a command it runs too ends as it ended here (R344). -/
def Dev.fwdAlone (d : Dev) : Dev :=
  let l := d.keel.fwd
  l.foldl (fun d f => match f.mine with | some (st, line, body) => d.answer f.id f.cmd f.h st.toNat line body | none => d)
    { d with keel := { d.keel with fwd := [] } }

/-- The pair ceases: ring 15 and mailbox 15 close, and commands that the partner has not answered end as they ended here (R329, R342). -/
def Dev.pairClosed (d : Dev) : Dev :=
  let d := if d.rdB (a_MBX_CFG 15) f_MBX_CFG_EN then d.wrB (a_MBX_CFG 15) f_MBX_CFG_EN false else d
  let d := if (d.ring 15).en then d.setRing 15 .off else d
  ({ d with pair := { d.pair with box := [] } }.cancelWaiting 15).fwdAlone

/-- A service operation ends (R59): its response is sent, SERVICE clears, and the profile loses the SERVICE additions at once
(R73; log entry 122). -/
def Dev.endService (d : Dev) (id status : Nat) (line : W64) (body : List Byte) : Dev :=
  let d := if d.mode.service = some id then
      ({ d with mode := { d.mode with service := none } } : Dev).loadProfile d.mode.cur.code
    else d
  d.finish id status line body

/-- Class D commands marked A that are pending as the device loses authority are answered CANCELLED, those that await the partner too, and an effect
whose line has not been reached is discarded (R343, R358). -/
def Dev.cancelOwned (d : Dev) : Dev :=
  let gone := d.keel.fwd.filter (fun f => f.cmd.deferred)
  let d := { d with keel := { d.keel with fwd := d.keel.fwd.filter (fun f => !f.cmd.deferred) } }
  let d := gone.foldl (fun d f => match f.mine with | some (_, line, _) => d.answer f.id f.cmd f.h 3 line [] | none => d) d
  let l := d.keel.pending.filter (fun p => p.cmd.needsAuthority && p.cmd.deferred)
  let d := { d with
    mode := { d.mode with pend := match d.mode.pend with | some p => (if p.cmd.isSome then none else some p) | none => none }
    clk := { d.clk with step := none }
    pair := { d.pair with rejoin := none, hand := none, step := if d.pair.rejoin.isSome then 7 else d.pair.step } }
  l.foldl (fun d p => d.endService p.id 3 noLine []) d

/-- The device leaves its pair in a fatal error (R455): ESTABLISHED and the token are gone, and it returns only by rejoin. What needed
the token is cancelled (R343). -/
def Dev.leavePair (d : Dev) : Dev :=
  if !d.established then d
  else
    let ofs := if d.isPartner then (d.rd a_RDG_POS_OFS).toInt else d.pair.kept
    let d := if d.isPartner then d else d.cancelOwned
    let hand := d.pair.hand
    let d := (((d.wrB a_RDG_STAT f_RDG_STAT_ESTABLISHED false).wrB a_RDG_STAT f_RDG_STAT_AUTHORITY false).wrB a_RDG_STAT
      f_RDG_STAT_UNVERIFIED false).wr a_RDG_POS_OFS 0
    let d := { d with pair := { d.pair with
      step := 7, moved := some (d.el, false, false), kept := ofs, hand := none, points := [], descs := [], lostAt := none, unv := none } }
    let d := match hand with
      | some (id, _, _) => d.finish id 3 noLine []
      | none => d
    d.pairClosed.outputsIdle

/-! ### SAFE_HOLD (R63, R64) -/

/-- What a service operation leaves when it is aborted (R525): a takeover that has not moved its port returns the spare to ROLE 1; a swap's
pause ends on the old bank; a retirement whose point has not come is dropped; a rejoin ends. -/
def Dev.dropService (d : Dev) : Dev :=
  let d := match d.spare.take with
    | none => d
    | some t =>
      let d := { d with spare := { d.spare with take := none, comps := d.spare.comps.filter (fun c => !c.shadow) } }
      if t.serves.isSome then d else d.wrForce (a_PIPE_ROLE t.spare) f_PIPE_ROLE_ROLE 1
  let keep := match d.mem.retire with | some r => r.started | none => false
  { d with
    keel := { d.keel with pauseAt := none, paused := false }
    mem := { d.mem with retire := if keep then d.mem.retire else none }
    pair := { d.pair with rejoin := none, step := if d.pair.rejoin.isSome then 7 else d.pair.step } }

/-- Abort the service operation that runs, if any: its final response is E_ABORTED (R60). -/
def Dev.abortService (d : Dev) : Dev :=
  match d.mode.service with
  | none => d
  | some id => (({ d with mode := { d.mode with service := none } } : Dev).dropService).finish id 0x1D noLine []

/-- Discard the mode change that is pending: its command is answered CANCELLED (R57). -/
def Dev.cancelMode (d : Dev) : Dev :=
  match d.mode.pend with
  | none => d
  | some p =>
    let d := { d with mode := { d.mode with pend := none } }
    match p.cmd with
    | none => d
    | some id => d.finish id 3 noLine []

/-- Enter SAFE_HOLD with a cause (R63 steps 2, 3 and 5, R64). During start-up the first cause is kept for step 8 (R58); a cause that
arrives while SAFE_HOLD is in force does not change SAFE_CAUSE. RIPCORD is reported where the pin asserted it, and not here (log entry 121). -/
def Dev.enterSafe (d : Dev) (cause : Nat) : Dev :=
  if d.mode.starting then
    { d with mode := { d.mode with bootCause := some (d.mode.bootCause.getD (BitVec.ofNat 4 cause)) } }
  else
    let was := d.mode.cur
    let d := d.wpuPinsSafe.evioPinsSafe
    if was == .safeHold then d
    else
      let d := d.cancelMode
      let d := d.abortService
      let d := ({ d with mode := { d.mode with cur := .safeHold, safeCause := BitVec.ofNat 4 cause } } : Dev).alertFrom d.smbAlert
      let d := if was.acquiring then d.acqStops.closeAfterLast 2 else d
      let d := d.loadProfile 7
      if d.established && d.rdB a_RDG_STAT f_RDG_STAT_AUTHORITY && (cause = 1 || cause = 3 || cause = 4) then d.ridge 0x86 (padTo [4, BitVec.ofNat 8 cause] 16) else d

/-! ### Errors (R494 to R499) -/

/-- The error entry made of an error (R496). -/
def ErrEntry.bytes (e : ErrEntry) : List Byte :=
  e.stamp.bytes ++ leBytes 2 e.epoch.toNat ++ leBytes 2 0x44 ++ leBytes 2 e.code.toNat ++ [e.cls] ++
  [BitVec.ofNat 8 ((if e.safe then 1 else 0) + (if e.rst then 2 else 0) + (if e.evicted then 4 else 0))] ++
  leBytes 4 e.rpt.toNat ++ leBytes 8 e.info.toNat

/-- Report an error with its origin and INFO (R494): its class and actions come from ERR.MAP; RIPCORD and FW_BOOT_FAIL always act as
SAFE and KEEL_LOCKSTEP acts only through its own source. A FATAL error acts at once, sets FATAL_PEND, is copied to AON
retained memory (R499) and drives a release pulse on FENCE (R451). The entry travels to the error merge point. `forced` says that a rule makes
this report FATAL whatever its code. -/
def Dev.reportAs (forced : Bool) (d : Dev) (code origin info : Nat) : Dev :=
  let m := d.rd (a_ERR_MAP code)
  let own := code = 1 || code = 2
  let mapSafe := if own then true else if code = 3 || code = 0x43 then false else fbit m f_ERR_MAP_SAFE
  let mapRst := if own || code = 3 || code = 0x43 then false else fbit m f_ERR_MAP_RESET
  let fatal := errClass code = 3 || forced || mapSafe || mapRst
  let rst := fatal && mapRst
  let safe := fatal && !rst && code ≠ 3 && code ≠ 0x43
  let (st, d) := d.mkStamp origin d.now
  let e : ErrEntry := ⟨st, d.clk.epoch, BitVec.ofNat 16 code, BitVec.ofNat 8 (if fatal then 3 else errClass code), safe, rst, false, 0,
    BitVec.ofNat 64 info⟩
  let d := if fatal then
      (({ d with err := { d.err with lastFatal := some e, fatalCodes := d.err.fatalCodes ++ [code] } } : Dev).flag a_ERR_STAT
        f_ERR_STAT_FATAL_PEND)
    else d
  let d := if fatal then (d.emit (.fencePulse 40000)).leavePair else d
  let d := if rst then { d with err := { d.err with resetDue := true } } else if safe then d.enterSafe 2 else d
  d.fly .err ⟨st, d.clk.epoch, .err e⟩

/-- Report an error of the class that its code has. -/
def Dev.reportErr (d : Dev) (code origin info : Nat) : Dev := d.reportAs false code origin info

/-- Report an error at most once in `ns` of elapsed time for its key (R69, R312, R500). -/
def Dev.reportLimited (d : Dev) (code unit origin info ns : Nat) : Dev :=
  match d.err.lastReport.find? (fun p => p.1 = (code, unit)) with
  | some p => if d.el < p.2 + ns then d else again
  | none => again
where
  /-- Report, and remember when. -/
  again : Dev :=
    let l := d.err.lastReport.filter (fun p => p.1 ≠ (code, unit))
    ({ d with err := { d.err with lastReport := ((code, unit), d.el) :: l } } : Dev).reportErr code origin info

/-- A read meets an uncorrectable 64-byte word: counted, its address kept, HBM_UE reported once per granule until it is written (R408). -/
def Dev.ueFound (d : Dev) (w : Nat) : Dev :=
  let (s, _, _) := mapAddr d.mapOrder (w * 64)
  let d := (d.inc (a_HBM_ECC_STAT s) f_HBM_ECC_STAT_UE_CNT).wrF (a_HBM_ECC_ADDR s) f_HBM_ECC_ADDR_ADDR (w * 64)
  if d.mem.told.contains (w / 4) then d
  else ({ d with mem := { d.mem with told := d.mem.told ++ [w / 4] } } : Dev).reportErr 0x08 (44 + s) (w * 64)

/-- A client reads a range of the stacks. -/
def Dev.hbmGot (d : Dev) (a n : Nat) : Dev :=
  let d := { d with hbmr := d.hbmr ++ [(a, n)] }
  (d.mem.bad.filter (fun w => a < (w + 1) * 64 && w * 64 < a + n)).foldl (fun d w => d.ueFound w) d

/-- The source code of an access in INFO (R496). -/
def srcCode : AccSrc → Nat
  | .host => 0 | .keel => 1 | .optionLoading => 2 | .ridge => 3
  | .mailbox m => 0x10 + m

end Sys2Proof.Machine

namespace Sys2Proof

/-- A write comes from the host: over BAR0, or through an envelope (R382). -/
def AccSrc.isHost : AccSrc → Bool
  | .host | .mailbox _ => true
  | _ => false

end Sys2Proof

namespace Sys2Proof.Machine

/-- INFO of an address error (R496). -/
def addrInfo (addr : Nat) (src : AccSrc) : Nat := addr % 2 ^ 36 + srcCode src * 2 ^ 48

/-- ORIGIN of an address error (R496): the block in whose window the address lies; 43 outside every window, for the KEEL island and for
envelopes. -/
def errOrigin (addr : Nat) (src : AccSrc) : Nat :=
  match src, unitAt addr with
  | .mailbox _, _ => 43
  | _, some u => originOf u
  | _, none => 43

/-- An address error with its address and source (R496). -/
def Dev.addrErr (d : Dev) (code addr : Nat) (src : AccSrc) : Dev := d.reportErr code (errOrigin addr src) (addrInfo addr src)

/-- LOCK_VIOLATION (R484). -/
def Dev.lockViolation (d : Dev) (addr : Nat) (src : AccSrc) : Dev := d.addrErr 0x0D addr src

/-! ### Events (R376 to R381) -/

/-- Addresses of CH_SRC that an accepted commit or option loading has set: every other channel has no source (factory 0x3FF). -/
def Dev.routed (d : Dev) : List Nat :=
  let inR (a : Nat) : Bool := a_EVT_CH_SRC 0 ≤ a && a < a_EVT_CH_SRC 256
  let f := (d.force.map (·.1)).filter inR
  let n := ((d.nv.map (·.1)).filter inR).filter (fun a => !f.contains a)
  f ++ n

/-- The producer point is one of channel c's sources in force (R376). -/
def Dev.hasSource (d : Dev) (c p : Nat) : Bool :=
  let v := d.inForce (a_EVT_CH_SRC c)
  fget v f_EVT_CH_SRC_SRC0 = p || fget v f_EVT_CH_SRC_SRC1 = p || fget v f_EVT_CH_SRC_SRC2 = p || fget v f_EVT_CH_SRC_SRC3 = p

/-- An event reaches the router for channel c (R380); a channel with EN = 0 discards it. -/
def Dev.reach (d : Dev) (c : Nat) (src : Option Nat) : Dev :=
  if d.rdB (a_EVT_CH_CTRL c) f_EVT_CH_CTRL_EN then
    { d with evt := { d.evt with due := d.evt.due ++ [⟨c, src, d.now, d.clk.epoch, d.clk.cyc⟩] } }
  else d

/-- A producer point raises an event (R377): it reaches every channel of which it is a source. -/
def Dev.raiseEvt (d : Dev) (p : Nat) : Dev :=
  if d.isHeld .evt then d
  else
    d.routed.foldl (fun d a =>
      let c := (a - a_EVT_CH_SRC 0) / 8
      if d.hasSource c p then d.reach c (some p) else d) d

end Sys2Proof.Machine
end

