-- ==== Sys2Proof/Machine/LaneOps.lean ====
section
/-! DEFINITION. What the shared lane layer does (R415 to R436): stages, transmit taps, restarts, loss of lock. -/

namespace Sys2Proof.Machine

/-! ### Lanes (R415) -/

/-- What a lane is used for (R415). -/
inductive LaneUse
  | tether | ridge | pcie | eth
  deriving DecidableEq, Repr

/-- The use of lane l. -/
def laneUse (l : Nat) : LaneUse := if l < 32 then .tether else if l < 40 then .ridge else if l < 48 then .pcie else .eth

/-- LN_STAT.STAGE of a step (R423). -/
def stageOf (step : Nat) : Nat :=
  match step with
  | 0 => 0 | 1 => 1 | 2 => 2 | 3 => 3 | 4 => 4 | 5 => 4 | _ => 5

/-- LN_CFG of lane l. -/
def lnCfg (l : Nat) : Nat := a_LQ_LN_CFG (l / 4) (l % 4)
/-- LN_STAT of lane l. -/
def lnStat (l : Nat) : Nat := a_LQ_LN_STAT (l / 4) (l % 4)
/-- LN_CNT of lane l. -/
def lnCnt (l : Nat) : Nat := a_LQ_LN_CNT (l / 4) (l % 4)
/-- EYE_CTRL of lane l. -/
def eyeCtrl (l : Nat) : Nat := a_LQ_EYE_CTRL (l / 4) (l % 4)

/-- Lane l. -/
def Dev.lane (d : Dev) (l : Nat) : LaneSt := lget d.lanes l .reset

/-- Store lane l. -/
def Dev.setLane (d : Dev) (l : Nat) (x : LaneSt) : Dev := { d with lanes := lset d.lanes l x }

/-- Port p. -/
def Dev.port (d : Dev) (p : Nat) : PortSt := lget d.ports p .reset

/-- Store port p. -/
def Dev.setPort (d : Dev) (p : Nat) (x : PortSt) : Dev := { d with ports := lset d.ports p x }

/-- The lane is ACTIVE, state 6. -/
def Dev.laneActive (d : Dev) (l : Nat) : Bool := (d.lane l).step = 6

/-- The port has an ACTIVE lane (TPT.LINK.ACTIVE). -/
def Dev.portActive (d : Dev) (p : Nat) : Bool := d.laneActive (2 * p) || d.laneActive (2 * p + 1)

/-- The lane on which port p sends triggers (R145): lane 2p when ACTIVE, otherwise the other one. -/
def Dev.trigLane (d : Dev) (p : Nat) : Option Nat :=
  if d.laneActive (2 * p) then some (2 * p) else if d.laneActive (2 * p + 1) then some (2 * p + 1) else none

/-- LANE_MODE of port p in force selects lane k of it (R126). -/
def Dev.laneInUse (d : Dev) (p k : Nat) : Bool := (d.inF (a_TPT_CFG p) f_TPT_CFG_LANE_MODE).testBit k

/-- TPT.LINK of port p follows its lanes (R145, R153). -/
def Dev.showLink (d : Dev) (p : Nat) : Dev :=
  let a := a_TPT_LINK p
  let l0 := d.lane (2 * p)
  let l1 := d.lane (2 * p + 1)
  let d := (d.wrF a f_TPT_LINK_STATE0 l0.step).wrF a f_TPT_LINK_STATE1 l1.step
  let d := (d.wrF a f_TPT_LINK_DLY0 (uwrap (rdiv l0.dly 125) 16)).wrF a f_TPT_LINK_DLY1 (uwrap (rdiv l1.dly 125) 16)
  let d := d.wrB a f_TPT_LINK_ACTIVE (d.portActive p)
  match d.trigLane p with
  | some l => (d.wrF a f_TPT_LINK_TRIG_LANE (l % 2)).wrF a f_TPT_LINK_RATE (d.lane l).rate
  | none => d

/-! ### What a lane sends (R131 to R133, R157) -/

/-- The ALIGN blocks that have stood on lane l since they were last said: the first block of the first codeword and of every 4,096th after it. -/
def Dev.sendAligns (d : Dev) (l : Nat) : Dev :=
  let x := d.lane l
  let n := if x.step < 3 then 0 else (d.refNs - x.txFrom) * 1000 / (4096 * codewordPs x.rate) + 1
  if n ≤ x.aligns then d
  else
    let k := n - x.aligns
    (d.setLane l { x with aligns := n, alignNext := x.alignNext + BitVec.ofNat 16 k }).emit (.align l x.alignNext k)

/-- The slots that n blocks of a packet, an ECHO block or a burst take from an instant in picoseconds on: the first of them and their end. The
slot of a TRIGGER is not theirs; they go on behind it. -/
def LaneSt.slots (x : LaneSt) (start n : Nat) : Nat × Nat :=
  let b := blockPs x.rate
  let start := if start ≤ x.trigAt && x.trigAt < start + b then start + b else start
  (start, start + n * b + if start ≤ x.trigAt && x.trigAt < start + n * b then b else 0)

/-- Send a packet or an ECHO block on a Tether lane behind what the lane is sending. -/
def Dev.laneSend (d : Dev) (l : Nat) (bytes : List Byte) : Dev :=
  let d := d.sendAligns l
  let x := d.lane l
  let t := x.slots (max (1000 * d.refNs) x.txEnd) (ceilDiv bytes.length 32)
  (d.setLane l { x with txEnd := t.2 }).emit (.tether (l / 2) (l % 2) t.1 bytes)

/-- Send a TRIGGER in its slot: what stands around it ends one block later. -/
def Dev.laneTrigger (d : Dev) (l slot : Nat) (bytes : List Byte) : Dev :=
  let d := d.sendAligns l
  let x := d.lane l
  (d.setLane l { x with trigAt := slot, txEnd := if slot < x.txEnd then x.txEnd + blockPs x.rate else x.txEnd }).emit
    (.tether (l / 2) (l % 2) slot bytes)

/-- The 32 blocks of a calibration burst take their slots behind the packet in transmission, or inside it where that has more than 20 µs to go (R431).
-/
def Dev.laneBurst (d : Dev) (l : Nat) (bytes : List Byte) : Dev :=
  let d := d.sendAligns l
  let x := d.lane l
  let now := 1000 * d.refNs
  let e := (x.slots (if x.txEnd ≤ now + 20000000 then max now x.txEnd else now) 32).2
  (d.setLane l { x with txEnd := if x.txEnd ≤ now + 20000000 then e else x.txEnd + (e - now) }).emit (.lane l 3 bytes)

/-! ### Transmit taps (R420 to R422) -/

/-- The taps PRE and POST keep within R420. -/
def tapsOk (pre post : Nat) : Bool := pre ≤ 16 && post ≤ 24 && pre + post ≤ 40

/-- PRE and POST of a preset (R421). -/
def presetTaps (n : Nat) : Nat × Nat :=
  match n with
  | 0 => (0, 0) | 1 => (0, 8) | 2 => (0, 16) | 3 => (0, 24) | 4 => (4, 8) | 5 => (4, 16) | 6 => (8, 8) | _ => (8, 16)

/-- Put taps in force and show them. -/
def Dev.setTaps (d : Dev) (l pre post : Nat) : Dev :=
  let a := lnStat l
  ((d.wrF a f_LQ_LN_STAT_PRE pre).wrF a f_LQ_LN_STAT_POST post).wrF a f_LQ_LN_STAT_MAIN (64 - pre - post)

/-- Taps at the start of bring-up (R422): INIT_PRESET, or the fixed taps where the lane uses them and they keep R420. -/
def Dev.startTaps (d : Dev) (l : Nat) : Nat × Nat :=
  let c := lnCfg l
  let pre := d.inF c f_LQ_LN_CFG_FIX_PRE
  let post := d.inF c f_LQ_LN_CFG_FIX_POST
  let fixed := match laneUse l with
    | .eth => true
    | .tether | .ridge => d.inB c f_LQ_LN_CFG_EQ_FIXED
    | .pcie => false
  if fixed && tapsOk pre post then (pre, post) else presetTaps (d.inF c f_LQ_LN_CFG_INIT_PRESET)

/-! ### Stages -/

/-- An eye scan of a lane that leaves stage 5 ends with ERR 1 (R435). -/
def Dev.abortEye (d : Dev) (l : Nat) : Dev :=
  let a := eyeCtrl l
  if d.rdB a f_LQ_EYE_CTRL_GO then
    ((d.wrB a f_LQ_EYE_CTRL_GO false).wrF a f_LQ_EYE_CTRL_ERR 1).flag a f_LQ_EYE_CTRL_DONE
  else d

/-- A port that leaves ACTIVE fails its requests (R151): camera register commands end with E_PORT_DOWN. -/
def Dev.portDown (d : Dev) (p : Nat) : Dev :=
  let reqs := (d.port p).reqs
  let d := d.setPort p { d.port p with reqs := [] }
  reqs.foldl (fun d r => match r.cmd with | some id => d.finish id 0x31 noLine [] | none => d) d

/-- ORIGIN of what a lane reports (R36): its camera port, RDG, HOST or ETH. -/
def laneOrigin (l : Nat) : Nat :=
  match laneUse l with
  | .tether => 24 + l / 2 | .ridge => 46 | .pcie => 41 | .eth => 47

/-- A lane leaves stage 5: DOWN_CNT, TETHER_DOWN for a Tether lane (R154, R429). -/
def Dev.leaveActive (d : Dev) (l : Nat) : Dev :=
  let d := (d.inc (lnCnt l) f_LQ_LN_CNT_DOWN_CNT).abortEye l
  let d := d.wrB (lnStat l) f_LQ_LN_STAT_FROZEN false
  if laneUse l = .tether then
    let d := d.reportErr 0x1B (24 + l / 2) (l / 2)
    if d.portActive (l / 2) then d else d.portDown (l / 2)
  else d

/-- A lane that LANE_RETRAIN retrains has come up: the command ends with the lane's stage (R355). -/
def Dev.retrainDone (d : Dev) (l : Nat) : Dev :=
  match d.pendingCmd (fun c => c = .laneRetrain (BitVec.ofNat 8 l)) with
  | some p => d.endService p.id 0 noLine [5]
  | none => d

/-! ### Ethernet ports (R321, R322) -/

/-- IPv4 address of port i, and its MAC address. -/
def Dev.portIp (d : Dev) (i : Nat) : Nat := d.rdF (a_ETH_PORT_IP i) f_ETH_PORT_IP_IPV4
def Dev.portMac (d : Dev) (i : Nat) : Nat := (d.rdF a_ETH_MAC_BASE f_ETH_MAC_BASE_MAC + i) % 2 ^ 48

/-- n as k bytes, most significant first. -/
def netBytes (k n : Nat) : List Byte := (leBytes k n).reverse

/-- The Internet checksum of a byte string, most significant byte first. -/
def inetSum (bs : List Byte) : Nat :=
  let rec go : List Byte → Nat
    | a :: b :: l => a.toNat * 256 + b.toNat + go l
    | [a] => a.toNat * 256
    | [] => 0
  let n := go bs
  let n := n % 65536 + n / 65536
  let n := n % 65536 + n / 65536
  65535 - n

/-- The UDP checksum over pseudo-header, header and content; a sum of zero is sent as all ones (RFC 768). -/
def udpSum (srcIp dstIp src dst : Nat) (bytes : List Byte) : Nat :=
  let n := 8 + bytes.length
  let s := inetSum (netBytes 4 srcIp ++ netBytes 4 dstIp ++ netBytes 2 17 ++ netBytes 2 n ++ netBytes 2 src ++ netBytes 2 dst ++ netBytes 2 n ++
    zeros 2 ++ bytes)
  if s = 0 then 65535 else s

/-- VIEW_PORT, the source port of streams and views. -/
def Dev.viewUdp (d : Dev) : BitVec 16 := BitVec.ofNat 16 (d.rdF a_ETH_CFG f_ETH_CFG_VIEW_PORT)

/-- A UDP datagram leaves a port, with its checksum. -/
def Dev.sendUdp (d : Dev) (port : Nat) (ip : W32) (mac : BitVec 48) (src dst : BitVec 16) (tag : Nat) (bytes : List Byte) : Dev :=
  d.emit (.udp port ip mac src dst (BitVec.ofNat 16 (udpSum (d.portIp port) ip.toNat src.toNat dst.toNat bytes)) tag bytes)

/-- RATE of the Ethernet lanes by PORT_MODE (R417, R418). -/
def Dev.ethRate (d : Dev) : Nat := let m := d.inF a_ETH_CFG f_ETH_CFG_PORT_MODE; if m = 3 then 0 else m

/-- Ethernet lanes run RS-FEC: the 25GBASE-R ports while FEC25 is in force, the 50GBASE-R ports always (R321). -/
def Dev.ethFec (d : Dev) : Bool := match d.ethRate with | 1 => d.inB a_ETH_CFG f_ETH_CFG_FEC25 | 2 => true | _ => false

/-- A lane moves to a step; registers follow. -/
def Dev.laneStep (d : Dev) (l step : Nat) : Dev :=
  let d := if step < 3 then d.sendAligns l else d
  let x := d.lane l
  let d := d.setLane l { x with step := step, since := d.refNs }
  let d := if x.step < 3 ∧ 3 ≤ step then d.setLane l { d.lane l with txFrom := d.refNs, aligns := 0, txEnd := 0, trigAt := 0 } else d
  let d := if x.step = 6 ∧ step ≠ 6 then d.leaveActive l else d
  let d := if step = 6 then
      let y := d.lane l
      let d := d.setLane l { y with returns := 0, failed := false, heardAt := d.refNs, missed := false }
      d.wrB (lnStat l) f_LQ_LN_STAT_FROZEN (d.rdB (lnCfg l) f_LQ_LN_CFG_FREEZE_HOLD)
    else d
  let d := (d.wrF (lnStat l) f_LQ_LN_STAT_STAGE (stageOf step)).wrB (lnStat l) f_LQ_LN_STAT_CDR_LOCK (3 ≤ step)
  let d := if laneUse l = .tether then d.showLink (l / 2) else d
  let d := if step = 6 && laneUse l = .eth then d.emit (.ethUp l d.ethFec) else d
  if step = 6 then d.retrainDone l else d

/-- A lane enters receiver detect at a rate: LN_CFG comes into force (R12), taps start anew (R422). `final` says that training goes
on at the granted rate; otherwise a bring-up of a Tether lane begins, which clears CAP_ERR (R154). TPT.LINK.RATE stays that of an ACTIVE lane. -/
def Dev.detect (d : Dev) (l rate : Nat) (final : Bool) : Dev :=
  let d := d.bringFrom d.regs .bringUp (fun a => a = lnCfg l)
  let d := d.laneStep l 1
  let x := d.lane l
  let d := d.setLane l { x with
    rate := rate, final := final, detectAt := d.refNs, unlocked := false, preStat := 0, postStat := 0, preDone := false, ready := false, farRun := 0,
    extra := none, echoes := [], trips := [], count := 0 }
  let d := if laneUse l = .pcie then d else d.wrF (lnStat l) f_LQ_LN_STAT_RATE rate
  let d := if laneUse l = .tether && !d.portActive (l / 2) then d.wrF (a_TPT_LINK (l / 2)) f_TPT_LINK_RATE rate else d
  let d := if laneUse l = .tether && !final then d.wrF (a_TPT_LINK (l / 2)) f_TPT_LINK_CAP_ERR 0 else d
  let t := d.startTaps l
  d.setTaps l t.1 t.2

/-- The bridle clock pin of port p follows LANE_MODE (R127, R129): driven while it is not 0, high-impedance while it is. -/
def Dev.bridle (d : Dev) (p : Nat) : Dev :=
  let x := d.port p
  if d.inF (a_TPT_CFG p) f_TPT_CFG_LANE_MODE = 0 then
    (if x.clockAt.isSome then (d.setPort p { x with clockAt := none }).emit (.pin (.bridleCk p) .released) else d)
  else if x.clockAt.isNone then (d.setPort p { x with clockAt := some d.refNs }).emit (.pin (.bridleCk p) .high)
  else d

/-- What a bring-up of a port brings into force (R153 step 1): the fields of TPT.CFG; and the bridle clock runs. -/
def Dev.portConfig (d : Dev) (p : Nat) : Dev := (d.bringFrom d.regs .bringUp (fun a => a = a_TPT_CFG p)).bridle p

/-- Bring-up of a whole port begins (R153 step 1): every lane in use enters receiver detect at RATE 0. -/
def Dev.startPort (d : Dev) (p : Nat) : Dev :=
  let d := (d.portConfig p).wrF (a_TPT_LINK p) f_TPT_LINK_CAP_ERR 0
  let go (d : Dev) (k : Nat) : Dev :=
    if d.laneInUse p k then d.detect (2 * p + k) 0 false else d.laneStep (2 * p + k) 0
  go (go d 0) 1

/-- Ethernet lane k is used (R418). -/
def Dev.ethUsed (d : Dev) (k : Nat) : Bool :=
  match d.ethRate with
  | 0 => k = 0
  | 1 => k < 4
  | _ => k < 2

/-- RATE at which a lane begins its bring-up: RATE 0 of a Tether lane (R153), RATE 2 of a Ridge lane (R439), that of PORT_MODE of an Ethernet lane
(R417). -/
def Dev.firstRate (d : Dev) (l : Nat) : Nat :=
  match laneUse l with
  | .ridge => 2
  | .eth => d.ethRate
  | _ => 0

/-- The lane is used: by its port, by an enabled pair, by PCIe, by the Ethernet ports of PORT_MODE. A lane that is not used stays in electrical
idle (R418, R477). -/
def Dev.laneWanted (d : Dev) (l : Nat) : Bool :=
  match laneUse l with
  | .tether => d.laneInUse (l / 2) (l % 2)
  | .ridge => d.inB a_RDG_CFG f_RDG_CFG_EN
  | .pcie => true
  | .eth => d.ethUsed (l - 48)

/-- Lanes of a quad. -/
def quadLanes (q : Nat) : List Nat := [4 * q, 4 * q + 1, 4 * q + 2, 4 * q + 3]

/-- Bring-up of an Ethernet lane brings PORT_MODE into force; where the quad's design rate changes, all of quad 12 waits for its PLL to relock
(R416, R436). -/
def Dev.restartEth (d : Dev) (l : Nat) : Dev :=
  let was := d.ethRate
  let d := d.bringFrom d.regs .bringUp (fun a => a = a_ETH_CFG)
  if d.ethRate = was then (if d.laneWanted l then d.detect l was false else d)
  else
    let d := { d with rst := { d.rst with clkGood := d.rst.clkGood &&& ~~~ BitVec.ofNat 40 (2 ^ 15) } }
    let d := d.wrB (a_LQ_QUAD_STAT 12) f_LQ_QUAD_STAT_PLL_LOCK false
    (quadLanes 12).foldl (fun d k => let d := d.laneStep k 0; d.setLane k { d.lane k with unlocked := true }) d

/-- The lane's quad is out of reset with its PLL locked: the lane can leave stage 0. -/
def Dev.quadUp (d : Dev) (l : Nat) : Bool :=
  d.rdB (a_LQ_QUAD_STAT (l / 4)) f_LQ_QUAD_STAT_PLL_LOCK && (if h : l / 4 < 13 then !d.isHeld (.lq ⟨l / 4, h⟩) else false)

/-- LANE_MODE as written is LANE_MODE in force. -/
def Dev.laneModeKept (d : Dev) (p : Nat) : Bool :=
  d.rdF (a_TPT_CFG p) f_TPT_CFG_LANE_MODE = d.inF (a_TPT_CFG p) f_TPT_CFG_LANE_MODE

/-- The other lane k of a port follows a LANE_MODE that has come into force: it starts where it is newly used and down, goes down where it is
used no more, and is unaffected otherwise (R154). -/
def Dev.followMode (d : Dev) (p k : Nat) : Dev :=
  let l := 2 * p + k
  let x := d.lane l
  if d.laneInUse p k then (if x.step = 0 && d.quadUp l then d.detect l 0 false else d)
  else if x.step ≠ 0 then d.laneStep l 0
  else d

/-- Restart of a lane from stage 1 at a rate. It is a bring-up of a Tether lane, which brings the written TPT.CFG of its port into force; where
that gives the port other lanes, they follow, and the lane starts anew at RATE 0 (log entry 126). -/
def Dev.restartLane (d : Dev) (l rate : Nat) (final : Bool) : Dev :=
  let d := d.laneStep l 0
  if laneUse l = .tether then
    let p := l / 2
    let same := d.rd (a_TPT_CFG p) = d.inForce (a_TPT_CFG p)
    let kept := d.laneModeKept p
    let d := d.portConfig p
    let d := if kept then d else d.followMode p (1 - l % 2)
    if d.laneInUse p (l % 2) then (if same then d.detect l rate final else d.detect l 0 false) else d
  else if laneUse l = .eth then d.restartEth l
  else if d.laneWanted l then d.detect l rate final
  else d

/-- An ECHO_REQ block with a TAG (R132). -/
def echoReq (tag : BitVec 16) : List Byte :=
  let b := [0x66] ++ leBytes 2 tag.toNat ++ zeros 25
  b ++ leBytes 4 (crc32c b)

/-- Send one ECHO_REQ on a lane (R144). -/
def Dev.sendEcho (d : Dev) (l : Nat) : Dev :=
  let p := d.port (l / 2)
  let x := d.lane l
  let d := d.setPort (l / 2) { p with echoTag := p.echoTag + 1 }
  let d := d.setLane l { x with echoes := (p.echoTag :: x.echoes).take 64 }
  d.laneSend l (echoReq p.echoTag)

/-- The delay measurement of a lane begins (R153 step 8). -/
def Dev.startEcho (d : Dev) (l : Nat) : Dev :=
  let d := d.laneStep l 5
  (d.setLane l { d.lane l with echoes := [], trips := [], count := 0 }).sendEcho l

/-- Loss of CDR lock or of the lock of stage 3, in stage 3, 4 or 5 (R429): back to stage 1. -/
def Dev.loseLock (d : Dev) (l : Nat) : Dev := if 3 ≤ (d.lane l).step then d.restartLane l (d.firstRate l) false else d

/-- A retrain request (R434): stage 1 at the present rate; a request in stage 1 to 4 aborts the stage, which ABORT_CNT counts. -/
def Dev.retrain (d : Dev) (l : Nat) : Dev :=
  let x := d.lane l
  let d := if 1 ≤ x.step ∧ x.step < 6 then d.inc (lnCnt l) f_LQ_LN_CNT_ABORT_CNT else d
  d.restartLane l x.rate x.final

/-- A bring-up step was not finished in its limit (R154): back to receiver detect, after three returns in a row with a pause of 1 s
and, for Tether, one report; a Ridge lane then falls back to the next lower rate (R439). -/
def Dev.bringupReturn (d : Dev) (l : Nat) : Dev :=
  let x := d.lane l
  let n := x.returns + 1
  let rate := if laneUse l = .ridge then (if n < 3 then x.rate else x.rate - 1) else 0
  let d := d.restartLane l rate false
  let y := d.lane l
  if n < 3 then d.setLane l { y with returns := n }
  else
    let d := d.setLane l { y with returns := 0, failed := true, pause := some (d.refNs + 1000000000) }
    if laneUse l = .tether && !x.failed then d.reportErr 0x1A (24 + l / 2) (l / 2) else d

/-- Time limit of a step in nanoseconds (R153); none where the step has no limit. A port whose CAP or GRANT failed stays at step 5. -/
def Dev.stepLimit (d : Dev) (l : Nat) : Option Nat :=
  match (d.lane l).step with
  | 2 => some 50000000
  | 3 => some 5000000
  | 4 => if laneUse l = .tether then
           (if d.rdF (a_TPT_LINK (l / 2)) f_TPT_LINK_CAP_ERR = 0 && (d.port (l / 2)).reqs.all (fun r => r.typ ≠ 4) then some 20000000 else none)
         else none
  | 5 => if d.rdF (a_TPT_LINK (l / 2)) f_TPT_LINK_CAP_ERR = 0 then some 10000000 else none
  | _ => none

/-- A quad's PLL is locked: QUAD_STAT shows it and the transmit spread, and lanes that lost it return to stage 1 (R128, R429). -/
def Dev.pllLocked (d : Dev) (q : Nat) : Dev :=
  let d := d.wrB (a_LQ_QUAD_STAT q) f_LQ_QUAD_STAT_PLL_LOCK true
  let d := d.wrB (a_LQ_QUAD_STAT q) f_LQ_QUAD_STAT_SSC (q < 8 && d.inF (a_TPT_SSC 0) f_TPT_SSC_DOWN_PPM ≠ 0)
  (quadLanes q).foldl (fun d l => if (d.lane l).unlocked then d.restartLane l (d.firstRate l) false else d) d

/-- A quad's PLL loses lock (R429): every lane that is up goes down until clock-good is true again; reported once with the quad. -/
def Dev.pllUnlock (d : Dev) (q : Nat) : Dev :=
  if d.rdB (a_LQ_QUAD_STAT q) f_LQ_QUAD_STAT_PLL_LOCK then
    let a := a_LQ_QUAD_STAT q
    let d := ((d.wrB a f_LQ_QUAD_STAT_PLL_LOCK false).wrB a f_LQ_QUAD_STAT_SSC false).inc a f_LQ_QUAD_STAT_UNLOCK_CNT
    let d := { d with rst := { d.rst with clkGood := d.rst.clkGood &&& ~~~ BitVec.ofNat 40 (2 ^ (3 + q)) } }
    let d := d.reportErr 0x25 (laneOrigin (4 * q)) q
    (quadLanes q).foldl (fun d l =>
      if (d.lane l).step = 0 then d
      else
        let d := d.laneStep l 0
        d.setLane l { d.lane l with unlocked := true }) d
  else d

/-- Bring-up begins as a unit is released: the lanes of a quad, a port's lanes, the Ridge lanes. A port starts where both its own block and its
quad's are out of reset (R153, R423). -/
def Dev.startLanes (d : Dev) (u : RUnit) : Dev :=
  match u with
  | .lq q =>
    let d := d.pllLocked q
    if q.val < 8 then [2 * q.val, 2 * q.val + 1].foldl (fun d p => if portHeld d p then d else d.startPort p) d
    else
      let d := if q.val = 12 then d.bringFrom d.regs .bringUp (fun a => a = a_ETH_CFG) else d
      (quadLanes q).foldl (fun d l => if d.laneWanted l then d.detect l (d.firstRate l) false else d) d
  | .tpt p => if d.isHeld (.lq ⟨p.val / 2, by omega⟩) then d else d.startPort p
  | .rdg =>
    iter 8 (fun i d =>
      let l := 32 + i
      if d.isHeld (if i < 4 then .lq 8 else .lq 9) || (d.lane l).step ≠ 0 || !d.laneWanted l then d else d.detect l 2 false) d
  | _ => d
where
  /-- Port p's block is in reset. -/
  portHeld (d : Dev) (p : Nat) : Bool := if h : p < 16 then d.isHeld (.tpt ⟨p, h⟩) else true

end Sys2Proof.Machine
end

