-- ==== Sys2Proof/Machine/ClearOps.lean ====
section
/-! DEFINITION. What the blocks hold besides their registers returns to its reset state (R463, R468, R477), and what a reset of one block leaves
behind in the others. -/

namespace Sys2Proof.Machine

/-! ### Tables -/

/-- Address of byte o of a table (R317) in the table store; an INST or BANK that the table has no use for selects nothing (log entry 117). -/
def tabAddr (table inst bank o : Nat) : Nat :=
  let i := if 0x20 ≤ table then 0 else inst
  let b := if table = 0x11 then 0 else bank
  ((table * 32 + i) * 2 + b) * 2 ^ 24 + o

/-- A table lies in the range of one (table, inst) pair, both banks. -/
def tabOf (table inst a : Nat) : Bool := a / 2 ^ 25 = table * 32 + inst

/-- A table returns to its factory content. -/
def Dev.tabClear (d : Dev) (table inst : Nat) : Dev := { d with tab := d.tab.filter (fun c => !tabOf table inst c.1) }

/-! ### Classification -/

/-- Position of a line among those kept. -/
def Dev.linePos (d : Dev) (line : Nat) : Option LinePos := d.cls.pos.find? (fun p => p.line = line)

/-- MD_POS of a line; a free value where no kept descriptor holds it. -/
def Dev.mdOf (d : Dev) (line : Nat) : Int := match d.linePos line with | some p => p.md | none => (Config.unknownPos line).toInt

/-- Bytes of objects of a content that wait for their rings; `obj` names one object. -/
def Dev.unsent (d : Dev) (content : Nat) (obj : Option Nat) : Option Nat :=
  let pick (r : RingItem) : Bool := r.content = content && (match obj with | some k => decide (r.objId.toNat = k) | none => true)
  let ofItem (x : Item) : Option RingItem := match x.payload with | .ring r => some r | _ => none
  let m := d.mrg.record
  let l := (d.host.queue ++ m.fly.filterMap ofItem ++ (m.held.map (·.1)).filterMap ofItem).filter pick
  if l.isEmpty then none else some ((l.map (fun r => r.body.length - r.off)).foldl (· + ·) 0)

/-- An export whose object has left ends its command (R350): OBJ_ID, lines delivered, TRUNC. Lines whose fragments the ring discarded are not
delivered. -/
def Dev.exportCheck (d : Dev) : Dev :=
  match d.cls.exp with
  | none => d
  | some x =>
    if (x.cut || decide (x.last < x.next)) && (d.unsent 5 (some x.obj)).isNone then
      let n := x.sent / max 1 x.slot
      ({ d with cls := { d.cls with exp := none } } : Dev).finish x.cmd 0 noLine
        (leBytes 4 x.obj ++ leBytes 4 n ++ [if n < x.last + 1 - x.first then 1 else 0])
    else d

/-- A RESUME or a reset loses lines not yet read: the object ends with TRUNC. -/
def Dev.exportCut (d : Dev) : Dev :=
  match d.cls.exp with
  | none => d
  | some x =>
    if x.next ≤ x.last && !x.cut then
      ({ d.growObject 5 x.obj [] true true with cls := { d.cls with exp := some { x with cut := true } } } : Dev).exportCheck
    else d

/-- The crop's header goes to its ring as an object that grows. -/
def Dev.cropObject (d : Dev) (c : Crop) : Dev :=
  let (st, d) := d.mkStamp 19 d.now
  let h := padTo (st.bytes ++ leBytes 2 d.clk.epoch.toNat ++ leBytes 2 0x42 ++ leBytes 4 c.id ++ c.defect.bytes ++ leBytes 4 c.x0 ++
    leBytes 2 c.w ++ leBytes 2 c.h ++ leBytes 8 c.y0 ++ leBytes 8 (uwrap (d.mdOf c.y0) 64) ++ [BitVec.ofNat 8 c.level]) 64
  d.fly .record ⟨st, d.clk.epoch, .ring { RingItem.whole c.ring 3 h with objId := BitVec.ofNat 32 c.id, complete := false }⟩

/-- The bytes that end a crop: the rest of its stream with the end block, and the trailer. A crop of which no line was read has no stream. -/
def Crop.tail (c : Crop) (endBlock : Bool) : List Byte :=
  let close := if c.lines = 0 || !endBlock then [] else c.enc.close
  close ++ leBytes 4 c.id ++ [BitVec.ofNat 8 (c.closed.getD 0), 0, 0, 0] ++ leBytes 2 c.lines ++ zeros 6 ++ leBytes 8 c.raw ++
    leBytes 8 (c.sent + close.length)

/-- The crops queued and being cut close ABORTED, with a header, no end block and a trailer (R268). -/
def Dev.cropsAbort (d : Dev) : Dev :=
  d.cls.crops.foldl (fun d c =>
    let x : Crop := { c with closed := some 3 }
    let d := if c.started.isSome then d else d.cropObject c
    d.growObject 3 c.id (x.tail false) true true) d

/-- A reset of CLS: its crops close ABORTED, an export loses its lines, a ROLL_NEXT that waits finds CLS unreachable (log entry 104), tables
return to factory content. -/
def Dev.clsReset (d : Dev) : Dev :=
  let d := (d.cropsAbort.freeOwn 11).exportCut
  let d := (d.cls.rollDue.filterMap (·.cmd)).foldl (fun d id => d.finish id 0x16 noLine []) d
  let d := (((d.closeSegment true).tabClear 0x20 0).tabClear 0x21 0).tabClear 0x22 0
  { d with cls := .reset }

/-! ### Thatch (R296) -/

/-- Crops that an engine compresses are closed ABORTED with no end block (R268, R296). -/
def Dev.cropsLost (d : Dev) : Dev :=
  let d := d.cls.crops.foldl (fun d c =>
    if c.started.isNone then d else d.growObject 3 c.id (({ c with closed := some 3 } : Crop).tail false) true true) d
  ({ d with cls := { d.cls with crops := d.cls.crops.filter (fun (c : Crop) => c.started.isNone) } } : Dev).showCrops

/-- The recording in progress ends with no end block. -/
def Dev.recLost (d : Dev) : Dev :=
  let d := if d.cls.rec_.enc.isNone then d else d.growObject 6 d.cls.rec_.seg [] true true
  { d with cls := { d.cls with rec_ := { d.cls.rec_ with enc := none, courses := 0 } } }

/-- A reset of THA: jobs in progress are lost, their streams have no end block, and every crop closes ABORTED; saved states stay in HBM. -/
def Dev.thaReset (d : Dev) : Dev :=
  let d := d.cropsLost.recLost
  { d with
    cls := { d.cls with crops := d.cls.crops.map (fun (c : Crop) => { c with closed := some 3 }) }
    tha := { d.tha with engines := List.replicate 16 .reset } }

/-! ### Lanes and ports -/

/-- A lane goes down with its block. -/
def Dev.laneGone (d : Dev) (alone : Bool) (l : Nat) : Dev := (if alone && (d.lane l).step ≠ 0 then d.laneStep l 0 else d).setLane l .reset

/-- A port's block is reset: its lanes go down, what it held is lost, and its bridle clock stops (R477). -/
def Dev.portGone (d : Dev) (alone : Bool) (p : Nat) : Dev :=
  let d := (d.laneGone alone (2 * p)).laneGone alone (2 * p + 1)
  let d := if alone then d.portDown p else d
  (d.setPort p .reset).emit (.pin (.bridleCk p) .released)

/-! ### One unit -/

/-- The merge point that lies in a unit (R42). -/
def mergeOf : RUnit → Option MergeId
  | .mos => some .mosaic | .seg => some .seam | .cls => some .record | .evt => some .evt | .err => some .err | .rdg => some .pair
  | _ => none

/-- Pipeline n holds the spare role now. -/
def Dev.spareIs (d : Dev) (n : Nat) : Bool := decide (d.rdF (a_PIPE_ROLE n) f_PIPE_ROLE_ROLE = 2)

/-- What a unit holds besides its registers returns to its reset state, and its pins to their reset level (R463, R477). `alone` says that the
reset is of L0 or L1, so that what the unit leaves behind in the others is seen. -/
def Dev.clearTyped (d : Dev) (alone : Bool) (u : RUnit) : Dev :=
  let d := match mergeOf u with
    | some m => { d with mrg := d.mrg.set m { MergePt.empty with fly := if alone then (d.mrg.get m).fly else [] } }
    | none => d
  match u with
  | .wpu => { d.wpuPinsSafe with wpu := { WpuSt.reset with enc := d.wpu.enc.map (fun e => EncSt.fromBalls { EncSt.reset with ball := e.ball }) } }
  | .evt => { d.evioPinsSafe with evt := { EvtSt.reset with evio := d.evt.evio.map (fun x => { x with active := false, until_ := none }) } }
  | .time =>
    let d := match d.clk.step with
      | some (id, _) => d.finish id 3 noLine []
      | none => d
    let c := d.clk
    { d with clk := { Clock.reset with cyc := c.cyc, el := c.el, acc := c.acc, epoch := c.epoch, savedTime := c.savedTime, savedEpoch := c.savedEpoch } }
      |>.emit (.pin .ppsOut .released)
  | .dsp => ({ d with flt := List.replicate 8 (.start 20) } : Dev).emit (.pin (.dsmCk 0) .released) |>.emit (.pin (.dsmCk 1) .released)
  | .err => { d with err := { d.err with queue := [], evicted := false } }
  | .cfg => { d with err := { d.err with winOpen := none, winLong := false } }
  | .thm => { d with thm := { ThmSt.reset with tripped := d.thm.tripped } }
  | .pipe n =>
    let mine (c : Comp) : Bool := !c.shadow && (c.target = n.val || d.spareIs n)
    let d := { d with pipes := lset d.pipes n .reset, spare := { d.spare with comps := d.spare.comps.filter (fun c => !mine c) } }
    ((d.tabClear 1 n).tabClear 2 n).tabClear 3 n
  | .mos => { d with mos := .reset }
  | .seg => (((({ d with seg := .reset } : Dev).tabClear 0x11 1).tabClear 0x11 2).tabClear 0x11 3)
  | .cls => if alone then d.clsReset else (((({ d with cls := .reset } : Dev).tabClear 0x20 0).tabClear 0x21 0).tabClear 0x22 0)
  | .tha => if alone then d.thaReset else { d with tha := { d.tha with engines := List.replicate 16 .reset } }
  | .lq q => (quadLanes q).foldl (fun d l => d.laneGone alone l) d
  | .tpt p => d.portGone alone p
  | .rdg => ({ (if alone then d.pairClosed else d) with pair := .reset } : Dev)
  | .hbm k =>
    let x := (lget d.mem.stack k .reset).endRetention (lget d.mem.retired k 0) d.el
    let pcs := x.pcs.map (fun (p : PcSt) => if p.mode = .off || p.mode = .zeroing then p else { p with mode := .selfRefresh, since := d.el })
    { d with mem := { d.mem with stack := lset d.mem.stack k { x with pcs := pcs, banks := [], retained := false, stepP := none, scrub := 0 } } }
  | .rng => { d with host := { d.host with rings := [], runs := [], queue := [], unmasked := [], msixPend := [], msixTab := [], busMaster := false, ctl := pcieReset } }
  | .pcx => { d with host := { d.host with linkUp := false, d0 := true } }
  | .eth => { d with views := [], host := { d.host with destBusy := [], portBusy := [], ethDropped := 0 } }
  | _ => d

end Sys2Proof.Machine
end

