-- ==== Sys2Proof/Machine/ResetOps.lean ====
section
/-! DEFINITION. Resetting blocks, islands and the device (R463 to R468, R547), the configuration CRC's reference (R489, R492), and
`settle`, what falls due within the step of every command: an error mapped to RESET, a profile found over. -/

namespace Sys2Proof.Machine

/-! ### The configuration CRC (R489, R492) -/

/-- Register addresses of a family within its unit, rising. -/
def dimAddrs : List Dim → Nat → List Nat
  | [], a => [a]
  | x :: xs, a => ((List.range x.count).filter (fun i => x.first ≤ i)).flatMap (fun i => dimAddrs xs (a + i * x.stride))

/-- Every CRC-covered register of a unit with its width, in rising address. -/
def coveredOf (u : RUnit) : List (Nat × Reg) :=
  let l := (u.regs.filter (fun r => r.crc)).flatMap (fun r => (dimAddrs r.dims (u.base + r.off)).map (fun a => (a, r)))
  l.mergeSort (fun x y => x.1 ≤ y.1)

/-- Units in rising BAR0 address. -/
def unitsInOrder : List RUnit := [.dev, .rst, .aon] ++ allUnits

/-- The byte string of R489: every covered register, little-endian, reserved fields zero, shadowed fields at their written value. -/
def Dev.configBytes (d : Dev) : List Byte :=
  unitsInOrder.flatMap (fun u => (coveredOf u).flatMap (fun p => leBytes p.2.bytes (readReg p.2 (d.rd p.1)).toNat))

/-- The configuration CRC of R489. -/
def Dev.configCrc (d : Dev) : Nat := crc32c d.configBytes

/-- A change the device makes itself to covered registers: CRC_REF changes with it (R492). The CRC is linear over strings of one
length, so the reference changes by the difference of the two check words. -/
def Dev.ownChange (d : Dev) (f : Dev → Dev) : Dev :=
  let d' := f d
  if d.regs = d'.regs ∧ d.nv = d'.nv then d'
  else
    let diff := d.configCrc ^^^ d'.configCrc
    d'.wrF a_CFG_CRC_REF f_CFG_CRC_REF_V (d'.rdF a_CFG_CRC_REF f_CFG_CRC_REF_V ^^^ diff)

/-! ### One unit -/

/-- Values pending for next reset come into force as the unit's NV values, and the pending copies are emptied (R547). -/
def Dev.takePending (d : Dev) (u : RUnit) : Dev :=
  let mine := d.nextRst.filter (fun p => u.has p.1)
  let nv := mine.foldl (fun (m : RegStore) p =>
    match regAt p.1 with
    | none => m
    | some (_, r, _) => m.put p.1 (blend (r.effMask .reset) p.2 ((m.find p.1).getD (staticReg p.1)))) d.nv
  { d with nv := nv, nextRst := d.nextRst.drop u.has }

/-- Registers of a unit that an L0 or L1 reset keeps: CFG.CRC_REF (R491), and CFG.OPT_STAT, which tells how the last option loading ended. -/
def keptAcross (a : Nat) : Bool := a = a_CFG_CRC_REF || a = a_CFG_OPT_STAT

/-- The Keel loses its commands, their responses and the kept outcomes with the KEEL island (R346). -/
def Keel.lost (k : Keel) : Keel := { k with waiting := [], pending := [], kept := [], fwd := [], paused := false, pauseAt := none }

/-- The unit's registers return to their reset values, NV fields to the values last applied (R468); its SEQ restarts at 0 (R37). -/
def Dev.clearRegs (d : Dev) (alone : Bool) (u : RUnit) : Dev :=
  let gone (a : Nat) : Bool := u.has a && !(alone && keptAcross a)
  let o := originOf u
  { d with regs := d.regs.drop gone, force := d.force.drop gone, snap := d.snap.drop gone,
           seqs := if o = 43 ∧ u ≠ .err then d.seqs else lset d.seqs o 0 }

/-- Reset a unit: registers, buffers, tables, pins; it is then held until its release (R463, R467). -/
def Dev.resetUnit (d : Dev) (alone : Bool) (u : RUnit) : Dev :=
  let d := (d.clearTyped alone u).clearRegs alone u
  { d with rst := { d.rst with
      held := d.rst.held.filter (fun p => p.1 ≠ u) ++ [(u, some d.el)]
      idle := d.rst.idle.filter (fun p => p.unit ≠ u) } }

/-- ORIGIN of the block whose junction carries an item into merge point m: the item's own, or RDG's for what comes from the partner (R42). -/
def Dev.sourceOf (d : Dev) (m : MergeId) (x : Item) : Nat := if m = .pair || x.stamp.pair ≠ d.pairBit then 46 else x.stamp.origin.toNat

/-- A block owns the items of an ORIGIN: those of code 43 are ERR's, not those of every block without a code of its own (R36). -/
def ownsOrigin (u : RUnit) (o : Nat) : Bool := originOf u = o && (o ≠ 43 || u == .err)

/-- The items on their way into merge point m, each with its block's ORIGIN and whether a junction holds it: a junction holds the eight oldest items
of its block, which has stalled and keeps the others (R29; log entry 128). -/
def Dev.junctions (d : Dev) (m : MergeId) : List (Item × Nat × Bool) :=
  let fly := (d.mrg.get m).fly.map (fun x => (x, d.sourceOf m x))
  fly.mapIdx (fun k p => (p.1, p.2, decide (((fly.take k).filter (fun q => q.2 = p.2)).length < 8)))

/-- Items that the junctions into and out of a unit hold (R31). -/
def Dev.junctionItems (d : Dev) (u : RUnit) : Nat :=
  ([MergeId.mosaic, .seam, .record, .evt, .err, .pair].map (fun m =>
    ((d.junctions m).filter (fun p => p.2.2 && (mergeOf u == some m || ownsOrigin u p.2.1))).length)).foldl (· + ·) 0

/-- Discard what the junctions into and out of the unit hold (R31): counted, and reported with the block and the count (INFO: log entry 103).
What a stalled source still keeps for the unit stays with the source; what the unit itself keeps is lost with it. -/
def Dev.discardJunctions (d : Dev) (u : RUnit) : Dev :=
  let n := d.junctionItems u
  if n = 0 then d
  else
    let cut (m : MergeId) : MergePt Item :=
      let stays (p : Item × Nat × Bool) : Bool := !ownsOrigin u p.2.1 && !(p.2.2 && mergeOf u == some m)
      { d.mrg.get m with fly := ((d.junctions m).filter stays).map (·.1) }
    let d := { d with mrg := ⟨cut .mosaic, cut .seam, cut .record, cut .evt, cut .err, cut .pair⟩ }
    let d := d.inc a_RST_IDLE_STAT f_RST_IDLE_STAT_DISCARD_CNT n
    d.reportErr 0x12 43 (u.base + n * 2 ^ 36)

/-- An offline pipeline whose block is reset returns to ROLE 1 (R512). -/
def Dev.roleBack (d : Dev) (u : RUnit) : Dev :=
  match u with
  | .pipe n => if fget (d.dflt (a_PIPE_ROLE n)) f_PIPE_ROLE_ROLE = 5 then { d with nv := d.nv.put (a_PIPE_ROLE n) (fset (d.dflt (a_PIPE_ROLE n)) f_PIPE_ROLE_ROLE 1) } else d
  | _ => d

/-- The contents of every pseudo-channel are gone. -/
def Dev.allLost (d : Dev) : Dev := { d with hbmLost := d.hbmLost ++ (List.range 64).map (fun k => (k / 32, k % 32)) }

/-- A unit is reset alone: values pending for next reset come into force (R547), a change of ORDER among them, over which the stacks keep nothing
(R392), and CRC_REF changes with what the reset changes (R492). -/
def Dev.resetNow (d : Dev) (u : RUnit) : Dev :=
  d.ownChange (fun d =>
    let o := d.mapOrder
    let alert := d.smbAlert
    let d := ((d.takePending u).roleBack u).resetUnit true u
    let d := d.alertFrom alert
    if d.mapOrder = o then d else d.allLost)

/-- Reset a unit alone at L0 or L1: now where it is idle, otherwise when it has become idle or IDLE_US has passed (R466). -/
def Dev.resetAlone (d : Dev) (u : RUnit) : Dev :=
  if d.isHeld u then d
  else if d.junctionItems u = 0 then d.resetNow u
  else
    let us := max 1 (d.rdF a_RST_CFG f_RST_CFG_IDLE_US)
    { d with rst := { d.rst with idle := d.rst.idle.filter (fun p => p.unit ≠ u) ++ [⟨u, d.el + us * 1000⟩] } }

/-- Resets that waited for a unit to go idle and no longer need to (R466). -/
def Dev.idleResets (d : Dev) : Dev :=
  d.rst.idle.foldl (fun d q => if d.junctionItems q.unit = 0 then d.resetNow q.unit else d) d

/-! ### Sources and levels (R463 to R465) -/

/-- Number of a reset source (R464). -/
def srcNum : ResetSrc → Nat
  | .por => 0 | .corePg => 1 | .resetN => 2 | .perstN => 3 | .pcieFlr => 4 | .swBlock .. => 5 | .swDevice => 6 | .keelWdt => 7
  | .keelLockstep => 8 | .fatalErr => 9 | .thermalTrip => 10 | .jtag => 11 | .smbus => 12 | .refclkLoss => 13 | .keelReq .. => 14
  | .ioSupply => 15

/-- Units of one island. -/
def unitsOfIsland (i : Nat) : List RUnit := allUnits.filter (fun u => i ∈ u.islands)

/-- Units of a block: LQ and TPT are one block each, of thirteen and sixteen windows (R45). -/
def blockUnits : RUnit → List RUnit
  | .lq _ => (List.finRange 13).map .lq
  | .tpt _ => (List.finRange 16).map .tpt
  | u => [u]

/-- What a source resets at L0 or L1 (R464). -/
def soloScope (s : ResetSrc) (level : Nat) : List RUnit :=
  match s with
  | .perstN => [.rng, .lq 10, .lq 11, .pcx]
  | .pcieFlr => [.rng]
  | .swBlock u island | .keelReq u island =>
    if island || level = 1 then ((blockUnits u).flatMap (fun v => v.islands.flatMap unitsOfIsland)).dedup else blockUnits u
  | _ => []

/-- What a reset of L2 or above resets (R463). -/
def wideScope (level : Nat) : List RUnit :=
  if level = 2 then allUnits.filter (fun u => u ≠ .rng ∧ u ≠ .lq 10 ∧ u ≠ .lq 11 ∧ u ≠ .pcx) else allUnits

/-- A source whose assertion lasts until the power-good instant (R461). -/
def holdsPin : ResetSrc → Bool
  | .por | .corePg | .resetN | .ioSupply => true
  | _ => false

/-- The level at which a source acts: its LEVEL in the fuse table in force (R465). -/
def Dev.levelOf (d : Dev) (s : ResetSrc) : Nat := fget (d.dflt (a_RST_FUSE (srcNum s))) f_RST_FUSE_LEVEL

/-- Record a source in RST_CAUSE (R465). -/
def Dev.recordSource (d : Dev) (s : ResetSrc) : Dev :=
  d.flag a_DEV_RST_CAUSE f_DEV_RST_CAUSE_SOURCES (2 ^ srcNum s)

/-- Restarts of option loading within the last second (R474). -/
def Dev.restarts (d : Dev) : List Nat := d.rst.optRuns.filter (fun t => d.el < t + 1000000000)

/-- What a reset of L2 leaves for the rings, whose contexts it keeps: the crops queued or being cut, which end ABORTED (R268). -/
def Dev.abortedCrops (d : Dev) : List RingItem :=
  let ids := d.cls.crops.map (·.id)
  let e := d.cropsAbort
  let ofItem (x : Item) : Option RingItem := match x.payload with | .ring r => some r | _ => none
  let m := e.mrg.record
  (e.host.queue ++ (m.held.map (·.1)).filterMap ofItem ++ m.fly.filterMap ofItem).filter (fun r => r.content = 3 && ids.contains r.objId.toNat)

/-- Reset of L2 or L3 (R463): every unit of the scope, the mode and the Keel; start-up begins again (R548), over what earlier resets whose
start-up was not complete have reset. Items on their way and staged are lost, but for the crops' ends; the FENCE release pulse is driven (R451). -/
def Dev.resetWide (d : Dev) (level : Nat) (s : ResetSrc) : Dev :=
  let alert := d.smbAlert
  let d := d.inc a_DEV_RST_CAUSE f_DEV_RST_CAUSE_BOOTS
  let d := (d.wrF a_DEV_RST_CAUSE f_DEV_RST_CAUSE_LAST_SRC (srcNum s)).wrF a_DEV_RST_CAUSE f_DEV_RST_CAUSE_LAST_LEVEL level
  let done := d.rdB a_CFG_OPT_STAT f_CFG_OPT_STAT_DONE
  let runs := d.restarts ++ (if d.rst.optRun then [d.el] else [])
  let crops := if level = 2 then d.abortedCrops else []
  let d := (wideScope level).foldl (fun d u => d.resetUnit false u) d
  let d := { d with
    keel := d.keel.lost
    cal := { d.cal with run := none, auto := false }
    spare := .reset
    mem := { MemSt.reset with retired := d.mem.retired }
    hbmLost := d.allLost.hbmLost
    thm := { d.thm with tripped := if 3 ≤ level then s == ResetSrc.thermalTrip else d.thm.tripped }
    mode := { ModeSt.reset with ripcord := d.mode.ripcord, bootCause := if d.mode.starting then d.mode.bootCause else none }
    mrg := ⟨.empty, .empty, .empty, .empty, .empty, .empty⟩
    rst := { d.rst with
      level := max d.rst.level level
      optRun := !holdsPin s && !d.rst.pinLow
      optRuns := runs
      forced := if done then false else d.rst.forced || (d.rst.optRun && 8 ≤ runs.length)
      fwDone := false
      hbmDone := [false, false]
      pinLow := d.rst.pinLow || holdsPin s
      clkGood := if 3 ≤ level then 1 else d.rst.clkGood
      trip := d.rst.trip || s == ResetSrc.thermalTrip }
    host := { d.host with
      queue := crops
      runs := d.host.runs.map (fun (p : Nat × RingRun) => (p.1, { p.2 with stage := [] }))
      rings := d.host.rings.map (fun (p : Nat × RingCtx) => (p.1, { p.2 with staged := 0 }))
      linkUp := if 3 ≤ level then false else d.host.linkUp } }
  (d.alertFrom alert).emit (.fencePulse 40000)

/-- A reset of L2 or above is asserted still: start-up has not begun. -/
def Dev.resetWaits (d : Dev) : Bool := d.rst.pinLow || d.rst.por || d.rst.trip

/-- A source of a level no higher than the reset in progress is absorbed into it, and holds it for as long as it lasts (R465). -/
def Dev.absorb (d : Dev) (s : ResetSrc) : Dev :=
  { d with
    rst := { d.rst with pinLow := d.rst.pinLow || holdsPin s, trip := d.rst.trip || s == ResetSrc.thermalTrip }
    thm := { d.thm with tripped := d.thm.tripped || s == ResetSrc.thermalTrip } }

/-- Reset of L4 (R463, R530): everything, AON retained memory and the backup registers with it. -/
def Dev.resetAll (d : Dev) : Dev :=
  { Dev.reset with
    clk := { Clock.reset with cyc := d.clk.cyc }
    rst := { ResetSt.reset with por := true, otpProg := d.rst.otpProg, otpLevels := d.rst.otpLevels }
    out := d.out ++ [.fencePulse 40000] }

/-- The KEEL island is reset: commands in progress, their responses and the kept outcomes are lost, with what they had under way (R346). -/
def Dev.keelGone (d : Dev) : Dev :=
  let d := ({ d with mode := { d.mode with service := none } } : Dev).dropService
  { d with keel := d.keel.lost, cal := { d.cal with run := none }, pair := { d.pair with hand := none } }

/-- Assert a reset source (R464, R465): at L0 and L1 its scope is reset alone; it is absorbed where a reset as high or higher is in progress. -/
def Dev.assertReset (d : Dev) (s : ResetSrc) : Dev :=
  let level := d.levelOf s
  let level := match s with
    | .swBlock _ true | .keelReq _ true => max level 1
    | _ => level
  if 4 ≤ level then d.resetAll
  else
    let d := d.recordSource s
    if 2 ≤ level then (if d.resetWaits && level ≤ d.rst.level then d.absorb s else d.resetWide level s)
    else if d.resetWaits then d
    else
      let us := soloScope s level
      let d := if unitsOfIsland 1 ⊆ us then d.keelGone else d
      us.foldl (fun d u => d.resetAlone u) d

/-- What falls due in the step of any command: a profile that failed admission on entry to SAFE_HOLD or at a load is reported (R67),
and an error mapped to RESET asserts FATAL_ERR (R494). -/
def Dev.settle (d : Dev) : Dev :=
  let d := if d.err.profileDue then ({ d with err := { d.err with profileDue := false } } : Dev).reportErr 0x15 43 d.mode.cur.code else d
  let d := if d.err.resetDue then
      ({ d with err := { d.err with resetDue := false } } : Dev).assertReset .fatalErr
    else d
  d.idleResets

/-- Store ranges of bytes in the stacks, oldest first; nothing is stored outside them (R391). -/
def storeAll (ws : List (Nat × List Byte)) (m : Mem) : Mem :=
  ws.foldl (fun m p => if p.1 + p.2.length ≤ hbmBytes then m.writeBytes hbmDefault p.1 p.2 else m) m

/-- The machine with its block replaced; what the block stores in the stacks is stored, what they lost is gone. -/
def State.put (s : State) (d : Dev) : State :=
  { s with
    dev := { d.touchAll with hbmw := [], hbmr := [], hbmLost := [] }
    hbm := storeAll d.hbmw (loseContents d.mapOrder d.hbmLost s.hbm) }

/-- A meaning: the time that has passed, the effect on the block, and what falls due with it. -/
def State.after (s : State) (dt : Nat) (f : Dev → Dev) : State := s.put (f (s.dev.elapse dt)).settle

/-- Bytes of the stacks. -/
def State.hbmRead (s : State) (a n : Nat) : List Byte := s.hbm.readBytes hbmDefault a n

/-- A meaning that reads the stacks. -/
def State.afterH (s : State) (dt : Nat) (f : (Nat → Nat → List Byte) → Dev → Dev) : State := s.after dt (f s.hbmRead)

end Sys2Proof.Machine
end

