-- ==== Sys2Proof/Machine/Lanes.lean ====
section
/-! DEFINITION. Commands of the serial lanes (R423 to R436). -/

namespace Sys2Proof.Machine

/-- RECEIVER_DETECT (R424): in stage 1 the transmitter steps its common mode; where it finds the far termination the lane enters
training. A Tether port's bridle clock has run for 1 ms before (R153 step 2). -/
def execReceiverDetect (dt : Nat) (l : Fin 52) (found : Bool) (s : State) : Host.Outcome State Fault Refusal :=
  .next (s.after dt (fun d =>
    let x := d.lane l
    let clockOk := match laneUse l with
      | .tether => (match (d.port (l / 2)).clockAt with | some t => t + 1000000 ≤ d.refNs | none => false)
      | _ => true
    if x.step = 1 && x.pause.isNone && laneUse l ≠ .eth && clockOk && found then d.laneStep l 2 else d))

/-- One tap request of a training frame (R427): acted on when it changes from hold; the new tap and the status to report. -/
def tapRequest (req status tap other : Nat) (isPre fixed : Bool) : Nat × Nat :=
  if req = 0 ∨ req = 3 then (tap, 0)
  else if status ≠ 0 then (tap, status)
  else if fixed then (tap, 2)
  else if req = 2 ∧ tap = 0 then (tap, 2)
  else
    let t := if req = 1 then tap + 1 else tap - 1
    if (if isPre then tapsOk t other else tapsOk other t) then (t, 1) else (tap, 2)

/-- The local transmitter acts on CONTROL (R426, R427): a preset request is applied once and hides the tap requests of its frame. -/
def Dev.obeyControl (d : Dev) (l : Nat) (c : Nat) : Dev :=
  let a := lnStat l
  let x := d.lane l
  let fixed := d.inB (lnCfg l) f_LQ_LN_CFG_EQ_FIXED
  let pre := d.rdF a f_LQ_LN_STAT_PRE
  let post := d.rdF a f_LQ_LN_STAT_POST
  if c.testBit 7 then
    if fixed then d.setLane l { x with preStat := 2, postStat := 2 }
    else if x.preDone then d
    else
      let t := presetTaps (c / 16 % 8)
      (d.setLane l { x with preDone := true }).setTaps l t.1 t.2
  else
    let (p, ps) := tapRequest (c % 4) x.preStat pre post true fixed
    let (q, qs) := tapRequest (c / 4 % 4) x.postStat post p false fixed
    (d.setLane l { x with preDone := false, preStat := ps, postStat := qs }).setTaps l p q

/-- STATUS the local transmitter reports (R426). -/
def Dev.statusWord (d : Dev) (l : Nat) : Nat :=
  let x := d.lane l
  let a := lnStat l
  x.preStat + 4 * x.postStat + (if x.preDone then 16 else 0) + 32 * d.rdF a f_LQ_LN_STAT_PRE + 1024 * d.rdF a f_LQ_LN_STAT_POST +
  (if x.ready then 0x8000 else 0)

/-- A training frame on a lane in stage 2 (R425 to R428): a frame whose complements do not match is ignored; polarity follows the
marker; after both sides are ready eight more frames lead to stage 3. -/
def Dev.trainingFrame (d : Dev) (l : Nat) (f : TrainFrame) : Dev :=
  if (d.lane l).step ≠ 2 then d
  else if f.controlN ≠ ~~~ f.control ∨ f.statusN ≠ ~~~ f.status then d.setLane l { d.lane l with farRun := 0 }
  else
    let d := if f.inverted then d.wrB (lnStat l) f_LQ_LN_STAT_RX_POL_INV true else d
    let d := (d.wrB (lnStat l) f_LQ_LN_STAT_CDR_LOCK true).obeyControl l f.control.toNat
    let x := d.lane l
    let x := { x with ready := x.ready || f.adapted, farRun := if f.status.getLsbD 15 then x.farRun + 1 else 0 }
    let x := match x.extra with
      | none => if x.ready && 3 ≤ x.farRun then { x with extra := some 0 } else x
      | some k => { x with extra := some (k + 1) }
    let d := d.setLane l x
    let st := BitVec.ofNat 16 (d.statusWord l)
    let c := f.request.setWidth 16
    let d := d.emit (.lane l 2 (leBytes 2 c.toNat ++ leBytes 2 (~~~ c).toNat ++ leBytes 2 st.toNat ++ leBytes 2 (~~~ st).toNat))
    if x.extra = some 8 then d.laneStep l 3 else d

/-- TRAINING_FRAME (R425). -/
def execTrainingFrame (dt : Nat) (l : Fin 40) (f : TrainFrame) (s : State) : Host.Outcome State Fault Refusal :=
  .next (s.after dt (fun d => d.trainingFrame l f))

/-- ALIGN_LOCK (R133): the blocks found at the expected spacing; three ALIGN blocks lock the receiver. A lane in stage 3 goes on to capability
exchange, or, once training at the granted rate is done, to the delay measurement (R153 steps 5 and 8). -/
def execAlignLock (dt : Nat) (l : Seen 40 (List (List Byte))) (s : State) : Host.Outcome State Fault Refusal :=
  .next (s.after dt (fun d =>
    let x := d.lane l.at_
    if x.step ≠ 3 || l.what.length < 3 || !l.what.all isAlign then d
    else if laneUse l.at_ = .tether && x.final then d.startEcho l.at_ else d.laneStep l.at_ 4))

/-- ALIGN_LOSS (R133, R429): so many consecutive expected ALIGN blocks are missing; at four the receiver loses lock. -/
def execAlignLoss (dt : Nat) (l : Seen 40 Nat) (s : State) : Host.Outcome State Fault Refusal :=
  .next (s.after dt (fun d => if l.what < 4 then d else d.loseLock l.at_))

/-- LANE_LOCK_LOSS (R429): CDR lock, or the lock of stage 3, is lost in stage 3, 4 or 5. -/
def execLaneLockLoss (dt : Nat) (l : Fin 52) (s : State) : Host.Outcome State Fault Refusal :=
  .next (s.after dt (fun d => d.loseLock l))

/-- LANE_PLL_UNLOCK (R429). -/
def execLanePllUnlock (dt : Nat) (q : Fin 13) (s : State) : Host.Outcome State Fault Refusal :=
  .next (s.after dt (fun d => d.pllUnlock q))

/-- BRINGUP_STEP_TIMEOUT (R154): a bring-up step has not finished in its limit. -/
def execBringupStepTimeout (dt : Nat) (l : Fin 40) (s : State) : Host.Outcome State Fault Refusal :=
  .next (s.after dt (fun d =>
    match d.stepLimit l with
    | some n => if (d.lane l).since + n ≤ d.refNs then d.bringupReturn l else d
    | none => d))

/-- BRINGUP_PAUSE_END (R154): after the pause of 1 s the lane starts again at receiver detect. -/
def execBringupPauseEnd (dt : Nat) (l : Fin 40) (s : State) : Host.Outcome State Fault Refusal :=
  .next (s.after dt (fun d =>
    match (d.lane l).pause with
    | some t =>
      if t ≤ d.refNs then
        let d := d.setLane l { d.lane l with pause := none }
        d.restartLane l (if laneUse l = .ridge then (d.lane l).rate else 0) false
      else d
    | none => d))

/-- n bits of PRBS31 from its register, first bit least significant (R431): each new bit is the sum of those 31 and 28 before it. -/
def prbs31 : Nat → Nat → Nat × Nat
  | 0, s => (0, s)
  | k + 1, s =>
    let b := (s / 2 ^ 30 + s / 2 ^ 27) % 2
    let (v, s') := prbs31 k ((2 * s + b) % 2 ^ 31)
    (b + 2 * v, s')

/-- The 32 CAL blocks of a burst (R431): code, INDEX, BURST and 28 bytes of PRBS31 that go on from block to block. -/
def burstBytes (n : BitVec 16) : List Byte :=
  ((List.range 32).foldl (fun (acc : List Byte × Nat) i =>
    let (v, s) := prbs31 224 acc.2
    (acc.1 ++ [0x78, BitVec.ofNat 8 i] ++ leBytes 2 n.toNat ++ leBytes 28 v, s)) ([], 2 ^ 31 - 1)).1

/-- LANE_BURST_MISS (R432): no burst for 2 ms on a stage-5 lane; counted and reported once until a burst arrives. -/
def execLaneBurstMiss (dt : Nat) (l : Fin 40) (s : State) : Host.Outcome State Fault Refusal :=
  .next (s.after dt (fun d =>
    let x := d.lane l
    if x.step = 6 && !x.missed && decide (x.heardAt + 2000000 ≤ d.refNs) then
      let d := d.setLane l { x with missed := true }
      (d.inc (lnCnt l) f_LQ_LN_CNT_BURST_MISS_CNT).reportErr 0x26 (laneOrigin l) l
    else d))

/-- ADAPT_FREEZE (R430): idle symbols have run longer than 64 ns or fill more than 90 % of the last 4 µs; adaptation freezes. -/
def execAdaptFreeze (dt : Nat) (l : Fin 52) (s : State) : Host.Outcome State Fault Refusal :=
  .next (s.after dt (fun d => if d.laneActive l then d.wrB (lnStat l) f_LQ_LN_STAT_FROZEN true else d))

/-- ADAPT_RESUME (R430): 1 µs of contiguous data with an idle share of at most 90 %; FREEZE_HOLD keeps adaptation frozen. -/
def execAdaptResume (dt : Nat) (l : Fin 52) (s : State) : Host.Outcome State Fault Refusal :=
  .next (s.after dt (fun d =>
    if d.laneActive l && !d.rdB (lnCfg l) f_LQ_LN_CFG_FREEZE_HOLD then d.wrB (lnStat l) f_LQ_LN_STAT_FROZEN false else d))

/-- DWELL of an eye scan: 10 to 31, lower values acting as 10. -/
def Dev.dwell (d : Dev) (l : Nat) : Nat := max 10 (d.rdF (eyeCtrl l) f_LQ_EYE_CTRL_DWELL)

/-- Write of EYE_CTRL with GO = 1 (R435): starts a scan in stage 5, sets ERR 1 at once outside it; while a scan runs GO is discarded
and logged. -/
def Dev.eyeGo (d : Dev) (l : Nat) (src : AccSrc) : Dev :=
  let a := eyeCtrl l
  if d.rdB a f_LQ_EYE_CTRL_GO then d.lockViolation a src
  else if d.laneActive l then (d.wrF a f_LQ_EYE_CTRL_ERR 0).wrB a f_LQ_EYE_CTRL_GO true
  else d.wrF a f_LQ_EYE_CTRL_ERR 1

/-- EYE_SCAN_DONE (R435): the scan has compared 2^DWELL bits. -/
def execEyeScanDone (dt : Nat) (l : Fin 52) (errors : Nat) (s : State) : Host.Outcome State Fault Refusal :=
  .next (s.after dt (fun d =>
    let a := eyeCtrl l
    if d.rdB a f_LQ_EYE_CTRL_GO then
      let r := a_LQ_EYE_RES (l / 4) (l % 4)
      let d := (d.wrF r f_LQ_EYE_RES_BITS (2 ^ d.dwell l)).wrF r f_LQ_EYE_RES_ERRORS (min errors (2 ^ 32 - 1))
      (d.wrB a f_LQ_EYE_CTRL_GO false).flag a f_LQ_EYE_CTRL_DONE
    else d))

/-- SIGNAL_DETECT (R423): an Ethernet lane has seen energy for 1 ms and goes on to block lock; it has no training. -/
def execSignalDetect (dt : Nat) (k : Fin 4) (s : State) : Host.Outcome State Fault Refusal :=
  .next (s.after dt (fun d => if d.ethUsed k && (d.lane (48 + k)).step = 1 then d.laneStep (48 + k) 3 else d))

/-- BLOCK_LOCK (R423): block lock, FEC alignment and PCS link status: the lane comes up. -/
def execBlockLock (dt : Nat) (k : Fin 4) (s : State) : Host.Outcome State Fault Refusal :=
  .next (s.after dt (fun d => if (d.lane (48 + k)).step = 3 then d.laneStep (48 + k) 6 else d))

end Sys2Proof.Machine
end

