-- ==== Sys2Proof/Machine/PairOps.lean ====
section
/-! DEFINITION. The pair compare (R448, R459): keys, equality of two records, counts, and delivery to DIFF_RING. -/

namespace Sys2Proof.Machine

/-- The stamp that begins a record (R34). -/
def stampOf (b : List Byte) : Stamp :=
  let x := leAt b 10 1
  ⟨BitVec.ofNat 64 (leAt b 0 8), BitVec.ofNat 16 (leAt b 8 2), BitVec.ofNat 6 x, x.testBit 6, x.testBit 7⟩

/-- The key of a defect record from its bytes (R269, R448): TIME, FIRST_LINE, X0, POLARITY and CLASS. -/
def recKey (b : List Byte) : PairKey := ⟨BitVec.ofNat 64 (leAt b 0 8), leAt b 72 8, leAt b 80 4, (leAt b 33 1).testBit 0, leAt b 32 1⟩

/-- Every field of two records is equal but the PAIR bit; LATE_ORDER is this device's mark, not the record's (R40, R448). -/
def sameRecord (a b : List Byte) : Bool :=
  let plain (l : List Byte) : List Byte := l.mapIdx (fun k x => if k = 10 then x &&& 0x3F else x)
  plain a == plain b

/-- A record goes to DIFF_RING flagged UNVERIFIED, where DIFF_EN is set: out of the pair merge into the local record merge (R42). -/
def Dev.toDiffRing (d : Dev) (bytes : List Byte) : Dev :=
  if d.rdB a_RDG_CFG f_RDG_CFG_DIFF_EN then
    d.fly .record ⟨stampOf bytes, BitVec.ofNat 16 (leAt bytes 12 2),
      .ring (.whole (d.rdF a_RDG_CFG f_RDG_CFG_DIFF_RING) 1 (bytes.mapIdx (fun k x => if k = 24 then x ||| 1 else x)))⟩
  else d

/-- Two records of one key have been compared: counted, a difference reported once per course. -/
def Dev.compared (d : Dev) (same : Bool) : Dev :=
  if same then d.inc a_RDG_CNT0 f_RDG_CNT0_MATCH_CNT
  else
    let d := d.inc a_RDG_CNT0 f_RDG_CNT0_MISMATCH_CNT
    if d.pair.told then d else ({ d with pair := { d.pair with told := true } } : Dev).reportErr 0x2A 46 0

/-- A partner record leaves pair merge: compared with the authority's record of its key, or kept for up to 2 ms. -/
def Dev.pairCompare (d : Dev) (at_ : Nat) (bytes : List Byte) : Dev :=
  let k := recKey bytes
  match d.pair.own.find? (fun r => r.1 = k) with
  | some r => ({ d with pair := { d.pair with own := d.pair.own.erase r } } : Dev).compared (sameRecord r.2.1 bytes)
  | none => { d with pair := { d.pair with theirs_ := d.pair.theirs_ ++ [(k, bytes, at_)] } }

/-- The authority releases a defect record of its own: compared with a partner record that waits, or kept for up to 2 ms. -/
def Dev.ownCompare (d : Dev) (bytes : List Byte) : Dev :=
  let k := recKey bytes
  match d.pair.theirs_.find? (fun r => r.1 = k) with
  | some r => ({ d with pair := { d.pair with theirs_ := d.pair.theirs_.erase r } } : Dev).compared (sameRecord r.2.1 bytes)
  | none => { d with pair := { d.pair with own := d.pair.own ++ [(k, bytes, d.el)] } }

/-- A reconciliation record leaves pair merge: compared by FIRST_LINE, X0, POLARITY and CLASS with the keys kept in the split (R459). -/
def Dev.reconCompare (d : Dev) (bytes : List Byte) : Dev :=
  let k := recKey bytes
  if d.pair.keys.any (fun y => y.line = k.line && y.x0 = k.x0 && y.dark = k.dark && y.cls = k.cls) then
    d.inc a_RDG_CNT1 f_RDG_CNT1_RECON_MATCH
  else d.toDiffRing bytes

end Sys2Proof.Machine
end

