-- ==== Sys2Proof/Machine/TabOps.lean ====
section
/-! DEFINITION. The tables of R317 as byte stores: what they hold after reset (R170, R252) and reads of their entries. -/

namespace Sys2Proof.Machine

/-- Entry (p, j) of the factory kernel (R170): 16,384 wj rounded half to even, entry 1 the rest. -/
def factoryKernel (p j : Nat) : Int :=
  let t : Int := p
  let k0 := rdiv (-(t * t * t) + 128 * t * t - 4096 * t) 32
  let k2 := rdiv (-(3 * t * t * t) + 256 * t * t + 4096 * t) 32
  let k3 := rdiv (t * t * t - 64 * t * t) 32
  match j with
  | 0 => k0
  | 1 => 16384 - k0 - k2 - k3
  | 2 => k2
  | _ => k3

/-- Byte o of a table after reset: GAIN 16,384 and OFF 0; an empty defect list; the factory kernel; one leaf of class 0; every other
table zero. -/
def tableFactory (table o : Nat) : Byte :=
  match table with
  | 0x01 => if o % 4 = 3 then 0x40 else 0
  | 0x02 => 0xFF
  | 0x03 => BitVec.ofNat 8 (uwrap (factoryKernel (o / 8) (o / 2 % 4)) 16 / (if o % 2 = 0 then 1 else 256))
  | 0x20 => if o = 8 then 1 else 0
  | 0x22 => if o = 0 then 1 else if o = 2 ∨ o = 3 then 0xFF else 0
  | _ => 0

/-- What an unlisted address of the table store reads as. -/
def tabDefault (a : Nat) : Byte := tableFactory (a / 2 ^ 30) (a % 2 ^ 24)

/-- n bytes of a table from offset o, little-endian. -/
def Dev.tabLe (d : Dev) (table inst bank o n : Nat) : Nat := leNat (d.tab.readBytes tabDefault (tabAddr table inst bank o) n)

/-- Size of a table in bytes (R317); 0 where the numbers name no table. -/
def Dev.tabSize (d : Dev) (table inst bank : Nat) : Nat :=
  let wide := d.inB (a_PIPE_COEF_CTRL inst) f_PIPE_COEF_CTRL_WIDE
  match table with
  | 0x01 => if 17 ≤ inst ∨ 2 ≤ bank then 0 else if wide then (if bank = 0 then 393216 else 0) else 196608
  | 0x02 => if 17 ≤ inst ∨ 2 ≤ bank then 0 else if wide then (if bank = 0 then 8192 else 0) else 4096
  | 0x03 => if 17 ≤ inst ∨ 2 ≤ bank then 0 else if wide then (if bank = 0 then 512 else 0) else 512
  | 0x10 => 8388608
  | 0x11 => if 1 ≤ inst ∧ inst ≤ 3 then 1922 else 0
  | 0x20 => if bank < 2 then 131072 else 0
  | 0x21 => if bank < 2 then 8192 else 0
  | 0x22 => if bank < 2 then 16 else 0
  | _ => 0

/-- The unit that owns a table (R317). -/
def tabUnit (table inst : Nat) : RUnit :=
  match table with
  | 0x01 | 0x02 | 0x03 => if h : inst < 17 then .pipe ⟨inst, h⟩ else .pipe 0
  | 0x10 | 0x11 => .seg
  | _ => .cls

/-- Store bytes into a table. -/
def Dev.tabWrite (d : Dev) (table inst bank o : Nat) (bs : List Byte) : Dev :=
  { d with tab := d.tab.writeBytes tabDefault (tabAddr table inst bank o) bs }

end Sys2Proof.Machine
end

