-- ==== Sys2Proof/Machine/CalOps.lean ====
section
/-! DEFINITION. The calibration store (R518, R523, R524): items in force, the image of a copy, and the stores the device makes on its own. -/

namespace Sys2Proof.Machine

/-- Items that the store keeps (R518). -/
def calStored (item : Nat) : Bool := item ≤ 0x133 || 0x600 ≤ item

/-- An ITEM code of R518. -/
def calKnown (item : Nat) : Bool :=
  item = 1 || (0x100 ≤ item && item < 0x134) || (0x200 ≤ item && item < 0x210) || (0x300 ≤ item && item < 0x310) ||
  (0x400 ≤ item && item < 0x410) || (0x500 ≤ item && item < 0x50F) || (0x600 ≤ item && item < 0x603)

/-- NCOEF of an item that holds its factory value. -/
def calFactoryCoefs (item : Nat) : Nat :=
  if item = 1 then 97 else if 0x100 ≤ item ∧ item < 0x134 then 13 else 0

/-- The item in force, none where it holds its factory value. -/
def Dev.calFind (d : Dev) (item : Nat) : Option CalItem := d.cal.items.find? (fun x => x.item = item)

/-- A register as its low and high 32 bits. -/
def halves (v : W64) : List W32 := [v.setWidth 32, (v >>> 32).setWidth 32]

/-- The coefficients that the pipelines' roles, the retired channels and the repairs give the items the device keeps itself. -/
def Dev.calOwn (d : Dev) (item : Nat) : List W32 :=
  if item = 0x600 then (List.range 17).map (fun n => (d.rd (a_PIPE_ROLE n)).setWidth 32)
  else if item = 0x601 then [BitVec.ofNat 32 (lget d.mem.retired 0 0), BitVec.ofNat 32 (lget d.mem.retired 1 0)]
  else d.cal.repairs

/-- An item takes new coefficients: its count rises by one, its time is now (R519); a stored item makes the store DIRTY. -/
def Dev.calSet (d : Dev) (item : Nat) (coefs : List W32) : Dev :=
  let n := match d.calFind item with | some x => x.count | none => 0
  let x : CalItem := ⟨item, coefs, n + 1, d.now⟩
  let lo := d.cal.items.filter (fun y => y.item < item)
  let hi := d.cal.items.filter (fun y => item < y.item)
  { d with cal := { d.cal with items := lo ++ [x] ++ hi, dirty := d.cal.dirty || calStored item } }

/-- An item the device keeps itself has changed: it takes the values of now and is stored without a command (R524). -/
def Dev.calNote (d : Dev) (item : Nat) : Dev :=
  let d := d.calSet item (d.calOwn item)
  { d with cal := { d.cal with auto := true } }

/-- The bytes of an item in a copy (R523). -/
def CalItem.bytes (x : CalItem) : List Byte :=
  leBytes 2 x.item ++ leBytes 2 x.coefs.length ++ leBytes 4 x.count ++ leBytes 8 x.time.toNat ++ x.coefs.flatMap (fun c => leBytes 4 c.toNat)

/-- A copy of the store with a GENERATION: every stored item in force, and the check word (R523). -/
def Dev.calImage (d : Dev) (gen : W32) : List Byte :=
  let xs := d.cal.items.filter (fun x => calStored x.item)
  let b := [0x5A, 0x53, 0x43, 0x4C] ++ leBytes 2 1 ++ zeros 2 ++ leBytes 4 gen.toNat ++ leBytes 4 xs.length ++ zeros 16 ++
    xs.flatMap CalItem.bytes
  b ++ leBytes 4 (crc32c b)

/-- Flash address of a copy of the calibration store (R469). -/
def calBase (copy : Nat) : Nat := 0x1900000 + copy * 0x100000

/-- Flash addresses of the header's entries: BOOT_BANK, and the generation of NV copies 0 and 1 and calibration copies 0 and 1. -/
def headerGen (k : Nat) : Nat := 4 + 4 * k

/-- The store is written to the copy not in force with the next GENERATION, and verified; then its generation is written (R470, R524). Which copy
is in force stays as the last option loading chose. The check word. -/
def Dev.calWrite (d : Dev) : Dev × Nat :=
  let gen := d.cal.gen + 1
  let img := d.calImage gen
  let d := (d.emit (.flashWrite (calBase d.cal.target) img)).emit (.flashWrite (headerGen (2 + d.cal.target)) (leBytes 4 gen.toNat))
  ({ d with cal := { d.cal with dirty := false } }, leNat (img.drop (img.length - 4)))

/-- The spare takes a takeover's result (R511 to R513): the target becomes the spare, or goes offline where a line differed; the assignment is
stored; the command ends. -/
def Dev.takeEnd (d : Dev) (diffs : Nat) : Dev :=
  match d.spare.take with
  | none => d
  | some t =>
    let d := { d with spare := { d.spare with take := none } }
    let d := if diffs = 0 then d else d.wrForce (a_PIPE_ROLE t.target) f_PIPE_ROLE_ROLE 5
    let nv := (d.nv.put (a_PIPE_ROLE t.target) (d.rd (a_PIPE_ROLE t.target))).put (a_PIPE_ROLE t.spare) (d.rd (a_PIPE_ROLE t.spare))
    let d := ({ d with nv := nv } : Dev).calNote 0x600
    d.endService t.cmd 0 (BitVec.ofNat 64 (t.serves.getD 0)) [if diffs = 0 then BitVec.ofNat 8 t.target else 0xFF]

end Sys2Proof.Machine
end

