-- ==== Sys2Proof/Machine/DspOps.lean ====
section
/-! DEFINITION. The sigma-delta filters (R108 to R125): settings, the work of one modulator bit, delivery of a sample, and the commit.
What the web position unit makes of a sine and cosine pair is in Wpu. -/

namespace Sys2Proof.Machine

/-! ### Settings -/

/-- The settings of filter f in registers read by r; presets as R114 gives them. -/
def fltCfg (r : Nat → W64) (f : Nat) : FltCfg :=
  let c := r (a_DSP_FLT_CFG f)
  let u := r (a_DSP_FLT_CUSTOM f)
  let k := r a_DSP_CLK_CFG
  let p := fget c f_DSP_FLT_CFG_PRESET
  let second := fbit c f_DSP_FLT_CFG_CKSEL
  let (n, m, l, dec, g) : Nat × Nat × Nat × Nat × Nat :=
    match p with
    | 0 => (3, 16, 8, 1, 24)
    | 1 => (4, 32, 16, 1, 120)
    | 2 => (5, 64, 32, 2, 248)
    | 3 => (5, 128, 64, 2, 504)
    | _ =>
      let l := fget u f_DSP_FLT_CUSTOM_L
      (fget u f_DSP_FLT_CUSTOM_N, fget u f_DSP_FLT_CUSTOM_M, l, fget u f_DSP_FLT_CUSTOM_FIR_DEC + 1,
       if fbit u f_DSP_FLT_CUSTOM_MINPH then fget u f_DSP_FLT_CUSTOM_FGD16 else 8 * (l - 1))
  { n := n, m := m, l := l, dec := dec, fgd16 := g,
    ckdiv := fget k (if second then f_DSP_CLK_CFG_CKDIV1 else f_DSP_CLK_CFG_CKDIV0),
    clkOn := fbit k (if second then f_DSP_CLK_CFG_EN1 else f_DSP_CLK_CFG_EN0),
    second := second, dly := fget c f_DSP_FLT_CFG_CAP_DLY, raw := fbit c f_DSP_FLT_CFG_PATH, use := fget c f_DSP_FLT_CFG_USE, slot := fget c f_DSP_FLT_CFG_SLOT, preset := p,
    cwin := min 4 (fget c f_DSP_FLT_CFG_CWIN), stepEn := fbit c f_DSP_FLT_CFG_STEP_EN,
    thr := fget (r (a_DSP_FLT_STEP f)) f_DSP_FLT_STEP_STEP_THR }

/-- The settings of filter f in force. -/
def Dev.fltIn (d : Dev) (f : Nat) : FltCfg := fltCfg d.inForce f

/-- Tap i of filter f in force: the preset's, or the register's (R114). -/
def Dev.tap (d : Dev) (f i : Nat) : Int :=
  let p := (d.fltIn f).preset
  if p < 4 then (Config.presetTap p i).toInt else d.inS (a_DSP_TAP f i) f_DSP_TAP_TAP

/-- The group delay GD in ns (R112, R113). -/
def FltCfg.gd (c : FltCfg) : Nat :=
  let fir := if c.raw then 0 else c.fgd16 * c.m
  (rhe (((8 * c.n * (c.m - 1) + fir) * c.ckdiv : Nat) : Int) 4).toNat + 12

/-- An instant some nanoseconds before now, in the time and the epoch that were in force then. -/
def Dev.instantBefore (d : Dev) (ns : Nat) : W64 × BitVec 16 :=
  match d.clk.lastStep with
  | some (at_, amount) =>
    if d.el < at_ + ns then (d.now - BitVec.ofNat 64 ns - BitVec.ofInt 64 amount, d.clk.epoch - 1)
    else (d.now - BitVec.ofNat 64 ns, d.clk.epoch)
  | none => (d.now - BitVec.ofNat 64 ns, d.clk.epoch)

/-! ### One modulator bit -/

/-- sat24 of R111: the clamped value, and whether it clamped. -/
def sat24 (x : Int) : Int × Bool :=
  let y := clampI x (-(2 ^ 23)) (2 ^ 23 - 1)
  (y, y ≠ x)

/-- The integrators of the CIC after one bit: each adds the stage before it, modulo 2^40 (R110). -/
def cicInteg : Nat → Nat → List Nat → List Nat
  | _, _, [] => []
  | 0, _, l => l
  | k + 1, x, i :: l => let y := (i + x) % 2 ^ 40; y :: cicInteg k y l

/-- The combs at a CIC output: the output and the new delays (R110). -/
def cicComb : Nat → Nat → List Nat → Nat × List Nat
  | _, x, [] => (x, [])
  | 0, x, l => (x, l)
  | k + 1, x, z :: l =>
    let (c, l') := cicComb k ((x + 2 ^ 40 - z) % 2 ^ 40) l
    (c, x :: l')

/-- x[n] of R111 from a CIC output c. -/
def FltCfg.centre (g : FltCfg) (c : Nat) : Int × Bool :=
  let full : Int := (g.m ^ g.n : Nat)
  let norm := rdiv (2 ^ 55) (max 1 full)
  sat24 (rhe ((2 * (c : Int) - full) * norm) 32)

/-- acc of R111 over the last L samples, newest first. -/
def firAcc (tap : Nat → Int) (xs : List Int) (l : Nat) : Int :=
  ((xs.take l).mapIdx (fun i x => tap i * x)).foldl (· + ·) 0

/-- What one bit brought about: a sample to deliver, a coarse value, the end of settling, a stuck input. -/
structure BitEvents where
  sample : Option (Int × Bool × Bool)
  coarse : Bool
  settled : Bool
  stuck : Bool
  step : Bool
  satY : Bool
  deriving DecidableEq, Repr

/-- No event. -/
def BitEvents.none_ : BitEvents := ⟨none, false, false, false, false, false⟩

/-- Begin settling with the xc that began it (R116, R118). -/
def FltSt.resettle (s : FltSt) (g : FltCfg) : FltSt := { s with settle := g.n + g.l, ref := s.xc.map (·.1) }

/-- The level of the input (R118): how long it has held, 1,024 clocks of one level, and the end of a stuck input. -/
def FltSt.bitLevel (s : FltSt) (g : FltCfg) (b : Bool) : FltSt × Bool :=
  if s.held ≠ 0 ∧ s.level = b then
    let h := min 1024 (s.held + 1)
    if h = 1024 ∧ !s.stuck then ({ s with held := h, stuck := true }, true) else ({ s with held := h }, false)
  else
    let s' := { s with level := b, held := 1 }
    (if s.stuck then { s'.resettle g with stuck := false } else s', false)

/-- The coarse path (R115): the count of a group of 8, and xc once W counts exist. Answers whether a coarse value came. The first xc
after a start is the one that began its settling (log entry 125). -/
def FltSt.bitCoarse (s : FltSt) (g : FltCfg) (b : Bool) : FltSt × Bool :=
  let ones := s.ones + (if b then 1 else 0)
  if s.grp + 1 < 8 then ({ s with grp := s.grp + 1, ones := ones }, false)
  else
    let w := 2 ^ g.cwin
    let counts := (ones :: s.counts).take w
    let s := { s with grp := 0, ones := 0, counts := counts }
    if counts.length < w then (s, false)
    else
      let k : Int := (counts.foldl (· + ·) 0 : Nat)
      let (x, c) := sat24 ((2 * k - 8 * w) * 2 ^ (20 - g.cwin))
      ({ s with xc := some (x, c), ref := if s.settle ≠ 0 ∧ s.ref.isNone then some x else s.ref }, true)

/-- The comparison of a new xc with its reference, and the step it may declare (R117, R125). `stepOn` is false for a filter of a sine
and cosine pair (R120). A raw filter has no y, and so no reference while it does not settle. The last y is the last computed (log entry 125). -/
def FltSt.bitStep (s : FltSt) (g : FltCfg) (stepOn : Bool) : FltSt × Bool :=
  match s.xc, (if s.settle ≠ 0 then s.ref else s.y) with
  | some (x, _), some r =>
    if stepOn && g.stepEn && !s.stuck && decide ((x - r).natAbs > g.thr) then ({ s.resettle g with ref := some x }, true)
    else (s, false)
  | _, _ => (s, false)

/-- The main and raw paths (R110 to R113, R116): integrators at every bit, a CIC output every M bits, an output instant every FIR_DEC
of them. A clamp of a y that is computed while the filter settles counts too (log entry 124). -/
def FltSt.bitMain (s : FltSt) (g : FltCfg) (tap : Nat → Int) (b : Bool) : FltSt × BitEvents :=
  let integ := cicInteg g.n (if b then 1 else 0) s.integ
  let s := { s with integ := integ, phase := s.phase + 1 }
  if s.phase < g.m then (s, .none_)
  else
    let (c, comb) := cicComb g.n (integ.getD (g.n - 1) 0) s.comb
    let s := { s with comb := comb, phase := 0 }
    let settle' := s.settle - 1
    let ends : Bool := s.settle = 1
    if g.raw then
      ({ s with settle := settle' }, { BitEvents.none_ with sample := some ((c : Int), false, false), settled := ends })
    else
      let (x, cx) := g.centre c
      let s := { s with xs := (x :: s.xs).take 64, clamped := s.clamped || cx }
      if s.firPh + 1 < g.dec then ({ s with firPh := s.firPh + 1, settle := settle' }, { BitEvents.none_ with settled := ends })
      else
        let (y, cy) := sat24 (rhe (firAcc tap s.xs g.l) 17)
        let e : BitEvents :=
          if s.settle ≠ 0 then
            { BitEvents.none_ with settled := ends, satY := cy, sample := s.xc.map (fun p => (p.1, true, p.2)) }
          else { BitEvents.none_ with settled := ends, satY := cy, sample := some (y, false, s.clamped || cy) }
        ({ s with firPh := 0, y := some y, settle := settle', clamped := false }, e)

/-- One modulator bit through the three paths. A coarse value of this bit is the latest one for an output instant of the same bit, as
the worked example of the filter chapter has it in its step 4; a step of the same bit is declared after that output. -/
def FltSt.bit (s : FltSt) (g : FltCfg) (tap : Nat → Int) (b : Bool) : FltSt × BitEvents :=
  let (s, stuck) := s.bitLevel g b
  let (s, coarse) := s.bitCoarse g b
  let (s, e) := s.bitMain g tap b
  let (s, step) := if coarse then s.bitStep g (g.use ≠ 1) else (s, false)
  (s, { e with stuck := stuck, coarse := coarse, step := step })

/-- Something that a command must name came of a bit. -/
def BitEvents.any (e : BitEvents) : Bool := e.sample.isSome || e.coarse || e.settled || e.stuck

/-! ### A filter of the device -/

/-- Filter f. -/
def Dev.filter (d : Dev) (f : Nat) : FltSt := lget d.flt f (.start 0)

/-- Store filter f, and show its settling in FLT_STAT. -/
def Dev.setFilter (d : Dev) (f : Nat) (s : FltSt) : Dev :=
  ({ d with flt := lset d.flt f s } : Dev).wrB (a_DSP_FLT_STAT f) f_DSP_FLT_STAT_SETTLING (s.settle ≠ 0)

/-- The 32 bytes of an auxiliary item (R122). -/
def auxBytes (st : Stamp) (epoch : BitVec 16) (x : Sample) (raw : Bool) (f slot : Nat) : List Byte :=
  st.bytes ++ leBytes 2 epoch.toNat ++ leBytes 2 0x0045 ++ leBytes 8 (uwrap x.value 64) ++
  [BitVec.ofNat 8 ((if x.coarse then 1 else 0) + (if x.sat then 2 else 0) + (if x.stuck then 4 else 0) + (if raw then 8 else 0)),
   BitVec.ofNat 8 (f + 16 * slot)] ++ zeros 6

/-- An AUX slot sends one item for every DIV-th delivered sample, counted from the filter's start (R122). -/
def Dev.auxItem (d : Dev) (f : Nat) (g : FltCfg) (x : Sample) : Dev :=
  let a := a_DSP_AUX_CFG g.slot
  if g.use ≠ 3 then d
  else
    let s := d.filter f
    let n := s.aux + 1
    let d := { d with flt := lset d.flt f { s with aux := n } }
    if n % max 1 (d.inF a f_DSP_AUX_CFG_DIV) = 0 && d.inB a f_DSP_AUX_CFG_EN then
      let (st, d) := d.mkStamp 21 x.time
      d.fly .record ⟨st, x.epoch, .ring (.whole (d.inF a f_DSP_AUX_CFG_RING) 2 (auxBytes st x.epoch x g.raw f g.slot))⟩
    else d

/-- A MONITOR filter's new sample is the one that a trigger of the same TIO cycle captures (R121, R125). -/
def Dev.monitorAgain (d : Dev) (g : FltCfg) (x : Sample) : Dev :=
  match d.cycle.line with
  | none => d
  | some line =>
    if g.use ≠ 2 then d
    else { d with ports := d.ports.map (fun p => { p with slots := p.slots.map (fun s =>
      if s.desc.line = line then { s with mons := s.mons.set g.slot (some x) } else s) }) }

/-- Deliver a sample of filter f: FLT_OUT and FLT_TIME show it, and an AUX slot may send it (R112, R119, R122). -/
def Dev.deliverSample (d : Dev) (f : Nat) (g : FltCfg) (v : Int) (coarse sat : Bool) : Dev :=
  let s := d.filter f
  let (t, ep) := d.instantBefore g.gd
  let x : Sample := ⟨v, coarse, sat, s.stuck, t, ep⟩
  let d := { d with flt := lset d.flt f { s with out := some x } }
  let w := fset (fset (fset (fset (fset 0 f_DSP_FLT_OUT_VALUE (uwrap v 40)) f_DSP_FLT_OUT_VALID 1)
    f_DSP_FLT_OUT_COARSE (if coarse then 1 else 0)) f_DSP_FLT_OUT_SAT (if sat then 1 else 0)) f_DSP_FLT_OUT_STUCK (if s.stuck then 1 else 0)
  (((d.wr (a_DSP_FLT_OUT f) w).wr (a_DSP_FLT_TIME f) t).auxItem f g x).monitorAgain g x

/-- What one bit of filter f brings about in the device. -/
def Dev.bitEffects (d : Dev) (f : Nat) (g : FltCfg) (e : BitEvents) : Dev :=
  let d := if e.stuck then
      ((d.inc (a_DSP_FLT_STAT f) f_DSP_FLT_STAT_STUCK_CNT).raiseEvt (136 + f)).reportErr 0x17 21 f
    else d
  let d := if e.satY then d.inc (a_DSP_FLT_STAT f) f_DSP_FLT_STAT_SAT_CNT else d
  let d := match e.sample with
    | some (v, c, s) => d.deliverSample f g v c s
    | none => d
  if e.step then (d.inc (a_DSP_FLT_STAT f) f_DSP_FLT_STAT_STEP_CNT).raiseEvt (128 + f) else d

/-- Bits through a filter's paths, with the events of each. -/
def FltSt.bits (s : FltSt) (g : FltCfg) (tap : Nat → Int) : List Bool → FltSt × List BitEvents
  | [] => (s, [])
  | b :: bs =>
    let (s, e) := s.bit g tap b
    let (s, es) := FltSt.bits s g tap bs
    (s, e :: es)

/-- Bits that filter f has sampled from the cycle its clock began to run to cycle c: one CAP_DLY after each rising edge, the first of which comes a
period after the start (R108; log entry 107). -/
def Dev.bitsBy (d : Dev) (f c : Nat) : Nat :=
  let g := d.fltIn f
  (c - (lget d.ckAt (if g.second then 1 else 0) 0 + g.dly)) / max 1 g.ckdiv

/-- Bits that filter f has sampled since it last took any (R108). -/
def Dev.bitsDue (d : Dev) (f : Nat) : Nat := d.bitsBy f d.clk.cyc - d.bitsBy f (d.filter f).at_

/-- The modulator bits of filter f since its last command reach it, as many as its clock has sampled; the last of them brings about what the command
names (`due`), and none before it brings about anything. Otherwise the filter's clock does not run so, and nothing happens. -/
def Dev.filterBits (d : Dev) (f : Nat) (bits : List Bool) (due : BitEvents → Bool) : Dev :=
  let g := d.fltIn f
  if d.isHeld .dsp || !g.clkOn || bits.length ≠ d.bitsDue f then d
  else
    let (s, es) := ({ d.filter f with at_ := d.clk.cyc } : FltSt).bits g (d.tap f) bits
    match es.reverse with
    | [] => d
    | e :: before => if due e && before.all (fun x => !x.any) then (d.setFilter f s).bitEffects f g e else d

/-! ### Commit (R123, R124) -/

/-- A commit would change a setting of filter f, or CKDIV or EN of its clock (R123). -/
def Dev.fltDiffers (d : Dev) (f : Nat) : Bool :=
  let diff (a : Nat) : Bool := d.rd a ≠ d.inForce a
  diff (a_DSP_FLT_CFG f) || diff (a_DSP_FLT_CUSTOM f) || diff (a_DSP_FLT_STEP f) ||
  (List.range 64).any (fun i => diff (a_DSP_TAP f i)) ||
  (fltCfg d.rd f).ckdiv ≠ (fltCfg d.inForce f).ckdiv || (fltCfg d.rd f).clkOn ≠ (fltCfg d.inForce f).clkOn

/-- A commit would restart filter f: a setting of it changes, or of the other filter of its sine and cosine pair, since the device
starts both in one cycle (R120, R123). -/
def Dev.fltChanged (d : Dev) (f : Nat) : Bool :=
  d.fltDiffers f || ((fltCfg d.rd f).use = 1 && d.fltDiffers (f + 1 - 2 * (f % 2)))

/-- COMMIT.ERR for the written settings; the lowest code that applies. -/
def Dev.dspErr (d : Dev) : Nat :=
  let g (f : Nat) := fltCfg d.rd f
  let fs := List.range 8
  let k := d.rd a_DSP_CLK_CFG
  let outside (x : FltCfg) : Bool :=
    (x.n < 3 || 5 < x.n || x.m < 8 || 512 < x.m || x.l < 1 || 64 < x.l) || (!x.raw && 2 ^ 40 ≤ x.m ^ x.n)
  let ckBad (n : Nat) : Bool := n < 40 || 200 < n
  let changed (f : Nat) : Bool := d.fltChanged f
  let busy (f : Nat) : Bool :=
    changed f && (d.fltIn f).use = 1 && d.acquiring &&
    (List.range 4).any (fun n => d.inF (a_WPU_ENC_CFG n) f_WPU_ENC_CFG_TYPE = 2 && d.inF (a_WPU_ENC_CFG n) f_WPU_ENC_CFG_SC_PAIR = f / 2)
  let pairBad (k : Nat) : Bool :=
    let a := 2 * k
    let b := 2 * k + 1
    ((g a).use = 1 || (g b).use = 1) &&
      !((g a).use = (g b).use &&
        d.rdF (a_DSP_FLT_CFG a) f_DSP_FLT_CFG_CKSEL = d.rdF (a_DSP_FLT_CFG b) f_DSP_FLT_CFG_CKSEL &&
        (g a).preset = (g b).preset && d.rd (a_DSP_FLT_CUSTOM a) = d.rd (a_DSP_FLT_CUSTOM b) &&
        ((g a).preset < 4 || (List.range 64).all (fun i => d.rd (a_DSP_TAP a i) = d.rd (a_DSP_TAP b i))))
  let twice (f h : Nat) : Bool := f < h && 2 ≤ (g f).use && (g f).use = (g h).use && (g f).slot = (g h).slot
  if fs.any busy then 1
  else if fs.any (fun f => (g f).preset ≤ 4 && outside (g f)) || ckBad (fget k f_DSP_CLK_CFG_CKDIV0) || ckBad (fget k f_DSP_CLK_CFG_CKDIV1) then 2
  else if (List.range 4).any pairBad then 3
  else if fs.any (fun f => (g f).raw && (g f).use ≠ 3) then 4
  else if fs.any (fun f => fs.any (twice f)) then 5
  else if fs.any (fun f => 4 < (g f).preset) then 6
  else 0

/-- Start filter f with its settings in force (R116, R123): no sample since the start, and GD in FLT_GD (R112). What is known of the input's level
stays: a stuck input is stuck until its level changes (R118). -/
def Dev.startFilter (d : Dev) (f : Nat) : Dev :=
  let g := d.fltIn f
  let s := d.filter f
  let d := d.setFilter f { FltSt.start (g.n + g.l) with level := s.level, held := s.held, stuck := s.stuck, at_ := d.clk.cyc }
  (d.wrF (a_DSP_FLT_OUT f) f_DSP_FLT_OUT_VALID 0).wrF (a_DSP_FLT_GD f) f_DSP_FLT_GD_GD_NS g.gd

/-- Modulator clock k runs from now on at 1.0 GHz / CKDIV, or its pin is low while EN is 0 (R108). -/
def Dev.clkPin (d : Dev) (k : Nat) : Dev :=
  let d := { d with ckAt := lset d.ckAt k d.clk.cyc }
  if d.inB a_DSP_CLK_CFG (if k = 0 then f_DSP_CLK_CFG_EN0 else f_DSP_CLK_CFG_EN1) then
    d.emit (.dsmClock k (d.inF a_DSP_CLK_CFG (if k = 0 then f_DSP_CLK_CFG_CKDIV0 else f_DSP_CLK_CFG_CKDIV1)))
  else d.emit (.pin (.dsmCk k) .low)

/-- A write of 1 to DSP.COMMIT.GO (R123, R124): refused with ERR, or every changed filter restarts with the written settings. Answers
whether it was accepted. -/
def Dev.dspCommit (d : Dev) : Dev × Bool :=
  let e := d.dspErr
  let changed := (List.range 8).filter d.fltChanged
  let d := d.wrF a_DSP_COMMIT f_DSP_COMMIT_ERR e
  if e ≠ 0 then (d, false)
  else
    let was (d : Dev) (k : Nat) : Nat × Bool :=
      if k = 0 then (d.inF a_DSP_CLK_CFG f_DSP_CLK_CFG_CKDIV0, d.inB a_DSP_CLK_CFG f_DSP_CLK_CFG_EN0)
      else (d.inF a_DSP_CLK_CFG f_DSP_CLK_CFG_CKDIV1, d.inB a_DSP_CLK_CFG f_DSP_CLK_CFG_EN1)
    let o := d
    let d := d.commit .dsp
    let d := iter 2 (fun k d => if was d k = was o k then d else d.clkPin k) d
    (changed.foldl (fun d f => d.startFilter f) d, true)

/-- What the MONITOR slots hold at an issued trigger (R121): per slot the latest delivered sample, none where there is none yet. -/
def Dev.monitors (d : Dev) : List (Option Sample) :=
  (List.range 4).map (fun slot =>
    ((List.range 8).find? (fun f => (d.fltIn f).use = 2 && (d.fltIn f).slot = slot)).bind (fun f => (d.filter f).out))

end Sys2Proof.Machine
end

