-- ==== Sys2Proof/Machine/TetherOps.lean ====
section
/-! DEFINITION. What the Tether ports do for other families (R134 to R157): packets, requests, triggers, exposure settings, and the
slots of lines. -/

namespace Sys2Proof.Machine

/-! ### Packets (R134, R135) -/

/-- TYPE of a packet. -/
def pktType (b : List Byte) : Nat := leAt b 0 1
/-- VC of a packet. -/
def pktVc (b : List Byte) : Nat := leAt b 1 1 % 16
/-- LAST of a packet. -/
def pktLast (b : List Byte) : Bool := (leAt b 1 1).testBit 5
/-- LEN of a packet. -/
def pktLen (b : List Byte) : Nat := leAt b 2 2
/-- Payload of a packet. -/
def pktPayload (b : List Byte) : List Byte := slice b 16 (pktLen b)
/-- TAG of a packet, bytes 10 and 11. -/
def pktTag (b : List Byte) : BitVec 16 := BitVec.ofNat 16 (leAt b 10 2)
/-- STATUS of a packet, byte 12. -/
def pktStatus (b : List Byte) : Nat := leAt b 12 1

/-- The CRC of a packet matches (R134). -/
def pktCrcOk (b : List Byte) : Bool :=
  16 + pktLen b + 4 ≤ b.length && crc32c (slice b 0 (16 + pktLen b)) = leAt b (16 + pktLen b) 4

/-- TYPE and LEN of an upstream packet are as R135 has them. -/
def pktFormOk (b : List Byte) : Bool :=
  let n := pktLen b
  match pktType b with
  | 0x10 => 1 ≤ n && n ≤ 8192
  | 0x20 => n = 64
  | 0x21 => n = 0 || n = 4 * leAt b 8 2
  | 0x22 => n ≤ 64
  | 0x23 => n = 0
  | _ => false

/-- Count a malformed block or packet of a port (R132, R135). -/
def Dev.malformed (d : Dev) (p : Nat) : Dev := d.inc (a_TPT_STAT2 p) f_TPT_STAT2_MALFORMED

/-! ### Capability (R140) -/

/-- Field of the last valid CAP payload: n bytes at offset o. -/
def Dev.capField (d : Dev) (p o n : Nat) : Nat :=
  leAt ((List.range 8).flatMap (fun i => leBytes 8 (d.rd (a_TPT_CAP p i)).toNat)) o n

/-- Rows and bits per sample of a DT (R137); none for a DT that carries no pixels. -/
def dtForm (dt : Nat) : Option (Nat × Nat) :=
  match dt with
  | 0x01 => some (1, 8) | 0x02 => some (1, 10) | 0x03 => some (1, 12) | 0x04 => some (1, 14) | 0x05 => some (1, 16)
  | 0x11 => some (3, 8) | 0x13 => some (3, 12) | 0x15 => some (3, 16)
  | 0x21 => some (2, 8) | 0x23 => some (2, 12) | 0x25 => some (2, 16)
  | _ => none

/-- Width W of port p in force; a field of 0 stands for no width. -/
def Dev.portWidth (d : Dev) (p : Nat) : Nat := d.inF (a_TPT_CFG p) f_TPT_CFG_WIDTH

/-- Rows and bits of port p's pixel data. -/
def Dev.portForm (d : Dev) (p : Nat) : Nat × Nat := (dtForm (d.inF (a_TPT_CFG p) f_TPT_CFG_PIX_DT)).getD (1, 8)

/-- ROW_BYTES (R138). -/
def rowBytes (w b : Nat) : Nat := (w * b + 7) / 8

/-! ### Requests (R151) -/

/-- Send a packet to a camera on one of the port's lanes. -/
def Dev.toCamera (d : Dev) (l : Nat) (pkt : List Byte) : Dev := d.laneSend l pkt

/-- Add a request with the next TAG; at most 16 are outstanding, later ones are sent as earlier ones end (R151). `mk` builds the packet
from the TAG. -/
def Dev.camRequest (d : Dev) (p l typ : Nat) (mk : BitVec 16 → List Byte) (cmd : Option Nat) : Dev :=
  let x := d.port p
  let pkt := mk x.nextTag
  let d := d.setPort p { x with
    nextTag := x.nextTag + 1, reqs := x.reqs ++ [⟨typ, x.nextTag, l, pkt, d.refNs, 0, cmd⟩] }
  if x.reqs.length < 16 then d.toCamera l pkt else d

/-- Take a request off the list; where more than 16 were waiting, the next one is sent. -/
def Dev.camDone (d : Dev) (p : Nat) (tag : BitVec 16) : Dev :=
  let x := d.port p
  let rest := x.reqs.filter (fun r => r.tag ≠ tag)
  match (if 16 < x.reqs.length then rest[15]? else none) with
  | some r =>
    (d.setPort p { x with reqs := rest.set 15 { r with sentAt := d.refNs } }).toCamera r.lane r.packet
  | none => d.setPort p { x with reqs := rest }

/-! ### Exposure settings (R148, R149, R182) -/

/-- EXPO_NS of port p as written, clamped to the camera's range; and whether it was clamped. -/
def Dev.expoClamped (d : Dev) (r : Nat → W64) (p : Nat) : Nat × Bool :=
  let e := fget (r (a_TPT_EXPO p)) f_TPT_EXPO_EXPO_NS
  let lo := d.capField p 36 4
  let hi := d.capField p 40 4
  let c := clampN e lo (max lo hi)
  (c, c ≠ e)

/-- The SET payload (R148) of settings read by r. -/
def Dev.setPayload (d : Dev) (r : Nat → W64) (p : Nat) : List Byte :=
  let g := r (a_TPT_GAIN p)
  leBytes 4 (d.expoClamped r p).1 ++ leBytes 2 (fget g f_TPT_GAIN_GAIN0) ++ leBytes 2 (fget g f_TPT_GAIN_GAIN1) ++
  leBytes 2 (fget g f_TPT_GAIN_GAIN2) ++ leBytes 2 (fget (r (a_TPT_EXPO p)) f_TPT_EXPO_BLACK) ++ zeros 4

/-- Set EXPO_CLAMP where a SET carries a clamped EXPO_NS. -/
def Dev.noteClamp (d : Dev) (p : Nat) (c : Bool) : Dev :=
  if c then d.flag (a_TPT_EPOCH p) f_TPT_EPOCH_EXPO_CLAMP else d

/-- The epoch and EXPO_NS of port p that hold for a line (R182, R183). -/
def PortSt.epochOf (x : PortSt) (line : Nat) : BitVec 16 × Nat :=
  match x.epochs.find? (fun e => e.1 ≤ line) with
  | some e => e.2
  | none => (0, 0)

/-- The SET of a changed port at the sync-point trigger (R149, R182): the written values, the next epoch, LINE the first line of the
course that follows. A port with no ACTIVE lane is told by the GRANT of its next bring-up. Where the partner of a pair shares a camera, the
authority sends its SETs, and the partner follows its epochs (`send` false). -/
def Dev.sendSet (d : Dev) (p line : Nat) (send : Bool) : Dev :=
  if !(d.port p).changed then d
  else
    let d := d.setPort p { d.port p with changed := false }
    let (e, c) := d.expoClamped d.rd p
    let ep := BitVec.ofNat 16 (d.rdF (a_TPT_EPOCH p) f_TPT_EPOCH_EPOCH) + 1
    let d := (d.wrF (a_TPT_EPOCH p) f_TPT_EPOCH_EPOCH ep.toNat).noteClamp p c
    let d := d.setPort p { d.port p with epochs := ((line, ep, e) :: (d.port p).epochs).take 64 }
    let pay := d.setPayload d.rd p
    match (if send then d.trigLane p else none) with
    | none => d
    | some l => d.camRequest p l 1 (fun tag => packet 1 0 (leBytes 4 line ++ leBytes 2 ep.toNat ++ leBytes 2 tag.toNat) pay) none

/-! ### Triggers (R142 to R147) -/

/-- TRIG_LAT in force, ns (R147). -/
def Dev.trigLat (d : Dev) : Nat := clampN (d.inF (a_TPT_TRIG_LAT 0) f_TPT_TRIG_LAT_LAT_NS) 200 8000

/-- wait_ps of R143 for a reference instant `ref` picoseconds after t_issue. -/
def Dev.waitPs (d : Dev) (l ref : Nat) : Int :=
  (d.trigLat * 1000 : Nat) - (d.capField (l / 2) 32 4 : Nat) - (d.lane l).dly - (ref : Nat)

/-- A TRIGGER block (R142). -/
def triggerBlock (x : LineDesc) (active : Bool) (wait : Nat) (epoch : BitVec 16) : List Byte :=
  let b := [0x55, BitVec.ofNat 8 ((if active then 1 else 0) + (if x.dir then 2 else 0) + (if x.dirChange then 4 else 0))] ++
    leBytes 2 wait ++ leBytes 8 x.line ++ leBytes 8 x.time.toNat ++ leBytes 2 epoch.toNat ++ zeros 6
  b ++ leBytes 4 (crc32c b)

/-- Send the TRIGGER of a line on port p (R143, R145) in the slot that ends with the codeword which carries it, whatever else the lane sends there
(R133, R157). TRIG_MOVE counts where the lane of the trigger before has left ACTIVE (R157). A device whose triggers are not ACTIVE sends them with
ACTIVE = 0. -/
def Dev.sendTrigger (d : Dev) (p : Nat) (x : LineDesc) (active : Bool) : Dev :=
  match d.trigLane p with
  | none => d
  | some l =>
    let y := d.port p
    let d := match y.lastTrig with
      | some m => if m ≠ l && !d.laneActive m then d.inc (a_TPT_STAT2 p) f_TPT_STAT2_TRIG_MOVE else d
      | none => d
    let d := d.setPort p { y with lastTrig := some l }
    let ref := 40000 + Config.triggerSlot l d.clk.cyc % (2 * codewordPs (d.lane l).rate + 1)
    let wait := clampI (rdiv (d.waitPs l ref) 125) 0 65535
    d.laneTrigger l (1000 * d.refNs + ref) (triggerBlock x active wait.toNat (y.epochOf x.line).1)

/-- DEADLINE of a port (R155). -/
def Dev.deadline (d : Dev) (x : LineDesc) (p : Nat) : Nat :=
  let n := d.cF x.ctx (a_TPT_CFG p) f_TPT_CFG_DEADLINE_NS
  if n ≠ 0 then n else d.capField p 40 4 + d.capField p 48 4 + 2000

/-- A line of port p under the port's grant in force (R137, R138): its DT, VC and width are those the camera was granted, which a bring-up within a
course can change. -/
def Dev.granted (d : Dev) (x : LineDesc) (p : Nat) : LineDesc :=
  let a := a_TPT_CFG p
  let v := fset (d.inForce a) f_TPT_CFG_DEADLINE_NS (d.cF x.ctx a f_TPT_CFG_DEADLINE_NS)
  if d.under x.ctx a = v then x else { x with ctx := { x.ctx with cfg := x.ctx.cfg.put a v } }

/-- An issued trigger opens the line's slot on port p (R155) where the port is in use. -/
def Dev.openSlot (d : Dev) (p : Nat) (x : LineDesc) (mons : List (Option Sample)) : Dev :=
  if d.inF (a_TPT_CFG p) f_TPT_CFG_LANE_MODE = 0 then d
  else
    let y := d.port p
    let s : Slot := {
      desc := d.granted x p, due := (y.epochOf x.line).1, closeAt := d.refNs + d.trigLat + d.deadline x p, mons := mons, segs := [],
      epoch := none, last := none, long := false, meta_ := [] }
    d.setPort p { y with slots := y.slots ++ [s] }

end Sys2Proof.Machine
end

