-- ==== Sys2Proof/Machine/PipeOps.lean ====
section
/-! DEFINITION. The arithmetic of the pixel pipelines (R159 to R189), stage by stage, on the settings that the line was issued under. -/

namespace Sys2Proof.Machine

/-- A sample: none where invalid (R164). -/
abbrev Smp := Option Nat

/-! ### Roles and slots (R159, R176) -/

/-- Pipeline n as stored. -/
def Dev.pipe (d : Dev) (n : Nat) : PipeSt := lget d.pipes n .reset

/-- Store pipeline n. -/
def Dev.setPipe (d : Dev) (n : Nat) (x : PipeSt) : Dev := { d with pipes := lset d.pipes n x }

/-- Port served by pipeline n in a course (PIPE.ROLE). -/
def Dev.pipePort (d : Dev) (c : CourseCtx) (n : Nat) : Nat := d.cF c (a_PIPE_ROLE n) f_PIPE_ROLE_PORT

/-- Role of pipeline n in a course: 0 active, 1 spare idle, 2 patrolling, 3 shadowing, 4 lent, 5 offline. -/
def Dev.pipeRole (d : Dev) (c : CourseCtx) (n : Nat) : Nat := d.cF c (a_PIPE_ROLE n) f_PIPE_ROLE_ROLE

/-- Pipelines that take the lines of port p in a course: the active one, and a spare that patrols or shadows it. -/
def Dev.pipesOf (d : Dev) (c : CourseCtx) (p : Nat) : List Nat :=
  (List.range 17).filter (fun n => (d.pipeRole c n ∈ [0, 2, 3]) && d.pipePort c n = p)

/-- W, rows and bits per sample of a port in a course. -/
def Dev.lineForm (d : Dev) (c : CourseCtx) (p : Nat) : Nat × Nat × Nat :=
  let f := (dtForm (d.cF c (a_TPT_CFG p) f_TPT_CFG_PIX_DT)).getD (1, 8)
  (d.cF c (a_TPT_CFG p) f_TPT_CFG_WIDTH, f.1, f.2)

/-- Bytes of a line's pixel data. -/
def Dev.lineBytes (d : Dev) (c : CourseCtx) (p : Nat) : Nat :=
  let (w, r, b) := d.lineForm c p
  r * rowBytes w b

/-- IN_SLOTS in force: 2 to 15 (R176). -/
def Dev.inSlots (d : Dev) (c : CourseCtx) (n : Nat) : Nat := max 2 (d.cF c (a_PIPE_ALIGN_CFG n) f_PIPE_ALIGN_CFG_IN_SLOTS)

/-- A line is void in pipeline n by an overflow (R188): emptied before it, or void from it to the end of its course. The second answer is the
OVERFLOW flag. -/
def PipeSt.overflowed (x : PipeSt) (l : LineDesc) : Bool × Bool :=
  let own := x.ovf.any (fun o => o.first = l.ctx.first && o.from_ ≤ l.line)
  (own || x.ovf.any (fun o => o.emptied && l.line < o.from_), own)

/-- Input slots of 64 KiB in use in pipeline n: lines of its port in reception or closed and not yet processed (R160, R176). -/
def Dev.slotsInUse (d : Dev) (n p : Nat) : Nat :=
  let x := d.pipe n
  let need (c : CourseCtx) : Nat := max 1 (ceilDiv (d.lineBytes c p) 65536)
  let a := ((d.port p).slots.filter (fun s => !s.segs.isEmpty && !(x.overflowed s.desc).1)).map (fun s => need s.desc.ctx)
  let b := (x.input.filter (fun i => !i.segs.isEmpty)).map (fun i => need i.desc.ctx)
  (a ++ b).foldl (· + ·) 0

/-- Data of a line begin to arrive at pipeline n: an input slot is taken, or all are full and the overflow of R188 begins; that of a course's last
line makes only that line void (R189). -/
def Dev.takeSlot (d : Dev) (n p : Nat) (l : LineDesc) : Dev :=
  let x := d.pipe n
  if (x.overflowed l).1 then d
  else
    let used := d.slotsInUse n p + max 1 (ceilDiv (d.lineBytes l.ctx p) 65536)
    if d.inSlots l.ctx n < used then
      let last : Bool := l.line + 1 = l.ctx.first + l.ctx.len
      let d := d.setPipe n { x with
        ovf := (⟨l.ctx.first, l.line, !last⟩ :: x.ovf).take 8
        input := if last then x.input else x.input.map (fun i => { i with segs := [], void := true, epoch := i.due }) }
      (d.inc (a_PIPE_STAT0 n) f_PIPE_STAT0_OVF_CNT).reportErr 0x1C n n
    else if d.rdF (a_PIPE_BATTEN n) f_PIPE_BATTEN_IN_PEAK < used then d.wrF (a_PIPE_BATTEN n) f_PIPE_BATTEN_IN_PEAK used
    else d

/-! ### Stage 1 (R165) -/

/-- The byte at an offset of a line's data, from the first segment received that holds it. -/
def segByte (segs : List (Nat × List Byte)) (o : Nat) : Option Byte :=
  segs.findSome? (fun s => if s.1 ≤ o then s.2[o - s.1]? else none)

/-- Sample i of row r in the row-planar layout of R138, brought to U12.4; none where a byte it touches was not received. -/
def unpackAt (segs : List (Nat × List Byte)) (w b r i : Nat) : Smp :=
  let start := r * rowBytes w b
  let lo := i * b / 8
  let hi := (i * b + b - 1) / 8
  let bytes := (List.range (hi + 1 - lo)).map (fun k => segByte segs (start + lo + k))
  if bytes.all Option.isSome then
    some ((leNat (bytes.filterMap id) / 2 ^ (i * b % 8)) % 2 ^ b * 2 ^ (16 - b))
  else none

/-! ### Stages 2 to 4 (R166 to R172) -/

/-- clamp16 with a count of clamps (R163). -/
def clampCount (x : Int) : Nat × Nat := let y := clamp16 x; (y, if (y : Int) = x then 0 else 1)

/-- Apply a clamping function to the valid samples of a row; the clamps are counted. -/
def mapClamp (f : Nat → Nat → Int) (row : List Smp) : List Smp × Nat :=
  let l := row.mapIdx (fun i v => v.map (fun x => clampCount (f i x)))
  (l.map (fun v => v.map (·.1)), (l.map (fun v => (v.map (·.2)).getD 0)).foldl (· + ·) 0)

/-- Bank of pipeline n in force in a course: with WIDE the two banks are one set, bank 0 (R167). -/
def Dev.coefBank (d : Dev) (c : CourseCtx) (n : Nat) : Nat :=
  if d.cB c (a_PIPE_COEF_CTRL n) f_PIPE_COEF_CTRL_WIDE then 0 else d.cF c (a_PIPE_COEF_CTRL n) f_PIPE_COEF_CTRL_IN_FORCE

/-- Stage 2 on row r (R166). -/
def Dev.flatField (d : Dev) (c : CourseCtx) (n w r : Nat) (row : List Smp) : List Smp × Nat :=
  let bank := d.coefBank c n
  mapClamp (fun i x =>
    let e := d.tabLe 1 n bank (4 * (r * w + i)) 4
    rhe (((x : Int) - sext e 16) * (e / 2 ^ 16 : Nat)) 14) row

/-- The defect list of the bank in force (R167, R171): its (row, pixel) entries up to the end mark, but for an entry that is not above the
entry before it in the table. -/
def Dev.defects (d : Dev) (c : CourseCtx) (n : Nat) : List (Nat × Nat) :=
  let bank := d.coefBank c n
  let size := if d.cB c (a_PIPE_COEF_CTRL n) f_PIPE_COEF_CTRL_WIDE then 2048 else 1024
  let es := ((List.range size).map (fun i => d.tabLe 2 n bank (4 * i) 4)).takeWhile (fun e => e ≠ 0xFFFFFFFF)
  let ks := es.map (fun e => e % 2 ^ 18)
  let kept := (List.zip (none :: ks.map some) ks).filter (fun t => match t.1 with | some p => decide (p < t.2) | none => true)
  kept.map (fun t => (t.2 / 2 ^ 16, t.2 % 2 ^ 15))

/-- Maximal runs of adjacent columns in a rising list: first column and length. -/
def runsOf : List Nat → List (Nat × Nat)
  | [] => []
  | a :: l =>
    match runsOf l with
    | [] => [(a, 1)]
    | (b, k) :: rs => if b = a + 1 then (a, k + 1) :: rs else (a, 1) :: (b, k) :: rs

/-- Stage 3 on one run of defective pixels (R171): the row, pixels replaced and pixels made invalid. A pixel that was invalid before stays so
(R164) and is neither. -/
def replaceRun (maxRun : Nat) (row0 row : List Smp) (a k : Nat) (bad : Nat → Bool) : List Smp × Nat × Nat :=
  let nb (i : Nat) : Smp := if bad i then none else row0.getD i none
  let l : Smp := if a = 0 then none else nb (a - 1)
  let r := nb (a + k)
  let inRun (i : Nat) : Bool := a ≤ i && i < a + k
  let n := ((List.range k).filter (fun j => (row0.getD (a + j) none).isSome)).length
  let set (f : Nat → Nat) : List Smp := row.mapIdx (fun i v => if inRun i then (row0.getD i none).map (fun _ => f i) else v)
  let none' := row.mapIdx (fun i v => if inRun i then none else v)
  if maxRun < k then (none', 0, n)
  else
    match l, r with
    | some x, some y =>
      (set (fun i => ((x : Int) + rdiv (((y : Int) - x) * (i + 1 - a : Nat)) (k + 1)).toNat), n, 0)
    | some x, none => (set (fun _ => x), n, 0)
    | none, some y => (set (fun _ => y), n, 0)
    | none, none => (none', 0, n)

/-- Stage 3 on row r (R171). -/
def Dev.replaceDefects (d : Dev) (c : CourseCtx) (n w r : Nat) (row : List Smp) : List Smp × Nat × Nat :=
  let bad := ((d.defects c n).filter (fun e => e.1 = r)).map (·.2)
  let cols := (List.range w).filter (fun i => bad.contains i)
  let maxRun := max 1 (d.cF c (a_PIPE_FFC_CTRL n) f_PIPE_FFC_CTRL_MAX_RUN)
  (runsOf cols).foldl (fun (acc : List Smp × Nat × Nat) run =>
    let (x, p, q) := replaceRun maxRun row acc.1 run.1 run.2 (fun i => cols.contains i)
    (x, acc.2.1 + p, acc.2.2 + q)) (row, 0, 0)

/-- lg of R172 from a usable monitor reading; none where the reading is not usable. -/
def Dev.lineGain (d : Dev) (c : CourseCtx) (n : Nat) (mons : List (Option Sample)) : Option Nat :=
  let a := a_PIPE_LG_CFG n
  match mons.getD (d.cF c a f_PIPE_LG_CFG_SLOT) none with
  | none => none
  | some s =>
    if s.stuck || decide (s.value ≤ 0) then none
    else
      let g := rdiv (d.cS c a f_PIPE_LG_CFG_REF * 2 ^ 14) s.value
      let lo : Int := d.cF c a f_PIPE_LG_CFG_LG_MIN
      let hi : Int := d.cF c a f_PIPE_LG_CFG_LG_MAX
      some (min (max g lo) hi).toNat

/-- Stages 1 to 4 of a line with the settings of pipeline n, the last line gain being lg0 (R162): the line as later stages read it, the
pixels replaced and made invalid. -/
def Dev.earlyStages (d : Dev) (n lg0 : Nat) (x : InLine) : RowLine × Nat × Nat :=
  let c := x.desc.ctx
  let p := d.pipePort c n
  let (w, nr, b) := d.lineForm c p
  let lgOn := d.cB c (a_PIPE_LG_CFG n) f_PIPE_LG_CFG_EN
  let g := if lgOn then d.lineGain c n x.mons else none
  let lg := g.getD lg0
  let hold := lgOn && g.isNone
  if x.void then
    (⟨x.desc, x.epoch, true, x.short, x.long, x.ovf, hold, 0, lg, List.replicate nr (List.replicate w none)⟩, 0, 0)
  else
    let rows := (List.range nr).map (fun r =>
      let r1 := (List.range w).map (unpackAt x.segs w b r)
      let (r2, s2) := if d.cB c (a_PIPE_FFC_CTRL n) f_PIPE_FFC_CTRL_EN then d.flatField c n w r r1 else (r1, 0)
      let (r3, p3, q3) := if d.cB c (a_PIPE_FFC_CTRL n) f_PIPE_FFC_CTRL_DPR_EN then d.replaceDefects c n w r r2 else (r2, 0, 0)
      let (r4, s4) := if lgOn then mapClamp (fun _ v => rhe ((v : Int) * lg) 14) r3 else (r3, 0)
      (r4, s2 + s4, p3, q3))
    let sum (f : List Smp × Nat × Nat × Nat → Nat) : Nat := (rows.map f).foldl (· + ·) 0
    (⟨x.desc, x.epoch, false, x.short, x.long, x.ovf, hold, sum (·.2.1), lg, rows.map (·.1)⟩, sum (·.2.2.1), sum (·.2.2.2))

/-! ### Stage 5 (R173 to R175) -/

/-- Line j among the held lines; lines not acquired or void are absent from reads. -/
def heldLine (hist : List RowLine) (j : Int) : Option RowLine :=
  hist.find? (fun x => (x.desc.line : Int) = j)

/-- Row r of line j at pixel i: none where the line is void or missing. -/
def heldSample (hist : List RowLine) (j : Int) (r i : Nat) : Smp :=
  match heldLine hist j with
  | some x => if x.void then none else (x.rows.getD r []).getD i none
  | none => none

/-- Source offset of row r in 1/64 line (R173): (r − R) × D × dir. -/
def rowOffset (delay : Nat) (nr r : Nat) (rev : Bool) : Int :=
  let ref : Int := if nr = 3 then 1 else 0
  ((r : Int) - ref) * delay * (if rev then -1 else 1)

/-- The aligned value of row r, pixel i (R173). -/
def alignedAt (hist : List RowLine) (line : Nat) (off : Int) (r i : Nat) : Smp :=
  let n := fshr off 6
  let f := off - n * 64
  let a := heldSample hist (line + n) r i
  if f = 0 then a
  else
    match a, heldSample hist (line + n + 1) r i with
    | some x, some y => some (rhe ((x : Int) * (64 - f) + (y : Int) * f) 6).toNat
    | _, _ => none

/-- Lines that the alignment of a line reads, lowest to highest offset (R173, R174). -/
def alignSpan (delay nr : Nat) (rev : Bool) : Int × Int :=
  let offs := (List.range nr).map (fun r => rowOffset delay nr r rev)
  let los := offs.map (fun o => fshr o 6)
  let his := offs.map (fun o => if o % 64 = 0 then fshr o 6 else fshr o 6 + 1)
  (los.foldl min 0, his.foldl max 0)

/-- Source lines read for a line: exactly those whose weight is not zero. -/
def alignReads (delay nr : Nat) (rev : Bool) : List Int :=
  (List.range nr).flatMap (fun r =>
    let o := rowOffset delay nr r rev
    if o % 64 = 0 then [fshr o 6] else [fshr o 6, fshr o 6 + 1])

/-- The three channels of a colour line, or mono alone, from aligned rows (R175). -/
def channels (nr : Nat) (cfaBlue bgr : Bool) (rows : List (List Smp)) : List (List Smp) :=
  let row (k : Nat) : List Smp := rows.getD k []
  if nr = 3 then (if bgr then [row 2, row 1, row 0] else [row 0, row 1, row 2])
  else if nr = 2 then
    let v := row 1
    let w := v.length
    let mean (i : Nat) : Smp :=
      if i = 0 then v.getD 1 none
      else if i + 1 = w then v.getD (i - 1) none
      else
        match v.getD (i - 1) none, v.getD (i + 1) none with
        | some a, some b => some (rhe ((a + b : Nat) : Int) 1).toNat
        | _, _ => none
    let pick (even : Bool) : List Smp := v.mapIdx (fun i x => if (i % 2 = 0) = even then x else mean i)
    [pick (!cfaBlue), row 0, pick cfaBlue]
  else [row 0]

/-! ### Stages 6 to 8 (R178, R179, R184) -/

/-- Stage 6 on one pixel (R178): the mixed sample, the scaled channels, and the clamps. -/
def mixPixel (gains : List Nat) (ks : List Int) (xs : List Smp) : Smp × List Smp × Nat :=
  let ws := (List.zip gains xs).map (fun p => p.2.map (fun x => clampCount (rhe ((x : Int) * p.1) 14)))
  let sat := (ws.map (fun w => (w.map (·.2)).getD 0)).foldl (· + ·) 0
  if ws.all Option.isSome then
    let vs := ws.filterMap id
    let acc := ((List.zip ks vs).map (fun p => p.1 * (p.2.1 : Int))).foldl (· + ·) 0
    let (y, s) := clampCount (rhe acc 14)
    (some y, ws.map (fun w => w.map (·.1)), sat + s)
  else (none, ws.map (fun w => w.map (·.1)), sat)

/-- Stage 8 at column u (R184). -/
def resampleAt (k : Nat → Nat → Int) (c0 c1 c2 c3 : Int) (ys : List Smp) (u : Nat) : Smp × Nat :=
  let x96 := c0 * 2 ^ 64 + c1 * u * 2 ^ 40 + c2 * u * u * 2 ^ 16 + c3 * u * u * u
  let xq := rhe x96 90
  let i := fshr xq 6
  let p := (xq - i * 64).toNat
  let taps := (List.range 4).map (fun j =>
    let w := k p j
    let at_ := i - 1 + j
    (w, if at_ < 0 then none else ys.getD at_.toNat none))
  if taps.all (fun t => t.1 = 0 || t.2.isSome) then
    let (y, s) := clampCount (rhe ((taps.map (fun t => t.1 * ((t.2.getD 0 : Nat) : Int))).foldl (· + ·) 0) 14)
    (some y, s)
  else (none, 0)

/-- Columns of pipeline n in a course: N of R184, or W where stage 8 is off. -/
def Dev.pipeCols (d : Dev) (c : CourseCtx) (n : Nat) : Nat :=
  if d.cB c (a_PIPE_RS_CFG n) f_PIPE_RS_CFG_EN then d.cF c (a_PIPE_RS_CFG n) f_PIPE_RS_CFG_N_M1 + 1
  else d.cF c (a_TPT_CFG (d.pipePort c n)) f_TPT_CFG_WIDTH

end Sys2Proof.Machine
end

