-- ==== Sys2Proof/Machine/CalRunOps.lean ====
section
/-! DEFINITION. What a calibration run captures from lines (R519 to R521), and what it makes of it. -/

namespace Sys2Proof.Machine

/-- The kind of an item: 0 TS_TAPS, 1 LANE, 2 DARK, 3 FLAT, 4 GEOMETRY, 5 SEAM; its index. -/
def calKind (item : Nat) : Nat × Nat := if item = 1 then (0, 0) else (item / 256, item % 256)

/-- AVG of a run (R518). -/
def CalRun.avg (x : CalRun) : Nat :=
  let a := x.arg.toNat
  match (calKind x.item).1 with
  | 2 => a % 256
  | 3 => a / 2 ^ 16 % 256
  | 4 => a / 2 ^ 48 % 256
  | _ => 0

/-- The run still takes lines of pixel data, and line l of a port is one of them: of CALIBRATE, from the first line of its course, not void. -/
def CalRun.takes (x : CalRun) (kinds : List Nat) (port : Nat) (l : LineDesc) (void : Bool) : Bool :=
  let k := calKind x.item
  kinds.contains k.1 && k.2 = port && x.pend.isNone && !void && l.ctx.mode = 1 && x.taken < 2 ^ x.avg &&
  (match x.start with | some f => decide (f ≤ l.line) | none => false)

/-- Samples join the sums. -/
def addSums (sums : List (List (Nat × Nat))) (rows : List (List Smp)) : List (List (Nat × Nat)) :=
  rows.mapIdx (fun r row =>
    let old := sums.getD r []
    row.mapIdx (fun i v => let o := old.getD i (0, 0); match v with | some x => (o.1 + x, o.2 + 1) | none => o))

/-- Set the run. -/
def Dev.setRunCal (d : Dev) (x : Option CalRun) : Dev := { d with cal := { d.cal with run := x } }

/-- A line of a port reaches stage 1 of the pipeline that serves it: DARK and FLAT sum its samples x1 (R520). -/
def Dev.calTake (d : Dev) (n : Nat) (i : InLine) : Dev :=
  match d.cal.run with
  | none => d
  | some x =>
    let c := i.desc.ctx
    let p := d.pipePort c n
    if d.pipeRole c n = 0 && x.takes [2, 3] p i.desc i.void then
      let (w, nr, b) := d.lineForm c p
      let rows := (List.range nr).map (fun r => (List.range w).map (unpackAt i.segs w b r))
      d.setRunCal (some { x with taken := x.taken + 1, sums := addSums x.sums rows })
    else d

/-- A line leaves stage 6 of the pipeline that serves a port: GEOMETRY sums it (R521). -/
def Dev.calStage6 (d : Dev) (n : Nat) (r : RowLine) (ys : List Smp) : Dev :=
  match d.cal.run with
  | none => d
  | some x =>
    let c := r.desc.ctx
    if d.pipeRole c n = 0 && x.takes [4] (d.pipePort c n) r.desc r.void then
      d.setRunCal (some { x with taken := x.taken + 1, sums := addSums x.sums [ys] })
    else d

/-- A course of CALIBRATE has been measured: SEAM takes EST and REASON of its seam from the first course it captures (R521). -/
def Dev.calSeam (d : Dev) (c : CourseCtx) (es : List SeamEntry) : Dev :=
  match d.cal.run with
  | none => d
  | some x =>
    let k := calKind x.item
    if k.1 = 5 && x.pend.isNone && x.seam.isNone && c.mode = 1 && (match x.start with | some f => decide (f ≤ c.first) | none => false) then
      match es[k.2]? with
      | some e => let v := e.est.getD (0, 0); d.setRunCal (some { x with seam := some (e.reason, v.1, v.2) })
      | none => d
    else d

/-! ### DARK and FLAT (R520) -/

/-- The FFC entry of a pixel: from its old value and its sum and count; the second answer says that it joins the defect list. -/
def ffcEntry (dark : Bool) (target old : Nat) (s : Nat × Nat) : Nat × Bool :=
  if s.2 = 0 then (old, false)
  else if dark then (old / 2 ^ 16 * 2 ^ 16 + uwrap (min 32767 (rdiv s.1 s.2)) 16, false)
  else
    let m := rdiv ((s.1 : Int) - s.2 * sext old 16) s.2
    if 0 < m then ((min 65535 (rdiv (target * 2 ^ 14 : Nat) m)).toNat * 2 ^ 16 + old % 2 ^ 16, false) else (16384 * 2 ^ 16 + old % 2 ^ 16, true)

/-- Entries of a defect list up to its end. -/
def Dev.defectWords (d : Dev) (n bank : Nat) : List Nat :=
  ((List.range 1024).map (fun i => d.tabLe 2 n bank (4 * i) 4)).takeWhile (fun e => e ≠ 0xFFFFFFFF)

/-- The result of DARK or FLAT goes into the idle bank of pipeline n, a copy of the bank in force, which is then marked and swapped. -/
def Dev.calBank (d : Dev) (n : Nat) (dark : Bool) (target : Nat) (sums : List (List (Nat × Nat))) : Dev :=
  let a := a_PIPE_COEF_CTRL n
  let f := d.rdF a f_PIPE_COEF_CTRL_IN_FORCE
  let b := 1 - f
  let d := [(1, 196608), (2, 4096), (3, 512)].foldl (fun d t =>
    let mine (x : Nat) : Bool := tabAddr t.1 n b 0 ≤ x && x < tabAddr t.1 n b 0 + t.2
    let src := d.tab.filter (fun c => tabAddr t.1 n f 0 ≤ c.1 && c.1 < tabAddr t.1 n f 0 + t.2)
    let d := { d with tab := d.tab.filter (fun c => !mine c.1) }
    src.foldl (fun d c => d.tabWrite t.1 n b (c.1 - tabAddr t.1 n f 0) [c.2]) d) d
  let w := (sums.headD []).length
  let cells := (sums.mapIdx (fun r row => row.mapIdx (fun i s =>
    let o := 4 * (r * w + i)
    let e := ffcEntry dark target (d.tabLe 1 n f o 4) s
    (o, e.1, e.2, r * 2 ^ 16 + i)))).flatten
  let d := cells.foldl (fun d c => d.tabWrite 1 n b c.1 (leBytes 4 c.2.1)) d
  let bad := (cells.filter (fun c => c.2.2.1)).map (fun c => c.2.2.2)
  let d := if bad.isEmpty then d
    else
      let old := d.defectWords n b
      let room := 1024 - old.length
      let all := (old ++ (bad.filter (fun e => !old.contains e)).take room).mergeSort (· ≤ ·)
      d.tabWrite 2 n b 0 ((all.flatMap (leBytes 4)) ++ (if all.length < 1024 then leBytes 4 0xFFFFFFFF else []))
  let d := d.wrF a f_PIPE_COEF_CTRL_LOADED (d.rdF a f_PIPE_COEF_CTRL_LOADED ||| 2 ^ b)
  d.wrB a f_PIPE_COEF_CTRL_SWAP true

/-! ### GEOMETRY (R521) -/

/-- Rising crossings of a threshold in 1/64 pixel, from pixel 0 up, by the interpolation of R206. -/
def risingCrossings (thr : Int) (ys : List Smp) : List Int :=
  (List.range (ys.length - 1)).filterMap (fun i =>
    match ys.getD i none, ys.getD (i + 1) none with
    | some a, some b =>
      let ep := (a : Int) - thr
      let ef := (b : Int) - thr
      if ep < 0 ∧ 0 ≤ ef then some (64 * i + rdiv (-64 * ep) (ef - ep)) else none
    | _, _ => none)

/-- Determinant of a matrix given by rows, by expansion along the first row; `fuel` is its size. -/
def detInt : Nat → List (List Int) → Int
  | 0, _ => 1
  | k + 1, m =>
    match m with
    | [] => 1
    | r :: rest =>
      (r.mapIdx (fun j x => (if j % 2 = 0 then 1 else -1) * x * detInt k (rest.map (fun y => y.eraseIdx j)))).foldl (· + ·) 0

/-- C0 to C3 of the cubic that fits the crossings by least squares: the k-th lies at k × BAR / PITCH columns from G0 (log entry 30). -/
def fitCubic (bar pitch : Nat) (qs : List Int) : List Int :=
  let s (m : Nat) : Int := ((List.range qs.length).map (fun k => (k : Int) ^ m)).foldl (· + ·) 0
  let t (m : Nat) : Int := (qs.mapIdx (fun k q => (k : Int) ^ m * q)).foldl (· + ·) 0
  let rows := (List.range 4).map (fun i => (List.range 4).map (fun j => s (i + j)))
  let det := detInt 4 rows
  (List.range 4).map (fun j =>
    let num := detInt 4 (rows.mapIdx (fun i r => r.set j (t i)))
    let unit := lget [32, 56, 80, 96] j 0
    rdiv (num * 2 ^ unit * (pitch : Int) ^ j) (64 * det * (bar : Int) ^ j))

end Sys2Proof.Machine
end

