-- ==== Sys2Proof/Machine/Tether.lean ====
section
/-! DEFINITION. Commands of the Tether ports: packets received, requests, delay measurement, line slots (R132 to R157). -/

namespace Sys2Proof.Machine

/-! ### Segments (R136, R155, R156) -/

/-- What routing makes of a virtual channel: pixels, host, or discard (TPT.VC_ROUTE). -/
inductive VcUse
  | pixel | host | discard
  deriving DecidableEq, Repr

/-- The use of a VC of port p under registers read by `reg`: 2 counts for PIX_VC alone. -/
def vcUseBy (reg : Nat → W64) (p vc : Nat) : VcUse :=
  let r := fget (reg (a_TPT_VC_ROUTE p)) f_TPT_VC_ROUTE_ROUTE / 4 ^ vc % 4
  if r = 1 then .host else if r = 2 ∧ vc = fget (reg (a_TPT_CFG p)) f_TPT_CFG_PIX_VC then .pixel else .discard

/-- The use of a VC of port p for a line under its grant. -/
def Dev.vcUse (d : Dev) (c : CourseCtx) (p vc : Nat) : VcUse := vcUseBy (d.under c) p vc

/-- Every byte of a range has been received. -/
def covered (segs : List (Nat × List Byte)) (o n : Nat) : Bool := (List.range n).all (fun i => (segByte segs (o + i)).isSome)

/-- The line of an open slot: under the grant in force until its first pixel segment has come. -/
def Dev.slotDesc (d : Dev) (p : Nat) (s : Slot) : LineDesc := if s.segs.isEmpty then d.granted s.desc p else s.desc

/-- A pixel segment enters an open slot (R155). The first one of a line takes its place in the input store of each pipeline that the
port feeds (R160); the line is then one of the grant in force. -/
def Dev.pixelSeg (d : Dev) (p i : Nat) (s : Slot) (h data : List Byte) : Dev :=
  let s := { s with desc := d.slotDesc p s }
  let c := s.desc.ctx
  let o := leAt h 8 4
  if leAt h 14 1 ≠ d.cF c (a_TPT_CFG p) f_TPT_CFG_PIX_DT then d.inc (a_TPT_STAT2 p) f_TPT_STAT2_DT_MISMATCH
  else
    let size := d.lineBytes c p
    let kept := data.take (size - o)
    let dup := !kept.isEmpty && covered s.segs o kept.length
    let s' := { s with
      epoch := some (s.epoch.getD (BitVec.ofNat 16 (leAt h 12 2)))
      long := s.long || decide (size < o + data.length)
      last := if pktLast h then some (o + data.length) else s.last
      segs := if dup then s.segs else s.segs ++ [(o, kept)] }
    let d := if dup then d.inc (a_TPT_STAT1 p) f_TPT_STAT1_DUP_SEG else d
    let d := if s.segs.isEmpty then
        (d.pipesOf c p).foldl (fun d n => d.takeSlot n p s.desc) d
      else d
    d.setPort p { d.port p with slots := (d.port p).slots.set i s' }

/-- A segment of a VC routed to the host enters an open slot (R156). -/
def Dev.metaSeg (d : Dev) (p i : Nat) (s : Slot) (h data : List Byte) : Dev :=
  let vc := pktVc h
  let o := leAt h 8 4
  let mine := (s.meta_.filter (fun m => m.1 = vc)).map (fun m => (m.2.1, m.2.2.1))
  if covered mine o data.length then d.inc (a_TPT_STAT1 p) f_TPT_STAT1_DUP_SEG
  else d.setPort p { d.port p with slots := (d.port p).slots.set i { s with meta_ := s.meta_ ++ [(vc, o, data, pktLast h)] } }

/-- A device of a pair without authority numbers its own lines while the Ridge link is down and throughout a split (R457). -/
def Dev.shadowLines (d : Dev) : Bool :=
  d.isPartner && (!d.rdB a_RDG_STAT f_RDG_STAT_RIDGE_UP || d.rdB a_RDG_STAT f_RDG_STAT_SPLIT)

/-- A LINE_SEG is taken into port p: header h and payload. A VC routed to discard counts nothing (R156); where no slot says which
course's routing holds, it is the routing in force. -/
def Dev.takeSeg (d : Dev) (p : Nat) (h data : List Byte) : Dev :=
  let line := leAt h 4 4
  let x := d.port p
  match x.slots.findIdx? (fun s => s.desc.line % 2 ^ 32 = line) with
  | some i =>
    match x.slots[i]? with
    | none => d
    | some s =>
      match d.vcUse (d.slotDesc p s).ctx p (pktVc h) with
      | .pixel => d.pixelSeg p i s h data
      | .host => d.metaSeg p i s h data
      | .discard => d
  | none =>
    let late := match x.closedTo with
      | some m => line = m % 2 ^ 32 || serialBefore 32 line m
      | none => false
    let last := match d.wpu.lastLine with | some l => l.line | none => 0
    if d.shadowLines && 1 ≤ (line + 2 ^ 32 - last % 2 ^ 32) % 2 ^ 32 && (line + 2 ^ 32 - last % 2 ^ 32) % 2 ^ 32 ≤ 16 then
      d.setPort p { x with heldSegs := x.heldSegs ++ [(d.el, line, h ++ data)] }
    else if vcUseBy d.inForce p (pktVc h) = .discard then d
    else if late then d.inc (a_TPT_STAT1 p) f_TPT_STAT1_LATE_SEG
    else d.inc (a_TPT_STAT1 p) f_TPT_STAT1_ORPHAN

/-- The slot of a line opens on port p, and segments held for it are taken (R155, R457). -/
def Dev.openLine (d : Dev) (p : Nat) (x : LineDesc) (mons : List (Option Sample)) : Dev :=
  let d := d.openSlot p x mons
  let y := d.port p
  let mine := y.heldSegs.filter (fun s => s.2.1 = x.line % 2 ^ 32)
  let d := d.setPort p { y with heldSegs := y.heldSegs.filter (fun s => s.2.1 ≠ x.line % 2 ^ 32) }
  mine.foldl (fun d s => d.takeSeg p (s.2.2.take 16) (s.2.2.drop 16)) d

/-- The body of XSEG (R439): port, the segment's header, and from byte 32 its payload (log entry 20). -/
def xsegBody (p : Nat) (h data : List Byte) : List Byte := padTo (leBytes 4 p ++ slice h 0 16) 32 ++ data

/-- A LINE_SEG on a lane (R134, R135, R155); the donor of a port forwards its pixel segments (R449). -/
def Dev.lineSeg (d : Dev) (l : Nat) (pkt : List Byte) : Dev :=
  let p := l / 2
  if (d.lane l).step < 3 then d
  else if pktType pkt ≠ 0x10 || !pktFormOk pkt then d.malformed p
  else if !pktCrcOk pkt then d.inc (a_TPT_STAT0 p) f_TPT_STAT0_SEG_CRC
  else
    let h := slice pkt 0 16
    let d := d.takeSeg p h (pktPayload pkt)
    if (d.rdF a_RDG_XFWD f_RDG_XFWD_DONATED).testBit p && pktVc h = d.inF (a_TPT_CFG p) f_TPT_CFG_PIX_VC then
      d.ridge 0x91 (xsegBody p h (pktPayload pkt))
    else d

/-- LINE_SEG (R155). -/
def execLineSeg (dt : Nat) (l : Fin 32) (pkt : List Byte) (s : State) : Host.Outcome State Fault Refusal :=
  .next (s.after dt (fun d => d.lineSeg l pkt))

/-! ### Closing (R155, R156) -/

/-- The object of one VC of a closed slot: bytes in place, zeros where none was received; TRUNC where it is not whole. -/
def metaObject (ring p line vc : Nat) (parts : List (Nat × List Byte × Bool)) : RingItem :=
  let len := (parts.map (fun x => x.1 + x.2.1.length)).foldl max 0
  let segs := parts.map (fun x => (x.1, x.2.1))
  let got := (List.range len).map (segByte segs)
  let whole := got.all Option.isSome && parts.any (fun x => x.2.2 && x.1 + x.2.1.length = len)
  { ring := ring, content := 4, objId := BitVec.ofNat 32 (p + 16 * vc), tag := BitVec.ofNat 64 line, body := got.map (fun b => b.getD 0),
    off := 0, fseq := 0, complete := true, trunc := !whole, mailbox := none }

/-- What a closed slot hands to a pipeline (R187, R188), which takes lines in their order. -/
def Dev.toPipe (d : Dev) (n : Nat) (s : Slot) (short : Bool) : Dev :=
  if h : n < 17 then
    if d.isHeld (.pipe ⟨n, h⟩) then d
    else
      let x := d.pipe n
      let (void, ovf) := x.overflowed s.desc
      let gone := void || s.segs.isEmpty
      let i : InLine := {
        desc := s.desc, epoch := if gone then s.due else s.epoch.getD s.due, due := s.due, void := gone, short := short, long := s.long, ovf := ovf, mons := s.mons,
        segs := if gone then [] else s.segs }
      d.setPipe n { x with input := x.input.filter (fun j => j.desc.line < i.desc.line) ++ i :: x.input.filter (fun j => i.desc.line ≤ j.desc.line) }
  else d

/-- A slot of port p closes (R155) and leaves the others: the line goes to its pipelines, its metadata to the host. -/
def Dev.closeSlot (d : Dev) (p : Nat) (s : Slot) (rest : List Slot) : Dev :=
  let c := s.desc.ctx
  let size := d.lineBytes c p
  let missing := s.segs.isEmpty
  let short := !missing && (match s.last with | some e => decide (e < size) | none => true)
  let d := if missing then d.inc (a_TPT_STAT1 p) f_TPT_STAT1_MISSING else d
  let d := if short then d.inc (a_TPT_STAT0 p) f_TPT_STAT0_SHORT_LINE else d
  let d := if s.long then d.inc (a_TPT_STAT0 p) f_TPT_STAT0_LONG_LINE else d
  let d := d.setPort p { d.port p with slots := rest, closedTo := some (max s.desc.line ((d.port p).closedTo.getD 0)) }
  let d := (d.pipesOf c p).foldl (fun d n => d.toPipe n s short) d
  let ring := d.cF c (a_TPT_VC_ROUTE p) f_TPT_VC_ROUTE_META_RING
  (List.range 16).foldl (fun d vc =>
    let parts := (s.meta_.filter (fun m => m.1 = vc)).map (·.2)
    if parts.isEmpty then d else d.toRing (metaObject ring p s.desc.line vc parts)) d

/-- LINE_SLOT_CLOSE (R155): the instant of a slot has come, of two such the older one. -/
def execLineSlotClose (dt : Nat) (p : Fin 16) (s : State) : Host.Outcome State Fault Refusal :=
  .next (s.after dt (fun d =>
    let l := (d.port p).slots
    match l.findIdx? (fun x => x.closeAt ≤ d.refNs) with
    | some i =>
      match l[i]? with
      | some x => d.closeSlot p x (l.eraseIdx i)
      | none => d
    | none => d))

/-- MALFORMED (R132, R135): a control block or packet of no known form is discarded and counted on its port; the Ridge lanes have no
such counter. -/
def execMalformed (dt : Nat) (l : Fin 40) (s : State) : Host.Outcome State Fault Refusal :=
  .next (s.after dt (fun d => if l.val < 32 then d.malformed (l / 2) else d))

/-- A codeword received on lane l (R131, R155): its corrected symbols are counted on the port, and where it cannot be corrected its blocks are
discarded and it is counted. The Ridge lanes have no such counters. -/
def Dev.codeword (d : Dev) (l : Nat) (cw : List Nat) : Dev :=
  if l < 32 then
    match rsCorrect cw with
    | some n => if n = 0 then d else d.inc (a_TPT_FEC_CORR (l / 2)) f_TPT_FEC_CORR_SYMBOLS n
    | none => d.inc (a_TPT_STAT0 (l / 2)) f_TPT_STAT0_FEC_UNCORR
  else d

/-- UNCORRECTABLE_CODEWORD (R155). -/
def execUncorrectableCodeword (dt : Nat) (l : Seen 40 (List (BitVec 10))) (s : State) : Host.Outcome State Fault Refusal :=
  .next (s.after dt (fun d => d.codeword l.at_ (l.what.map BitVec.toNat)))

/-! ### Capability and grant (R140, R141, R153, R154) -/

/-- CAP_ERR of a CAP payload for port p: 0 where it is valid. -/
def Dev.capErr (d : Dev) (p : Nat) (c : List Byte) : Nat :=
  let cfg := a_TPT_CFG p
  let mode := d.inF cfg f_TPT_CFG_LANE_MODE
  if leAt c 12 1 / 16 ≠ 1 then 1
  else if leAt c 16 2 < d.inF cfg f_TPT_CFG_WIDTH then 2
  else if !(leAt c 20 8).testBit (d.inF cfg f_TPT_CFG_PIX_DT) then 3
  else if (leAt c 14 1 % 4) &&& mode ≠ mode then 4
  else 0

/-- RATE that port p grants (R153 step 6): the smaller of both RATE_MAX; 3 acts as 2. -/
def Dev.grantRate (d : Dev) (p : Nat) : Nat := min (min (d.inF (a_TPT_CFG p) f_TPT_CFG_RATE_MAX) 2) (min (d.capField p 13 1) 2)

/-- The GRANT payload of port p (R141, R182): the epoch and settings in force. -/
def Dev.grantPayload (d : Dev) (p : Nat) : List Byte :=
  let cfg := a_TPT_CFG p
  let line := match d.wpu.lastLine with | some l => l.line | none => 0
  padTo ([BitVec.ofNat 8 (d.grantRate p), BitVec.ofNat 8 (d.inF cfg f_TPT_CFG_LANE_MODE), BitVec.ofNat 8 (d.inF cfg f_TPT_CFG_PIX_DT),
      BitVec.ofNat 8 (d.inF cfg f_TPT_CFG_PIX_VC)] ++
    leBytes 2 (d.inF cfg f_TPT_CFG_WIDTH) ++ leBytes 2 ((d.port p).epochOf line).1.toNat ++ d.setPayload d.inForce p) 32

/-- A CAP on a lane at step 5 (R153): validated, kept and answered with GRANT; one that fails stays without one. -/
def Dev.cap (d : Dev) (l : Nat) (pkt : List Byte) : Dev :=
  let p := l / 2
  if (d.lane l).step ≠ 4 then d
  else if pktType pkt ≠ 0x20 || !pktFormOk pkt then d.malformed p
  else if !pktCrcOk pkt || (d.port p).reqs.any (fun r => r.typ = 4) || d.rdF (a_TPT_LINK p) f_TPT_LINK_CAP_ERR ≠ 0 then d
  else
    let c := pktPayload pkt
    let e := d.capErr p c
    if e ≠ 0 then d.wrF (a_TPT_LINK p) f_TPT_LINK_CAP_ERR e
    else
      let d := iter 8 (fun i d => d.wr (a_TPT_CAP p i) (BitVec.ofNat 64 (leAt c (8 * i) 8))) d
      let d := d.setPort p { d.port p with granted := true }
      let pay := d.grantPayload p
      let (e, clamped) := d.expoClamped d.inForce p
      let d := d.noteClamp p clamped
      let d := if (d.port p).epochs.isEmpty then d.setPort p { d.port p with epochs := [(0, 0, e)] } else d
      let d := d.wrF (a_TPT_EPOCH p) f_TPT_EPOCH_EPOCH (leAt pay 6 2)
      d.camRequest p l 4 (fun tag => packet 4 0 (zeros 6 ++ leBytes 2 tag.toNat) pay) none

/-- CAP (R140). -/
def execCap (dt : Nat) (l : Fin 32) (pkt : List Byte) (s : State) : Host.Outcome State Fault Refusal :=
  .next (s.after dt (fun d => d.cap l pkt))

/-- The camera accepted the GRANT (R153 steps 7 and 8): lanes that are not ACTIVE return to receiver detect at the granted rate, or at
RATE 0 go on to the delay measurement. -/
def Dev.grantAccepted (d : Dev) (p : Nat) : Dev :=
  let rate := d.grantRate p
  let go (d : Dev) (k : Nat) : Dev :=
    let l := 2 * p + k
    if !d.laneInUse p k || d.laneActive l then d
    else if rate ≠ 0 then (d.laneStep l 0).detect l rate true
    else if (d.lane l).step = 4 then d.startEcho l
    else d.setLane l { d.lane l with final := true }
  go (go d 0) 1

/-- An ACK (R141, R149, R151): it answers the GRANT or SET of its TAG. -/
def Dev.ack (d : Dev) (l : Nat) (pkt : List Byte) : Dev :=
  let p := l / 2
  if (d.lane l).step < 3 then d
  else if pktType pkt ≠ 0x23 || !pktFormOk pkt then d.malformed p
  else if !pktCrcOk pkt then d
  else
    match ((d.port p).reqs.take 16).find? (fun r => r.tag = pktTag pkt && (r.typ = 4 || r.typ = 1) && r.typ = leAt pkt 13 1) with
    | none => d
    | some r =>
      let d := d.camDone p r.tag
      if r.typ = 4 then
        (if pktStatus pkt = 0 then d.grantAccepted p else d.wrF (a_TPT_LINK p) f_TPT_LINK_CAP_ERR 5)
      else
        let d := d.wrF (a_TPT_EPOCH p) f_TPT_EPOCH_APPLIED_LINE (leAt pkt 4 4)
        if pktStatus pkt = 4 then d.inc (a_TPT_EPOCH p) f_TPT_EPOCH_LATE_SET_CNT else d

/-- ACK (R151). -/
def execAck (dt : Nat) (l : Fin 32) (pkt : List Byte) (s : State) : Host.Outcome State Fault Refusal :=
  .next (s.after dt (fun d => d.ack l pkt))

/-! ### Camera registers and events (R151, R152) -/

/-- A REG_RSP ends the request of its TAG (R151, R354) where it has the length that R135 gives the answer to a read or a write: the response gives ADDR,
COUNT, the camera's STATUS and the words read. -/
def Dev.regRsp (d : Dev) (l : Nat) (pkt : List Byte) : Dev :=
  let p := l / 2
  if (d.lane l).step < 3 then d
  else if pktType pkt ≠ 0x21 || !pktFormOk pkt then d.malformed p
  else if !pktCrcOk pkt then d
  else
    match ((d.port p).reqs.take 16).find? (fun r =>
        r.tag = pktTag pkt && (r.typ = 2 || r.typ = 3) && slice r.packet 4 6 = slice pkt 4 6) with
    | none => d
    | some r =>
      if pktLen pkt ≠ (if r.typ = 3 then 4 * leAt pkt 8 2 else 0) then d.malformed p
      else
      let d := d.camDone p r.tag
      let st := pktStatus pkt
      match r.cmd with
      | none => d
      | some id =>
        let words := if r.typ = 3 ∧ st = 0 then [0] ++ pktPayload pkt else []
        d.finish id (if st = 0 then 0 else 0x33) noLine (slice pkt 4 6 ++ [BitVec.ofNat 8 st] ++ words)

/-- REG_RSP (R151). -/
def execRegRsp (dt : Nat) (l : Fin 32) (pkt : List Byte) (s : State) : Host.Outcome State Fault Refusal :=
  .next (s.after dt (fun d => d.regRsp l pkt))

/-- An EVENT packet (R152): acknowledged with its TAG; one not seen before is stamped, raises CAM_EVENT and goes to the metadata
ring. -/
def Dev.camEvent (d : Dev) (l : Nat) (pkt : List Byte) : Dev :=
  let p := l / 2
  if (d.lane l).step < 3 then d
  else if pktType pkt ≠ 0x22 || !pktFormOk pkt then d.malformed p
  else if !pktCrcOk pkt then d
  else
    let tag := pktTag pkt
    let known := (d.port p).evTags.contains tag
    let d := d.toCamera l (packet 5 0 (zeros 6 ++ leBytes 2 tag.toNat ++ [0, 0x22]) [])
    if known then d
    else
      let d := d.setPort p { d.port p with evTags := (tag :: (d.port p).evTags).take 16 }
      let (st, d) := d.mkStamp (24 + p) d.now
      let d := d.raiseEvt (144 + p)
      d.toRing (.whole (d.inF (a_TPT_VC_ROUTE p) f_TPT_VC_ROUTE_META_RING) 9 (st.bytes ++ slice pkt 0 16 ++ pktPayload pkt))

/-- CAM_EVENT (R152). -/
def execCamEvent (dt : Nat) (l : Fin 32) (pkt : List Byte) (s : State) : Host.Outcome State Fault Refusal :=
  .next (s.after dt (fun d => d.camEvent l pkt))

/-- No answer to a request within 1 ms (R151): sent again twice, then CAM_TIMEOUT and the request fails. -/
def Dev.requestTimeout (d : Dev) (p : Nat) : Dev :=
  let x := d.port p
  match (x.reqs.take 16).findIdx? (fun r => r.sentAt + 1000000 ≤ d.refNs) with
  | none => d
  | some i =>
    match x.reqs[i]? with
    | none => d
    | some r =>
      if r.resends < 2 then
        let d := d.setPort p { x with reqs := x.reqs.set i { r with sentAt := d.refNs, resends := r.resends + 1 } }
        (d.inc (a_TPT_STAT2 p) f_TPT_STAT2_REQ_RETRY).toCamera r.lane r.packet
      else
        let d := (d.camDone p r.tag).reportErr 0x18 (24 + p) p
        match r.cmd with
        | some id => d.finish id 0x32 noLine []
        | none => d

/-- CAM_REQUEST_TIMEOUT (R151). -/
def execCamRequestTimeout (dt : Nat) (p : Fin 16) (s : State) : Host.Outcome State Fault Refusal :=
  .next (s.after dt (fun d => d.requestTimeout p))

/-! ### Delay measurement (R144, R147) -/

/-- The mean delay of the exchanges kept: half the mean of round trip less TURN, in ps. -/
def meanDelay (trips : List Int) : Int := rdiv (trips.foldl (· + ·) 0) (2 * max 1 trips.length)

/-- The delay measurement is complete (R147, R153 step 9): a lane that would need WAIT < 0, as R143 rounds it, at the latest slot does not enter
ACTIVE. -/
def Dev.echoDone (d : Dev) (l : Nat) : Dev :=
  let x := d.lane l
  let d := d.setLane l { x with dly := meanDelay x.trips, echoAt := d.refNs }
  if rdiv (d.waitPs l (40000 + 2 * codewordPs x.rate)) 125 < 0 then
    ((d.showLink (l / 2)).wrF (a_TPT_LINK (l / 2)) f_TPT_LINK_CAP_ERR 6).reportErr 0x19 (24 + l / 2) (l / 2)
  else d.laneStep l 6

/-- An ECHO_RSP block with the round trip in picoseconds (R144). -/
def Dev.echoRsp (d : Dev) (l : Nat) (blk : List Byte) (rtt : Nat) : Dev :=
  let x := d.lane l
  let tag := BitVec.ofNat 16 (leAt blk 1 2)
  if !(x.step = 5 || x.step = 6) || leAt blk 0 1 ≠ 0x67 || crc32c (slice blk 0 28) ≠ leAt blk 28 4 || !x.echoes.contains tag then d
  else
    let trip : Int := (rtt : Int) - 125 * (leAt blk 3 4 : Nat)
    let x := { x with echoes := x.echoes.filter (· ≠ tag), trips := (trip :: x.trips).take 64, count := x.count + 1 }
    if x.step = 5 then
      let d := d.setLane l x
      if x.count < 64 then d.sendEcho l else d.echoDone l
    else
      let m := meanDelay x.trips
      (d.setLane l { x with dly := x.dly + clampI (m - x.dly) (-50) 50 }).showLink (l / 2)

/-- ECHO_RSP (R144). -/
def execEchoRsp (dt : Nat) (l : Fin 32) (blk : List Byte) (rtt : Nat) (s : State) : Host.Outcome State Fault Refusal :=
  .next (s.after dt (fun d => d.echoRsp l blk rtt))

/-- ECHO_PERIODIC (R144): each ACTIVE lane whose last exchange began 100 ms ago sends one more ECHO_REQ. -/
def execEchoPeriodic (dt : Nat) (s : State) : Host.Outcome State Fault Refusal :=
  .next (s.after dt (fun d =>
    iter 32 (fun l d =>
      let x := d.lane l
      if x.step = 6 && decide (x.echoAt + 100000000 ≤ d.refNs) then (d.setLane l { x with echoAt := d.refNs }).sendEcho l else d) d))

/-! ### Retraining by register (R434) -/

/-- A lane that the written or the present LANE_MODE uses is retrained; one whose quad is not up stays down. -/
def Dev.retrainUsed (d : Dev) (p k : Nat) : Dev :=
  if (d.laneInUse p k || (d.rdF (a_TPT_CFG p) f_TPT_CFG_LANE_MODE).testBit k) && d.quadUp (2 * p + k) then d.retrain (2 * p + k) else d

/-- Write of TPT.CTRL: RETRAIN0 and RETRAIN1 return their lane to receiver detect. -/
def Dev.tptCtrlWrite (d : Dev) (p : Nat) (data : W32) : Dev :=
  let v := data.setWidth 64
  let d := if fbit v f_TPT_CTRL_RETRAIN0 then d.retrainUsed p 0 else d
  if fbit v f_TPT_CTRL_RETRAIN1 then d.retrainUsed p 1 else d

/-- Write of TPT.CFG: a port that was off starts as its LANE_MODE is written (R153 step 1). -/
def Dev.tptCfgWrite (d : Dev) (p : Nat) : Dev :=
  if d.inF (a_TPT_CFG p) f_TPT_CFG_LANE_MODE = 0 && d.rdF (a_TPT_CFG p) f_TPT_CFG_LANE_MODE ≠ 0 && d.quadUp (2 * p) then d.startPort p else d

end Sys2Proof.Machine
end

