-- ==== Sys2Proof/Machine/Pipe.lean ====
section
/-! DEFINITION. Commands of the pixel pipelines (R159 to R189): a line through the stages, statistics, the comparison of the spare
(R503, R511), the coefficient banks, and what entry to an acquiring mode computes. -/

namespace Sys2Proof.Machine

/-! ### Entry to an acquiring mode (R167, R176, R177) -/

/-- K of pipeline n with the written ROW_DELAY: ceil(D) for a colour port, 0 for mono (R176). -/
def Dev.alignK (d : Dev) (n : Nat) : Nat :=
  let p := d.rdF (a_PIPE_ROLE n) f_PIPE_ROLE_PORT
  if (d.portForm p).1 = 1 then 0 else ceilDiv (d.rdF (a_PIPE_ALIGN_CFG n) f_PIPE_ALIGN_CFG_ROW_DELAY) 64

/-- Pipelines that serve an active port: ROLE 0 and LANE_MODE not 0. -/
def Dev.servingPipes (d : Dev) : List Nat :=
  (List.range 17).filter (fun n =>
    d.rdF (a_PIPE_ROLE n) f_PIPE_ROLE_ROLE = 0 &&
    d.inF (a_TPT_CFG (d.rdF (a_PIPE_ROLE n) f_PIPE_ROLE_PORT)) f_TPT_CFG_LANE_MODE ≠ 0)

/-- ALIGN_LAG that an entry would compute: the largest K over the pipelines of active ports (R177). -/
def Dev.alignLag (d : Dev) : Nat := (d.servingPipes.map d.alignK).foldl max 0

/-- Batten slots that pipeline n would use (R176). -/
def Dev.battenSlots (d : Dev) (n : Nat) : Nat :=
  let k := d.alignK n
  let rows := (d.portForm (d.rdF (a_PIPE_ROLE n) f_PIPE_ROLE_PORT)).1
  max 2 (d.rdF (a_PIPE_ALIGN_CFG n) f_PIPE_ALIGN_CFG_IN_SLOTS) + (if rows = 1 then 0 else rows * (2 * k + 1)) + (d.alignLag - k)

/-- The batten store holds what every serving pipeline needs (R176). -/
def Dev.battenOk (d : Dev) : Bool := d.servingPipes.all (fun n => d.battenSlots n ≤ 64)

/-- rows × W of every serving pipeline fits its coefficient tables (R167). -/
def Dev.coefSizeOk (d : Dev) : Bool :=
  d.servingPipes.all (fun n =>
    let p := d.rdF (a_PIPE_ROLE n) f_PIPE_ROLE_PORT
    (d.portForm p).1 * d.portWidth p ≤ (if d.inB (a_PIPE_COEF_CTRL n) f_PIPE_COEF_CTRL_WIDE then 98304 else 49152))

/-- Entry to an acquiring mode: ALIGN_LAG and SLOTS are computed and shown (R176, R177). What else it sets in a pipeline holds from its first line
on (`Dev.pipeTake`). -/
def Dev.pipesEnter (d : Dev) : Dev :=
  let lag := d.alignLag
  iter 17 (fun n d =>
    (d.wrForce (a_PIPE_ALIGN_CFG n) f_PIPE_ALIGN_CFG_ALIGN_LAG lag).wrF (a_PIPE_BATTEN n) f_PIPE_BATTEN_SLOTS (d.battenSlots n)) d

/-! ### Coefficient banks (R168, R169) -/

/-- MARK: LOADED of the idle bank is set; a wide set is one set, marked whole (log entry 21). -/
def Dev.coefMark (d : Dev) (n : Nat) : Dev :=
  let a := a_PIPE_COEF_CTRL n
  let v := d.rdF a f_PIPE_COEF_CTRL_LOADED
  if d.inB a f_PIPE_COEF_CTRL_WIDE then d.wrF a f_PIPE_COEF_CTRL_LOADED 3
  else d.wrF a f_PIPE_COEF_CTRL_LOADED (v ||| (if d.rdF a f_PIPE_COEF_CTRL_IN_FORCE = 0 then 2 else 1))

/-- SWAP: refused with ERR 2 for a wide set; otherwise it waits for the course boundary. -/
def Dev.coefSwap (d : Dev) (n : Nat) : Dev :=
  let a := a_PIPE_COEF_CTRL n
  if d.inB a f_PIPE_COEF_CTRL_WIDE then (d.wrB a f_PIPE_COEF_CTRL_SWAP false).wrF a f_PIPE_COEF_CTRL_ERR 2
  else d.wrB a f_PIPE_COEF_CTRL_SWAP true

/-- A swap due at a course boundary: the idle bank comes into force where it is loaded, otherwise ERR = 1. -/
def Dev.coefBoundary (d : Dev) (n : Nat) : Dev :=
  let a := a_PIPE_COEF_CTRL n
  let f := d.rdF a f_PIPE_COEF_CTRL_IN_FORCE
  let d := d.unask a f_PIPE_COEF_CTRL_SWAP
  if (d.rdF a f_PIPE_COEF_CTRL_LOADED).testBit (1 - f) then
    (d.wrF a f_PIPE_COEF_CTRL_ERR 0).wrForce a f_PIPE_COEF_CTRL_IN_FORCE (1 - f)
  else d.wrF a f_PIPE_COEF_CTRL_ERR 1

/-! ### Statistics (R179 to R183) -/

/-- Statistics of a course before its first line. -/
def Stats.start (c : CourseCtx) (port rows : Nat) : Stats where
  ctx := c
  port := port
  rows := rows
  hist := List.replicate 256 0
  zones := List.replicate 64 (0, 0, 0, 0)
  lines := 0
  voids := 0
  sat := 0
  flags := 0
  epochA := none
  epochB := 0
  changes := 0
  split := 0
  partial_ := false

/-- A valid pixel of a non-void line enters the histogram and its zone. -/
def Stats.pixel (x : Stats) (src : Nat) (w i : Nat) (y : Smp) (cs : List Smp) : Stats :=
  match y with
  | none => x
  | some v =>
    let hv := if src = 0 then v else (cs.getD (src - 1) none).getD 0
    let z := 64 * i / max 1 w
    let (a, b, c, k) := lget x.zones z (0, 0, 0, 0)
    let ch (j : Nat) : Nat := (cs.getD j none).getD 0
    { x with
      hist := lset x.hist (hv / 256) (min (lget x.hist (hv / 256) 0 + 1) (2 ^ 32 - 1))
      zones := lset x.zones z (a + ch 0, b + ch 1, c + ch 2, k + 1) }

/-- A line's epoch and flags enter the statistics of its course (R180, R183). -/
def Stats.line (x : Stats) (l : OutLine) (sat : Nat) : Stats :=
  let void := l.flags.testBit 0
  let x := { x with
    flags := x.flags ||| ((l.flags / 8 % 2) * 8 + (l.flags / 16 % 8) * 16)
    sat := x.sat + sat, lines := if void then x.lines else x.lines + 1, voids := if void then x.voids + 1 else x.voids }
  if void then x
  else
    match x.epochA with
    | none => { x with epochA := some l.epoch, epochB := l.epoch, split := l.desc.line }
    | some _ =>
      if l.epoch = x.epochB then x else { x with epochB := l.epoch, changes := x.changes + 1, split := l.desc.line }

/-- The 1,728 bytes of a statistics record (R180). -/
def Stats.bytes (x : Stats) (st : Stamp) (epoch : BitVec 16) : List Byte :=
  let log2 := Nat.log2 x.ctx.len
  let mixed := x.changes ≠ 0
  let fl := (if mixed then 1 else 0) + (if 1 < x.changes then 2 else 0) + (if x.partial_ then 4 else 0) + x.flags % 128 / 8 * 8
  st.bytes ++ leBytes 2 epoch.toNat ++ leBytes 2 0x40 ++ leBytes 8 (x.ctx.first / 2 ^ log2) ++
  [BitVec.ofNat 8 x.port, BitVec.ofNat 8 x.rows, BitVec.ofNat 8 fl, 0] ++
  leBytes 2 (x.epochA.getD 0).toNat ++ leBytes 2 x.epochB.toNat ++ leBytes 8 (if mixed then x.split else 0) ++
  leBytes 4 x.lines ++ leBytes 4 x.voids ++ leBytes 4 x.sat ++ zeros 12 ++
  x.hist.flatMap (leBytes 4) ++
  x.zones.flatMap (fun z =>
    let m (s : Nat) : List Byte := leBytes 2 (if z.2.2.2 = 0 then 0 else (rdiv s z.2.2.2).toNat)
    m z.1 ++ m z.2.1 ++ m z.2.2.1) ++
  x.zones.flatMap (fun z => leBytes 4 z.2.2.2)

/-- Send a statistics record of pipeline n with the TIME given (R180); classification keeps it for its course record. -/
def Dev.sendStats (d : Dev) (n : Nat) (x : Stats) (time : W64) (epoch : BitVec 16) : Dev :=
  let (st, d) := d.mkStamp n time
  let b := x.bytes st epoch
  let d := { d with cls := { d.cls with courses := d.cls.courses.map (fun (c : ClsCourse) =>
    if c.ctx.first = x.ctx.first then { c with stats := c.stats ++ [(x.port, b)] } else c) } }
  d.fly .record ⟨st, epoch, .ring (.whole (d.cF x.ctx (a_PIPE_STAT_CFG n) f_PIPE_STAT_CFG_STAT_RING) 1 b)⟩

/-- Where a course ended: TIME and epoch of the next course's first line once that has been issued, or of the instant acquisition stopped where it
stopped before; the third answer says which (R35, R180). -/
def Dev.courseEnd (d : Dev) (c : CourseCtx) : Option (W64 × BitVec 16 × Bool) :=
  match d.wpu.issued.find? (fun l => l.line = c.first + c.len && l.ctx.run = c.run) with
  | some l => some (l.time, l.epoch, false)
  | none => if d.runOver c then some (d.wpu.stopAt.1, d.wpu.stopAt.2, true) else none

/-- Acquisition of the lines that pipeline n holds has ended and no slot of its port holds one more: what it has not received will not come
(R177). -/
def Dev.inputOver (d : Dev) (n : Nat) : Bool :=
  let x := d.pipe n
  match x.hist with
  | r :: _ =>
    let run := r.desc.ctx.run
    d.runOver r.desc.ctx && x.input.all (fun i => i.desc.ctx.run ≠ run) &&
    (d.port (d.pipePort r.desc.ctx n)).slots.all (fun s => s.desc.ctx.run ≠ run)
  | [] => !d.acquiring && x.input.isEmpty

/-- Statistics whose TIME is known are sent: the next course's first line has been issued, or acquisition has ended (R180). -/
def Dev.flushStats (d : Dev) (n : Nat) : Dev :=
  (d.pipe n).ready.foldl (fun d x =>
    match d.courseEnd x.ctx with
    | some (t, e, stopped) =>
      (d.setPipe n { d.pipe n with ready := (d.pipe n).ready.filter (fun y => y.ctx.first ≠ x.ctx.first || y.ctx.run ≠ x.ctx.run) }).sendStats n
        { x with partial_ := x.partial_ || stopped } t e
    | none => d) d

/-- A line held in pipeline n has not been emitted. -/
def PipeSt.owes (x : PipeSt) : Bool := x.hist.any (fun r => match x.done with | some k => decide (k < r.desc.line) | none => true)

/-- Acquisition has ended and every line has left: an incomplete course is sent flagged PARTIAL (R180, R189). -/
def Dev.pipeFinish (d : Dev) (n : Nat) : Dev :=
  let x := d.pipe n
  let d := if d.inputOver n && !x.owes then
      match x.stats with
      | some s => d.setPipe n { x with stats := none, ready := x.ready ++ [{ s with partial_ := true }] }
      | none => d
    else d
  d.flushStats n

/-! ### The comparison of the spare (R503, R511) -/

/-- A comparison comes to its end: a patrolled target with a differing line is reported (R503); shadow courses end a takeover (R512). -/
def Dev.patrolEnd (d : Dev) (c : Comp) : Dev :=
  if c.shadow then d.takeEnd c.diffs
  else
    let d := d.inc a_ERR_PATROL f_ERR_PATROL_COURSES
    if c.diffs = 0 then d
    else (d.inc a_ERR_PATROL f_ERR_PATROL_MISMATCH_CNT).reportErr 0x0C 43 (c.target + min c.diffs 0xFFFF * 2 ^ 16)

/-- An output line of the spare (n = none) or of pipeline n is compared with its counterpart, sample and validity bit; lines void in either are
left out of a shadow. -/
def Dev.compareLine (d : Dev) (n : Option Nat) (line : Nat) (void : Bool) (samples : List Smp) : Dev :=
  let x := d.spare
  match x.comps.find? (fun c => c.first ≤ line && line ≤ c.last && (match n with | some k => decide (k = c.target) | none => true)) with
  | none => d
  | some c =>
    match (if n.isNone then x.its else x.spare).find? (fun y => y.1 = line) with
    | none =>
      { d with spare := if n.isNone then { x with spare := x.spare ++ [(line, void, samples)] }
                        else { x with its := x.its ++ [(line, void, samples)] } }
    | some y =>
      let differs := y.2.2 ≠ samples && !(c.shadow && (void || y.2.1))
      let c' : Comp := { c with diffs := if differs then c.diffs + 1 else c.diffs }
      let d := if differs && c.shadow then d.inc a_CAL_SVC_STAT f_CAL_SVC_STAT_DIFF else d
      let rest := x.comps.filterMap (fun z => if z = c then (if line = c.last then none else some c') else some z)
      let d := { d with spare := { x with
        comps := rest, spare := x.spare.filter (fun z => z.1 ≠ line), its := x.its.filter (fun z => z.1 ≠ line) } }
      if line = c.last then d.patrolEnd c' else d

/-! ### PIPE_LINE (R160 to R187) -/

/-- The pipeline whose settings pipeline n works with: a patrolling spare works with those of its target (log entry 22). -/
def Dev.settingsOf (d : Dev) (c : CourseCtx) (n : Nat) : Nat :=
  if d.pipeRole c n = 2 then
    ((List.range 17).find? (fun m => d.pipeRole c m = 0 && d.pipePort c m = d.pipePort c n)).getD n
  else n

/-- Pipeline n may take line i: lines before it have been received, and those of an earlier acquisition have left with their statistics. -/
def Dev.mayTake (d : Dev) (n : Nat) (i : InLine) : Bool :=
  let x := d.pipe n
  !(d.port (d.pipePort i.desc.ctx n)).slots.any (fun s => s.desc.line < i.desc.line) &&
  (x.hist.all (fun r => r.desc.ctx.run = i.desc.ctx.run) || (!x.owes && x.stats.isNone))

/-- Pipeline n as the line it takes next finds it: the first line of a mode sees the line gain 16,384 (R172), and the first one of an acquisition no
lines before it. -/
def PipeSt.enter (x : PipeSt) (c : CourseCtx) : PipeSt :=
  let x := if x.entry = some c.entry then x else { x with lg := 16384, entry := some c.entry }
  if x.hist.all (fun r => r.desc.ctx.run = c.run) then x else { x with hist := [], done := none }

/-- A line of the input store goes through stages 1 to 4. -/
def Dev.pipeTake (d : Dev) (n m : Nat) (i : InLine) : Dev :=
  let x := (d.pipe n).enter i.desc.ctx
  let (r, repl, inval) := d.earlyStages m x.lg i
  let d := d.setPipe n { x with input := x.input.drop 1, hist := (r :: x.hist).take 64, lg := r.lg }
  let d := d.inc (a_PIPE_STAT0 n) f_PIPE_STAT0_SAT_CNT r.sat
  let d := if r.hold then d.inc (a_PIPE_STAT0 n) f_PIPE_STAT0_LG_HOLD_CNT else d
  (d.inc (a_PIPE_STAT1 n) f_PIPE_STAT1_DPR_REPL repl).inc (a_PIPE_STAT1 n) f_PIPE_STAT1_DPR_INVALID inval

/-- The first line held and not yet emitted whose lag has passed, or that will see no further line (R177). -/
def Dev.nextOut (d : Dev) (n : Nat) : Option RowLine :=
  let x := d.pipe n
  let todo := x.hist.reverse.filter (fun r => match x.done with | some k => k < r.desc.line | none => true)
  match todo, x.hist with
  | r :: _, top :: _ =>
    if r.desc.line + d.cF r.desc.ctx (a_PIPE_ALIGN_CFG n) f_PIPE_ALIGN_CFG_ALIGN_LAG ≤ top.desc.line || d.inputOver n then some r else none
  | _, _ => none

/-- Stages 5 to 8 of a line in pipeline n with the settings of m: the output line, its columns before stage 8 with their channels, and
the samples clamped there. -/
def Dev.lateStages (d : Dev) (n m : Nat) (r : RowLine) : OutLine × List (Smp × List Smp) × Nat :=
  let c := r.desc.ctx
  let p := d.pipePort c n
  let (w, nr, _) := d.lineForm c p
  let hist := (d.pipe n).hist
  let line := r.desc.line
  let delay := d.cF c (a_PIPE_ALIGN_CFG m) f_PIPE_ALIGN_CFG_ROW_DELAY
  let rev := r.desc.dir
  let colour := 1 < nr
  let rows := (List.range nr).map (fun k =>
    let off := if colour then rowOffset delay nr k rev else 0
    (List.range w).map (fun i => alignedAt hist line off k i))
  let src := if colour then alignReads delay nr rev else []
  let (lo, hi) := if colour then alignSpan delay nr rev else (0, -1)
  let has (j : Int) : Option RowLine := heldLine hist (line + j)
  let turn := (d.cB c a_WPU_CTRL f_WPU_CTRL_REV_MODE) &&
    src.any (fun j => match has j with | some y => y.desc.dir ≠ rev | none => false)
  let gap := (List.range (hi + 1 - lo).toNat).any (fun k =>
    match has (lo + k) with | some y => 0 < y.desc.gap | none => false)
  let order := d.capField p 15 1
  let chans := channels nr (order.testBit 2) (order.testBit 3) rows
  let wb := a_PIPE_WB m
  let mx := a_PIPE_MIX m
  let gains := [d.cF c wb f_PIPE_WB_WB_R, d.cF c wb f_PIPE_WB_WB_G, d.cF c wb f_PIPE_WB_WB_B]
  let ks := [d.cS c mx f_PIPE_MIX_K_R, d.cS c mx f_PIPE_MIX_K_G, d.cS c mx f_PIPE_MIX_K_B]
  let px := (List.range w).map (fun i => mixPixel gains ks (chans.map (fun ch => ch.getD i none)))
  let px := if r.void then px.map (fun _ => (none, [], 0)) else px
  let s6 := (px.map (·.2.2)).foldl (· + ·) 0
  let ys := px.map (·.1)
  let rs := d.cB c (a_PIPE_RS_CFG m) f_PIPE_RS_CFG_EN
  let coef (a : Nat) : Int := (d.under c a).toInt
  let bank := d.coefBank c m
  let k (ph j : Nat) : Int := sext (d.tabLe 3 m bank (8 * ph + 2 * j) 2) 16
  let out := if rs then
      (List.range (d.cF c (a_PIPE_RS_CFG m) f_PIPE_RS_CFG_N_M1 + 1)).map (fun u =>
        resampleAt k (coef (a_PIPE_RS_C0 m)) (coef (a_PIPE_RS_C1 m)) (coef (a_PIPE_RS_C2 m)) (coef (a_PIPE_RS_C3 m)) ys u)
    else ys.map (fun y => (y, 0))
  let sat := s6 + (out.map (·.2)).foldl (· + ·) 0
  let lg := if d.cB c (a_PIPE_LG_CFG m) f_PIPE_LG_CFG_EN then r.lg else 16384
  let flag (b : Bool) (k : Nat) : Nat := if b then 2 ^ k else 0
  let flags := flag r.void 0 + flag r.short 1 + flag r.long 2 + flag r.ovf 3 + flag turn 4 + flag gap 5 + flag r.hold 6 +
    flag (0 < r.sat + sat) 7
  (⟨r.desc, n, p, r.epoch, d.cF c (a_PIPE_RS_CFG m) f_PIPE_RS_CFG_G0, out.length, lg, flags, out.map (·.1)⟩,
   px.map (fun t => (t.1, t.2.1)), sat)

/-- The statistics of the course of an output line of pipeline n, which takes the line in (R179). -/
def Dev.statsLine (d : Dev) (n : Nat) (l : OutLine) (px : List (Smp × List Smp)) (sat : Nat) : Dev :=
  let c := l.desc.ctx
  let a := a_PIPE_STAT_CFG n
  if !d.cB c a f_PIPE_STAT_CFG_EN then d
  else
    let x := d.pipe n
    let rows := (d.lineForm c l.port).2.1
    let s := match x.stats with
      | some s => if s.ctx.first = c.first then s else Stats.start c l.port rows
      | none => Stats.start c l.port rows
    let src := d.cF c a f_PIPE_STAT_CFG_HIST_SRC
    let s := s.line l sat
    let s := if l.flags.testBit 0 then s
      else ((List.zip (List.range px.length) px).foldl (fun s t => s.pixel src px.length t.1 t.2.1 t.2.2) s)
    if l.desc.line + 1 = c.first + c.len then
      (d.setPipe n { x with stats := none, ready := x.ready ++ [s] }).flushStats n
    else d.setPipe n { x with stats := some s }

/-- An output line leaves pipeline n: counters, statistics, and the mosaic line merge for an active pipeline (R174, R186, R187). -/
def Dev.pipeEmit (d : Dev) (n m : Nat) (r : RowLine) : Dev :=
  let (l, px, sat) := d.lateStages n m r
  let d := (d.setPipe n { d.pipe n with done := some r.desc.line }).calStage6 n r (px.map (·.1))
  let d := d.inc (a_PIPE_STAT0 n) f_PIPE_STAT0_SAT_CNT sat
  let d := if r.void then d.inc (a_PIPE_STAT0 n) f_PIPE_STAT0_VOID_CNT else d
  let d := if l.flags.testBit 4 then d.inc (a_PIPE_STAT1 n) f_PIPE_STAT1_TURN_CNT else d
  let role := d.pipeRole r.desc.ctx n
  let d := if role = 2 || role = 3 then d.compareLine none r.desc.line r.void l.samples
    else if role = 0 then d.compareLine (some n) r.desc.line r.void l.samples
    else d
  if role = 0 then
    let d := d.statsLine n l px (r.sat + sat)
    let (st, d) := d.mkStamp n r.desc.time
    d.fly .mosaic ⟨st, r.desc.epoch, .line l⟩
  else d

/-- A spare that begins a comparison starts from its target's line history and last line gain (log entry 22); it waits until the target
has taken in every line before. Answers the device, and whether the spare may go on. -/
def Dev.spareStart (d : Dev) (n : Nat) (i : InLine) : Dev × Bool :=
  let role := d.pipeRole i.desc.ctx n
  if !(role = 2 || role = 3) || (d.pipe n).hist.any (fun r => r.desc.line + 1 = i.desc.line) then (d, true)
  else
    match d.spare.comps.find? (fun c => c.first ≤ i.desc.line && i.desc.line ≤ c.last) with
    | none => (d, true)
    | some c =>
      let t := c.target
      let y := d.pipe t
      if y.input.any (fun j => j.desc.line < i.desc.line) || (d.port (d.pipePort i.desc.ctx n)).slots.any (fun s => s.desc.line < i.desc.line)
      then (d, false)
      else
        let h := y.hist.filter (fun r => r.desc.line < i.desc.line)
        (d.setPipe n { d.pipe n with
          hist := h, lg := (match h with | r :: _ => r.lg | [] => 16384), done := some (i.desc.line - 1), entry := y.entry }, true)

/-- PIPE_LINE: pipeline n takes in the next line whose slot has closed, lines in their order, and emits the line that this completes (R161, R177). -/
def Dev.pipeLine (d : Dev) (n : Nat) : Dev :=
  let d := match (d.pipe n).input with
    | [] => d
    | i :: _ =>
      let (d, go) := d.spareStart n i
      if go && d.mayTake n i then (d.calTake n i).pipeTake n (d.settingsOf i.desc.ctx n) i else d
  let d := match d.nextOut n with
    | some r => d.pipeEmit n (d.settingsOf r.desc.ctx n) r
    | none => d
  d.pipeFinish n

/-- PIPE_LINE (R161). -/
def execPipeLine (dt : Nat) (n : Fin 17) (s : State) : Host.Outcome State Fault Refusal :=
  .next (s.after dt (fun d => d.pipeLine n))

end Sys2Proof.Machine
end

