-- ==== Sys2Proof/Machine/Mosaic.lean ====
section
/-! DEFINITION. The mosaic (R190 to R215): geometry, corrections, edges, positions, the line it makes, seam registration and the course
record. -/

namespace Sys2Proof.Machine

/-! ### Geometry (R190 to R193) -/

/-- PITCH_NM in force for a course, within its limits. -/
def Dev.gridPitch (d : Dev) (c : CourseCtx) : Nat := clampN (d.cF c a_MOS_GRID f_MOS_GRID_PITCH_NM) 1000 1000000

/-- W_M. -/
def Dev.gridWidth (d : Dev) (c : CourseCtx) : Nat := d.cF c a_MOS_GRID f_MOS_GRID_WIDTH_M1 + 1

/-- grid_nm(q) of R190. -/
def Dev.gridNm (d : Dev) (c : CourseCtx) (q : Int) : Int := rhe (q * d.gridPitch c) 6

/-- The active cameras in cross-direction order (R191). -/
def Dev.camsOf (d : Dev) (c : CourseCtx) : List Cam :=
  let l := (List.range 17).filter (fun n =>
    d.pipeRole c n = 0 && d.cF c (a_TPT_CFG (d.pipePort c n)) f_TPT_CFG_LANE_MODE ≠ 0)
  (l.map (fun n => (⟨d.pipePort c n, n, d.cF c (a_PIPE_RS_CFG n) f_PIPE_RS_CFG_G0, d.pipeCols c n⟩ : Cam))).mergeSort
    (fun x y => x.g0 ≤ y.g0)

/-- Camera i of a list. -/
def camAt (cams : List Cam) (i : Nat) : Cam := lget cams i ⟨0, 0, 0, 0⟩

/-- Width w_s of shingle s. -/
def shingle (cams : List Cam) (s : Nat) : Nat := (camAt cams s).g0 + (camAt cams s).n - (camAt cams (s + 1)).g0

/-- The cameras meet R191. -/
def geometryOk (wm : Nat) (cams : List Cam) : Bool :=
  let ss := List.range (cams.length - 1)
  ss.all (fun s => decide ((camAt cams s).g0 ≠ (camAt cams (s + 1)).g0) && decide (64 ≤ shingle cams s)) &&
  cams.all (fun x => decide (x.g0 + x.n ≤ wm)) &&
  (List.range (cams.length - 2)).all (fun s => decide ((camAt cams s).g0 + (camAt cams s).n ≤ (camAt cams (s + 2)).g0))

/-- S_s of R192 for every shingle. -/
def Dev.seamCols (d : Dev) (c : CourseCtx) (cams : List Cam) : List Nat :=
  (List.range (cams.length - 1)).map (fun s =>
    let w := shingle cams s
    let pos := d.cF c (a_MOS_SEAM_CFG s) f_MOS_SEAM_CFG_POS
    (camAt cams (s + 1)).g0 + (if pos = 0 then w / 2 else clampN pos 16 (w - 16)))

/-- Index of the camera that owns column g (R193). -/
def ownerOf (c : CourseCtx) (g : Nat) : Option Nat :=
  let cover := (List.range c.cams.length).filter (fun i => let x := camAt c.cams i; x.g0 ≤ g && g < x.g0 + x.n)
  match cover with
  | [] => none
  | [i] => some i
  | i :: j :: _ => if g < lget c.seams i 0 then some i else some j

/-- The other camera at a column of a shingle. -/
def otherAt (c : CourseCtx) (g i : Nat) : Option Nat :=
  (List.range c.cams.length).find? (fun j => let x := camAt c.cams j; j ≠ i && x.g0 ≤ g && g < x.g0 + x.n)

/-! ### Corrections (R194, R195) -/

/-- MD_MAX in force: 7 acts as 6. -/
def Dev.mdMax (d : Dev) (c : CourseCtx) : Nat := min 6 (d.cF c a_MOS_CFG f_MOS_CFG_MD_MAX)

/-- Index of the anchor camera (R194). -/
def Dev.anchor (d : Dev) (c : CourseCtx) : Nat :=
  let half := c.cams.length / 2
  if d.cB c a_MOS_CFG f_MOS_CFG_ANCHOR_AUTO then half
  else (c.cams.findIdx? (fun x => x.port = d.cF c a_MOS_CFG f_MOS_CFG_ANCHOR)).getD half

/-- D_i before the clamp: the registrations summed from the anchor (R194). -/
def Dev.chainOf (d : Dev) (c : CourseCtx) (i : Nat) : Int × Int :=
  let a := d.anchor c
  let seg (lo hi : Nat) : Int × Int :=
    (List.range (hi - lo)).foldl (fun acc k => let r := lget c.reg (lo + k) (0, 0); (acc.1 + r.1, acc.2 + r.2)) (0, 0)
  if a ≤ i then seg a i else let s := seg i a; (-s.1, -s.2)

/-- D_i, and whether DY was clamped. -/
def Dev.camD (d : Dev) (c : CourseCtx) (i : Nat) : Int × Int × Bool :=
  let (x, y) := d.chainOf c i
  let m : Int := 64 * d.mdMax c
  let y' := clampI y (-m) m
  (x, y', y' ≠ y)

/-- The output of the camera on a port for a line of the acquisition of c, among those the mosaic holds. -/
def Dev.gotLine (d : Dev) (c : CourseCtx) (port : Nat) (line : Int) : Option OutLine :=
  d.mos.got.find? (fun o => o.port = port && o.desc.ctx.run = c.run && decide ((o.desc.line : Int) = line))

/-- A pipeline output sample at a grid column: none where not covered, invalid or void. -/
def outAt (o : Option OutLine) (x : Int) : Smp :=
  match o with
  | none => none
  | some l =>
    if l.flags.testBit 0 || decide (x < l.g0) || decide ((l.g0 : Int) + l.n ≤ x) then none
    else l.samples.getD (x - l.g0).toNat none

/-- A weighted sum in which a term of weight zero is not read. -/
def weigh (terms : List (Nat × Smp)) : Option Int :=
  if terms.all (fun t => t.1 = 0 || t.2.isSome) then
    some ((terms.map (fun t => ((t.1 * t.2.getD 0 : Nat) : Int))).foldl (· + ·) 0)
  else none

/-- Sample g of line x from camera i, corrected (R195). -/
def Dev.corrected (d : Dev) (x : LineDesc) (i g : Nat) : Smp :=
  let c := x.ctx
  let p := (camAt c.cams i).port
  let (dx, dy, _) := d.camD c i
  let sx := 64 * (g : Int) + dx
  let sy := (if x.dir then -1 else 1) * dy
  let ix := fshr sx 6
  let fx := (sx - ix * 64).toNat
  let iy := fshr sy 6
  let fy := (sy - iy * 64).toNat
  let h (k j : Int) : Smp := outAt (d.gotLine c p (x.line + iy + k)) (ix + j)
  (weigh [((64 - fx) * (64 - fy), if (64 - fx) * (64 - fy) = 0 then none else h 0 0), (fx * (64 - fy), if fx * (64 - fy) = 0 then none else h 0 1),
    ((64 - fx) * fy, if (64 - fx) * fy = 0 then none else h 1 0), (fx * fy, if fx * fy = 0 then none else h 1 1)]).map
    (fun v => (rhe v 12).toNat)

/-- A line read for line x under R195 has the other direction (R196). -/
def Dev.seamTurn (d : Dev) (x : LineDesc) : Bool :=
  (List.range x.ctx.cams.length).any (fun i =>
    let sy := (if x.dir then -1 else 1) * (d.camD x.ctx i).2.1
    let iy := fshr sy 6
    let rows := if sy - iy * 64 = 0 then [iy] else [iy, iy + 1]
    rows.any (fun k => match d.gotLine x.ctx (camAt x.ctx.cams i).port (x.line + k) with | some o => o.desc.dir ≠ x.dir | none => false))

/-- The samples of mosaic line x, and the columns borrowed with the seam each belongs to (R193). -/
def Dev.mosaicSamples (d : Dev) (x : LineDesc) : List (Smp × Option Nat) :=
  let borrow := d.cB x.ctx a_MOS_CFG f_MOS_CFG_BORROW_EN
  (List.range (d.gridWidth x.ctx)).map (fun g =>
    match ownerOf x.ctx g with
    | none => (none, none)
    | some i =>
      match d.corrected x i g with
      | some v => (some v, none)
      | none =>
        if !borrow then (none, none)
        else
          match otherAt x.ctx g i with
          | none => (none, none)
          | some j =>
            match d.corrected x j g with
            | some v => (some v, some (min i j))
            | none => (none, none))

/-! ### Edges (R205 to R207) -/

/-- Columns in search order: up from 0, or down from W_M − 1. -/
def searchOrder (wm : Nat) (up : Bool) : List Nat := if up then List.range wm else (List.range wm).reverse

/-- e(v) of R205. -/
def edgeLevel (pol : Bool) (thr v : Nat) : Int := if pol then (thr : Int) - v else (v : Int) - thr

/-- The search of R205 and R206: the column found and RAW_Q. `inRange` is the search range. -/
def edgeSearch (samples : List Smp) (wm run : Nat) (up pol : Bool) (thr : Nat) (inRange : Nat → Bool) : Option (Nat × Int) :=
  let on (g : Int) : Bool :=
    if g < 0 || decide ((wm : Int) ≤ g) then false
    else match samples.getD g.toNat none with | some v => decide (0 ≤ edgeLevel pol thr v) | none => false
  let dir : Int := if up then 1 else -1
  match (searchOrder wm up).find? (fun g => inRange g && (List.range run).all (fun k => on (g + dir * k))) with
  | none => none
  | some g =>
    let p : Int := g - dir
    let pv : Smp := if p < 0 || decide ((wm : Int) ≤ p) || !inRange p.toNat then none else samples.getD p.toNat none
    match pv, samples.getD g none with
    | some a, some b =>
      let ep := edgeLevel pol thr a
      let ef := edgeLevel pol thr b
      let frac := if ef - ep ≤ 0 then 0 else rdiv (-64 * ep) (ef - ep)
      some (g, if up then 64 * p + frac else 64 * p - frac)
    | _, _ => some (g, 64 * (g : Int))

/-- The edge of side k (0 operator, 1 drive) on a line; none where its search is off. -/
def Dev.findEdge (d : Dev) (c : CourseCtx) (samples : List Smp) (k : Nat) : Option (Nat × Int) :=
  let a := a_MOS_EDGE_CFG
  let up := (k = 0) != d.cB c a_MOS_CFG f_MOS_CFG_OS_SIDE
  let win := d.cF c a f_MOS_EDGE_CFG_WIN
  let e := lget d.mos.edges k .reset
  let inRange (g : Nat) : Bool :=
    match e.tracking, e.filt with
    | true, some q => decide ((((g : Int) - fshr q 6).natAbs) ≤ win)
    | _, _ => true
  edgeSearch samples (d.gridWidth c) (max 1 (d.cF c a f_MOS_EDGE_CFG_RUN)) up (d.cB c a f_MOS_EDGE_CFG_POL)
    (d.cF c a f_MOS_EDGE_CFG_THR) inRange

/-- EDGE_POS value of none. -/
def noQ : Nat := 0x80000000

/-- One side takes the outcome of its search (R207): events, counters and EDGE_POS follow. -/
def Dev.takeEdge (d : Dev) (c : CourseCtx) (k : Nat) (found : Option Int) : Dev :=
  let a := a_MOS_EDGE_CFG
  let e := lget d.mos.edges k .reset
  let set (d : Dev) (e : EdgeSt) (raw : Nat) : Dev :=
    let d := { d with mos := { d.mos with edges := lset d.mos.edges k e } }
    let r := a_MOS_EDGE_POS k
    (d.wrF r f_MOS_EDGE_POS_RAW_Q raw).wrF r f_MOS_EDGE_POS_FILT_Q (match e.filt with | some q => uwrap q 32 | none => noQ)
  match found with
  | some q =>
    let d := if e.tracking then d else d.raiseEvt (163 + k)
    let f := match e.tracking, e.filt with
      | true, some y =>
        let sh := d.cF c a f_MOS_EDGE_CFG_FILT_SHIFT
        if sh = 0 then q else y + rhe (q - y) sh
      | _, _ => q
    set d ⟨true, some f, 0, false⟩ (uwrap q 32)
  | none =>
    let lost := e.lost + 1
    let d := if e.filt.isSome && !e.wasLost then d.raiseEvt (161 + k) else d
    let back : Bool := max 1 (d.cF c a f_MOS_EDGE_CFG_LOST_LINES) ≤ lost
    set d { e with tracking := e.tracking && !back, lost := if back then 0 else lost, wasLost := true } noQ

/-! ### Positions (R208, R210) -/

/-- extrap_nm of R87. -/
def extrapNm (t nm at_ v : Int) (valid : Bool) : Int := if valid then nm + rhe (v * (t - at_)) 32 else nm

/-- EXPO_NS of the anchor port's epoch of line x (R210). -/
def Dev.anchorExpo (d : Dev) (x : LineDesc) : Nat :=
  let p := (camAt x.ctx.cams (d.anchor x.ctx)).port
  let y := d.port p
  match d.gotLine x.ctx p x.line with
  | some o => (match y.epochs.find? (fun e => e.2.1 = o.epoch) with | some e => e.2.2 | none => (y.epochOf x.line).2)
  | none => (y.epochOf x.line).2

/-- MD_POS of line x, and whether it was extrapolated (R210). Lines after a time step have another epoch and are not used. -/
def Dev.mdPos (d : Dev) (x : LineDesc) : Int × Bool :=
  let tc : Int := x.time.toNat + d.trigLat + d.anchorExpo x / 2
  let after := d.wpu.issued.filter (fun l => x.line ≤ l.line && l.epoch = x.epoch && decide ((l.time.toNat : Int) ≤ tc))
  let j := after.foldl (fun (b : LineDesc) l => if b.line < l.line then l else b) x
  let tj : Int := j.time.toNat
  match d.wpu.issued.find? (fun l => l.line = j.line + 1) with
  | some k =>
    if k.dirChange || k.epoch ≠ j.epoch then (extrapNm tc j.pos tj j.speed j.speedValid, true)
    else (j.pos + rdiv ((k.pos - j.pos) * (tc - tj)) ((k.time.toNat : Int) - tj), false)
  | none => (extrapNm tc j.pos tj j.speed j.speedValid, true)

/-! ### A mosaic line (R197, R211) -/

/-- An item carries a pipeline output of the acquisition of c. -/
def Item.ofRun (x : Item) (c : CourseCtx) : Bool := match x.payload with | .line o => o.desc.ctx.run = c.run | _ => false

/-- The acquisition of c has ended, and nothing of it that would become a pipeline output is left. -/
def Dev.pipesDone (d : Dev) (c : CourseCtx) : Bool :=
  d.runOver c && d.ports.all (fun p => p.slots.all (fun s => s.desc.ctx.run ≠ c.run)) &&
  d.pipes.all (fun x => x.input.all (fun i => i.desc.ctx.run ≠ c.run) &&
    x.hist.all (fun r => r.desc.ctx.run ≠ c.run || (match x.done with | some k => decide (r.desc.line ≤ k) | none => false))) &&
  d.mrg.mosaic.fly.all (fun i => !i.ofRun c) && d.mrg.mosaic.held.all (fun i => !i.1.ofRun c)

/-- Line x may leave: every active camera has delivered line L + MD_MAX, or no more will come (R197). -/
def Dev.mosaicDue (d : Dev) (x : LineDesc) : Bool :=
  x.ctx.cams.all (fun c => d.mos.got.any (fun o => o.port = c.port && o.desc.ctx.run = x.ctx.run && decide (x.line + d.mdMax x.ctx ≤ o.desc.line))) || d.pipesDone x.ctx

/-- A course's record before its first line. -/
def MosCourse.start (c : CourseCtx) (md : Int) : MosCourse where
  ctx := c
  lines := 0
  voids := 0
  mdFirst := md
  mdLast := md
  os := none
  ds := none
  osLost := 0
  dsLost := 0
  flags := 0
  borrow := List.replicate 15 0
  partial_ := false

/-- A range widened to a value. -/
def widen (r : Option (Int × Int)) (v : Int) : Option (Int × Int) :=
  match r with
  | none => some (v, v)
  | some (a, b) => some (min a v, max b v)

/-- Mosaic line x is made (R193 to R211). -/
def Dev.makeLine (d : Dev) (x : LineDesc) : Dev × MosLine :=
  let c := x.ctx
  let d := if d.mos.entry = some c.entry then d
    else
      (({ d with mos := { d.mos with edges := [.reset, .reset], entry := some c.entry } } : Dev).wrF (a_MOS_EDGE_POS 0) f_MOS_EDGE_POS_FILT_Q noQ).wrF
        (a_MOS_EDGE_POS 1) f_MOS_EDGE_POS_FILT_Q noQ
  let cols := d.mosaicSamples x
  let samples := cols.map (·.1)
  let turn := d.seamTurn x
  let runMin := max 1 (d.cF c a_MOS_EDGE_CFG f_MOS_EDGE_CFG_RUN)
  let en0 := d.cB c a_MOS_EDGE_CFG f_MOS_EDGE_CFG_EN_OS
  let en1 := d.cB c a_MOS_EDGE_CFG f_MOS_EDGE_CFG_EN_DS
  let e0 := if en0 then d.findEdge c samples 0 else none
  let e1 := if en1 then d.findEdge c samples 1 else none
  let side := d.cB c a_MOS_CFG f_MOS_CFG_OS_SIDE
  let wrong : Bool := match e0, e1 with
    | some a, some b => if side then decide (a.1 < b.1 + runMin) else decide (b.1 < a.1 + runMin)
    | _, _ => false
  let e0 := if wrong then none else e0
  let e1 := if wrong then none else e1
  let d := if en0 then d.takeEdge c 0 (e0.map (·.2)) else d
  let d := if en1 then d.takeEdge c 1 (e1.map (·.2)) else d
  let lost0 := en0 && e0.isNone
  let lost1 := en1 && e1.isNone
  let f0 := (lget d.mos.edges 0 .reset).filt
  let f1 := (lget d.mos.edges 1 .reset).filt
  let byEdge := !d.cB c a_MOS_CFG f_MOS_CFG_CD_REF
  let datum := byEdge && f0.isNone
  let ref := match byEdge, f0 with
    | true, some q => d.gridNm c q
    | _, _ => (d.under c a_MOS_DATUM).toInt
  let (md, ext) := d.mdPos x
  let outs := c.cams.map (fun k => (k.port, d.gotLine c k.port x.line))
  let voids := (outs.map (fun o => match o.2 with
    | some l => if l.flags.testBit 0 then 2 ^ o.1 else 0
    | none => 2 ^ o.1)).foldl (· + ·) 0
  let orFlags := outs.foldl (fun f o => match o.2 with | some l => f ||| l.flags | none => f ||| 1) 0
  let flag (b : Bool) (k : Nat) : Nat := if b then 2 ^ k else 0
  let flags := orFlags + flag turn 8 + flag ext 9 + flag lost0 10 + flag lost1 11 + flag datum 12
  let (stamp, d) := d.mkStamp 17 x.time
  let m : MosLine := ⟨stamp, x, md, ref, f0, f1, voids, flags, samples⟩
  let a := a_MOS_STAT
  let d := if voids ≠ 0 then d.inc a f_MOS_STAT_VOID_LINE_CNT else d
  let d := if lost0 || lost1 then d.inc a f_MOS_STAT_EDGE_LOST_CNT else d
  let d := if turn then d.inc a f_MOS_STAT_SEAM_TURN_CNT else d
  let d := if ext then d.inc a f_MOS_STAT_MD_EXTRAP_CNT else d
  let lent (s : Nat) : Nat := (cols.filter (fun t => t.2 = some s)).length
  let d := iter (c.cams.length - 1) (fun s d => if lent s = 0 then d else d.inc (a_MOS_SEAM_POS s) f_MOS_SEAM_POS_BORROW_CNT (lent s)) d
  let k := match d.mos.course with
    | some k => if k.ctx.first = c.first && k.ctx.run = c.run then k else MosCourse.start c md
    | none => MosCourse.start c md
  let k := { k with
    lines := k.lines + 1, voids := if voids ≠ 0 then k.voids + 1 else k.voids, mdLast := md
    os := match e0, f0 with | some _, some q => widen k.os (d.gridNm c q) | _, _ => k.os
    ds := match e1, f1 with | some _, some q => widen k.ds (d.gridNm c q) | _, _ => k.ds
    osLost := if lost0 then k.osLost + 1 else k.osLost, dsLost := if lost1 then k.dsLost + 1 else k.dsLost
    flags := k.flags ||| flag (lost0 || lost1) 4 ||| flag datum 5 ||| flag ext 6 ||| flag turn 7
    borrow := k.borrow.mapIdx (fun s b => min (b + lent s) (2 ^ 32 - 1)) }
  let ended : Bool := x.line + 1 = c.first + c.len
  let st := d.mos
  let d := { d with mos := { st with
    course := if ended then none else some k, closed := if ended then st.closed ++ [k] else st.closed, got := st.got.take 9600 } }
  (d, m)

/-- When nothing of an acquisition that has ended is left to emit, its course in progress ends early (R213). -/
def Dev.mosFinish (d : Dev) : Dev :=
  match d.mos.course with
  | some k =>
    if d.runOver k.ctx && d.mos.todo.all (fun x => x.ctx.run ≠ k.ctx.run) then
      { d with mos := { d.mos with course := none, closed := d.mos.closed ++ [{ k with partial_ := true }] } }
    else d
  | none => d

/-- The next mosaic line, where it may leave (R197). -/
def Dev.nextMosaic (d : Dev) : Dev × Option MosLine :=
  match d.mos.todo with
  | [] => (d.mosFinish, none)
  | x :: rest =>
    if d.mosaicDue x then
      let (d, m) := d.makeLine x
      (({ d with mos := { d.mos with todo := rest } } : Dev).mosFinish, some m)
    else (d, none)

/-! ### Seam registration (R198 to R202) -/

/-- Sums over the pairs of one candidate: n, Sl, Sr, sum l², sum r², sum lr. -/
structure PairSums where
  n  : Nat
  sl : Nat
  sr : Nat
  ll : Nat
  rr : Nat
  lr : Nat
  deriving DecidableEq, Repr

/-- Pairs of candidate (a, b) of seam s over the final 256 lines of a course (R198). -/
def Dev.pairSums (d : Dev) (c : CourseCtx) (s : Nat) (a b : Int) : PairSums :=
  let l := camAt c.cams s
  let r := camAt c.cams (s + 1)
  let cols := clampN (d.cF c a_MOS_REG_CFG0 f_MOS_REG_CFG0_CORR_COLS) 16 256
  let g0 : Int := (lget c.seams s 0 : Nat) - (cols / 2 : Nat)
  let gs := ((List.range cols).map (fun k => g0 + k)).filter (fun g => decide ((r.g0 : Int) ≤ g) && decide (g < (l.g0 : Int) + l.n))
  if d.mdMax c < b.natAbs then ⟨0, 0, 0, 0, 0, 0⟩
  else
    (List.range 256).foldl (fun acc k =>
      let line := c.first + c.len - 256 + k
      match d.gotLine c l.port line with
      | none => acc
      | some hl =>
        let hr := d.gotLine c r.port (line + b * (if hl.desc.dir then -1 else 1))
        gs.foldl (fun (acc : PairSums) g =>
          match outAt (some hl) g, outAt hr (g + a) with
          | some x, some y =>
            let x := x / 16
            let y := y / 16
            ⟨acc.n + 1, acc.sl + x, acc.sr + y, acc.ll + x * x, acc.rr + y * y, acc.lr + x * y⟩
          | _, _ => acc) acc) ⟨0, 0, 0, 0, 0, 0⟩

/-- Score and texture of R199. -/
def PairSums.score (p : PairSums) : Nat × Nat :=
  let cov : Int := (p.n * p.lr : Nat) - (p.sl * p.sr : Nat)
  let vl := p.n * p.ll - p.sl * p.sl
  let vr := p.n * p.rr - p.sr * p.sr
  let tex := if p.n = 0 then 0 else isqrt (min vl vr) / p.n
  if p.n = 0 || decide (cov ≤ 0) || vl = 0 || vr = 0 then (0, tex)
  else (min 65535 (cov.toNat * 65536 / max 1 (isqrt (vl * vr))), tex)

/-- The fraction of R200 from the peak's score and its neighbours'. -/
def peakFrac (sm s0 sp : Nat) : Int :=
  let den : Int := (sm : Int) - 2 * s0 + sp
  if 0 ≤ den then 0 else clampI (rdiv (32 * ((sp : Int) - sm)) (-den)) (-32) 32

/-- A measured peak: candidate, score, texture, pairs and estimate. -/
structure Peak where
  a     : Int
  b     : Int
  score : Nat
  tex   : Nat
  pairs : Nat
  est   : Int × Int
  deriving DecidableEq, Repr

/-- The peak of seam s (R198 to R200); none where every score is 0. -/
def Dev.peak (d : Dev) (c : CourseCtx) (s : Nat) : Option Peak :=
  let srx := min 8 (d.cF c a_MOS_REG_CFG0 f_MOS_REG_CFG0_SR_X)
  let sry := min 2 (d.cF c a_MOS_REG_CFG0 f_MOS_REG_CFG0_SR_Y)
  let r := lget c.reg s (0, 0)
  let a0 := rhe r.1 6
  let b0 := rhe r.2 6
  let cands := (List.range (2 * sry + 1)).flatMap (fun j => (List.range (2 * srx + 1)).map (fun i =>
    (a0 - srx + i, b0 - sry + j)))
  let score (a b : Int) : Nat := (d.pairSums c s a b).score.1
  let best := cands.foldl (fun (acc : Option (Int × Int × Nat)) ab =>
    let v := score ab.1 ab.2
    match acc with
    | none => if v = 0 then none else some (ab.1, ab.2, v)
    | some (_, _, w) => if w < v then some (ab.1, ab.2, v) else acc) none
  best.map (fun t =>
    let (a, b, s0) := t
    let p := d.pairSums c s a b
    let ex := 64 * a + (if srx = 0 then 0 else peakFrac (score (a - 1) b) s0 (score (a + 1) b))
    let ey := 64 * b + (if sry = 0 then 0 else peakFrac (score a (b - 1)) s0 (score a (b + 1)))
    ⟨a, b, s0, p.score.2, p.n, (ex, ey)⟩)

/-- Window lines of both directions (R201 TURN). -/
def Dev.windowTurns (d : Dev) (c : CourseCtx) (s : Nat) : Bool :=
  let dirs := (List.range 256).filterMap (fun k =>
    (d.gotLine c (camAt c.cams s).port ((c.first + c.len - 256 + k : Nat) : Int)).map (fun o => o.desc.dir))
  dirs.contains true && dirs.contains false

/-- A camera of seam s no longer has the columns of the geometry kept for the course (R214). -/
def Dev.seamBroken (d : Dev) (c : CourseCtx) (s : Nat) : Bool :=
  c.kept && [s, s + 1].any (fun i =>
    let x := camAt c.cams i
    d.cF c (a_PIPE_RS_CFG x.pipe) f_PIPE_RS_CFG_G0 ≠ x.g0 || d.pipeCols c x.pipe ≠ x.n)

/-- The reason of R201 for seam s with its peak. -/
def Dev.seamReason (d : Dev) (k : MosCourse) (s : Nat) (pk : Option Peak) : Nat :=
  let c := k.ctx
  let cfg := a_MOS_SEAM_CFG s
  let mode := d.cF c cfg f_MOS_SEAM_CFG_MODE
  let srx := min 8 (d.cF c a_MOS_REG_CFG0 f_MOS_REG_CFG0_SR_X)
  let sry := min 2 (d.cF c a_MOS_REG_CFG0 f_MOS_REG_CFG0_SR_Y)
  let r := lget c.reg s (0, 0)
  let a0 := rhe r.1 6
  let b0 := rhe r.2 6
  let min_ := d.cF c a_MOS_REG_CFG1 f_MOS_REG_CFG1_PAIRS_MIN
  if !d.cB c a_MOS_CFG f_MOS_CFG_REG_EN || mode = 1 || mode = 3 then 6
  else if mode = 2 then 7
  else if k.partial_ then 9
  else if d.windowTurns c s then 8
  else if d.seamBroken c s then 10
  else
    match pk with
    | none => if (d.pairSums c s a0 b0).n < min_ then 3 else 2
    | some p =>
      let onLimit := (0 < srx && (p.a = a0 - srx || p.a = a0 + srx)) || (0 < sry && (p.b = b0 - sry || p.b = b0 + sry))
      let sx := d.cS c cfg f_MOS_SEAM_CFG_STATIC_X
      let sy := d.cS c cfg f_MOS_SEAM_CFG_STATIC_Y
      if p.pairs < min_ then 3
      else if onLimit then 4
      else if p.tex < d.cF c a_MOS_REG_CFG0 f_MOS_REG_CFG0_TEX_MIN then 1
      else if p.score < d.cF c a_MOS_REG_CFG0 f_MOS_REG_CFG0_CONF_MIN then 2
      else if d.cF c a_MOS_REG_CFG1 f_MOS_REG_CFG1_LIMIT_X < (p.est.1 - sx).natAbs ||
          d.cF c a_MOS_REG_CFG1 f_MOS_REG_CFG1_LIMIT_Y < (p.est.2 - sy).natAbs then 5
      else 0

/-- The entry of seam s for a closed course (R198 to R202): it is measured while its registration is on and dynamic, and A moves from its
value in force in the course (log entry 23). -/
def Dev.seamEntry (d : Dev) (k : MosCourse) (s : Nat) : SeamEntry :=
  let c := k.ctx
  let cfg := a_MOS_SEAM_CFG s
  let measured := d.cB c a_MOS_CFG f_MOS_CFG_REG_EN && d.cF c cfg f_MOS_SEAM_CFG_MODE = 0
  let pk := if measured then d.peak c s else none
  let why := d.seamReason k s pk
  let app := lget c.reg s (0, 0)
  let stat := (d.cS c cfg f_MOS_SEAM_CFG_STATIC_X, d.cS c cfg f_MOS_SEAM_CFG_STATIC_Y)
  let hold := why = 7 || why = 8 || why = 9 || why = 10
  let target := if why = 0 then (match pk with | some p => p.est | none => stat) else if hold then app else stat
  let sx : Int := d.cF c a_MOS_REG_CFG0 f_MOS_REG_CFG0_STEP_X
  let sy : Int := d.cF c a_MOS_REG_CFG0 f_MOS_REG_CFG0_STEP_Y
  let nx := app.1 + clampI (target.1 - app.1) (-sx) sx
  let ny := app.2 + clampI (target.2 - app.2) (-sy) sy
  { reason := why, est := pk.map (·.est), app := app, next := (nx, ny), score := (pk.map (·.score)).getD 0, tex := (pk.map (·.tex)).getD 0,
    pairs := (pk.map (·.pairs)).getD 0, limited := decide ((nx, ny) ≠ target), static_ := why ≠ 0 && !hold, hold := hold }

/-- The 576 bytes of a mosaic course record (R212). -/
def Dev.mosRecord (d : Dev) (k : MosCourse) (es : List SeamEntry) (st : Stamp) (epoch : BitVec 16) : List Byte :=
  let c := k.ctx
  let nc := c.cams.length
  let range (r : Option (Int × Int)) : List Byte :=
    match r with
    | some (a, b) => leBytes 8 (uwrap a 64) ++ leBytes 8 (uwrap b 64)
    | none => leBytes 8 (2 ^ 63) ++ leBytes 8 (2 ^ 63)
  let flag (b : Bool) (i : Nat) : Nat := if b then 2 ^ i else 0
  let dyClamp := (List.range nc).any (fun i => (d.camD c i).2.2)
  let flags := flag (es.any (·.static_)) 0 + flag (es.any (·.limited)) 1 + flag (es.any (·.hold)) 2 + flag dyClamp 3 +
    k.flags + flag k.partial_ 8 + flag c.kept 9
  let entry (s : Nat) (e : SeamEntry) : List Byte :=
    leBytes 4 (lget c.seams s 0) ++ [BitVec.ofNat 8 (camAt c.cams s).port, BitVec.ofNat 8 (camAt c.cams (s + 1)).port, BitVec.ofNat 8 e.reason,
      BitVec.ofNat 8 (flag e.static_ 0 + flag e.limited 1 + flag e.hold 2)] ++
    (match e.est with | some (x, y) => leBytes 2 (uwrap x 16) ++ leBytes 2 (uwrap y 16) | none => leBytes 2 0x8000 ++ leBytes 2 0x8000) ++
    leBytes 2 (uwrap e.app.1 16) ++ leBytes 2 (uwrap e.app.2 16) ++ leBytes 2 (uwrap e.next.1 16) ++ leBytes 2 (uwrap e.next.2 16) ++
    leBytes 2 e.score ++ leBytes 2 (min e.tex 65535) ++ leBytes 4 e.pairs ++ leBytes 4 (lget k.borrow s 0)
  let log2 := Nat.log2 c.len
  padTo (st.bytes ++ leBytes 2 epoch.toNat ++ leBytes 2 0x41 ++ leBytes 8 (c.first / 2 ^ log2) ++
    [BitVec.ofNat 8 nc, BitVec.ofNat 8 (camAt c.cams (d.anchor c)).port] ++ leBytes 2 flags ++ leBytes 4 k.voids ++
    leBytes 8 (uwrap k.mdFirst 64) ++ leBytes 8 (uwrap k.mdLast 64) ++ range k.os ++ range k.ds ++
    leBytes 4 k.osLost ++ leBytes 4 k.dsLost ++ zeros 8 ++ ((es.take 15).mapIdx entry).flatten) 576

/-- This device applies the authority's registration (R203). -/
def Dev.follows (d : Dev) : Bool := d.established && !d.rdB a_RDG_STAT f_RDG_STAT_AUTHORITY

/-- The seam entries of a record as a device that follows the authority gives them: A in force from course k + 2, and whether its move was limited,
are the authority's (R203, R212). -/
def Dev.seamEntriesOf (d : Dev) (c : CourseCtx) (es : List SeamEntry) : List SeamEntry :=
  let a := c.first + 2 * c.len
  match d.mos.regAt.find? (fun r => r.1 = a) with
  | some r => es.mapIdx (fun s (e : SeamEntry) => { e with
      next := lget r.2 s e.next, limited := (d.rdF (a_MOS_SEAM_STAT s) f_MOS_SEAM_STAT_FLAGS).testBit 1 })
  | none => es

/-- Mosaic course records whose TIME is known are sent; classification keeps them for its course record (R212, R213). A device that follows the
authority waits for the registration that this one found for the course after the next, while its lines still come. -/
def Dev.flushMosaic (d : Dev) : Dev :=
  d.mos.out.foldl (fun d r =>
    let (k, es) := r
    let waits : Bool := d.follows && !d.runOver k.ctx && d.wpu.ctx.first ≤ k.ctx.first + k.ctx.len &&
      !d.mos.regAt.any (fun r => r.1 = k.ctx.first + 2 * k.ctx.len)
    match (if waits then none else d.courseEnd k.ctx) with
    | none => d
    | some (t, e, _) =>
      let es := if d.follows then d.seamEntriesOf k.ctx es else es
      let d := { d with mos := { d.mos with out := d.mos.out.filter (fun x => x.1.ctx.first ≠ k.ctx.first || x.1.ctx.run ≠ k.ctx.run) } }
      let (st, d) := d.mkStamp 17 t
      let b := d.mosRecord k es st e
      let d := { d with cls := { d.cls with courses := d.cls.courses.map (fun (c : ClsCourse) =>
        if c.ctx.first = k.ctx.first then { c with mosaic := some b } else c) } }
      if d.cB k.ctx a_MOS_REC_CFG f_MOS_REC_CFG_EN then
        (d.fly .record ⟨st, e, .ring (.whole (d.cF k.ctx a_MOS_REC_CFG f_MOS_REC_CFG_RING) 1 b)⟩).raiseEvt 160
      else d) d

/-- SEAM_UPDATE: the oldest course that has ended is measured, its seams move, and its record is made (R198 to R203, R212). In a pair the
partner applies the authority's registration, which the authority sends it (R203, log entry 24). -/
def Dev.seamUpdate (d : Dev) : Dev :=
  match d.mos.closed with
  | [] => d
  | k :: rest =>
    let c := k.ctx
    let n := c.cams.length - 1
    let es := (List.range n).map (fun s => d.seamEntry k s)
    let partner := d.follows
    let d := iter n (fun s d =>
      match es[s]? with
      | none => d
      | some e =>
        let a := a_MOS_SEAM_STAT s
        let fl := (if e.static_ then 1 else 0) + (if e.limited then 2 else 0) + (if e.hold then 4 else 0)
        let d := if partner then d
          else ((d.wrF a f_MOS_SEAM_STAT_SCORE e.score).wrF a f_MOS_SEAM_STAT_REASON e.reason).wrF a f_MOS_SEAM_STAT_FLAGS fl
        if e.static_ && lget d.mos.wasEst s false then d.raiseEvt 165 else d) d
    let next := es.map (·.next)
    let m := d.mos
    let d := { d with mos := { m with
      closed := rest
      regAt := if partner || c.run ≠ d.wpu.ctx.run then m.regAt else (m.regAt ++ [(c.first + 2 * c.len, next)]).drop ((m.regAt.length + 1) - 4)
      wasEst := es.map (fun (e : SeamEntry) => decide (e.reason = 0))
      out := m.out ++ [(k, es)] } }
    let d := if d.established && !partner then
        d.ridge 0x84 ((List.range n).flatMap (fun s =>
          let e := lget next s (0, 0)
          leBytes 4 (a_MOS_SEAM_STAT s) ++ [8, 0, 0, 0] ++ leBytes 2 (uwrap e.1 16) ++ leBytes 2 (uwrap e.2 16) ++
            slice (leBytes 8 (d.rd (a_MOS_SEAM_STAT s)).toNat) 4 4))
      else d
    (d.calSeam c es).flushMosaic

/-- SEAM_UPDATE (R198). -/
def execSeamUpdate (dt : Nat) (s : State) : Host.Outcome State Fault Refusal :=
  .next (s.after dt (fun d => d.seamUpdate))

end Sys2Proof.Machine
end

