-- ==== Sys2Proof/Machine/SegOps.lean ====
section
/-! DEFINITION. Segmentation, first half: regions, the column and repeat models, contrast, thresholds and morphology (R216 to R233). -/

namespace Sys2Proof.Machine

/-! ### Settings (R217, R218) -/

/-- MODEL of region r in force for a course: 3 acts as 0. -/
def Dev.segModel (d : Dev) (c : CourseCtx) (r : Nat) : Nat :=
  let m := d.cF c (a_SEG_REGION_CFG r) f_SEG_REGION_CFG_MODEL
  if m = 3 then 0 else m

/-- Region of a column (R217): the lowest that covers it and has a model. -/
def Dev.segRegion (d : Dev) (c : CourseCtx) (g : Nat) : Option Nat :=
  (List.range 16).find? (fun r =>
    let a := a_SEG_REGION_COLS r
    d.segModel c r ≠ 0 && d.cF c a f_SEG_REGION_COLS_COL_LO ≤ g && g ≤ d.cF c a f_SEG_REGION_COLS_COL_HI)

/-- KSIZE of kernel k in force for a course: odd, 3 to 31. -/
def kernelSize (v : Nat) : Nat := if v < 3 then 3 else if v % 2 = 0 then v + 1 else v

/-- Half size h of the kernel of region r, 0 without one (R218). -/
def Dev.segHk (d : Dev) (c : CourseCtx) (r : Nat) : Nat :=
  let k := d.cF c (a_SEG_REGION_CFG r) f_SEG_REGION_CFG_KSEL
  if k = 0 then 0 else (kernelSize (d.cF c (a_SEG_KERNEL_CFG k) f_SEG_KERNEL_CFG_KSIZE) - 1) / 2

/-- MORPH of region r: 5 to 7 act as 0; and its element's half size. -/
def Dev.segMorph (d : Dev) (c : CourseCtx) (r : Nat) : Nat × Nat :=
  let a := a_SEG_REGION_CFG r
  let m := d.cF c a f_SEG_REGION_CFG_MORPH
  (if 4 < m then 0 else m, if d.cB c a f_SEG_REGION_CFG_MSIZE then 2 else 1)

/-- hm of R218. -/
def Dev.segHm (d : Dev) (c : CourseCtx) (r : Nat) : Nat :=
  let (m, h) := d.segMorph c r
  if m = 0 then 0 else if m ≤ 2 then h else 2 * h

/-- The line delay H (R218). -/
def Dev.segH (d : Dev) (c : CourseCtx) : Nat :=
  ((List.range 16).map (d.segHk c)).foldl max 0 + ((List.range 16).map (d.segHm c)).foldl max 0

/-! ### The column model (R219 to R222) -/

/-- A cleared entry. -/
def CmEntry.zero : CmEntry := ⟨0, 0, 0, 0, 0⟩

/-- Number of significant bits. -/
def bitlen (n : Nat) : Nat := if n = 0 then 0 else Nat.log2 n + 1

/-- The update of R220. -/
def CmEntry.update (e : CmEntry) (x alpha env : Nat) : CmEntry :=
  if e.n = 0 then ⟨x * 2 ^ 16, 0, x, x, 1⟩
  else
    let k := min alpha (bitlen e.n)
    let dd : Int := ((x * 2 ^ 16 : Nat) : Int) - e.m
    let d4 := rhe dd 16
    let m : Int := (e.m : Int) + rhe dd k
    let v : Int := (e.v : Int) + rhe (rhe (d4 * d4) 4 - e.v) k
    let mm := rhe m 16
    let mn : Int := if x < e.mn then x else (e.mn : Int) + rhe (mm - e.mn) env
    let mx : Int := if e.mx < x then x else (e.mx : Int) - rhe ((e.mx : Int) - mm) env
    ⟨uwrap m 32, uwrap v 32, uwrap mn 16, uwrap mx 16, min (e.n + 1) 65535⟩

/-- Entry of a column. -/
def Dev.cmAt (d : Dev) (g : Nat) : CmEntry := alGet d.seg.cm g .zero

/-- The 16 bytes of an entry (R219). -/
def CmEntry.bytes (e : CmEntry) : List Byte :=
  leBytes 4 e.m ++ leBytes 4 e.v ++ leBytes 2 e.mn ++ leBytes 2 e.mx ++ leBytes 2 e.n ++ [0, 0]

/-- A clear due in a course reaches its first line, in regions that satisfy p (R222): NCOUNT becomes 0 in every column that belongs to one of them
(R217). -/
def Dev.cmCleared (d : Dev) (c : CourseCtx) (p : Nat → Bool) : Dev :=
  if c.clear = 0 then d
  else
    let hit (g : Nat) : Bool := match d.segRegion c g with | some r => c.clear.testBit r && p r | none => false
    { d with seg := { d.seg with cm := d.seg.cm.map (fun (e : Nat × CmEntry) => if hit e.1 then (e.1, { e.2 with n := 0 }) else e) } }

/-! ### The repeat model (R223 to R228) -/

/-- STRIDE of R223. -/
def repStride (width : Nat) : Nat := (ceilDiv (width * 12) 8 + 63) / 64 * 64

/-- WIDTH of the reference. -/
def Dev.repWidth (d : Dev) (c : CourseCtx) : Nat := d.cF c a_SEG_REP_GEOM f_SEG_REP_GEOM_WIDTH_M1 + 1

/-- REPEAT_NM, nonzero. -/
def Dev.repLen (d : Dev) (c : CourseCtx) : Nat := max 1 (d.under c a_SEG_REP_LEN).toNat

/-- rl of R224. -/
def Dev.repLine (d : Dev) (c : CourseCtx) (origin md : Int) : Nat :=
  let len := d.repLen c
  let lines := d.cF c a_SEG_REP_CFG f_SEG_REP_CFG_R_LINES
  let phi := (md - origin) % (len : Int)
  let rl := (rdiv (phi * lines) len).toNat
  if rl = lines then 0 else rl

/-- The registration by marks that holds for the lines of a course: that of the mode entry it lies in. -/
def Dev.repReg (d : Dev) (c : CourseCtx) : RepReg :=
  if d.seg.repOld.entry = c.entry && d.seg.repEntry ≠ c.entry then d.seg.repOld else ⟨d.seg.repEntry, d.seg.origin, d.seg.marked, d.seg.lastMark⟩

/-- REP_ORIGIN in use: the device's with repeat marks, otherwise the one in force. -/
def Dev.repOrigin (d : Dev) (c : CourseCtx) : Int :=
  if d.cB c a_SEG_REP_CFG f_SEG_REP_CFG_REG_SRC then (d.repReg c).origin else (d.under c a_SEG_REP_ORIGIN).toInt

/-- The repeat model is registered: a mark has been accepted since entry, or REG_SRC = 0. -/
def Dev.repReady (d : Dev) (c : CourseCtx) : Bool := !d.cB c a_SEG_REP_CFG f_SEG_REP_CFG_REG_SRC || (d.repReg c).marked

/-- sh of R226 for a line. -/
def Dev.repShift (d : Dev) (m : MosLine) : Int :=
  let c := m.desc.ctx
  if !d.cB c a_SEG_REP_CFG f_SEG_REP_CFG_CD_FOLLOW then 0
  else
    match m.osq with
    | some q => rhe (q - d.cS c a_SEG_REP_GEOM f_SEG_REP_GEOM_OS_REF_Q) 6
    | none => d.seg.sh

/-- The HBM address of line rl of bank b of the repeat model. -/
def Dev.repAddr (d : Dev) (c : CourseCtx) (b rl : Nat) : Nat := (d.under c (a_SEG_REP_BASE b)).toNat + rl * repStride (d.repWidth c)

/-- The bank of the repeat model in force. -/
def Dev.repBank (d : Dev) (c : CourseCtx) : Nat := if d.cB c a_SEG_REP_CFG f_SEG_REP_CFG_BANK then 1 else 0

/-- A write of n bytes at a into the stacks is locked: it overlaps the repeat bank in force while an acquiring mode is in force (R227). -/
def Dev.repLocked (d : Dev) (a n : Nat) : Bool :=
  let c := d.wpu.ctx
  let b := d.repAddr c (d.repBank c) 0
  d.acquiring && decide (a < b + d.cF c a_SEG_REP_CFG f_SEG_REP_CFG_R_LINES * repStride (d.repWidth c)) && decide (b < a + n) && n ≠ 0 &&
    d.cF c a_SEG_REP_CFG f_SEG_REP_CFG_R_LINES ≠ 0

/-- Reference sample k of line rl of bank b, 12 bits. -/
def Dev.repSample (d : Dev) (rd : Nat → Nat → List Byte) (c : CourseCtx) (b rl k : Nat) : Nat :=
  leNat (rd (d.repAddr c b rl + k * 12 / 8) 2) / 2 ^ (k * 12 % 8) % 4096

/-! ### Contrast (R229) -/

/-- sat16 of R229, and whether it clamped. -/
def sat16 (x : Int) : Int × Nat := let y := clampI x (-32768) 32767; (y, if y = x then 0 else 1)

/-- What one column of an arriving line becomes: its region where inspected, d, the contrasts of REF_MODE 2, clamps. -/
structure ColIn where
  region : Option Nat
  d      : Option Int
  cl     : Option (Int × Int)
  sat    : Nat
  deriving DecidableEq, Repr

/-- Column g of an arriving line (R217, R226, R229). `rl` and `sh` are the line's place in the repeat. -/
def Dev.segColumn (d : Dev) (rd : Nat → Nat → List Byte) (m : MosLine) (rl : Nat) (sh : Int) (g : Nat) : ColIn :=
  let c := m.desc.ctx
  let off : ColIn := ⟨none, none, none, 0⟩
  if (ownerOf c g).isNone then off
  else
    match d.segRegion c g with
    | none => off
    | some r =>
      let x := m.samples.getD g none
      if d.segModel c r = 2 then
        let k : Int := (g : Int) - d.cF c a_SEG_REP_CFG f_SEG_REP_CFG_COL0 - sh
        if !d.repReady c || decide (k < 0) || decide ((d.repWidth c : Int) ≤ k) then off
        else
          match x with
          | none => ⟨some r, none, none, 0⟩
          | some v =>
            let b := d.repBank c
            if d.hasBad (d.repAddr c b rl + k.toNat * 12 / 8) 2 then off
            else
              let (e, s) := sat16 ((v : Int) - 16 * (d.repSample rd c b rl k.toNat : Nat))
              ⟨some r, some e, none, s⟩
      else
        match x with
        | none => ⟨some r, none, none, 0⟩
        | some v =>
          let e := d.cmAt g
          if d.cF c (a_SEG_REGION_CFG r) f_SEG_REGION_CFG_REF_MODE = 2 then
            let (l, s) := sat16 ((v : Int) - e.mx)
            let (k, t) := sat16 ((e.mn : Int) - v)
            ⟨some r, some 0, some (l, k), s + t⟩
          else
            let (y, s) := sat16 ((v : Int) - rhe e.m 16)
            ⟨some r, some y, none, s⟩

/-- The line is void for the owner of column g (R230, R233, R238). -/
def SegLine.voidAt (x : SegLine) (g : Nat) : Bool :=
  match ownerOf x.line.desc.ctx g with
  | some i => x.line.voids.testBit (camAt x.line.desc.ctx.cams i).port
  | none => false

/-- d at a column of a line among those held: 0 where invalid, not inspected, void or absent (R230). -/
def heldD (hist : List SegLine) (line g : Int) : Int :=
  if g < 0 then 0
  else
    match hist.find? (fun x => decide ((x.line.desc.line : Int) = line)) with
    | some x => if x.voidAt g.toNat then 0 else (x.d.getD g.toNat none).getD 0
    | none => 0

/-- e of R230 at a column with kernel k of half size h; the second answer is the clamp. -/
def Dev.convolve (d : Dev) (hist : List SegLine) (k h : Nat) (line g : Int) : Int × Nat :=
  let n := 2 * h + 1
  let sum := (List.range n).foldl (fun acc i => (List.range n).foldl (fun acc j =>
    acc + sext (d.tabLe 0x11 k 0 (2 * (i * n + j)) 2) 16 * heldD hist (line - h + i) (g - h + j)) acc) (0 : Int)
  sat16 (rhe sum 14)

/-! ### Thresholds (R232) -/

/-- A level in effect: none where disabled. -/
def Dev.segLevel (d : Dev) (c : CourseCtx) (r g lvl : Nat) : Option Int :=
  if lvl = 0xFFFF then none
  else if d.segModel c r = 1 && d.cF c (a_SEG_REGION_CFG r) f_SEG_REGION_CFG_REF_MODE = 1 then
    let sd := isqrt ((d.cmAt g).v * 16)
    some (max 1 (rhe ((lvl * max sd (d.cF c a_SEG_CFG f_SEG_CFG_SD_MIN) : Nat) : Int) 8))
  else some lvl

/-- A contrast reaches a level. -/
def reaches (x : Int) (t : Option Int) : Bool := match t with | some v => decide (v ≤ x) | none => false

/-- What thresholding one column gives: contrast, mask code, whether both polarities qualified, learning, a model update, clamps. -/
structure ColOut where
  cl     : Option (Int × Int)
  mask   : Nat
  both   : Bool
  learn  : Bool
  update : Bool
  sat    : Nat
  deriving DecidableEq, Repr

/-- Column g of line x is thresholded (R221, R222, R230, R232). -/
def Dev.segThreshold (d : Dev) (hist : List SegLine) (x : SegLine) (g r : Nat) : ColOut :=
  let c := x.line.desc.ctx
  let a := a_SEG_REGION_CFG r
  let t := a_SEG_REGION_THR r
  match x.d.getD g none with
  | none => ⟨none, 0, false, false, false, 0⟩
  | some v =>
    let k := d.cF c a f_SEG_REGION_CFG_KSEL
    let (cl, sat) : (Int × Int) × Nat := match x.cl.getD g none with
      | some p => (p, 0)
      | none =>
        let (e, s) := if k = 0 then (v, 0) else d.convolve hist k (d.segHk c r) x.line.desc.line g
        let (n, s') := sat16 (-e)
        ((e, n), s + s')
    let learn := d.segModel c r = 1 && (d.cmAt g).n < d.cF c a_SEG_CFG f_SEG_CFG_LEARN_MIN
    let tls := d.cF c t f_SEG_REGION_THR_TLS
    let tlg := d.cF c t f_SEG_REGION_THR_TLG
    let tds := d.cF c t f_SEG_REGION_THR_TDS
    let tdg := d.cF c t f_SEG_REGION_THR_TDG
    let low (g s : Nat) : Nat := if g = 0xFFFF then g else min g s
    let lg := d.cB c a f_SEG_REGION_CFG_LIGHT_EN && reaches cl.1 (d.segLevel c r g (low tlg tls))
    let dg := d.cB c a f_SEG_REGION_CFG_DARK_EN && reaches cl.2 (d.segLevel c r g (low tdg tds))
    let mask := if learn then 0
      else if lg then (if reaches cl.1 (d.segLevel c r g tls) then 2 else 1)
      else if dg then (if reaches cl.2 (d.segLevel c r g tds) then 4 else 3)
      else 0
    let upd := d.segModel c r = 1 && d.cB c a f_SEG_REGION_CFG_UPDATE && mask = 0
    ⟨some cl, mask, !learn && lg && dg, learn, upd, sat⟩

/-- The columns of the held lines whose kernel is complete when line t has arrived are thresholded, and the model updated (R221). -/
def Dev.segStep (d : Dev) (t : Nat) : Dev :=
  d.seg.hist.reverse.foldl (fun d x0 =>
    if t < x0.line.desc.line || x0.line.desc.line + 15 < t then d
    else
      let c := x0.line.desc.ctx
      let age := t - x0.line.desc.line
      let hks := (List.range 16).map (d.segHk c)
      let d := if x0.line.desc.first then d.cmCleared c (fun r => decide (lget hks r 0 = age)) else d
      let outs := x0.region.mapIdx (fun g r => match r with
        | some r => if lget hks r 0 = age then some (r, d.segThreshold d.seg.hist x0 g r) else none
        | none => none)
      if outs.all Option.isNone then d
      else
        let count (f : ColOut → Nat) : Nat := (outs.map (fun o => match o with | some p => f p.2 | none => 0)).foldl (· + ·) 0
        let x := { x0 with
          cl := x0.cl.mapIdx (fun g v => match outs.getD g none with | some p => p.2.cl | none => v)
          mask := x0.mask.mapIdx (fun g v => match outs.getD g none with | some p => p.2.mask | none => v) }
        let cm := (List.range outs.length).foldl (fun cm g => match outs.getD g none with
          | some (r, o) =>
            if o.update then
              match x0.line.samples.getD g none with
              | some v =>
                let a := a_SEG_REGION_CFG r
                alSet cm g ((alGet cm g .zero).update v (max 1 (d.cF c a f_SEG_REGION_CFG_ALPHA)) (max 1 (d.cF c a f_SEG_REGION_CFG_ENV_SHIFT)))
              | none => cm
            else cm
          | none => cm) d.seg.cm
        let d := { d with seg := { d.seg with cm := cm, hist := d.seg.hist.map (fun (y : SegLine) =>
          if y.line.desc.line = x0.line.desc.line then x else y) } }
        let d := d.inc a_SEG_STAT1 f_SEG_STAT1_CONTRAST_SAT (count (·.sat))
        let d := d.inc a_SEG_STAT2 f_SEG_STAT2_BOTH_CNT (count (fun o => if o.both then 1 else 0))
        d.inc a_SEG_STAT2 f_SEG_STAT2_LEARN_CNT (count (fun o => if o.learn then 1 else 0))) d

/-! ### Morphology (R233) -/

/-- A bit at a place can be set (R233): inside the mosaic, on a line that is held and not void there, of a sample that is valid and inspected. -/
def maskable (hist : List SegLine) (line g : Int) : Bool :=
  if g < 0 then false
  else
    match hist.find? (fun x => decide ((x.line.desc.line : Int) = line)) with
    | some x => !x.voidAt g.toNat && (x.region.getD g.toNat none).isSome && (x.d.getD g.toNat none).isSome
    | none => false

/-- The grow bit of a polarity before morphology: clear outside the mosaic, on void or absent lines. -/
def growBit (hist : List SegLine) (dark : Bool) (line g : Int) : Bool :=
  if g < 0 then false
  else
    match hist.find? (fun x => decide ((x.line.desc.line : Int) = line)) with
    | some x =>
      let m := x.mask.getD g.toNat 0
      !x.voidAt g.toNat && (if dark then 3 ≤ m else m = 1 || m = 2)
    | none => false

/-- An operation over the square element of half size h. -/
def element (h : Nat) (all : Bool) (f : Int → Int → Bool) (line g : Int) : Bool :=
  let cells := (List.range (2 * h + 1)).flatMap (fun i => (List.range (2 * h + 1)).map (fun j => f (line - h + i) (g - h + j)))
  if all then cells.all id else cells.any id

/-- One operation of morphology, erode or dilate: what it sets where no bit can be set reads as clear (R233; log entry 109). -/
def morphStep (hist : List SegLine) (h : Nat) (erode : Bool) (f : Int → Int → Bool) (line g : Int) : Bool :=
  maskable hist line g && element h erode f line g

/-- The grow bit of a polarity after morphology m with half size h. -/
def morphBit (hist : List SegLine) (m h : Nat) (dark : Bool) (line g : Int) : Bool :=
  let b := growBit hist dark
  match m with
  | 1 => morphStep hist h true b line g
  | 2 => morphStep hist h false b line g
  | 3 => morphStep hist h false (morphStep hist h true b) line g
  | 4 => morphStep hist h true (morphStep hist h false b) line g
  | _ => b line g

/-- Final masks of a line by column: bit 0 light, 1 dark, 2 light seed, 3 dark seed. -/
def Dev.finalMask (d : Dev) (x : SegLine) : List Nat :=
  let c := x.line.desc.ctx
  let morphs := (List.range 16).map (d.segMorph c)
  x.region.mapIdx (fun g r => match r with
    | none => 0
    | some r =>
      let (m, h) := lget morphs r (0, 1)
      let l := morphBit d.seg.hist m h false x.line.desc.line g
      let k := morphBit d.seg.hist m h true x.line.desc.line g
      let code := x.mask.getD g 0
      (if l then 1 else 0) + (if k then 2 else 0) + (if l && code = 2 then 4 else 0) + (if k && code = 4 then 8 else 0))

/-! ### Arrival -/

/-- A capture takes an arriving line (R228): its valid samples enter the sums of their place in the reference. With the last line it is written to the
bank that is not in force for that line. -/
def Dev.captureLine (d : Dev) (m : MosLine) (rl : Nat) (sh : Int) : Dev :=
  let c := m.desc.ctx
  match d.seg.capture with
  | none => d
  | some k =>
    let start := k.running || (rl = 0 && d.repReady c)
    if !start then d
    else
      let w := d.repWidth c
      let col0 := d.cF c a_SEG_REP_CFG f_SEG_REP_CFG_COL0
      let sums := (List.range w).foldl (fun (acc : List (Nat × Nat × Nat)) (i : Nat) =>
        let g : Int := (col0 : Int) + i + sh
        match (if g < 0 then none else m.samples.getD g.toNat none) with
        | some v =>
          let old := alGet acc (rl * w + i) (0, 0)
          alSet acc (rl * w + i) (old.1 + v / 16, old.2 + 1)
        | none => acc) k.sums
      let lines := d.cF c a_SEG_REP_CFG f_SEG_REP_CFG_R_LINES
      let n := 2 ^ d.rdF a_SEG_REP_CFG f_SEG_REP_CFG_AVG * lines
      let k := { k with running := true, taken := k.taken + 1, sums := sums }
      if k.taken < n then { d with seg := { d.seg with capture := some k } }
      else
        let val (i : Nat) : Nat := let s := alGet sums i (0, 0); if s.2 = 0 then 0 else (rdiv s.1 s.2).toNat % 4096
        let holes := ((List.range (lines * w)).filter (fun i => (alGet sums i (0, 0)).2 = 0)).length
        let base := (d.under c (a_SEG_REP_BASE (1 - d.repBank c))).toNat
        let d := (List.range lines).foldl (fun d j =>
          let row := (List.range w).foldl (fun acc i => acc + val (j * w + i) * 2 ^ (12 * i)) 0
          d.hbmPut (base + j * repStride w) (leBytes (repStride w) row)) d
        let a := a_SEG_REP_CAPTURE
        let d := { d with seg := { d.seg with capture := none } }
        (((d.wrF a f_SEG_REP_CAPTURE_HOLES holes).wrB a f_SEG_REP_CAPTURE_BUSY false).flag a f_SEG_REP_CAPTURE_DONE).raiseEvt 170

/-- Thresholding goes on to line t, line by line (R221). -/
def Dev.segAdvance (d : Dev) (t : Nat) : Dev :=
  let first : Bool := d.seg.prev.isNone && d.seg.hist.length ≤ 1
  let ts := if first then [t] else (List.range (t - d.seg.at_)).map (fun k => d.seg.at_ + 1 + k)
  let d := ts.foldl (fun d t => d.segStep t) d
  { d with seg := { d.seg with at_ := t } }

/-- A mosaic line arrives in segmentation (R218 to R230). -/
def Dev.segArrive (d : Dev) (rd : Nat → Nat → List Byte) (m : MosLine) : Dev :=
  let c := m.desc.ctx
  let rl := d.repLine c (d.repOrigin c) m.md
  let sh := d.repShift m
  let marks := d.cB c a_SEG_REP_CFG f_SEG_REP_CFG_REG_SRC
  let usesRep := (List.range 16).any (fun r => d.segModel c r = 2)
  let a := a_SEG_REP_STAT
  let lost := marks && (match (d.repReg c).lastMark with
    | some p => decide (2 * (d.repLen c : Int) < ((m.md - p).natAbs : Int))
    | none => false)
  let here : Bool := c.entry = d.seg.repEntry
  let d := if here && lost && !d.rdB a f_SEG_REP_STAT_FREEWHEEL then (d.wrB a f_SEG_REP_STAT_FREEWHEEL true).raiseEvt 169 else d
  let d := if usesRep && d.repReady c then d.hbmGot (d.repAddr c (d.repBank c) rl) (repStride (d.repWidth c)) else d
  let cols := (List.range m.samples.length).map (d.segColumn rd m rl sh)
  let x : SegLine := {
    line := m, region := cols.map (·.region), d := cols.map (·.d), cl := cols.map (·.cl), mask := cols.map (fun _ => 0)
    freewheel := usesRep && (if here then d.rdB a f_SEG_REP_STAT_FREEWHEEL else lost), waited := usesRep && !d.repReady c, sh := sh }
  let d := d.inc a_SEG_STAT1 f_SEG_STAT1_CONTRAST_SAT ((cols.map (·.sat)).foldl (· + ·) 0)
  let d := { d with seg := { d.seg with sh := sh, hist := (x :: d.seg.hist).take 96 } }
  (d.captureLine m rl sh).segAdvance m.desc.line

/-- Line x under the registration of now (R225): its columns of repeat regions, and their masks where the kernel is complete. -/
def Dev.repLineAgain (d : Dev) (rd : Nat → Nat → List Byte) (x : SegLine) : SegLine :=
  let c := x.line.desc.ctx
  let rl := d.repLine c (d.repOrigin c) x.line.md
  let cols := (List.range x.line.samples.length).map (fun g =>
    match d.segRegion c g with
    | some r => if d.segModel c r = 2 then some (d.segColumn rd x.line rl x.sh g) else none
    | none => none)
  let y : SegLine := { x with
    region := x.region.mapIdx (fun g v => match cols.getD g none with | some k => k.region | none => v)
    d := x.d.mapIdx (fun g v => match cols.getD g none with | some k => k.d | none => v)
    cl := x.cl.mapIdx (fun g v => match cols.getD g none with | some k => k.cl | none => v)
    freewheel := false, waited := false }
  let outs := y.region.mapIdx (fun g r => match cols.getD g none, r with
    | some _, some r => if x.line.desc.line + d.segHk c r ≤ d.seg.at_ then some (d.segThreshold d.seg.hist y g r) else none
    | _, _ => none)
  { y with
    cl := y.cl.mapIdx (fun g v => match outs.getD g none with | some o => o.cl | none => v)
    mask := y.mask.mapIdx (fun g v => match cols.getD g none with
      | some _ => (match outs.getD g none with | some o => o.mask | none => 0)
      | none => v) }

/-- An accepted mark holds from the next line labelled (R225): lines of its mode taken in and not yet labelled are compared anew (log entry 110). -/
def Dev.repAgain (d : Dev) (rd : Nat → Nat → List Byte) : Dev :=
  let due (x : SegLine) : Bool :=
    x.line.desc.ctx.entry = d.seg.repEntry && d.cB x.line.desc.ctx a_SEG_REP_CFG f_SEG_REP_CFG_REG_SRC &&
    (match d.seg.prev with | some (k, _) => decide (k < x.line.desc.line) | none => true)
  { d with seg := { d.seg with hist := d.seg.hist.map (fun x => if due x then d.repLineAgain rd x else x) } }

end Sys2Proof.Machine
end

