-- ==== Sys2Proof/Machine/Seg.lean ====
section
/-! DEFINITION. Segmentation, second half: labelling, seam joins, closing, features, and its commands (R225, R234 to R248). -/

namespace Sys2Proof.Machine

/-! ### Blobs (R237 to R246) -/

/-- General entries of the label table (R236). -/
def labelEntries : Nat := 65504

/-- A blob without pixels. -/
def Blob.start (id : Nat) (dark : Bool) (chain frag first : Nat) (seeded : Bool) : Blob where
  id := id
  dark := dark
  chain := chain
  frag := frag
  first := first
  last := first
  origin := none
  area := 0
  sx := 0
  sy := 0
  sxx := 0
  syy := 0
  sxy := 0
  x0 := 0
  x1 := 0
  cmin := 0
  cmax := 0
  csum := 0
  p4 := 0
  seeds := 0
  seeded := seeded
  voids := 0
  seams := 0
  regions := 0
  joined := 0
  flags := 0

/-- A pixel enters a blob: line, column, region, contrast, seed, open sides (R244). -/
def Blob.pixel (b : Blob) (line g region : Nat) (c : Int) (seed : Bool) (sides : Nat) : Blob :=
  let none' := b.area = 0
  { b with
    last := max b.last line
    origin := match b.origin with
      | none => some (line, g, region)
      | some o => if line < o.1 ∨ (line = o.1 ∧ g < o.2.1) then some (line, g, region) else some o
    area := b.area + 1, sx := b.sx + g, sy := b.sy + line, sxx := b.sxx + g * g, syy := b.syy + line * line, sxy := b.sxy + g * line
    x0 := if none' then g else min b.x0 g, x1 := if none' then g else max b.x1 g
    cmin := if none' then c else min b.cmin c, cmax := if none' then c else max b.cmax c, csum := b.csum + c
    p4 := b.p4 + sides, seeds := if seed then b.seeds + 1 else b.seeds
    regions := b.regions ||| 2 ^ region }

/-- x comes before y: the earlier FIRST_LINE, then the lower column of the first pixel (R234). -/
def Blob.before (x y : Blob) : Bool :=
  let col (b : Blob) : Nat := match b.origin with | some o => o.2.1 | none => 0
  if x.first ≠ y.first then x.first < y.first else col x ≤ col y

/-- Two blobs become one; x survives (R235, R239): sums over both, and the other chain where one of them is a later fragment. -/
def Blob.unite (x y : Blob) : Blob :=
  let pick (f : Nat → Nat → Nat) (a b : Nat) : Nat := if x.area = 0 then b else if y.area = 0 then a else f a b
  let other := x.chain ≠ y.chain && (0 < x.frag || 0 < y.frag)
  { x with
    last := max x.last y.last
    origin := match x.origin, y.origin with
      | some a, some b => if b.1 < a.1 ∨ (b.1 = a.1 ∧ b.2.1 < a.2.1) then some b else some a
      | some a, none => some a
      | none, o => o
    area := x.area + y.area, sx := x.sx + y.sx, sy := x.sy + y.sy, sxx := x.sxx + y.sxx, syy := x.syy + y.syy, sxy := x.sxy + y.sxy
    x0 := pick min x.x0 y.x0, x1 := pick max x.x1 y.x1
    cmin := if x.area = 0 then y.cmin else if y.area = 0 then x.cmin else min x.cmin y.cmin
    cmax := if x.area = 0 then y.cmax else if y.area = 0 then x.cmax else max x.cmax y.cmax
    csum := x.csum + y.csum, p4 := x.p4 + y.p4, seeds := x.seeds + y.seeds, seeded := x.seeded || y.seeded
    voids := x.voids + y.voids, seams := x.seams ||| y.seams, regions := x.regions ||| y.regions
    joined := if other && x.joined = 0 then y.chain else if x.joined ≠ 0 then x.joined else y.joined
    flags := x.flags ||| y.flags ||| (if other && (x.joined ≠ 0 || y.joined ≠ 0) then 128 else 0) }

/-- Blob id among those open. -/
def SegSt.blob (s : SegSt) (id : Nat) : Option Blob := s.blobs.find? (fun b => b.id = id)

/-- Change one blob. -/
def SegSt.onBlob (s : SegSt) (id : Nat) (f : Blob → Blob) : SegSt :=
  { s with blobs := s.blobs.map (fun b => if b.id = id then f b else b) }

/-- Unite two blobs (R234, R235); the surviving id is the second answer. -/
def SegSt.unite (s : SegSt) (i j : Nat) : SegSt × Nat :=
  if i = j then (s, i)
  else
    match s.blob i, s.blob j with
    | some x, some y =>
      let (a, b) := if x.before y then (x, y) else (y, x)
      ({ s with
        blobs := (s.blobs.filter (fun z => z.id ≠ b.id)).map (fun z => if z.id = a.id then a.unite b else z)
        parts := s.parts.map (fun p => if p.blob = b.id then { p with blob := a.id } else p) }, a.id)
    | _, _ => (s, i)

/-! ### One run (R234, R243) -/

/-- Runs overlap or touch diagonally. -/
def runsTouch (x y : Nat × Nat) : Bool := y.1 ≤ x.2 + 1 && x.1 ≤ y.2 + 1

/-- The overflow entry of a strip and polarity, made where there is none. -/
def SegSt.ovfEntry (s : SegSt) (strip : Nat) (dark : Bool) (line : Nat) : SegSt × Nat :=
  match s.ovf.findIdx? (fun o => o.strip = strip && o.dark = dark) with
  | some i => (s, i)
  | none => ({ s with ovf := s.ovf ++ [⟨strip, dark, .start 0 dark 0 0 line false⟩] }, s.ovf.length)

/-- Where a run went: a blob by id, or an overflow entry. -/
inductive RunHome
  | blob (id : Nat)
  | ovf (i : Nat)
  deriving DecidableEq, Repr

/-- A run is labelled: it joins the open parts it touches on the strip's last labelled line, which become one, or opens a part, or goes to
the overflow entry. -/
def SegSt.addRun (s : SegSt) (strip : Nat) (dark : Bool) (line : Nat) (run : Nat × Nat) : SegSt × RunHome :=
  let hit (p : BlobPart) : Bool := p.open_ && p.strip = strip && p.dark = dark && p.runs.any (runsTouch run)
  let hits := s.parts.filter hit
  match hits with
  | [] =>
    if s.parts.length < labelEntries then
      let id := s.nextBlob
      ({ s with
        high := max s.high (s.parts.length + 1), nextBlob := id + 1, nextChain := s.nextChain + 1
        blobs := s.blobs ++ [.start id dark s.nextChain 0 line false]
        parts := s.parts ++ [⟨strip, dark, id, [], [run], line, true⟩] }, .blob id)
    else
      let (s, i) := s.ovfEntry strip dark line
      (s, .ovf i)
  | p :: rest =>
    let (s, id) := rest.foldl (fun (acc : SegSt × Nat) q => acc.1.unite acc.2 q.blob) (s, p.blob)
    let hits := s.parts.filter hit
    let one : BlobPart := ⟨strip, dark, id, hits.flatMap (·.runs), hits.flatMap (·.cur) ++ [run], p.line, true⟩
    ({ s with parts := s.parts.filter (fun q => !hit q) ++ [one] }, .blob id)

/-- Maximal runs of set columns among those given, rising. -/
def runsAmong (cols : List Nat) (set : Nat → Bool) : List (Nat × Nat) := (runsOf (cols.filter set)).map (fun r => (r.1, r.1 + r.2 - 1))

/-! ### Delivery (R240, R244 to R246) -/

/-- The descriptor of a closed blob (R244 to R246). -/
def Dev.blobDesc (d : Dev) (b : Blob) (st : Stamp) (epoch : BitVec 16) (ctx : CourseCtx) (closing : Nat) : BlobDesc :=
  let table := b.flags.testBit 5
  let (_, xo, region) := b.origin.getD (b.first, b.x0, 0)
  let a : Int := max 1 b.area
  let x : Int := xo
  let y : Int := b.first
  let sx : Int := b.sx - a * x
  let sy : Int := b.sy - a * y
  let sxx : Int := b.sxx - 2 * x * b.sx + a * x * x
  let syy : Int := b.syy - 2 * y * b.sy + a * y * y
  let sxy : Int := b.sxy - x * b.sy - y * b.sx + a * x * y
  let height := b.last - b.first + 1
  let cxq : Nat := if table then 32 * (b.x0 + b.x1) else (64 * x + rdiv (64 * sx) a).toNat
  let cyq : Nat := if table then 32 * (height - 1) else (rdiv (64 * sy) a).toNat
  let mu (p q r : Int) : Int := rdiv (64 * (a * p - q * r)) (a * a)
  let m20 : Nat := if table then 0 else (min (2 ^ 32 - 1) (mu sxx sx sx)).toNat
  let m02 : Nat := if table then 0 else (min (2 ^ 32 - 1) (mu syy sy sy)).toNat
  let m11 : Int := if table then 0 else clampI (mu sxy sx sy) (-(2 ^ 31)) (2 ^ 31 - 1)
  let t : Int := isqrt ((((m20 : Int) - m02) ^ 2 + 4 * m11 ^ 2).toNat)
  let l1 : Int := (m20 : Int) + m02 + t
  let l2 : Int := (m20 : Int) + m02 - t
  let elong := if table then 0 else if l1 = 0 then 256 else min 65535 (isqrt (rdiv (l1 * 65536) (max l2 1)).toNat)
  let la := b.first + cyq / 64
  let f := cyq % 64
  let md0 := d.mdOf la
  let md := if f = 0 then md0 else md0 + rdiv ((d.mdOf (la + 1) - md0) * f) 64
  let ref := match d.linePos la with | some p => p.ref | none => (Config.unknownPos la).toInt
  let cd := if d.cB ctx a_MOS_CFG f_MOS_CFG_OS_SIDE then ref - d.gridNm ctx cxq else d.gridNm ctx cxq - ref
  { stamp := st, epoch := epoch, ctx := ctx, dark := b.dark, area := b.area, x0 := b.x0, x1 := b.x1, height := height, cxq := cxq, cyq := cyq,
    mu20 := m20, mu02 := m02, mu11 := m11, elong := elong, cmin := b.cmin, cmax := b.cmax, cmean := rdiv b.csum a,
    perim := if table then 0 else (rdiv (201 * b.p4) 16).toNat, p4 := b.p4, seamMask := b.seams, voids := min b.voids 65535, seeds := b.seeds,
    region := region, frag := b.frag, md := md, cd := cd, first := b.first, last := b.last, closing := closing, regions := b.regions,
    chain := b.chain, joined := b.joined, flags := b.flags ||| (if b.seeded || 0 < b.seeds then 64 else 0) }

/-- A blob is delivered to the seam merge point, stamped with its closing line. -/
def Dev.deliverBlob (d : Dev) (x : LineDesc) (b : Blob) : Dev :=
  let d := d.inc a_SEG_STAT0 f_SEG_STAT0_BLOBS
  let (st, d) := d.mkStamp 18 x.time
  d.fly .seam ⟨st, x.epoch, .blob (d.blobDesc b st x.epoch x.ctx x.line)⟩

/-- A blob closes on line x: discarded or delivered (R240). -/
def Dev.closeBlob (d : Dev) (x : LineDesc) (b : Blob) : Dev :=
  let region := match b.origin with | some o => o.2.2 | none => 0
  let amin := max 1 (d.cF x.ctx (a_SEG_REGION_CFG region) f_SEG_REGION_CFG_AREA_MIN)
  if b.seeds = 0 && !b.seeded then d.inc a_SEG_STAT0 f_SEG_STAT0_NOSEED
  else if b.area < amin then d.inc a_SEG_STAT0 f_SEG_STAT0_SMALL
  else d.deliverBlob x b

/-- The columns of a run. -/
def runLength (r : Nat × Nat) : Nat := r.2 + 1 - r.1

/-- The runs of a blob's parts on a line. -/
def SegSt.bottomRuns (s : SegSt) (id line : Nat) : List (Nat × Nat) :=
  (s.parts.filter (fun p => p.blob = id && p.line = line)).flatMap (·.runs)

/-- How the open sides below the pixels of a closing blob are told (R244): it has none on the line it closes on; all of them are open, as no line
follows; or the next line tells. -/
inductive Below
  | none_ | open_ | next
  deriving DecidableEq, Repr

/-- Blobs that satisfy p close on line x with flag bits; their parts leave the table. -/
def Dev.closeBlobs (d : Dev) (x : LineDesc) (p : Blob → Bool) (bits : Nat) (below : Below) : Dev :=
  let s := d.seg
  let gone := (s.blobs.filter p).map (fun b => { b with flags := b.flags ||| bits })
  let d := { d with seg := { s with
    blobs := s.blobs.filter (fun b => !p b), parts := s.parts.filter (fun q => !gone.any (fun b => b.id = q.blob)) } }
  gone.foldl (fun d b =>
    let runs := if b.first ≤ x.line then s.bottomRuns b.id x.line else []
    match below with
    | .none_ => d.closeBlob x b
    | .open_ => d.closeBlob x { b with p4 := b.p4 + (runs.map runLength).foldl (· + ·) 0 }
    | .next =>
      if runs.isEmpty then d.closeBlob x b else { d with seg := { d.seg with tail := d.seg.tail ++ [⟨b, x, runs⟩] } }) d

/-- Blobs closed on the line before the one whose mask is given, or on a line that none follows (mask none), are delivered (R244). -/
def Dev.closeTail (d : Dev) (line : Nat) (mask : Option (List Nat)) : Dev :=
  let l := d.seg.tail
  l.foldl (fun d t =>
    let clear (g : Nat) : Bool := match mask with
      | some m => t.desc.line + 1 ≠ line || !(m.getD g 0).testBit (if t.blob.dark then 1 else 0)
      | none => true
    let n := (t.runs.map (fun r => ((List.range (runLength r)).filter (fun k => clear (r.1 + k))).length)).foldl (· + ·) 0
    d.closeBlob t.desc { t.blob with p4 := t.blob.p4 + n }) { d with seg := { d.seg with tail := [] } }

/-- Every overflow entry that holds pixels is delivered (R243). -/
def Dev.closeOverflow (d : Dev) (x : LineDesc) : Dev :=
  let os := d.seg.ovf
  let d := { d with seg := { d.seg with ovf := [] } }
  os.foldl (fun d o => if o.blob.area = 0 then d else d.deliverBlob x { o.blob with flags := o.blob.flags ||| 32 }) d

/-! ### A line (R234 to R243) -/

/-- Contrast of a pixel of one polarity. -/
def SegLine.contrast (x : SegLine) (dark : Bool) (g : Nat) : Int :=
  match x.cl.getD g none with
  | some p => if dark then p.2 else p.1
  | none => 0

/-- Flag bits that a blob takes from a line (R246): COLOUR_TURN, COLOUR_GAP, SEAM_TURN, MD_EXTRAP, REF_DATUM as bits 9 to 13, and
REP_FREEWHEEL as bit 8. -/
def SegLine.blobFlags (x : SegLine) : Nat :=
  let f := x.line.flags
  let bit (k j : Nat) : Nat := if f.testBit k then 2 ^ j else 0
  (if x.freewheel then 256 else 0) + bit 4 9 + bit 5 10 + bit 8 11 + bit 9 12 + bit 12 13

/-- The labelling of line x with its final masks: runs of every strip that is not void, both polarities, light first. `prev` is the mask of
the line before, none where that is no neighbour. Answers the state, and whether an overflow entry was used. -/
def SegSt.labelRuns (s : SegSt) (x : SegLine) (mask : List Nat) (prev : Option (List Nat)) (owner : Nat → Option Nat) (void : Nat → Bool) :
    SegSt × Bool :=
  let c := x.line.desc.ctx
  let line := x.line.desc.line
  let at_ (m : List Nat) (g : Int) (dark : Bool) : Bool := if g < 0 then false else (m.getD g.toNat 0).testBit (if dark then 1 else 0)
  let fl := x.blobFlags
  (List.range c.cams.length).foldl (fun acc strip =>
    if void strip then acc
    else
      let cols := (List.range mask.length).filter (fun g => owner g = some strip)
      [false, true].foldl (fun acc dark =>
        (runsAmong cols (fun g => at_ mask g dark)).foldl (fun (acc : SegSt × Bool) run =>
          let (s, home) := acc.1.addRun strip dark line run
          let px := (List.range (run.2 + 1 - run.1)).map (fun k => run.1 + k)
          let add (b : Blob) : Blob :=
            let b := px.foldl (fun (b : Blob) (g : Nat) =>
              let sides := [at_ mask ((g : Int) - 1) dark, at_ mask (g + 1 : Nat) dark, match prev with | some m => at_ m g dark | none => false]
              b.pixel line g ((x.region.getD g none).getD 0) (x.contrast dark g)
                ((mask.getD g 0).testBit (if dark then 3 else 2)) (sides.filter (fun t => !t)).length) b
            { b with flags := b.flags ||| fl }
          match home with
          | .blob id => (s.onBlob id add, acc.2)
          | .ovf i => ({ s with ovf := s.ovf.mapIdx (fun k o => if k = i then { o with blob := add o.blob } else o) }, true)) acc) acc)
    (s, false)

/-- Open sides below the pixels of the line before, where this line is clear (R244). -/
def SegSt.countBottoms (s : SegSt) (line : Nat) (mask : List Nat) : SegSt :=
  s.parts.foldl (fun s p =>
    if p.line + 1 ≠ line then s
    else
      let n := (p.runs.map (fun r => ((List.range (r.2 + 1 - r.1)).filter (fun k =>
        !(mask.getD (r.1 + k) 0).testBit (if p.dark then 1 else 0))).length)).foldl (· + ·) 0
      s.onBlob p.blob (fun b => if b.first ≤ p.line then { b with p4 := b.p4 + n } else b)) s

/-- The part of a strip and polarity with a pixel at a column of line `at_`; the line in progress is `line`. -/
def SegSt.partAt (s : SegSt) (strip : Nat) (dark : Bool) (line at_ g : Nat) : Option BlobPart :=
  let inRuns (l : List (Nat × Nat)) : Bool := l.any (fun r => r.1 ≤ g && g ≤ r.2)
  s.parts.find? (fun p => p.strip = strip && p.dark = dark &&
    (if at_ = line then inRuns p.cur else p.line = at_ && inRuns p.runs))

/-- Seam joins of a line (R235): the state, and the joins counted. -/
def SegSt.seamJoins (s : SegSt) (c : CourseCtx) (line : Nat) : SegSt × Nat :=
  (List.range c.seams.length).foldl (fun acc k =>
    let col := lget c.seams k 0
    if col = 0 then acc
    else
      [false, true].foldl (fun acc dark =>
        [(line, line), (line, line - 1), (line - 1, line)].foldl (fun (acc : SegSt × Nat) pair =>
          match acc.1.partAt k dark line pair.1 (col - 1), acc.1.partAt (k + 1) dark line pair.2 col with
          | some p, some q =>
            let n := if p.blob = q.blob then acc.2 else acc.2 + 1
            let (s, id) := acc.1.unite p.blob q.blob
            (s.onBlob id (fun b => { b with seams := b.seams ||| 2 ^ k }), n)
          | _, _ => acc) acc) acc) (s, 0)

/-- Parts of strips that are not void take their new runs, or close (R237). -/
def SegSt.commitRuns (s : SegSt) (line : Nat) (void : Nat → Bool) : SegSt :=
  { s with parts := s.parts.map (fun p =>
      if !p.open_ || void p.strip then p
      else if p.cur.isEmpty then { p with open_ := false }
      else { p with runs := p.cur, cur := [], line := line }) }

/-- Fragments of blobs that reach the limit on line x (R239): each closes flagged CONTINUED, and its runs carry on. A blob among `cut`, whose
parts a void strip closed on this line, has no runs to carry on (R247). -/
def Dev.fragment (d : Dev) (x : LineDesc) (cut : List Nat) : Dev :=
  let full (b : Blob) : Bool := b.first + 4095 ≤ x.line &&
    (b.last = x.line || (cut.contains b.id && !d.seg.parts.any (fun p => p.blob = b.id && p.open_)))
  let due := d.seg.blobs.filter full
  due.foldl (fun d b =>
    let s := d.seg
    let mine := s.parts.filter (fun p => p.blob = b.id && p.open_ && p.line = x.line)
    let nid := s.nextBlob
    let nb := Blob.start nid b.dark b.chain (b.frag + 1) (x.line + 1) (b.seeded || 0 < b.seeds)
    let d := d.closeBlobs x (fun y => y.id = b.id) 1 .next
    let d := d.inc a_SEG_STAT1 f_SEG_STAT1_FRAG_CNT
    if mine.isEmpty then d
    else { d with seg := { d.seg with
      nextBlob := nid + 1, blobs := d.seg.blobs ++ [nb], parts := d.seg.parts ++ mine.map (fun p => { p with blob := nid }) } }) d

/-- OPEN and PEAK are n, and SEG_TABLE_WARN follows (R236, R242). -/
def Dev.showOpen (d : Dev) (n : Nat) : Dev :=
  let a := a_SEG_LBL_STAT
  let d := d.wrF a f_SEG_LBL_STAT_OPEN n
  let d := if d.rdF a f_SEG_LBL_STAT_PEAK < n then d.wrF a f_SEG_LBL_STAT_PEAK n else d
  let high : Bool := d.rdF a_SEG_CFG f_SEG_CFG_LBL_WARN ≤ n
  let d' := { d with seg := { d.seg with warned := high } }
  if high && !d.seg.warned then d'.raiseEvt 166 else d'

/-- The label table is shown as a line leaves it, after the most entries it held during the line. -/
def Dev.showLabels (d : Dev) : Dev :=
  let n := d.seg.parts.length
  let d := if n < d.seg.high then d.showOpen d.seg.high else d
  ({ d with seg := { d.seg with high := 0 } } : Dev).showOpen n

/-- Line x is labelled (R234 to R243). -/
def Dev.labelLine (d : Dev) (x : SegLine) : Dev :=
  let l := x.line.desc
  let c := l.ctx
  let mask := d.finalMask x
  let owner (g : Nat) : Option Nat := ownerOf c g
  let void (i : Nat) : Bool := x.line.voids.testBit (camAt c.cams i).port
  let strips := c.cams.length
  let bridge := d.cF c a_SEG_CFG f_SEG_CFG_VOID_BRIDGE
  let mask := mask.mapIdx (fun g m => match owner g with | some i => if void i then 0 else m | none => 0)
  let prev := match d.seg.prev with | some (k, m) => if k + 1 = l.line then some m else none | none => none
  -- void strips
  let runs := (List.range strips).map (fun i => if void i then lget d.seg.voidRun i 0 + 1 else 0)
  let cut (i : Nat) : Bool := bridge < lget runs i 0
  let d := d.closeTail l.line (some mask)
  let d := if x.waited then d.inc a_SEG_STAT2 f_SEG_STAT2_REP_WAIT_LINES else d
  let s := { d.seg with voidRun := runs, high := d.seg.parts.length }
  let s := s.countBottoms l.line mask
  let cutIds := (s.parts.filter (fun p => p.open_ && cut p.strip)).map (·.blob)
  let s := { s with parts := s.parts.map (fun (p : BlobPart) => if p.open_ && cut p.strip then { p with open_ := false } else p),
                    blobs := s.blobs.map (fun (b : Blob) => if cutIds.contains b.id then { b with flags := b.flags ||| 2 } else b) }
  let d := d.inc a_SEG_STAT1 f_SEG_STAT1_VOID_CUT_CNT cutIds.dedup.length
  -- runs and seams
  let (s, spill) := s.labelRuns x mask prev owner void
  let (s, joins) := s.seamJoins c l.line
  let s := s.commitRuns l.line void
  let voidIn (b : Blob) : Bool := (List.range strips).any (fun i => void i &&
    (List.range (b.x1 + 1 - b.x0)).any (fun k => owner (b.x0 + k) = some i))
  let s := { s with prev := some (l.line, mask), blobs := s.blobs.map (fun b =>
    if 0 < b.area && voidIn b then { b with voids := b.voids + 1 } else b) }
  let d := ({ d with seg := s } : Dev).inc a_SEG_STAT1 f_SEG_STAT1_SEAM_JOIN_CNT joins
  let d := if spill && d.seg.fullIn ≠ some c.first then
      (((({ d with seg := { d.seg with fullIn := some c.first } } : Dev).inc a_SEG_LBL_STAT f_SEG_LBL_STAT_FULL_CNT).reportErr 0x1E 18 0).raiseEvt 167)
    else d
  -- closing
  let d := d.fragment l cutIds
  let alive := (d.seg.parts.filter (·.open_)).map (·.blob)
  let d := d.closeBlobs l (fun b => !alive.contains b.id) 0 .none_
  let d := if l.line + 1 = c.first + c.len then d.closeOverflow l else d
  d.showLabels

/-! ### LINE_LABEL -/

/-- The next held line to label: the oldest above the last one labelled. -/
def SegSt.nextLabel (s : SegSt) : Option SegLine :=
  s.hist.reverse.find? (fun x => match s.prev with | some (k, _) => k < x.line.desc.line | none => true)

/-- No mosaic line is left to come. -/
def Dev.mosaicOver (d : Dev) : Bool := !d.acquiring && d.mos.todo.isEmpty && d.seg.arrived.isEmpty

/-- The acquisition of the lines held has ended, and none of its mosaic lines is left to come. -/
def Dev.segOver (d : Dev) : Bool :=
  match d.seg.hist with
  | x :: _ =>
    let c := x.line.desc.ctx
    d.runOver c && d.mos.todo.all (fun y => y.ctx.run ≠ c.run) && d.seg.arrived.all (fun m => m.desc.ctx.run ≠ c.run)
  | [] => d.mosaicOver

/-- Blobs end on a line that has been labelled (R241): with the flag bit kept for it, CFG_CUT where lines go on. Blobs closed on the last line of an
acquisition are delivered. -/
def Dev.segEnd (d : Dev) : Dev :=
  match d.seg.closeAs, d.seg.prev, d.seg.hist with
  | (run, line, bit) :: rest, some (k, _), top :: _ =>
    if d.seg.run = some run && line ≤ k then
      let x := match d.seg.hist.find? (fun y => y.line.desc.line = line) with | some y => y.line.desc | none => top.line.desc
      let d := { d with seg := { d.seg with closeAs := rest } }
      ((d.closeBlobs x (fun _ => true) (2 ^ bit) (if bit = 4 then .next else .open_)).closeOverflow x).showLabels
    else d
  | _, _, _ => if d.segOver && d.seg.nextLabel.isNone then d.closeTail 0 none else d

/-- The lines due when line t has arrived are labelled, oldest first (R218): each once the lines that H asks for behind it are there, H being its
own or that of the newest line, if that is larger (log entry 111). -/
def Dev.labelDue (d : Dev) (t : Nat) : Dev :=
  let newest := match d.seg.hist with | y :: _ => d.segH y.line.desc.ctx | [] => 0
  (List.range d.seg.hist.length).foldl (fun d _ =>
    match d.seg.nextLabel with
    | some x => if x.line.desc.line + max (d.segH x.line.desc.ctx) newest ≤ t then (d.labelLine x).segEnd else d
    | none => d) d

/-- The next line to label is labelled as though lines without pixels followed. -/
def Dev.labelFlush (d : Dev) (x : SegLine) : Dev :=
  let newest := match d.seg.hist with | y :: _ => d.segH y.line.desc.ctx | [] => 0
  ((d.segAdvance (max d.seg.at_ (x.line.desc.line + max (d.segH x.line.desc.ctx) newest))).labelLine x).segEnd

/-- Segmentation as mosaic line m finds it: the first line of an acquisition finds no line before it and, on entry from STANDBY, the column model
cleared (R222); the first line of a mode finds the shift 0 (R226). -/
def SegSt.enter (s : SegSt) (c : CourseCtx) : SegSt :=
  let s := if s.run = some c.run then s
    else { s with
      run := some c.run, hist := [], prev := none, cm := if c.anew then [] else s.cm, voidRun := []
      closeAs := s.closeAs.filter (fun e => e.1 = c.run) }
  if s.entry = some c.entry then s else { s with entry := some c.entry, sh := 0 }

/-- LINE_LABEL: the next mosaic line is taken in, which completes line L = j − H (R218). When an acquisition has ended, its lines left are labelled
first. -/
def Dev.lineLabel (d : Dev) (rd : Nat → Nat → List Byte) : Dev :=
  match (if d.segOver then d.seg.nextLabel else none), d.seg.arrived with
  | some x, _ => d.labelFlush x
  | none, m :: rest =>
    let d := if d.seg.run = some m.desc.ctx.run then d else d.segEnd.closeTail 0 none
    let d := { d with seg := { d.seg.enter m.desc.ctx with arrived := rest } }
    (d.segArrive rd m).labelDue m.desc.line
  | none, [] => d.segEnd

/-- LINE_LABEL (R218). -/
def execLineLabel (dt : Nat) (s : State) : Host.Outcome State Fault Refusal :=
  .next (s.afterH dt (fun rd d => d.lineLabel rd))

/-! ### Repeat marks (R225) -/

/-- REPMARK_POSITION: the position of the mark taken is computed by the interpolation of R210; the mark is accepted, from the next line labelled on, or
rejected. -/
def Dev.repmarkPosition (d : Dev) (rd : Nat → Nat → List Byte) : Dev :=
  match d.seg.mark with
  | none => d
  | some tm =>
    let c := d.wpu.ctx
    let t : Int := tm.toNat
    let before := d.wpu.issued.filter (fun l => decide ((l.time.toNat : Int) ≤ t) && l.epoch = d.clk.epoch)
    match before with
    | [] => { d with seg := { d.seg with mark := none } }
    | j :: _ =>
      let tj : Int := j.time.toNat
      let p : Int := match d.wpu.issued.find? (fun l => l.line = j.line + 1) with
        | some k =>
          if k.dirChange || k.epoch ≠ j.epoch then extrapNm t j.pos tj j.speed j.speedValid
          else j.pos + rdiv ((k.pos - j.pos) * (t - tj)) ((k.time.toNat : Int) - tj)
        | none => extrapNm t j.pos tj j.speed j.speedValid
      let len : Int := d.repLen c
      let ofs : Int := d.cF c a_SEG_REP_MARK f_SEG_REP_MARK_MARK_OFS_NM
      let e0 := (p - ofs - d.repOrigin c) % len
      let e := if len < 2 * e0 then e0 - len else e0
      let d := { d with seg := { d.seg with mark := none } }
      let a := a_SEG_REP_STAT
      if !d.seg.marked || decide ((e.natAbs : Nat) ≤ d.cF c a_SEG_REP_MARK f_SEG_REP_MARK_MARK_TOL_NM) then
        let d := { d with seg := { d.seg with origin := p - ofs, marked := true, lastMark := some p } }
        let d := { d with regs := d.regs.put a_SEG_REP_ORIGIN (BitVec.ofInt 64 (p - ofs)), force := d.force.put a_SEG_REP_ORIGIN (BitVec.ofInt 64 (p - ofs)) }
        (((d.wrF a f_SEG_REP_STAT_MARK_ERR_NM (uwrap e 32)).wrB a f_SEG_REP_STAT_FREEWHEEL false).wrB a f_SEG_REP_STAT_LOCKED true).repAgain rd
      else (d.inc a f_SEG_REP_STAT_REJECT_CNT).raiseEvt 168

/-- REPMARK_POSITION (R225). -/
def execRepmarkPosition (dt : Nat) (s : State) : Host.Outcome State Fault Refusal :=
  .next (s.afterH dt (fun rd d => d.ownChange (fun d => d.repmarkPosition rd)))

/-! ### Register behaviour and mode entry -/

/-- Write of 1 to REP_CAPTURE.GO (R228): accepted in CALIBRATE. -/
def Dev.captureGo (d : Dev) : Dev :=
  let a := a_SEG_REP_CAPTURE
  if !d.mode.starting && d.mode.cur == .calibrate then
    let d := { d with seg := { d.seg with capture := some ⟨false, 0, []⟩ } }
    (d.wrF a f_SEG_REP_CAPTURE_ERR 0).wrB a f_SEG_REP_CAPTURE_BUSY true
  else d.wrF a f_SEG_REP_CAPTURE_ERR 1

/-- Samples of the neighbourhood store that regions with a kernel need under registers read by c (R231). -/
def Dev.kernelStore (d : Dev) (c : CourseCtx) : Nat :=
  ((List.range 16).map (fun r =>
    let h := d.segHk c r
    let a := a_SEG_REGION_COLS r
    let lo := d.cF c a f_SEG_REGION_COLS_COL_LO
    let hi := d.cF c a f_SEG_REGION_COLS_COL_HI
    if h = 0 || hi < lo then 0
    else (min (hi + h + 1) (d.gridWidth c) - (lo - h)) * 2 * h)).foldl (· + ·) 0

/-- Samples the store holds in a mode (R231). -/
def storeSize (mode : Nat) : Nat := if mode = 4 then 8388608 else 6291456

/-- Whether segmentation refuses entry to a mode under the settings of c: E_REPEAT_SIZE, E_SEG_KERNEL, E_SEG_STORE (R222, R228, R231). -/
def Dev.segEntry (d : Dev) (c : CourseCtx) (mode : Nat) : Bool × Bool × Bool :=
  let lines := d.cF c a_SEG_REP_CFG f_SEG_REP_CFG_R_LINES
  let big := (List.range 16).any (fun r => 7 < d.segHk c r)
  (16 * 2 ^ 30 < lines * repStride (d.repWidth c) || (lines = 0 && (List.range 16).any (fun r => d.segModel c r = 2)),
   big && mode ≠ 4, decide (storeSize mode < d.kernelStore c))

/-- Segmentation at entry to an acquiring mode (R225): registration by marks starts anew, and that of the mode before is kept for its lines still to
come. What else an entry sets holds from its first line on (`SegSt.enter`). -/
def Dev.segEnter (d : Dev) (c : CourseCtx) : Dev :=
  let marks := d.cB c a_SEG_REP_CFG f_SEG_REP_CFG_REG_SRC
  let s := d.seg
  let d := { d with seg := { s with
    enabled := d.cB c a_SEG_CFG f_SEG_CFG_EN, marked := false, lastMark := none, mark := none
    origin := (d.under c a_SEG_REP_ORIGIN).toInt, repOld := ⟨s.repEntry, s.origin, s.marked, s.lastMark⟩, repEntry := d.mode.entries } }
  (d.wrB a_SEG_REP_STAT f_SEG_REP_STAT_FREEWHEEL false).wrB a_SEG_REP_STAT f_SEG_REP_STAT_LOCKED (!marks)

end Sys2Proof.Machine
end

