-- ==== Sys2Proof/Machine/WpuOps.lean ====
section
/-! DEFINITION. What the web position unit does for itself and for others: nanometres, compare units, pulses on the marker and strobe pins,
latches (R84 to R86, R98 to R106). -/

namespace Sys2Proof.Machine

/-! ### Nanometres (R84, R445) -/

/-- to_nm before saturation: rhe(p × s, 44). -/
def nmExact (p : Int) (s : Nat) : Int := rhe (p * s) 44

/-- to_nm(p, s) (R84). -/
def toNm (p : Int) (s : Nat) : Int := clampI (nmExact p s) (-(2 ^ 63)) (2 ^ 63 - 1)

/-- A conversion that saturates sets POS_SAT (R84). -/
def Dev.noteSat (d : Dev) (p : Int) (s : Nat) : Dev :=
  let x := nmExact p s
  if x < -(2 ^ 63) ∨ 2 ^ 63 - 1 < x then d.flag a_WPU_MOTION f_WPU_MOTION_POS_SAT else d

/-- Raw position word of channel n as a signed number (R83). -/
def Dev.rawOf (d : Dev) (n : Nat) : Int := (d.rd (a_WPU_ENC_POS n)).toInt

/-- Scale of channel n in force (R84). -/
def Dev.scaleOf (d : Dev) (n : Nat) : Nat := d.inF (a_WPU_ENC_SCALE n) f_WPU_ENC_SCALE_SCALE

/-- The master channel in force. -/
def Dev.master (d : Dev) : Nat := d.inF a_WPU_CTRL f_WPU_CTRL_MASTER

/-- TYPE of channel n in force (R75). -/
def Dev.encType (d : Dev) (n : Nat) : Nat := d.inF (a_WPU_ENC_CFG n) f_WPU_ENC_CFG_TYPE

/-- What is added to every to_nm(t, S): POS_OFS in a partner; a device that took authority keeps what it added, so that its positions do not
step, while POS_OFS reads 0 (R445; log entry 32). -/
def Dev.posOfs (d : Dev) : Int := if d.isPartner then (d.rd a_RDG_POS_OFS).toInt else d.pair.kept

/-- to_nm(t, S) as the unit uses it (R84, R445). -/
def Dev.tpos (d : Dev) : Int := toNm d.wpu.t (d.scaleOf d.master) + d.posOfs

/-- WPU.TPOS shows to_nm(t, S), DIR shows d, and POS_SAT is set where the conversion saturated (R84, R91). -/
def Dev.showTpos (d : Dev) : Dev :=
  let d := d.wr a_WPU_TPOS (BitVec.ofInt 64 d.tpos)
  (d.wrB a_WPU_MOTION f_WPU_MOTION_DIR d.wpu.rev).noteSat d.wpu.t (d.scaleOf d.master)

/-! ### Latches (R86) -/

/-- Latch slot k captures the master's raw word and device time. -/
def Dev.capture (d : Dev) (k : Nat) : Dev :=
  (d.wr (a_WPU_LATCH_POS k) (d.rd (a_WPU_ENC_POS d.master))).wr (a_WPU_LATCH_TIME k) d.now

/-- SRC of latch slot k: 0 software, 1 event input, 2 PPS_IN, 3 off. -/
def Dev.latchSrc (d : Dev) (k : Nat) : Nat := d.rdF a_WPU_LATCH_CFG f_WPU_LATCH_CFG_SRC / 4 ^ k % 4

/-- A source reaches the latch slots that name it. -/
def Dev.latchFrom (d : Dev) (src : Nat) (p : Nat → Bool) : Dev :=
  iter 4 (fun k d => if d.latchSrc k = src && p k then d.capture k else d) d

/-! ### Compare units (R100 to R105) -/

/-- Queue of compare unit u. -/
def Dev.cmpQueue (d : Dev) (u : Nat) : List Int := alGet d.wpu.cmp u []

/-- Set the queue of unit u; DEPTH shows its length modulo 64. -/
def Dev.setCmp (d : Dev) (u : Nat) (q : List Int) : Dev :=
  ({ d with wpu := { d.wpu with cmp := if q.isEmpty then alErase d.wpu.cmp u else alSet d.wpu.cmp u q } } : Dev).wrF (a_WPU_CMP_STAT u)
    f_WPU_CMP_STAT_DEPTH (q.length % 64)

/-- DIR of unit u: reverse. -/
def Dev.cmpRev (d : Dev) (u : Nat) : Bool := d.rdB (a_WPU_CMP_CFG u) f_WPU_CMP_CFG_DIR

/-- A value of a unit is fired (R101): counted, raised, and its marker pulse scheduled. -/
def Dev.cmpFire (d : Dev) (u : Nat) : Dev :=
  let c := a_WPU_CMP_CFG u
  let d := (d.inc (a_WPU_CMP_STAT u) f_WPU_CMP_STAT_FIRE_CNT).raiseEvt (76 + u)
  let pin := d.rdF c f_WPU_CMP_CFG_OUT
  if 15 < pin then d
  else
    let p : Pulse := ⟨u, pin, d.el, d.el + d.rdF c f_WPU_CMP_CFG_DELAY_NS, max 1 (d.rdF c f_WPU_CMP_CFG_WIDTH_NS)⟩
    { d with wpu := { d.wpu with marks := d.wpu.marks ++ [p] } }

/-- A value reached in SAFE_HOLD is counted and never fires (R105). -/
def Dev.cmpReached (d : Dev) (u : Nat) : Dev :=
  if d.inSafe then d.inc (a_WPU_CMP_STAT u) f_WPU_CMP_STAT_BLOCKED_CNT else d.cmpFire u

/-- Insert a value into a queue sorted in the unit's direction, after equal values (R100). -/
def cmpInsert (rev : Bool) (v : Int) : List Int → List Int
  | [] => [v]
  | x :: q => if (if rev then decide (x < v) else decide (v < x)) then v :: x :: q else x :: cmpInsert rev v q

/-- What became of a push: queued, fired at once, late and not fired, or discarded by a full queue. -/
inductive Pushed
  | queued | fired | late | full
  deriving DecidableEq, Repr

/-- A push to unit u (R100, R102, R103). -/
def Dev.cmpPush (d : Dev) (u : Nat) (v : Int) : Dev × Pushed :=
  let rev := d.cmpRev u
  let t := d.tpos
  let st := a_WPU_CMP_STAT u
  if d.wpu.rev = rev && (if rev then decide (t ≤ v) else decide (v ≤ t)) then
    let w := (t - v).natAbs
    if w * 2 ^ 32 ≤ d.rdF (a_WPU_CMP_CFG u) f_WPU_CMP_CFG_LATE_WINDOW * d.scaleOf d.master then
      if d.inSafe then (d.inc st f_WPU_CMP_STAT_BLOCKED_CNT, .fired)
      else ((d.inc st f_WPU_CMP_STAT_LATE_FIRED_CNT).cmpFire u, .fired)
    else (((d.flag st f_WPU_CMP_STAT_LATE).inc st f_WPU_CMP_STAT_LATE_CNT).raiseEvt 108, .late)
  else
    let q := d.cmpQueue u
    if 64 ≤ q.length then ((d.inc st f_WPU_CMP_STAT_FULL_CNT).raiseEvt 109, .full)
    else (d.setCmp u (cmpInsert rev v q), .queued)

/-- The values of unit u that to_nm(t, S) has reached or passed fire in queue order (R101). -/
def Dev.cmpEval (d : Dev) (u : Nat) : Dev :=
  let rev := d.cmpRev u
  if d.wpu.rev ≠ rev then d
  else
    let t := d.tpos
    let q := d.cmpQueue u
    let due := q.takeWhile (fun v => if rev then decide (t ≤ v) else decide (v ≤ t))
    if due.isEmpty then d
    else due.foldl (fun d _ => d.cmpReached u) (d.setCmp u (q.drop due.length))

/-- Every compare unit is evaluated. -/
def Dev.cmpEvalAll (d : Dev) : Dev := (d.wpu.cmp.map (·.1)).foldl (fun d u => d.cmpEval u) d

/-- Every compare queue is emptied (R105). -/
def Dev.cmpClearAll (d : Dev) : Dev := (d.wpu.cmp.map (·.1)).foldl (fun d u => d.setCmp u []) d

/-! ### Strobes (R98) -/

/-- A start of strobe s schedules its pulse with the settings in force. -/
def Dev.strobeStart (d : Dev) (s : Nat) : Dev :=
  let c := a_WPU_STB_CFG s
  let p : Pulse := ⟨0, s, d.el, d.el + d.inF c f_WPU_STB_CFG_DELAY_NS, max 1 (d.inF c f_WPU_STB_CFG_WIDTH_NS)⟩
  { d with wpu := { d.wpu with strobes := d.wpu.strobes.mapIdx (fun k x => if k = s then { x with sched := x.sched ++ [p] } else x) } }

/-- A source of strobe starts: 0 a line, 1 every DIV-th line, 2 the event input (R98). -/
def Dev.strobeFrom (d : Dev) (s src : Nat) : Dev :=
  let c := a_WPU_STB_CFG s
  if d.inB c f_WPU_STB_CFG_EN && d.inF c f_WPU_STB_CFG_SRC = src then d.strobeStart s else d

end Sys2Proof.Machine
end

