-- ==== Sys2Proof/Machine/ClsOps.lean ====
section
/-! DEFINITION. What classification is made of: the banks and the walk (R249 to R254), slit lanes, the counts of courses and rolls, defect
records and what an action entry asks for (R258 to R262, R265, R270), the loft (R263, R264) and the second pass's window (R256). -/

namespace Sys2Proof.Machine

/-! ### Banks (R249 to R252) -/

/-- NODES of bank b. -/
def Dev.bankNodes (d : Dev) (b : Nat) : Nat := d.tabLe 0x22 0 b 0 2

/-- ROOT2 of bank b. -/
def Dev.bankRoot2 (d : Dev) (b : Nat) : Nat := d.tabLe 0x22 0 b 2 2

/-- A tree node: KIND, THR, FEATURE or CLASS, LT or P2, GE. -/
structure TreeNode where
  kind : Nat
  thr  : Int
  code : Nat
  lt   : Nat
  ge   : Nat
  deriving DecidableEq, Repr

/-- Node i of bank b. -/
def Dev.treeNode (d : Dev) (b i : Nat) : TreeNode :=
  let bs := d.tab.readBytes tabDefault (tabAddr 0x20 0 b (16 * i)) 16
  ⟨leAt bs 8 1 % 4, sext (leAt bs 0 8) 64, leAt bs 9 1, leAt bs 10 2, leAt bs 12 2⟩

/-- The first check a node fails among those of R250 that concern nodes; 0 where it passes. -/
def TreeNode.check (t : TreeNode) (i nodes root2 : Nat) : Nat :=
  if 2 ≤ t.kind then 2
  else if t.kind = 0 then
    if t.lt ≤ i ∨ t.ge ≤ i ∨ nodes ≤ t.lt ∨ nodes ≤ t.ge then 3 else if 28 < t.code then 4 else 0
  else if t.lt % 2 = 1 ∧ root2 = 0xFFFF then 6
  else 0

/-- Validation of bank b: VAL_ERR and VAL_NODE, (0, 0) where it passes (R250). The header's NODES is checked first, the nodes in order, ROOT2
last. -/
def Dev.bankCheck (d : Dev) (b : Nat) : Nat × Nat :=
  let n := d.bankNodes b
  let root2 := d.bankRoot2 b
  if n = 0 ∨ 8192 < n then (1, 0)
  else
    match (List.range n).find? (fun i => (d.treeNode b i).check i n root2 ≠ 0) with
    | some i => ((d.treeNode b i).check i n root2, i)
    | none => if root2 ≠ 0xFFFF ∧ n ≤ root2 then (5, 0) else (0, 0)

/-- Bank b has a leaf of a class above 63 (R51, R251). -/
def Dev.bankWide (d : Dev) (b : Nat) : Bool :=
  (List.range (min 8192 (d.bankNodes b))).any (fun i => let t := d.treeNode b i; t.kind = 1 && 63 < t.code)

/-- The bank in force: 0 A, 1 B. -/
def Dev.bankNow (d : Dev) : Nat := d.rdF a_CLS_BANK_CTRL f_CLS_BANK_CTRL_IN_FORCE

/-- The bank that will be in force once a pending swap takes effect (R251). -/
def Dev.bankCommitted (d : Dev) : Nat := if d.rdB a_CLS_BANK_CTRL f_CLS_BANK_CTRL_SWAP then 1 - d.bankNow else d.bankNow

/-- Set the LOADED bit of bank b. -/
def Dev.setLoaded (d : Dev) (b : Nat) (on : Bool) : Dev :=
  let v := d.rdF a_CLS_BANK_CTRL f_CLS_BANK_CTRL_LOADED
  let rest := if v.testBit b then v - 2 ^ b else v
  d.wrF a_CLS_BANK_CTRL f_CLS_BANK_CTRL_LOADED (if on then rest + 2 ^ b else rest)

/-- BANK_CTRL.MARK, or TABLE_LOAD completed: the idle bank is validated (R250). -/
def Dev.bankMark (d : Dev) : Dev :=
  let b := 1 - d.bankNow
  let (e, i) := d.bankCheck b
  ((d.wrF a_CLS_BANK_CTRL f_CLS_BANK_CTRL_VAL_ERR e).wrF a_CLS_BANK_CTRL f_CLS_BANK_CTRL_VAL_NODE i).setLoaded b (e = 0)

/-- BANK_CTRL.SWAP (R251). -/
def Dev.bankSwap (d : Dev) : Dev :=
  let b := 1 - d.bankNow
  let record : Bool := d.mode.cur == .record || (match d.mode.pend with | some p => p.target == .record | none => false)
  let no (e : Nat) : Dev := d.wrF a_CLS_BANK_CTRL f_CLS_BANK_CTRL_ERR e
  if !(d.rdF a_CLS_BANK_CTRL f_CLS_BANK_CTRL_LOADED).testBit b then no 1
  else if record && d.bankWide b then no 2
  else (d.wrF a_CLS_BANK_CTRL f_CLS_BANK_CTRL_ERR 0).wrB a_CLS_BANK_CTRL f_CLS_BANK_CTRL_SWAP true

/-- A swap due at a course boundary: the banks exchange roles where the idle one is loaded (R251). -/
def Dev.bankBoundary (d : Dev) : Dev :=
  if d.rdB a_CLS_BANK_CTRL f_CLS_BANK_CTRL_SWAP then
    let b := 1 - d.bankNow
    let d := d.unask a_CLS_BANK_CTRL f_CLS_BANK_CTRL_SWAP
    if (d.rdF a_CLS_BANK_CTRL f_CLS_BANK_CTRL_LOADED).testBit b then d.wrForce a_CLS_BANK_CTRL f_CLS_BANK_CTRL_IN_FORCE b
    else d.wrF a_CLS_BANK_CTRL f_CLS_BANK_CTRL_ERR 1
  else d

/-- The bank a blob takes: the one in force on its closing line (R251). -/
def Dev.bankOf (d : Dev) (c : CourseCtx) : Nat := d.cF c a_CLS_BANK_CTRL f_CLS_BANK_CTRL_IN_FORCE

/-! ### The walk (R253, R254) -/

/-- The lane of a cross-direction position (R209): 255 where it lies in none. -/
def Dev.laneOf (d : Dev) (c : CourseCtx) (x : Int) : Nat :=
  let n := min 64 (d.cF c a_MOS_LANE_CFG f_MOS_LANE_CFG_N_LANES)
  let b (j : Nat) : Int := (d.under c (a_MOS_LANE_B j)).toInt
  match (List.range n).find? (fun j => decide (b j ≤ x) && decide (x < b (j + 1))) with
  | some j => j
  | none => 0xFF

/-- Bits set in the low 16 bits. -/
def popcount16 (n : Nat) : Nat := ((List.range 16).filter (fun i => n.testBit i)).length

/-- Feature values of a blob by code (R246, R253); `p2` holds IN_MEAN, RING_MEAN, RING_SD and GRAD, all 0 in the first pass. -/
def BlobDesc.feature (b : BlobDesc) (p2 : List Nat) (lane code : Nat) : Int :=
  match code with
  | 0 => b.area | 1 => b.x0 | 2 => b.x1 | 3 => (b.x1 + 1 - b.x0 : Nat) | 4 => b.height | 5 => b.cxq | 6 => b.cyq
  | 7 => b.mu20 | 8 => b.mu02 | 9 => b.mu11 | 10 => b.elong | 11 => b.cmin | 12 => b.cmax | 13 => b.cmean | 14 => b.perim
  | 15 => b.p4 | 16 => popcount16 b.seamMask | 17 => b.voids | 18 => b.seeds | 19 => if b.dark then 1 else 0 | 20 => b.region
  | 21 => b.frag | 22 => b.md | 23 => b.cd | 28 => lane
  | k => lget p2 (k - 24) 0

/-- A walk from node i of bank b: the class, and P2 of the leaf. A walk that leaves the rules of R250 ends with a free class. -/
def Dev.walk (d : Dev) (b : Nat) (feat : Nat → Int) : Nat → Nat → Nat × Bool
  | 0, i => ((Config.strayClass i).toNat, false)
  | fuel + 1, i =>
    if 8192 ≤ i then ((Config.strayClass i).toNat, false)
    else
      let t := d.treeNode b i
      if t.kind = 1 then (t.code, t.lt % 2 = 1)
      else if t.kind = 0 ∧ t.code ≤ 28 then d.walk b feat fuel (if feat t.code < t.thr then t.lt else t.ge)
      else ((Config.strayClass i).toNat, false)

/-- The first pass over a blob. -/
def Dev.firstPass (d : Dev) (x : BlobDesc) : Nat × Bool :=
  d.walk (d.bankOf x.ctx) (x.feature [] (d.laneOf x.ctx x.cd)) 8192 0

/-- The second pass over a blob, with the features of its window. -/
def Dev.secondPass (d : Dev) (x : BlobDesc) (p2 : List Nat) : Nat :=
  let b := d.bankOf x.ctx
  (d.walk b (x.feature p2 (d.laneOf x.ctx x.cd)) 8192 (d.bankRoot2 b)).1

/-! ### Counts of courses and rolls (R258, R260, R271, R273) -/

/-- The course a blob is counted in: its own while it is open, otherwise the oldest open one, and then it is late (R272, R273). -/
def Dev.courseFor (d : Dev) (b : BlobDesc) : Option (Nat × Bool) :=
  match d.cls.courses.find? (fun c => !c.closed && c.ctx.first = b.ctx.first) with
  | some c => some (c.ctx.first, false)
  | none => (d.cls.courses.find? (fun c => !c.closed)).map (fun c => (c.ctx.first, true))

/-- The roll that holds a line: the newest open one that begins at or before it, otherwise the oldest, and then it is late. -/
def Dev.rollFor (d : Dev) (line : Nat) : Nat × Bool :=
  let l := d.cls.rolls
  match (List.range l.length).reverse.find? (fun i => match l[i]? with
      | some r => (match r.first with | some (f, _) => decide (f ≤ line) | none => true)
      | none => false) with
  | some i => (i, false)
  | none => (0, true)

/-- Change the counts of the course and the roll a blob is counted in. -/
def Dev.onCounts (d : Dev) (b : BlobDesc) (f : Bool → Counts → Counts) : Dev :=
  let (ri, rlate) := d.rollFor b.closing
  let rolls := d.cls.rolls.mapIdx (fun i (r : Roll) => if i = ri then { r with counts := f rlate r.counts } else r)
  let courses := match d.courseFor b with
    | some (k, late) => d.cls.courses.map (fun (c : ClsCourse) => if c.ctx.first = k then { c with counts := f late c.counts } else c)
    | none => d.cls.courses
  { d with cls := { d.cls with rolls := rolls, courses := courses } }

/-- Reported defects of a class in the course a blob is counted in. -/
def Dev.ratedOf (d : Dev) (b : BlobDesc) (cls : Nat) : Nat :=
  match d.courseFor b with
  | some (k, _) => (match d.cls.courses.find? (fun c => c.ctx.first = k) with | some c => alGet c.rated cls 0 | none => 0)
  | none => 0

/-- A blob of a class is counted. -/
def Counts.classified (c : Counts) (cls : Nat) (full late : Bool) : Counts :=
  { c with blobs := c.blobs + 1, classes := alSet c.classes cls (alGet c.classes cls 0 + 1), late := if late then c.late + 1 else c.late
           tableFull := if full then c.tableFull + 1 else c.tableFull }

/-- A defect is counted in its lane's entry; lane 255 is entry 64. -/
def Counts.lane (c : Counts) (lane area : Nat) : Counts :=
  let j := min lane 64
  let (n, a) := alGet c.lanes j (0, 0)
  { c with lanes := alSet c.lanes j (n + 1, a + area) }

/-- CLASS_CNT and the lane entries as records carry them (R271). -/
def Counts.tableBytes (c : Counts) : List Byte :=
  (List.range 256).flatMap (fun k => leBytes 4 (min (alGet c.classes k 0) (2 ^ 32 - 1))) ++
  (List.range 65).flatMap (fun j => let (n, a) := alGet c.lanes j (0, 0); leBytes 4 (min n (2 ^ 32 - 1)) ++ leBytes 8 a)

/-! ### Records (R268 to R271) -/

/-- The record of a line is UNVERIFIED (R453, R457, R458). -/
def Dev.unverified (d : Dev) (line : Nat) : Bool :=
  match d.pair.unv with
  | some (f, none) => f ≤ line
  | some (f, some e) => f ≤ line && line < e
  | none => false

/-- The 32-byte Spaene header. -/
def spaeneHeader (st : Stamp) (epoch : BitVec 16) (kind len severity roll flags count : Nat) : List Byte :=
  st.bytes ++ leBytes 2 epoch.toNat ++ leBytes 2 kind ++ leBytes 2 len ++ [1, BitVec.ofNat 8 severity] ++ leBytes 4 roll ++
  leBytes 4 flags ++ leBytes 4 count

/-- A defect record leaves classification (R447, R448, R457): to its ring; from the partner to the authority, unless it is UNVERIFIED, when
it goes to its own rings and into the reconciliation store. The authority keeps its own for the compare, and their keys in a split. -/
def Dev.sendDefect (d : Dev) (b : BlobDesc) (ring : Nat) (st : Stamp) (bytes : List Byte) : Dev :=
  let own : Dev := d.fly .record ⟨st, b.epoch, .ring (.whole ring 1 bytes)⟩
  let unv := d.unverified b.closing
  if unv && !d.rdB a_RDG_STAT f_RDG_STAT_SPLIT && d.rdB a_RDG_STAT f_RDG_STAT_RIDGE_UP then own
  else if unv then
    let n := d.pair.store
    if 128 * (n + 1) ≤ d.inF a_RDG_CFG f_RDG_CFG_RECON_MIB * 2 ^ 20 then
      let own := { own with pair := { own.pair with store := n + 1 } }
      own.hbmPut ((d.inForce a_RDG_RECON_BASE).toNat + 128 * n) bytes
    else own.flag a_RDG_STAT f_RDG_STAT_RECON_OVF
  else if d.isPartner then d.ridge 0x90 bytes
  else
    let own := if d.established then own.ownCompare bytes else own
    if d.rdB a_RDG_STAT f_RDG_STAT_SPLIT then { own with pair := { own.pair with keys := own.pair.keys ++ [recKey bytes] } } else own

/-- A window side cut to a limit, centred on the centroid (R256, R266). -/
def cutSide (lo hi limit centre : Int) : Int × Int :=
  if limit < hi - lo + 1 then (centre - limit / 2, centre - limit / 2 + limit - 1) else (lo, hi)

/-- Width of the grid, W_M. -/
def Dev.wm (d : Dev) (c : CourseCtx) : Nat := d.gridWidth c

/-- The window of a crop: X0, W, first line, H (R266). It starts at line 0 where the margin reaches below it. -/
def Dev.cropWindow (d : Dev) (b : BlobDesc) (e : List Byte) : Nat × Nat × Nat × Nat :=
  let mx : Int := leAt e 16 2
  let my : Int := leAt e 18 2
  let lim (n : Nat) : Int := if n = 0 ∨ 4096 < n then 4096 else n
  let (x0, x1) := cutSide (b.x0 - mx) (b.x1 + mx) (lim (leAt e 20 2)) (b.cxq / 64 : Nat)
  let (y0, y1) := cutSide (b.first - my) (b.last + my) (lim (leAt e 22 2)) (b.first + b.cyq / 64 : Nat)
  let x0 := clampI x0 0 (d.wm b.ctx - 1)
  let x1 := clampI x1 x0 (d.wm b.ctx - 1)
  let y0 := max y0 0
  (x0.toNat, (x1 - x0 + 1).toNat, y0.toNat, (y1 - y0 + 1).toNat)

/-- A defect asks for a crop: its CROP_ID, 0 where the queue is full (R265). The partner of a pair counts CROP_IDs and cuts nothing (R448). -/
def Dev.queueCrop (d : Dev) (b : BlobDesc) (e : List Byte) (st : Stamp) : Dev × Nat :=
  if 256 ≤ d.cls.crops.length then (d.inc a_CLS_STAT1 f_CLS_STAT1_CROP_SKIP_CNT, 0)
  else
    let id := d.cls.nextCrop
    let d := { d with cls := { d.cls with nextCrop := if id = 2 ^ 32 - 1 then 1 else id + 1 } }
    if d.isPartner && !d.unverified b.closing then (d, id)
    else
      let (x0, w, y0, h) := d.cropWindow b e
      let level := min 9 (leAt e 24 1)
      let c : Crop := { id := id, defect := st, ring := leAt e 14 2 % 4096, level := level, x0 := x0, w := w, y0 := y0, h := h,
                        started := none, lines := 0, raw := 0, sent := 0, enc := .start level, closed := none }
      (({ d with cls := { d.cls with crops := d.cls.crops ++ [c] } } : Dev).showCrops, id)

/-- The compare value pushed for a defect and what became of it; none where nothing is pushed (R261, R262). -/
def Dev.markDefect (d : Dev) (b : BlobDesc) (e : List Byte) : Dev × Option Pushed :=
  if b.flags.testBit 2 || d.inSafe || d.unverified b.closing then (d, none)
  else
    let u := leAt e 2 1 % 32
    let ref := match leAt e 3 1 with | 1 => d.mdOf b.first | 2 => d.mdOf b.last | _ => b.md
    let ofs := sext (leAt e 4 8) 64
    let v := if d.cmpRev u then ref - ofs else ref + ofs
    let (d, r) := d.cmpPush u (sext (uwrap v 64) 64)
    (d, some r)

/-- The final class of a blob is known (R258 to R262, R265, R270): counts, lane, marker, event, and for a reported defect the record and its
crop. `p2` says whether a second pass was completed or failed. -/
def Dev.finalise (d : Dev) (b : BlobDesc) (cls cls1 : Nat) (p2 : Option Bool) : Dev :=
  let e := d.tab.readBytes tabDefault (tabAddr 0x21 0 (d.bankOf b.ctx) (32 * cls)) 32
  let act := leAt e 1 1
  let sev := leAt e 0 1 % 8
  let lane := d.laneOf b.ctx b.cd
  let d := d.inc a_CLS_STAT0 f_CLS_STAT0_CLASSIFIED
  let d := d.onCounts b (fun late c => c.classified cls (b.flags.testBit 5) late)
  let rmax := leAt e 26 2
  let spent : Bool := act.testBit 0 && rmax ≠ 0 && rmax ≤ d.ratedOf b cls
  let report : Bool := act.testBit 0 && !spent
  let d := if spent then
      (d.inc a_CLS_STAT0 f_CLS_STAT0_SUPPRESSED_CNT).onCounts b (fun _ c => { c with suppressed := c.suppressed + 1 })
    else d
  let d := if act.testBit 3 then d.onCounts b (fun _ c => c.lane lane b.area) else d
  let (d, pushed) := if act.testBit 2 then d.markDefect b e else (d, none)
  let d := if act.testBit 4 then d.raiseEvt (171 + sev) else d
  if !report then d
  else
    let d := d.onCounts b (fun _ c => { c with defects := c.defects + 1 })
    let d := match d.courseFor b with
      | some (k, _) => { d with cls := { d.cls with courses := d.cls.courses.map (fun (c : ClsCourse) =>
          if c.ctx.first = k then { c with rated := alSet c.rated cls (alGet c.rated cls 0 + 1) } else c) } }
      | none => d
    let (st, d) := d.mkStamp 19 b.stamp.time
    let (d, crop) := if act.testBit 1 then d.queueCrop b e st else (d, 0)
    let (rollId, count) := match d.cls.rolls[(d.rollFor b.closing).1]? with | some r => (r.id, r.counts.defects) | none => (0, 0)
    let flag (x : Bool) (k : Nat) : Nat := if x then 2 ^ k else 0
    let flags := flag (d.unverified b.closing) 0 + flag (0 < b.voids) 1 + flag (pushed == some .full) 4 + flag (pushed == some .late) 5 +
      flag (act.testBit 2 && pushed.isNone) 6 + flag (p2 == some true) 7 + flag (p2 == some false) 8 + flag (act.testBit 1 && crop = 0) 9
    let bytes := spaeneHeader st b.epoch 1 128 sev rollId flags count ++
      [BitVec.ofNat 8 cls, BitVec.ofNat 8 ((if b.dark then 1 else 0) + 16 * b.region), BitVec.ofNat 8 lane,
       BitVec.ofNat 8 (popcount16 b.seamMask)] ++ leBytes 4 b.area ++ leBytes 8 (uwrap b.md 64) ++ leBytes 8 (uwrap b.cd 64) ++
      leBytes 8 (uwrap (d.mdOf b.first) 64) ++ leBytes 8 (uwrap (d.mdOf b.last) 64) ++ leBytes 8 b.first ++ leBytes 4 b.x0 ++ leBytes 4 b.x1 ++
      leBytes 2 b.height ++ leBytes 2 b.elong ++ leBytes 2 (uwrap b.cmin 16) ++ leBytes 2 (uwrap b.cmax 16) ++
      leBytes 2 (uwrap b.cmean 16) ++ leBytes 2 b.voids ++ leBytes 4 b.perim ++ leBytes 4 b.flags ++ leBytes 4 b.chain ++
      leBytes 4 b.joined ++ leBytes 2 b.frag ++
      [if pushed.isSome then BitVec.ofNat 8 (leAt e 2 1 % 32) else 0xFF, BitVec.ofNat 8 cls1] ++ leBytes 4 crop ++ leBytes 4 b.seeds
    d.sendDefect b (leAt e 12 2 % 4096) st bytes

/-! ### The loft (R263, R264) -/

/-- LOFT.LINES in force: while a pseudo-channel is retired, at most the loft limit (R412). -/
def Dev.loftLines (d : Dev) : Nat :=
  let n := d.inF a_CLS_LOFT_CFG f_CLS_LOFT_CFG_LINES
  max 1 (match d.mem.limit with | some k => min n k | none => n)

/-- Bytes of a loft slot. -/
def Dev.loftSlot (d : Dev) (c : CourseCtx) : Nat := 64 + repStride (d.wm c)

/-- The address of a line's slot. -/
def Dev.loftAddr (d : Dev) (c : CourseCtx) (line : Nat) : Nat :=
  (d.inForce a_CLS_LOFT_BASE).toNat + (line % d.loftLines) * d.loftSlot c

/-- 12-bit samples packed least significant bit first, padded to a multiple of 64 bytes. -/
def pack12 (xs : List Nat) : List Byte :=
  let rec go : List Nat → List Byte
    | a :: b :: l => [BitVec.ofNat 8 a, BitVec.ofNat 8 (a / 256 + b % 16 * 16), BitVec.ofNat 8 (b / 16)] ++ go l
    | [a] => [BitVec.ofNat 8 a, BitVec.ofNat 8 (a / 256)]
    | [] => []
  padMul (go xs) 64

/-- Sample x of packed 12-bit samples. -/
def unpack12 (bs : List Byte) (x : Nat) : Nat := leAt bs (12 * x / 8) 2 / 2 ^ (12 * x % 8) % 4096

/-- The stored value of a sample. -/
def loftValue (y : Option Nat) : Nat := match y with | some v => min 4095 (rhe v 4).toNat | none => 0

/-- The 64-byte line header. -/
def MosLine.loftHeader (m : MosLine) : List Byte :=
  padTo (leBytes 8 m.desc.line ++ leBytes 8 m.desc.time.toNat ++ leBytes 8 (uwrap m.md 64) ++ leBytes 8 (uwrap m.ref 64) ++
    leBytes 2 m.voids ++ leBytes 4 m.flags) 64

/-- A line is in the loft. -/
def Dev.inLoft (d : Dev) (line : Nat) : Bool := d.cls.written.contains line

/-- The writer stops where a freeze has run out (R264). -/
def Dev.loftStop (d : Dev) : Dev :=
  if d.cls.freeze = some 0 then
    ({ d with cls := { d.cls with freeze := none, frozen := true } } : Dev).wrB a_CLS_LOFT_CTRL f_CLS_LOFT_CTRL_FROZEN true
  else d

/-- Whether recording waits after an interruption. -/
def Dev.recWaiting (d : Dev) (w : Bool) : Dev :=
  ({ d with cls := { d.cls with rec_ := { d.cls.rec_ with waiting := w } } } : Dev).wrB a_THA_REC_STAT f_THA_REC_STAT_WAITING w

/-- The loft writer is about to overwrite a line that the recorder has not read: recording is interrupted (R319). -/
def Dev.recOverrun (d : Dev) (l : Nat) : Dev :=
  let n := d.loftLines
  let lost (y : RecLine) : Bool := !y.ends && decide (y.line < l) && y.line % n = l % n
  if d.cls.rec_.unread.any lost then
    let d := ({ d with cls := { d.cls with rec_ := { d.cls.rec_ with unread := d.cls.rec_.unread.filter (fun y => !lost y) } } } : Dev)
    ((d.closeSegment true).recWaiting true).inc a_THA_REC_STAT f_THA_REC_STAT_REC_GAP_CNT
  else d

/-- The loft writer is about to overwrite a line that an export has not read: its object ends with TRUNC (R320). -/
def Dev.exportOverrun (d : Dev) (l : Nat) : Dev :=
  let n := d.loftLines
  match d.cls.exp with
  | some x => if (List.range (x.last + 1 - x.next)).any (fun k => decide (x.next + k < l) && (x.next + k) % n = l % n) then d.exportCut else d
  | none => d

/-- The loft writer takes a mosaic line (R263): a pin on the slot's line expires first (R267). -/
def Dev.loftWrite (d : Dev) (m : MosLine) : Dev :=
  let d := d.loftStop
  if d.cls.frozen then d
  else
    let l := m.desc.line
    let n := d.loftLines
    let d := (d.recOverrun l).exportOverrun l
    let d := d.charge 0 (hbmUnits (d.loftSlot m.desc.ctx))
    let d := { d with cls := { d.cls with
      crops := d.cls.crops.map (fun (c : Crop) =>
        if c.started.isSome && c.closed.isNone && c.lines < c.h && decide (c.y0 + c.lines < l) && (c.y0 + c.lines) % n = l % n then
          { c with closed := some 1 } else c)
      written := l :: d.cls.written.filter (fun k => k % n ≠ l % n)
      newest := some l
      freeze := d.cls.freeze.map (· - 1) } }
    let d := d.wrF a_CLS_LOFT_CTRL f_CLS_LOFT_CTRL_NEWEST (l / 8)
    (d.hbmPut (d.loftAddr m.desc.ctx l) (m.loftHeader ++ pack12 (m.samples.map loftValue))).loftStop

/-- A freeze of the loft: the writer stops after FREEZE_DELAY further lines. -/
def Dev.loftFreeze (d : Dev) : Dev :=
  if d.cls.frozen || d.cls.freeze.isSome then d
  else ({ d with cls := { d.cls with freeze := some (d.rdF a_CLS_LOFT_CFG f_CLS_LOFT_CFG_FREEZE_DELAY) } } : Dev).loftStop

/-- Writing restarts from the next mosaic line (R264). -/
def Dev.loftResume (d : Dev) : Dev :=
  ({ d with cls := { d.cls with freeze := none, frozen := false } } : Dev).wrB a_CLS_LOFT_CTRL f_CLS_LOFT_CTRL_FROZEN false

/-! ### The second pass's window (R256) -/

/-- Sums over a window: n_in, S_in, n_r, S_r, Q_r, G. -/
structure WinSums where
  nIn : Nat
  sIn : Nat
  nR  : Nat
  sR  : Nat
  qR  : Nat
  g   : Nat
  deriving DecidableEq, Repr

/-- The inner box and the outer box of a blob: columns and lines, inclusive. -/
def Dev.p2Boxes (d : Dev) (b : BlobDesc) : (Int × Int × Int × Int) × (Int × Int × Int × Int) :=
  let (x0, x1) := cutSide b.x0 b.x1 240 (b.cxq / 64 : Nat)
  let (y0, y1) := cutSide b.first b.last 240 (b.first + b.cyq / 64 : Nat)
  ((x0, x1, y0, y1), (max 0 (x0 - 8), min (d.wm b.ctx - 1) (x1 + 8), max 0 (y0 - 8), y1 + 8))

/-- The sums of R256; v reads a loft value, 0 where there is none. -/
def winSums (inner outer : Int × Int × Int × Int) (v : Int → Int → Nat) : WinSums :=
  let (ix0, ix1, iy0, iy1) := inner
  let (x0, x1, y0, y1) := outer
  let at_ (x y : Int) : Nat := if x0 ≤ x ∧ x ≤ x1 ∧ y0 ≤ y ∧ y ≤ y1 then v x y else 0
  let step (a b : Nat) : Nat := if a = 0 ∨ b = 0 then 0 else ((a : Int) - b).natAbs
  (List.range (y1 - y0 + 1).toNat).foldl (fun w j =>
    (List.range (x1 - x0 + 1).toNat).foldl (fun (w : WinSums) i =>
      let x := x0 + i
      let y := y0 + j
      let s := at_ x y
      if ix0 ≤ x ∧ x ≤ ix1 ∧ iy0 ≤ y ∧ y ≤ iy1 then
        let w := { w with g := w.g + step s (at_ (x + 1) y) + step s (at_ x (y + 1)) }
        if s = 0 then w else { w with nIn := w.nIn + 1, sIn := w.sIn + s }
      else if s = 0 then w else { w with nR := w.nR + 1, sR := w.sR + s, qR := w.qR + s * s }) w) ⟨0, 0, 0, 0, 0, 0⟩

/-- IN_MEAN, RING_MEAN, RING_SD and GRAD; none where n_in or n_r is 0. -/
def WinSums.features (w : WinSums) : Option (List Nat) :=
  if w.nIn = 0 ∨ w.nR = 0 then none
  else some [(rdiv w.sIn w.nIn).toNat, (rdiv w.sR w.nR).toNat,
    isqrt (rdiv ((w.nR : Int) * w.qR - (w.sR : Int) * w.sR) (w.nR * w.nR)).toNat, min 65535 (rdiv w.g w.nIn).toNat]

end Sys2Proof.Machine
end

