-- ==== Sys2Proof/Machine/Merge.lean ====
section
/-! DEFINITION. Stamp-order merging (R38 to R42): arrival, release, drain, and where each merge point delivers; the error queue
(R497, R498). -/

namespace Sys2Proof.Machine

/-- The MRG_STAT register of a merge point (R42). -/
def mrgStat : MergeId → Nat
  | .mosaic => a_MOS_MRG_STAT | .seam => a_SEG_MRG_STAT | .record => a_CLS_MRG_STAT
  | .evt => a_EVT_MRG_STAT | .err => a_ERR_MRG_STAT | .pair => a_RDG_MRG_STAT

/-! ### The error queue -/

/-- The IRQ action of the entry that becomes current (R494, R497). -/
def Dev.currentIrq (d : Dev) : Dev :=
  match d.err.queue with
  | [] => d
  | e :: _ =>
    if d.rdB (a_ERR_MAP e.code.toNat) f_ERR_MAP_IRQ then d.msix (d.rdF a_ERR_CFG f_ERR_CFG_VECTOR) else d

/-- Put an entry into the queue, deliver it to the error ring where one is enabled, and raise its interrupt where it is current. -/
def Dev.queueErr (d : Dev) (e : ErrEntry) : Dev :=
  let first := d.err.queue.isEmpty
  let d := { d with err := { d.err with queue := d.err.queue ++ [e] } }
  let d := if d.rdB a_ERR_CFG f_ERR_CFG_RING_EN then d.toRing (.whole (d.rdF a_ERR_CFG f_ERR_CFG_RING) 1 e.bytes) else d
  if first then d.currentIrq else d

/-- Position of the newest entry, other than the current one, that is not FATAL. -/
def newestEvictable (q : List ErrEntry) : Option Nat :=
  ((List.range q.length).reverse).find? (fun i => i ≠ 0 && (match q[i]? with | some e => e.cls.toNat ≠ 3 | none => false))

/-- An entry leaves the error merge point (R497, R498): it raises REPEAT of a queued entry of its code, joins the queue, evicts, or is
dropped. -/
def Dev.joinErrors (d : Dev) (e : ErrEntry) : Dev :=
  if d.err.queue.any (fun x => x.code = e.code) then
    { d with err := { d.err with queue := d.err.queue.map (fun x =>
        if x.code = e.code then { x with rpt := if x.rpt = 0xFFFFFFFF then x.rpt else x.rpt + 1 } else x) } }
  else if d.err.queue.length < 64 then d.queueErr e
  else
    let d := d.inc a_ERR_STAT f_ERR_STAT_OVF_CNT
    if e.cls.toNat ≠ 3 then d
    else
      match newestEvictable d.err.queue with
      | none => d
      | some i =>
        ({ d with err := { d.err with queue := d.err.queue.eraseIdx i } } : Dev).queueErr { e with evicted := true }

/-! ### Delivery (R42) -/

/-- An item leaves a merge point for its output, its stamp as released. -/
def Dev.deliver (d : Dev) (x : Item) : Dev :=
  match x.payload with
  | .err e => d.joinErrors { e with stamp := x.stamp }
  | .ring r => d.toRing r
  | .line l => { d with mos := { d.mos with got := l :: d.mos.got } }
  | .blob b => { d with cls := { d.cls with queue := d.cls.queue ++ [b] } }
  | .pairRec recon at_ bytes => if recon then d.reconCompare bytes else d.pairCompare at_ bytes

/-- Stamp an item's bytes carry: where the stamp is flagged LATE_ORDER, byte 10 of the record, or of a crop's header, says so too (R34, R40). -/
def Item.markLate (x : Item) : Item :=
  let st := { x.stamp with late := true }
  let p := match x.payload with
    | .ring r =>
      if r.content = 1 ∨ r.content = 2 ∨ r.content = 3 ∨ r.content = 7 then
        .ring { r with body := r.body.mapIdx (fun k b => if k = 10 then b ||| 0x80 else b) }
      else x.payload
    | .pairRec recon at_ bytes => .pairRec recon at_ (bytes.mapIdx (fun k b => if k = 10 then b ||| 0x80 else b))
    | p => p
  { x with stamp := st, payload := p }

/-! ### Holding and releasing (R39, R40) -/

/-- Insert an item into the window, held in key order. -/
def holdSorted (x : Item × Nat) : List (Item × Nat) → List (Item × Nat)
  | [] => [x]
  | y :: l => if x.1.stamp.precedes y.1.stamp then x :: y :: l else y :: holdSorted x l

/-- Release is due: 4,096 items held, or one that has waited 100 µs (R39). -/
def releaseDue (held : List (Item × Nat)) (now : Nat) : Bool :=
  4096 ≤ held.length || held.any (fun p => p.2 + 100000 ≤ now)

/-- Release items in key order while release is due; returns what leaves, in order, and what stays held. -/
def releaseLoop (now : Nat) : List (Item × Nat) → List Item × List (Item × Nat)
  | [] => ([], [])
  | p :: l =>
    if releaseDue (p :: l) now then
      let (out, rest) := releaseLoop now l
      (p.1 :: out, rest)
    else ([], p :: l)

/-- Deliver released items in order. -/
def Dev.deliverAll (d : Dev) (xs : List Item) : Dev := xs.foldl (fun d x => d.deliver x) d

/-- Store a merge point and raise PEAK to what it holds. -/
def Dev.setMerge (d : Dev) (i : MergeId) (m : MergePt Item) (peak : Nat) : Dev :=
  let d := { d with mrg := d.mrg.set i m }
  if d.rdF (mrgStat i) f_MOS_MRG_STAT_PEAK < peak then d.wrF (mrgStat i) f_MOS_MRG_STAT_PEAK peak else d

/-- The last key released after items left. -/
def lastKey (m : MergePt Item) (out : List Item) : Option Stamp :=
  match out.getLast? with
  | some x => some x.stamp
  | none => m.last

/-- A merge point after items left its window, `rest` staying: their stamps count as released. -/
def MergePt.released (m : MergePt Item) (out : List Item) (rest : List (Item × Nat)) : MergePt Item :=
  { m with held := rest, last := lastKey m out, gone := (out.map (·.stamp)).reverse ++ m.gone }

/-- Release what is due at a merge point (R39). -/
def Dev.releaseMerge (d : Dev) (i : MergeId) : Dev :=
  let m := d.mrg.get i
  let (out, rest) := releaseLoop d.el m.held
  let d := d.setMerge i (m.released out rest) 0
  d.deliverAll out

/-- The island of a merge point is out of reset: its block can take items. -/
def mergeUnit : MergeId → RUnit
  | .mosaic => .mos | .seam => .seg | .record => .cls | .evt => .evt | .err => .err | .pair => .rdg

/-- The oldest item on its way arrives (R40): passed at once as LATE_ORDER where its key precedes the last released, equals one held or
released, or is of an earlier epoch (R41); passed at once too while a time step is awaited, whose drain has emptied the window (R41); otherwise
held, and what the full rule releases leaves. DUP_STAMP comes from the merge point's block and names the item's ORIGIN (log entry 102). -/
def Dev.arrive (d : Dev) (i : MergeId) : Dev :=
  let m := d.mrg.get i
  match m.fly with
  | [] => d
  | x :: fly =>
    let m := { m with fly := fly }
    let dup := m.held.any (fun p => p.1.stamp.sameKey x.stamp) || m.gone.any (fun st => st.sameKey x.stamp)
    let late := dup || x.epoch ≠ d.clk.epoch || (match m.last with | some st => x.stamp.precedes st | none => false)
    if late then
      let d := d.setMerge i m 0
      let d := d.inc (mrgStat i) f_MOS_MRG_STAT_LATE_CNT
      let d := if dup then d.reportErr 0x14 (originOf (mergeUnit i)) x.stamp.origin.toNat else d
      d.deliver x.markLate
    else if d.clk.step.isSome then (d.setMerge i (m.released [x] m.held) 0).deliver x
    else
      let held := holdSorted (x, d.el) m.held
      let (out, rest) := releaseLoop d.el held
      let d := d.setMerge i (m.released out rest) held.length
      d.deliverAll out

/-- Drain a merge point for a time step (R41): everything held leaves in key order. -/
def Dev.drainMerge (d : Dev) (i : MergeId) : Dev :=
  let m := d.mrg.get i
  let d := d.setMerge i (m.released (m.held.map (·.1)) []) 0
  d.deliverAll (m.held.map (·.1))

/-- Every merge point. -/
def allMerges : List MergeId := [.mosaic, .seam, .record, .evt, .err, .pair]

/-- MERGE_ARRIVAL (R40); while the merge point's block is in reset its junctions hold the item (R30). -/
def execMergeArrival (dt : Nat) (m : MergeId) (s : State) : Host.Outcome State Fault Refusal :=
  .next (s.after dt (fun d => if d.isHeld (mergeUnit m) then d else d.arrive m))

/-- MERGE_TIMEOUT_RELEASE (R39). -/
def execMergeTimeoutRelease (dt : Nat) (m : MergeId) (s : State) : Host.Outcome State Fault Refusal :=
  .next (s.after dt (fun d => d.releaseMerge m))

end Sys2Proof.Machine
end

