-- ==== Sys2Proof/Machine/Cls.lean ====
section
/-! DEFINITION. Commands of classification, the loft writer, crops and the recorder (R197, R249 to R276, R318 to R320). -/

namespace Sys2Proof.Machine

/-! ### Closing courses and rolls (R271, R273, R274) -/

/-- A line in lo … hi is UNVERIFIED. -/
def Dev.unverifiedIn (d : Dev) (lo hi : Nat) : Bool :=
  match d.pair.unv with
  | some (f, none) => f ≤ hi
  | some (f, some e) => f ≤ hi && lo < e
  | none => false

/-- The instant named has come, seen from an item of a TIME and epoch. -/
def reachedBy (ends : Option (W64 × BitVec 16 × Nat)) (time : W64) (epoch : BitVec 16) : Bool :=
  match ends with
  | none => false
  | some (t, e, _) => if epoch ≠ e then serialBefore 16 e.toNat epoch.toNat else decide (t.toNat ≤ time.toNat)

/-- CLOSING shows a roll that waits to close. -/
def Dev.showRolls (d : Dev) : Dev := d.wrB a_CLS_ROLL_STAT f_CLS_ROLL_STAT_CLOSING (2 ≤ d.cls.rolls.length)

/-- The roll record (R271) is sent, under the settings in force at the roll's last line; the partner of a pair delivers none (R448). -/
def Dev.sendRoll (d : Dev) (r : Roll) (time : W64) (epoch : BitVec 16) : Dev :=
  let c := r.under.getD d.wpu.ctx
  if !d.cB c a_CLS_CFG f_CLS_CFG_ROLL_EN then d
  else if d.isPartner && !d.unverified r.last then d
  else
    let (st, d) := d.mkStamp 19 time
    let flag (x : Bool) (k : Nat) : Nat := if x then 2 ^ k else 0
    let flags := flag (d.unverified r.last) 0 + flag (0 < r.counts.voids) 1 + flag (0 < r.counts.late) 10 + flag r.fromReset 11
    let open_ (k : Nat) : List Byte := leBytes 8 (Config.emptyRoll k).toNat
    let lines : List Byte := match r.first with
      | some (f, t) => leBytes 8 f ++ leBytes 8 r.last ++ leBytes 8 (uwrap (r.mdFirst.getD (d.mdOf f)) 64) ++
          leBytes 8 (uwrap (d.mdOf r.last) 64) ++ leBytes 8 t.toNat
      | none => open_ 0 ++ open_ 1 ++ open_ 2 ++ open_ 3 ++ open_ 4
    let b := spaeneHeader st epoch 3 1920 0 r.id flags 0 ++ lines ++
      leBytes 4 r.counts.courses ++ leBytes 4 r.counts.defects ++ leBytes 4 r.counts.suppressed ++
      [BitVec.ofNat 8 r.cause, BitVec.ofNat 8 (min 64 (d.cF c a_MOS_LANE_CFG f_MOS_LANE_CFG_N_LANES)), 0, 0] ++
      leBytes 4 r.counts.voids ++ zeros 4 ++ r.counts.tableBytes
    d.fly .record ⟨st, epoch, .ring (.whole (d.cF c a_CLS_CFG f_CLS_CFG_ROLL_RING) 1 (padTo b 1920))⟩

/-- Courses and rolls whose end satisfies p close. -/
def Dev.closeWhere (d : Dev) (p : Option (W64 × BitVec 16 × Nat) → Nat → Bool) : Dev :=
  let d := { d with cls := { d.cls with courses := d.cls.courses.map (fun (c : ClsCourse) =>
    if p c.ends c.ctx.mode then { c with closed := true } else c) } }
  d.cls.rolls.foldl (fun d r =>
    match r.ends with
    | some (t, e, _) =>
      if p r.ends d.wpu.ctx.mode then
        (({ d with cls := { d.cls with rolls := d.cls.rolls.filter (fun x => x.id ≠ r.id) } } : Dev).sendRoll r t e).showRolls
      else d
    | none => d) d

/-- COURSE_CLOSE_TIMEOUT: 200 µs, 2,200 µs in INSPECT_DEEP, after the end (R273). -/
def Dev.closeTimeout (d : Dev) : Dev :=
  d.closeWhere (fun ends mode => match ends with
    | some (_, _, at_) => decide (at_ + (if mode = 4 then 2200000 else 200000) ≤ d.el)
    | none => false)

/-- COURSE_CLOSE_TIMEOUT (R273). -/
def execCourseCloseTimeout (dt : Nat) (s : State) : Host.Outcome State Fault Refusal :=
  .next (s.after dt (fun d => d.closeTimeout))

/-- The mosaic record and every active pipeline's statistics record of a closed course have arrived (R273). -/
def Dev.courseReady (d : Dev) (c : ClsCourse) : Bool :=
  c.closed && c.mosaic.isSome &&
  c.ctx.cams.all (fun k => !d.cB c.ctx (a_PIPE_STAT_CFG k.pipe) f_PIPE_STAT_CFG_EN || c.stats.any (fun s => s.1 = k.port))

/-- The course record (R271). -/
def Dev.courseBytes (d : Dev) (c : ClsCourse) (st : Stamp) (epoch : BitVec 16) : List Byte :=
  let m := c.mosaic.getD []
  let flag (x : Bool) (k : Nat) : Nat := if x then 2 ^ k else 0
  let stat (p : Nat) : Option (List Byte) := (c.stats.find? (fun s => s.1 = p)).map (·.2)
  let fl (p : Nat) : Nat := match stat p with | some b => leAt b 26 1 | none => 0
  let mixed := (List.range 16).any (fun p => (fl p).testBit 0)
  let log2 := Nat.log2 c.ctx.len
  let flags := flag (d.unverifiedIn c.ctx.first (c.ctx.first + c.ctx.len - 1)) 0 + flag (leAt m 28 4 ≠ 0) 1 + flag c.partial_ 2 +
    flag mixed 3 + flag (0 < c.counts.late) 10
  let port (p : Nat) : List Byte :=
    let f := fl p
    let b := (stat p).getD []
    [BitVec.ofNat 8 (flag (c.ctx.cams.any (fun k => k.port = p)) 0 + flag (f.testBit 0) 1 + flag (f.testBit 1) 2 +
      flag (f.testBit 3) 3 + flag (f.testBit 2) 4), 0] ++ leBytes 2 (leAt b 28 2) ++ leBytes 2 (leAt b 30 2) ++ zeros 2 ++
    leBytes 8 (leAt b 32 8)
  let n (x : Nat) : List Byte := leBytes 4 (min x (2 ^ 32 - 1))
  padTo (spaeneHeader st epoch 2 2240 0 c.roll flags c.number ++ leBytes 8 (c.ctx.first / 2 ^ log2) ++ leBytes 8 c.ctx.first ++
    padTo (slice m 32 16) 16 ++ padTo (slice m 26 2) 2 ++
    [BitVec.ofNat 8 (min 64 (d.cF c.ctx a_MOS_LANE_CFG f_MOS_LANE_CFG_N_LANES)), BitVec.ofNat 8 (d.bankOf c.ctx)] ++
    padTo (slice m 28 4) 4 ++ n c.counts.blobs ++ n c.counts.defects ++ n c.counts.suppressed ++ n c.counts.late ++ n c.counts.tableFull ++
    zeros 4 ++ padTo (slice m 48 32) 32 ++ (List.range 15).map (fun s => (m.drop (96 + 32 * s + 6)).headD 0) ++ [0] ++
    (List.range 16).flatMap port ++ c.counts.tableBytes) 2240

/-- COURSE_RECORD_SEND: the oldest closed course whose records have arrived is sent (R273); the partner of a pair sends none (R448). -/
def Dev.courseSend (d : Dev) : Dev :=
  match d.cls.courses.find? d.courseReady with
  | none => d
  | some c =>
    let d := { d with cls := { d.cls with courses := d.cls.courses.filter (fun x => x.ctx.first ≠ c.ctx.first) } }
    if !d.cB c.ctx a_CLS_CFG f_CLS_CFG_COURSE_EN then d
    else if d.isPartner && !d.unverifiedIn c.ctx.first (c.ctx.first + c.ctx.len - 1) then d
    else
      let (t, e, _) := c.ends.getD (0, 0, 0)
      let (st, d) := d.mkStamp 19 t
      (d.fly .record ⟨st, e, .ring (.whole (d.cF c.ctx a_CLS_CFG f_CLS_CFG_COURSE_RING) 1 (d.courseBytes c st e))⟩).raiseEvt 179

/-- COURSE_RECORD_SEND (R273). -/
def execCourseRecordSend (dt : Nat) (s : State) : Host.Outcome State Fault Refusal :=
  .next (s.after dt (fun d => d.courseSend))

/-! ### Classification (R253 to R262) -/

/-- BLOB_CLASSIFY: the oldest blob released by the seam merge closes what its TIME closes (R273), is walked, and waits for its second pass or
takes its class (R255). -/
def Dev.blobClassify (d : Dev) : Dev :=
  match d.cls.queue with
  | [] => d
  | b :: rest =>
    let d := ({ d with cls := { d.cls with queue := rest } } : Dev).closeWhere (fun ends _ => reachedBy ends b.stamp.time b.epoch)
    let (cls1, p2) := d.firstPass b
    if p2 && b.ctx.mode = 4 && d.cB b.ctx a_CLS_CFG f_CLS_CFG_PASS2_EN then
      { d with cls := { d.cls with pass2 := d.cls.pass2 ++ [⟨b, cls1, d.el⟩] } }
    else d.finalise b cls1 cls1 none

/-- BLOB_CLASSIFY (R253). -/
def execBlobClassify (dt : Nat) (s : State) : Host.Outcome State Fault Refusal :=
  .next (s.after dt (fun d => d.blobClassify))

/-- The second pass of a blob fails: it keeps its first-pass class (R257). -/
def Dev.pass2Fail (d : Dev) (x : Pass2) : Dev :=
  ({ d with cls := { d.cls with pass2 := d.cls.pass2.drop 1 } } : Dev).inc a_CLS_STAT0 f_CLS_STAT0_P2_FAIL_CNT
    |>.finalise x.blob x.cls1 x.cls1 (some false)

/-- PASS2_DONE: the window of the oldest second pass is read and the blob walked from ROOT2 (R255 to R257). While a line of the window may
still come, the pass is not finished. -/
def Dev.pass2Done (d : Dev) (rd : Nat → Nat → List Byte) : Dev :=
  match d.cls.pass2 with
  | [] => d
  | x :: rest =>
    let (inner, outer) := d.p2Boxes x.blob
    let (_, _, y0, y1) := outer
    let lines := (List.range (y1 - y0 + 1).toNat).map (fun k => (y0 + k).toNat)
    let come : Bool := (match d.cls.emitted with | some e => decide (y1 ≤ e) | none => false) || d.mosaicOver
    if x.at_ + 2000000 < d.el then d.pass2Fail x
    else if !come then d
    else if lines.any (fun l => !d.inLoft l) then d.pass2Fail x
    else
      let c := x.blob.ctx
      let row (l : Nat) : Nat := d.loftAddr c l + 64
      let n := d.loftSlot c - 64
      let rows := lines.map (fun l => d.zeroBad (row l) (rd (row l) n))
      let d := lines.foldl (fun d l => d.hbmGot (row l) n) d
      match (winSums inner outer (fun gx gy => unpack12 (lget rows (gy - y0).toNat []) gx.toNat)).features with
      | none => d.pass2Fail x
      | some p2 => ({ d with cls := { d.cls with pass2 := rest } } : Dev).finalise x.blob (d.secondPass x.blob p2) x.cls1 (some true)

/-- PASS2_DONE (R255). -/
def execPass2Done (dt : Nat) (s : State) : Host.Outcome State Fault Refusal :=
  .next (s.afterH dt (fun rd d => d.pass2Done rd))

/-- PASS2_TIMEOUT: 2 ms after its first-pass leaf the oldest second pass fails (R257). -/
def execPass2Timeout (dt : Nat) (s : State) : Host.Outcome State Fault Refusal :=
  .next (s.after dt (fun d =>
    match d.cls.pass2 with
    | x :: _ => if x.at_ + 2000000 ≤ d.el then d.pass2Fail x else d
    | [] => d))

/-! ### What line issue does here (R273, R274) -/

/-- The first line of a course is issued: the course before it ends, the new one opens. -/
def Dev.clsCourse (d : Dev) (x : LineDesc) : Dev :=
  let s := d.cls.endCourses (x.time, x.epoch, d.el) (fun _ => false)
  { d with cls := { s with courses := s.courses ++ [⟨x.ctx, 0, 0, .empty, [], false, none, false, none, []⟩] } }

/-- A roll change is due on a line: issued after the stamp TIME of its event, and not before its line (R274). -/
def RollDue.dueOn (q : RollDue) (x : LineDesc) : Bool :=
  q.line ≤ x.line && (match q.after with | none => true | some t => decide (t.toNat < x.time.toNat))

/-- END_CAUSE of a roll change due on a line, if any (R274). -/
def Dev.rollDueOn (d : Dev) (x : LineDesc) : Option Nat :=
  match d.cls.rollDue.find? (fun q => q.dueOn x) with
  | some q => some q.cause
  | none =>
    if d.rdB a_CLS_ROLL_CTRL f_CLS_ROLL_CTRL_POS_EN && !x.dir && decide ((d.rd a_CLS_ROLL_AT).toInt ≤ x.pos) then some 2 else none

/-- A line is issued: a roll change due on it, and the roll it belongs to (R274). -/
def Dev.clsIssued (d : Dev) (x : LineDesc) : Dev :=
  let cause := d.rollDueOn x
  let d := if d.rdB a_CLS_ROLL_CTRL f_CLS_ROLL_CTRL_POS_EN && !x.dir && decide ((d.rd a_CLS_ROLL_AT).toInt ≤ x.pos) then
      d.wrB a_CLS_ROLL_CTRL f_CLS_ROLL_CTRL_POS_EN false else d
  let asked := (d.cls.rollDue.filter (fun q => q.dueOn x)).filterMap (·.cmd)
  let d := { d with cls := { d.cls with rollDue := d.cls.rollDue.filter (fun q => !q.dueOn x) } }
  let d := match cause with
    | none => d
    | some k =>
      if 2 ≤ d.cls.rolls.length then asked.foldl (fun d c => d.finish c 0x17 noLine []) (d.inc a_CLS_ROLL_STAT f_CLS_ROLL_STAT_REFUSED_CNT)
      else
        let id := d.rdF a_CLS_ROLL_CTRL f_CLS_ROLL_CTRL_NEXT_ID
        let next : Roll := ⟨id, .empty, false, none, 0, none, 0, none, none⟩
        let ended := d.cls.rolls.map (fun (r : Roll) => { r with cause := k, ends := some (x.time, x.epoch, d.el) })
        let d := { d with cls := { d.cls with rolls := ended ++ [next] } }
        let d := d.wrF a_CLS_ROLL_CTRL f_CLS_ROLL_CTRL_NEXT_ID (id + 1)
        let d := ((d.wrF a_CLS_ROLL_STAT f_CLS_ROLL_STAT_CUR_ID id).showRolls).raiseEvt 180
        asked.foldl (fun d c => d.finish c 0 (BitVec.ofNat 64 x.line) (leBytes 4 id)) d
  { d with cls := { d.cls with rolls := d.cls.rolls.mapIdx (fun i (r : Roll) =>
    if i + 1 = d.cls.rolls.length then { r with first := some (r.first.getD (x.line, x.time)), last := x.line, under := some x.ctx } else r) } }

/-! ### The recorder (R318, R319) -/

/-- Size of the staging ring of recordings. -/
def Dev.recSize (d : Dev) : Nat := max 1 (d.inF a_THA_REC_STAGE f_THA_REC_STAGE_STAGE_MIB * 2 ^ 20)

/-- A new segment begins. -/
def Dev.recStart (d : Dev) : Dev :=
  let n := d.cls.rec_.seg + 1
  let level := min 9 (d.inF a_THA_REC_CFG f_THA_REC_CFG_LEVEL)
  let d := { d with cls := { d.cls with rec_ := { d.cls.rec_ with seg := n, enc := some (.start level), courses := 0 } } }
  let d := if d.hasEngine 7 then d else d.claimEngine 7 level
  let d := d.recWaiting false
  let d := d.wrF a_THA_REC_STAT f_THA_REC_STAT_SEGMENT n
  let d := d.toRing { RingItem.whole (d.inF a_THA_REC_CFG f_THA_REC_CFG_DEST) 6 [] with objId := BitVec.ofNat 32 n, complete := false }
  d.stagePut (streamHeader level 2 (2 ^ 64 - 1)) false false

/-- A course boundary in RECORD: a segment that holds SEG_COURSES courses ends; one begins unless recording waits for staging to fall
below half full. -/
def Dev.recBoundary (d : Dev) : Dev :=
  match d.cls.rec_.enc with
  | some _ =>
    let n := d.cls.rec_.courses + 1
    if max 1 (d.inF a_THA_REC_CFG f_THA_REC_CFG_SEG_COURSES) ≤ n then (d.closeSegment false).recStart
    else { d with cls := { d.cls with rec_ := { d.cls.rec_ with courses := n } } }
  | none => if d.cls.rec_.waiting && decide (d.recSize ≤ 2 * (d.unsent 6 none).getD 0) then d else d.recStart

/-- A mosaic line of RECORD is for the recorder to read once the loft holds it; with the first line of another mode recording ends. -/
def Dev.recLine (d : Dev) (m : MosLine) : Dev :=
  let c := m.desc.ctx
  let push (y : RecLine) : Dev := { d with cls := { d.cls with rec_ := { d.cls.rec_ with unread := d.cls.rec_.unread ++ [y] } } }
  let on := d.cls.rec_.enc.isSome || d.cls.rec_.waiting || d.cls.rec_.unread.any (fun y => !y.ends)
  if d.runOver c then d
  else if c.mode = 5 then push ⟨m.desc.line, decide (m.desc.line = c.first), false⟩
  else if on && !d.cls.rec_.unread.any (fun y => y.ends) then push ⟨m.desc.line, false, true⟩
  else d

/-- The recorder reads its oldest unread line from the loft, on the budget and the engine of REC_COMPRESS, and codes it; without budget or engine it
waits (R318, R319). A full staging ring, or a line that the loft has not got, interrupts the recording. -/
def Dev.recRead (d : Dev) (rd : Nat → Nat → List Byte) : Dev :=
  match d.cls.rec_.unread with
  | [] => d
  | y :: more =>
    let popped (d : Dev) : Dev := { d with cls := { d.cls with rec_ := { d.cls.rec_ with unread := more } } }
    if y.ends then (((popped d).closeSegment false).recWaiting false)
    else if d.exhausted 7 (.hbm 0) || d.exhausted 7 (.hbm 1) || d.exhausted 7 .tha then d.noteShort 7
    else if !d.hasEngine 7 && d.freeEngine.isNone then d
    else
      let d := popped d
      let d := if y.first then d.recBoundary else d
      match d.cls.rec_.enc with
      | none => d.inc a_THA_REC_STAT f_THA_REC_STAT_REC_GAP_CNT
      | some e =>
        let x := d.wpu.ctx
        let a := d.loftAddr x y.line
        let size := d.loftSlot x
        let lo := d.inF a_THA_REC_CFG f_THA_REC_CFG_COL_LO
        let hi := d.inF a_THA_REC_CFG f_THA_REC_CFG_COL_HI
        let slot := d.zeroBad a (rd a size)
        let bytes := slot.take 64 ++ pack12 ((List.range (hi + 1 - lo)).map (fun k => unpack12 (slot.drop 64) (lo + k)))
        let (out, e') := e.feed bytes
        if !d.inLoft y.line || decide (d.recSize < (d.unsent 6 none).getD 0 + out.length) then
          ((d.closeSegment true).recWaiting true).inc a_THA_REC_STAT f_THA_REC_STAT_REC_GAP_CNT
        else
          let used := Demand.plus (Demand.plus (hbmUnits size) (hbmUnits out.length)) ⟨0, 0, levelCycles e.level bytes.length, 0, 0⟩
          (({ (d.hbmGot a size).charge 7 used with
              cls := { d.cls with rec_ := { d.cls.rec_ with enc := some e' } } } : Dev).stagePut out false false)

/-- The recorder reads what it can. -/
def Dev.recPump (d : Dev) (rd : Nat → Nat → List Byte) : Dev := iter d.cls.rec_.unread.length (fun _ d => d.recRead rd) d

/-! ### Mosaic lines -/

/-- MOSAIC_LINE (R197): the oldest line due leaves the mosaic for segmentation, the loft (R263), the recorder and the position store (R261). -/
def Dev.mosaicLine (d : Dev) (rd : Nat → Nat → List Byte) : Dev :=
  let (d, m) := (d.recPump rd).nextMosaic
  match m with
  | none => d
  | some m =>
    let x := m.desc
    let here : LinePos := ⟨x.line, m.md, m.ref, x.time⟩
    let d := { d with cls := { d.cls with
      pos := (here :: d.cls.pos).take 16384
      emitted := some x.line
      rolls := d.cls.rolls.map (fun (r : Roll) =>
        match r.first with
        | none => r
        | some (f, _) =>
          if x.line < f ∨ r.last < x.line then r
          else { r with mdFirst := if x.line = f then some m.md else r.mdFirst, counts := { r.counts with voids := if m.voids = 0 then r.counts.voids else r.counts.voids + 1 } }) } }
    let d := if d.cB m.desc.ctx a_SEG_CFG f_SEG_CFG_EN then { d with seg := { d.seg with arrived := d.seg.arrived ++ [m] } } else d
    (d.loftWrite m).recLine m

/-- MOSAIC_LINE (R197). -/
def execMosaicLine (dt : Nat) (s : State) : Host.Outcome State Fault Refusal :=
  .next (s.afterH dt (fun rd d => d.mosaicLine rd))

/-- LOFT_FROZEN: the writer stops once FREEZE_DELAY further lines have been written (R264). -/
def execLoftFrozen (dt : Nat) (s : State) : Host.Outcome State Fault Refusal :=
  .next (s.after dt (fun d => d.loftStop))

/-! ### Loft exports (R320) -/

/-- The source of an object may go on: its ring is off, or takes what waits (R305, R312). -/
def Dev.mayFeed (d : Dev) (ring content obj : Nat) : Bool :=
  let k := d.ring ring
  if !k.en then true
  else
    match d.unsent content (some obj) with
    | none => true
    | some n => n < (if k.typ = 4 then 2 ^ 20 else k.posted * 2 ^ k.log2Buf.toNat)

/-- Lines of the export in progress are read, oldest first, while its ring takes them and LOFT_EXPORT has budget; a line that the loft has lost
ends it (R320). -/
def Dev.exportPump (d : Dev) (rd : Nat → Nat → List Byte) : Dev :=
  match d.cls.exp with
  | none => d
  | some x =>
    iter (x.last + 1 - x.next) (fun _ d =>
      match d.cls.exp with
      | none => d
      | some x =>
        if x.last < x.next || x.cut then d
        else if !d.inLoft x.next then d.exportCut
        else if !d.mayFeed x.ring 5 x.obj then d
        else if d.exhausted 14 (.hbm 0) || d.exhausted 14 (.hbm 1) then d.noteShort 14
        else
          let c := d.wpu.ctx
          let a := d.loftAddr c x.next
          let n := d.loftSlot c
          let d := ((d.hbmGot a n).charge 14 (hbmUnits n)).growObject 5 x.obj (rd a n) (decide (x.next = x.last)) false
          { d with cls := { d.cls with exp := some { x with next := x.next + 1 } } }) d

/-! ### Crops (R266 to R268) -/

/-- A line left the mosaic: it is among the positions kept, or older than all of them while they are as many as are kept (R261). -/
def Dev.acquiredLine (d : Dev) (line : Nat) : Bool :=
  (d.linePos line).isSome ||
  (16384 ≤ d.cls.pos.length && (match d.cls.pos.getLast? with | some p => decide (line < p.line) | none => false))

/-- One more line of a crop, where it may be read, on the budget and the engine of CROP_CUT: a line never acquired reads as zeros; one acquired and
not in the loft ends the crop, whether or not its ring has room (R267). -/
def Dev.cropLine (d : Dev) (rd : Nat → Nat → List Byte) (c : Crop) : Dev × Crop :=
  if c.closed.isSome || c.h ≤ c.lines then (d, c)
  else
    let l := c.y0 + c.lines
    let acquired := d.acquiredLine l
    if acquired && !d.inLoft l then (d, { c with closed := some (if c.lines = 0 then 2 else 1) })
    else if !d.mayFeed c.ring 3 c.id || !d.hasEngine 11 then (d, c)
    else if d.exhausted 11 (.hbm 0) || d.exhausted 11 (.hbm 1) || d.exhausted 11 .tha then (d.noteShort 11, c)
    else
      let x := d.wpu.ctx
      let a := d.loftAddr x l + 64
      let n := d.loftSlot x - 64
      let row := if acquired then d.zeroBad a (rd a n) else []
      let d := if acquired then d.hbmGot a n else d
      let units : Demand := if acquired then hbmUnits n else ⟨0, 0, 0, 0, 0⟩
      let d := d.charge 11 { units with tha := levelCycles c.level (2 * c.w) }
      let (out, e) := c.enc.feed ((List.range c.w).flatMap (fun i => leBytes 2 (unpack12 row (c.x0 + i))))
      let out := if c.lines = 0 then streamHeader c.level 1 (2 ^ 64 - 1) ++ out else out
      (d.growObject 3 c.id out false false, { c with lines := c.lines + 1, raw := c.raw + 2 * c.w, sent := c.sent + out.length, enc := e })

/-- Lines of a crop are read while its ring takes them. -/
def Dev.cropPump (d : Dev) (rd : Nat → Nat → List Byte) (c : Crop) : Dev × Crop :=
  iter (c.h - c.lines) (fun _ (p : Dev × Crop) => p.1.cropLine rd p.2) (d, c)

/-- Replace the crop at the head of the queue. -/
def Dev.setHead (d : Dev) (c : Crop) : Dev := { d with cls := { d.cls with crops := c :: d.cls.crops.drop 1 } }

/-- The crop being cut goes on reading. -/
def Dev.cropGo (d : Dev) (rd : Nat → Nat → List Byte) : Dev :=
  match d.cls.crops with
  | c :: _ => if c.started.isSome then let (d, c) := d.cropPump rd c; d.setHead c else d
  | [] => d

/-- CROP_CUT_START: the crop at the head starts once the last line of its window is in the loft, or acquisition has ended (R266, R275); where
its first line was acquired and is no longer there, it is LOST (R267). It waits for an engine (R277). -/
def Dev.cropStart (d : Dev) (rd : Nat → Nat → List Byte) : Dev :=
  match d.cls.crops with
  | [] => d
  | c :: _ =>
    let come : Bool := (match d.cls.emitted with | some e => decide (c.y0 + c.h ≤ e + 1) | none => false) || d.mosaicOver
    let gone := d.acquiredLine c.y0 && !d.inLoft c.y0
    if c.started.isSome || c.closed.isSome || !come || (!gone && d.freeEngine.isNone) then d
    else (((d.claimEngine 11 c.level).cropObject c).setHead { c with started := some d.el }).cropGo rd

/-- CROP_CUT_START (R266). -/
def execCropCutStart (dt : Nat) (s : State) : Host.Outcome State Fault Refusal :=
  .next (s.afterH dt (fun rd d => d.cropStart rd))

/-- CROP_PIN_EXPIRY: PIN_MS has passed since the cut started (R267). -/
def execCropPinExpiry (dt : Nat) (s : State) : Host.Outcome State Fault Refusal :=
  .next (s.after dt (fun d =>
    match d.cls.crops with
    | c :: _ =>
      match c.started with
      | some t =>
        if c.closed.isNone && c.lines < c.h && t + max 1 (d.rdF a_CLS_CROP_CFG f_CLS_CROP_CFG_PIN_MS) * 1000000 ≤ d.el then
          d.setHead { c with closed := some 1 }
        else d
      | none => d
    | [] => d))

/-- A crop ends with its trailer; TRUNCATED and LOST are counted and raised (R268, R276). -/
def Dev.cropFinish (d : Dev) (c : Crop) : Dev :=
  let d := if c.started.isNone then d.cropObject c else d.freeOwn 11
  let d := d.growObject 3 c.id (c.tail true) true c.closed.isSome
  let d := match c.closed with
    | some 1 => (d.inc a_CLS_STAT1 f_CLS_STAT1_CROP_TRUNC_CNT).raiseEvt 181
    | some 2 => (d.inc a_CLS_STAT1 f_CLS_STAT1_CROP_LOST_CNT).raiseEvt 181
    | _ => d
  ({ d with cls := { d.cls with crops := d.cls.crops.drop 1 } } : Dev).showCrops

/-- CROP_END: the crop at the head goes on reading and ends where every line is read or it is closed (R268). -/
def Dev.cropEnd (d : Dev) (rd : Nat → Nat → List Byte) : Dev :=
  let d := d.cropGo rd
  match d.cls.crops with
  | [] => d
  | c :: _ => if c.closed.isSome || (c.started.isSome && c.h ≤ c.lines) then d.cropFinish c else d

/-- CROP_END (R268). -/
def execCropEnd (dt : Nat) (s : State) : Host.Outcome State Fault Refusal :=
  .next (s.afterH dt (fun rd d => d.cropEnd rd))

/-! ### Entry -/

/-- Entry to an acquiring mode: a loft of other place or size than before holds no line; recording begins anew. -/
def Dev.clsEnter (d : Dev) (moved : Bool) : Dev :=
  let d := if moved then { d with cls := { d.cls with written := [] } } else d
  d.recWaiting false

end Sys2Proof.Machine
end

