-- ==== Sys2Proof/Machine/Hbm.lean ====
section
/-! DEFINITION. Commands of the HBM controllers (R395 to R413). -/

namespace Sys2Proof.Machine

/-! ### Stacks, channels and banks -/

/-- Stack s. -/
def Dev.stack (d : Dev) (s : Nat) : StackSt := lget d.mem.stack s .reset

/-- Set stack s. -/
def Dev.setStack (d : Dev) (s : Nat) (x : StackSt) : Dev := { d with mem := { d.mem with stack := lset d.mem.stack s x } }

/-- Pseudo-channel p of stack s. -/
def Dev.pc (d : Dev) (s p : Nat) : PcSt := lget (d.stack s).pcs p .reset

/-- Set pseudo-channel p of stack s. -/
def Dev.setPc (d : Dev) (s p : Nat) (x : PcSt) : Dev := d.setStack s { d.stack s with pcs := lset (d.stack s).pcs p x }

/-- Put a pseudo-channel into a mode. -/
def Dev.pcTo (d : Dev) (s p : Nat) (m : PcMode) : Dev := d.setPc s p { d.pc s p with mode := m, since := d.el, wants := false }

/-- Bank b of pseudo-channel p. -/
def Dev.bank (d : Dev) (s p b : Nat) : BankSt := alGet (d.stack s).banks (p * 64 + b) .reset

/-- Set bank b of pseudo-channel p. -/
def Dev.setBank (d : Dev) (s p b : Nat) (x : BankSt) : Dev := d.setStack s { d.stack s with banks := alSet (d.stack s).banks (p * 64 + b) x }

/-- Nanoseconds of n MEM cycles at the setpoint in force (R26), rounded up. -/
def Dev.memNs (d : Dev) (s n : Nat) : Nat := ceilDiv (n * (if d.rdB (a_HBM_TRN_STAT s) f_HBM_TRN_STAT_SETPOINT then 1250 else 625)) 1000

/-! ### Refresh, RFM, temperature and pages (R395 to R398) -/

/-- REFRESH: a refresh of a bank closes its row, sets its predictor to 2 and pays RAAIMT (R396, R398); a channel that is off or in
self-refresh receives none. -/
def Dev.refresh (d : Dev) (s p b : Nat) : Dev :=
  match (d.pc s p).mode with
  | .active | .powerDown | .draining =>
    let x := d.bank s p b
    d.setBank s p b { x with row := none, pred := 2, raa := x.raa - (d.stack s).raaimt }
  | _ => d

/-- REFRESH (R397). -/
def execRefresh (dt : Nat) (st : Fin 2) (pc : Fin 32) (bank : Fin 48) (s : State) : Host.Outcome State Fault Refusal :=
  .next (s.after dt (fun d => d.refresh st pc bank))

/-- RFM: a bank whose count reached RAAIMT pays it, and a hold at RAAMMT ends and is counted (R398). -/
def execRfm (dt : Nat) (st : Fin 2) (pc : Fin 32) (bank : Fin 48) (s : State) : Host.Outcome State Fault Refusal :=
  .next (s.after dt (fun d =>
    let x := d.bank st pc bank
    let n := (d.stack st).raaimt
    if n = 0 ∨ (x.raa < n ∧ x.held = 0) then d
    else
      let d := d.setBank st pc bank (x.pay n (d.stack st).raammt)
      (d.inc (a_HBM_REF_STAT st) f_HBM_REF_STAT_RFM_CNT).inc (a_HBM_REF_STAT st) f_HBM_REF_STAT_ALERT_CNT (if x.held = 0 then 0 else 1)))

/-- A stack's temperature is read: HOT, and HBM_STACK_HOT once per rise to 95 °C (R397, R543, R544). -/
def Dev.stackTemp (d : Dev) (s t : Nat) : Dev :=
  let a := a_HBM_REF_STAT s
  let d := d.wrF a f_HBM_REF_STAT_TEMP t
  let d := if 85 < t then d.wrB a f_HBM_REF_STAT_HOT true else if t < 82 then d.wrB a f_HBM_REF_STAT_HOT false else d
  let was := (d.stack s).hot95
  let d := d.setStack s { d.stack s with hot95 := 95 ≤ t }
  if 95 ≤ t && !was then d.reportErr 0x45 (44 + s) (s + t * 256 * 65536) else d

/-- HBM_TEMP_SAMPLE (R397). -/
def execHbmTempSample (dt : Nat) (st : Fin 2) (temp : Byte) (s : State) : Host.Outcome State Fault Refusal :=
  .next (s.after dt (fun d => d.stackTemp st temp.toNat))

/-- ROW_CLOSE: an open row closes after PAGE_IDLE cycles without an access (R395, R396). -/
def execRowClose (dt : Nat) (st : Fin 2) (pc : Fin 32) (bank : Fin 48) (s : State) : Host.Outcome State Fault Refusal :=
  .next (s.after dt (fun d =>
    let x := d.bank st pc bank
    if x.row.isSome && x.at_ + d.memNs st (d.rdF (a_HBM_PAGE_PWR st) f_HBM_PAGE_PWR_PAGE_IDLE) ≤ d.el then
      d.setBank st pc bank { x with row := none }
    else d))

/-! ### Power-down and self-refresh (R399, R400) -/

/-- POWER_DOWN_ENTRY: PD_IDLE cycles have passed without a request. -/
def execPowerDownEntry (dt : Nat) (st : Fin 2) (pc : Fin 32) (s : State) : Host.Outcome State Fault Refusal :=
  .next (s.after dt (fun d =>
    let x := d.pc st pc
    if x.mode = .active && x.at_ + d.memNs st (max 1 (d.rdF (a_HBM_PAGE_PWR st) f_HBM_PAGE_PWR_PD_IDLE)) ≤ d.el then d.pcTo st pc .powerDown
    else d))

/-- Every row of a pseudo-channel is closed. -/
def Dev.closeRows (d : Dev) (s p : Nat) : Dev :=
  d.setStack s { d.stack s with banks := (d.stack s).banks.map (fun (k : Nat × BankSt) => if k.1 / 64 = p then (k.1, { k.2 with row := none }) else k) }

/-- SELF_REFRESH_ENTRY: a channel idle for SR_IDLE µs begins its drain; the next entry command finds the drain done and stops its clock. -/
def Dev.selfRefreshEntry (d : Dev) (s p : Nat) : Dev :=
  let x := d.pc s p
  let idle := d.rdF (a_HBM_PAGE_PWR s) f_HBM_PAGE_PWR_SR_IDLE
  match x.mode with
  | .active | .powerDown => if idle ≠ 0 ∧ x.at_ + idle * 1000 ≤ d.el then (d.closeRows s p).pcTo s p .draining else d
  | .draining => d.pcTo s p .selfRefresh
  | _ => d

/-- SELF_REFRESH_ENTRY (R399). -/
def execSelfRefreshEntry (dt : Nat) (st : Fin 2) (pc : Fin 32) (s : State) : Host.Outcome State Fault Refusal :=
  .next (s.after dt (fun d => d.selfRefreshEntry st pc))

/-- SELF_REFRESH_EXIT: a waiting request brings the channel out once 900 ns have passed (R400). -/
def execSelfRefreshExit (dt : Nat) (st : Fin 2) (pc : Fin 32) (s : State) : Host.Outcome State Fault Refusal :=
  .next (s.after dt (fun d =>
    let x := d.pc st pc
    if x.mode = .selfRefresh && x.wants && !(d.stack st).retained && x.since + 900 ≤ d.el then d.pcTo st pc .active else d))

/-! ### Partial retention (R401, R402) -/

/-- PR_CTRL.GO: accepted in STANDBY alone. Channels outside RET_MASK lose their contents. -/
def Dev.prGo (d : Dev) (s : Nat) : Dev :=
  let a := a_HBM_PR_CTRL s
  if d.mode.starting || d.mode.cur != .standby then d.wrF a f_HBM_PR_CTRL_ERR 1
  else
    let d := (d.commit .prGo).wrF a f_HBM_PR_CTRL_ERR 0
    let keep := d.rdF a f_HBM_PR_CTRL_RET_MASK
    let gone := (List.range 32).filter (fun p => !keep.testBit p && !(d.retired s).testBit p)
    let mask := (gone.map (2 ^ ·)).foldl (· + ·) 0
    let d := iter 32 (fun p d => if (d.retired s).testBit p then d else (d.closeRows s p).pcTo s p (if keep.testBit p then .selfRefresh else .off)) d
    let d := d.setStack s { d.stack s with retained := true }
    let d := d.flag (a_HBM_PC_STAT s) f_HBM_PC_STAT_LOST mask
    let d := { d with hbmLost := d.hbmLost ++ gone.map (fun p => (s, p)) }
    if gone.isEmpty then d else d.reportErr 0x0B (44 + s) (s * 2 ^ 32 + mask)

/-- PR_CTRL.EXIT, a request or an HBM command ends retention. -/
def Dev.prExit (d : Dev) (s : Nat) : Dev :=
  d.setStack s ((d.stack s).endRetention (lget d.mem.retired s 0) d.el)

/-- PC_ZERO_DONE: zeroing of a lost channel ends (R402). -/
def execPcZeroDone (dt : Nat) (st : Fin 2) (pc : Fin 32) (s : State) : Host.Outcome State Fault Refusal :=
  .next (s.after dt (fun d => if (d.pc st pc).mode = .zeroing then d.pcTo st pc .active else d))

/-! ### Setpoint changes and tracking (R403, R406) -/

/-- The pseudo-channels of a stack that neither are off nor being zeroed go into a mode together. -/
def StackSt.allTo (x : StackSt) (m : PcMode) (now : Nat) : StackSt :=
  { x with pcs := x.pcs.map (fun (p : PcSt) =>
      if p.mode = .off || p.mode = .zeroing then p else { p with mode := m, since := now, wants := false }) }

/-- A setpoint change begins: its stacks enter self-refresh with their rows closed, and their MEM PLLs retune (R406 steps 1 to 3). -/
def Dev.setpStart (d : Dev) : Dev :=
  match d.mem.setp with
  | some (id, mask, sp, false) =>
    if (List.range 2).any (fun s => mask.testBit s && (d.stack s).stepP.isSome) then d
    else
      let d := { d with mem := { d.mem with setp := some (id, mask, sp, true) } }
      iter 2 (fun s d => if mask.testBit s then
        let x := d.stack s
        let d := d.setStack s (StackSt.allTo { x with banks := x.banks.map (fun (b : Nat × BankSt) => (b.1, { b.2 with row := none })) } .selfRefresh d.el)
        { d with rst := { d.rst with clkGood := d.rst.clkGood &&& ~~~ BitVec.ofNat 40 (2 ^ (37 + s)) } } else d) d
  | _ => d

/-- TRACKING_STEP_P: step P of a channel begins 100 ms after its last, and ends with the next command of that channel; a change of setpoint
that waits for it then begins (R403, R404, R406). -/
def Dev.trackStep (d : Dev) (s p : Nat) : Dev :=
  let x := d.stack s
  let a := a_HBM_TRN_STAT s
  match x.stepP with
  | some q =>
    if q = p then
      let d := (d.setStack s { x with stepP := none }).setPc s p { d.pc s p with track := d.el }
      (((d.wrF a f_HBM_TRN_STAT_STEP 0).wrB a f_HBM_TRN_STAT_BUSY false)).setpStart
    else d
  | none =>
    let changing := match d.mem.setp with | some (_, mask, _, _) => mask.testBit s | none => false
    if changing || (d.pc s p).mode = .off || (d.retired s).testBit p || d.el < (d.pc s p).track + 100000000 then d
    else ((d.setStack s { x with stepP := some p }).wrF a f_HBM_TRN_STAT_STEP 0x50).wrB a f_HBM_TRN_STAT_BUSY true

/-- TRACKING_STEP_P (R403). -/
def execTrackingStepP (dt : Nat) (st : Fin 2) (pc : Fin 32) (s : State) : Host.Outcome State Fault Refusal :=
  .next (s.after dt (fun d => d.trackStep st pc))

/-- SETPOINT_RELOCK: the PLLs have locked; the stored values of the new setpoint load, step P runs on every channel, requests resume, and the
command is answered (R406 steps 4 to 6). -/
def Dev.setpDone (d : Dev) : Dev :=
  match d.mem.setp with
  | some (id, mask, sp, true) =>
    let d := { d with mem := { d.mem with setp := none } }
    let d := iter 2 (fun s d => if mask.testBit s then
      let d := { d with rst := { d.rst with clkGood := d.rst.clkGood ||| BitVec.ofNat 40 (2 ^ (37 + s)) } }
      let d := d.wrF (a_HBM_TRN_STAT s) f_HBM_TRN_STAT_SETPOINT sp
      let x := (d.stack s).allTo .active d.el
      d.setStack s { x with pcs := x.pcs.map (fun (p : PcSt) => { p with track := d.el, at_ := max p.at_ d.el }) } else d) d
    d.finish id 0 noLine []
  | _ => d

/-- SETPOINT_RELOCK (R406). -/
def execSetpointRelock (dt : Nat) (s : State) : Host.Outcome State Fault Refusal := .next (s.after dt (fun d => d.setpDone))

/-- The checks of HBM_SETPOINT (R355, R405, R406): its status, 0 where it is accepted. -/
def Dev.setpCheck (d : Dev) (h : EnvHdr) (mask sp : Nat) : Nat :=
  let on (s : Nat) : Bool := mask.testBit s
  if mask = 0 ∨ 4 ≤ mask ∨ 2 ≤ sp then 0x12
  else if d.acquiring then 0x19
  else if sp = 1 ∧ (List.range 2).any (fun s => on s && !d.rdB (a_HBM_TRN_STAT s) f_HBM_TRN_STAT_TRAINED_32) then 0x12
  else if h.noDefer ∧ (List.range 2).any (fun s => on s && (d.stack s).stepP.isSome) then 0x30
  else 0

/-- HBM_SETPOINT accepted. -/
def Dev.setpAccept (d : Dev) (id mask sp : Nat) : Dev :=
  let d := iter 2 (fun s d => if mask.testBit s then d.prExit s else d) d
  ({ d with mem := { d.mem with setp := some (id, mask, sp, false) } } : Dev).setpStart

/-! ### Scrubbing (R408, R410) -/

/-- The next channel at or after p that is scrubbed: neither lost, retired nor off. -/
def Dev.scrubPc (d : Dev) (s p : Nat) : Option Nat :=
  (List.range 32).map (fun i => (p + i) % 32) |>.find? (fun q =>
    !(d.retired s).testBit q && !(d.rdF (a_HBM_PC_STAT s) f_HBM_PC_STAT_LOST).testBit q && (d.pc s q).mode ≠ .off)

/-- HBM_SCRUB: the next granule of the stack is read; `kind` 1 a word the controller corrected, 2 one the stack corrected, 3 one that is
uncorrectable. A pass that leaves more than CE_LIMIT corrections in a channel is reported. -/
def Dev.hbmScrub (d : Dev) (s kind : Nat) : Dev :=
  if !d.rdB (a_HBM_SCRUB_CFG s) f_HBM_SCRUB_CFG_EN then d
  else
    let g := (d.stack s).scrub
    match d.scrubPc s (g % 32) with
    | none => d
    | some p =>
      let g := if p < g % 32 then g / 32 * 32 + 32 + p else g / 32 * 32 + p
      let wrap : Bool := 32 * (pcBytes / 256) ≤ g
      let g := g % (32 * (pcBytes / 256))
      let word := unmapAddr d.mapOrder s p (g / 32) / 64
      let x := d.stack s
      let pcs := if wrap then x.pcs.map (fun (y : PcSt) => { y with ce := 0 }) else x.pcs
      let pcs := if kind = 1 then lset pcs p (let y := lget pcs p .reset; { y with ce := y.ce + 1 }) else pcs
      let d := d.setStack s { x with scrub := (g + 1) % (32 * (pcBytes / 256)), pcs := pcs }
      let a := a_HBM_ECC_STAT s
      match kind with
      | 1 =>
        let d := (d.inc a f_HBM_ECC_STAT_CE_CNT).reportLimited 0x09 s (44 + s) (word * 64) 1000000000
        if (lget pcs p .reset).ce = d.rdF (a_HBM_SCRUB_CFG s) f_HBM_SCRUB_CFG_CE_LIMIT + 1 then d.reportErr 0x0A (44 + s) (s * 32 + p) else d
      | 2 => (d.inc a f_HBM_ECC_STAT_ODE_CNT).reportLimited 0x09 s (44 + s) (word * 64) 1000000000
      | 3 =>
        let d := if d.mem.bad.contains word then d else { d with mem := { d.mem with bad := d.mem.bad ++ [word] } }
        d.ueFound word
      | _ => d

/-- HBM_SCRUB (R410). -/
def execHbmScrub (dt : Nat) (st : Fin 2) (kind : Fin 4) (s : State) : Host.Outcome State Fault Refusal :=
  .next (s.after dt (fun d => d.hbmScrub st kind))

/-! ### Retirement (R405, R411 to R413) -/

/-- The loft limit for the loft as it stands (R412). -/
def Dev.loftLimit (d : Dev) : Nat := loftLimitOf d.mapOrder (d.inForce a_CLS_LOFT_BASE).toNat (d.loftSlot d.wpu.ctx)

/-- KiB that a migration copies: a pseudo-channel but for its part of the refuge (R413). -/
def migrateKib : Nat := 704 * 1024

/-- HBMs.MIGRATE: what the migration under way has to copy and has copied so far (R413); the latter is a free value up to the whole, since no rule
says how far a copy has come (log entry 131). -/
def Dev.migrateReg (d : Dev) (s : Nat) : W64 :=
  match d.mem.retire with
  | some r =>
    if r.started && r.stack = s then
      fset (fset 0 f_HBM_MIGRATE_TOTAL_KIB migrateKib) f_HBM_MIGRATE_DONE_KIB (Config.migratedKib d.clk.cyc % (migrateKib + 1))
    else 0
  | none => 0

/-- A structure that must stay clear of the refuge overlaps it: PCX staging, the repeat banks, recording staging, the reconciliation store, a saved
engine state; the Keel's own area lies below it (`keelBase`). -/
def Dev.refugeInUse (d : Dev) : Bool :=
  let hits (a n : Nat) : Bool := hitsRefuge d.mapOrder a n
  let c := d.wpu.ctx
  hits (fget (d.dflt a_PCX_STAGE_BASE) f_PCX_STAGE_BASE_V) (fget (d.dflt a_PCX_STAGE_CFG) f_PCX_STAGE_CFG_SIZE_MIB * 2 ^ 20) ||
  (List.range 2).any (fun b => hits (d.inForce (a_SEG_REP_BASE b)).toNat
    (d.inF a_SEG_REP_CFG f_SEG_REP_CFG_R_LINES * repStride (d.repWidth c))) ||
  hits (d.inF a_THA_REC_STAGE f_THA_REC_STAGE_STAGE_BASE_HI * 65536) (d.inF a_THA_REC_STAGE f_THA_REC_STAGE_STAGE_MIB * 2 ^ 20) ||
  hits (d.inForce a_RDG_RECON_BASE).toNat (d.inF a_RDG_CFG f_RDG_CFG_RECON_MIB * 2 ^ 20) ||
  d.tha.saved.any (fun p => hits p.1 (256 + p.2.enc.hist.length))

/-- The checks of HBM_RETIRE (R411): its status, 0 where it is accepted. -/
def Dev.retireCheck (d : Dev) (s p : Nat) : Nat :=
  if 2 ≤ s ∨ 32 ≤ p then 0x12
  else if 2 ≤ popcount32 (d.retired s) ∨ (d.retired s).testBit p ∨ d.mem.retire.isSome ∨ d.refugeInUse ∨ d.loftLimit < 8192 then 0x12
  else if !d.admitted d.mode.cur.code (if s = 0 then (1, 0) else (0, 1)) then 0x24
  else 0

/-- The point of a retirement is reached: the loft limit is in force, the refuge is closed, lines written before count as overwritten, and
migration starts (R412, R413). -/
def Dev.retirePoint (d : Dev) : Dev :=
  match d.mem.retire with
  | some r =>
    if r.started then d
    else
      let n := d.loftLimit
      let d := { d with
        mem := { d.mem with retire := some { r with started := true }, limit := some n, closed := true }
        cls := { d.cls with written := [] } }
      d.wrF (a_HBM_LOFT_LIMIT 0) f_HBM_LOFT_LIMIT_V n
  | none => d

/-- HBM_RETIRE accepted: the loft limit is shown, and the retirement's point is the next course boundary of an acquiring mode, otherwise now
(R412). -/
def Dev.retireAccept (d : Dev) (id s p : Nat) : Dev :=
  let d := (d.prExit 0).prExit 1
  let d := { d with mem := { d.mem with retire := some ⟨some id, s, p, false⟩ } }
  if d.acquiring then d.wrF (a_HBM_LOFT_LIMIT 0) f_HBM_LOFT_LIMIT_V d.loftLimit else d.retirePoint

/-- RETIRED shows the channels retired. -/
def Dev.showRetired (d : Dev) (s : Nat) : Dev := d.wrF (a_HBM_PC_STAT s) f_HBM_PC_STAT_RETIRED (lget d.mem.retired s 0)

/-- A channel is retired: powered off, and a bit of RETIRED and of the calibration store (R413, R515). -/
def Dev.retirePc (d : Dev) (s p : Nat) : Dev :=
  let d := { d with mem := { d.mem with retired := lset d.mem.retired s (lget d.mem.retired s 0 ||| 2 ^ p) } }
  ((d.closeRows s p).pcTo s p .off).showRetired s

/-- MIGRATION_DONE: the channel is powered off and its bit set; the answer gives the loft LINES in force (R413). -/
def Dev.migrationDone (d : Dev) : Dev × Bool :=
  match d.mem.retire with
  | some r =>
    if r.started then
      let d := ({ d with mem := { d.mem with retire := none } } : Dev).retirePc r.stack r.pc
      (match r.cmd with
        | some id => d.endService id 0 noLine (leBytes 4 d.loftLines)
        | none => d, true)
    else (d, false)
  | none => (d, false)

end Sys2Proof.Machine
end

