-- ==== Sys2Proof/Machine/Line.lean ====
section
/-! DEFINITION. Issuing a line (R93 to R97, R443), the course boundary and everything that falls due there (R12, R15, R52, R56, R511), and the
evaluation of trigger points and compare units after the trigger position has moved. -/

namespace Sys2Proof.Machine

/-! ### Settings in force (R12, R15) -/

/-- The set of slit lanes written in src ascends strictly (R209). -/
def Dev.lanesOk (d : Dev) (src : RegStore) : Bool :=
  let v (a : Nat) : W64 := (src.find a).getD (d.dflt a)
  let n := min 64 (fget (v a_MOS_LANE_CFG) f_MOS_LANE_CFG_N_LANES)
  (List.range n).all (fun j => decide ((v (a_MOS_LANE_B j)).toInt < (v (a_MOS_LANE_B (j + 1))).toInt))

/-- Addresses of the set of slit lanes, and of the columns of regions. -/
def isLaneSet (a : Nat) : Bool := a = a_MOS_LANE_CFG || (a_MOS_LANE_B 0 ≤ a && a ≤ a_MOS_LANE_B 64)

/-- Columns of a region. -/
def isRegionCols (a : Nat) : Bool := (List.range 16).any (fun r => decide (a = a_SEG_REGION_COLS r))

/-- The settings in force now as a course would have them. -/
def Dev.ctxNow (d : Dev) (first len mode : Nat) : CourseCtx := ⟨first, len, mode, d.force, [], false, [], [], 0, 0, false, 0⟩

/-- Fields that take effect at course boundary come into force from the values in src: slit lanes that do not ascend, and columns that would
exceed the neighbourhood store, stay as they are (R209, R231); with `enters` the boundary is an entry to the mode, and the columns are judged by the
kernels it brings. -/
def Dev.bringCourse (d : Dev) (src : RegStore) (mode : Nat) (check enters : Bool) : Dev :=
  let d := d.bringFrom src .course (fun a => !isLaneSet a && !isRegionCols a)
  let d := if d.lanesOk src then d.bringFrom src .course isLaneSet else d.flag a_MOS_LANE_CFG f_MOS_LANE_CFG_LANE_ERR
  iter 16 (fun r d =>
    let a := a_SEG_REGION_COLS r
    let d' := d.bringFrom src .course (fun x => decide (x = a))
    let e := if enters then d'.commit .entry else d'
    let c := e.ctxNow 0 1024 mode
    let kernel := e.cF c (a_SEG_REGION_CFG r) f_SEG_REGION_CFG_KSEL ≠ 0
    if check && d'.force ≠ d.force && kernel && decide (storeSize mode < e.kernelStore c) then d.lockViolation a .keel
    else d') d

/-- Length of a course by LOG2_LEN in force (R181). -/
def Dev.courseLen (d : Dev) : Nat := 2 ^ clampN (d.inF a_WPU_COURSE f_WPU_COURSE_LOG2_LEN) 8 12

/-- Applied registration of each seam from the course that starts at line `first` (R202). -/
def Dev.regFrom (d : Dev) (first : Nat) : List (Int × Int) :=
  ((d.mos.regAt.filter (fun r => r.1 ≤ first)).foldl (fun (b : Nat × List (Int × Int)) r => if b.1 ≤ r.1 then r else b) (0, [])).2

/-- The context of the course that starts at `first`: geometry that breaks R191 keeps the last one that met it, and is reported (R214). -/
def Dev.makeCtx (d : Dev) (first len mode : Nat) (prev : Option CourseCtx) : Dev × CourseCtx :=
  let c := { d.ctxNow first len mode with reg := d.regFrom first }
  let cams := d.camsOf c
  let good := { c with cams := cams, seams := d.seamCols c cams }
  match prev with
  | some p =>
    if geometryOk (d.gridWidth c) cams then (d, good)
    else
      let moved := p.cams.map (fun (k : Cam) => match cams.find? (fun z => z.port = k.port) with | some z => { k with pipe := z.pipe } | none => k)
      (d.reportErr 0x1D 17 0, { c with cams := moved, kept := true, seams := p.seams })
  | none => (d, good)

/-- The registers that show a course's geometry: A, seam columns with their ports, and D of each camera (R192 to R194). -/
def Dev.showGeometry (d : Dev) (c : CourseCtx) : Dev :=
  let d := iter (min 15 (c.cams.length - 1)) (fun s d =>
    let r := lget c.reg s (0, 0)
    let d := (d.wrS (a_MOS_SEAM_STAT s) f_MOS_SEAM_STAT_APP_X r.1).wrS (a_MOS_SEAM_STAT s) f_MOS_SEAM_STAT_APP_Y r.2
    let p := a_MOS_SEAM_POS s
    ((d.wrF p f_MOS_SEAM_POS_SEAM_COL (lget c.seams s 0)).wrF p f_MOS_SEAM_POS_LEFT_PORT (camAt c.cams s).port).wrF p f_MOS_SEAM_POS_RIGHT_PORT
      (camAt c.cams (s + 1)).port) d
  iter 16 (fun p d =>
    match c.cams.findIdx? (fun k => k.port = p) with
    | some i =>
      let (x, y, _) := d.camD c i
      (d.wrS (a_MOS_CAM_D p) f_MOS_CAM_D_DX x).wrS (a_MOS_CAM_D p) f_MOS_CAM_D_DY y
    | none => d.wr (a_MOS_CAM_D p) 0) d

/-! ### The spare pipeline at a boundary (R159, R503, R511 to R514) -/

/-- Role of a pipeline now. -/
def Dev.roleNow (d : Dev) (n : Nat) : Nat := d.rdF (a_PIPE_ROLE n) f_PIPE_ROLE_ROLE

/-- Give a pipeline a role and a port. -/
def Dev.setRole (d : Dev) (n role port : Nat) : Dev := (d.wrForce (a_PIPE_ROLE n) f_PIPE_ROLE_ROLE role).wrForce (a_PIPE_ROLE n) f_PIPE_ROLE_PORT port

/-- The pipeline that holds a spare role. -/
def Dev.spareOf (d : Dev) : Option Nat := (List.range 17).find? (fun n => d.roleNow n ∈ [1, 2, 4])

/-- The active pipeline patrolled next: ascending, one course each, wrapping (R514). -/
def Dev.nextTarget (d : Dev) : Option Nat :=
  let act := (List.range 17).filter (fun n => d.roleNow n = 0 && d.inF (a_TPT_CFG (d.rdF (a_PIPE_ROLE n) f_PIPE_ROLE_PORT)) f_TPT_CFG_LANE_MODE ≠ 0)
  match d.spare.at_ with
  | none => act.head?
  | some t => match act.find? (fun n => t < n) with | some n => some n | none => act.head?

/-- The spare takes its part in the course that starts at `first`: a takeover's shadow or move, lent, patrol, or idle. -/
def Dev.spareBoundary (d : Dev) (first len mode : Nat) : Dev :=
  match d.spare.take with
  | some t =>
    let port := d.rdF (a_PIPE_ROLE t.target) f_PIPE_ROLE_PORT
    if t.first = some first then
      let d := d.setRole t.spare 3 port
      { d with spare := { d.spare with comps := d.spare.comps ++ [⟨t.target, first, first + 2 * len - 1, 0, true⟩] } }
    else if t.first = some (first - 2 * len) && t.serves.isNone then
      let d := (d.setRole t.spare 0 port).wrForce (a_PIPE_ROLE t.target) f_PIPE_ROLE_ROLE 1
      { d with spare := { d.spare with take := some { t with serves := some first } } }
    else d
  | none =>
    match d.spareOf with
    | none => d
    | some n =>
      if mode = 4 then d.wrForce (a_PIPE_ROLE n) f_PIPE_ROLE_ROLE 4
      else if mode ∈ [2, 3, 5] then
        match d.nextTarget with
        | none => d.wrForce (a_PIPE_ROLE n) f_PIPE_ROLE_ROLE 1
        | some t =>
          let d := (d.setRole n 2 (d.rdF (a_PIPE_ROLE t) f_PIPE_ROLE_PORT)).wrF a_ERR_PATROL f_ERR_PATROL_TARGET t
          { d with spare := { d.spare with at_ := some t, comps := d.spare.comps ++ [⟨t, first, first + len - 1, 0, false⟩] } }
      else d.wrForce (a_PIPE_ROLE n) f_PIPE_ROLE_ROLE 1

/-! ### The course boundary (R56) -/

/-- The first line of the next course, and of the course in which a write completed now comes into force (R12). -/
def Dev.nextFirst (d : Dev) : Nat := d.wpu.ctx.first + d.wpu.ctx.len
def Dev.effectFirst (d : Dev) : Nat := if d.wpu.synced then d.nextFirst + d.wpu.ctx.len else d.nextFirst

/-- The regions whose clearing was requested before the sync point (R222). -/
def Dev.clearDue (d : Dev) (src : RegStore) : Nat := fget ((src.find a_SEG_CM_CTRL).getD (d.dflt a_SEG_CM_CTRL)) f_SEG_CM_CTRL_CLEAR

/-- Swaps and clears requested before the sync point (R168, R169, R222, R251); the clears hold from the course's first line on (`Dev.cmClear`). -/
def Dev.swapsDue (d : Dev) (src : RegStore) : Dev :=
  let was (a : Nat) (f : Fld) : Nat := fget ((src.find a).getD (d.dflt a)) f
  let d := iter 17 (fun n d => if was (a_PIPE_COEF_CTRL n) f_PIPE_COEF_CTRL_SWAP = 1 && d.rdB (a_PIPE_COEF_CTRL n) f_PIPE_COEF_CTRL_SWAP then d.coefBoundary n else d) d
  let d := d.unask a_SEG_CM_CTRL f_SEG_CM_CTRL_CLEAR (d.clearDue src)
  if was a_CLS_BANK_CTRL f_CLS_BANK_CTRL_SWAP = 1 then d.bankBoundary else d

/-- POS_OFS of a partner moves toward the mean difference of the course, by at most PITCH / 8 (R445). -/
def Dev.posOfsMove (d : Dev) : Dev :=
  let (sum, n) := d.pair.diff
  let d := { d with pair := { d.pair with diff := (0, 0), told := false } }
  if !d.isPartner || n = 0 then d
  else
    let lim : Int := (max 1 (d.inF a_WPU_LINE_PITCH f_WPU_LINE_PITCH_PITCH)) / 8
    d.wr a_RDG_POS_OFS (BitVec.ofInt 64 ((d.rd a_RDG_POS_OFS).toInt + clampI (rdiv sum n) (-lim) lim))

/-- Everything a new acquiring mode sets as it takes effect. `from_` is the mode before, none on entry from STANDBY. -/
def Dev.enterMode (d : Dev) (m : Mode) (from_ : Bool) : Dev :=
  let loft := (d.inForce a_CLS_LOFT_BASE, d.inForce a_CLS_LOFT_CFG)
  let d := if from_ then d else d.commit .entryStandby
  let d := d.commit .entry
  let d := if m == .record then d.commit .record else d
  let d := { d with mode := { d.mode with entries := d.mode.entries + 1 } }
  let d := (d.wrF (a_MOS_EDGE_POS 0) f_MOS_EDGE_POS_FILT_Q noQ).wrF (a_MOS_EDGE_POS 1) f_MOS_EDGE_POS_FILT_Q noQ
  (d.ownChange (fun d => d.pipesEnter)).clsEnter (loft ≠ (d.inForce a_CLS_LOFT_BASE, d.inForce a_CLS_LOFT_CFG))

/-- A pending mode change takes effect at the boundary before line `first`: its line has been reached (R52). -/
def ModePend.dueAt (p : ModePend) (first : Nat) : Bool := match p.line with | some l => l ≤ first | none => false

/-- A field that takes effect at commit has another value in force than it had (R241). -/
def Dev.commitChanged (d : Dev) (was : RegStore) : Bool :=
  d.force.any (fun e =>
    match regAt e.1 with
    | some (_, r, _) => (e.2 ^^^ (was.find e.1).getD (d.dflt e.1)) &&& r.commitMask ≠ 0
    | none => false)

/-- A mode change due at the boundary takes effect (R52, R56): its command is answered with the line it takes effect on. -/
def Dev.modeBoundary (d : Dev) (first : Nat) : Dev :=
  match d.mode.pend with
  | none => d
  | some p =>
    if !p.dueAt first then d
    else
      let old := d.wpu.ctx
      let was := d.force
      let d := { d with mode := { d.mode with pend := none, cur := p.target } }
      let answer (d : Dev) : Dev := match p.cmd with | some id => d.finish id 0 (BitVec.ofNat 64 first) [] | none => d
      if p.target.acquiring then
        let d := d.enterMode p.target true
        let c := d.ctxNow first old.len p.target.code
        let cut := d.commitChanged was || d.segH c ≠ d.segH old
        let d := if cut then { d with seg := { d.seg with closeAs := d.seg.closeAs ++ [(old.run, first - 1, 4)] } } else d
        let d := if p.target == .calibrate then d.mkoPinsSafe else d
        answer ((d.captureAbort.segEnter c).loadProfile p.target.code)
      else
        let d := { d with seg := { d.seg with closeAs := d.seg.closeAs ++ [(old.run, first - 1, 3)] } }
        answer ((d.acqStops.mkoPinsSafe).loadProfile p.target.code)

/-- The boundary after the last line of a course: everything due takes effect together, and the next course's settings are fixed (R56). -/
def Dev.boundary (d : Dev) : Dev :=
  let old := d.wpu.ctx
  let first := d.nextFirst
  let src := if d.wpu.synced then d.snap else d.regs
  let due := match d.mode.pend with | some p => if p.dueAt first then some p.target else none | none => none
  let enters := match due with | some t => t.acquiring | none => false
  let d := d.bringCourse src (match due with | some t => t.code | none => old.mode) true enters
  let d := d.modeBoundary first
  let clear := d.clearDue src
  let d := d.swapsDue src
  let d := d.retirePoint.posOfsMove
  let d := { d with bal := { d.bal with rtReported := false } }
  if d.mode.cur.acquiring then
    let d := d.reloadProfile.spareBoundary first old.len d.mode.cur.code
    let (d, c) := d.makeCtx first old.len d.mode.cur.code (some old)
    let c := { c with entry := if enters then d.mode.entries else old.entry, run := old.run, anew := old.anew, clear := clear }
    ({ d with wpu := { d.wpu with ctx := c, courseAt := first, courseLen := old.len, synced := false } } : Dev).showGeometry c
  else d

/-- Static registration of each seam in force (R204). -/
def Dev.staticRegs (d : Dev) : List (Int × Int) :=
  (List.range 15).map (fun s => (d.inS (a_MOS_SEAM_CFG s) f_MOS_SEAM_CFG_STATIC_X, d.inS (a_MOS_SEAM_CFG s) f_MOS_SEAM_CFG_STATIC_Y))

/-- Acquisition starts with a course that begins at line `first`; trigger points count from the position now. With `anew` the column model starts
anew with it. -/
def Dev.lineStart (d : Dev) (first : Nat) (anew : Bool) : Dev :=
  let len := d.courseLen
  let d := { d with mode := { d.mode with entries := d.mode.entries + 1 } }
  let (d, c) := d.makeCtx first len d.mode.cur.code none
  let c := { c with entry := d.mode.entries, run := d.mode.entries, anew := anew }
  let d := { d with wpu := { d.wpu with
    ctx := c, courseAt := first, courseLen := len, synced := false, fresh := true, furthest := none, evalNm := d.tpos } }
  d.showGeometry c

/-- Entry from STANDBY to an acquiring mode (R15, R52): held values come into force, the line counter advances to the next multiple of the course
length, and the first trigger issued will be the first line of a course. Every A starts from STATIC (R202); a device that joins an acquisition keeps
the registration and the column model that the authority sent it (R203, R458). -/
def Dev.enterFromStandby (d : Dev) (m : Mode) : Dev :=
  let joins := d.isPartner && d.pair.joinAt.isSome
  let d := { d with mode := { d.mode with cur := m }, bal := { d.bal with rtReported := false }, spare := { d.spare with comps := [], spare := [], its := [] } }
  let d := d.bringCourse d.regs m.code false false
  let d := d.enterMode m false
  let len := d.courseLen
  let first := ceilDiv (d.rd a_WPU_LINE_CNT).toNat len * len
  let d := d.wr a_WPU_LINE_CNT (BitVec.ofNat 64 first)
  let d := d.swapsDue d.regs
  let d := { d with mos := { d.mos with wasEst := [], regAt := if joins && !d.mos.regAt.isEmpty then d.mos.regAt else [(first, d.staticRegs)] } }
  let d := (d.spareBoundary first len m.code).lineStart first (!joins)
  (d.segEnter d.wpu.ctx).loadProfile m.code

/-! ### A line (R97, R443) -/

/-- The 64 bytes of LINE_DESC (R439): the fields of R97 in order, then TIME_EPOCH (log entry 25). -/
def LineDesc.bytes (x : LineDesc) : List Byte :=
  let b (v : Bool) (k : Nat) : Nat := if v then 2 ^ k else 0
  padTo (leBytes 8 x.line ++ leBytes 8 x.time.toNat ++ leBytes 8 x.raw.toNat ++ leBytes 8 (uwrap x.pos 64) ++ leBytes 8 (uwrap x.speed 64) ++
    leBytes 2 x.gap ++ [BitVec.ofNat 8 (b x.dir 0 + b x.dirChange 1 + b x.speedValid 2 + b x.extrap 3), 0] ++ leBytes 2 x.epoch.toNat) 64

/-- The sync point's trigger (R12, R149, R454): the written values are kept for the boundary, ports marked changed get their SET, and a
handover that waits for the boundary is offered. -/
def Dev.syncPoint (d : Dev) : Dev :=
  let first := d.nextFirst
  let d := { d with snap := d.regs, wpu := { d.wpu with synced := true } }
  let d := match d.spare.take with
    | some t => if t.copied && t.first.isNone then { d with spare := { d.spare with take := some { t with first := some first } } } else d
    | none => d
  let d := iter 16 (fun p d => if d.inF (a_TPT_CFG p) f_TPT_CFG_LANE_MODE = 0 then d else d.sendSet p first (!d.isPartner)) d
  if d.isPartner then d
  else
    match d.pair.hand with
    | some (_, true, none) => d.ridge 0x86 (padTo [1] 16)
    | _ => d

/-- A line becomes the device's own, issued or adopted: classification, mosaic, slots, triggers, strobes, the record of courses ended. -/
def Dev.lineOut (d : Dev) (x : LineDesc) (active : Bool) : Dev :=
  let mons := d.monitors
  let d := { d with
    wpu := { d.wpu with issued := (x :: d.wpu.issued).take 256, lastLine := some x, fresh := false, dirChange := false, gap := 0 }
    cycle := { d.cycle with line := some x.line } }
  let d := d.wr a_WPU_LINE_CNT (BitVec.ofNat 64 (x.line + 1))
  let d := if x.first then (iter 17 (fun n d => d.flushStats n) (d.clsCourse x)).flushMosaic else d
  let d := d.clsIssued x
  let d := { d with mos := { d.mos with todo := d.mos.todo ++ [x] } }
  let d := iter 16 (fun p d =>
    if d.inF (a_TPT_CFG p) f_TPT_CFG_LANE_MODE = 0 then d else (d.openLine p x mons).sendTrigger p x active) d
  let d := iter 8 (fun s d =>
    let d := d.strobeFrom s 0
    if (x.line - x.ctx.first) % max 1 (d.inF (a_WPU_STB_CFG s) f_WPU_STB_CFG_DIV) = 0 then d.strobeFrom s 1 else d) d
  let d := d.raiseEvt 64
  let d := if active && d.established then d.ridge 0x82 x.bytes else d
  let d := if x.line + 16 = x.ctx.first + x.ctx.len then d.syncPoint else d
  if x.line + 1 = x.ctx.first + x.ctx.len then d.boundary else d

/-- The descriptor of a line issued now (R97). -/
def Dev.descNow (d : Dev) (line : Nat) : LineDesc :=
  { line := line, time := d.now, epoch := d.clk.epoch, raw := d.rd (a_WPU_ENC_POS d.master), pos := d.tpos, speed := (d.rd a_WPU_SPEED).toInt,
    gap := min d.wpu.gap 0xFFFF, dir := d.wpu.rev, dirChange := d.wpu.dirChange, speedValid := d.rdB a_WPU_MOTION f_WPU_MOTION_SPEED_VALID,
    extrap := d.wpu.extrap, first := decide (line = d.wpu.ctx.first), ctx := d.wpu.ctx }

/-! ### The token moves (R453, R454) -/

/-- The device takes authority: it issues, sends SETs, delivers results, and drives the outputs as R454 states. Points that no line was made of
are skipped (R453). What it added to its positions stays, and POS_OFS reads 0 (R445). -/
def Dev.takeAuthority (d : Dev) : Dev :=
  let next := (d.rd a_WPU_LINE_CNT).toNat
  let u := match d.pair.unv with | some (f, none) => some (f, some next) | u => u
  let ofs := (d.rd a_RDG_POS_OFS).toInt
  let d := (((d.wrB a_RDG_STAT f_RDG_STAT_AUTHORITY true).wrB a_RDG_STAT f_RDG_STAT_UNVERIFIED false).wr a_RDG_POS_OFS 0)
  let d := { d with
    pair := { d.pair with moved := some (d.el, true, false), kept := ofs, unv := u, points := [], descs := [] }
    wpu := { d.wpu with gap := d.wpu.gap + d.pair.points.length } }
  (d.inc a_RDG_CNT1 f_RDG_CNT1_TAKEOVER_CNT).reportErr 0x2B 46 0

/-- The device gives authority up: it is the partner from now on, and drives its outputs no more than R454 states. -/
def Dev.giveAuthority (d : Dev) : Dev :=
  let d := d.cancelOwned
  let d := (d.wrB a_RDG_STAT f_RDG_STAT_AUTHORITY false).wr a_RDG_POS_OFS (BitVec.ofInt 64 d.pair.kept)
  ({ d with pair := { d.pair with moved := some (d.el, false, false), kept := 0 } } : Dev).outputsIdle

/-- The body of AUTH RELEASE with the instant H (R439). -/
def releaseBody (h : W64) : List Byte := padTo [3] 8 ++ leBytes 8 h.toNat

/-- A handover agreed for this course boundary takes effect as its first line falls due (R454). -/
def Dev.handAt (d : Dev) : Dev :=
  match d.pair.hand with
  | some (id, true, some _) =>
    if (d.rd a_WPU_LINE_CNT).toNat ≠ d.wpu.ctx.first then d
    else
      let d := { d with pair := { d.pair with hand := none } }
      if d.isPartner then d.takeAuthority
      else
        ((d.finish id 0 (BitVec.ofNat 64 d.wpu.ctx.first) []).giveAuthority).ridge 0x86 (releaseBody d.now)
  | _ => d

/-! ### Trigger points (R93 to R96, R139, R444) -/

/-- Payload a lane accepts at its rate, in Mb/s (R130). -/
def wirePayload (rate : Nat) : Nat := 12750 * 2 ^ min rate 2

/-- The shortest trigger intervals that port p asks for under the settings of c, each as a fraction of nanoseconds (R95): its smallest line
period, and its width over the smaller of the mode's rate and the wire rate (R139). -/
def Dev.portLimits (d : Dev) (c : CourseCtx) (p : Nat) : List (Nat × Nat) :=
  if d.cF c (a_TPT_CFG p) f_TPT_CFG_LANE_MODE = 0 || !d.portActive p then []
  else
    let (w, rows, b) := d.lineForm c p
    let cols := match (List.range 17).find? (fun k => d.pipeRole c k = 0 && d.pipePort c k = p) with | some k => d.pipeCols c k | none => 0
    let width := max w cols
    let mode := if c.mode = 3 then 4250 else if c.mode = 4 then 2500 else 5000
    let wire := ([2 * p, 2 * p + 1].filter d.laneActive).foldl (fun s l => s + wirePayload (d.lane l).rate) 0
    [(d.capField p 28 4, 1), (width * 1000, mode), (width * b * rows * 1000, wire)]

/-- The shortest trigger intervals of R95 under the settings of c but for that of RECORD. -/
def Dev.trigLimits (d : Dev) (c : CourseCtx) : List (Nat × Nat) :=
  [(1000, 1), (d.cF c a_WPU_TRIG_MIN f_WPU_TRIG_MIN_MIN_NS, 1)] ++ (List.range 16).flatMap (fun p => d.portLimits c p)

/-- Samples of a line that RECORD records under the settings of c (R50). -/
def Dev.recWidth (d : Dev) (c : CourseCtx) : Nat := d.cF c a_THA_REC_CFG f_THA_REC_CFG_COL_HI + 1 - d.cF c a_THA_REC_CFG f_THA_REC_CFG_COL_LO

/-- A due trigger would come sooner after the last issued one than R95 allows. -/
def Dev.tooSoon (d : Dev) : Bool :=
  match d.wpu.lastTrig with
  | none => false
  | some t =>
    let n := d.el - t
    let c := d.wpu.ctx
    (d.trigLimits c).any (fun x => n * x.2 < x.1) || (decide (c.mode = 5) && decide (n * 32 < d.recWidth c))

/-- Points skipped (R95, R96). -/
def Dev.skipPoints (d : Dev) (n : Nat) : Dev :=
  if n = 0 then d
  else
    let d := { d with wpu := { d.wpu with gap := d.wpu.gap + n } }
    (d.inc a_WPU_MOTION f_WPU_MOTION_OVERRUN_CNT n).raiseEvt 75

/-- A point at `at_` is due now: issued, or in a partner noted or taken as its own line (R444, R457). -/
def Dev.pointDue (d : Dev) (at_ : Int) : Dev :=
  let d := d.handAt
  let line := (d.rd a_WPU_LINE_CNT).toNat
  let far := some (match d.wpu.furthest with | some f => max f at_ | none => at_)
  let x := d.descNow line
  let d := { d with wpu := { d.wpu with furthest := far, lastTrig := some d.el } }
  if !d.isPartner then d.lineOut x true
  else if d.shadowLines then d.lineOut x false
  else
    match d.pair.descs with
    | (_, t) :: rest => if d.el ≤ t + 5000 then { d with pair := { d.pair with descs := rest } } else note d x
    | [] => note d x
where
  /-- The shadow unit's point waits for its LINE_DESC. -/
  note (d : Dev) (x : LineDesc) : Dev := { d with pair := { d.pair with points := d.pair.points ++ [(x, d.el)] } }

/-- Trigger points between the previous evaluation and now (R93, R94, R96). -/
def Dev.evalPoints (d : Dev) : Dev :=
  let x0 := d.wpu.evalNm
  let x1 := d.tpos
  let d := { d with wpu := { d.wpu with evalNm := x1 } }
  if !d.acquiring then d
  else
    let c := d.wpu.ctx
    let pitch : Int := max 1 (d.cF c a_WPU_LINE_PITCH f_WPU_LINE_PITCH_PITCH)
    let phase : Int := (d.cF c a_WPU_LINE_PITCH f_WPU_LINE_PITCH_PHASE : Int) % pitch
    if d.wpu.rev then
      if !d.inB a_WPU_CTRL f_WPU_CTRL_REV_MODE then d
      else
        let up (x : Int) : Int := -(Int.fdiv (phase - x) pitch)
        let n := (up x0 - up x1).toNat
        if n = 0 then d else due d (n - 1) (phase + up x1 * pitch)
    else
      let x0 := if d.inB a_WPU_CTRL f_WPU_CTRL_REV_MODE then x0 else (match d.wpu.furthest with | some f => max x0 f | none => x0)
      let k (x : Int) : Int := Int.fdiv (x - phase) pitch
      let n := (k x1 - k x0).toNat
      if n = 0 then d else due d (n - 1) (phase + k x1 * pitch)
where
  /-- The last of several points is due, the others are skipped; so is a point that falls too soon. -/
  due (d : Dev) (others : Nat) (at_ : Int) : Dev :=
    let d := d.skipPoints others
    if d.tooSoon then d.skipPoints 1 else d.pointDue at_

/-- After t or d has changed: TPOS is shown, compare units and trigger points are evaluated. -/
def Dev.evaluate (d : Dev) : Dev := d.showTpos.cmpEvalAll.evalPoints

end Sys2Proof.Machine
end

