-- ==== Sys2Proof/Machine/Cal.lean ====
section
/-! DEFINITION. Calibration runs (R518 to R522), calibration bursts (R431 to R433) and the copy of a takeover (R511). -/

namespace Sys2Proof.Machine

/-! ### CAL_RUN (R518, R519) -/

/-- An item needs CALIBRATE. -/
def calNeedsMode (item : Nat) : Bool := 0x200 ≤ item && item < 0x600

/-- The pipeline that serves a port now. -/
def Dev.servingPipe (d : Dev) (p : Nat) : Option Nat :=
  (List.range 17).find? (fun n => d.roleNow n = 0 && d.rdF (a_PIPE_ROLE n) f_PIPE_ROLE_PORT = p)

/-- CAL_RUN may run an item with an argument: its range, and zero in the bytes to which the item gives no meaning (R335, R518), and a pipeline that
serves the port, with two banks for DARK and FLAT (log entry 30). -/
def Dev.calArgOk (d : Dev) (item : Nat) (arg : Nat) : Bool :=
  let avg (k : Nat) : Bool := let a := arg / 2 ^ k % 256; 4 ≤ a && a ≤ 12
  if !calKnown item || 0x600 ≤ item then false
  else
    match calKind item with
    | (2, p) => avg 0 && arg < 2 ^ 8 && banks p
    | (3, p) => avg 16 && arg < 2 ^ 24 && banks p
    | (4, p) => avg 48 && arg < 2 ^ 56 && arg % 2 ^ 32 ≠ 0 && (d.servingPipe p).isSome
    | _ => arg = 0
where
  /-- The pipeline of a port has an idle coefficient bank. -/
  banks (p : Nat) : Bool :=
    match d.servingPipe p with
    | some n => !d.inB (a_PIPE_COEF_CTRL n) f_PIPE_COEF_CTRL_WIDE
    | none => false

/-- EFFECT_LINE of an accepted run as judged at acceptance (R337; log entry 105): for DARK, FLAT, GEOMETRY and SEAM the first course whose sync point
follows the last line captured, all of them non-void; no line for the items that come into force otherwise (R522). -/
def Dev.calLine (d : Dev) (item : Nat) (arg : W64) : W64 :=
  if !calNeedsMode item then noLine
  else
    let first := if d.wpu.fresh then d.wpu.ctx.first else d.nextFirst
    let len := d.courseLen
    let x : CalRun := ⟨0, item, arg, none, 0, [], none, none, false, false⟩
    let last := if (calKind item).1 = 5 then len else 2 ^ x.avg - 1
    let k := last / len + (if last % len + 16 < len then 1 else 2)
    BitVec.ofNat 64 (first + k * len)

/-- A run is accepted: it captures from the first line of the course after acceptance (R519). -/
def Dev.calStart (d : Dev) (cmd item : Nat) (arg : W64) : Dev :=
  let first := if d.wpu.fresh then d.wpu.ctx.first else d.nextFirst
  d.setRunCal (some ⟨cmd, item, arg, if d.acquiring then some first else none, 0, [], none, none, false, false⟩)

/-- The run ends without effect. -/
def Dev.calFail (d : Dev) (x : CalRun) (status : Nat) : Dev := (d.setRunCal none).finish x.cmd status noLine []

/-- The values of a run are in force: count and time follow, and the command ends with them (R519). -/
def Dev.calInForce (d : Dev) (x : CalRun) (coefs : List W32) (line : W64) : Dev :=
  let d := (d.setRunCal none).calSet x.item coefs
  match d.calFind x.item with
  | some y => d.finish x.cmd 0 line (leBytes 4 y.count ++ zeros 4 ++ leBytes 8 y.time.toNat)
  | none => d

/-- What a run has captured is computed and held pending; `coefs` are what the device measured for TS_TAPS or a lane. -/
def Dev.calCaptured (d : Dev) (coefs : List W32) : Dev :=
  match d.cal.run with
  | none => d
  | some x =>
    if x.pend.isSome then d
    else
      let (kind, k) := calKind x.item
      let hold (d : Dev) (cs : List W32) (at_ : Nat) : Dev := d.setRunCal (some { x with pend := some (cs, d.now, at_), sums := [] })
      match kind with
      | 0 | 1 =>
        let n := calFactoryCoefs x.item
        hold d ((coefs ++ List.replicate n 0).take n) d.refNs
      | 5 =>
        match x.seam with
        | none => d
        | some (reason, ex, ey) =>
          if reason ≠ 0 then d.calFail x 0x12
          else
            let a := a_MOS_SEAM_CFG k
            let d := d.ownChange (fun d => (d.wrS a f_MOS_SEAM_CFG_STATIC_X ex).wrS a f_MOS_SEAM_CFG_STATIC_Y ey)
            hold d [BitVec.ofInt 32 ex, BitVec.ofInt 32 ey] d.effectFirst
      | _ =>
        if x.taken < 2 ^ x.avg then d
        else
          match d.servingPipe k with
          | none => d
          | some n =>
            if kind = 4 then
              let ys := (x.sums.headD []).map (fun s => if s.2 = 0 then none else some (rdiv s.1 s.2).toNat)
              let qs := risingCrossings (x.arg.toNat / 2 ^ 32 % 2 ^ 16 : Nat) ys
              if qs.length < 8 then d.calFail x 0x12
              else
                let pitch := d.gridPitch d.wpu.ctx
                let cs := (fitCubic (x.arg.toNat % 2 ^ 32) pitch qs).map (BitVec.ofInt 64)
                let d := d.ownChange (fun d =>
                  (((d.wr (a_PIPE_RS_C0 n) (lget cs 0 0)).wr (a_PIPE_RS_C1 n) (lget cs 1 0)).wr (a_PIPE_RS_C2 n) (lget cs 2 0)).wr (a_PIPE_RS_C3 n)
                    (lget cs 3 0))
                hold d (cs.flatMap halves) d.effectFirst
            else
              let b := 1 - d.rdF (a_PIPE_COEF_CTRL n) f_PIPE_COEF_CTRL_IN_FORCE
              hold (d.calBank n (kind = 2) (x.arg.toNat % 2 ^ 16) x.sums) [] b

/-- CAL_CAPTURE_DONE (R519). -/
def execCalCaptureDone (dt : Nat) (coefs : List W32) (s : State) : Host.Outcome State Fault Refusal :=
  .next (s.after dt (fun d => d.calCaptured coefs))

/-- The first device time at or after t with t mod 10^9 = 500,000,000 (R368). -/
def nextHalfSecond (t : Nat) : Nat := t + (10 ^ 9 + 500000000 - t % 10 ^ 9) % 10 ^ 9

/-- A lane's item comes into force whole at its bring-up, or when both of its halves have (R433, R522). -/
def Dev.calApply (d : Dev) : Dev :=
  match d.cal.run with
  | none => d
  | some x =>
    match x.pend with
    | none => d
    | some (cs, t, at_) =>
      let (kind, k) := calKind x.item
      match kind with
      | 0 => if nextHalfSecond t.toNat ≤ d.now.toNat then d.calInForce x cs noLine else d
      | 1 => if at_ ≤ (d.lane k).detectAt && (d.lane k).step ≠ 0 then d.calInForce x cs noLine else d
      | 4 | 5 => if at_ ≤ d.wpu.ctx.first then d.calInForce x cs (BitVec.ofNat 64 d.wpu.ctx.first) else d
      | _ =>
        match d.servingPipe k with
        | some n =>
          if d.rdF (a_PIPE_COEF_CTRL n) f_PIPE_COEF_CTRL_IN_FORCE = at_ then d.calInForce x cs (BitVec.ofNat 64 d.wpu.ctx.first) else d
        | none => d

/-- CAL_APPLY (R522). -/
def execCalApply (dt : Nat) (s : State) : Host.Outcome State Fault Refusal := .next (s.after dt (fun d => d.calApply))

/-- The coefficients of a lane in force. -/
def Dev.laneCoefs (d : Dev) (l : Nat) : List W32 :=
  match d.calFind (0x100 + l) with
  | some y => y.coefs
  | none => (List.range 13).map (fun i => Config.factoryCal (0x100 + l) i)

/-- A burst brings one side of a pending lane set into force: coefficients 0 to 11 are of the receiver, 12 of the transmitter (R433). -/
def Dev.calBurst (d : Dev) (l : Nat) (tx : Bool) : Dev :=
  match d.cal.run with
  | none => d
  | some x =>
    match x.pend with
    | none => d
    | some (cs, _, at_) =>
      if x.item ≠ 0x100 + l || (d.lane l).step ≠ 6 || (if tx then x.tx else x.rx) then d
      else if at_ ≤ (d.lane l).detectAt then d.calInForce x cs noLine
      else
        let x := if tx then { x with tx := true } else { x with rx := true }
        if x.rx && x.tx then d.calInForce x cs noLine
        else
          let now := (d.laneCoefs l).mapIdx (fun i v => if decide (i = 12) == tx then lget cs i v else v)
          let y : CalItem := match d.calFind x.item with | some y => { y with coefs := now } | none => ⟨x.item, now, 0, 0⟩
          let lo := d.cal.items.filter (fun z => z.item < x.item)
          let hi := d.cal.items.filter (fun z => x.item < z.item)
          ({ d with cal := { d.cal with items := lo ++ [y] ++ hi } } : Dev).setRunCal (some x)

/-! ### Bursts (R431, R432) -/

/-- CAL_BURST_SEND: 950 µs after the start of its last burst a transmitter in stage 3, 4 or 5 sends the next (R431). -/
def Dev.burstSend (d : Dev) (l : Nat) : Dev :=
  let x := d.lane l
  if x.step < 3 || d.refNs < x.burstAt + 950000 then d
  else
    let d := d.setLane l { x with burst := x.burst + 1, burstAt := d.refNs }
    (d.laneBurst l (burstBytes x.burst)).calBurst l true

/-- CAL_BURST_SEND (R431). -/
def execCalBurstSend (dt : Nat) (l : Fin 40) (s : State) : Host.Outcome State Fault Refusal := .next (s.after dt (fun d => d.burstSend l))

/-- CAL_BURST_RECEIVE: the receiver adapts through the burst and then returns to the state R430 gives; the lane has been heard (R432). -/
def Dev.burstReceive (d : Dev) (l : Nat) : Dev :=
  let x := d.lane l
  if x.step < 3 then d else (d.setLane l { x with heardAt := d.refNs, missed := false }).calBurst l false

/-- CAL_BURST_RECEIVE (R432). -/
def execCalBurstReceive (dt : Nat) (l : Fin 40) (s : State) : Host.Outcome State Fault Refusal :=
  .next (s.after dt (fun d => d.burstReceive l))

/-! ### The copy of a takeover (R511) -/

/-- Pipelines that a write to pipeline n's registers or tables reaches: a takeover's spare takes what its target takes (R511). -/
def Dev.pipeTwins (d : Dev) (n : Nat) : List Nat :=
  match d.spare.take with
  | some t => if t.target = n && t.copied && t.serves.isNone then [n, t.spare] else [n]
  | none => [n]

/-- The registers of a pipeline that a takeover copies, by offset in its window: the CRC-covered ones but for ROLE, and COEF_CTRL, which says how
the banks stand. -/
def copiedRegs (n : Fin 17) : List Nat :=
  let b := (RUnit.pipe n).base
  ((coveredOf (.pipe n)).map (fun p => p.1 - b)).filter (fun o => o ≠ a_PIPE_ROLE n - b) ++ [a_PIPE_COEF_CTRL n - b]

/-- TAKEOVER_COPY_DONE: the target's registers and both of its coefficient banks are in the spare (R511). -/
def Dev.takeoverCopy (d : Dev) : Dev :=
  match d.spare.take with
  | none => d
  | some t =>
    if t.copied then d
    else
      let a (n o : Nat) : Nat := a_PIPE_ROLE n + o
      let offs := copiedRegs 0
      let put (src : RegStore) (at_ : Nat → W64) : RegStore := offs.foldl (fun m o => m.put (a t.spare o) (at_ (a t.target o))) src
      let d := d.ownChange (fun d => { d with
        regs := put d.regs d.rd
        force := put d.force d.inForce
        snap := if d.snap.isEmpty then d.snap else put d.snap (fun x => (d.snap.find x).getD (d.dflt x)) })
      let d := [1, 2, 3].foldl (fun (d : Dev) k =>
        let d := { d with tab := d.tab.filter (fun c => !tabOf k t.spare c.1) }
        (d.tab.filter (fun c => tabOf k t.target c.1)).foldl (fun d c =>
          let o := c.1 - tabAddr k t.target 0 0
          { d with tab := d.tab.write tabDefault (tabAddr k t.spare 0 0 + o) c.2 }) d) d
      { d with spare := { d.spare with take := some { t with copied := true } } }

/-- TAKEOVER_COPY_DONE (R511). -/
def execTakeoverCopyDone (dt : Nat) (s : State) : Host.Outcome State Fault Refusal := .next (s.after dt (fun d => d.takeoverCopy))

end Sys2Proof.Machine
end

