-- ==== Sys2Proof/Machine/Wpu.lean ====
section
/-! DEFINITION. Commands of the web position unit (R75 to R106): counting, speed, standstill, index, slip, extrapolation, markers, strobes, and the
commit of its settings. -/

namespace Sys2Proof.Machine

/-! ### Channels -/

/-- Encoder channel n besides its registers. -/
def Dev.enc (d : Dev) (n : Nat) : EncSt := lget d.wpu.enc n .reset

/-- Store encoder channel n. -/
def Dev.setEnc (d : Dev) (n : Nat) (e : EncSt) : Dev := { d with wpu := { d.wpu with enc := lset d.wpu.enc n e } }

/-- STANDSTILL_TIMEOUT_US in force, in ns. -/
def Dev.standNs (d : Dev) : Nat := max 1 (d.inF a_WPU_CTRL f_WPU_CTRL_STANDSTILL_TIMEOUT_US) * 1000

/-- Count an ENC_STAT field and raise its event. -/
def Dev.encFault (d : Dev) (n : Nat) (f : Fld) (evt : Nat) : Dev := (d.inc (a_WPU_ENC_STAT n) f).raiseEvt evt

/-- Speed becomes invalid as at standstill (R80, R85, R89): the run of edges is forgotten. -/
def Dev.speedLost (d : Dev) : Dev :=
  let d := { d with wpu := { d.wpu with edges := [], edgeBack := none, slip := none } }
  ((d.wr a_WPU_SPEED 0).wrB a_WPU_MOTION f_WPU_MOTION_SPEED_VALID false).wrB a_WPU_MOTION f_WPU_MOTION_STANDSTILL true

/-- The run of edges takes an edge at position nm and elapsed instant at_; `turned` says that the trigger position reversed on it (R88, R90). -/
def Dev.edgeSpeed (d : Dev) (nm : Int) (at_ : Int) (back turned : Bool) : Dev :=
  let w := d.wpu
  if w.edgeBack ≠ some back || turned then
    let d := { d with wpu := { w with edges := [(nm, at_)], edgeBack := some back } }
    (d.wr a_WPU_SPEED 0).wrB a_WPU_MOTION f_WPU_MOTION_SPEED_VALID false
  else
    let gate : Int := max 1 (d.inF a_WPU_CTRL f_WPU_CTRL_SPEED_GATE_US) * 1000
    let near := w.edges.takeWhile (fun e => decide (at_ - e.2 ≤ gate))
    let keep := if near.isEmpty then w.edges.take 1 else near
    let d := { d with wpu := { w with edges := (nm, at_) :: keep } }
    match keep.getLast? with
    | none => d
    | some f =>
      let v := rdiv ((nm - f.1) * 2 ^ 32) (max 1 (at_ - f.2))
      ((d.wr a_WPU_SPEED (BitVec.ofInt 64 v)).wrB a_WPU_MOTION f_WPU_MOTION_SPEED_VALID true).wrB a_WPU_MOTION f_WPU_MOTION_STANDSTILL false

/-- The trigger position and direction follow the raw word p (R91): the new t, d, and whether d changed. -/
def follow (t p : Int) (rev : Bool) : Int × Bool × Bool :=
  if !rev then
    if t < p then (p, false, false) else if p < t - 4096 then (p, true, true) else (t, false, false)
  else if p < t then (p, true, false) else if t + 4096 < p then (p, false, true) else (t, true, false)

/-- The slip window takes an edge (R106). -/
def Dev.slipEdge (d : Dev) : Dev :=
  if !d.inB a_WPU_CTRL f_WPU_CTRL_SLIP_EN then d
  else
    let k := d.inF a_WPU_CTRL f_WPU_CTRL_SLIP_CH
    let m := toNm (d.rawOf d.master) (d.scaleOf d.master)
    let s := toNm (d.rawOf k) (d.scaleOf k)
    let d := (d.noteSat (d.rawOf d.master) (d.scaleOf d.master)).noteSat (d.rawOf k) (d.scaleOf k)
    match d.wpu.slip with
    | none => { d with wpu := { d.wpu with slip := some (m, s) } }
    | some (m0, s0) =>
      let dm := m - m0
      let win : Nat := d.inF a_WPU_SLIP_CFG f_WPU_SLIP_CFG_SLIP_WIN_KNM * 1000
      if dm = 0 || dm.natAbs < win then d
      else
        let ppm := clampI (Int.tdiv (rhe (((dm - (s - s0)) * 1000000) * 2 ^ 16) 16) dm) (-(2 ^ 31)) (2 ^ 31 - 1)
        let d := { d with wpu := { d.wpu with slip := some (m, s) } }
        let d := d.wrF a_WPU_SLIP_STAT f_WPU_SLIP_STAT_SLIP_PPM (uwrap ppm 32)
        if d.inF a_WPU_SLIP_CFG f_WPU_SLIP_CFG_SLIP_LIMIT_PPM < ppm.natAbs then
          (d.inc a_WPU_SLIP_STAT f_WPU_SLIP_STAT_SLIP_CNT).raiseEvt 110
        else d

/-- An edge of the master: an applied change of its word at elapsed instant at_, back or forward (R88 to R91, R101, R106). -/
def Dev.masterEdge (d : Dev) (at_ : Int) (back : Bool) : Dev :=
  let p := d.rawOf d.master
  let (t, rev, turned) := follow d.wpu.t p d.wpu.rev
  let d := { d with wpu := { d.wpu with t := t, rev := rev, edgeAt := d.el, still := false, dirChange := d.wpu.dirChange || turned, extrap := false } }
  let d := d.noteSat p (d.scaleOf d.master)
  let d := d.edgeSpeed (toNm p (d.scaleOf d.master)) at_ back turned
  let d := if turned then ({ d with wpu := { d.wpu with slip := none } } : Dev).raiseEvt 74 else d.slipEdge
  d.evaluate

/-! ### Index (R77, R78) -/

/-- The index of channel n takes the word in force; its spacing is compared with the count of the index before, where there is one. `told` says that
IDX_DRIFT has been raised for it. -/
def Dev.indexTake (d : Dev) (n : Nat) (last : Option Int) (told : Bool) : Dev :=
  let d := d.wr (a_WPU_IDX_POS n) (d.rd (a_WPU_ENC_POS n))
  let count := fshr (d.rawOf n) 12
  let d := d.setEnc n { d.enc n with index := some count }
  match last with
  | none => d
  | some c =>
    let cfg := a_WPU_IDX_CFG n
    let err : Int := ((count - c).natAbs : Int) - d.inF cfg f_WPU_IDX_CFG_PERIOD
    let d := d.wrF (a_WPU_IDX_ERR n) f_WPU_IDX_ERR_ERR (uwrap err 32)
    if d.inF cfg f_WPU_IDX_CFG_TOL < err.natAbs then
      let d := d.inc (a_WPU_IDX_ERR n) f_WPU_IDX_ERR_DRIFT_CNT
      if told then d else d.raiseEvt (69 + n)
    else d

/-- A count step in the cycle in which channel n's index has latched: the index takes the word after the step (R77). -/
def Dev.indexAgain (d : Dev) (n : Nat) (fresh : Bool) : Dev :=
  match d.cycle.idx.find? (fun x => x.1 = n) with
  | none => d
  | some (_, last, err) =>
    let told := decide (fget err f_WPU_IDX_ERR_DRIFT_CNT ≠ d.rdF (a_WPU_IDX_ERR n) f_WPU_IDX_ERR_DRIFT_CNT)
    (d.wr (a_WPU_IDX_ERR n) err).indexTake n (if fresh then none else last) told

/-- The raw word of channel n changes by delta, which was true at elapsed instant at_ (R78, R83). -/
def Dev.encMove (d : Dev) (n : Nat) (delta : Int) (at_ : Int) : Dev :=
  if delta = 0 then d
  else
    let p := d.rawOf n
    let q : Int := (BitVec.ofInt 64 (p + delta)).toInt
    let steps := fshr q 12 - fshr p 12
    let e := d.enc n
    let still := d.el ≥ e.movedAt + d.standNs
    let turned := steps ≠ 0 && e.back = some (decide (0 < steps))
    let e := { e with
      back := if steps = 0 then e.back else some (decide (steps < 0)), movedAt := d.el, index := if still || turned then none else e.index }
    let d := ((d.setEnc n e).wr (a_WPU_ENC_POS n) (BitVec.ofInt 64 q)).indexAgain n (still || turned)
    if n = d.master then d.masterEdge at_ (decide (delta < 0)) else d

/-- A change in the sense of DIR_INV (R83). -/
def Dev.encStep (d : Dev) (n : Nat) (delta : Int) (at_ : Int) : Dev :=
  d.encMove n (if d.inB (a_WPU_ENC_CFG n) f_WPU_ENC_CFG_DIR_INV then -delta else delta) at_

/-! ### Quadrature and index (R76 to R78) -/

/-- The glitch filter of channel n accepts a level that has been stable for that many cycles (R76). -/
def Dev.accepts (d : Dev) (n stable : Nat) : Bool := d.inF (a_WPU_ENC_CFG n) f_WPU_ENC_CFG_FILT + 1 ≤ stable

/-- Levels at the balls of channel n: A or U bit 2, B or V bit 1, I or W bit 0. Under reset they are the accepted levels, as at its release. -/
def Dev.atBalls (d : Dev) (n levels : Nat) : Dev :=
  let e := { d.enc n with ball := levels }
  d.setEnc n (if d.isHeld .wpu then e.fromBalls else e)

/-- The levels of A and B are accepted (R76). -/
def Dev.quadState (d : Dev) (n : Nat) (a b : Bool) : Dev :=
  let e := d.enc n
  let d := d.setEnc n { e with a := a, b := b }
  if d.encType n ≠ 1 then d
  else if e.a ≠ a && e.b ≠ b then d.encFault n f_WPU_ENC_STAT_QUAD_ERR_CNT 111
  else if e.a = a && e.b = b then d
  else
    let lead := if e.a ≠ a then a ≠ b else a = b
    d.encStep n (if lead == Config.quadForward then 4096 else -4096) d.el

/-- QUAD_STATE_CHANGE: A and B stand at these levels; the filter of each accepts its level once it has been stable for FILT + 1 cycles (R76). -/
def execQuadStateChange (dt : Nat) (n : Fin 4) (a b : Held Bool) (s : State) : Host.Outcome State Fault Refusal :=
  .next (s.after dt (fun d =>
    let d := d.atBalls n (bitN a.level 2 + bitN b.level 1 + (d.enc n).ball % 2)
    let seen (x : Held Bool) (old : Bool) : Bool := if d.accepts n x.stable then x.level else old
    if d.isHeld .wpu then d else d.quadState n (seen a (d.enc n).a) (seen b (d.enc n).b)))

/-- An accepted rising edge of ENCn_I: the word and the time are latched, INDEX raised, and the spacing compared with the previous index (R77, R78). -/
def Dev.indexEdge (d : Dev) (n : Nat) : Dev :=
  let e := d.enc n
  let d := d.setEnc n { e with i := true }
  if !(d.encType n = 1 || d.encType n = 2) || !d.inB (a_WPU_ENC_CFG n) f_WPU_ENC_CFG_IDX_EN then d
  else
    let last := if d.el ≥ e.movedAt + d.standNs then none else e.index
    let d := { d with cycle := { d.cycle with idx := (n, last, d.rd (a_WPU_IDX_ERR n)) :: d.cycle.idx } }
    ((d.wr (a_WPU_IDX_TIME n) d.now).raiseEvt (65 + n)).indexTake n last false

/-- INDEX_EDGE: ENCn_I rose, and has been high for so many cycles; the filter accepts it once they are FILT + 1 (R76, R77). -/
def execIndexEdge (dt : Nat) (n : Seen 4 Nat) (s : State) : Host.Outcome State Fault Refusal :=
  .next (s.after dt (fun d =>
    let d := d.atBalls n.at_ ((d.enc n.at_).ball / 2 * 2 + 1)
    if d.isHeld .wpu || !d.accepts n.at_ n.what then d else d.indexEdge n.at_))

/-! ### Hall inputs (R82) -/

/-- Place of a valid state U V W in the forward sequence. -/
def hallPlace (s : Nat) : Nat := if s = 1 then 0 else if s = 3 then 1 else if s = 2 then 2 else if s = 6 then 3 else if s = 4 then 4 else 5

/-- The levels of U, V and W are accepted (R82). -/
def Dev.hallState (d : Dev) (n uvw : Nat) : Dev :=
  let e := { d.enc n with a := uvw.testBit 2, b := uvw.testBit 1, i := uvw.testBit 0 }
  if d.encType n ≠ 4 then d.setEnc n e
  else if uvw = 0 || uvw = 7 then (d.setEnc n e).encFault n f_WPU_ENC_STAT_INVALID_CNT 112
  else
    let d := d.setEnc n { e with hall := some uvw }
    match e.hall with
    | none => d
    | some old =>
      match (hallPlace uvw + 6 - hallPlace old) % 6 with
      | 0 => d
      | 1 => d.encStep n 4096 d.el
      | 5 => d.encStep n (-4096) d.el
      | _ => d.encFault n f_WPU_ENC_STAT_SKIP_CNT 113

/-- HALL_STATE_CHANGE: U, V and W stand at these levels; the filter accepts the state once it has been stable for FILT + 1 cycles (R76, R82). -/
def execHallStateChange (dt : Nat) (n : Fin 4) (uvw : Held (Fin 8)) (s : State) : Host.Outcome State Fault Refusal :=
  .next (s.after dt (fun d =>
    let d := d.atBalls n uvw.level
    if d.isHeld .wpu || !d.accepts n uvw.stable then d else d.hallState n uvw.level))

/-- A sample of the master channel: the position that the trigger position is extrapolated from (R87, R92). -/
def Dev.masterSample (d : Dev) (n : Nat) (at_ : Int) (period : Nat) : Dev :=
  if n ≠ d.master then d
  else
    ({ d with wpu := { d.wpu with sample := some (toNm (d.rawOf n) (d.scaleOf n), at_, period), extrap := false } } : Dev).noteSat (d.rawOf n)
      (d.scaleOf n)

/-! ### SSI (R81) -/

/-- Gray code to binary over w bits. -/
def grayDecode : Nat → Nat → Nat
  | 0, _ => 0
  | w + 1, g =>
    let hi := grayDecode w (g / 2)
    2 * hi + ((g % 2) + hi % 2) % 2

/-- The value of bits, most significant first. -/
def msbFirst (bs : List Bool) : Nat := bs.foldl (fun v b => 2 * v + (if b then 1 else 0)) 0

/-- Elapsed instant at which the SSI frame that ends now began: BITS + P periods of SSI_CK ago (R81). -/
def Dev.ssiStart (d : Dev) : Int :=
  let par := d.inF a_WPU_SSI_CFG f_WPU_SSI_CFG_PARITY
  let bitsSent := d.inF a_WPU_SSI_CFG f_WPU_SSI_CFG_BITS + (if par = 1 ∨ par = 2 then 1 else 0)
  (d.el : Int) - (bitsSent * 1000000 / max 1 (d.inF a_WPU_SSI_CFG f_WPU_SSI_CFG_CLK_KHZ) : Nat)

/-- A frame of channel n may end now: PERIOD_US lies between the start of the frame before and its own (R81). -/
def Dev.ssiDue (d : Dev) (n : Nat) : Bool :=
  match (d.enc n).frameAt with
  | some t => t + d.inF a_WPU_SSI_CFG f_WPU_SSI_CFG_PERIOD_US * 1000 ≤ d.ssiStart
  | none => true

/-- SSI_FRAME: a frame ends whose clock SSI_CK has given; `bits` is the level of SSI_D as it started, then the data bits, then the parity bit where
there is one. BITS is taken as written (log entry 123). -/
def Dev.ssiFrame (d : Dev) (n : Nat) (bits : List Bool) : Dev :=
  if d.encType n ≠ 3 || !d.ssiDue n then d
  else
    let g := a_WPU_SSI_CFG
    let w := d.inF g f_WPU_SSI_CFG_BITS
    let par := d.inF g f_WPU_SSI_CFG_PARITY
    let data := (List.range w).map (fun k => lget bits (1 + k) false)
    let ones := (data.filter id).length + (if lget bits (1 + w) false then 1 else 0)
    let parityOk := if par = 1 then ones % 2 = 0 else if par = 2 then ones % 2 = 1 else true
    let raw := msbFirst data
    let v := if d.inB g f_WPU_SSI_CFG_GRAY then grayDecode w raw else raw
    let at_ := d.ssiStart
    let e := { d.enc n with frameAt := some at_ }
    let d := (d.setEnc n e).emit (.ssiClock at_ (w + (if par = 1 ∨ par = 2 then 1 else 0)) (d.inF g f_WPU_SSI_CFG_CLK_KHZ))
    let period := d.inF g f_WPU_SSI_CFG_PERIOD_US * 1000
    let delta : Int := match e.ssi with | some o => sext ((v + 2 ^ w - o) % 2 ^ w) (max 1 w) | none => 0
    if !lget bits 0 false || !parityOk || d.inF g f_WPU_SSI_CFG_MAX_DELTA < delta.natAbs then d.encFault n f_WPU_ENC_STAT_FAULT_CNT 116
    else
      let d := d.setEnc n { e with ssi := some v }
      let d := match e.ssi with
        | none => d.encMove n ((v : Int) * 4096 - d.rawOf n) at_
        | some _ => d.encStep n (delta * 4096) at_
      d.masterSample n at_ period

/-- SSI_FRAME. -/
def execSsiFrame (dt : Nat) (n : Fin 4) (bits : List Bool) (s : State) : Host.Outcome State Fault Refusal :=
  .next (s.after dt (fun d => if d.isHeld .wpu then d else d.ssiFrame n bits))

/-! ### Sine and cosine (R79, R80, R120) -/

/-- A sine and a cosine sample of one instant are applied to channel n, or discarded (R79, R80). The first one after the channel's TYPE was set gives
the fraction, and no passage is counted. -/
def Dev.scApply (d : Dev) (n : Nat) (sn cs : Sample) (gd period : Nat) : Dev :=
  let lost (d : Dev) : Dev := if n = d.master then ({ d with wpu := { d.wpu with sample := none, extrap := false } } : Dev).speedLost else d
  if sn.coarse || cs.coarse || sn.stuck || cs.stuck then lost d
  else
    let m := Config.cordicMagnitude sn.value cs.value
    let c := a_WPU_ENC_CFG n
    if m < d.inF c f_WPU_ENC_CFG_AMP_MIN * 2 ^ 15 || d.inF c f_WPU_ENC_CFG_AMP_MAX * 2 ^ 15 < m then
      lost (d.encFault n f_WPU_ENC_STAT_FAULT_CNT 114)
    else
      let a := (Config.cordicAngle sn.value cs.value).toNat
      let e := d.enc n
      let x := (a + 4096 - e.angle.getD 0) % 4096
      let delta : Int := if e.angle.isNone then a else if x = 2048 then (if Config.halfTurn then 2048 else -2048) else sext x 12
      let d := if e.angle.isSome && 1024 < delta.natAbs then d.encFault n f_WPU_ENC_STAT_SKIP_CNT 115 else d
      let at_ : Int := (d.el : Int) - gd
      let d := (d.setEnc n { e with angle := some a }).encStep n delta at_
      d.masterSample n at_ period

/-- Filter f has delivered: where its pair's samples share an instant, the channels bound to the pair take them. -/
def Dev.scPair (d : Dev) (f : Nat) : Dev :=
  if (d.fltIn f).use ≠ 1 || d.isHeld .wpu then d
  else
    let k := f / 2
    match (d.filter (2 * k)).out, (d.filter (2 * k + 1)).out with
    | some a, some b =>
      if a.time ≠ b.time || a.epoch ≠ b.epoch then d
      else
        let g := d.fltIn f
        iter 4 (fun n d => if d.encType n = 2 && d.inF (a_WPU_ENC_CFG n) f_WPU_ENC_CFG_SC_PAIR = k then d.scApply n a b g.gd (g.m * g.dec * g.ckdiv) else d) d
    | _, _ => d

/-- TPOS_EXTRAPOLATE: between samples t advances in direction d, at most one sample period past the last (R87, R92). -/
def Dev.extrapolate (d : Dev) : Dev :=
  match d.wpu.sample with
  | none => d
  | some (nm, at_, period) =>
    let s := d.scaleOf d.master
    if !(d.encType d.master = 2 || d.encType d.master = 3) || s = 0 || !d.rdB a_WPU_MOTION f_WPU_MOTION_SPEED_VALID then d
    else
      let now : Int := min (d.el : Int) (at_ + period)
      let x := extrapNm now nm at_ (d.rd a_WPU_SPEED).toInt true
      let t := rdiv (x * 2 ^ 44) s
      if (if d.wpu.rev then decide (t < d.wpu.t) else decide (d.wpu.t < t)) then
        ({ d with wpu := { d.wpu with t := t, extrap := true } } : Dev).evaluate
      else d

/-- TPOS_EXTRAPOLATE (R92). -/
def execTposExtrapolate (dt : Nat) (s : State) : Host.Outcome State Fault Refusal :=
  .next (s.after dt (fun d => if d.isHeld .wpu then d else d.extrapolate))

/-- STANDSTILL: no edge has arrived for the timeout (R89). -/
def execStandstill (dt : Nat) (s : State) : Host.Outcome State Fault Refusal :=
  .next (s.after dt (fun d =>
    if d.isHeld .wpu || d.wpu.still || decide (d.el < d.wpu.edgeAt + d.standNs) then d
    else ({ d with wpu := { d.wpu with still := true } } : Dev).speedLost.raiseEvt 73))

/-! ### Marker and strobe pulses (R98, R99, R101, R104, R454) -/

/-- MARKER_PULSE_START: the oldest pulse due on pin n begins, or joins the one in progress; where markers hold their safe levels, it is no pulse
(R48, R58, R65). -/
def Dev.markerStart (d : Dev) (n : Nat) : Dev :=
  match d.wpu.marks.find? (fun p => p.pin = n && p.start ≤ d.el) with
  | none => d
  | some p =>
    let w := { d.wpu with marks := d.wpu.marks.erase p }
    let end_ := p.start + p.width
    if !d.mkoDriven then { d with wpu := w }
    else
    match lget w.mko n none with
    | some e => ({ d with wpu := { w with mko := lset w.mko n (some (max e end_)) } } : Dev).inc (a_WPU_CMP_STAT p.unit) f_WPU_CMP_STAT_MERGE_CNT
    | none =>
      let d := { d with wpu := { w with mko := lset w.mko n (some end_) } }
      if d.drives p.fired then d.emit (.pin (.mko n) (d.drive (d.mkoSafe n) true)) else d

/-- MARKER_PULSE_START (R101). -/
def execMarkerPulseStart (dt : Nat) (n : Fin 16) (s : State) : Host.Outcome State Fault Refusal :=
  .next (s.after dt (fun d => d.markerStart n))

/-- MARKER_PULSE_END (R101). -/
def execMarkerPulseEnd (dt : Nat) (n : Fin 16) (s : State) : Host.Outcome State Fault Refusal :=
  .next (s.after dt (fun d =>
    match lget d.wpu.mko n none with
    | some e =>
      if e ≤ d.el then
        ({ d with wpu := { d.wpu with mko := lset d.wpu.mko n none } } : Dev).emit (.pin (.mko n) (d.restLevel true (d.mkoSafe n)))
      else d
    | none => d))

/-- Strobe s. -/
def Dev.strobe (d : Dev) (s : Nat) : StrobeSt := lget d.wpu.strobes s ⟨[], none, []⟩

/-- Store strobe s. -/
def Dev.setStrobe (d : Dev) (s : Nat) (x : StrobeSt) : Dev := { d with wpu := { d.wpu with strobes := lset d.wpu.strobes s x } }

/-- Active nanoseconds of pulses within the 100 µs before `now`. -/
def activeIn (now : Nat) (ps : List (Nat × Nat)) : Nat :=
  (ps.map (fun p => min p.2 now - max p.1 (now - 100000))).foldl (· + ·) 0

/-- Active time a strobe may have in 100 µs: DUTY_PPT × 100 ns. -/
def Dev.dutyNs (d : Dev) (s : Nat) : Nat := d.dflt (a_WPU_STB_LIM s) |> fun v => fget v f_WPU_STB_LIM_DUTY_PPT * 100

/-- STROBE_PULSE_START: the oldest pulse due begins, joins the one in progress, or is suppressed by the duty limiter; where the pins hold their safe
levels, it is no pulse (R58, R65). -/
def Dev.strobeBegin (d : Dev) (s : Nat) : Dev :=
  let x := d.strobe s
  match x.sched.find? (fun p => p.start ≤ d.el) with
  | none => d
  | some p =>
    let x := { x with sched := x.sched.erase p, past := x.past.filter (fun q => d.el < q.2 + 100000) }
    let end_ := p.start + p.width
    if d.pinsHeld then d.setStrobe s x
    else
    match x.active with
    | some (b, e) => (d.setStrobe s { x with active := some (b, max e end_) }).inc (a_WPU_STB_STAT s) f_WPU_STB_STAT_MERGE_CNT
    | none =>
      if d.dutyNs s ≤ activeIn d.el x.past then (d.setStrobe s x).inc (a_WPU_STB_STAT s) f_WPU_STB_STAT_LIMIT_CNT
      else
        let d := d.setStrobe s { x with active := some (d.el, end_) }
        if d.drives p.fired then d.emit (.pin (.stb s) (d.drive (d.stbSafe s) true)) else d

/-- STROBE_PULSE_START (R98). -/
def execStrobePulseStart (dt : Nat) (n : Fin 8) (s : State) : Host.Outcome State Fault Refusal :=
  .next (s.after dt (fun d => d.strobeBegin n))

/-- STROBE_PULSE_END: its end has come, its length WMAX_NS, or the active time in 100 µs the limit (R99). -/
def Dev.strobeEnd (d : Dev) (s : Nat) : Dev :=
  let x := d.strobe s
  match x.active with
  | none => d
  | some (b, e) =>
    let limited := fget (d.dflt (a_WPU_STB_LIM s)) f_WPU_STB_LIM_WMAX_NS ≤ d.el - b || d.dutyNs s ≤ activeIn d.el ((b, d.el) :: x.past)
    if e ≤ d.el || limited then
      let d := d.setStrobe s { x with active := none, past := (b, d.el) :: x.past.filter (fun q => d.el < q.2 + 100000) }
      let d := if d.el < e then d.inc (a_WPU_STB_STAT s) f_WPU_STB_STAT_LIMIT_CNT else d
      d.emit (.pin (.stb s) (d.restLevel true (d.stbSafe s)))
    else d

/-- STROBE_PULSE_END (R99). -/
def execStrobePulseEnd (dt : Nat) (n : Fin 8) (s : State) : Host.Outcome State Fault Refusal :=
  .next (s.after dt (fun d => d.strobeEnd n))

/-! ### Commit and requests (R85, R86, R105) -/

/-- COMMIT.ERR of the settings as written; the lowest code that applies, 0 where they are accepted. -/
def Dev.wpuErr (d : Dev) : Nat :=
  let ch := List.range 4
  let typ (n : Nat) : Nat := d.rdF (a_WPU_ENC_CFG n) f_WPU_ENC_CFG_TYPE
  let pair (n : Nat) : Nat := d.rdF (a_WPU_ENC_CFG n) f_WPU_ENC_CFG_SC_PAIR
  let g := a_WPU_SSI_CFG
  let khz := d.rdF g f_WPU_SSI_CFG_CLK_KHZ
  let par := d.rdF g f_WPU_SSI_CFG_PARITY
  let bits := d.rdF g f_WPU_SSI_CFG_BITS + (if par = 1 ∨ par = 2 then 1 else 0)
  let m := d.rdF a_WPU_CTRL f_WPU_CTRL_MASTER
  let k := d.rdF a_WPU_CTRL f_WPU_CTRL_SLIP_CH
  let scOk (n : Nat) : Bool :=
    (d.fltIn (2 * pair n)).use = 1 && (d.fltIn (2 * pair n + 1)).use = 1 && ch.all (fun j => j = n || typ j ≠ 2 || pair j ≠ pair n)
  if d.acquiring then 1
  else if ch.any (fun n => 4 < typ n) then 2
  else if 1 < (ch.filter (fun n => typ n = 3)).length then 3
  else if ch.any (fun n => typ n = 3) &&
      decide (d.rdF g f_WPU_SSI_CFG_PERIOD_US * 1000 * khz < bits * 1000000 + d.rdF g f_WPU_SSI_CFG_MONO_US * 1000 * khz ∨ khz = 0) then 4
  else if ch.any (fun n => typ n = 2 && !scOk n) then 5
  else if typ m = 0 then 6
  else if d.rdB a_WPU_CTRL f_WPU_CTRL_SLIP_EN && (k = m || typ k = 0) then 7
  else 0

/-- COMMIT.GO (R85): the settings come into force in one step, or the reason is shown. -/
def Dev.wpuCommit (d : Dev) : Dev :=
  let e := d.wpuErr
  let d := d.wrF a_WPU_COMMIT f_WPU_COMMIT_ERR e
  if e ≠ 0 then d
  else
    let old := (List.range 4).map d.encType
    let d := d.commit .wpu
    let d := iter 4 (fun n d =>
      let x := d.enc n
      let x := { x with ssi := none, frameAt := none, index := none, back := none }
      if d.encType n = lget old n 0 then d.setEnc n x
      else
        (d.setEnc n { x.fromBalls with angle := none }).wr (a_WPU_ENC_POS n) 0) d
    let d := { d with wpu := { d.wpu with
      t := d.rawOf d.master, rev := false, sample := none, extrap := false, furthest := none, dirChange := d.wpu.dirChange || d.wpu.rev } }
    let d := d.speedLost.showTpos
    { d with wpu := { d.wpu with evalNm := d.tpos } }

/-- LATCH_REQ: slots whose source is software capture (R86). -/
def Dev.latchReq (d : Dev) (n : Nat) : Dev := d.latchFrom 0 (fun k => n.testBit k)

end Sys2Proof.Machine
end

