-- ==== Sys2Proof/Machine/Dsp.lean ====
section
/-! DEFINITION. Commands of the filter chain (R108 to R123): modulator bits up to an output, a coarse value, the end of settling, a stuck
input. -/

namespace Sys2Proof.Machine

/-- Bits of filter f up to an event; a sample it delivers goes to its consumer. -/
def Dev.filterCommand (d : Dev) (f : Nat) (bits : List Bool) (due : BitEvents → Bool) : Dev :=
  let was := (d.filter f).out
  let d := d.filterBits f bits due
  if (d.filter f).out = was then d else d.scPair f

/-- FILTER_OUTPUT (R111, R116, R119). -/
def execFilterOutput (dt : Nat) (f8 : Fin 8) (bits : List Bool) (s : State) : Host.Outcome State Fault Refusal :=
  .next (s.after dt (fun d => d.filterCommand f8 bits (fun e => e.sample.isSome)))

/-- COARSE_VALUE (R115, R117). -/
def execCoarseValue (dt : Nat) (f8 : Fin 8) (bits : List Bool) (s : State) : Host.Outcome State Fault Refusal :=
  .next (s.after dt (fun d => d.filterCommand f8 bits (fun e => e.coarse)))

/-- SETTLE_END (R116). -/
def execSettleEnd (dt : Nat) (f8 : Fin 8) (bits : List Bool) (s : State) : Host.Outcome State Fault Refusal :=
  .next (s.after dt (fun d => d.filterCommand f8 bits (fun e => e.settled)))

/-- DSM_STUCK (R118). -/
def execDsmStuck (dt : Nat) (f8 : Fin 8) (bits : List Bool) (s : State) : Host.Outcome State Fault Refusal :=
  .next (s.after dt (fun d => d.filterCommand f8 bits (fun e => e.stuck)))

end Sys2Proof.Machine
end

