-- ==== Sys2Proof/Machine/Events.lean ====
section
/-! DEFINITION. The event router (R376 to R390): channels fire, their events reach consumers and the log, the rate limit and the storm guard,
event pins, software firing, the commit of the routing. -/

namespace Sys2Proof.Machine

/-! ### Event pins (R384) -/

/-- Event pin n besides its registers. -/
def Dev.evioSt (d : Dev) (n : Nat) : EvioSt := lget d.evt.evio n ⟨false, false, none⟩

/-- Store event pin n. -/
def Dev.setEvio (d : Dev) (n : Nat) (x : EvioSt) : Dev := { d with evt := { d.evt with evio := lset d.evt.evio n x } }

/-- The device drives output EVIOn: always, or where it is joined only as the holder of the outputs (R447, R454). -/
def Dev.evioDrives (d : Dev) (n : Nat) : Bool := !d.evioJoined n || d.drives d.el

/-- Output EVIOn takes a level: active, or safe (R384, R478). -/
def Dev.evioSet (d : Dev) (n : Nat) (active : Bool) (until_ : Option Nat) : Dev :=
  let d := d.setEvio n { d.evioSt n with active := active, until_ := until_ }
  if !active then d.emit (.pin (.evio n) (d.restLevel (d.evioJoined n) (d.evioSafe n)))
  else if d.evioDrives n then d.emit (.pin (.evio n) (d.drive (d.evioSafe n) true)) else d

/-- An event acts on output EVIOn by MODE (R384). -/
def Dev.evioEvent (d : Dev) (n : Nat) : Dev :=
  let c := d.inForce (a_EVT_EVIO_CFG n)
  match fget c f_EVT_EVIO_CFG_MODE with
  | 0 => d.evioSet n true (some (d.el + max 1 (fget c f_EVT_EVIO_CFG_WIDTH_NS)))
  | 1 => d.evioSet n (!(d.evioSt n).active) none
  | 2 => d.evioSet n true none
  | _ => d.evioSet n false none

/-- EVIO_PULSE_END: the pulse's WIDTH_NS have passed and the pin returns to its safe level. -/
def Dev.evioPulseEnd (d : Dev) (n : Nat) : Dev :=
  match (d.evioSt n).until_ with
  | some e => if e ≤ d.el then d.evioSet n false none else d
  | none => d

/-- EVIO_PULSE_END (R384). -/
def execEvioPulseEnd (dt : Nat) (n : Fin 32) (s : State) : Host.Outcome State Fault Refusal :=
  .next (s.after dt (fun d => d.evioPulseEnd n))

/-- EVIO_EDGE: a level, after inversion, is accepted on an input pin; a change raises EVIO_RISE or EVIO_FALL. -/
def Dev.evioEdge (d : Dev) (n : Nat) (level : Bool) : Dev :=
  let x := d.evioSt n
  if d.isHeld .evt || d.evioOut n || x.level == level then d
  else (d.setEvio n { x with level := level }).raiseEvt (if level then n else 32 + n)

/-- EVIO_EDGE: the level is accepted once it has been stable for FILT + 1 cycles (R384). -/
def execEvioEdge (dt : Nat) (n : Fin 32) (level : Held Bool) (s : State) : Host.Outcome State Fault Refusal :=
  .next (s.after dt (fun d => if level.stable ≤ d.inF (a_EVT_EVIO_CFG n) f_EVT_EVIO_CFG_FILT then d else d.evioEdge n level.level))

/-! ### Consumers (R378, R379, R389, R390) -/

/-- Count an event a consumer ignores because its enable is clear, its block is in reset, or SAFE_HOLD is in force. -/
def Dev.conBlocked (d : Dev) (i : Nat) : Dev := d.inc (a_EVT_CON_STAT i) f_EVT_CON_STAT_BLOCKED_CNT

/-- Count an event that finds its consumer busy. -/
def Dev.conBusy (d : Dev) (i : Nat) : Dev := d.inc (a_EVT_CON_STAT i) f_EVT_CON_STAT_BUSY_CNT

/-- IRQ[i]: its bit is set and, with IRQ_CFG.EN, a message is sent. -/
def Dev.irqEvent (d : Dev) (i : Nat) : Dev :=
  let v := d.rdF a_EVT_IRQ_PEND f_EVT_IRQ_PEND_PEND
  if v.testBit i then d.conBusy (64 + i)
  else
    let d := d.flag a_EVT_IRQ_PEND f_EVT_IRQ_PEND_PEND (2 ^ i)
    if d.rdB a_EVT_IRQ_CFG f_EVT_IRQ_CFG_EN then d.msix (d.rdF a_EVT_IRQ_CFG f_EVT_IRQ_CFG_VECTOR) else d

/-- An event reaches consumer input i; `time` is its stamp's TIME. An input that R378 does not list has no consumer. -/
def Dev.consume (d : Dev) (i : Nat) (time : W64) : Dev :=
  if i < 32 then
    if !d.evioOut i || d.pinsHeld then d.conBlocked i
    else if d.inF (a_EVT_EVIO_CFG i) f_EVT_EVIO_CFG_MODE = 0 && (d.evioSt i).until_.isSome then d.conBusy i
    else d.evioEvent i
  else if i < 36 then (if d.isHeld .wpu then d else d.latchFrom 1 (fun k => decide (k = i - 32)))
  else if i < 44 then
    if d.pinsHeld then d.conBlocked i else if d.isHeld .wpu || !d.acquiring then d else d.strobeFrom (i - 36) 2
  else if i = 44 then
    if !d.reachable .seg || !d.inB a_SEG_REP_CFG f_SEG_REP_CFG_REG_SRC then d.conBlocked i
    else if d.seg.mark.isSome then d.conBusy i
    else { d with seg := { d.seg with mark := some time } }
  else if i = 45 then
    if !d.reachable .cls then d.conBlocked i
    else if d.cls.freeze.isSome || d.cls.frozen then d.conBusy i
    else d.loftFreeze
  else if i = 46 then
    if !d.reachable .cls || !d.rdB a_CLS_ROLL_CTRL f_CLS_ROLL_CTRL_EVT_EN then d.conBlocked i
    else if !d.cls.rollDue.isEmpty then d.conBusy i
    else { d with cls := { d.cls with rollDue := d.cls.rollDue ++ [⟨1, some time, 0, none⟩] } }
  else if 64 ≤ i ∧ i < 96 then d.irqEvent (i - 64)
  else d

/-- Consumer inputs with a selection in force, ascending. -/
def Dev.conInputs (d : Dev) : List Nat :=
  let inR (a : Nat) : Bool := a_EVT_CON_SEL 0 ≤ a && a < a_EVT_CON_SEL 512
  let l := ((d.force.map (·.1)) ++ (d.nv.map (·.1))).filter inR
  ((l.map (fun a => (a - a_EVT_CON_SEL 0) / 8)).dedup).mergeSort (fun x y => x ≤ y)

/-- A selection names channel c with its enable (R380). -/
def selects (v : W64) (c : Nat) : Bool :=
  (fbit v f_EVT_CON_SEL_ENA && fget v f_EVT_CON_SEL_CHA = c) || (fbit v f_EVT_CON_SEL_ENB && fget v f_EVT_CON_SEL_CHB = c)

/-- A channel's event goes to every input that selects it; an input both of whose channels fire in one cycle receives one event, and
COALESCED counts (R380). -/
def Dev.deliverEvt (d : Dev) (c cycle : Nat) (time : W64) : Dev :=
  d.conInputs.foldl (fun d i =>
    if !selects (d.inForce (a_EVT_CON_SEL i)) c then d
    else if d.evt.fired.contains (i, cycle) then d.inc (a_EVT_CON_STAT i) f_EVT_CON_STAT_COALESCED
    else ({ d with evt := { d.evt with fired := d.evt.fired ++ [(i, cycle)] } } : Dev).consume i time) d

/-! ### Rate limit and storm guard (R387) -/

/-- Rate limit and storm guard of channel c. -/
def Dev.rateOf (d : Dev) (c : Nat) : RateSt := alGet d.evt.rate c ⟨0, false, 0⟩

/-- Store the rate limit and storm guard of channel c. -/
def Dev.setRate (d : Dev) (c : Nat) (x : RateSt) : Dev := { d with evt := { d.evt with rate := alSet d.evt.rate c x } }

/-- The window of channel c ends: STORM_WIN windows in a row with a drop turn the channel off and report EVT_STORM. -/
def Dev.windowEnds (d : Dev) (c : Nat) (gap : Bool) : Dev :=
  let x := d.rateOf c
  let v := d.rd (a_EVT_CH_CTRL c)
  let run := if x.dropped then x.run + 1 else 0
  if x.dropped && fget v f_EVT_CH_CTRL_LIMIT ≠ 0 && max 1 (fget v f_EVT_CH_CTRL_STORM_WIN) ≤ run then
    let d := d.setRate c ⟨0, false, 0⟩
    ((d.wr (a_EVT_CH_CTRL c) (fset v f_EVT_CH_CTRL_EN 0)).flag (a_EVT_CH_CTRL c) f_EVT_CH_CTRL_STORM).reportErr 0x24 22 c
  else d.setRate c ⟨0, false, if gap then 0 else run⟩

/-- Windows of 100 µs of elapsed time that have ended (R387); a window without a firing ends a run. -/
def Dev.rateWindows (d : Dev) : Dev :=
  let k := (d.el - d.evt.winAt) / 100000
  if k = 0 then d
  else
    let d := { d with evt := { d.evt with winAt := d.evt.winAt + k * 100000 } }
    (d.evt.rate.map (·.1)).foldl (fun d c => d.windowEnds c (decide (2 ≤ k))) d

/-- EVT_RATE_WINDOW (R387). -/
def execEvtRateWindow (dt : Nat) (s : State) : Host.Outcome State Fault Refusal := .next (s.after dt (fun d => d.rateWindows))

/-- Channel c counts a firing; the second value says that LIMIT lets it pass. -/
def Dev.rateTake (d : Dev) (c : Nat) : Dev × Bool :=
  let lim := d.rdF (a_EVT_CH_CTRL c) f_EVT_CH_CTRL_LIMIT
  if lim = 0 then (d, true)
  else
    let x := d.rateOf c
    if x.count < lim then (d.setRate c { x with count := x.count + 1 }, true)
    else ((d.setRate c { x with dropped := true }).inc (a_EVT_CH_STAT c) f_EVT_CH_STAT_RATE_DROP, false)

/-! ### Firing (R380, R388) -/

/-- The 32 bytes of a log entry (R388). -/
def logEntry (st : Stamp) (epoch : BitVec 16) (c flags producer : Nat) : List Byte :=
  padTo (st.bytes ++ leBytes 2 epoch.toNat ++ leBytes 2 0x43 ++ [BitVec.ofNat 8 c, BitVec.ofNat 8 flags] ++ leBytes 2 producer) 32

/-- Producer points of channel c in force, by source. -/
def Dev.sourcesOf (d : Dev) (c : Nat) : List Nat :=
  let v := d.inForce (a_EVT_CH_SRC c)
  [fget v f_EVT_CH_SRC_SRC0, fget v f_EVT_CH_SRC_SRC1, fget v f_EVT_CH_SRC_SRC2, fget v f_EVT_CH_SRC_SRC3]

/-- CHANNEL_FIRE: the events that reached channel c in one cycle, the oldest there is, make one firing. -/
def Dev.channelFire (d : Dev) (c : Nat) : Dev :=
  match d.evt.due.find? (fun x => x.chan = c) with
  | none => d
  | some e =>
    let d := d.rateWindows
    let mine := d.evt.due.filter (fun x => x.chan = c && x.cycle = e.cycle)
    let left := d.evt.due.filter (fun x => !(x.chan = c && x.cycle = e.cycle))
    let points := mine.filterMap (·.src)
    let sw := mine.any (fun x => x.src.isNone)
    let n := ((d.sourcesOf c).filter (fun p => points.contains p)).length + (if sw then 1 else 0)
    let d := { d with evt := { d.evt with
      due := left, fired := d.evt.fired.filter (fun f => e.cycle ≤ f.2 || left.any (fun x => x.cycle = f.2)) } }
    let d := d.inc (a_EVT_CH_STAT c) f_EVT_CH_STAT_OR_CNT (n - 1)
    let (d, pass) := d.rateTake c
    if !pass then d
    else
      let d := d.inc (a_EVT_CH_STAT c) f_EVT_CH_STAT_FIRE_CNT
      let (st, d) := d.mkStamp 22 e.time
      let d := if d.inB (a_EVT_CH_SRC c) f_EVT_CH_SRC_LOG && d.rdB a_EVT_LOG_CFG f_EVT_LOG_CFG_EN then
          let producer := if points.isEmpty then 0xFFFF else points.foldl min 0xFFFF
          let body := logEntry st e.epoch c ((if sw then 1 else 0) + (if 1 < n then 2 else 0)) producer
          d.fly .evt ⟨st, e.epoch, .ring (RingItem.whole (d.rdF a_EVT_LOG_CFG f_EVT_LOG_CFG_RING) 7 body)⟩
        else d
      d.deliverEvt c e.cycle e.time

/-- CHANNEL_FIRE (R380). -/
def execChannelFire (dt : Nat) (c : Fin 256) (s : State) : Host.Outcome State Fault Refusal := .next (s.after dt (fun d => d.channelFire c))

/-- Every event that has reached a channel fires it. -/
def Dev.fireAll (d : Dev) : Dev := (d.evt.due.map (·.chan)).foldl (fun d c => d.channelFire c) d

/-! ### Software and control writes (R381, R382, R387) -/

/-- Write of EVT.SW_FIRE (R381). -/
def Dev.swFireWrite (d : Dev) (data : W64) (src : AccSrc) : Dev :=
  let c := fget data f_EVT_SW_FIRE_CHANNEL
  if src.isHost && (!d.inB (a_EVT_CH_SRC c) f_EVT_CH_SRC_SW_OK || d.rdB (a_EVT_CH_SRC c) f_EVT_CH_SRC_OWNER) then
    d.lockViolation a_EVT_SW_FIRE src
  else d.reach c none

/-- Write of EVT.CH_CTRL[c], data laid out as the register, bits wm written: a 1 in STORM clears it; EN = 1 with STORM still set is discarded and
logged (R387). -/
def Dev.chCtrlStore (d : Dev) (c : Nat) (wm data : W64) (src : AccSrc) : Dev :=
  let a := a_EVT_CH_CTRL c
  let old := d.rd a
  let new := blend wm data old
  let storm := fbit old f_EVT_CH_CTRL_STORM && !fbit (data &&& wm) f_EVT_CH_CTRL_STORM
  let refused := storm && fbit (data &&& wm) f_EVT_CH_CTRL_EN
  let v := fset (fset (fset old f_EVT_CH_CTRL_LIMIT (fget new f_EVT_CH_CTRL_LIMIT)) f_EVT_CH_CTRL_STORM_WIN (fget new f_EVT_CH_CTRL_STORM_WIN))
    f_EVT_CH_CTRL_STORM (if storm then 1 else 0)
  let d := d.wr a (fset v f_EVT_CH_CTRL_EN (if refused then fget old f_EVT_CH_CTRL_EN else fget new f_EVT_CH_CTRL_EN))
  if refused then d.lockViolation a src else d

/-! ### The commit (R385, R386) -/

/-- The consumer inputs that can cause a producer point, with the point (R378). -/
def evtCauses : List (Nat × Nat) := [(44, 168), (46, 180)]

/-- The written routing has an edge from channel a to channel b. -/
def Dev.evtEdge (d : Dev) (a b : Nat) : Bool :=
  let v := d.rd (a_EVT_CH_SRC b)
  let srcs := [fget v f_EVT_CH_SRC_SRC0, fget v f_EVT_CH_SRC_SRC1, fget v f_EVT_CH_SRC_SRC2, fget v f_EVT_CH_SRC_SRC3]
  evtCauses.any (fun p => selects (d.rd (a_EVT_CON_SEL p.1)) a && srcs.contains p.2)

/-- Channels with an edge to another: those that an input of evtCauses selects, ascending. -/
def Dev.evtNodes (d : Dev) : List Nat :=
  (List.range 256).filter (fun c => evtCauses.any (fun p => selects (d.rd (a_EVT_CON_SEL p.1)) c))

/-- The walk of k edges from c to v whose channels are smallest in order, without v at its end. -/
def loopWalk (adj : List (Nat × List Nat)) : Nat → Nat → Nat → Option (List Nat)
  | 0, c, v => if c = v then some [] else none
  | k + 1, c, v => (alGet adj c []).findSome? (fun n => (loopWalk adj k n v).map (fun l => c :: l))

/-- The loop that refuses a commit: the shortest through the lowest channel on any (R386). At most four channels have edges. -/
def Dev.evtLoop (d : Dev) : Option (List Nat) :=
  let nodes := d.evtNodes
  let adj := nodes.map (fun a => (a, nodes.filter (fun b => d.evtEdge a b)))
  nodes.findSome? (fun v => [1, 2, 3, 4].findSome? (fun k => loopWalk adj k v v))

/-- An event pin after the commit: a change of direction to input, or of INV of an input, takes the level sensed; one to output drives the safe
level (R384, R477). -/
def Dev.evioCommitted (d : Dev) (old : W64) (n : Nat) : Dev :=
  let new := d.inForce (a_EVT_EVIO_CFG n)
  let wasOut := fbit old f_EVT_EVIO_CFG_DIR
  let isOut := fbit new f_EVT_EVIO_CFG_DIR
  let inv (v : W64) : Bool := fbit v f_EVT_EVIO_CFG_INV
  let x := d.evioSt n
  if !wasOut && isOut then d.evioSet n false none
  else if wasOut && !isOut then
    (d.setEvio n ⟨Config.pinSensed n d.clk.cyc != inv new, false, none⟩).emit (.pin (.evio n) .released)
  else if !isOut && inv old != inv new then d.setEvio n { x with level := !x.level }
  else d

/-- EVT_COMMIT (R385, R386): the loop that refuses it, or none and the routing is in force. Events that reached the router before are routed
under the old routing. -/
def Dev.evtCommit (d : Dev) : Dev × Option (List Nat) :=
  match d.evtLoop with
  | some l => ((d.inc a_EVT_COMMIT_STAT f_EVT_COMMIT_STAT_LOOP_CNT).wrB a_EVT_COMMIT_STAT f_EVT_COMMIT_STAT_LAST_REFUSED true, some l)
  | none =>
    let d := d.fireAll
    let old := (List.range 32).map (fun n => d.inForce (a_EVT_EVIO_CFG n))
    let d := d.commit .evt
    let d := iter 32 (fun n d => d.evioCommitted (lget old n 0) n) d
    let gen := d.rdF a_EVT_COMMIT_STAT f_EVT_COMMIT_STAT_GEN
    ((d.wrF a_EVT_COMMIT_STAT f_EVT_COMMIT_STAT_GEN (gen + 1)).wrB a_EVT_COMMIT_STAT f_EVT_COMMIT_STAT_LAST_REFUSED false, none)

end Sys2Proof.Machine
end

