-- ==== Sys2Proof/Machine/Modes.lean ====
section
/-! DEFINITION. The ripcord, entry to a mode within 1 ms, DEV.SAFE_REQ, ballast windows and stalled junctions (R30, R48 to R74). -/

namespace Sys2Proof.Machine

/-! ### The ripcord (R62 to R65) -/

/-- An assertion of RIPCORD_N is accepted: SAFE_HOLD is entered with cause 1 and RIPCORD reported (R63). Before option loading has completed the
level alone is kept; R58 looks at it then. -/
def Dev.ripcordLow (d : Dev) : Dev :=
  if !d.mode.ripcord then d
  else
    let d := { d with mode := { d.mode with ripcord := false } }
    if d.mode.starting && !d.rdB a_CFG_OPT_STAT f_CFG_OPT_STAT_DONE then d else (d.enterSafe 1).reportErr 0x01 43 0

/-- RIPCORD_ASSERT (R63). -/
def execRipcordAssert (dt : Nat) (s : State) : Host.Outcome State Fault Refusal := .next (s.after dt (fun d => d.ripcordLow))

/-- RIPCORD_RELEASE (R62): a high level is accepted. SAFE_HOLD stays in force (R65). -/
def execRipcordRelease (dt : Nat) (s : State) : Host.Outcome State Fault Refusal :=
  .next (s.after dt (fun d => { d with mode := { d.mode with ripcord := true } }))

/-- Write of DEV.SAFE_REQ: a 1 in REQ enters SAFE_HOLD with cause 3 (R64). Before option loading has completed there is no mode to leave and no
cause is kept (R58). -/
def Dev.safeReqWrite (d : Dev) (data : W64) : Dev :=
  if !fbit data f_DEV_SAFE_REQ_REQ || (d.mode.starting && !d.rdB a_CFG_OPT_STAT f_CFG_OPT_STAT_DONE) then d else d.enterSafe 3

/-! ### Entry within 1 ms (R52) -/

/-- SAFE_HOLD may be left: RIPCORD_N is high and no fatal cause is still present (R52, R499). -/
def Dev.safeClear (d : Dev) : Bool := d.mode.ripcord && !d.rdB a_ERR_STAT f_ERR_STAT_FATAL_PEND

/-- A mode change that no course boundary carries takes effect: from STANDBY to an acquiring mode, or from SAFE_HOLD to STANDBY, whose conditions
are checked again and whose compare queues are emptied (R52, R105). -/
def Dev.modeEntry (d : Dev) : Dev :=
  match d.mode.pend with
  | none => d
  | some p =>
    if p.line.isSome || d.mode.starting then d
    else
      let d := { d with mode := { d.mode with pend := none } }
      let answer (d : Dev) (status : Nat) (line : W64) : Dev := match p.cmd with | some id => d.finish id status line [] | none => d
      match d.mode.cur with
      | .safeHold =>
        if p.target ≠ .standby || !d.safeClear then answer d 0x21 noLine
        else
          let d := ({ d with mode := { d.mode with cur := .standby, safeCause := 0 } } : Dev).alertFrom d.smbAlert
          answer (d.cmpClearAll.loadProfile 0) 0 noLine
      | .standby => let d := d.enterFromStandby p.target; answer d 0 (BitVec.ofNat 64 d.wpu.ctx.first)
      | _ => answer d 0x20 noLine

/-- MODE_ENTRY (R52). -/
def execModeEntry (dt : Nat) (s : State) : Host.Outcome State Fault Refusal := .next (s.after dt (fun d => d.modeEntry))

/-! ### Ballast (R66 to R70) -/

/-- The largest level up to 2^k − 1 + lo to which every demand can be filled within r. -/
def fillLevel : Nat → Nat → List Nat → Nat → Nat
  | 0, lo, _, _ => lo
  | k + 1, lo, ws, r => let l := lo + 2 ^ k; if (ws.map (fun w => min w l)).foldl (· + ·) 0 ≤ r then fillLevel k l ws r else fillLevel k lo ws r

/-- Single grants, round-robin from client `start` of 11 to 23, of what remains: what each best-effort client is served of `ws` (R70). -/
def roundRobin (start : Nat) (ws : List Nat) (r : Nat) : List Nat :=
  let l := fillLevel 17 0 ws r
  let base := ws.map (fun w => min w l)
  let order := ((List.range 13).map (fun i => (start - 11 + i) % 13)).filter (fun i => decide (l < lget ws i 0))
  let lucky := order.take (r - base.foldl (· + ·) 0)
  base.mapIdx (fun i b => if lucky.contains i then b + 1 else b)

/-- One resource in one window: `budgets` and `demands` of the 24 clients, the schedulable quantity. Reserved clients are served up to their
budget, then from the unreserved remainder in client order, then best-effort clients up to their caps; which clients stall. -/
def ballastResource (start total : Nat) (budgets demands : List Nat) : List Bool :=
  let res := List.range 11
  let b (c : Nat) : Nat := lget budgets c 0
  let w (c : Nat) : Nat := lget demands c 0
  let first := (res.map (fun c => min (w c) (b c))).foldl (· + ·) 0
  let unreserved := total - (res.map b).foldl (· + ·) 0
  let tot := res.foldl (fun (acc : Nat × List Bool) c =>
    let more := w c - b c
    let got := min more acc.1
    (acc.1 - got, acc.2 ++ [decide (got < more)])) (unreserved, [])
  let left := total - first - (unreserved - tot.1)
  let wants := (List.range 13).map (fun i => min (w (11 + i)) (b (11 + i)))
  let got := roundRobin start wants left
  tot.2 ++ (List.range 13).map (fun i => decide (lget got i 0 < w (11 + i)))

/-- BALLAST_WINDOW: what each client has used, and what it asks for besides (`demand`), is served in each stack and of each other resource; stalls
are counted, BAL_RT_SHORT is reported once per course (R69), and the budgets are renewed; in STANDBY and SAFE_HOLD a changed profile is loaded (R74). -/
def Dev.ballastWindow (d : Dev) (demand : List Demand) : Dev :=
  if d.isHeld .bal then d
  else
    let d := if d.mode.starting || d.mode.cur.acquiring then d else d.reloadProfile
    let start := d.bal.rr
    let used (c : Nat) : Demand := if d.el / 1024 ≤ d.bal.window + 1 then (d.bal.used[c]?).getD ⟨0, 0, 0, 0, 0⟩ else d.usedBy c
    let asked := (List.range 24).map (fun c => (Demand.plus (used c) (lget demand c ⟨0, 0, 0, 0, 0⟩)))
    let served (r : BalRes) : List Bool :=
      ballastResource start (d.schedulable r) ((List.range 24).map (fun c => d.budgetOf c r)) (asked.map (fun x => Demand.of x r))
    let short := [BalRes.hbm 0, .hbm 1, .tha, .keel, .dma].map served
    let stalls (c : Nat) : Bool := short.any (fun l => lget l c false) || d.bal.short.contains c
    let left := if d.bal.used.all (fun u => u == ⟨0, 0, 0, 0, 0⟩) then [] else (List.range 24).map d.carried
    let d := { d with bal := { d.bal with rr := if start = 23 then 11 else start + 1, window := d.el / 1024, used := left, short := [] } }
    iter 24 (fun c d =>
      if !stalls c then d
      else if 11 ≤ c then d.inc (a_BAL_STAT c) f_BAL_STAT_STALL_CNT
      else
        let d := d.inc (a_BAL_STAT c) f_BAL_STAT_SHORT_CNT
        if d.bal.rtReported then d else ({ d with bal := { d.bal with rtReported := true } } : Dev).reportErr 0x16 43 c) d


/-! ### Junctions (R30) -/

/-- JCT_STALL: a junction into island i has stayed full for 1 ms; reported once until the island's bit is cleared. -/
def Dev.jctStall (d : Dev) (i : Nat) : Dev :=
  let v := d.rdF a_DEV_JCT_STALL f_DEV_JCT_STALL_STALLED
  if v.testBit i then d else (d.flag a_DEV_JCT_STALL f_DEV_JCT_STALL_STALLED (2 ^ i)).reportErr 0x11 43 i

/-- JCT_STALL (R30). -/
def execJctStall (dt : Nat) (i : Fin 40) (s : State) : Host.Outcome State Fault Refusal := .next (s.after dt (fun d => d.jctStall i))

end Sys2Proof.Machine
end

