-- ==== Sys2Proof/Machine/TimeKeep.lean ====
section
/-! DEFINITION. Device time (R358 to R375): offsets and the servo, PPS, the PTP port, time triggers, steps, the save in AON memory. -/

namespace Sys2Proof.Machine

/-! ### Time triggers (R372, R373) -/

/-- PERIOD_NS of trigger k; 0 one-shot. -/
def Dev.ttPeriod (d : Dev) (k : Nat) : Nat :=
  let p := d.rdF (a_TIME_TT_CFG k) f_TIME_TT_CFG_PERIOD_NS
  if p = 0 then 0 else max 1000 p

/-- Set the next fire time of trigger k. -/
def Dev.setTt (d : Dev) (k : Nat) (x : Option (Nat × Nat)) : Dev := { d with clk := { d.clk with ttNext := lset d.clk.ttNext k x } }

/-- Trigger k disarms. -/
def Dev.ttDisarm (d : Dev) (k : Nat) : Dev := (d.setTt k none).wrB (a_TIME_TT_CFG k) f_TIME_TT_CFG_EN false

/-- Trigger k fires: event, count, and with ACTION a DSP commit. -/
def Dev.ttFire (d : Dev) (k : Nat) : Dev :=
  let d := (d.raiseEvt (185 + k)).inc (a_TIME_TT_STAT k) f_TIME_TT_STAT_FIRE_CNT
  if d.rdB (a_TIME_TT_CFG k) f_TIME_TT_CFG_ACTION && !d.isHeld .dsp then d.dspCommit.1 else d

/-- TIME_TT: an armed trigger whose fire time device time has reached fires; a one-shot then disarms. -/
def Dev.ttDue (d : Dev) (k : Nat) : Dev :=
  match lget d.clk.ttNext k none with
  | none => d
  | some (at_, start) =>
    if d.now.toNat < at_ then d
    else
      let p := d.ttPeriod k
      let d := d.ttFire k
      if p = 0 then d.ttDisarm k else d.setTt k (some (at_ + p, start))

/-- TIME_TT (R372). -/
def execTimeTt (dt : Nat) (k : Fin 8) (s : State) : Host.Outcome State Fault Refusal := .next (s.after dt (fun d => d.ttDue k))

/-- Write of TT_CFG[k], data laid out as the register, bits wm written (R372). -/
def Dev.ttCfgWrite (d : Dev) (k : Nat) (wm data : W64) : Dev :=
  let a := a_TIME_TT_CFG k
  let old := d.rd a
  let new := blend wm data old
  let d := d.wr a new
  if !fbit new f_TIME_TT_CFG_EN then d.setTt k none
  else if fbit old f_TIME_TT_CFG_EN then d
  else
    let start := (d.rd (a_TIME_TT_START k)).toNat
    if start ≤ d.now.toNat then ((d.ttDisarm k).flag (a_TIME_TT_STAT k) f_TIME_TT_STAT_LATE).raiseEvt 193
    else d.setTt k (some (start, start))

/-- A step has moved device time to now, forward or not: trigger k (R373). -/
def Dev.ttStep (d : Dev) (forward : Bool) (k : Nat) : Dev :=
  match lget d.clk.ttNext k none with
  | none => d
  | some (at_, start) =>
    let new := d.now.toNat
    let p := d.ttPeriod k
    if p ≠ 0 then
      let next := if new < start then start else start + ((new - start) / p + 1) * p
      let d := if forward && at_ ≤ new then d.inc (a_TIME_TT_STAT k) f_TIME_TT_STAT_MISSED ((new - at_) / p + 1) else d
      d.setTt k (some (next, start))
    else if forward && at_ ≤ new then ((d.flag (a_TIME_TT_STAT k) f_TIME_TT_STAT_LATE).ttFire k).ttDisarm k
    else d

/-! ### PPS_OUT (R367) -/

/-- The latest instant n × 10^9 + OFS_NS at or before now, where there is one. -/
def Dev.ppsInstant (d : Dev) : Option Nat :=
  let ofs := d.rdF a_TIME_PPS_OUT f_TIME_PPS_OUT_OFS_NS
  let t := d.now.toNat
  if t < ofs then none else some ((t - ofs) / 1000000000 * 1000000000 + ofs)

/-- Instants up to now are past: after a step, a release or a write of PPS_OUT the next edge is the first instant after it. -/
def Dev.ppsRestart (d : Dev) : Dev := { d with clk := { d.clk with ppsDone := d.ppsInstant } }

/-- PPS_OUT_RISE: an edge instant not yet driven has come; TIME_PPS is raised and the pulse begins or is prolonged. -/
def Dev.ppsRise (d : Dev) : Dev :=
  match d.ppsInstant with
  | none => d
  | some e =>
    if d.isHeld .time || d.clk.ppsDone = some e then d
    else
      let d := { d with clk := { d.clk with ppsDone := some e } }
      if !d.rdB a_TIME_STAT f_TIME_STAT_LOCKED && !d.rdB a_TIME_CTRL f_TIME_CTRL_PPS_ALWAYS then d
      else
        let end_ := d.el - (d.now.toNat - e) + max 1 (d.rdF a_TIME_PPS_OUT f_TIME_PPS_OUT_WIDTH_NS)
        let d := d.raiseEvt 184
        match d.clk.ppsOutEnd with
        | some x => { d with clk := { d.clk with ppsOutEnd := some (max x end_) } }
        | none => ({ d with clk := { d.clk with ppsOutEnd := some end_ } } : Dev).emit (.pin .ppsOut .high)

/-- PPS_OUT_RISE (R367). -/
def execPpsOutRise (dt : Nat) (s : State) : Host.Outcome State Fault Refusal := .next (s.after dt (fun d => d.ppsRise))

/-- PPS_OUT_FALL (R367). -/
def execPpsOutFall (dt : Nat) (s : State) : Host.Outcome State Fault Refusal :=
  .next (s.after dt (fun d =>
    match d.clk.ppsOutEnd with
    | some x => if x ≤ d.el then ({ d with clk := { d.clk with ppsOutEnd := none } } : Dev).emit (.pin .ppsOut .low) else d
    | none => d))

/-! ### Steps (R358, R362, R374) -/

/-- Device time moves by a signed amount in one TIO cycle: triggers and PPS_OUT follow. -/
def Dev.stepBy (d : Dev) (amount : Int) : Dev :=
  let d := { d with clk := { d.clk with acc := d.clk.acc + (BitVec.ofInt 112 amount <<< 48), lastStep := some (d.el, amount) } }
  (iter 8 (fun k d => d.ttStep (decide (0 < amount)) k) d).ppsRestart

/-- Device time becomes set (R362). -/
def Dev.timeSet (d : Dev) : Dev :=
  ({ d with clk := { d.clk with iAcc := 0, lastRef := none, lastOffset := d.el } } : Dev).wrB a_TIME_STAT f_TIME_STAT_SET true

/-- TIME_STEP_APPLY: every merge point has drained since the command was accepted (R41), and in one cycle device time steps, TIME_EPOCH rises and
TIME_STEP is raised; the command ends with the new epoch (R374). -/
def Dev.timeStepApply (d : Dev) : Dev :=
  match d.clk.step with
  | none => d
  | some (id, amount) =>
    if d.isHeld .time then d
    else
      let e := d.clk.epoch + 1
      let d := { d with clk := { d.clk with step := none, epoch := e } }
      let d := d.wrF a_TIME_STAT f_TIME_STAT_EPOCH e.toNat
      let d := if d.rdB a_TIME_STAT f_TIME_STAT_SET then d else d.timeSet
      ((d.stepBy amount).raiseEvt 194).finish id 0 noLine (leBytes 2 e.toNat)

/-- TIME_STEP_APPLY (R374). -/
def execTimeStepApply (dt : Nat) (s : State) : Host.Outcome State Fault Refusal := .next (s.after dt (fun d => d.timeStepApply))

/-- TIME_SAVE: 1 ms after the save before, the first at a phase of the device's own (R361). -/
def execTimeSave (dt : Nat) (s : State) : Host.Outcome State Fault Refusal :=
  .next (s.after dt (fun d =>
    let due : Bool := match d.clk.savedAt with | some t => decide (t + 1000000 ≤ d.el) | none => true
    if d.isHeld .time || !due then d
    else { d with clk := { d.clk with savedTime := d.now, savedEpoch := d.clk.epoch, savedAt := some d.el } }))

/-! ### Offsets, servo, lock (R362 to R364) -/

/-- The servo takes an offset whose reference instant is the elapsed time ref (R363). -/
def Dev.servo (d : Dev) (o : Int) (ref : Nat) : Dev :=
  let c := d.rd a_TIME_CTRL
  let t : Int := match d.clk.lastRef with | some r => max 1 ((ref - r : Nat) : Int) | none => 1000000000
  let d := { d with clk := { d.clk with lastRef := some ref } }
  if !fbit c f_TIME_CTRL_SERVO_EN then d
  else
    let ki := max 1 (fget c f_TIME_CTRL_KI_SHIFT)
    let kp := fget c f_TIME_CTRL_KP_SHIFT
    let i := clampI (d.clk.iAcc - rdiv (o * 2 ^ (48 - ki)) t) (-maxRate) maxRate
    let r := clampI (i - rdiv (o * 2 ^ (48 - kp)) t) (-maxRate) maxRate
    ({ d with clk := { d.clk with iAcc := i } } : Dev).wr a_TIME_RATE (BitVec.ofInt 64 r)

/-- LOCKED changes (R364). -/
def Dev.setLocked (d : Dev) (on : Bool) : Dev :=
  if d.rdB a_TIME_STAT f_TIME_STAT_LOCKED == on then d
  else (d.wrB a_TIME_STAT f_TIME_STAT_LOCKED on).raiseEvt (if on then 182 else 183)

/-- A used offset counts toward LOCKED, clears HOLDOVER and restarts the 4 s interval (R364). -/
def Dev.usedOffset (d : Dev) (o : Int) : Dev :=
  let near := decide (o.natAbs ≤ d.rdF a_TIME_CTRL f_TIME_CTRL_LOCK_NS)
  let c := d.clk
  let d := { d with clk := { c with
    lastOffset := d.el, runIn := if near then c.runIn + 1 else 0, runOut := if near then 0 else c.runOut + 1 } }
  let d := d.wrB a_TIME_STAT f_TIME_STAT_HOLDOVER false
  if 8 ≤ d.clk.runIn then d.setLocked true else if 8 ≤ d.clk.runOut then d.setLocked false else d

/-- An offset of device time minus reference time arrives (R362 to R364). -/
def Dev.takeOffset (d : Dev) (o : Int) (ref : Nat) : Dev :=
  let d := d.wr a_TIME_OFFSET (BitVec.ofInt 64 o)
  if !d.rdB a_TIME_STAT f_TIME_STAT_SET then
    let d := d.timeSet
    if o < -10000 then d.stepBy (-o) else d.servo o ref
  else if d.rdF a_TIME_CTRL f_TIME_CTRL_OFFSET_LIMIT_NS < o.natAbs then
    if d.rdB a_TIME_STAT f_TIME_STAT_ALARM then d else (d.flag a_TIME_STAT f_TIME_STAT_ALARM).reportErr 0x23 23 0
  else (d.servo o ref).usedOffset o

/-- HOLDOVER: 4 s without an offset since the last, or since device time was set (R364). -/
def Dev.holdoverDue (d : Dev) : Dev :=
  if d.rdB a_TIME_STAT f_TIME_STAT_SET && decide (d.clk.lastOffset + 4000000000 ≤ d.el) then
    (d.setLocked false).wrB a_TIME_STAT f_TIME_STAT_HOLDOVER true
  else d

/-- HOLDOVER (R364). -/
def execHoldover (dt : Nat) (s : State) : Host.Outcome State Fault Refusal :=
  .next (s.after dt (fun d => if d.isHeld .time then d else d.holdoverDue))

/-! ### PPS_IN (R366) -/

/-- PPS_IN_EDGE: f8 eighths of a nanosecond into the cycle; latch slots take the edge (R86), and an accepted one gives an offset with SRC = 2. -/
def Dev.ppsInEdge (d : Dev) (f8 : Nat) : Dev :=
  let d := if d.isHeld .wpu then d else d.latchFrom 2 (fun _ => true)
  if d.isHeld .time then d
  else
    let ok : Bool := match d.clk.ppsLast with
      | none => true
      | some t => decide (t + 8 * 999900000 ≤ 8 * d.el + f8) && decide (8 * d.el + f8 ≤ t + 8 * 1000100000)
    if !ok then d.inc a_TIME_STAT f_TIME_STAT_PPS_GLITCH_CNT
    else
      let t8 := d.now.toNat * 8 + f8
      let d := { d with clk := { d.clk with ppsLast := some (8 * d.el + f8) } }
      let d := d.wr a_TIME_PPS_IN_TS (BitVec.ofNat 64 t8)
      if d.rdF a_TIME_CTRL f_TIME_CTRL_SRC ≠ 2 then d
      else
        let tod := d.rd a_TIME_TOD_NEXT
        (d.wr a_TIME_TOD_NEXT (tod + 1)).takeOffset (rhe t8 3 - tod.toNat * 1000000000) d.el

/-- PPS_IN_EDGE (R366). -/
def execPpsInEdge (dt : Nat) (f8 : Fin 8) (s : State) : Host.Outcome State Fault Refusal := .next (s.after dt (fun d => d.ppsInEdge f8))

/-! ### PTP (R369 to R371) -/

/-- n as k bytes, most significant first: the octet order of IEEE 1588 and of the IP protocols. -/
def beBytes (k n : Nat) : List Byte := (leBytes k n).reverse

/-- A PTP field in force. -/
def Dev.ptpF (d : Dev) (f : Fld) : Nat := d.inF a_TIME_PTP_CFG f

/-- The PTP port is enabled and its blocks are out of reset. -/
def Dev.ptpOn (d : Dev) : Bool := d.rdB a_TIME_PTP_CFG f_TIME_PTP_CFG_EN && !d.isHeld .time && !d.isHeld .eth

/-- portState. -/
def Dev.ptpState (d : Dev) : Nat := d.rdF a_TIME_PTP_STAT f_TIME_PTP_STAT_PORT_STATE

/-- Set portState. -/
def Dev.setPtpState (d : Dev) (n : Nat) : Dev := d.wrF a_TIME_PTP_STAT f_TIME_PTP_STAT_PORT_STATE n

/-- MAC address of Ethernet port i (R321). -/
def Dev.macOf (d : Dev) (i : Nat) : BitVec 48 := BitVec.ofNat 48 ((d.rd a_ETH_MAC_BASE).toNat + i)

/-- The clock identity: the port's MAC address as an EUI-64, and with port number 1 the port identity (log entry 27). -/
def Dev.clockId (d : Dev) : Nat :=
  let m := (d.macOf (d.ptpF f_TIME_PTP_CFG_PORT)).toNat
  m / 2 ^ 24 * 2 ^ 40 + 0xFFFE * 2 ^ 24 + m % 2 ^ 24

/-- The port identity. -/
def Dev.portId (d : Dev) : BitVec 80 := BitVec.ofNat 80 (d.clockId * 65536 + 1)

/-- A message of type `typ` from the device: header, body, correctionField and logMessageInterval (IEEE 1588-2019; log entry 27). -/
def Dev.ptpMessage (d : Dev) (typ seq log flags correction : Nat) (body : List Byte) : List Byte :=
  let ctl := if typ = 0 then 0 else if typ = 1 then 1 else if typ = 9 then 3 else 5
  [BitVec.ofNat 8 typ, 0x12] ++ beBytes 2 (34 + body.length) ++ [BitVec.ofNat 8 (d.ptpF f_TIME_PTP_CFG_DOMAIN), 0] ++ beBytes 2 flags ++
    beBytes 8 correction ++ zeros 4 ++ beBytes 10 d.portId.toNat ++ beBytes 2 seq ++ [BitVec.ofNat 8 ctl, BitVec.ofNat 8 log] ++ body

/-- Send a PTP message by the transport in force, to the standard's multicast address. -/
def Dev.ptpSend (d : Dev) (event : Bool) (bytes : List Byte) : Dev :=
  let port := d.ptpF f_TIME_PTP_CFG_PORT
  if d.ptpF f_TIME_PTP_CFG_TRANSPORT = 0 then 
    let udp : BitVec 16 := if event then 319 else 320
    d.sendUdp port 0xE0000181 0x01005E000181 udp udp 0 bytes
  else d.emit (.eth port 0 0x011B19000000 0 bytes)

/-- originTimestamp of an instant in 1/8 ns: seconds and nanoseconds (R371). -/
def originStamp (t8 : Nat) : List Byte := beBytes 6 (t8 / 8 / 1000000000) ++ beBytes 4 (t8 / 8 % 1000000000)

/-- The 16-bit one's-complement word that makes up for the words inserted (R371 step 3). -/
def onesWord (bs : List Byte) : Nat :=
  let rec go : List Byte → Nat
    | a :: b :: l => a.toNat * 256 + b.toNat + go l
    | [a] => a.toNat * 256
    | [] => 0
  0xFFFF - go bs % 0xFFFF

/-- A message with its transmit timestamp inserted, t8 in 1/8 ns: originTimestamp, the fraction in correctionField, over UDP the word that keeps
the checksum (R371). -/
def Dev.ptpStamped (d : Dev) (typ seq log t8 : Nat) : Dev :=
  let ts := originStamp t8
  let frac := t8 % 8 * 8192
  let m := d.ptpMessage typ seq log 0 frac ts
  let m := if d.ptpF f_TIME_PTP_CFG_TRANSPORT = 0 then m ++ beBytes 2 (onesWord (ts ++ beBytes 8 frac)) else m
  d.ptpSend true m

/-- An instant in 1/8 ns referred to the ball: the cycle, the eighth in it at the timestamp point, the internal latency of the PORT_MODE in force, and
EGRESS_LAT or INGRESS_LAT (R370). -/
def Dev.ballTime (d : Dev) (tx : Bool) (f8 : Nat) : Nat :=
  let own := d.rdF a_TIME_PTP_LAT (if tx then f_TIME_PTP_LAT_EGRESS_LAT else f_TIME_PTP_LAT_INGRESS_LAT)
  (((d.now.toNat * 8 + f8 + own : Nat) : Int) + Config.ptpLatency d.ethRate tx).toNat

/-- A transmit instant in 1/8 ns (R370). -/
def Dev.egress8 (d : Dev) (f8 : Nat) : Nat := d.ballTime true f8

/-- A receive instant in 1/8 ns (R370). -/
def Dev.ingress8 (d : Dev) (f8 : Nat) : Nat := d.ballTime false f8

/-- The message reaches the PTP port: its Ethernet port, transport and domain are those in force. -/
def Dev.ptpMine (d : Dev) (m : PtpMsg) : Bool :=
  d.ptpOn && m.port.val = d.ptpF f_TIME_PTP_CFG_PORT && (m.udp == (d.ptpF f_TIME_PTP_CFG_TRANSPORT = 0)) &&
  m.domain.toNat = d.ptpF f_TIME_PTP_CFG_DOMAIN

/-- The message comes from the master followed. -/
def Dev.fromMaster (d : Dev) (m : PtpMsg) : Bool :=
  d.ptpMine m && (match d.clk.ptpMaster with | some (id, _) => id == m.srcId | none => false)

end Sys2Proof.Machine

namespace Sys2Proof

/-- The master's timestamp of a message, in 2^-16 ns. -/
def PtpMsg.time (m : PtpMsg) : Int := (m.seconds.toNat * 1000000000 + m.nanos.toNat) * 65536

end Sys2Proof

namespace Sys2Proof.Machine

/-- PTP_SYNC_RX: t2, and for a one-step Sync t1 and cs at once (R370). -/
def Dev.ptpSync (d : Dev) (m : PtpMsg) : Dev :=
  if !d.fromMaster m then d
  else
    let t2 : Int := d.ingress8 m.ts8 * 8192
    if m.twoStep then { d with clk := { d.clk with ptpSync := some (m.seqId, t2, m.correction) } }
    else { d with clk := { d.clk with ptpSync := none, ptpPair := some (m.time, t2, m.correction) } }

/-- PTP_SYNC_RX (R370). -/
def execPtpSyncRx (dt : Nat) (msg : PtpMsg) (s : State) : Host.Outcome State Fault Refusal := .next (s.after dt (fun d => d.ptpSync msg))

/-- PTP_FOLLOW_UP_RX: t1 of the Sync it follows; both corrections count (R370). -/
def Dev.ptpFollowUp (d : Dev) (m : PtpMsg) : Dev :=
  match d.clk.ptpSync with
  | some (q, t2, c) =>
    if d.fromMaster m && q == m.seqId then { d with clk := { d.clk with ptpSync := none, ptpPair := some (m.time, t2, c + m.correction) } }
    else d
  | none => d

/-- PTP_FOLLOW_UP_RX (R370). -/
def execPtpFollowUpRx (dt : Nat) (msg : PtpMsg) (s : State) : Host.Outcome State Fault Refusal :=
  .next (s.after dt (fun d => d.ptpFollowUp msg))

/-- PTP_DELAY_REQ_TX: as slave the device sends a Delay_Req and keeps its transmit time as t3 (R371). -/
def Dev.ptpDelayReq (d : Dev) (f8 : Nat) : Dev :=
  if !d.ptpOn || !(d.ptpState ∈ [8, 9]) then d
  else
    let t8 := d.egress8 f8
    let q := d.clk.ptpReqSeq
    ({ d with clk := { d.clk with ptpReqSeq := q + 1, ptpReq := some (q, (t8 * 8192 : Nat)) } } : Dev).ptpStamped 1 q.toNat 0x7F t8

/-- PTP_DELAY_REQ_TX (R371). -/
def execPtpDelayReqTx (dt : Nat) (f8 : Fin 8) (s : State) : Host.Outcome State Fault Refusal := .next (s.after dt (fun d => d.ptpDelayReq f8))

/-- PTP_DELAY_RESP_RX: the answer to the Delay_Req in flight completes an offset (R370), which counts where SRC = 1. -/
def Dev.ptpDelayResp (d : Dev) (m : PtpMsg) : Dev :=
  match d.clk.ptpReq, d.clk.ptpPair with
  | some (q, t3), some (t1, t2, cs) =>
    if !d.fromMaster m || q != m.seqId || m.reqId != d.portId then d
    else
      let ms := t2 - t1 - cs
      let sm := m.time - t3 - m.correction
      let o := rhe (rdiv (ms - sm) 2) 16 - fgetS (d.rd a_TIME_PTP_LAT) f_TIME_PTP_LAT_ASYM_NS
      let d := { d with clk := { d.clk with ptpReq := none } }
      let d := (d.inc a_TIME_PTP_STAT f_TIME_PTP_STAT_SYNC_CNT).setPtpState 9
      if d.rdF a_TIME_CTRL f_TIME_CTRL_SRC = 1 then d.takeOffset o d.el else d
  | _, _ => d

/-- PTP_DELAY_RESP_RX (R370). -/
def execPtpDelayRespRx (dt : Nat) (msg : PtpMsg) (s : State) : Host.Outcome State Fault Refusal :=
  .next (s.after dt (fun d => d.ptpDelayResp msg))

/-- The comparison of data sets, on keys in the order of the standard: smaller is better. -/
def keyBefore : List Nat → List Nat → Bool
  | [], [] => false
  | [], _ :: _ => true
  | _ :: _, [] => false
  | a :: l, b :: m => if a < b then true else if b < a then false else keyBefore l m

/-- The announce interval in force, in ns. -/
def Dev.announceNs (d : Dev) : Nat :=
  let k := d.inS a_TIME_PTP_CFG f_TIME_PTP_CFG_LOG_ANNOUNCE
  if 0 ≤ k then 1000000000 * 2 ^ k.toNat else 1000000000 / 2 ^ (-k).toNat

/-- The device's own data set (R369). -/
def Dev.ownKey (d : Dev) : List Nat :=
  [d.ptpF f_TIME_PTP_CFG_PRIORITY1, d.ptpF f_TIME_PTP_CFG_CLOCK_CLASS, 0xFE, 0xFFFF, d.ptpF f_TIME_PTP_CFG_PRIORITY2, d.clockId, 0, d.portId.toNat]

/-- The foreign master that the algorithm chooses: the best of those with two Announces within four intervals. -/
def Dev.bestForeign (d : Dev) : Option (BitVec 80 × List Nat) :=
  let ok (x : BitVec 80 × List Nat × List Nat) : Bool :=
    match x.2.2 with
    | [_, b] => decide (d.el ≤ b + 4 * d.announceNs)
    | _ => false
  (d.clk.foreign.filter ok).foldl (fun best x =>
    match best with
    | none => some (x.1, x.2.1)
    | some b => if keyBefore x.2.1 b.2 then some (x.1, x.2.1) else some b) none

/-- The state decision of the default best master clock algorithm for an ordinary clock (R369; log entry 27). -/
def Dev.ptpDecide (d : Dev) : Dev :=
  let master (d : Dev) : Dev := ({ d with clk := { d.clk with ptpMaster := none, ptpSync := none, ptpPair := none, ptpReq := none } } : Dev).setPtpState 6
  match d.bestForeign with
  | none => d
  | some (id, key) =>
    let own := d.ptpF f_TIME_PTP_CFG_SLAVE_ONLY = 0 && keyBefore d.ownKey key
    let high := d.ptpF f_TIME_PTP_CFG_SLAVE_ONLY = 0 && decide (d.ptpF f_TIME_PTP_CFG_CLOCK_CLASS ≤ 127)
    if own then master d
    else if high then (master d).setPtpState 7
    else
      match d.clk.ptpMaster with
      | some (old, _) =>
        if old == id then { d with clk := { d.clk with ptpMaster := some (id, key) } } else follow d id key
      | none => follow d id key
where
  /-- A master is chosen. -/
  follow (d : Dev) (id : BitVec 80) (key : List Nat) : Dev :=
    ({ d with clk := { d.clk with ptpMaster := some (id, key), ptpAnnAt := d.el, ptpSync := none, ptpPair := none, ptpReq := none } } : Dev).setPtpState 8

/-- PTP_ANNOUNCE_RX: the announcing clock is remembered and the algorithm run; a valid UTC offset of the master is shown. -/
def Dev.ptpAnnounce (d : Dev) (m : PtpMsg) : Dev :=
  if !d.ptpMine m || m.srcId == d.portId || m.gmId.toNat = d.clockId || 255 ≤ m.stepsRemoved.toNat then d
  else
    let key := [m.priority1.toNat, m.clockClass.toNat, m.clockAcc.toNat, m.variance.toNat, m.priority2.toNat, m.gmId.toNat, m.stepsRemoved.toNat,
      m.srcId.toNat]
    let old := match d.clk.foreign.find? (fun x => x.1 == m.srcId) with | some x => x.2.2 | none => []
    let foreign := (m.srcId, key, (d.el :: old).take 2) :: d.clk.foreign.filter (fun x => x.1 != m.srcId)
    let d := ({ d with clk := { d.clk with foreign := foreign } } : Dev).ptpDecide
    if d.fromMaster m then
      let d := { d with clk := { d.clk with ptpAnnAt := d.el } }
      if m.utcValid then d.wr a_TIME_UTC (BitVec.ofNat 64 (65536 + m.utcOffset.toNat)) else d
    else d

/-- PTP_ANNOUNCE_RX (R369). -/
def execPtpAnnounceRx (dt : Nat) (msg : PtpMsg) (s : State) : Host.Outcome State Fault Refusal :=
  .next (s.after dt (fun d => d.ptpAnnounce msg))

/-- PTP_ANNOUNCE_TIMEOUT: no Announce for three intervals; the port listens, or is master where it may be (R369). -/
def Dev.ptpTimeout (d : Dev) : Dev :=
  if !d.ptpOn || d.ptpState = 6 || d.el < d.clk.ptpAnnAt + 3 * d.announceNs then d
  else
    let d := { d with clk := { d.clk with ptpMaster := none, ptpSync := none, ptpPair := none, ptpReq := none, foreign := [], ptpAnnAt := d.el } }
    d.setPtpState (if d.ptpF f_TIME_PTP_CFG_SLAVE_ONLY = 0 then 6 else 4)

/-- PTP_ANNOUNCE_TIMEOUT (R369). -/
def execPtpAnnounceTimeout (dt : Nat) (s : State) : Host.Outcome State Fault Refusal := .next (s.after dt (fun d => d.ptpTimeout))

/-- A signed 4-bit interval as an octet. -/
def logOctet (n : Nat) : Nat := if n < 8 then n else n + 240

/-- PTP_DELAY_REQ_RX: as master the device answers with its receive timestamp (R369). -/
def Dev.ptpAnswer (d : Dev) (m : PtpMsg) : Dev :=
  if !d.ptpMine m || d.ptpState ≠ 6 then d
  else
    let t8 := d.ingress8 m.ts8
    let correction := uwrap (m.correction - (t8 % 8 * 8192 : Nat)) 64
    d.ptpSend false (d.ptpMessage 9 m.seqId.toNat (logOctet (d.ptpF f_TIME_PTP_CFG_LOG_DELAY_REQ))
      0 correction (originStamp t8 ++ beBytes 10 m.srcId.toNat))

/-- PTP_DELAY_REQ_RX (R369). -/
def execPtpDelayReqRx (dt : Nat) (msg : PtpMsg) (s : State) : Host.Outcome State Fault Refusal := .next (s.after dt (fun d => d.ptpAnswer msg))

/-- PTP_SYNC_TX: as master the device sends a one-step Sync (R371). -/
def Dev.ptpSendSync (d : Dev) (f8 : Nat) : Dev :=
  if !d.ptpOn || d.ptpState ≠ 6 then d
  else
    let q := d.clk.ptpSyncSeq
    ({ d with clk := { d.clk with ptpSyncSeq := q + 1 } } : Dev).ptpStamped 0 q.toNat (logOctet (d.ptpF f_TIME_PTP_CFG_LOG_SYNC)) (d.egress8 f8)

/-- PTP_SYNC_TX (R371). -/
def execPtpSyncTx (dt : Nat) (f8 : Fin 8) (s : State) : Host.Outcome State Fault Refusal := .next (s.after dt (fun d => d.ptpSendSync f8))

/-- PTP_ANNOUNCE_TX: as master the device announces its data set (R369). -/
def Dev.ptpSendAnnounce (d : Dev) : Dev :=
  if !d.ptpOn || d.ptpState ≠ 6 then d
  else
    let q := d.clk.ptpAnnSeq
    let utc := (d.rd a_TIME_UTC).toNat
    let body := originStamp 0 ++ beBytes 2 (utc % 65536) ++ [0, BitVec.ofNat 8 (d.ptpF f_TIME_PTP_CFG_PRIORITY1),
      BitVec.ofNat 8 (d.ptpF f_TIME_PTP_CFG_CLOCK_CLASS), 0xFE] ++ beBytes 2 0xFFFF ++ [BitVec.ofNat 8 (d.ptpF f_TIME_PTP_CFG_PRIORITY2)] ++
      beBytes 8 d.clockId ++ beBytes 2 0 ++ [0xA0]
    let flags := 8 + (if 65536 ≤ utc then 4 else 0)
    ({ d with clk := { d.clk with ptpAnnSeq := q + 1 } } : Dev).ptpSend false
      (d.ptpMessage 11 q.toNat (logOctet (d.ptpF f_TIME_PTP_CFG_LOG_ANNOUNCE)) flags 0 body)

/-- PTP_ANNOUNCE_TX (R369). -/
def execPtpAnnounceTx (dt : Nat) (s : State) : Host.Outcome State Fault Refusal := .next (s.after dt (fun d => d.ptpSendAnnounce))

/-- Write of PTP_CFG: EN set from 0 to 1 is the commit and starts the port listening; EN = 0 disables it. -/
def Dev.ptpCfgWrite (d : Dev) (wm data : W64) : Dev :=
  let old := d.rd a_TIME_PTP_CFG
  let new := blend wm data old
  let d := d.wr a_TIME_PTP_CFG new
  let clear (d : Dev) : Dev := { d with clk := { d.clk with
    ptpMaster := none, ptpSync := none, ptpPair := none, ptpReq := none, foreign := [], ptpAnnAt := d.el } }
  if !fbit new f_TIME_PTP_CFG_EN then (clear d).setPtpState 3
  else if fbit old f_TIME_PTP_CFG_EN then d
  else ((clear d).commit .ptp).setPtpState 4

end Sys2Proof.Machine
end

