-- ==== Sys2Proof/Machine/Reset.lean ====
section
/-! DEFINITION. Commands of reset, clocks and start-up (R27, R461 to R481, R529, R530, R541 to R548), but for those that read the boot
flash (Boot). -/

namespace Sys2Proof.Machine

/-- RESET (R463 to R465): a reset source is asserted. -/
def execReset (dt : Nat) (src : ResetSrc) (s : State) : Host.Outcome State Fault Refusal :=
  .next (s.after dt (fun d => d.assertReset src))

/-- SUPPLY_FAULT (R529): a rail out of range asserts CORE_PG or IO_SUPPLY; the device then behaves as though RESET_N had fallen
(R461). -/
def execSupplyFault (dt : Nat) (io : Bool) (s : State) : Host.Outcome State Fault Refusal :=
  .next (s.after dt (fun d => d.assertReset (if io then .ioSupply else .corePg)))

/-- POWER_GOOD (R461, R473, R533): the rising edge of RESET_N samples PRIMARY_STRAP, but for a reset of L2, and starts option loading; the waits for clock-good
start here. -/
def execPowerGood (dt : Nat) (primary : Bool) (s : State) : Host.Outcome State Fault Refusal :=
  .next (s.after dt (fun d =>
    if d.rst.pinLow && !d.rst.por then
      { d with rst := { d.rst with
          pinLow := false, primary := if d.rst.level = 2 then d.rst.primary else primary, optRun := true, held := d.rst.held.map (fun p => (p.1, some d.el)) } }
    else d))

/-- POR_RELEASE (R530): VAON has risen; AON starts with cleared retained memory. -/
def execPorRelease (dt : Nat) (s : State) : Host.Outcome State Fault Refusal :=
  .next (s.after dt (fun d => { d with rst := { d.rst with por := false, pinLow := true } }))

/-- TRIP_RELEASE (R543): every trip comparator reads below 95 °C; the THERMAL_TRIP reset is released; the waits for clock-good start here. -/
def execTripRelease (dt : Nat) (s : State) : Host.Outcome State Fault Refusal :=
  .next (s.after dt (fun d => { d with rst := { d.rst with trip := false, held := d.rst.held.map (fun p => (p.1, some d.el)) } }))

/-- CLOCK_GOOD (R27): an island's clock-good becomes true; the lanes of a quad whose PLL had lost lock return to stage 1 (R429). -/
def execClockGood (dt : Nat) (i : Fin 40) (s : State) : Host.Outcome State Fault Refusal :=
  .next (s.after dt (fun d =>
    let d := { d with rst := { d.rst with clkGood := d.rst.clkGood ||| BitVec.ofNat 40 (2 ^ i.val) } }
    if h : 3 ≤ i.val ∧ i.val < 16 then (if d.isHeld (.lq ⟨i.val - 3, by omega⟩) then d else d.pllLocked (i.val - 3)) else d))

/-- CLOCK_GOOD_LOSS (R27): it becomes false at once; that of AON stays true (R46). In a lane quad that is the loss of its PLL's lock (R429). -/
def execClockGoodLoss (dt : Nat) (i : Fin 40) (s : State) : Host.Outcome State Fault Refusal :=
  .next (s.after dt (fun d =>
    if i.val = 0 then d
    else
      let d := if 3 ≤ i.val && i.val < 16 then d.pllUnlock (i.val - 3) else d
      { d with rst := { d.rst with clkGood := d.rst.clkGood &&& ~~~ BitVec.ofNat 40 (2 ^ i.val) } }))

/-- A unit may be released (R467, R473): its reset has ended, its islands' clock-good is true, option loading is complete. -/
def Dev.releasable (d : Dev) (u : RUnit) : Bool :=
  d.isHeld u && !d.rst.pinLow && !d.rst.por && !d.rst.trip && d.rdB a_CFG_OPT_STAT f_CFG_OPT_STAT_DONE &&
  u.islands.all d.clockGood && !failedStack
where
  /-- A stack that failed its training at start-up stays in reset (R405). -/
  failedStack : Bool := match u with | .hbm k => (lget d.mem.stack k .reset).pcs.isEmpty | _ => false

/-- The levels present on the balls become the accepted levels of the encoder inputs (R76, R82). -/
def senseEnc (senses : List Bool) (n : Nat) (e : EncSt) : EncSt :=
  EncSt.fromBalls { e with ball := bitN (lget senses (3 * n) false) 2 + bitN (lget senses (3 * n + 1) false) 1 + bitN (lget senses (3 * n + 2) false) 0 }

/-- What a unit does at its release: inputs take the levels present; TIME resumes from the saved time plus 2 ms (R361); MBX opens
mailbox 15 again in an established pair (R346). -/
def Dev.onRelease (d : Dev) (u : RUnit) (senses : List Bool) : Dev :=
  match u with
  | .wpu =>
    let d := { d with wpu := { d.wpu with enc := d.wpu.enc.mapIdx (senseEnc senses) } }
    if d.acquiring then d.lineStart 0 false else d
  | .evt =>
    { d with evt := { d.evt with evio := d.evt.evio.mapIdx (fun n x =>
        { x with level := (lget senses n false) != d.inB (a_EVT_EVIO_CFG n) f_EVT_EVIO_CFG_INV }) } }
  | .time =>
    let d := resume d
    let d := d.ppsRestart.emit (.pin .ppsOut .low)
    if d.rdB a_TIME_PTP_CFG f_TIME_PTP_CFG_EN then (({ d with clk := { d.clk with ptpAnnAt := d.el } } : Dev).setPtpState 4) else d
  | .dsp => iter 8 (fun f d => d.startFilter f) ((d.clkPin 0).clkPin 1)
  | .cls =>
    let id := d.rdF a_CLS_ROLL_CTRL f_CLS_ROLL_CTRL_NEXT_ID
    let d := { d with cls := { ClsSt.reset with rolls := [⟨id, .empty, true, none, 0, none, 3, none, none⟩] } }
    (d.wrF a_CLS_ROLL_CTRL f_CLS_ROLL_CTRL_NEXT_ID (id + 1)).wrF a_CLS_ROLL_STAT f_CLS_ROLL_STAT_CUR_ID id
  | .mos => if d.acquiring then { d with mos := { d.mos with regAt := [(0, d.staticRegs)] } } else d
  | .seg => if d.acquiring then d.segEnter d.wpu.ctx else d
  | .hbm k =>
    let x := lget d.mem.stack k .reset
    let pcs := x.pcs.map (fun (p : PcSt) => if p.mode = .off || p.mode = .zeroing then p else { p with mode := .active, since := d.el, at_ := d.el })
    let d := ({ d with mem := { d.mem with stack := lset d.mem.stack k { x with pcs := pcs } } } : Dev).showRetired k
    match k.val, d.mem.limit with
    | 0, some n => d.wrF (a_HBM_LOFT_LIMIT 0) f_HBM_LOFT_LIMIT_V n
    | _, _ => d
  | .lq _ | .tpt _ | .rdg => d.startLanes u
  | .mbx => if d.established then d.ownChange (fun d => d.wrB (a_MBX_CFG 15) f_MBX_CFG_EN true) else d
  | _ => d
where
  /-- Device time after a release (R361). -/
  resume (d : Dev) : Dev :=
    if d.clk.savedTime = 0 ∧ d.clk.savedEpoch = 0 ∧ d.clk.acc = 0 then d
    else
      let t := d.clk.savedTime + 2000000
      let d := { d with clk := { d.clk with acc := (t.setWidth 112) <<< 48, epoch := d.clk.savedEpoch } }
      (d.wrB a_TIME_STAT f_TIME_STAT_RESTARTED true).wrF a_TIME_STAT f_TIME_STAT_EPOCH d.clk.epoch.toNat

/-- BLOCK_RELEASE (R467, R468): a unit whose reset has ended is released; its NV fields hold what option loading applied. -/
def execBlockRelease (dt : Nat) (u : RUnit) (senses : List Bool) (s : State) : Host.Outcome State Fault Refusal :=
  .next (s.after dt (fun d =>
    if d.releasable u then
      let d := { d with rst := { d.rst with held := d.rst.held.filter (fun p => p.1 ≠ u) } }
      d.onRelease u senses
    else d))

/-- CLK_GOOD_TIMEOUT (R467): 10 ms after the reset ended clock-good is still false; the block stays in reset, the island's bit of
CLK_TIMEOUT is set and RESET_CLK_TIMEOUT reported. -/
def execClkGoodTimeout (dt : Nat) (i : Fin 40) (s : State) : Host.Outcome State Fault Refusal :=
  .next (s.after dt (fun d =>
    let due := d.rst.held.any (fun p => p.1.islands.contains i.val && (match p.2 with | some t => t + 10000000 ≤ d.el | none => false))
    let v := d.rdF a_RST_CLK_TIMEOUT f_RST_CLK_TIMEOUT_TIMEOUT
    if due && !d.clockGood i && !v.testBit i then
      (d.flag a_RST_CLK_TIMEOUT f_RST_CLK_TIMEOUT_TIMEOUT (2 ^ i.val)).reportErr 0x13 43 i
    else d))

/-- Write of RST.CLK_TIMEOUT: each 1 clears its bit and starts the 10 ms wait of its island again (R467). -/
def Dev.clkTimeoutWrite (d : Dev) (data : W64) : Dev :=
  let n := fget data f_RST_CLK_TIMEOUT_TIMEOUT
  let v := d.rdF a_RST_CLK_TIMEOUT f_RST_CLK_TIMEOUT_TIMEOUT
  let hit (u : RUnit) : Bool := u.islands.any (fun i => (n &&& v).testBit i)
  let d := d.wrF a_RST_CLK_TIMEOUT f_RST_CLK_TIMEOUT_TIMEOUT (v &&& (2 ^ 40 - 1 - n))
  { d with rst := { d.rst with held := d.rst.held.map (fun p => if hit p.1 then (p.1, some d.el) else p) } }

/-- IDLE_TIMEOUT (R466, R31): a unit not idle after IDLE_US is reset anyway, and what its junctions hold is discarded. -/
def execIdleTimeout (dt : Nat) (u : RUnit) (s : State) : Host.Outcome State Fault Refusal :=
  .next (s.after dt (fun d =>
    if d.rst.idle.any (fun q => q.unit = u && q.deadline ≤ d.el) then
      let d := d.inc a_RST_IDLE_STAT f_RST_IDLE_STAT_IDLE_TIMEOUT_CNT
      let d := d.discardJunctions u
      d.resetNow u
    else d))

/-- The register block whose base an address is (R44): for LQ and TPT window 0 alone; RNG and TBL are no blocks. -/
def blockAtBase (a : Nat) : Option RUnit :=
  match unitAt a with
  | none => none
  | some u =>
    if u.base ≠ a then none
    else
      match u with
      | .lq q => if q.val = 0 then some u else none
      | .tpt p => if p.val = 0 then some u else none
      | .rng => none
      | u => some u

/-- Write of RST.BLOCK_RST (R464, R481): asserts SW_BLOCK for the block named; a block of the AON island, and anything that is no
block's base, is discarded and logged. -/
def Dev.blockRstWrite (d : Dev) (data : W32) (src : AccSrc) : Dev :=
  let v := data.setWidth 64
  match blockAtBase (fget v f_RST_BLOCK_RST_BASE_4K * 0x1000) with
  | none => d.lockViolation a_RST_BLOCK_RST src
  | some u =>
    if u.islands = [0] then d.lockViolation a_RST_BLOCK_RST src
    else d.assertReset (.swBlock u (fbit v f_RST_BLOCK_RST_ISLAND))

/-- Write of RST.DEV_RST: the key asserts SW_DEVICE; any other value is discarded and logged (R464). -/
def Dev.devRstWrite (d : Dev) (data : W32) (src : AccSrc) : Dev :=
  if fget (data.setWidth 64) f_RST_DEV_RST_KEY = 0x5253 then d.assertReset .swDevice else d.lockViolation a_RST_DEV_RST src

/-- KEEL_LOCKSTEP (R502): a disagreement of the Keel's cores is copied to ERR.LAST_FATAL and asserts its own source. -/
def execKeelLockstep (dt : Nat) (s : State) : Host.Outcome State Fault Refusal :=
  .next (s.after dt (fun d => (d.reportErr 0x03 43 0).assertReset .keelLockstep))

/-- SMB_RESET (R541): SMBus command 0x10 with 0x52 asserts source SMBUS. -/
def execSmbReset (s : State) : Host.Outcome State Fault Refusal := .next (s.after 0 (fun d => d.assertReset .smbus))

/-- JTAG_RESET (R464): the JTAG_RESET instruction asserts source JTAG. -/
def execJtagReset (s : State) : Host.Outcome State Fault Refusal := .next (s.after 0 (fun d => d.assertReset .jtag))

/-- STARTUP_COMPLETE (R480 step 8, R548, R58): STANDBY, or SAFE_HOLD with the cause kept, is entered as STARTING becomes 0, and the
mode's ballast profile is loaded (R74). -/
def execStartupComplete (dt : Nat) (s : State) : Host.Outcome State Fault Refusal :=
  .next (s.after dt (fun d =>
    if d.mode.starting && d.rdB a_CFG_OPT_STAT f_CFG_OPT_STAT_DONE && d.rst.fwDone && d.rst.hbmDone.all id then
      let m : Mode := if d.mode.bootCause.isSome then .safeHold else .standby
      let alert := d.smbAlert
      let d := { d with
        mode := { d.mode with starting := false, cur := m, safeCause := d.mode.bootCause.getD 0, bootCause := none }
        rst := { d.rst with level := 0 } }
      let d := if m == .safeHold then d.wpuPinsSafe.evioPinsSafe else d
      (d.alertFrom alert).loadProfile m.code
    else d))

end Sys2Proof.Machine
end

