-- ==== Sys2Proof/Machine/Rings.lean ====
section
/-! DEFINITION. Rings, staging, DMA copies, interrupt messages and Ethernet streams (R297 to R315, R322). -/

namespace Sys2Proof.Machine

/-! ### Contexts (R303 to R305) -/

/-- The 64 bytes of a ring context (R304). -/
def RingCtx.bytes (c : RingCtx) : List Byte :=
  let b (v : Bool) (k : Nat) : Nat := if v then 2 ^ k else 0
  padTo (leBytes 8 c.descBase.toNat ++ [BitVec.ofNat 8 (c.typ.toNat + b c.loc 4 + b c.ro 5 + b c.flushLast 6 + b c.en 7), c.log2Size, c.log2Buf,
    c.dest] ++ leBytes 2 c.vector.toNat ++ leBytes 2 c.coalDesc.toNat ++ leBytes 2 c.coalUs.toNat ++ leBytes 2 c.flushUs.toNat ++
    leBytes 2 c.head.toNat ++ leBytes 2 c.tail.toNat ++ leBytes 4 c.stageKib.toNat ++ leBytes 4 c.dropCnt.toNat ++
    leBytes 4 (ceilDiv c.staged 1024) ++ leBytes 4 c.offCnt.toNat ++ leBytes 8 c.items.toNat ++ zeros 8 ++ [BitVec.ofNat 8 (b c.armed 0), c.err]) 64

/-- The writable fields of a context taken from its bytes; EN and what the device keeps stay. -/
def RingCtx.take (c : RingCtx) (bs : List Byte) : RingCtx :=
  let f := leAt bs 8 1
  { c with
    descBase := BitVec.ofNat 64 (leAt bs 0 8), typ := BitVec.ofNat 4 f, loc := f.testBit 4, ro := f.testBit 5, flushLast := f.testBit 6
    log2Size := BitVec.ofNat 8 (leAt bs 9 1), log2Buf := BitVec.ofNat 8 (leAt bs 10 1), dest := BitVec.ofNat 8 (leAt bs 11 1)
    vector := BitVec.ofNat 16 (leAt bs 12 2), coalDesc := BitVec.ofNat 16 (leAt bs 14 2), coalUs := BitVec.ofNat 16 (leAt bs 16 2)
    flushUs := BitVec.ofNat 16 (leAt bs 18 2), stageKib := BitVec.ofNat 32 (leAt bs 24 4) }

/-- Bytes of one descriptor of a ring (R307, R314, R330). -/
def RingCtx.descSize (c : RingCtx) : Nat := if c.typ = 3 then 32 else 16

/-- Descriptors of a ring. -/
def RingCtx.size (c : RingCtx) : Nat := 2 ^ c.log2Size.toNat

/-- TYPE may stand on ring r for the host (R303, R329). -/
def typeAllowed (r typ : Nat) : Bool :=
  match typ with
  | 0 => r ≠ 15
  | 1 => r ≠ 15
  | 2 => r < 15
  | 3 => 16 ≤ r
  | 4 => 16 ≤ r
  | _ => false

/-- The first failure of a context for ring r, 0 where it is valid (R304, R305). -/
def Dev.ringErr (d : Dev) (r : Nat) (c : RingCtx) : Nat :=
  let t := c.typ.toNat
  let host : Bool := t = 1 || t = 2 || t = 3
  let others := ((d.host.rings.filter (fun p => p.1 ≠ r && p.2.en)).map (fun p => p.2.stageKib.toNat)).foldl (· + ·) 0
  let pool := fget (d.dflt a_PCX_STAGE_CFG) f_PCX_STAGE_CFG_SIZE_MIB * 1024
  if host && c.descBase.toNat % 64 ≠ 0 then 1
  else if (host && (c.log2Size.toNat < 3 || 15 < c.log2Size.toNat)) || (t = 1 && (c.log2Buf.toNat < 12 || 20 < c.log2Buf.toNat)) ||
      65535 < c.stageKib.toNat then 2
  else if !typeAllowed r t then 3
  else if 2047 < c.vector.toNat && c.vector ≠ 0xFFFF then 4
  else if t = 4 && (63 < c.dest.toNat || d.rdF (a_ETH_DEST c.dest.toNat) f_ETH_DEST_IPV4 = 0) then 5
  else if host && c.loc && d.outside c.descBase.toNat (c.size * c.descSize) then 7
  else if pool < others + c.stageKib.toNat then 8
  else 0

/-- Items of ring r are lost: counted in OFF_CNT, and a response in RESP_DROP (R305, R346). -/
def Dev.loseItems (d : Dev) (r : Nat) (xs : List RingItem) : Dev :=
  let c := d.ring r
  let d := d.setRing r { c with offCnt := BitVec.ofNat 32 (min (c.offCnt.toNat + xs.length) (2 ^ 32 - 1)) }
  let n := (xs.filter (fun x => x.mailbox.isSome)).length
  if n = 0 then d else d.inc a_MBX_STAT f_MBX_STAT_RESP_DROP n

/-! ### Messages (R315) -/

/-- A ring sends its message: ARMED clears. -/
def Dev.ringMessage (d : Dev) (r : Nat) : Dev :=
  let c := d.ring r
  if c.vector = 0xFFFF then d
  else
    let d := (d.setRing r { c with armed := false }).msix c.vector.toNat
    d.setRun r { d.ringRun r with unrep := 0 }

/-- An armed ring with COAL_DESC completions since its last message sends one. -/
def Dev.ringIrq (d : Dev) (r : Nat) : Dev :=
  let c := d.ring r
  if c.armed && max 1 c.coalDesc.toNat ≤ (d.ringRun r).unrep then d.ringMessage r else d

/-- RING_COALESCE_TIMER: COAL_US has passed since the first completion not yet reported. -/
def Dev.ringTimer (d : Dev) (r : Nat) : Dev :=
  let c := d.ring r
  let x := d.ringRun r
  if c.en && c.armed && c.coalUs.toNat ≠ 0 && x.unrep ≠ 0 && x.unrepAt + c.coalUs.toNat * 1000 ≤ d.el then d.ringMessage r else d

/-- RING_COALESCE_TIMER (R315). -/
def execRingCoalesceTimer (dt : Nat) (r : Fin 4096) (s : State) : Host.Outcome State Fault Refusal := .next (s.after dt (fun d => d.ringTimer r))

/-- Messages whose vector is not masked leave once outbound transfers run (R302, R315). -/
def Dev.msixFlush (d : Dev) : Dev :=
  if !d.outboundOk then d
  else
    let go := d.host.msixPend.filter d.msixOpen
    let d := { d with host := { d.host with msixPend := d.host.msixPend.filter (fun v => !d.msixOpen v) } }
    go.foldl (fun d v => d.emit (.msix v)) d

/-- A vector is unmasked, or masked. -/
def Dev.msixMask (d : Dev) (v : Nat) (masked : Bool) : Dev :=
  let rest := d.host.unmasked.filter (fun x => x ≠ v)
  ({ d with host := { d.host with unmasked := if masked then rest else rest ++ [v] } } : Dev).msixFlush

/-- MSIX_UNMASK (R315). -/
def execMsixUnmask (v : Fin 2048) (s : State) : Host.Outcome State Fault Refusal := .next (s.after 0 (fun d => d.msixMask v false))

/-! ### Buffers and datagrams (R307, R310, R311, R322) -/

/-- MTU in force. -/
def Dev.mtu (d : Dev) : Nat := clampN (d.rdF a_ETH_CFG f_ETH_CFG_MTU) 1500 9000

/-- Bytes of fragments that a buffer, or a datagram, of ring r takes. -/
def Dev.bufSize (d : Dev) (r : Nat) : Nat := let c := d.ring r; if c.typ = 4 then d.mtu - 44 else 2 ^ c.log2Buf.toNat

/-- Rate of Ethernet port i in Mb/s, 0 while its lane is not up (R321, R418). -/
def Dev.ethMbps (d : Dev) (i : Nat) : Nat :=
  if (lget d.lanes (48 + i) .reset).step ≠ 6 then 0
  else
    match d.inF a_ETH_CFG f_ETH_CFG_PORT_MODE with
    | 1 => 25000
    | 2 => if i < 2 then 50000 else 0
    | _ => if i = 0 then 10000 else 0

/-- An address kept by elapsed time. -/
def busyAt (l : List (Nat × Nat)) (k : Nat) : Nat := alGet l k 0

/-- A datagram may start for destination x: configured, its port up, its cap and its port's capacity free (R322). -/
def Dev.destFree (d : Dev) (x : Nat) : Bool :=
  let v := d.rd (a_ETH_DEST x)
  let p := fget v f_ETH_DEST_PORT
  !d.isHeld .eth && fget v f_ETH_DEST_IPV4 ≠ 0 && d.ethMbps p ≠ 0 && busyAt d.host.destBusy x ≤ d.el && busyAt d.host.portBusy p ≤ d.el

/-- Send a datagram to destination x from VIEW_PORT; cap and capacity are used, after what uses them already (R322). -/
def Dev.sendDest (d : Dev) (x : Nat) (bytes : List Byte) : Dev :=
  let v := d.rd (a_ETH_DEST x)
  let l2 := d.rd (a_ETH_DEST_L2 x)
  let p := fget v f_ETH_DEST_PORT
  let bits := (bytes.length + 28) * 8
  let time (mbps : Nat) : Nat := if mbps = 0 then 0 else bits * 1000 / mbps
  let h := d.host
  let d := { d with host := { h with
    destBusy := alSet h.destBusy x (max d.el (busyAt h.destBusy x) + time (fget v f_ETH_DEST_RATE * 100))
    portBusy := alSet h.portBusy p (max d.el (busyAt h.portBusy p) + time (d.ethMbps p)) } }
  let tag := (if fbit v f_ETH_DEST_VLAN_EN then 2 ^ 18 else 0) + fget v f_ETH_DEST_VLAN_ID * 64 + fget v f_ETH_DEST_DSCP
  d.sendUdp p (BitVec.ofNat 32 (fget v f_ETH_DEST_IPV4)) (BitVec.ofNat 48 (fget l2 f_ETH_DEST_L2_MAC)) d.viewUdp
    (BitVec.ofNat 16 (fget l2 f_ETH_DEST_L2_UDP_PORT)) tag bytes

/-- Ring r has a buffer to fill (R302, R306, R312, R322). -/
def Dev.hasBuffer (d : Dev) (r : Nat) : Bool :=
  let c := d.ring r
  if c.typ = 4 then d.destFree c.dest.toNat
  else c.typ = 1 && (c.loc || d.outboundOk) && c.posted ≠ 0

/-- PHASE of descriptor HEAD (R307). -/
def RingCtx.phase (c : RingCtx) : Nat := 1 - c.head.toNat / c.size % 2

/-- Address of descriptor HEAD. -/
def RingCtx.descAddr (c : RingCtx) : Nat := c.descBase.toNat + c.head.toNat % c.size * c.descSize

/-- The ballast client that ring DMA of a content is charged to (R313). -/
def contentClient (content : Nat) : Nat :=
  match content with
  | 3 => 12 | 4 => 22 | 5 => 14 | 6 => 13 | 7 => 4 | _ => 3

/-- The client that a ring's own descriptors and envelopes are charged to (R313, R331). -/
def ringClient (c : RingCtx) : Nat := if c.typ = 3 then 20 else 3

/-- n bytes move for a ring: HBM units where its memory lies in the stacks, otherwise ring DMA (R313). -/
def Dev.chargeRing (d : Dev) (c : RingCtx) (client n : Nat) : Dev :=
  if c.typ = 4 || n = 0 then d else d.charge client (if c.loc then hbmUnits n else ⟨0, 0, 0, 0, units64 n⟩)

/-- The client has no budget left in this window for what a ring moves (R70, R313). -/
def Dev.ringShort (d : Dev) (c : RingCtx) (client : Nat) : Bool :=
  if c.typ = 4 then false
  else if c.loc then d.exhausted client (.hbm 0) || d.exhausted client (.hbm 1)
  else d.exhausted client .dma

/-- Write bytes where the ring's memory lies; Relaxed Ordering only for payload of a ring with RO (R301). -/
def Dev.ringWriteMem (d : Dev) (c : RingCtx) (a : Nat) (payload best : Bool) (bs : List Byte) : Dev :=
  if bs.isEmpty then d else if c.loc then d.hbmPut a bs else d.hostPut a (payload && c.ro) best bs

/-- Descriptors of a ring in host memory are read ahead, at most 8 (R306; log entry 130). -/
def Dev.prefetch (d : Dev) (r : Nat) : Dev :=
  let c := d.ring r
  let x := d.ringRun r
  let want := min 8 c.posted
  if c.loc || c.typ = 4 || !c.en || !d.outboundOk || want ≤ x.fetched then d
  else
    let client := ringClient c
    let d := iter (want - x.fetched) (fun k d =>
      d.hostGet (c.descBase.toNat + (c.head.toNat + x.fetched + k) % c.size * c.descSize) (11 ≤ client) c.descSize) d
    (d.chargeRing c client ((want - x.fetched) * c.descSize)).setRun r { x with fetched := want }

/-- A descriptor has been used: HEAD moves on, and the completion is reported by R315. -/
def Dev.descDone (d : Dev) (r : Nat) : Dev :=
  let c := d.ring r
  let d := d.setRing r { c with head := c.head + 1 }
  let x := d.ringRun r
  ((d.setRun r { x with
    posted := x.posted.drop 1, fetched := x.fetched - 1, unrep := x.unrep + 1
    unrepAt := if x.unrep = 0 then d.el else x.unrepAt }).ringIrq r).prefetch r

/-- The buffer, or datagram, in progress completes: payload, then write-back, then any message (R311); `flushed` by the timer. -/
def Dev.completeBuffer (d : Dev) (r : Nat) (flushed : Bool) : Dev :=
  let c := d.ring r
  let x := d.ringRun r
  if x.frags = 0 then d
  else
    let d := d.setRun r { x with buf := [], frags := 0, best := false }
    if c.typ = 4 then
      let h := leBytes 2 0x5A16 ++ [1, 1] ++ leBytes 2 r ++ [0, 0] ++ leBytes 8 x.dgram.toNat
      (d.setRun r { d.ringRun r with dgram := x.dgram + 1 }).sendDest c.dest.toNat (h ++ x.buf)
    else
      let d := d.ringWriteMem c (x.posted.headD 0).toNat true x.best x.buf
      let back := leBytes 4 x.buf.length ++ leBytes 2 x.frags ++ [BitVec.ofNat 8 (c.phase + (if flushed then 2 else 0)), 0]
      ((d.ringWriteMem c (c.descAddr + 8) false (11 ≤ x.client) back).chargeRing c x.client back.length).descDone r

/-- A ring stops: what it staged is discarded, and so are the fragments still to come of an object begun (R305); a mailbox's commands not started
have no effect (R357). -/
def Dev.ringStop (d : Dev) (r err : Nat) : Dev :=
  let c := d.ring r
  let x := d.ringRun r
  let begun (i : RingItem) : Bool := i.ring = r && i.fseq ≠ 0
  let lost := x.stage ++ d.host.queue.filter begun
  let d := d.setRing r { c with en := false, staged := 0, err := BitVec.ofNat 8 err }
  let d := { d with host := { d.host with queue := d.host.queue.filter (fun i => !begun i) } }
  let d := (d.setRun r .empty).loseItems r lost
  if h : r < 16 then d.cancelWaiting ⟨r, h⟩ else d

/-- A ring meets a DMA error, or a buffer address that cannot be used: ERR, EN = 0, RING_DMA_ERR (R304, R305). -/
def Dev.ringFail (d : Dev) (r err : Nat) : Dev :=
  ((d.inc a_PCX_STAT f_PCX_STAT_DMA_ERR_CNT).ringStop r err).reportErr 0x20 41 r

/-- The buffer at HEAD is opened: its address is read, and checked (R307); the code of an address that cannot be used. -/
def Dev.openBuffer (d : Dev) (rd : Nat → Nat → List Byte) (r : Nat) : Dev × Nat :=
  let c := d.ring r
  let x := d.ringRun r
  if c.typ = 4 || x.frags ≠ 0 then (d, 0)
  else
    let x := if c.loc then { x with posted := [BitVec.ofNat 64 (leNat (rd c.descAddr 8))] } else x
    let a := (x.posted.headD 0).toNat
    let d := if c.loc then d.hbmGot c.descAddr 16 else d.prefetch r
    let x := { x with fetched := (d.ringRun r).fetched }
    let e := if a % 64 ≠ 0 then 1 else if c.loc && d.outside a (2 ^ c.log2Buf.toNat) then 7 else 0
    (d.setRun r x, e)

/-- Payload of a loft export has been delivered (R350). -/
def Dev.exportSent (d : Dev) (obj n : Nat) : Dev :=
  match d.cls.exp with
  | some x => if x.obj = obj then { d with cls := { d.cls with exp := some { x with sent := x.sent + n } } } else d
  | none => d

/-- A fragment of item x joins the buffer in progress: payload bytes from `off`, whether it is the last of its item (R308, R310). -/
def Dev.putFragment (d : Dev) (r : Nat) (x : RingItem) (payload : List Byte) (last : Bool) : Dev :=
  let k := d.ringRun r
  let flags := (if x.fseq = 0 then 1 else 0) + (if last then 2 else 0) + (if last && x.trunc then 4 else 0) + (if k.dropped then 8 else 0)
  let h := [BitVec.ofNat 8 x.content, BitVec.ofNat 8 flags, 0, 0] ++ leBytes 4 payload.length ++ leBytes 4 x.objId.toNat ++ leBytes 4 x.fseq ++
    leBytes 8 x.off ++ leBytes 8 x.tag.toNat
  let bytes := h ++ padMul payload 8
  let client := contentClient x.content
  let k := { k with
    buf := k.buf ++ bytes, frags := k.frags + 1, bufAt := if k.frags = 0 then d.el else k.bufAt, dropped := false
    client := if k.frags = 0 then client else k.client, best := k.best || decide (11 ≤ client) }
  let d := (d.setRun r k).chargeRing (d.ring r) client bytes.length
  let d := if x.content = 5 then d.exportSent x.objId.toNat payload.length else d
  let c := d.ring r
  let d := if last then d.setRing r { c with items := c.items + 1 } else d
  if last && c.flushLast then d.completeBuffer r false else d

/-! ### Delivery (R309, R312) -/

/-- Contents that are objects. -/
def RingItem.isObject (x : RingItem) : Bool := x.content ∈ [3, 4, 5, 6]

/-- Contents under flow control (R312). -/
def RingItem.flows (x : RingItem) : Bool := x.content ∈ [3, 5, 6]

/-- Payload bytes the next fragment of an object may have in the buffer in progress, and in an empty one. -/
def fragSpace (size used : Nat) : Nat := (size - used - 32) / 8 * 8

/-- What delivering an item came to: nothing, a fragment with more to follow, or its end. -/
inductive Placed
  | none_ | part | done
  deriving DecidableEq, Repr

/-- Place an unfragmented item, or one fragment of an object, of ring r; the item as it then is. -/
def Dev.place (d : Dev) (rd : Nat → Nat → List Byte) (r : Nat) (x : RingItem) : Dev × RingItem × Placed :=
  let size := d.bufSize r
  let used := (d.ringRun r).buf.length
  let len := 32 + (padMul x.body 8).length
  let full : Bool := if x.isObject then fragSpace size used < 256 else size < used + len
  let d := if used ≠ 0 && full then d.completeBuffer r false else d
  if !d.hasBuffer r then (d, x, .none_)
  else
    let (d, e) := d.openBuffer rd r
    if e ≠ 0 then (d.ringFail r e, x, .none_)
    else
      let used := (d.ringRun r).buf.length
      if !x.isObject then
        if size < len then
          let c := d.ring r
          let d := d.setRing r { c with dropCnt := BitVec.ofNat 32 (min (c.dropCnt.toNat + 1) (2 ^ 32 - 1)) }
          (d.setRun r { d.ringRun r with dropped := true }, x, .done)
        else (d.putFragment r x x.body true, x, .done)
      else
        let space := fragSpace size used
        let rest := x.body.length - x.off
        if !x.complete && rest < space then (d, x, .none_)
        else
          let n := min space rest
          let last := x.complete && decide (rest ≤ space)
          let d := d.putFragment r x (slice x.body x.off n) last
          (d, { x with off := x.off + n, fseq := x.fseq + 1 }, if last then .done else .part)

/-- The item of ring r to deliver next: its position in the queue. A later unfragmented item goes between the fragments of an object begun. -/
def nextItem (r : Nat) (queue : List RingItem) : Option Nat :=
  match queue.findIdx? (fun x => x.ring = r) with
  | none => none
  | some i =>
    match queue[i]? with
    | some x => if x.isObject && x.fseq ≠ 0 then some ((queue.findIdx? (fun y => y.ring = r && !y.isObject)).getD i) else some i
    | none => none

/-- Replace an item of the queue, or take it out. -/
def setQueue (queue : List RingItem) (i : Nat) : Option RingItem → List RingItem
  | some x => queue.set i x
  | none => queue.eraseIdx i

/-- An item that finds no buffer is staged in order, or dropped (R312). -/
def Dev.stageItem (d : Dev) (r : Nat) (x : RingItem) : Dev :=
  let c := d.ring r
  let n := 32 + (padMul x.body 8).length
  if c.staged + n ≤ c.stageKib.toNat * 1024 then
    let k := d.ringRun r
    ((d.setRing r { c with staged := c.staged + n }).setRun r { k with stage := k.stage ++ [x] }).charge (contentClient x.content) (hbmUnits n)
  else
    let d := d.setRing r { c with dropCnt := BitVec.ofNat 32 (min (c.dropCnt.toNat + 1) (2 ^ 32 - 1)) }
    let d := d.setRun r { d.ringRun r with dropped := true }
    let d := if x.mailbox.isSome then d.inc a_MBX_STAT f_MBX_STAT_RESP_DROP else d
    d.reportLimited 0x22 r 41 r 1000000000

/-- The sources of objects go on where their ring has taken bytes. -/
def Dev.feedSources (d : Dev) (rd : Nat → Nat → List Byte) : Dev := (((d.cropGo rd).exportPump rd).recPump rd).exportCheck

/-- Without a buffer the first item not under flow control is staged or dropped; staging uses its client's budget too (R312, R313). -/
def Dev.waitOne (d : Dev) (r : Nat) : Dev :=
  let q := d.host.queue
  match q.findIdx? (fun x => x.ring = r && !x.flows) with
  | none => d
  | some i =>
    match q[i]? with
    | none => d
    | some x =>
      let c := contentClient x.content
      if (d.ring r).stageKib ≠ 0 && (d.exhausted c (.hbm 0) || d.exhausted c (.hbm 1)) then d.noteShort c
      else ({ d with host := { d.host with queue := setQueue q i none } } : Dev).stageItem r x

/-- What ring r delivers next: its oldest staged item (none for the position), or an item of the queue. A staged object does not begin while another
is being delivered (R309). -/
def Dev.nextFor (d : Dev) (r : Nat) : Option (RingItem × Option Nat) :=
  let q := d.host.queue
  let queued : Option (RingItem × Option Nat) := (nextItem r q).bind (fun i => q[i]?.map (fun x => (x, some i)))
  match (d.ringRun r).stage with
  | x :: _ => if x.isObject && x.fseq = 0 && q.any (fun y => y.ring = r && y.isObject && y.fseq ≠ 0) then queued else some (x, none)
  | [] => queued

/-- Item x is placed in the buffer in progress or the next one (R309, R310). -/
def Dev.deliverItem (d : Dev) (rd : Nat → Nat → List Byte) (r : Nat) (x : RingItem) (pos : Option Nat) : Dev :=
  let (d, x', p) := d.place rd r x
  match pos with
  | none =>
    let more := (d.ringRun r).stage.drop 1
    let n := 32 + (padMul x.body 8).length
    match p with
    | .none_ => d
    | .part => d.setRun r { d.ringRun r with stage := x' :: more }
    | .done =>
      let c := d.ring r
      ((d.setRing r { c with staged := c.staged - n }).setRun r { d.ringRun r with stage := more }).charge (contentClient x.content) (hbmUnits n)
  | some i =>
    let d := match p with
      | .none_ => d
      | .part => { d with host := { d.host with queue := setQueue d.host.queue i (some x') } }
      | .done => { d with host := { d.host with queue := setQueue d.host.queue i none } }
    if p = .none_ && (d.ring r).en && !d.hasBuffer r then d.waitOne r else d.feedSources rd

/-- One delivery on ring r: a staged item first; otherwise the next item of its queue is placed, staged, dropped, or left waiting under flow
control. What its client has no budget for stays for a later window (R70, R313). -/
def Dev.ringDeliver (d : Dev) (rd : Nat → Nat → List Byte) (r : Nat) (dmaOk : Bool) : Dev :=
  let c := d.ring r
  let q := d.host.queue
  if !c.en || !(c.typ = 1 || c.typ = 4) then
    match q.findIdx? (fun x => x.ring = r) with
    | none => d
    | some i => (({ d with host := { d.host with queue := setQueue q i none } } : Dev).loseItems r (q.drop i |>.take 1)).feedSources rd
  else if c.typ = 1 && !c.loc && !dmaOk then d.ringFail r 6
  else
    match d.nextFor r with
    | none => d
    | some (x, pos) =>
      if !d.hasBuffer r then d.waitOne r
      else if d.ringShort c (contentClient x.content) then d.noteShort (contentClient x.content)
      else d.deliverItem rd r x pos

/-- RING_ITEM_DELIVER (R309). -/
def execRingItemDeliver (dt : Nat) (r : Fin 4096) (dmaOk : Bool) (s : State) : Host.Outcome State Fault Refusal :=
  .next (s.afterH dt (fun rd d => d.ringDeliver rd r dmaOk))

/-- BUFFER_FLUSH: FLUSH_US has passed since the first fragment of the buffer in progress (R310); a datagram waits for its destination (R322). -/
def Dev.bufferFlush (d : Dev) (r : Nat) : Dev :=
  let c := d.ring r
  let x := d.ringRun r
  if c.en && x.frags ≠ 0 && x.bufAt + max 1 c.flushUs.toNat * 1000 ≤ d.el && (if c.typ = 4 then d.destFree c.dest.toNat else c.loc || d.outboundOk) then
    d.completeBuffer r true
  else d

/-- BUFFER_FLUSH (R310). -/
def execBufferFlush (dt : Nat) (r : Fin 4096) (s : State) : Host.Outcome State Fault Refusal := .next (s.after dt (fun d => d.bufferFlush r))

/-! ### Context writes and doorbells (R305, R306) -/

/-- What a byte of a context allows: 0 always written, 1 while EN = 0, 2 never (R304). -/
def ctxRule (o : Nat) : Nat := if o < 12 then 1 else if o < 20 then 0 else if 24 ≤ o ∧ o < 28 then 1 else 2

/-- EN = 0 written: the ring is disabled, a buffer partly filled completing at once (R305); while outbound transfers are stopped it cannot, and what
it holds is lost (R302; log entry 116). -/
def Dev.ringDisable (d : Dev) (r : Nat) : Dev :=
  let c := d.ring r
  (if c.typ = 4 || c.loc || d.outboundOk then d.completeBuffer r false else d).ringStop r c.err.toNat

/-- A ring is enabled where its context is valid (R305). -/
def Dev.ringEnable (d : Dev) (r : Nat) (c : RingCtx) : Dev :=
  let e := d.ringErr r c
  if e ≠ 0 then d.setRing r { c with en := false, err := BitVec.ofNat 8 e }
  else (d.setRing r { c with en := true, head := 0, tail := 0, armed := true, err := 0, items := 0 }).setRun r .empty

/-- The byte of a ring's context can be written now. -/
def ctxAllowed (c : RingCtx) (o : Nat) : Bool := ctxRule o = 0 || (ctxRule o = 1 && !c.en)

/-- Something of a write of a ring's context from byte `lo` is discarded and logged: a field outside its condition (R304, R305). The fields that share
a 4-byte word with EN are logged where they would change, and bytes of no field where they are not zero (log entry 9). -/
def Dev.ringRefused (d : Dev) (r lo : Nat) (data : List Byte) (src : AccSrc) : Bool :=
  let c := d.ring r
  let old := c.bytes
  let at_ (o : Nat) : Byte := lget old o 0
  (r = 15 && c.en && src.isHost) || (data.mapIdx (fun i b => (lo + i, b))).any (fun p => !ctxAllowed c p.1 &&
    (if p.1 = 8 then decide (p.2 &&& 0x7F ≠ at_ 8 &&& 0x7F)
     else if p.1 < 12 && 8 < p.1 then decide (p.2 ≠ at_ p.1)
     else if (48 ≤ p.1 && p.1 < 56) || 58 ≤ p.1 then decide (p.2 ≠ 0)
     else true))

/-- Write of bytes of ring r's context from byte `lo`. -/
def Dev.ringWrite (d : Dev) (r lo : Nat) (data : List Byte) (src : AccSrc) : Dev :=
  let c := d.ring r
  let d := if d.ringRefused r lo data src then d.lockViolation (0x800000 + r * 64 + lo) src else d
  if r = 15 && c.en && src.isHost then d
  else
    let written := data.mapIdx (fun i b => (lo + i, b))
    let img := c.bytes.mapIdx (fun o b => match written.find? (fun p => p.1 = o) with | some p => if ctxAllowed c o then p.2 else b | none => b)
    let new := c.take img
    match written.find? (fun p => p.1 = 8) with
    | none => (d.setRing r new).ringIrq r
    | some p =>
      let en := p.2.toNat.testBit 7
      if en && !c.en then d.ringEnable r new
      else if !en && c.en then (d.setRing r new).ringDisable r
      else (d.setRing r new).ringIrq r

/-- A doorbell write of ring r (R306); `descs` holds BUF_ADDR of each descriptor posted, for a ring in host memory: what the device reads there when it
comes to the descriptor, at most 8 of them ahead. -/
def Dev.doorbell (d : Dev) (r : Nat) (data : Nat) (descs : List W64) : Dev :=
  let c := d.ring r
  if !c.en then d
  else
    let tail := BitVec.ofNat 16 data
    let n := (tail - c.head).toNat
    if c.size < n then (d.inc a_PCX_STAT f_PCX_STAT_DB_ERR_CNT).reportErr 0x21 41 r
    else
      let x := d.ringRun r
      let d := d.setRing r { c with tail := tail, armed := c.armed || data.testBit 31 }
      let posted := if c.loc then x.posted else ((x.posted ++ descs) ++ List.replicate (n - (x.posted ++ descs).length) 0).take n
      ((d.setRun r { x with posted := posted }).prefetch r).ringIrq r

/-! ### DMA copies (R314) -/

/-- The ranges of the stacks that a copy may not write while an acquiring mode is in force: the loft and the repeat bank in force. -/
def Dev.copyLocked (d : Dev) (a n : Nat) : Bool :=
  let b := (d.inForce a_CLS_LOFT_BASE).toNat
  (d.acquiring && decide (a < b + d.loftLines * d.loftSlot d.wpu.ctx) && decide (b < a + n)) || d.repLocked a n

/-- DMA_COPY: the descriptor at HEAD of a TYPE 3 ring. `desc` and `data` come from host memory: the descriptor where the ring lies there, and the
bytes read for a copy into the stacks. -/
def Dev.dmaCopy (d : Dev) (rd : Nat → Nat → List Byte) (r : Nat) (desc data : List Byte) (dmaOk : Bool) : Dev :=
  let c := d.ring r
  if !c.en || c.typ ≠ 3 || c.posted = 0 || !d.outboundOk then d
  else if d.exhausted 20 .dma || d.exhausted 20 (.hbm 0) || d.exhausted 20 (.hbm 1) then d.noteShort 20
  else
    let d := if c.loc then d.chargeRing c 20 32 else d.prefetch r
    let desc := if c.loc then rd c.descAddr 32 else desc
    let d := if c.loc then d.hbmGot c.descAddr 32 else d
    let host := leAt desc 0 8
    let hbm := leAt desc 8 8
    let n := leAt desc 16 4
    let out := (leAt desc 20 1).testBit 0
    let locked := !out && d.copyLocked hbm n
    let st := if host % 64 ≠ 0 || hbm % 64 ≠ 0 || n % 64 ≠ 0 || n < 64 || 16777216 < n then 4
      else if d.outside hbm n then 1
      else if locked then 3
      else if !dmaOk then 2
      else 0
    let d := if st = 0 || st = 2 then d.charge 20 { hbmUnits n with dma := units64 n } else d
    let d := if !out && (st = 0 || st = 2) then d.hostGet host true n else d
    let d := if st ≠ 0 then d
      else if out then (d.hbmGot hbm n).hostPut host false true (rd hbm n)
      else d.hbmPut hbm (padTo (data.take n) n)
    let d := if st = 3 then d.reportErr 0x0D 41 (addrInfo hbm .host) else d
    let d := ((d.ringWriteMem c (c.descAddr + 24) false true [BitVec.ofNat 8 (c.phase + st * 16)]).chargeRing c 20 1).descDone r
    if st = 2 then d.ringFail r 6 else d

/-- DMA_COPY (R314). -/
def execDmaCopy (dt : Nat) (r : Fin 4096) (desc : List Byte) (data : List Byte) (dmaOk : Bool) (s : State) : Host.Outcome State Fault Refusal :=
  .next (s.afterH dt (fun rd d => d.dmaCopy rd r desc data dmaOk))

/-! ### Outbound transfers (R302) -/

/-- A condition of R302 begins or ends. With the link the lanes that the link partner trained come up, at the rate it trained (R423). -/
def Dev.setLink (d : Dev) (why : LinkStop) (ok : Bool) : Dev :=
  match why with
  | .busMasterOff => { d with host := { d.host with busMaster := ok } }
  | .d3hot => { d with host := { d.host with d0 := ok } }
  | .linkDown =>
    (List.range 8).foldl (fun d k =>
      let l := 40 + k
      let r := Config.pcieRate d.clk.cyc k % 6
      if !ok then (if (d.lane l).step = 6 then d.laneStep l 1 else d)
      else if r = 0 then d
      else (d.laneStep l 6).wrF (lnStat l) f_LQ_LN_STAT_RATE r) { d with host := { d.host with linkUp := ok } }

/-- OUTBOUND_STOP (R302). -/
def execOutboundStop (dt : Nat) (why : LinkStop) (s : State) : Host.Outcome State Fault Refusal :=
  .next (s.after dt (fun d => d.setLink why false))

/-- OUTBOUND_RESUME: delivery goes on from staging in order, and messages held leave (R302), with what the host has programmed in the
configuration space by then (log entry 112). -/
def execOutboundResume (dt : Nat) (why : LinkResume) (s : State) : Host.Outcome State Fault Refusal :=
  .next (s.after dt (fun d => (({ d with host := { d.host with ctl := why.ctl } } : Dev).setLink why.why true).msixFlush))

end Sys2Proof.Machine
end

