-- ==== Sys2Proof/Machine/Views.lean ====
section
/-! DEFINITION. The Ethernet ports and live views (R321, R323 to R326). -/

namespace Sys2Proof.Machine

/-! ### Frames received (R321) -/

/-- A received frame that the device has no use for is counted and discarded (R321); a PTP message it does not support, in RX_DISCARD (R369). -/
def Dev.frameDrop (d : Dev) (ptp : Bool) : Dev :=
  if ptp then d.inc a_TIME_PTP_STAT f_TIME_PTP_STAT_RX_DISCARD
  else if d.isHeld .eth then d
  else { d with host := { d.host with ethDropped := d.host.ethDropped + 1 } }

/-- FRAME_DISCARD (R321). -/
def execFrameDiscard (dt : Nat) (port : Fin 4) (ptp : Bool) (s : State) : Host.Outcome State Fault Refusal :=
  .next (s.after dt (fun d => if port.val < 4 then d.frameDrop ptp else d))

/-- An ARP request for the address of a port that is up is answered (R321); the reply is laid out as RFC 826 has it (log entry 28). -/
def Dev.arpReply (d : Dev) (port : Nat) (target sender : W32) (mac : BitVec 48) : Dev :=
  if d.isHeld .eth || d.ethMbps port = 0 then d
  else if target.toNat ≠ d.portIp port then d.frameDrop false
  else
    d.emit (.eth port sender mac 0 (netBytes 2 1 ++ netBytes 2 0x800 ++ [6, 4] ++ netBytes 2 2 ++ netBytes 6 (d.portMac port) ++
      netBytes 4 target.toNat ++ netBytes 6 mac.toNat ++ netBytes 4 sender.toNat))

/-- ARP_REQUEST (R321). -/
def execArpRequest (dt : Nat) (port : Fin 4) (targetIp senderIp : W32) (senderMac : BitVec 48) (s : State) : Host.Outcome State Fault Refusal :=
  .next (s.after dt (fun d => d.arpReply port targetIp senderIp senderMac))

/-- An ICMP echo request to the address of a port that is up is answered with the identifier, sequence number and data it carries (R321). -/
def Dev.echoReply (d : Dev) (port : Nat) (f : UdpFrame) : Dev :=
  if d.isHeld .eth || d.ethMbps port = 0 then d
  else if f.dstIp.toNat ≠ d.portIp port then d.frameDrop false
  else
    d.emit (.eth port f.srcIp f.srcMac 0 ([0, 0] ++ netBytes 2 (inetSum ([0, 0, 0, 0] ++ f.payload)) ++ f.payload))

/-- ICMP_ECHO (R321). -/
def execIcmpEcho (dt : Nat) (port : Fin 4) (f : UdpFrame) (s : State) : Host.Outcome State Fault Refusal :=
  .next (s.after dt (fun d => d.echoReply port f))

/-! ### Views (R323, R324) -/

/-- W_OUT (R324). -/
def wOut (x0 x1 zoom : Nat) : Nat := if zoom = 0 ∨ x1 < x0 then 0 else ceilDiv (x1 - x0 + 1) zoom

/-- The HBM bytes and the samples a second that a view takes (R324). -/
def viewLoad (x0 x1 zoom rate hOut : Nat) : Nat × Nat :=
  (rate * hOut * zoom * 64 * ceilDiv ((x1 - x0 + 1) * 3) 128, rate * wOut x0 x1 zoom * hOut)

/-- Loads of all views. -/
def Dev.viewLoads (d : Dev) : Nat × Nat :=
  d.views.foldl (fun a v => let l := viewLoad v.x0 v.x1 v.zoom v.rate v.hOut; (a.1 + l.1, a.2 + l.2)) (0, 0)

/-- STATUS of a subscription by R324: 2 bad parameters, 3 budget, 0 otherwise. -/
def Dev.viewStatus (d : Dev) (x0 x1 zoom rate hOut : Nat) : Nat :=
  if x1 < x0 || d.wm (d.ctxNow 0 1024 d.mode.cur.code) ≤ x1 || 4096 < wOut x0 x1 zoom || !decide (zoom ∈ [1, 2, 4, 8, 16, 32, 64]) ||
      rate = 0 || 60 < rate || hOut < 16 || 4096 < hOut then 2
  else
    let a := d.viewLoads
    let l := viewLoad x0 x1 zoom rate hOut
    if 14400000000 < a.1 + l.1 || 7200000000 < a.2 + l.2 then 3 else 0

/-- VIEW_STAT.ACTIVE shows the slots in use. -/
def Dev.showViews (d : Dev) : Dev := d.wrF a_ETH_VIEW_STAT f_ETH_VIEW_STAT_ACTIVE ((d.views.map (fun v => 2 ^ v.slot)).foldl (· ||| ·) 0)

/-- The view in a slot. -/
def Dev.viewAt (d : Dev) (slot : Nat) : Option View := d.views.find? (fun v => v.slot = slot)

/-- A view takes a slot. -/
def Dev.setView (d : Dev) (v : View) : Dev := ({ d with views := d.views.filter (fun x => x.slot ≠ v.slot) ++ [v] } : Dev).showViews

/-- The port a view's frames leave by. -/
def Dev.viewPort (d : Dev) (v : View) : Nat := match v.dest with | some x => d.rdF (a_ETH_DEST x) f_ETH_DEST_PORT | none => v.ethPort

/-- A datagram of a frame leaves: to the destination the host reserved, or to the subscriber. -/
def Dev.viewSend (d : Dev) (v : View) (bytes : List Byte) : Dev :=
  match v.dest with
  | some x =>
    let c := d.rd (a_ETH_DEST x)
    let l2 := d.rd (a_ETH_DEST_L2 x)
    let tag := (if fbit c f_ETH_DEST_VLAN_EN then 2 ^ 18 else 0) + fget c f_ETH_DEST_VLAN_ID * 64 + fget c f_ETH_DEST_DSCP
    d.sendUdp (d.viewPort v) (BitVec.ofNat 32 (fget c f_ETH_DEST_IPV4)) (BitVec.ofNat 48 (fget l2 f_ETH_DEST_L2_MAC)) d.viewUdp
      (BitVec.ofNat 16 (fget l2 f_ETH_DEST_L2_UDP_PORT)) tag bytes
  | none => d.sendUdp v.ethPort v.ip v.mac d.viewUdp v.port 0 bytes

/-- Datagrams of a view that are due by now leave (R325). -/
def Dev.viewFlush (d : Dev) (slot : Nat) : Dev :=
  match d.viewAt slot with
  | none => d
  | some v =>
    let d := (v.todo.filter (fun p => decide (p.1 ≤ d.el))).foldl (fun d p => d.viewSend v p.2.2) d
    match (v.todo.filter (fun p => decide (p.1 ≤ d.el))).getLast? with
    | none => d
    | some p => d.setView { v with todo := v.todo.filter (fun p => decide (d.el < p.1)), tile := some p.2.1 }

/-- What every view has due by now leaves. -/
def Dev.viewsFlush (d : Dev) : Dev := d.views.foldl (fun d v => d.viewFlush v.slot) d

/-- A slot becomes free: of a frame being sent only the tile in transmission goes on (R327). -/
def Dev.dropView (d : Dev) (slot : Nat) : Dev :=
  match d.viewAt slot with
  | none => d
  | some v =>
    let begun := v.todo.filter (fun p => decide (p.1 ≤ d.el))
    let tile := (begun.getLast?.map (·.2.1)).or v.tile
    let rest := v.todo.filter (fun p => decide (d.el < p.1) && tile = some p.2.1)
    let d := (begun ++ rest).foldl (fun d p => d.viewSend v p.2.2) d
    ({ d with views := d.views.filter (fun x => x.slot ≠ slot) } : Dev).showViews

/-- Nanoseconds between frames of a view (R325). -/
def framePeriod (rate : Nat) : Nat := (rdiv 1000000000 (max 1 rate)).toNat

/-- The address lies inside VIEW_ACL. -/
def Dev.aclOk (d : Dev) (ip : W32) : Bool :=
  let v := d.rd a_ETH_VIEW_ACL
  let k := 32 - min 32 (fget v f_ETH_VIEW_ACL_PREFIX)
  ip.toNat / 2 ^ k = fget v f_ETH_VIEW_ACL_IPV4 / 2 ^ k

/-- MAGIC, VERSION and KIND of a message of the views. -/
def viewHead (kind : Nat) : List Byte := leBytes 2 0x5A16 ++ [1, BitVec.ofNat 8 kind]

/-- A message received is of a KIND, complete to n bytes. -/
def isViewMsg (f : UdpFrame) (kind n : Nat) : Bool := f.payload.take 4 == viewHead kind && n ≤ f.payload.length

/-- VIEW_ACK goes to a UDP port of the sender (R323). -/
def Dev.viewAck (d : Dev) (f : UdpFrame) (udp : BitVec 16) (view status w h : Nat) (tag : Nat) : Dev :=
  d.sendUdp f.port f.srcIp f.srcMac d.viewUdp udp 0 (viewHead 6 ++ [BitVec.ofNat 8 view, BitVec.ofNat 8 status] ++ leBytes 2 w ++ leBytes 2 h ++
    leBytes 4 tag ++ leBytes 2 5000)

/-- A SUBSCRIBE message (R323, R324): refused outside VIEW_ACL, for its parameters, for the budget, or where no slot is free; otherwise it takes
the lowest free slot that the host has not reserved (log entry 29). -/
def Dev.subscribe (d : Dev) (f : UdpFrame) : Dev :=
  if d.isHeld .eth || d.ethMbps f.port = 0 then d
  else if !isViewMsg f 2 22 || f.dstIp.toNat ≠ d.portIp f.port then d.frameDrop false
  else
    let b := f.payload
    let x0 := leAt b 4 4
    let x1 := leAt b 8 4
    let zoom := leAt b 12 1
    let rate := leAt b 13 1
    let h := leAt b 14 2
    let udp := BitVec.ofNat 16 (leAt b 16 2)
    let tag := leAt b 18 4
    let rsv := d.rdF a_ETH_VIEW_RSV f_ETH_VIEW_RSV_RSV
    let free := (List.range 32).find? (fun k => !rsv.testBit k && (d.viewAt k).isNone)
    let st := if !d.aclOk f.srcIp then 4 else
      let s := d.viewStatus x0 x1 zoom rate h
      if s ≠ 0 then s else if free.isNone then 1 else 0
    match free with
    | some k =>
      if st ≠ 0 then refuse d udp st x0 x1 zoom h tag
      else
        let v : View := ⟨k, none, BitVec.ofNat 32 tag, x0, x1, zoom, rate, h, f.srcIp, udp, f.srcMac, f.port, d.el, 0, d.now.toNat / framePeriod rate, 0, [], none⟩
        (d.setView v).viewAck f udp k 0 (wOut x0 x1 zoom) h tag
    | none => refuse d udp st x0 x1 zoom h tag
where
  /-- A refusal is counted and answered. -/
  refuse (d : Dev) (udp : BitVec 16) (st x0 x1 zoom h tag : Nat) : Dev :=
    (d.inc a_ETH_VIEW_STAT f_ETH_VIEW_STAT_REFUSED_CNT).viewAck f udp 0xFF st (wOut x0 x1 zoom) h tag

/-- SUBSCRIBE (R324). -/
def execSubscribe (dt : Nat) (f : UdpFrame) (s : State) : Host.Outcome State Fault Refusal := .next (s.after dt (fun d => d.subscribe f))

/-- A RENEW or UNSUBSCRIBE message names a view made by a SUBSCRIBE; `go` acts on it (R323). -/
def Dev.onView (d : Dev) (f : UdpFrame) (kind : Nat) (go : Dev → View → Dev) : Dev :=
  if d.isHeld .eth || d.ethMbps f.port = 0 then d
  else if !isViewMsg f kind 5 || f.dstIp.toNat ≠ d.portIp f.port then d.frameDrop false
  else if !d.aclOk f.srcIp then d.viewAck f f.srcPort 0xFF 4 0 0 0
  else
    match d.viewAt (leAt f.payload 4 1) with
    | some v =>
      if v.dest.isSome then d.viewAck f f.srcPort 0xFF 5 0 0 0
      else (go d v).viewAck f v.port v.slot 0 (wOut v.x0 v.x1 v.zoom) v.hOut v.ctag.toNat
    | none => d.viewAck f f.srcPort 0xFF 5 0 0 0

/-- RENEW (R323). -/
def execRenew (dt : Nat) (f : UdpFrame) (s : State) : Host.Outcome State Fault Refusal :=
  .next (s.after dt (fun d => d.onView f 3 (fun d v => d.setView { v with lease := d.el })))

/-- UNSUBSCRIBE (R323). -/
def execUnsubscribe (dt : Nat) (f : UdpFrame) (s : State) : Host.Outcome State Fault Refusal :=
  .next (s.after dt (fun d => d.onView f 4 (fun d v => d.dropView v.slot)))

/-- VIEW_LEASE_EXPIRY: LEASE_MS has passed since the view's last message (R323). -/
def Dev.viewExpire (d : Dev) (slot : Nat) : Dev :=
  match d.viewAt slot with
  | some v => if v.dest.isNone && v.lease + 5000000000 ≤ d.el then d.dropView slot else d
  | none => d

/-- VIEW_LEASE_EXPIRY (R323). -/
def execViewLeaseExpiry (dt : Nat) (v : Fin 32) (s : State) : Host.Outcome State Fault Refusal := .next (s.after dt (fun d => d.viewExpire v))

/-! ### Frames sent (R325, R326) -/

/-- The lines a frame covers: N and the ZOOM × H_OUT − 1 lines before it. -/
def frameLines (v : View) (n : Nat) : List Nat := (List.range (v.zoom * v.hOut)).filterMap (fun k => if k ≤ n then some (n - k) else none)

/-- One output sample: y counts rows from the newest; `sample` reads a stored value. -/
def viewSample (v : View) (n x y : Nat) (sample : Nat → Nat → Nat) : Byte :=
  let xs := (List.range v.zoom).filterMap (fun k => let g := v.x0 + x * v.zoom + k; if g ≤ v.x1 then some g else none)
  let ls := (List.range v.zoom).filterMap (fun k => let o := y * v.zoom + k; if o ≤ n then some (n - o) else none)
  let vals := (ls.flatMap (fun l => xs.map (fun g => sample l g))).filter (· ≠ 0)
  if vals.isEmpty then 0 else BitVec.ofInt 8 (rdiv (vals.foldl (· + ·) 0 : Nat) (16 * vals.length : Nat))

/-- The tiles of a frame: X, Y, width, height, row by row. -/
def viewTiles (w h : Nat) : List (Nat × Nat × Nat × Nat) :=
  (List.range (ceilDiv h 256)).flatMap (fun r => (List.range (ceilDiv w 256)).map (fun c =>
    (c * 256, r * 256, min 256 (w - c * 256), min 256 (h - r * 256))))

/-- The 48-byte header of a datagram of a frame. -/
def viewHeader (v : View) (flags num : Nat) (t : Nat × Nat × Nat × Nat) (head : List Byte) : List Byte :=
  viewHead 5 ++ [BitVec.ofNat 8 v.slot, BitVec.ofNat 8 flags] ++ leBytes 2 num ++ leBytes 4 v.frame.toNat ++ leBytes 2 t.1 ++ leBytes 2 t.2.1 ++
    leBytes 2 t.2.2.1 ++ leBytes 2 t.2.2.2 ++ zeros 4 ++ slice head 0 8 ++ slice head 8 8 ++ slice head 16 8

/-- The instants at which datagrams of a view begin to leave, one after another behind what its port, and a reserved view's destination, is busy with
(R325); and the instants to which port and destination are busy then. -/
def Dev.viewTimes (d : Dev) (v : View) (sizes : List Nat) : List Nat × Nat × Nat :=
  let p := d.viewPort v
  let rate := match v.dest with | some x => d.rdF (a_ETH_DEST x) f_ETH_DEST_RATE * 100 | none => 0
  let time (mbps n : Nat) : Nat := if mbps = 0 then 0 else (n + 28) * 8000 / mbps
  sizes.foldl (fun (acc : List Nat × Nat × Nat) n =>
    let t := max acc.2.1 acc.2.2
    (acc.1 ++ [t], t + time (d.ethMbps p) n, t + time rate n))
    ([], max d.el (busyAt d.host.portBusy p), match v.dest with | some x => max d.el (busyAt d.host.destBusy x) | none => d.el)

/-- The frame of a view at line n: its datagrams, each with its tile, leave one after another (R325, R326). -/
def Dev.sendFrame (d : Dev) (rd : Nat → Nat → List Byte) (v : View) (n : Nat) : Dev :=
  let c := d.wpu.ctx
  let size := d.loftSlot c
  let lines := (frameLines v n).filter d.inLoft
  let slots := lines.map (fun l => (l, d.zeroBad (d.loftAddr c l) (rd (d.loftAddr c l) size)))
  let sample (l g : Nat) : Nat := match slots.find? (fun p => p.1 = l) with | some p => unpack12 (p.2.drop 64) g | none => 0
  let voids := slots.any (fun p => leAt p.2 32 2 ≠ 0)
  let head := match slots.find? (fun p => p.1 = n) with | some p => p.2.take 64 | none => zeros 64
  let flags := (if d.cls.frozen then 1 else 0) + (if voids then 8 else 0) + (if d.acquiring then 0 else 16)
  let d := lines.foldl (fun d l => d.hbmGot (d.loftAddr c l) size) d
  let w := wOut v.x0 v.x1 v.zoom
  let tiles := viewTiles w v.hOut
  let grams := (tiles.mapIdx (fun i t =>
    let px := (List.range t.2.2.2).flatMap (fun y => (List.range t.2.2.1).map (fun x => viewSample v n (t.1 + x) (t.2.1 + y) sample))
    let bufs := thatchBounded 1 3 (d.mtu - 76) px
    bufs.mapIdx (fun k b =>
      (i, viewHeader v (flags + (if k + 1 = bufs.length then 2 else 0) + (if i + 1 = tiles.length then 4 else 0)) k t head ++ b)))).flatten
  let d := d.charge 5 { hbmUnits (lines.length * size) with tha := levelCycles 1 (w * v.hOut) }
  let (times, port, dest) := d.viewTimes v (grams.map (fun g => g.2.length))
  let d := { d with host := { d.host with
    portBusy := alSet d.host.portBusy (d.viewPort v) port
    destBusy := match v.dest with | some x => alSet d.host.destBusy x dest | none => d.host.destBusy } }
  (d.setView { v with frame := v.frame + 1, busyUntil := port, todo := List.zipWith (fun t g => (t, g.1, g.2)) times grams, tile := none }).viewFlush v.slot

/-- VIEW_FRAME: an instant of the view has come. A frame whose predecessor has not left, or whose port is down, is skipped (R325); one for which
LIVE_VIEW has no engine or no budget does not come about (R277). -/
def Dev.viewFrame (d : Dev) (rd : Nat → Nat → List Byte) (slot : Nat) : Dev :=
  let d := d.viewFlush slot
  match d.viewAt slot with
  | none => d
  | some v =>
    let k := d.now.toNat / framePeriod v.rate
    if d.isHeld .eth || k = v.last then d
    else
      let v := { v with last := k }
      let d := d.setView v
      match d.cls.newest with
      | none => d
      | some n =>
        if d.el < v.busyUntil || d.ethMbps (d.viewPort v) = 0 then d.inc a_ETH_VIEW_STAT f_ETH_VIEW_STAT_SKIP_CNT
        else if d.freeEngine.isNone then d
        else if d.exhausted 5 (.hbm 0) || d.exhausted 5 (.hbm 1) || d.exhausted 5 .tha then d.noteShort 5
        else d.sendFrame rd v n

/-- VIEW_FRAME (R325). -/
def execViewFrame (dt : Nat) (v : Fin 32) (s : State) : Host.Outcome State Fault Refusal :=
  .next (s.afterH dt (fun rd d => d.viewFrame rd v))

/-! ### VIEW_RESERVE and VIEW_RELEASE (R354) -/

/-- VIEW_RESERVE: its status and result; where it is OK the view is made and its bit of VIEW_RSV set. -/
def Dev.viewReserve (d : Dev) (a : ViewArgs) : Dev × Nat × List Byte :=
  let x := a.dest.toNat
  let k := a.slot.toNat
  let (x0, x1, zoom, rate, h) := (a.x0.toNat, a.x1.toNat, a.zoom.toNat, a.rate.toNat, a.hOut.toNat)
  let st := d.viewStatus x0 x1 zoom rate h
  if d.rdF (a_ETH_DEST x) f_ETH_DEST_IPV4 = 0 || st = 2 then (d, 0x12, [])
  else if st = 3 then (d, 0x24, [])
  else if (d.viewAt k).isSome then (d, 0x17, [])
  else
    let d := d.ownChange (fun d => d.wrF a_ETH_VIEW_RSV f_ETH_VIEW_RSV_RSV (d.rdF a_ETH_VIEW_RSV f_ETH_VIEW_RSV_RSV ||| 2 ^ k))
    (d.setView ⟨k, some x, 0, x0, x1, zoom, rate, h, 0, 0, 0, 0, d.el, 0, d.now.toNat / framePeriod rate, 0, [], none⟩, 0,
     leBytes 2 (wOut x0 x1 zoom) ++ leBytes 2 h)

/-- VIEW_RELEASE: its status; a slot that is reserved is freed. -/
def Dev.viewRelease (d : Dev) (k : Nat) : Dev × Nat :=
  let v := d.rdF a_ETH_VIEW_RSV f_ETH_VIEW_RSV_RSV
  if !v.testBit k then (d, 0x12)
  else
    let d := d.ownChange (fun d => d.wrF a_ETH_VIEW_RSV f_ETH_VIEW_RSV_RSV (v ^^^ 2 ^ k))
    (if (match d.viewAt k with | some x => x.dest.isSome | none => false) then d.dropView k else d, 0)

end Sys2Proof.Machine
end

