-- ==== Sys2Proof/Machine/Access.lean ====
section
/-! DEFINITION. Register accesses, whoever makes them (R8 to R14, R33, R43, R482 to R488): what a register reads, which fields a write reaches,
what a write of a register with behaviour of its own sets off, and the copy to a partner. -/

namespace Sys2Proof.Machine

/-! ### What a register reads -/

/-- The bits of a list of numbers. -/
def maskOf (l : List Nat) : Nat := l.foldl (fun m i => if m.testBit i then m else m + 2 ^ i) 0

/-- DEV.MODE (R48, R548). -/
def Dev.modeReg (d : Dev) : W64 :=
  let m := d.mode
  let v := fset (fset 0 f_DEV_MODE_SAFE_CAUSE m.safeCause.toNat) f_DEV_MODE_RIPCORD (if m.ripcord then 1 else 0)
  let v := fset v f_DEV_MODE_SERVICE (if m.service.isSome then 1 else 0)
  let v := match m.pend with
    | some p => fset (fset v f_DEV_MODE_PEND_VALID 1) f_DEV_MODE_PEND_MODE p.target.code
    | none => v
  fset (fset v f_DEV_MODE_CUR_MODE (if m.starting then 0 else m.cur.code)) f_DEV_MODE_STARTING (if m.starting then 1 else 0)

/-- Opcode of the service operation that runs, 0 for none. -/
def Dev.serviceOp (d : Dev) : Option Cmd := d.mode.service.bind (fun id => (d.keel.pending.find? (fun p => p.id = id)).map (·.cmd))

/-- CAL.SVC_STAT: DIFF as the comparison left it, the rest of the operation that runs. -/
def Dev.svcReg (d : Dev) : W64 :=
  let v := d.rd a_CAL_SVC_STAT
  match d.serviceOp with
  | none => v
  | some c =>
    let (phase, target) : Nat × Nat := match c with
      | .pipeTakeover t =>
        let second : Bool := match d.spare.take.bind (·.first), d.wpu.lastLine with
          | some f, some x => decide (f + d.wpu.ctx.len ≤ x.line)
          | _, _ => false
        (match d.spare.take with | some k => if !k.copied then 1 else if second then 3 else 2 | none => 3, t.toNat)
      | .fwSwap => (if d.keel.paused then 2 else 1, 0)
      | .laneRetrain l => (0, l.toNat)
      | .hbmRetire s p => (0, s.toNat * 32 + p.toNat)
      | _ => (0, 0)
    fset (fset (fset v f_CAL_SVC_STAT_OPCODE c.opcode) f_CAL_SVC_STAT_PHASE phase) f_CAL_SVC_STAT_TARGET target

/-- CAL.STORE_STAT. -/
def Dev.storeReg (d : Dev) : W64 :=
  let c := d.cal
  let pend : Bool := match c.run with | some r => r.pend.isSome | none => false
  let v := fset (fset 0 f_CAL_STORE_STAT_GEN (if c.copy.isSome then c.gen.toNat else 0)) f_CAL_STORE_STAT_ITEMS
    (if c.copy.isSome then c.loaded else 0)
  let v := fset (fset v f_CAL_STORE_STAT_PENDING (if pend then 1 else 0)) f_CAL_STORE_STAT_DIRTY (if c.dirty then 1 else 0)
  fset v f_CAL_STORE_STAT_COPY (c.copy.getD 0)

/-- ERR.STAT. -/
def Dev.errStatReg (d : Dev) : W64 :=
  fset (fset (d.rd a_ERR_STAT) f_ERR_STAT_QUEUED d.err.queue.length) f_ERR_STAT_CUR_VALID (if d.err.queue.isEmpty then 0 else 1)

/-- Bytes 8 i to 8 i + 7 of an error entry as a register (R496). -/
def entryReg (e : Option ErrEntry) (i : Nat) : W64 := match e with | some x => BitVec.ofNat 64 (leAt x.bytes (8 * i) 8) | none => 0

/-- MBX.MB_STAT of mailbox m: commands waiting and pending. -/
def Dev.mbReg (d : Dev) (m : Nat) : W64 :=
  let v := d.rd (a_MBX_MB_STAT m)
  let top (f : Fld) (n : Nat) : Nat := min n (2 ^ f.w - 1)
  let v := fset v f_MBX_MB_STAT_PENDING (top f_MBX_MB_STAT_PENDING (d.keel.pending.filter (fun p => p.h.mailbox.val = m)).length)
  fset v f_MBX_MB_STAT_WAITING (top f_MBX_MB_STAT_WAITING (d.keel.waiting.filter (fun p => p.h.mailbox.val = m)).length)

/-- Islands of units held in reset that wait for clock-good (R467). -/
def Dev.clkPend (d : Dev) : Nat :=
  maskOf ((d.rst.held.filter (fun p => p.2.isSome)).flatMap (fun p => p.1.islands.filter (fun i => !d.clockGood i)))

/-- The merge point whose MRG_STAT lies at an address. -/
def mergeAt (a : Nat) : Option MergeId := [MergeId.mosaic, .seam, .record, .evt, .err, .pair].find? (fun m => decide (mrgStat m = a))

/-- A register as it stands: what the block keeps elsewhere than in its register store is read from there. -/
def Dev.value (d : Dev) (u : RUnit) (a i : Nat) : W64 :=
  match u with
  | .dev =>
    if a = a_DEV_ISL_CLKGOOD then fset 0 f_DEV_ISL_CLKGOOD_CLKGOOD d.rst.clkGood.toNat
    else if a = a_DEV_ISL_RESET then fset 0 f_DEV_ISL_RESET_IN_RESET (maskOf ((List.range 40).filter d.islandHeld))
    else if a = a_DEV_MODE then d.modeReg
    else if a = a_DEV_SAFE_REQ then fset 0 f_DEV_SAFE_REQ_REQ (if d.inSafe && d.mode.safeCause = 3 then 1 else 0)
    else d.rd a
  | .rst => if a = a_RST_CLK_PEND then fset 0 f_RST_CLK_PEND_PEND d.clkPend else d.rd a
  | .cfg =>
    if a = a_CFG_CRC_STAT then fset (d.rd a) f_CFG_CRC_STAT_WINDOW (if d.err.winOpen.isSome then 1 else 0)
    else if a = a_CFG_OPT_STAT then fset (d.rd a) f_CFG_OPT_STAT_RESTARTS (min 8 d.restarts.length)
    else d.rd a
  | .err =>
    if a = a_ERR_STAT then d.errStatReg
    else if a_ERR_CUR 0 ≤ a ∧ a ≤ a_ERR_CUR 3 then entryReg d.err.queue.head? i
    else if a_ERR_LAST_FATAL 0 ≤ a ∧ a ≤ a_ERR_LAST_FATAL 3 then entryReg d.err.lastFatal i
    else occ a
  | .mbx =>
    if a = a_MBX_STAT then
      fset (fset (d.rd a) f_MBX_STAT_SERVICE (if d.mode.service.isSome then 1 else 0)) f_MBX_STAT_PAUSED (if d.keel.paused then 1 else 0)
    else if a_MBX_MB_STAT 0 ≤ a ∧ a ≤ a_MBX_MB_STAT 15 then d.mbReg i
    else d.rd a
  | .time => if a = a_TIME_NOW then d.now else d.rd a
  | .cal =>
    if a = a_CAL_STORE_STAT then d.storeReg
    else if a = a_CAL_SVC_STAT then d.svcReg
    else if a = a_CAL_SRAM_STAT then
      fset (fset (d.rd a) f_CAL_SRAM_STAT_REPAIRS d.cal.repairs.length) f_CAL_SRAM_STAT_PENDING d.cal.pendRep.length
    else d.rd a
  | .thm => if a = a_THM_STAT then fset (d.rd a) f_THM_STAT_TRIPPED (if d.thm.tripped then 1 else 0) else d.rd a
  | .pcx =>
    if a = a_PCX_STAT then fset (d.rd a) f_PCX_STAT_DROP_RINGS (d.host.rings.filter (fun p => p.2.dropCnt ≠ 0)).length else d.rd a
  | .dsp =>
    if a_DSP_TAP 0 0 ≤ a ∧ a < a_DSP_TAP 8 0 then
      let f := (a - a_DSP_TAP 0 0) / 256
      let p := d.inF (a_DSP_FLT_CFG f) f_DSP_FLT_CFG_PRESET
      if p < 4 then fset 0 f_DSP_TAP_TAP (Config.presetTap p ((a - a_DSP_TAP 0 0) % 256 / 4)).toNat else d.rd a
    else d.rd a
  | .seg => if a = a_SEG_REP_STAT then fset (d.rd a) f_SEG_REP_STAT_IN_FORCE (d.inF a_SEG_REP_CFG f_SEG_REP_CFG_BANK) else occ a
  | .hbm s =>
    if a = a_HBM_MIGRATE s then d.migrateReg s
    else if a = a_HBM_PR_CTRL s then fset (d.rd a) f_HBM_PR_CTRL_ACTIVE (if (d.stack s).retained then 1 else 0) else d.rd a
  | .rdg =>
    if a = a_RDG_STAT then
      fset (fset (d.rd a) f_RDG_STAT_BULK_LANES (d.ridgeLanes true)) f_RDG_STAT_PAIR_ID (if d.rst.primary then 0 else 1)
    else occ a
  | .mos | .cls | .evt => occ a
  | _ => d.rd a
where
  /-- MRG_STAT shows what its merge point holds (R42). -/
  occ (a : Nat) : W64 :=
    match mergeAt a with
    | some m => fset (d.rd a) f_MOS_MRG_STAT_OCC (d.mrg.get m).held.length
    | none => d.rd a

/-! ### Locks and conditions on writes -/

/-- The address of a unit's LOCK (R45, R484): LQ and TPT hold theirs in window 0. -/
def lockAddr : RUnit → Nat
  | .lq _ => RUnit.base (.lq 0) + 0xFF8
  | .tpt _ => RUnit.base (.tpt 0) + 0xFF8
  | u => u.base + 0xFF8

/-- The unit's block is locked (R484). -/
def Dev.isLocked (d : Dev) (u : RUnit) : Bool := (d.rd (lockAddr u)).getLsbD 0

/-- The field is locked while its block is (R484). -/
def locksField (r : Reg) (x : FieldRow) : Bool := x.acc = .lk || (x.acc = .rw && r.crc)

/-- A write of a register that is discarded whole and logged whatever it carries: MBX.CFG[15] (R329), CH_SRC and CH_CTRL of the Keel's channels
(R382), TIME.RATE under the servo, taps of a preset, MAP entries of RIPCORD, FW_BOOT_FAIL, KEEL_LOCKSTEP and THM_TRIP (R495, R544), half a push
(R488), a mirrored register of the partner (R441). -/
def Dev.writeRefused (d : Dev) (p : Part) (src : AccSrc) : Bool :=
  let a := p.addr
  let i := p.index.headD 0
  let partner : Bool := d.established && !d.rdB a_RDG_STAT f_RDG_STAT_AUTHORITY && p.reg.mir && src.isHost && src ≠ .mailbox 15
  partner ||
  match p.unit with
  | .mbx => a = a_MBX_CFG 15 && src.isHost
  | .evt => 240 ≤ i && src.isHost && (p.reg.off = r_EVT_CH_SRC.off || p.reg.off = r_EVT_CH_CTRL.off)
  | .time => a = a_TIME_RATE && d.rdB a_TIME_CTRL f_TIME_CTRL_SERVO_EN
  | .dsp => p.reg.off = r_DSP_TAP.off && d.rdF (a_DSP_FLT_CFG i) f_DSP_FLT_CFG_PRESET ≠ 4
  | .err => p.reg.off = r_ERR_MAP.off && i ∈ [1, 2, 3, 0x43]
  | .wpu => p.reg.off = r_WPU_CMP_PUSH.off && p.n ≠ 8
  | _ => false

/-- A part of a write that its register's rules discard and log: a direction change of a compare unit that holds values, EN without STORM of a
stormed channel (R387), GO while a scan runs (R435), a software firing the host may not make (R381), BLOCK_RST of no block, DEV_RST without its key
(R464). The operations of those registers log it themselves, but for the direction. -/
def Dev.partRefused (d : Dev) (p : Part) (data : W64) (src : AccSrc) : Bool :=
  let a := p.addr
  let i := p.index.headD 0
  let has (f : Fld) : Bool := p.mask &&& f.mask ≠ 0
  match p.unit with
  | .evt =>
    if p.reg.off = r_EVT_CH_CTRL.off then
      d.rdB a f_EVT_CH_CTRL_STORM && !fbit data f_EVT_CH_CTRL_STORM && fbit data f_EVT_CH_CTRL_EN
    else if a = a_EVT_SW_FIRE then
      let c := fget data f_EVT_SW_FIRE_CHANNEL
      src.isHost && (!d.inB (a_EVT_CH_SRC c) f_EVT_CH_SRC_SW_OK || d.rdB (a_EVT_CH_SRC c) f_EVT_CH_SRC_OWNER)
    else false
  | .wpu =>
    p.reg.off = r_WPU_CMP_CFG.off && has f_WPU_CMP_CFG_DIR && fget data f_WPU_CMP_CFG_DIR ≠ d.rdF a f_WPU_CMP_CFG_DIR && !(d.cmpQueue i).isEmpty
  | .lq _ => p.reg.off = r_LQ_EYE_CTRL.off && fbit data f_LQ_EYE_CTRL_GO && d.rdB a f_LQ_EYE_CTRL_GO
  | .rst =>
    if a = a_RST_DEV_RST then has f_RST_DEV_RST_KEY && fget data f_RST_DEV_RST_KEY ≠ 0x5253
    else if a = a_RST_BLOCK_RST then
      match blockAtBase (fget data f_RST_BLOCK_RST_BASE_4K * 0x1000) with
      | none => true
      | some u => u.islands = [0]
    else false
  | _ => false

/-- The fold of writeField over a register's fields: the new value, whether something was discarded, whether a writable field took its bits. -/
def storeFields (r : Reg) (wm : W64) (locked : Bool) (skip : Fld → Bool) (old new : W64) : W64 × Bool × Bool :=
  r.fields.foldl (fun (s : W64 × Bool × Bool) x =>
    if skip x.fld then (s.1, true, s.2.2)
    else
      let (v, bad) := writeField x wm (locked && locksField r x) false s.1 new
      let takes : Bool := wm &&& x.fld.mask ≠ 0 && !bad && !(x.acc = .ro || x.acc = .rc)
      (v, s.2.1 || bad, s.2.2 || takes)) (old, false, false)

/-! ### What a write sets off -/

/-- A FATAL error's condition is still present (R499): RIPCORD_N low, the recovery monitor running, a mismatch, a stack in reset, a temperature. -/
def Dev.fatalHolds (d : Dev) (code : Nat) : Bool :=
  if code = 0x01 then !d.mode.ripcord
  else if code = 0x02 then d.keel.recovery
  else if code = 0x04 then d.mem.stack.any (fun x => x.pcs.isEmpty)
  else if code = 0x05 then d.rdB a_CFG_CRC_STAT f_CFG_CRC_STAT_MISMATCH
  else if code = 0x40 then d.rdB a_THM_STAT f_THM_STAT_WARN
  else if code = 0x41 then d.rdB a_THM_STAT f_THM_STAT_THROTTLE
  else if code = 0x42 then d.rdB a_THM_STAT f_THM_STAT_HOT
  else false

/-- ACK retires the current entry; the next becomes current, and its IRQ action applies (R497). -/
def Dev.errAck (d : Dev) : Dev :=
  if d.err.queue.isEmpty then d else ({ d with err := { d.err with queue := d.err.queue.drop 1 } } : Dev).currentIrq

/-- Write of ERR.STAT, which held `old` (R497, R499): FATAL_PEND stays set while a fatal condition lasts. -/
def Dev.errStatWrite (d : Dev) (old data : W64) : Dev :=
  let d := d.wrB a_ERR_STAT f_ERR_STAT_ACK false
  let clears := fbit data f_ERR_STAT_FATAL_PEND && fbit old f_ERR_STAT_FATAL_PEND
  let d := if !clears then d
    else if d.err.fatalCodes.any d.fatalHolds then d.wrB a_ERR_STAT f_ERR_STAT_FATAL_PEND true
    else { d with err := { d.err with fatalCodes := [] } }
  if fbit data f_ERR_STAT_ACK then d.errAck else d

/-- The configuration window has been open for longer than WIN_MAX_S: reported once per window (R493). -/
def Dev.windowLong (d : Dev) : Dev :=
  let m := d.rdF a_CFG_CRC_CTRL f_CFG_CRC_CTRL_WIN_MAX_S
  match d.err.winOpen with
  | some t => if m ≠ 0 && !d.err.winLong && t + m * 1000000000 < d.el then ({ d with err := { d.err with winLong := true } } : Dev).reportErr 0x2E 43 0 else d
  | none => d

/-- What a write of a register sets off: register a of unit u, with first index i, held `old`; `data` is laid out as the register and wm marks the
bits written. -/
def Dev.writeEffect (d : Dev) (u : RUnit) (a i : Nat) (wm data old : W64) (src : AccSrc) : Dev :=
  match u with
  | .dev => if a = a_DEV_SAFE_REQ then (d.wr a old).safeReqWrite data else d
  | .rst =>
    if a = a_RST_BLOCK_RST then (d.wr a old).blockRstWrite (data.setWidth 32) src
    else if a = a_RST_DEV_RST then (d.wr a old).devRstWrite (data.setWidth 32) src
    else if a = a_RST_CLK_TIMEOUT then (d.wr a old).clkTimeoutWrite data
    else d
  | .err => if a = a_ERR_STAT then d.errStatWrite old data else d
  | .cfg => if a = a_CFG_CRC_CTRL then d.windowLong else d
  | .thm => if a = a_THM_STAT && fbit data f_THM_STAT_TRIPPED then { d with thm := { d.thm with tripped := false } } else d
  | .evt =>
    if a = a_EVT_SW_FIRE then (d.wr a old).swFireWrite data src
    else if a = a_EVT_CH_CTRL i then (d.wr a old).chCtrlStore i wm data src
    else d
  | .wpu =>
    if a = a_WPU_COMMIT then
      let d := d.wrB a f_WPU_COMMIT_GO false
      if fbit data f_WPU_COMMIT_GO then d.wpuCommit else d
    else if a = a_WPU_LATCH_REQ then (d.wr a old).latchReq (fget data f_WPU_LATCH_REQ_REQ)
    else if a = a_WPU_CMP_PUSH i then ((d.wr a old).cmpPush i data.toInt).1
    else if a = a_WPU_CMP_STAT i then
      let d := d.wrB a f_WPU_CMP_STAT_CLEAR false
      if fbit data f_WPU_CMP_STAT_CLEAR then d.setCmp i [] else d
    else d
  | .dsp =>
    if a = a_DSP_COMMIT then
      let d := d.wrB a f_DSP_COMMIT_GO false
      if fbit data f_DSP_COMMIT_GO then d.dspCommit.1 else d
    else d
  | .time =>
    if a = a_TIME_CTRL then { d with clk := { d.clk with ppsLast := none } }
    else if a = a_TIME_PPS_OUT then d.ppsRestart
    else if a = a_TIME_TT_CFG i then (d.wr a old).ttCfgWrite i wm data
    else if a = a_TIME_PTP_CFG then (d.wr a old).ptpCfgWrite wm data
    else d
  | .pipe n =>
    if a = a_PIPE_COEF_CTRL n then
      let d := (d.wrB a f_PIPE_COEF_CTRL_MARK false).wrB a f_PIPE_COEF_CTRL_SWAP (fbit old f_PIPE_COEF_CTRL_SWAP)
      let d := if fbit data f_PIPE_COEF_CTRL_MARK then d.coefMark n else d
      if fbit data f_PIPE_COEF_CTRL_SWAP then d.coefSwap n else d
    else d
  | .seg =>
    if a = a_SEG_REP_CAPTURE then
      let d := d.wrB a f_SEG_REP_CAPTURE_GO false
      if fbit data f_SEG_REP_CAPTURE_GO then d.captureGo else d
    else d
  | .cls =>
    if a = a_CLS_BANK_CTRL then
      let d := (d.wrB a f_CLS_BANK_CTRL_MARK false).wrB a f_CLS_BANK_CTRL_SWAP (fbit old f_CLS_BANK_CTRL_SWAP)
      let d := if fbit data f_CLS_BANK_CTRL_MARK then d.bankMark else d
      if fbit data f_CLS_BANK_CTRL_SWAP then d.bankSwap else d
    else if a = a_CLS_ROLL_CTRL then
      let d := d.wrB a f_CLS_ROLL_CTRL_NOW false
      if fbit data f_CLS_ROLL_CTRL_NOW then { d with cls := { d.cls with rollDue := d.cls.rollDue ++ [⟨0, none, 0, none⟩] } } else d
    else if a = a_CLS_LOFT_CTRL then
      let d := (d.wrB a f_CLS_LOFT_CTRL_RESUME false).wrB a f_CLS_LOFT_CTRL_FREEZE false
      let d := if fbit data f_CLS_LOFT_CTRL_RESUME then d.loftResume else d
      if fbit data f_CLS_LOFT_CTRL_FREEZE then d.loftFreeze else d
    else d
  | .lq q =>
    let l := q.val * 4 + i
    if a = a_LQ_EYE_CTRL q i then
      let d := d.wrB a f_LQ_EYE_CTRL_GO (fbit old f_LQ_EYE_CTRL_GO)
      if fbit data f_LQ_EYE_CTRL_GO then d.eyeGo l src else d
    else if a = a_LQ_LN_CFG q i ∧ d.rdB a f_LQ_LN_CFG_FREEZE_HOLD ∧ d.laneActive l then d.wrB (lnStat l) f_LQ_LN_STAT_FROZEN true
    else d
  | .tpt p =>
    if a = a_TPT_CTRL p then ((d.wrB a f_TPT_CTRL_RETRAIN0 false).wrB a f_TPT_CTRL_RETRAIN1 false).tptCtrlWrite p (data.setWidth 32)
    else if a = a_TPT_CFG p then d.tptCfgWrite p
    else if a = a_TPT_EXPO p ∨ a = a_TPT_GAIN p then d.setPort p { d.port p with changed := true }
    else d
  | .hbm s =>
    if a = a_HBM_PR_CTRL s then
      let d := (d.wrB a f_HBM_PR_CTRL_GO false).wrB a f_HBM_PR_CTRL_EXIT false
      let d := if fbit data f_HBM_PR_CTRL_EXIT then d.prExit s else d
      if fbit data f_HBM_PR_CTRL_GO then d.prGo s else d
    else d
  | _ => d

/-- Fields of the register that take effect at next reset and that the bits written reach (R547). -/
def Part.pends (p : Part) : Bool :=
  p.reg.fields.any (fun x => x.eff = .reset && (x.acc = .rw || x.acc = .lk) && p.mask &&& x.fld.mask ≠ 0)

/-! ### One register written -/

/-- The data of a write laid out as the register; a 1 for a W1C bit that the device has set in this cycle does not reach it (R10). -/
def Dev.reaches (d : Dev) (p : Part) (data : W64) : W64 := p.lay data &&& ~~~(masksAt d.cycle.flags p.addr &&& p.reg.accMask .w1c)

/-- A write reaches one register (R9, R484): what is discarded, and whether a writable field took its bits; nothing is logged here but by
the operations of registers of their own. -/
def Dev.writePart (d : Dev) (p : Part) (data : W64) (src : AccSrc) : Dev × Bool × Bool :=
  if d.writeRefused p src then (d, true, false)
  else
    let a := p.addr
    let wm := p.mask
    let new := d.reaches p data
    let old := d.rd a
    let part := d.partRefused p new src
    let dirKept : Bool := part && p.unit == .wpu
    let (v, bad, took) := storeFields p.reg wm (d.isLocked p.unit) (fun f => dirKept && f = f_WPU_CMP_CFG_DIR) old new
    let bad := bad || p.reg.readOnlyIn wm
    if !took then (d, bad, false)
    else
      let again := new &&& old &&& wm &&& p.reg.accMask .w1s
      let d := { d.wr a v with cycle := if again = 0 then d.cycle else { d.cycle with asked := (a, again) :: d.cycle.asked } }
      let d := if p.pends then { d with nextRst := d.nextRst.put a v } else d
      (d.writeEffect p.unit a (p.index.headD 0) wm new old src, bad || part, true)

/-- The same write in the other pipelines it reaches during a takeover (R511). -/
def Dev.writeTwins (d : Dev) (p : Part) (data : W64) (src : AccSrc) : Dev :=
  match p.unit with
  | .pipe n =>
    (d.pipeTwins n).foldl (fun d m =>
      if h : m < 17 then
        if m = n.val then d
        else (d.writePart { p with addr := p.addr - n.val * 0x10000 + m * 0x10000, unit := .pipe ⟨m, h⟩ } data src).1
      else d) d
  | _ => d

/-- A mirrored register that the authority's host has written is sent to the partner (R441); entries of REG_WRITE travel with their envelope
(R342). -/
def Dev.mirrorWrite (d : Dev) (p : Part) (data : W64) (src : AccSrc) : Dev :=
  if p.reg.mir && src = .host && d.established && d.rdB a_RDG_STAT f_RDG_STAT_AUTHORITY then
    d.ridge 0x84 (leBytes 4 (p.addr + p.lo) ++ leBytes 4 p.n ++ leBytes 8 ((data >>> (8 * p.at_)).toNat % 2 ^ (8 * p.n)))
  else d

/-! ### Accesses to register space -/

/-- BAR0 address of the user's 48 KiB of AON retained memory (R476). -/
def aonBase : Nat := 0x24000

/-- The address lies in the user's retained memory. -/
def inAon (a : Nat) : Bool := aonBase ≤ a && a < 0x30000

/-- What an access came to. -/
inductive Access
  | ok | size | reserved | offline | locked
  deriving DecidableEq, Repr

/-- A write of 4 or 8 bytes at a register address, aligned (R33, R482 to R488). Only one LOCK_VIOLATION is logged for an access. -/
def Dev.regWrite (d : Dev) (a size : Nat) (data : W64) (src : AccSrc) : Dev × Access :=
  if inAon a then ({ d with aonUser := d.aonUser.writeBytes (fun _ => 0) (a - aonBase) (leBytes size data.toNat) }, .ok)
  else
  match accessParts a size with
  | none => (d.addrErr 0x0E a src, .reserved)
  | some parts =>
    if parts.any (fun p => !d.reachable p.unit) then (d.addrErr 0x10 a src, .offline)
    else
      let own (p : Part) : Bool :=
        (p.unit == .evt && (p.reg.off = r_EVT_CH_CTRL.off || p.addr = a_EVT_SW_FIRE)) || p.unit == .rst || (match p.unit with | .lq _ => true | _ => false)
      let r := parts.foldl (fun (s : Dev × Bool × Bool) p =>
        let part := s.1.partRefused p (p.lay data) src && own p && !s.1.writeRefused p src
        let (d', bad, took) := s.1.writePart p data src
        let d' := if took then (d'.writeTwins p data src).mirrorWrite p data src else d'
        (d', s.2.1 || (bad && !part), s.2.2 || bad)) (d, false, false)
      let d := if r.2.1 then r.1.lockViolation a src else r.1
      (d, if r.2.2 then .locked else .ok)

/-- A read of the part clears the register's RC fields: it is the whole register or its high word (R43). -/
def Part.clears (p : Part) : Bool := p.reg.hasRC && (!p.reg.wide || p.n = 8 || p.lo = 4)

/-- The RC counter was raised in this cycle (R10). -/
def Part.counts (p : Part) (r : Raised) : Bool :=
  r.addr = p.addr && p.reg.fields.any (fun x => x.acc = .rc && x.fld.lo = r.lsb && x.fld.w = r.w)

/-- The value a read of one part returns, shifted into place in the data: of a counter raised in this cycle, a read that clears it returns the
value before (R10). -/
def Dev.readPart (d : Dev) (p : Part) : W64 :=
  let now := d.value p.unit p.addr (p.index.headD 0)
  let seen := if p.clears then (d.cycle.raised.filter p.counts).foldl (fun v r => fset v ⟨r.lsb, r.w⟩ r.before) now else now
  ((readReg p.reg seen &&& p.mask) >>> (8 * p.lo)) <<< (8 * p.at_)

/-- What a read of a part leaves in its register: RC fields are cleared (R43); a counter raised in this cycle holds what the cycle added (R10). -/
def Dev.leftBy (d : Dev) (p : Part) : W64 :=
  if p.clears then
    (d.cycle.raised.filter p.counts).foldl (fun v r => fset v ⟨r.lsb, r.w⟩ (min r.times (2 ^ r.w - 1))) (clearRC p.reg (d.rd p.addr))
  else d.rd p.addr

/-- A read of a part clears RC fields (R43). -/
def Dev.clearPart (d : Dev) (p : Part) : Dev :=
  if p.clears then
    let raised := d.cycle.raised.map (fun (r : Raised) => if p.counts r then { r with before := 0 } else r)
    peak { d.wr p.addr (d.leftBy p) with cycle := { d.cycle with raised := raised } }
  else d
where
  /-- The largest number held since this read is at least what is held now (R42, R236). -/
  peak (d : Dev) : Dev :=
    if p.reg.off = r_MOS_MRG_STAT.off && p.unit ∈ [.mos, .seg, .cls, .evt, .err, .rdg] then
      d.wrF p.addr f_MOS_MRG_STAT_PEAK (fget (d.value p.unit p.addr 0) f_MOS_MRG_STAT_OCC)
    else if p.addr = a_SEG_LBL_STAT then d.wrF p.addr f_SEG_LBL_STAT_PEAK (d.rdF p.addr f_SEG_LBL_STAT_OPEN)
    else d

/-- A read of 4 or 8 bytes at a register address, aligned: what it returns, and whether it failed. -/
def Dev.regRead (d : Dev) (a size : Nat) (src : AccSrc) : Dev × W64 × Access :=
  if inAon a then (d, BitVec.ofNat 64 (leNat (d.aonUser.readBytes (fun _ => 0) (a - aonBase) size)), .ok)
  else
  match accessParts a size with
  | none => (d.addrErr 0x0E a src, 0, .reserved)
  | some parts =>
    let d := if parts.any (fun p => p.unit = .tha) then d.enginesRun else d
    if parts.any (fun p => !d.reachable p.unit) then (d, 0, .offline)
    else (parts.foldl (fun d p => d.clearPart p) d, parts.foldl (fun v p => v ||| d.readPart p) 0, .ok)

end Sys2Proof.Machine
end

