-- ==== Sys2Proof/Machine/Thatch.lean ====
section
/-! DEFINITION. The jobs of the Thatch engines (R277 to R285, R293 to R296): start, stall and resume, save and restore, end. -/

namespace Sys2Proof.Machine

/-- A job is placed on an idle engine whose island is reachable (R277); OUT_LIMIT below 1,024 is refused (R282). The stream header is its first output;
a decompression's output stands by as its destination takes it. -/
def Dev.jobStart (d : Dev) (e : Nat) (j : ThaJob) : Dev :=
  if !d.engIdle e || !d.reachable .tha || (j.compress && j.bounded && decide (j.outLimit < 1024)) then d
  else
    let r := d.rdF a_THA_CFG f_THA_CFG_RATIO
    let ratio := if r = 0 then 64 else min r 4096
    let head := streamHeader j.level j.kind j.input.length
    let x : EngSt := { EngSt.reset with
      job := some j, ratio := ratio, enc := .start j.level, room := j.room, at_ := d.el, ends := !j.compress
      cur := if j.compress && j.bounded then head.length else 0, todo := if j.compress then head else (thatchDecode ratio j.outMax j.input).out }
    (d.setEngine e x (x.state j false)).engRun e

/-- THATCH_JOB_START (R277). -/
def execThatchJobStart (dt : Nat) (e : Fin 16) (job : ThaJob) (s : State) : Host.Outcome State Fault Refusal :=
  .next (s.after dt (fun d => d.jobStart e job))

/-- What the 256-byte context of a state is made of (R284). -/
def EngSt.context (x : EngSt) (bounded : Bool) : List Byte :=
  let tables := match x.enc.prev with | some c => 1 :: (c.1 ++ c.2) | none => [0]
  (List.range 256).map (Config.thatchContext ([x.enc.crc, x.enc.total, x.enc.level, levelWindow x.enc.level, if bounded then 1 else 0] ++ tables))

/-- A requested save is made once its block has been written: the state goes to the stacks on the client's budget, and the engine is free when it has
left (R284, R285). -/
def Dev.engSave (d : Dev) (e : Nat) : Dev :=
  let x := d.engine e
  match x.job, x.save with
  | some j, some addr =>
    if !x.todo.isEmpty then d.setEngine e x 3
    else
      let state := x.context j.bounded ++ (x.enc.hist.take (2 ^ levelWindow j.level)).reverse
      let kept : EngSt := { x with save := none, got := 0 }
      let d := (d.hbmPut addr state).charge j.client.val (hbmUnits state.length)
      let d := { d with tha := { d.tha with saved := alSet d.tha.saved addr kept } }
      d.setEngine e { x with save := none, busy := true, leaving := true } 4
  | _, _ => d

/-- A save is requested: the block in progress ends as by a flush (R285), at `pos` bytes of it where the engine has come further than the least rate of
R278 takes it (log entry 114). While a retirement is pending or in force the place lies outside the refuge (R411). -/
def Dev.askSave (d : Dev) (e pos addr : Nat) : Dev :=
  let d := d.engRun e
  let x := d.engine e
  match x.job with
  | none => d
  | some j =>
    let closing : Bool := d.mem.closed || d.mem.retire.isSome
    if !j.compress || x.busy || x.ends || x.save.isSome || (closing && hitsRefuge d.mapOrder addr (256 + 2 ^ levelWindow j.level)) then d
    else
      let n := min (max (x.got / 100) pos) (x.need j)
      let x := { if n = 0 then x else x.codeBlock j n with save := some addr }
      ((d.setEngine e x (x.state j false)).engRun e).engSave e

/-- THATCH_SAVE (R284). -/
def execThatchSave (dt : Nat) (e : Fin 16) (pos addr : Nat) (s : State) : Host.Outcome State Fault Refusal :=
  .next (s.after dt (fun d => d.askSave e pos addr))

/-- THATCH_RESUME: space appears in the destination; what waited is written, and the engine goes on (R281, R285). -/
def Dev.engResume (d : Dev) (e room : Nat) : Dev :=
  let d := d.engRun e
  let x := d.engine e
  match x.job with
  | none => d
  | some j =>
    let x := { x with room := x.room + room }
    ((d.setEngine e x (x.state j false)).engRun e).engSave e

/-- THATCH_RESUME (R281). -/
def execThatchResume (dt : Nat) (e : Fin 16) (room : Nat) (s : State) : Host.Outcome State Fault Refusal :=
  .next (s.after dt (fun d => d.engResume e room))

/-- The stream's state that an engine reads back from the bytes of a saved state: what was saved, where they still are what the save wrote; otherwise
what the bytes give (R284). The history is what the stacks hold. -/
def EngSt.readBack (x : EngSt) (bounded : Bool) (bytes : List Byte) : StreamSt :=
  let hist := (bytes.drop 256).reverse
  if bytes.take 256 = x.context bounded then { x.enc with hist := hist }
  else { x.enc with hist := hist, prev := none, crc := Config.thatchContextRead (bytes.take 256) 0, total := Config.thatchContextRead (bytes.take 256) 1 }

/-- A state saved at an address comes to an idle engine, on its client's budget; the job goes on where it left (R284, R285). -/
def Dev.engRestore (d : Dev) (rd : Nat → Nat → List Byte) (e addr : Nat) : Dev :=
  match d.tha.saved.find? (fun p => p.1 = addr) with
  | none => d
  | some (_, x) =>
    match x.job with
    | none => d
    | some j =>
      if !d.engIdle e || !d.reachable .tha then d
      else
        let n := 256 + (x.enc.hist.take (2 ^ levelWindow j.level)).length
        let d := (d.hbmGot addr n).charge j.client.val (hbmUnits n)
        d.setEngine e { x with enc := x.readBack j.bounded (rd addr n), at_ := d.el, busy := true, leaving := false } 5

/-- THATCH_RESTORE (R284). -/
def execThatchRestore (dt : Nat) (e : Fin 16) (addr : Nat) (s : State) : Host.Outcome State Fault Refusal :=
  .next (s.afterH dt (fun rd d => d.engRestore rd e addr))

/-- A decompression that failed is counted and reported (R294, R295). -/
def Dev.decodeFailed (d : Dev) (status : Nat) : Dev :=
  let f := if status = 11 then f_THA_DEC_STAT_RATIO_CNT else if status = 12 then f_THA_DEC_STAT_OUT_LIMIT_CNT else f_THA_DEC_STAT_ERR_CNT
  ((d.inc a_THA_DEC_STAT f).wrF a_THA_DEC_STAT f_THA_DEC_STAT_LAST_ERR status).reportErr 0x1F 40 status

/-- THATCH_JOB_END: a job ends; one that failed is reported (R294). -/
def Dev.jobEnd (d : Dev) (e : Nat) : Dev :=
  let (d, status) := (d.engRun e).jobDone e
  if status = 0 then d else d.decodeFailed status

/-- THATCH_JOB_END (R294). -/
def execThatchJobEnd (dt : Nat) (e : Fin 16) (s : State) : Host.Outcome State Fault Refusal :=
  .next (s.after dt (fun d => d.jobEnd e))

end Sys2Proof.Machine
end

