-- ==== Sys2Proof/Machine/Boot.lean ====
section
/-! DEFINITION. What reads or writes the boot flash and OTP: option loading (R469 to R474, R513, R517, R524), the Keel's firmware (R475, R506 to
R510), writes of flash and OTP (R465, R470), and start-up training of the stacks (R403 to R405). -/

namespace Sys2Proof.Machine

/-! ### Copies in flash (R471, R472, R523) -/

/-- A user NV image passes its check (R472). -/
def nvPass (bs : List Byte) : Bool :=
  let n := leAt bs 12 4
  slice bs 0 4 = [0x5A, 0x53, 0x4E, 0x56] && leAt bs 4 2 = 1 && n ≤ 262140 && 36 + 16 * n ≤ bs.length &&
  leAt bs (32 + 16 * n) 4 = crc32c (bs.take (32 + 16 * n))

/-- n items of a calibration copy from offset o, and the offset after them; none where an item leaves the copy (R523). -/
def calItems (bs : List Byte) : Nat → Nat → Option (List CalItem × Nat)
  | 0, o => some ([], o)
  | n + 1, o =>
    let k := leAt bs (o + 2) 2
    let next := o + 16 + 4 * k
    if bs.length < next || 2 ^ 20 < next then none
    else
      let x : CalItem :=
        ⟨leAt bs o 2, (List.range k).map (fun i => BitVec.ofNat 32 (leAt bs (o + 16 + 4 * i) 4)), leAt bs (o + 4) 4, BitVec.ofNat 64 (leAt bs (o + 8) 8)⟩
      (calItems bs n next).map (fun r => (x :: r.1, r.2))

/-- The items of a calibration copy that passes its check (R472, R523). -/
def calPass (bs : List Byte) : Option (List CalItem) :=
  if slice bs 0 4 ≠ [0x5A, 0x53, 0x43, 0x4C] || leAt bs 4 2 ≠ 1 then none
  else
    match calItems bs (leAt bs 12 4) 32 with
    | some (xs, o) => if o + 4 ≤ bs.length && o + 4 ≤ 2 ^ 20 && leAt bs o 4 = crc32c (bs.take o) then some xs else none
    | none => none

/-- The copy that the choice of R472 picks: that which passes; of two, the later GENERATION by serial arithmetic, copy 0 where neither is later. -/
def chooseCopy (pass0 pass1 : Bool) (gen0 gen1 : Nat) : Option Nat :=
  match pass0, pass1 with
  | true, true => let x := (gen1 + 2 ^ 32 - gen0 % 2 ^ 32) % 2 ^ 32; some (if 0 < x ∧ x < 2 ^ 31 then 1 else 0)
  | true, false => some 0
  | false, true => some 1
  | false, false => none

/-- The copy that the next write goes to: the one that the choice does not pick, copy 0 when both fail (R470). -/
def writeCopy (choice : Option Nat) : Nat := match choice with | some k => 1 - k | none => 0

/-- One entry of an image over the values loaded so far; none where it is skipped (R471). -/
def nvEntry (m : RegStore) (a size : Nat) (v : W64) : Option RegStore :=
  if !(size = 4 || size = 8) || a % size ≠ 0 then none
  else
    match accessParts a size with
    | none => none
    | some parts =>
      let hits := parts.filter (fun p => p.reg.nvMask &&& p.mask ≠ 0)
      if hits.isEmpty || parts.any (fun p => p.addr = a_RDG_STAT || (a_RST_FUSE 0 ≤ p.addr && p.addr ≤ a_RST_FUSE 15)) then none
      else
        some (hits.foldl (fun (m : RegStore) p =>
          m.put p.addr (blend (p.reg.nvMask &&& p.mask) (p.lay v) ((m.find p.addr).getD (staticReg p.addr)))) m)

/-- Entries 0 to n − 1 of an image in order, and how many were skipped. -/
def nvApply (bs : List Byte) (m : RegStore) : RegStore × Nat :=
  (List.range (leAt bs 12 4)).foldl (fun (r : RegStore × Nat) i =>
    let o := 32 + 16 * i
    match nvEntry r.1 (leAt bs o 4) (leAt bs (o + 4) 1) (BitVec.ofNat 64 (leAt bs (o + 8) 8)) with
    | some m => (m, r.2)
    | none => (r.1, r.2 + 1)) (m, 0)

/-! ### Option loading (R473, R474) -/

/-- The fuse table as option loading puts it in force (R465). -/
def Dev.fuseRegs (d : Dev) : RegStore :=
  let levels := if d.rst.otpProg then d.rst.otpLevels else factoryLevels
  (List.range 16).map (fun i =>
    (a_RST_FUSE i, fset (fset (fset 0 f_RST_FUSE_MIN (lget minLevels i 0)) f_RST_FUSE_LEVEL (lget levels i 0)) f_RST_FUSE_PROGRAMMED
      (if d.rst.otpProg then 1 else 0)))

/-- Registers of units that the reset in progress does not reach keep their values while the NV values change beneath them. -/
def Dev.keepOthers (d : Dev) (nv : RegStore) : Dev :=
  let kept (a : Nat) : Bool := match unitAt a with | some u => u ∈ allUnits && !((wideScope d.rst.level).contains u) | none => false
  (((d.nv ++ nv).map (·.1)).filter kept).foldl (fun (e : Dev) a =>
    { e with regs := e.regs.put a (d.rd a), force := e.force.put a (d.inForce a) }) d

/-- The calibration store is loaded (R472, R513, R517, R524). -/
def Dev.loadCal (d : Dev) (f : FlashRead) : Dev :=
  let x0 := calPass f.cal0
  let x1 := calPass f.cal1
  let pick := chooseCopy x0.isSome x1.isSome (leAt f.cal0 8 4) (leAt f.cal1 8 4)
  let copy := if d.rst.forced then none else pick
  let items := match copy with | some 0 => x0.getD [] | some _ => x1.getD [] | none => []
  let gen := match pick with | some 0 => leAt f.cal0 8 4 | some _ => leAt f.cal1 8 4 | none => 0
  let coefs (k : Nat) : List W32 := ((items.find? (fun x => x.item = k)).map (·.coefs)).getD []
  let d := { d with cal := { CalSt.reset with
    items := items, copy := copy, gen := BitVec.ofNat 32 gen, target := writeCopy pick, repairs := coefs 0x602, loaded := items.length } }
  let d := d.wrB a_CFG_OPT_STAT f_CFG_OPT_STAT_CAL_FALLBACK (pick.isNone && !d.rst.forced)
  let roles := coefs 0x600
  let d := { d with nv := (List.range roles.length).foldl (fun (m : RegStore) n => m.put (a_PIPE_ROLE n) ((lget roles n 0).setWidth 64)) d.nv }
  let d := { d with mem := { d.mem with retired := [(lget (coefs 0x601) 0 0).toNat, (lget (coefs 0x601) 1 0).toNat] } }
  (d.showRetired 0).showRetired 1

/-- The NV values come into force: factory defaults, the user image, and the values pending for next reset over them (R472, R547). -/
def Dev.loadNv (d : Dev) (f : FlashRead) : Dev :=
  let pick := chooseCopy (nvPass f.nv0) (nvPass f.nv1) (leAt f.nv0 8 4) (leAt f.nv1 8 4)
  let copy := if d.rst.forced then none else pick
  let img := match copy with | some 0 => f.nv0 | some _ => f.nv1 | none => []
  let (nv, skipped) := if copy.isSome then nvApply img d.fuseRegs else (d.fuseRegs, 0)
  let d := d.keepOthers nv
  let d := (wideScope d.rst.level).foldl (fun d u => d.takePending u) { d with nv := nv }
  let d := { d with flash := { d.flash with copy := copy, target := writeCopy pick } }
  let a := a_CFG_OPT_STAT
  let d := (d.wrF a f_CFG_OPT_STAT_NV_GEN (if copy.isSome then leAt img 8 4 else 0)).wrF a f_CFG_OPT_STAT_SKIPPED (min skipped 0xFFFF)
  let d := d.wrF a f_CFG_OPT_STAT_RESTARTS (min 8 d.restarts.length)
  let d := (d.wrB a f_CFG_OPT_STAT_PINS_RELEASED copy.isNone).wrB a f_CFG_OPT_STAT_USER_NV_BAD (pick.isNone && !d.rst.forced)
  let d := (d.wrF a f_CFG_OPT_STAT_NV_COPY (copy.getD 0)).wrB a f_CFG_OPT_STAT_FACTORY_FORCED d.rst.forced
  let d := d.wrB a f_CFG_OPT_STAT_USER_NV copy.isSome
  if copy.isNone then d.reportErr 0x2D 43 0 else d

/-- What R58 looks at as option loading completes: a low RIPCORD_N, reported, or a fatal error that asked for SAFE_HOLD. -/
def Dev.bootSafe (d : Dev) : Dev :=
  let due := !d.mode.ripcord || d.mode.bootCause.isSome
  let d := if due then { d with mode := { d.mode with bootCause := some 5 } } else d
  if d.mode.ripcord then d else d.reportErr 0x01 43 0

/-- OPTION_LOADING_DONE: the steps of R473; the reference of the configuration CRC is committed with the window closed (R491). -/
def Dev.optionsDone (d : Dev) (f : FlashRead) : Dev :=
  if !d.rst.optRun || d.resetWaits then d
  else
    let d := d.loadNv f
    let d := { d with rst := { d.rst with pinsSet := true } }
    let d := d.wpuPinsSafe.evioPinsSafe
    let d := (d.loadCal f).wrB a_CFG_OPT_STAT f_CFG_OPT_STAT_DONE true
    let d := { d with rst := { d.rst with optRun := false }, err := { d.err with winOpen := none, winLong := false, sweepAt := d.el } }
    (d.wrF a_CFG_CRC_REF f_CFG_CRC_REF_V d.configCrc).bootSafe

/-- OPTION_LOADING_DONE (R473). -/
def execOptionLoadingDone (dt : Nat) (flash : FlashRead) (s : State) : Host.Outcome State Fault Refusal :=
  .next (s.after dt (fun d => d.optionsDone flash))

/-! ### Firmware images (R506, R507) -/

/-- Checks 2 to 5 of R507: the status of the first that fails, 0 where all pass. -/
def fwCheck (img : List Byte) : Nat :=
  let clear (o n : Nat) : Bool := (slice img o n).all (fun b => b = 0)
  let key := slice img 64 97
  if img.length < 512 || 2 ^ 23 < img.length || slice img 0 4 ≠ [0x5A, 0x53, 0x46, 0x57] || leAt img 4 2 ≠ 1 || !clear 7 1 || !clear 25 39 ||
      !clear 161 95 || !clear 352 160 || 512 + leAt img 16 4 ≠ img.length then 0x36
  else if 4 ≤ leAt img 6 1 || !Config.otpKey (leAt img 6 1) key then 0x35
  else if !Config.ecdsaOk key (slice img 256 96) (img.take 256 ++ img.drop 512) then 0x35
  else if leAt img 12 4 < Config.otpMinVersion then 0x35
  else 0

/-- A bank that holds a verified image. -/
def imageBank (img : List Byte) : FwBank := ⟨BitVec.ofNat 32 (leAt img 8 4), true, leAt img 24 1, leAt img 20 2, leAt img 22 2⟩

/-- A bank that holds nothing verified. -/
def FwBank.empty : FwBank := ⟨0, false, 0, 0, 0⟩

/-- The idle bank; true says B. -/
def Keel.idle (k : Keel) : FwBank := if k.bankInB then k.bankA else k.bankB
/-- The bank in force. -/
def Keel.now (k : Keel) : FwBank := if k.bankInB then k.bankB else k.bankA
/-- The Keel with its idle bank replaced. -/
def Keel.setIdle (k : Keel) (b : FwBank) : Keel := if k.bankInB then { k with bankA := b } else { k with bankB := b }

/-- FW_BOOT_DONE: the image of BOOT_BANK runs, else the other one, else the recovery monitor (R475). -/
def Dev.fwBoot (d : Dev) (b : FwBoot) : Dev :=
  if !d.rdB a_CFG_OPT_STAT f_CFG_OPT_STAT_DONE || d.rst.fwDone || !d.mode.starting then d
  else
    let cut (img : List Byte) : List Byte := img.take (512 + leAt img 16 4)
    let (first, second) := if b.bootB then (cut b.imgB, cut b.imgA) else (cut b.imgA, cut b.imgB)
    let start (d : Dev) (inB : Bool) (x : FwBank) (rec : Bool) : Dev :=
      { d with
        keel := { d.keel with bankInB := inB, bankA := if inB then .empty else x, bankB := if inB then x else .empty, recovery := rec }
        rst := { d.rst with fwDone := true }
        flash := { d.flash with bootB := b.bootB } }
    if fwCheck first = 0 then start d b.bootB (imageBank first) false
    else
      if fwCheck second = 0 then (start d (!b.bootB) (imageBank second) false).wrB a_CFG_OPT_STAT f_CFG_OPT_STAT_FW_FALLBACK true
      else
        let d := start d b.bootB .empty true
        ({ d with mode := { d.mode with bootCause := some (d.mode.bootCause.getD 5) } } : Dev).reportErr 0x02 43 0

/-- FW_BOOT_DONE (R475). -/
def execFwBootDone (dt : Nat) (boot : FwBoot) (s : State) : Host.Outcome State Fault Refusal := .next (s.after dt (fun d => d.fwBoot boot))

/-! ### FW_SWAP (R508, R509) -/

/-- Awaited repairs of the firmware banks follow the banks as they exchange roles (R516). -/
def swapStore : SramStore → SramStore
  | .fwBankInForce => .fwBankIdle
  | .fwBankIdle => .fwBankInForce
  | x => x

/-- The swap's command, while it waits or pauses. -/
def Dev.swapCmd (d : Dev) : Option PendCmd := d.pendingCmd (fun c => c = .fwSwap)

/-- The swap succeeds: the banks exchange roles, BOOT_BANK is written, and the command ends with the version now in force. -/
def Dev.swapDone (d : Dev) (p : PendCmd) : Dev :=
  let k := d.keel
  let d := { d with
    keel := { k with bankInB := !k.bankInB, paused := false, pauseAt := none, recovery := false }
    cal := { d.cal with pendRep := d.cal.pendRep.map (fun (q : RUnit × SramStore × W32) => (q.1, swapStore q.2.1, q.2.2)) }
    flash := { d.flash with bootB := !k.bankInB } }
  let d := d.emit (.flashWrite 0 [if k.bankInB then 0 else 1])
  d.endService p.id 0 noLine (leBytes 4 d.keel.now.version.toNat)

/-- The swap fails: the old bank runs on and the staged image loses its verified mark. -/
def Dev.swapFail (d : Dev) (p : PendCmd) : Dev :=
  let k := d.keel
  ({ d with keel := { (k.setIdle { k.idle with verified := false }) with paused := false, pauseAt := none } } : Dev).endService p.id 0x36 noLine []

/-- FW_SWAP_PAUSE: with no other class D command pending the pause runs; once TIMEOUT_MS has passed the swap ends with E_BUSY (R345). `ready` says
that the new firmware reports ready in time, which it does only where it accepts the old one's handover record; the recovery monitor writes none
(R475, R509). -/
def Dev.swapPause (d : Dev) (ready : Bool) : Dev :=
  match d.swapCmd with
  | none => d
  | some p =>
    if d.keel.paused || d.keel.pending.any (fun q => q.id ≠ p.id && q.cmd.deferred) || d.keel.fwd.any (fun f => f.cmd.deferred) then d
    else if p.at_ + p.h.timeoutNs ≤ d.el then d.endService p.id 0x17 noLine []
    else
      let old := d.keel.now
      let new := d.keel.idle
      if ready && (d.keel.recovery || (new.hoMin ≤ old.hoFmt && old.hoFmt ≤ new.hoMax)) then d.swapDone p
      else { d with keel := { d.keel with paused := true, pauseAt := some d.el } }

/-- FW_SWAP_PAUSE (R508). -/
def execFwSwapPause (dt : Nat) (ready : Bool) (s : State) : Host.Outcome State Fault Refusal := .next (s.after dt (fun d => d.swapPause ready))

/-- FW_SWAP_READY_TIMEOUT: 1.5 ms into the pause the new firmware has not reported ready (R509). -/
def Dev.swapTimeout (d : Dev) : Dev :=
  match d.swapCmd, d.keel.pauseAt with
  | some p, some t => if t + 1500000 ≤ d.el then d.swapFail p else d
  | _, _ => d

/-- FW_SWAP_READY_TIMEOUT (R509). -/
def execFwSwapReadyTimeout (dt : Nat) (s : State) : Host.Outcome State Fault Refusal := .next (s.after dt (fun d => d.swapTimeout))

/-! ### Writes of flash and OTP -/

/-- What a source in memory holds: in the stacks it is read there, and an uncorrectable word makes it corrupt (R409); elsewhere it is what host
memory held. -/
def Dev.sourceBytes (d : Dev) (rd : Nat → Nat → List Byte) (x : ImageSrc) (src : List Byte) : Dev × Option (List Byte) :=
  let n := x.srcLen.toNat
  if x.loc then
    let bad := d.hasBad x.addr.toNat n
    (d.hbmGot x.addr.toNat n, if bad then none else some (rd x.addr.toNat n))
  else (d.hostGet x.addr.toNat true n, some (padTo (src.take n) n))

/-- A source can be had: host memory while outbound transfers run, a stream while an engine is idle (R277, R302). -/
def Dev.sourceReady (d : Dev) (x : ImageSrc) : Bool := (x.loc || d.outboundOk) && (!x.thatch || d.freeEngine.isSome)

/-- The image of a source, decoded where it is a stream of a KIND (R353, R507). -/
def Dev.sourceImage (d : Dev) (x : ImageSrc) (kind outMax : Nat) (bs : List Byte) : Dev × Option (List Byte) :=
  if !x.thatch then (d, if bs.length ≤ outMax then some bs else none)
  else
    let r := thatchDecode (d.rdF a_THA_CFG f_THA_CFG_RATIO) outMax bs
    let d := d.charge (if kind = 4 then 17 else 16) ⟨0, 0, Config.thatchDecodeCycles r.out.length, 0, 0⟩
    if r.status ≠ 0 then (d.decodeFailed r.status, none) else (d, if leAt bs 5 1 = kind then some r.out else none)

/-- FW_STAGE ends: an image that passes lies in the idle bank and in the flash image of its letter; a failed stage clears the idle bank's mark. -/
def Dev.stageDone (d : Dev) (rd : Nat → Nat → List Byte) (p : PendCmd) (x : ImageSrc) (ok : Bool) (src : List Byte) : Dev :=
  let (d, bs) := d.sourceBytes rd x src
  let (d, img) := match bs with | some b => d.sourceImage x 4 (2 ^ 23) b | none => (d, none)
  let d := { d with keel := d.keel.setIdle { d.keel.idle with verified := false } }
  match img with
  | none => d.finish p.id 0x36 noLine []
  | some img =>
    let st := fwCheck img
    if st ≠ 0 then d.finish p.id st noLine []
    else
      let toB := !d.keel.bankInB
      let d := d.emit (.flashWrite (if toB then 0x900000 else 0x100000) img)
      if !ok then d.finish p.id 0x3B noLine []
      else
        let b := imageBank img
        ({ d with keel := d.keel.setIdle b } : Dev).finish p.id 0 noLine (leBytes 4 b.version.toNat ++ [if toB then 1 else 0])

/-- NV_WRITE ends: the image goes to the copy not in force, and once verified its generation is written (R470). -/
def Dev.nvDone (d : Dev) (rd : Nat → Nat → List Byte) (p : PendCmd) (x : ImageSrc) (ok : Bool) (src : List Byte) : Dev :=
  let (d, bs) := d.sourceBytes rd x src
  let (d, img) := match bs with | some b => d.sourceImage x 5 (2 ^ 22) b | none => (d, none)
  match img with
  | none => d.finish p.id 0x36 noLine []
  | some img =>
    if !nvPass img then d.finish p.id 0x36 noLine []
    else
      let t := d.flash.target
      let d := d.emit (.flashWrite (0x1100000 + t * 0x400000) img)
      if !ok then d.finish p.id 0x3B noLine []
      else (d.emit (.flashWrite (headerGen t) (slice img 8 4))).finish p.id 0 noLine (slice img (32 + 16 * leAt img 12 4) 4)

/-- A command whose flash write is under way. -/
def writesFlash : Cmd → Bool
  | .fwStage _ | .nvWrite _ | .calStore => true
  | _ => false

/-- FLASH_WRITE_COMPLETION: the oldest write ends, a command's before one of the device's own; `ok` says that it verified, `src` is what host memory
held at the source. -/
def Dev.flashDone (d : Dev) (rd : Nat → Nat → List Byte) (ok : Bool) (src : List Byte) : Dev :=
  match d.pendingCmd writesFlash with
  | some p =>
    match p.cmd with
    | .fwStage x => if !d.sourceReady x then d else d.stageDone rd p x ok src
    | .nvWrite x => if !d.sourceReady x then d else d.nvDone rd p x ok src
    | _ =>
      if !ok then d.finish p.id 0x3B noLine []
      else
        let (d, w) := d.calWrite
        d.finish p.id 0 noLine (leBytes 4 w)
  | none =>
    if !d.cal.auto then d
    else
      let d := { d with cal := { d.cal with auto := false } }
      if ok then d.calWrite.1 else d

/-- FLASH_WRITE_COMPLETION (R470, R507, R524). -/
def execFlashWriteCompletion (dt : Nat) (ok : Bool) (src : List Byte) (s : State) : Host.Outcome State Fault Refusal :=
  .next (s.afterH dt (fun rd d => d.flashDone rd ok src))

/-- OTP_WRITE_COMPLETION: the fuse table is programmed; it comes into force at the next option loading (R465). -/
def Dev.otpDone (d : Dev) : Dev :=
  match d.pendingCmd (fun c => match c with | .fuseProgram _ => true | _ => false) with
  | none => d
  | some p =>
    match p.cmd with
    | .fuseProgram levels =>
      ({ d with rst := { d.rst with otpProg := true, otpLevels := levels.map (fun b => b.toNat) } } : Dev).finish p.id 0 noLine []
    | _ => d

/-- OTP_WRITE_COMPLETION (R465). -/
def execOtpWriteCompletion (dt : Nat) (s : State) : Host.Outcome State Fault Refusal := .next (s.after dt (fun d => d.otpDone))

/-! ### Start-up training (R403 to R405) -/

/-- The pseudo-channels of a stack as its training leaves them. -/
def trainedPcs (retired now : Nat) : List PcSt :=
  (List.range 32).map (fun p => { PcSt.reset with mode := if retired.testBit p then .off else .active, since := now, at_ := now, track := now })

/-- Channels retired at start-up are retired at once, without migration; the loft keeps clear of the refuge (R405, R412). -/
def Dev.retireFailed (d : Dev) (s : Nat) (failed : List Nat) : Dev :=
  let d := failed.foldl (fun d p => (d.retirePc s p).reportErr 0x04 (44 + s) (s * 256 + p)) d
  let d := if failed.isEmpty then d else d.calNote 0x601
  if d.mem.retired.all (fun m => m = 0) then d
  else
    let n := d.loftLimit
    ({ d with mem := { d.mem with limit := some n, closed := true } } : Dev).wrF (a_HBM_LOFT_LIMIT 0) f_HBM_LOFT_LIMIT_V n

/-- HBM_TRAINING_DONE: a stack is trained at both setpoints; its contents are what training left. With more than two channels failed the stack
stays in reset and the error is fatal (R405). -/
def Dev.trainingDone (d : Dev) (s : Fin 2) (r : TrainResult) : Dev :=
  if !d.mode.starting || !d.rdB a_CFG_OPT_STAT f_CFG_OPT_STAT_DONE || lget d.rst.hbmDone s false then d
  else
    let failed := (List.range 32).filter (fun p => r.failed.getLsbD p && !(lget d.mem.retired s 0).testBit p)
    let d := { d with
      rst := { d.rst with hbmDone := lset d.rst.hbmDone s true }
      hbmLost := d.hbmLost ++ (List.range 32).map (fun p => (s.val, p)) }
    if 2 < failed.length then
      let d := d.setStack s { StackSt.reset with pcs := [] }
      let d := if d.isHeld (.hbm s) then d else d.resetUnit true (.hbm s)
      d.reportAs true 0x04 (44 + s) (s.val * 256)
    else
      let d := d.setStack s { StackSt.reset with pcs := trainedPcs (lget d.mem.retired s 0) d.el, raaimt := r.raaimt, raammt := r.raammt }
      let a := a_HBM_TRN_STAT s
      let d := ((d.wrB a f_HBM_TRN_STAT_TRAINED_64 true).wrB a f_HBM_TRN_STAT_TRAINED_32 r.slow).wrB a f_HBM_TRN_STAT_SETPOINT false
      let d := (d.wr (a_HBM_TRN_PAT s) (Config.trainHelper d.clk.cyc s false)).wr (a_HBM_TRN_CMP s) (Config.trainHelper d.clk.cyc s true)
      ((d.stackTemp s r.temp.toNat).retireFailed s failed).showRetired s

/-- HBM_TRAINING_DONE (R403, R405). -/
def execHbmTrainingDone (dt : Nat) (st : Fin 2) (res : TrainResult) (s : State) : Host.Outcome State Fault Refusal :=
  .next (s.after dt (fun d => d.trainingDone st res))

/-- MIGRATION_DONE: the device stores the list of retired channels on its own (R413, R515). -/
def execMigrationDone (dt : Nat) (s : State) : Host.Outcome State Fault Refusal :=
  .next (s.after dt (fun d => let r := d.migrationDone; if r.2 then r.1.calNote 0x601 else r.1))

end Sys2Proof.Machine
end

