-- ==== Sys2Proof/Machine/Tables.lean ====
section
/-! DEFINITION. The tables of R317 as the host reaches them: the TBL window (R316), TABLE_LOAD and TABLE_READ (R352, R353), their locks and
marks (R168, R230, R249, R250). -/

namespace Sys2Proof.Machine

/-- A bank of a table that acquisition uses (R168, R249). -/
def Dev.bankBusy (d : Dev) (table inst bank : Nat) : Bool :=
  d.acquiring &&
  match table with
  | 0x01 | 0x02 | 0x03 =>
    d.inB (a_PIPE_COEF_CTRL inst) f_PIPE_COEF_CTRL_WIDE || d.rdF (a_PIPE_COEF_CTRL inst) f_PIPE_COEF_CTRL_IN_FORCE = bank
  | 0x11 => true
  | 0x20 | 0x21 | 0x22 => d.bankNow = bank
  | _ => false

/-- A write to a table is discarded (R168, R219, R230, R249, R484). -/
def Dev.tabLocked (d : Dev) (table inst bank : Nat) : Bool :=
  table = 0x10 || d.isLocked (tabUnit table inst) || d.bankBusy table inst bank

/-- n bytes of a table from offset o: the column model is read from segmentation (R219), the last word of a table beyond its end as zeros. -/
def Dev.tabBytes (d : Dev) (table inst bank o n : Nat) : List Byte :=
  if table = 0x10 then
    let bs := (List.range (n / 16 + 2)).flatMap (fun i => (d.cmAt (o / 16 + i)).bytes)
    slice bs (o % 16) n
  else
    let size := d.tabSize table inst bank
    let k := min n (size - o)
    d.tab.readBytes tabDefault (tabAddr table inst bank o) k ++ zeros (n - k)

/-- LOADED of the bank that a table lies in is cleared by the first write (R168, R250). -/
def Dev.unload (d : Dev) (table inst bank : Nat) : Dev :=
  match table with
  | 0x01 | 0x02 | 0x03 =>
    let a := a_PIPE_COEF_CTRL inst
    if d.inB a f_PIPE_COEF_CTRL_WIDE then d.wrF a f_PIPE_COEF_CTRL_LOADED 0
    else
      let v := d.rdF a f_PIPE_COEF_CTRL_LOADED
      d.wrF a f_PIPE_COEF_CTRL_LOADED (if v.testBit bank then v - 2 ^ bank else v)
  | 0x20 | 0x21 | 0x22 => d.setLoaded bank false
  | _ => d

/-- The instances a write reaches: those of a takeover's two pipelines (R511). -/
def Dev.tabTwins (d : Dev) (table inst : Nat) : List Nat := if table ≤ 3 then d.pipeTwins inst else [inst]

/-- Bytes are stored in a table, within its size, and its bank is no longer marked. -/
def Dev.tabStore (d : Dev) (table inst bank o : Nat) (bs : List Byte) : Dev :=
  (d.tabTwins table inst).foldl (fun d i =>
    (d.unload table i bank).tabWrite table i bank o (bs.take (d.tabSize table inst bank - o))) d

/-- A bank is marked, or validated, once a load has completed (R168, R250, R353); whether it failed. -/
def Dev.tabMark (d : Dev) (table inst bank : Nat) : Dev × Bool :=
  match table with
  | 0x01 | 0x02 | 0x03 =>
    ((d.tabTwins table inst).foldl (fun d i =>
      let a := a_PIPE_COEF_CTRL i
      if d.inB a f_PIPE_COEF_CTRL_WIDE then d.wrF a f_PIPE_COEF_CTRL_LOADED 3
      else d.wrF a f_PIPE_COEF_CTRL_LOADED (d.rdF a f_PIPE_COEF_CTRL_LOADED ||| 2 ^ bank)) d, false)
  | 0x20 | 0x21 | 0x22 =>
    let (e, i) := d.bankCheck bank
    (((d.wrF a_CLS_BANK_CTRL f_CLS_BANK_CTRL_VAL_ERR e).wrF a_CLS_BANK_CTRL f_CLS_BANK_CTRL_VAL_NODE i).setLoaded bank (e = 0), e ≠ 0)
  | _ => (d, false)

/-! ### The TBL window (R316, R299) -/

/-- BAR0 address of the TBL window. -/
def tblBase : Nat := 0xC00000

/-- What PCX.TBL_SEL selects: TABLE, INST, BANK, and the offset of the window's first byte. -/
def Dev.tblSel (d : Dev) : Nat × Nat × Nat × Nat :=
  let v := d.rd a_PCX_TBL_SEL
  (fget v f_PCX_TBL_SEL_TABLE, fget v f_PCX_TBL_SEL_INST, fget v f_PCX_TBL_SEL_BANK, fget v f_PCX_TBL_SEL_PAGE * 2 ^ 22)

/-- A write through the window: whole words within one aligned 64-byte block, already checked. -/
def Dev.tblWrite (d : Dev) (a : Nat) (data : List Byte) (src : AccSrc) : Dev × Access :=
  let (t, i, b, page) := d.tblSel
  let o := page + (a - tblBase)
  let size := (d.tabSize t i b + 3) / 4 * 4
  if size < o + data.length then (d.addrErr 0x0E a src, .reserved)
  else if !d.reachable (tabUnit t i) then (d.addrErr 0x10 a src, .offline)
  else if d.tabLocked t i b then (d.reportErr 0x0D (originOf (tabUnit t i)) (addrInfo a src), .locked)
  else (d.tabStore t i b o data, .ok)

/-- A read of n bytes through the window. -/
def Dev.tblRead (d : Dev) (a n : Nat) (src : AccSrc) : Dev × List Byte × Access :=
  let (t, i, b, page) := d.tblSel
  let o := page + (a - tblBase)
  let size := (d.tabSize t i b + 3) / 4 * 4
  if size < o + n then (d.addrErr 0x0E a src, [], .reserved)
  else if !d.reachable (tabUnit t i) then (d, [], .offline)
  else (d, d.tabBytes t i b o n, .ok)

/-! ### TABLE_LOAD and TABLE_READ (R352, R353) -/

/-- The arguments of a TABLE_LOAD lie in range (R352, R353). -/
def Dev.loadArgsOk (d : Dev) (t : TableXfer) : Bool :=
  d.tabSize t.table.toNat t.inst.toNat t.bank.toNat ≠ 0 && t.offset.toNat % 4 = 0 && t.len.toNat % 4 = 0 && t.addr.toNat % 64 = 0 &&
  (t.thatch || t.srcLen = t.len)

/-- The arguments of a TABLE_READ lie in range. -/
def Dev.readArgsOk (d : Dev) (t : TableXfer) : Bool := d.tabSize t.table.toNat t.inst.toNat t.bank.toNat ≠ 0 && !t.thatch && !t.part && t.srcLen = 0

/-- The status that keeps a table transfer from being accepted, 0 for none: beyond the table or the stacks, unreachable, locked. -/
def Dev.tabRefusal (d : Dev) (t : TableXfer) (write : Bool) : Nat :=
  let u := tabUnit t.table.toNat t.inst.toNat
  let n := if write then t.srcLen.toNat else t.len.toNat
  if d.tabSize t.table.toNat t.inst.toNat t.bank.toNat < t.offset.toNat + t.len.toNat then 0x14
  else if t.loc && d.outside t.addr.toNat n then 0x14
  else if !d.reachable u then 0x16
  else if write && d.tabLocked t.table.toNat t.inst.toNat t.bank.toNat then 0x15
  else if !write && t.loc && d.repLocked t.addr.toNat n then 0x15
  else 0

/-- INFO address of a table's byte: where the TBL window would show it. -/
def tabInfo (t : TableXfer) : Nat := tblBase + t.offset.toNat % 2 ^ 22

/-- A locked table, or a locked range of the stacks that a read would write, is logged with the mailbox as source (R484, R227). -/
def Dev.noteLocked (d : Dev) (h : EnvHdr) (t : TableXfer) (write : Bool) (status : Nat) : Dev :=
  if status = 0x15 then d.reportErr 0x0D 43 (addrInfo (if write then tabInfo t else t.addr.toNat) (.mailbox h.mailbox)) else d

/-- The result of a TABLE_LOAD: VAL_ERR, VAL_NODE, bytes written, decoder status. -/
def loadResult (e i n st : Nat) : List Byte := leBytes 2 e ++ leBytes 2 i ++ leBytes 4 n ++ [BitVec.ofNat 8 st]

/-- TABLE_LOAD starts: its checks, then it is accepted and its transfer runs. -/
def Dev.cmdTableLoad (d : Dev) (c : Taken) (t : TableXfer) : Dev :=
  let st := d.tabRefusal t true
  if st ≠ 0 then (d.noteLocked c.h t true st).finalResp c.id c.cmd c.h st noLine [] else d.accept c noLine

/-- TABLE_READ starts. -/
def Dev.cmdTableRead (d : Dev) (c : Taken) (t : TableXfer) : Dev :=
  let st := d.tabRefusal t false
  if st ≠ 0 then (d.noteLocked c.h t false st).finalResp c.id c.cmd c.h st noLine [] else d.accept c noLine

/-- The source has been read: it is decoded where it is a stream, stored, and the bank is marked or validated. -/
def Dev.tableLoaded (d : Dev) (p : PendCmd) (t : TableXfer) (bytes : List Byte) : Dev :=
  let tb := t.table.toNat
  let i := t.inst.toNat
  let b := t.bank.toNat
  let r : DecResult := if t.thatch then thatchDecode (d.rdF a_THA_CFG f_THA_CFG_RATIO) t.len.toNat bytes else ⟨0, bytes.length, bytes⟩
  let d := if t.thatch then d.charge 16 ⟨0, 0, Config.thatchDecodeCycles r.out.length, 0, 0⟩ else d
  let d := if r.status = 0 then d else d.decodeFailed r.status
  let kindOk := !t.thatch || leAt bytes 5 1 = 5
  if r.status ≠ 0 || !kindOk || r.out.length ≠ t.len.toNat then d.finish p.id 0x36 noLine (loadResult 0 0 0 r.status)
  else
    let st := d.tabRefusal t true
    if st ≠ 0 then (d.noteLocked p.h t true st).finish p.id st noLine []
    else
      let d := if t.len = 0 then d else d.tabStore tb i b t.offset.toNat r.out
      if t.part then d.finish p.id 0 noLine (loadResult 0 0 t.len.toNat 0)
      else
        let (d, bad) := d.tabMark tb i b
        if bad then
          d.finish p.id 0x34 noLine (loadResult (d.rdF a_CLS_BANK_CTRL f_CLS_BANK_CTRL_VAL_ERR) (d.rdF a_CLS_BANK_CTRL f_CLS_BANK_CTRL_VAL_NODE) t.len.toNat 0)
        else d.finish p.id 0 noLine (loadResult 0 0 t.len.toNat 0)

/-- TABLE_LOAD_COMPLETION: the oldest load's transfer finishes. `src` is what host memory held; a source in the stacks is read there, and one that
holds an uncorrectable word is corrupt (R409). A stream waits for an engine that can decode it (R277). -/
def Dev.loadDone (d : Dev) (rd : Nat → Nat → List Byte) (src : List Byte) : Dev :=
  match d.pendingCmd (fun c => match c with | .tableLoad _ => true | _ => false) with
  | none => d
  | some p =>
    match p.cmd with
    | .tableLoad t =>
      let n := t.srcLen.toNat
      if t.thatch && d.freeEngine.isNone then d
      else if t.loc then
        let d := (d.charge 15 (hbmUnits n)).hbmGot t.addr.toNat n
        if d.hasBad t.addr.toNat n then d.finish p.id 0x36 noLine (loadResult 0 0 0 0) else d.tableLoaded p t (rd t.addr.toNat n)
      else if !d.outboundOk then d
      else ((d.charge 15 ⟨0, 0, 0, 0, units64 n⟩).hostGet t.addr.toNat true n).tableLoaded p t (padTo (src.take n) n)
    | _ => d

/-- TABLE_LOAD_COMPLETION (R353). -/
def execTableLoadCompletion (dt : Nat) (src : List Byte) (s : State) : Host.Outcome State Fault Refusal :=
  .next (s.afterH dt (fun rd d => d.loadDone rd src))

/-- TABLE_READ_COMPLETION: the oldest read's bytes are at their destination, but in the repeat bank in force (R227). -/
def Dev.readDone (d : Dev) : Dev :=
  match d.pendingCmd (fun c => match c with | .tableRead _ => true | _ => false) with
  | none => d
  | some p =>
    match p.cmd with
    | .tableRead t =>
      let bs := d.tabBytes t.table.toNat t.inst.toNat t.bank.toNat t.offset.toNat t.len.toNat
      if t.loc && d.repLocked t.addr.toNat bs.length then (d.noteLocked p.h t false 0x15).finish p.id 0x15 noLine []
      else if t.loc then ((d.charge 22 (hbmUnits bs.length)).hbmPut t.addr.toNat bs).finish p.id 0 noLine (leBytes 4 bs.length)
      else if !d.outboundOk then d
      else ((d.charge 22 ⟨0, 0, 0, 0, units64 bs.length⟩).hostPut t.addr.toNat false true bs).finish p.id 0 noLine (leBytes 4 bs.length)
    | _ => d

/-- TABLE_READ_COMPLETION (R352). -/
def execTableReadCompletion (dt : Nat) (s : State) : Host.Outcome State Fault Refusal := .next (s.after dt (fun d => d.readDone))

end Sys2Proof.Machine
end

