-- ==== Sys2Proof/Machine/Bus.lean ====
section
/-! DEFINITION. The host's accesses to BAR0 and BAR2 (R298 to R300, R304 to R306, R316, R482, R483) and the commands that are such accesses. -/

namespace Sys2Proof.Machine

/-! ### Outcomes of an access -/

/-- A write that was refused for its address, or because its block cannot be reached, is a PCIe advisory non-fatal error (R33, R299, R482). -/
def Dev.endWrite (r : Dev × Access) : Dev :=
  match r.2 with
  | .size | .reserved | .offline => r.1.emit .advisory
  | .ok | .locked => r.1

/-- A read ends with its data, or with Completer Abort. -/
def Dev.endRead (r : Dev × W64 × Access) : Dev := if r.2.2 = .ok then r.1.emit (.readData r.2.1) else r.1.emit .completerAbort

/-- ACCESS_SIZE: counted and logged with address and source (R299, R300). -/
def Dev.sizeErr (d : Dev) (a : Nat) : Dev := (d.inc a_PCX_STAT f_PCX_STAT_ACCESS_SIZE_CNT).addrErr 0x0F a .host

/-- An aligned access of 4 or 8 bytes (R299). -/
def sizeOk (a n : Nat) : Bool := (n = 4 || n = 8) && a % n = 0

/-- A write that the TBL window takes: whole words within one aligned 64-byte block (R299). -/
def tblSizeOk (a n : Nat) : Bool := 4 ≤ n && n ≤ 64 && n % 4 = 0 && a % 4 = 0 && a / 64 = (a + n - 1) / 64

/-! ### BAR0 -/

/-- The address lies in the TBL window. -/
def inTbl (a : Nat) : Bool := 0xC00000 ≤ a && a < 0x1000000

/-- The address lies in the RNG window. -/
def inRng (a : Nat) : Bool := 0x800000 ≤ a && a < 0x840000

/-- A host write to BAR0. -/
def Dev.bar0Write (d : Dev) (a n : Nat) (data : List Byte) : Dev :=
  let bytes := padTo (data.take n) n
  if inTbl a && tblSizeOk a n then Dev.endWrite (d.tblWrite a bytes .host)
  else if !sizeOk a n then Dev.endWrite (d.sizeErr a, .size)
  else if inRng a then
    if d.reachable .rng then d.ringWrite ((a - 0x800000) / 64) (a % 64) bytes .host
    else Dev.endWrite (d.addrErr 0x10 a .host, .offline)
  else Dev.endWrite (d.regWrite a n (BitVec.ofNat 64 (leNat bytes)) .host)

/-- A read of a ring context clears the counters it touches (R304). -/
def Dev.ctxRead (d : Dev) (a n : Nat) : Dev × W64 :=
  let r := (a - 0x800000) / 64
  let o := a % 64
  let c := d.ring r
  let c' := { c with dropCnt := if o ≤ 28 && 28 < o + n then 0 else c.dropCnt, offCnt := if o ≤ 36 && 36 < o + n then 0 else c.offCnt }
  (if c' = c then d else d.setRing r c', BitVec.ofNat 64 (leAt c.bytes o n))

/-- A host read of BAR0. -/
def Dev.bar0Read (d : Dev) (a n : Nat) : Dev :=
  if !sizeOk a n then d.emit .completerAbort
  else if inTbl a then
    let r := d.tblRead a n .host
    Dev.endRead (r.1, BitVec.ofNat 64 (leNat r.2.1), r.2.2)
  else if inRng a then
    if d.reachable .rng then
      let r := d.ctxRead a n
      Dev.endRead (r.1, r.2, .ok)
    else d.emit .completerAbort
  else Dev.endRead (d.regRead a n .host)

/-! ### Configuration space (R297, R298) -/

/-- Dword k of the function's header: identification, Bus Master Enable, class, the base addresses of BAR0 (16 MiB) and BAR2 (128 KiB), 64-bit and not
prefetchable, BAR4 zero, the subsystem's identification, no interrupt pin. What the PCI Express Base Specification lays out and R297 does not name
reads as zero here (log entry 112). -/
def Dev.configDword (d : Dev) (k : Nat) : Nat :=
  let c := d.host.ctl
  match k with
  | 0 => 0x16241F3A
  | 1 => if d.host.busMaster then 4 else 0
  | 2 => 0x118000B0
  | 4 => c.bar0.toNat % 2 ^ 32 / 2 ^ 24 * 2 ^ 24 + 4
  | 5 => c.bar0.toNat / 2 ^ 32
  | 6 => c.bar2.toNat % 2 ^ 32 / 2 ^ 17 * 2 ^ 17 + 4
  | 7 => c.bar2.toNat / 2 ^ 32
  | 11 => (Config.subsystem 1).toNat * 2 ^ 16 + (Config.subsystem 0).toNat
  | _ => 0

/-! ### BAR2 -/

/-- The MSI-X table's dword k: message address low and high, data, vector control (PCI Express Base Specification). -/
def Dev.msixDword (d : Dev) (k : Nat) : Nat :=
  if k % 4 = 3 then (if d.host.unmasked.contains (k / 4) then 0 else 1) else (alGet d.host.msixTab k 0).toNat

/-- Write of a dword of the MSI-X table. -/
def Dev.msixWrite (d : Dev) (k : Nat) (v : Nat) : Dev :=
  if k % 4 = 3 then d.msixMask (k / 4) (v.testBit 0)
  else
    let w := BitVec.ofNat 32 v
    { d with host := { d.host with msixTab := if w = 0 then alErase d.host.msixTab k else alSet d.host.msixTab k w } }

/-- Dword k of the pending-bit array. -/
def Dev.pbaDword (d : Dev) (k : Nat) : Nat := maskOf (((List.range 32).filter (fun i => d.host.msixPend.contains (32 * k + i))))

/-- A host write to BAR2; `descs` holds BUF_ADDR of each descriptor that a doorbell posts in host memory. -/
def Dev.bar2Write (d : Dev) (a n : Nat) (data : List Byte) (descs : List W64) : Dev :=
  let bytes := padTo (data.take n) n
  if !d.reachable .rng && a < 0x18100 then Dev.endWrite (d.addrErr 0x10 a .host, .offline)
  else if a < 0x10000 then
    if n = 4 && a % 16 = 0 then d.doorbell (a / 16) (leNat bytes) descs else d.sizeErr a
  else if !sizeOk a n then Dev.endWrite (d.sizeErr a, .size)
  else if 0x18100 ≤ a then Dev.endWrite (d.addrErr 0x0E a .host, .reserved)
  else if a < 0x18000 then
    let k := (a - 0x10000) / 4
    let d := d.msixWrite k (leAt bytes 0 4)
    if n = 8 then d.msixWrite (k + 1) (leAt bytes 4 4) else d
  else d

/-- A host read of BAR2. -/
def Dev.bar2Read (d : Dev) (a n : Nat) : Dev :=
  if !d.reachable .rng && a < 0x18100 then d.emit .completerAbort
  else if a < 0x10000 then d.emit (.readData 0)
  else if !sizeOk a n then d.emit .completerAbort
  else if 0x18100 ≤ a then (d.addrErr 0x0E a .host).emit .completerAbort
  else
    let word (k : Nat) : Nat := if a < 0x18000 then d.msixDword ((a - 0x10000) / 4 + k) else d.pbaDword ((a - 0x18000) / 4 + k)
    d.emit (.readData (BitVec.ofNat 64 (word 0 + (if n = 8 then word 1 * 2 ^ 32 else 0))))

/-- One access of the host. Writes to blocks of different islands take effect in the order issued, of the two orders that R32 allows (log entry 118). -/
def Dev.busAccess (d : Dev) (x : BusAccess) (descs : List W64) : Dev :=
  match x.bar2, x.write with
  | false, true => d.bar0Write x.addr x.size x.data
  | false, false => d.bar0Read x.addr x.size
  | true, true => d.bar2Write x.addr x.size x.data descs
  | true, false => d.bar2Read x.addr x.size

/-! ### Commands that are accesses -/

/-- A host access, then what falls due with it. -/
def State.access (s : State) (x : BusAccess) : State := s.after 0 (fun d => d.busAccess x [])

/-- A host write of n bytes to a register. -/
def State.hostWrite (s : State) (a n v : Nat) : State := s.access ⟨false, true, a, n, leBytes n v⟩

/-- REGISTER_WRITE (R9). -/
def execRegisterWrite (acc : BusAccess) (s : State) : Host.Outcome State Fault Refusal := .next (s.access { acc with write := true })

/-- RC_READ (R43). -/
def execRcRead (acc : BusAccess) (s : State) : Host.Outcome State Fault Refusal := .next (s.access { acc with write := false })

/-- RESERVED_LOCATION_READ (R482). -/
def execReservedLocationRead (acc : BusAccess) (s : State) : Host.Outcome State Fault Refusal := .next (s.access { acc with write := false })

/-- RING_CONTEXT_WRITE (R305). -/
def execRingContextWrite (acc : BusAccess) (s : State) : Host.Outcome State Fault Refusal :=
  .next (s.access { acc with bar2 := false, write := true })

/-- DOORBELL (R306). -/
def execDoorbell (acc : BusAccess) (descs : List W64) (s : State) : Host.Outcome State Fault Refusal :=
  .next (s.after 0 (fun d => d.busAccess { acc with bar2 := true, write := true } descs))

/-- TBL_WINDOW_ACCESS (R316). -/
def execTblWindowAccess (acc : BusAccess) (s : State) : Host.Outcome State Fault Refusal := .next (s.access { acc with bar2 := false })

/-- SAFE_REQ (R64). -/
def execSafeReq (data : W32) (s : State) : Host.Outcome State Fault Refusal := .next (s.hostWrite a_DEV_SAFE_REQ 4 data.toNat)

/-- WPU_COMMIT (R85). -/
def execWpuCommit (data : W32) (s : State) : Host.Outcome State Fault Refusal := .next (s.hostWrite a_WPU_COMMIT 4 data.toNat)

/-- LATCH_REQ (R86). -/
def execLatchReq (data : W32) (s : State) : Host.Outcome State Fault Refusal := .next (s.hostWrite a_WPU_LATCH_REQ 4 data.toNat)

/-- CMP_PUSH (R100, R102, R488): an access to CMP_PUSH[u]. -/
def execCmpPush (u : Fin 32) (acc : BusAccess) (s : State) : Host.Outcome State Fault Refusal :=
  .next (s.access { acc with bar2 := false, write := true, addr := a_WPU_CMP_PUSH u + acc.addr % 8 })

/-- CMP_CLEAR (R105). -/
def execCmpClear (u : Fin 32) (data : W64) (s : State) : Host.Outcome State Fault Refusal := .next (s.hostWrite (a_WPU_CMP_STAT u) 8 data.toNat)

/-- DSP_COMMIT (R123). -/
def execDspCommit (data : W32) (s : State) : Host.Outcome State Fault Refusal := .next (s.hostWrite a_DSP_COMMIT 4 data.toNat)

/-- COEF_MARK (R168). -/
def execCoefMark (n : Fin 17) (data : W32) (s : State) : Host.Outcome State Fault Refusal := .next (s.hostWrite (a_PIPE_COEF_CTRL n) 4 data.toNat)

/-- COEF_SWAP (R169). -/
def execCoefSwap (n : Fin 17) (data : W32) (s : State) : Host.Outcome State Fault Refusal := .next (s.hostWrite (a_PIPE_COEF_CTRL n) 4 data.toNat)

/-- CM_CLEAR (R222). -/
def execCmClear (data : W32) (s : State) : Host.Outcome State Fault Refusal := .next (s.hostWrite a_SEG_CM_CTRL 4 data.toNat)

/-- REP_CAPTURE_GO (R228). -/
def execRepCaptureGo (data : W64) (s : State) : Host.Outcome State Fault Refusal := .next (s.hostWrite a_SEG_REP_CAPTURE 8 data.toNat)

/-- BANK_MARK (R250). -/
def execBankMark (data : W32) (s : State) : Host.Outcome State Fault Refusal := .next (s.hostWrite a_CLS_BANK_CTRL 4 data.toNat)

/-- BANK_SWAP (R251). -/
def execBankSwap (data : W32) (s : State) : Host.Outcome State Fault Refusal := .next (s.hostWrite a_CLS_BANK_CTRL 4 data.toNat)

/-- ROLL_NOW (R274). -/
def execRollNow (data : W64) (s : State) : Host.Outcome State Fault Refusal := .next (s.hostWrite a_CLS_ROLL_CTRL 8 data.toNat)

/-- LOFT_FREEZE (R264). -/
def execLoftFreeze (data : W64) (s : State) : Host.Outcome State Fault Refusal := .next (s.hostWrite a_CLS_LOFT_CTRL 8 data.toNat)

/-- LOFT_RESUME (R264). -/
def execLoftResume (data : W64) (s : State) : Host.Outcome State Fault Refusal := .next (s.hostWrite a_CLS_LOFT_CTRL 8 data.toNat)

/-- TPT_RETRAIN (R154, R434). -/
def execTptRetrain (p : Fin 16) (data : W32) (s : State) : Host.Outcome State Fault Refusal := .next (s.hostWrite (a_TPT_CTRL p) 4 data.toNat)

/-- SW_FIRE (R381). -/
def execSwFire (data : W32) (s : State) : Host.Outcome State Fault Refusal := .next (s.hostWrite a_EVT_SW_FIRE 4 data.toNat)

/-- CH_CTRL_WRITE (R387). -/
def execChCtrlWrite (c : Fin 256) (data : W32) (s : State) : Host.Outcome State Fault Refusal := .next (s.hostWrite (a_EVT_CH_CTRL c) 4 data.toNat)

/-- TT_ARM (R372). -/
def execTtArm (k : Fin 8) (data : W64) (s : State) : Host.Outcome State Fault Refusal := .next (s.hostWrite (a_TIME_TT_CFG k) 8 data.toNat)

/-- PR_GO (R401). -/
def execPrGo (st : Fin 2) (data : W64) (s : State) : Host.Outcome State Fault Refusal := .next (s.hostWrite (a_HBM_PR_CTRL st) 8 data.toNat)

/-- PR_EXIT (R402): a write of PR_CTRL; any request to the stack ends partial retention too, in the access itself. -/
def execPrExit (st : Fin 2) (data : W64) (s : State) : Host.Outcome State Fault Refusal := .next (s.hostWrite (a_HBM_PR_CTRL st) 8 data.toNat)

/-- EYE_GO (R435). -/
def execEyeGo (q : Fin 13) (k : Fin 4) (data : W32) (s : State) : Host.Outcome State Fault Refusal := .next (s.hostWrite (a_LQ_EYE_CTRL q k) 4 data.toNat)

/-- BLOCK_RST (R464, R481). -/
def execBlockRst (data : W32) (s : State) : Host.Outcome State Fault Refusal := .next (s.hostWrite a_RST_BLOCK_RST 4 data.toNat)

/-- DEV_RST (R464). -/
def execDevRst (data : W32) (s : State) : Host.Outcome State Fault Refusal := .next (s.hostWrite a_RST_DEV_RST 4 data.toNat)

/-- CLK_TIMEOUT_RETRY (R467). -/
def execClkTimeoutRetry (data : W64) (s : State) : Host.Outcome State Fault Refusal := .next (s.hostWrite a_RST_CLK_TIMEOUT 8 data.toNat)

/-- ERR_ACK (R497). -/
def execErrAck (data : W64) (s : State) : Host.Outcome State Fault Refusal := .next (s.hostWrite a_ERR_STAT 8 data.toNat)

/-- FATAL_PEND_CLEAR (R499). -/
def execFatalPendClear (data : W64) (s : State) : Host.Outcome State Fault Refusal := .next (s.hostWrite a_ERR_STAT 8 data.toNat)

/-- LOCK_SET (R484): a write of the LOCK of a unit's block. -/
def execLockSet (u : RUnit) (data : W32) (s : State) : Host.Outcome State Fault Refusal := .next (s.hostWrite (lockAddr u) 4 data.toNat)

end Sys2Proof.Machine
end

