-- ==== Sys2Proof/Machine/Integrity.lean ====
section
/-! DEFINITION. The configuration CRC and its window (R489 to R493, R504), the SRAM patrol (R500, R501) and SRAM repair (R516, R517). -/

namespace Sys2Proof.Machine

/-! ### The configuration CRC -/

/-- Every block with a covered register can be reached. -/
def Dev.coveredReachable (d : Dev) : Bool := unitsInOrder.all (fun u => u.regs.all (fun r => !r.crc) || d.reachable u)

/-- A mismatch is set and reported once, outside a window (R493). -/
def Dev.judgeCrc (d : Dev) (crc : Nat) : Dev :=
  let a := a_CFG_CRC_STAT
  if d.err.winOpen.isSome || crc = d.rdF a_CFG_CRC_REF f_CFG_CRC_REF_V || d.rdB a f_CFG_CRC_STAT_MISMATCH then d
  else (d.wrB a f_CFG_CRC_STAT_MISMATCH true).reportErr 0x05 43 0

/-- CFG_SWEEP: a sweep ends, 1 ms after the one before; one that meets a block that is not reachable is abandoned (R490). -/
def Dev.cfgSweep (d : Dev) : Dev :=
  if !d.reachable .cfg || d.el < d.err.sweepAt + 1000000 then d
  else
    let d := { d with err := { d.err with sweepAt := d.el } }
    if !d.coveredReachable then d.inc a_CFG_CRC_STAT f_CFG_CRC_STAT_SKIP_CNT
    else
      let crc := d.configCrc
      (d.wrF a_CFG_CRC_STAT f_CFG_CRC_STAT_LAST crc).judgeCrc crc

/-- CFG_SWEEP (R490). -/
def execCfgSweep (dt : Nat) (s : State) : Host.Outcome State Fault Refusal := .next (s.after dt (fun d => d.cfgSweep))

/-- CFG_WINDOW_LONG (R493). -/
def execCfgWindowLong (dt : Nat) (s : State) : Host.Outcome State Fault Refusal := .next (s.after dt (fun d => d.windowLong))

/-- The CFG and ERR blocks can be reached, which the window commands need (R504). -/
def Dev.windowReachable (d : Dev) : Bool := d.reachable .cfg && d.reachable .err

/-- CFG_OPEN: the window opens; one already open stays as it is (R491). -/
def Dev.cmdCfgOpen (d : Dev) (c : Taken) : Dev :=
  if !d.windowReachable then d.finalResp c.id c.cmd c.h 0x16 noLine []
  else
    let d := if d.err.winOpen.isSome then d else { d with err := { d.err with winOpen := some d.el, winLong := false } }
    d.finalResp c.id c.cmd c.h 0 noLine []

/-- CFG_COMMIT: a sweep becomes the reference, the window closes and MISMATCH clears (R491, R493). -/
def Dev.commitCrc (d : Dev) : Dev × Nat :=
  let crc := d.configCrc
  let d := (d.wrF a_CFG_CRC_REF f_CFG_CRC_REF_V crc).wrF a_CFG_CRC_STAT f_CFG_CRC_STAT_LAST crc
  ({ d with err := { d.err with winOpen := none, winLong := false } }.wrB a_CFG_CRC_STAT f_CFG_CRC_STAT_MISMATCH false, crc)

/-- CFG_COMMIT; E_OFFLINE while a block that the sweep covers, or the error controller, is not reachable: the window stays open (R504). -/
def Dev.cmdCfgCommit (d : Dev) (c : Taken) : Dev :=
  if !d.windowReachable || !d.coveredReachable then d.finalResp c.id c.cmd c.h 0x16 noLine []
  else
    let (d, crc) := d.commitCrc
    d.finalResp c.id c.cmd c.h 0 noLine (leBytes 4 crc)

/-! ### SRAM (R500, R501) -/

/-- The four samples of a row that lie in the word found; which row and which columns an array address holds is not given. -/
def spoil {α : Type} (at_ : Nat) (xs : List (Option α)) : List (Option α) :=
  let c := at_ % max 1 xs.length / 4 * 4
  xs.mapIdx (fun i x => if c ≤ i ∧ i < c + 4 then none else x)

/-- One entry of a list, or none of them, is spoilt. -/
def spoilOne {α : Type} (pick : Nat) (f : α → α) (xs : List α) : List α :=
  let k := pick % (xs.length + 1)
  xs.mapIdx (fun i x => if i = k then f x else x)

/-- Effect of a word without valid content, by its store (R501). -/
def Dev.sramLost (d : Dev) (u : RUnit) (addr : Nat) (store : SramStore) : Dev :=
  let place (k : Nat) : Nat := Config.sramPlace addr d.clk.cyc k
  match store with
  | .batten =>
    match u with
    | .pipe n =>
      let x := lget d.pipes n .reset
      let hist := spoilOne (place 0) (fun (l : RowLine) => { l with rows := spoilOne (place 1) (spoil (place 2)) l.rows }) x.hist
      { d with pipes := lset d.pipes n { x with hist := hist } }
    | _ => d
  | .mosaicBuffer =>
    { d with mos := { d.mos with got := spoilOne (place 0) (fun (l : OutLine) => { l with samples := spoil (place 1) l.samples }) d.mos.got } }
  | .neighbourhood =>
    { d with seg := { d.seg with hist := spoilOne (place 0) (fun (l : SegLine) =>
        { l with line := { l.line with samples := spoil (place 1) l.line.samples }, d := spoil (place 1) l.d, cl := spoil (place 1) l.cl }) d.seg.hist } }
  | .columnModel col => { d with seg := { d.seg with cm := d.seg.cm.map (fun p => if p.1 = col then (p.1, { p.2 with n := 0 }) else p) } }
  | .labelTable entry =>
    if d.seg.blobs.any (fun b => b.id = entry) then
      ({ d with seg := { d.seg with
          blobs := d.seg.blobs.filter (fun b => b.id ≠ entry), parts := d.seg.parts.filter (fun p => p.blob ≠ entry) } } : Dev).inc a_SEG_STAT0
        f_SEG_STAT0_NOSEED
    else d
  | .thatchHistory e =>
    if (d.engine e).job.isSome then d.setEngine e .reset 0
    else match place 0 % 3 with | 1 => d.cropsLost | 2 => d.recLost | _ => d
  | .tree b | .actionTable b => d.setLoaded (if b then 1 else 0) false
  | .fwBankIdle =>
    let k := d.keel
    { d with keel := if k.bankInB then { k with bankA := { k.bankA with verified := false } } else { k with bankB := { k.bankB with verified := false } } }
  | .coefCache | .ringCache | .fwBankInForce | .other => d

/-- A repair of the array is needed (R516); one already awaited is enough. -/
def Dev.needRepair (d : Dev) (u : RUnit) (store : SramStore) (addr : Nat) : Dev :=
  if store = .other || d.cal.pendRep.any (fun p => p.1 = u && p.2.1 = store) then d
  else { d with cal := { d.cal with pendRep := d.cal.pendRep ++ [(u, store, BitVec.ofNat 32 addr)] } }

/-- SRAM_PATROL: one word has been read (R500). -/
def Dev.sramPatrol (d : Dev) (f : SramFinding) : Dev :=
  if d.isHeld f.unit then d
  else
    let a := f.addr.toNat
    let key := (f.unit, a)
    let o := originOf f.unit
    match f.kind with
    | 2 =>
      if d.cal.ues.contains key then d
      else
        let d := { d with cal := { d.cal with ues := d.cal.ues ++ [key] } }
        let d := d.reportAs (f.store = .fwBankInForce) 0x06 o a
        let d := d.sramLost f.unit a f.store
        if f.store = .fwBankInForce then d else d.needRepair f.unit f.store a
    | 1 =>
      let d := { d with cal := { d.cal with ues := d.cal.ues.filter (fun k => k ≠ key) } }
      let d := d.reportLimited 0x07 f.unit.base o a 1000000000
      let old := ((d.cal.ces.find? (fun p => p.1 = key)).map (·.2)).getD []
      let times := d.el :: old.filter (fun t => d.el < t + 3600000000000)
      let rest := d.cal.ces.filter (fun p => p.1 ≠ key)
      if 8 ≤ times.length then ({ d with cal := { d.cal with ces := rest } } : Dev).needRepair f.unit f.store a
      else { d with cal := { d.cal with ces := rest ++ [(key, times)] } }
    | _ => { d with cal := { d.cal with ues := d.cal.ues.filter (fun k => k ≠ key) } }

/-- SRAM_PATROL (R500). -/
def execSramPatrol (dt : Nat) (f : SramFinding) (s : State) : Host.Outcome State Fault Refusal := .next (s.after dt (fun d => d.sramPatrol f))

/-! ### SRAM repair (R516, R517) -/

/-- Kind of a store in a repair entry, and its spare rows and columns together (R516). -/
def storeKind : SramStore → Nat × Nat
  | .batten => (0, 6) | .mosaicBuffer => (1, 6) | .neighbourhood => (2, 6) | .columnModel _ => (3, 6) | .labelTable _ => (4, 6)
  | .coefCache => (5, 3) | .ringCache => (6, 3) | .thatchHistory _ => (7, 3) | .tree _ => (8, 6) | .actionTable _ => (9, 6)
  | .fwBankInForce | .fwBankIdle => (10, 10) | .other => (15, 0)

/-- The 32-bit entry of a repair: block, store and row. -/
def repairEntry (u : RUnit) (k row : Nat) : W32 := BitVec.ofNat 32 (u.base / 4096 * 2 ^ 20 + k * 2 ^ 16 + row % 2 ^ 16)

/-- SRAM_REPAIR: at its safe instant an array that awaits a repair gets it; the row replaced holds nothing valid. An array without a spare is
shown. The bank in force is repaired while it is idle. -/
def Dev.sramRepair (d : Dev) (r : SramRepair) : Dev :=
  match d.cal.pendRep.find? (fun p => p.1 = r.unit && p.2.1 = r.store) with
  | none => d
  | some p =>
    if r.store = .fwBankInForce then d
    else
      let (k, spares) := storeKind r.store
      let d := { d with cal := { d.cal with pendRep := d.cal.pendRep.filter (fun q => q ≠ p) } }
      let mine := d.cal.repairs.filter (fun e => e.toNat / 2 ^ 16 = (repairEntry r.unit k 0).toNat / 2 ^ 16)
      if spares ≤ mine.length then d.flag a_CAL_SRAM_STAT f_CAL_SRAM_STAT_EXHAUSTED
      else
        let d := d.sramLost r.unit p.2.2.toNat r.store
        ({ d with cal := { d.cal with repairs := d.cal.repairs ++ [repairEntry r.unit k r.row.toNat] } } : Dev).calNote 0x602

/-- SRAM_REPAIR (R516). -/
def execSramRepair (dt : Nat) (r : SramRepair) (s : State) : Host.Outcome State Fault Refusal := .next (s.after dt (fun d => d.sramRepair r))

end Sys2Proof.Machine
end

