-- ==== Sys2Proof/Machine/EnvOps.lean ====
section
/-! DEFINITION. Command envelopes (R328 to R358): their bytes, the checks of R335, the objects of R338, and when a command may start. -/

namespace Sys2Proof

open Machine

/-! ### Arguments in bytes (R348 to R356) -/

/-- The argument bytes of a command, padded to a multiple of 8, every byte not named zero (R348). -/
def Cmd.args : Cmd → List Byte
  | .nop | .info | .rollNext | .fwSwap | .partnerRejoin | .serviceAbort | .calStore | .cfgOpen | .cfgCommit | .evtCommit | .pairHandover => []
  | .cmdQuery m tag => [m, 0, 0, 0] ++ leBytes 4 tag.toNat
  | .regRead es => padTo (leBytes 2 es.length) 8 ++ es.flatMap (fun e => leBytes 4 e.addr.toNat ++ [e.size, 0, 0, 0])
  | .regWrite es =>
    padTo (leBytes 2 es.length) 8 ++ es.flatMap (fun e => leBytes 4 e.addr.toNat ++ [e.size, 0, 0, 0] ++ leBytes 8 e.value.toNat)
  | .modeSet t => padTo [t] 8
  | .loftExport f l r => leBytes 8 f.toNat ++ leBytes 8 l.toNat ++ padTo (leBytes 2 r.toNat) 8
  | .tableLoad t | .tableRead t =>
    [t.table, t.inst, t.bank, BitVec.ofNat 8 (bitN t.loc 0 + bitN t.thatch 1 + bitN t.part 2)] ++ leBytes 4 t.offset.toNat ++
    leBytes 4 t.len.toNat ++ leBytes 4 t.srcLen.toNat ++ leBytes 8 t.addr.toNat
  | .camRegRead p n a => [p, 0] ++ leBytes 2 n.toNat ++ leBytes 4 a.toNat
  | .camRegWrite p a ws => padMul ([p, 0] ++ leBytes 2 ws.length ++ leBytes 4 a.toNat ++ ws.flatMap (fun w => leBytes 4 w.toNat)) 8
  | .viewReserve v =>
    [v.slot, v.zoom, v.rate, v.dest] ++ leBytes 4 v.x0.toNat ++ leBytes 4 v.x1.toNat ++ padTo (leBytes 2 v.hOut.toNat) 4
  | .viewRelease k => padTo [k] 8
  | .hbmSetpoint m s => padTo [m, s] 8
  | .hbmRetire s p => padTo [s, p] 8
  | .fwStage x | .nvWrite x =>
    [BitVec.ofNat 8 (bitN x.loc 0 + bitN x.thatch 1), 0, 0, 0] ++ leBytes 4 x.srcLen.toNat ++ leBytes 8 x.addr.toNat
  | .pipeTakeover t => padTo [t] 8
  | .laneRetrain l => padTo [l] 8
  | .calRun item arg => padTo (leBytes 2 item.toNat) 8 ++ leBytes 8 arg.toNat
  | .calRead item => padTo (leBytes 2 item.toNat) 8
  | .fuseProgram ls => ls
  | .timeStep x => leBytes 8 x.toNat

/-- Argument bytes that an opcode takes, given its arguments, whose count says how long a list is; none for an opcode not listed (R335, R348). -/
def argLen (op : Nat) (a : List Byte) : Option Nat :=
  if op ∈ [0x01, 0x02, 0x11, 0x51, 0x54, 0x55, 0x62, 0x70, 0x71, 0x81, 0x90] then some 0
  else if op ∈ [0x03, 0x10, 0x30, 0x33, 0x40, 0x41, 0x52, 0x53, 0x61, 0x80] then some 8
  else if op ∈ [0x32, 0x50, 0x60, 0x72, 0x73] then some 16
  else if op ∈ [0x12, 0x20, 0x21] then some 24
  else if op = 0x04 then some (8 + 8 * leAt a 0 2)
  else if op = 0x05 then some (8 + 16 * leAt a 0 2)
  else if op = 0x31 then some (8 + (4 * leAt a 2 2 + 7) / 8 * 8)
  else none

/-- The command that an opcode and its arguments spell; what a reserved byte holds is not looked at. -/
def Cmd.ofArgs (op : Nat) (a : List Byte) : Option Cmd :=
  let b (o : Nat) : Byte := BitVec.ofNat 8 (leAt a o 1)
  let h (o : Nat) : BitVec 16 := BitVec.ofNat 16 (leAt a o 2)
  let w (o : Nat) : W32 := BitVec.ofNat 32 (leAt a o 4)
  let q (o : Nat) : W64 := BitVec.ofNat 64 (leAt a o 8)
  let bit (o k : Nat) : Bool := (leAt a o 1).testBit k
  let table : TableXfer := ⟨b 0, b 1, b 2, bit 3 0, bit 3 1, bit 3 2, w 4, w 8, w 12, q 16⟩
  let src : ImageSrc := ⟨bit 0 0, bit 0 1, w 4, q 8⟩
  match op with
  | 0x01 => some .nop
  | 0x02 => some .info
  | 0x03 => some (.cmdQuery (b 0) (w 4))
  | 0x04 => some (.regRead ((List.range (leAt a 0 2)).map (fun i => ⟨w (8 + 8 * i), b (12 + 8 * i)⟩)))
  | 0x05 => some (.regWrite ((List.range (leAt a 0 2)).map (fun i => ⟨w (8 + 16 * i), b (12 + 16 * i), q (16 + 16 * i)⟩)))
  | 0x10 => some (.modeSet (b 0))
  | 0x11 => some .rollNext
  | 0x12 => some (.loftExport (q 0) (q 8) (h 16))
  | 0x20 => some (.tableLoad table)
  | 0x21 => some (.tableRead table)
  | 0x30 => some (.camRegRead (b 0) (h 2) (w 4))
  | 0x31 => some (.camRegWrite (b 0) (w 4) ((List.range (leAt a 2 2)).map (fun i => w (8 + 4 * i))))
  | 0x32 => some (.viewReserve ⟨b 0, b 1, b 2, b 3, w 4, w 8, h 12⟩)
  | 0x33 => some (.viewRelease (b 0))
  | 0x40 => some (.hbmSetpoint (b 0) (b 1))
  | 0x41 => some (.hbmRetire (b 0) (b 1))
  | 0x50 => some (.fwStage src)
  | 0x51 => some .fwSwap
  | 0x52 => some (.pipeTakeover (b 0))
  | 0x53 => some (.laneRetrain (b 0))
  | 0x54 => some .partnerRejoin
  | 0x55 => some .serviceAbort
  | 0x60 => some (.calRun (h 0) (q 8))
  | 0x61 => some (.calRead (h 0))
  | 0x62 => some .calStore
  | 0x70 => some .cfgOpen
  | 0x71 => some .cfgCommit
  | 0x72 => some (.nvWrite src)
  | 0x73 => some (.fuseProgram (a.take 16))
  | 0x80 => some (.timeStep (q 0))
  | 0x81 => some .evtCommit
  | 0x90 => some .pairHandover
  | _ => none

/-- The bytes of an envelope (R332). -/
def envBytes (cmd : Cmd) (h : EnvHdr) : List Byte :=
  let a := cmd.args
  padTo (leBytes 2 cmd.opcode ++ leBytes 2 (32 + a.length) ++ leBytes 4 h.tag.toNat ++
    [1, BitVec.ofNat 8 (bitN h.noDefer 0 + bitN h.barrier 1 + bitN h.quiet 2 + bitN h.noInterim 3)] ++ leBytes 2 h.timeoutMs.toNat) 32 ++ a

/-- The header of an envelope taken from mailbox m (R332). -/
def envHeader (m : Fin 16) (e : List Byte) : EnvHdr :=
  let f (k : Nat) : Bool := (leAt e 9 1).testBit k
  ⟨m, BitVec.ofNat 32 (leAt e 4 4), f 0, f 1, f 2, f 3, BitVec.ofNat 16 (leAt e 10 2)⟩

/-- The first check of R335 that an envelope of n bytes fails, or the command it carries; whether the arguments lie in range is checked later. -/
def readEnvelope (n : Nat) (e : List Byte) : Except Nat Cmd :=
  let a := e.drop 32
  let op := leAt e 0 2
  if leAt e 8 1 ≠ 1 ∨ 16 ≤ leAt e 9 1 ∨ (slice e 12 20).any (fun b => b ≠ 0) then .error 0x13
  else if leAt e 2 2 ≠ n then .error 0x11
  else
    match argLen op a with
    | none => .error 0x10
    | some k =>
      if n ≠ 32 + k then .error 0x11
      else
        match Cmd.ofArgs op a with
        | none => .error 0x10
        | some c => if c.args = a then .ok c else .error 0x12

/-- A command that the authority of a pair has the partner run too (R342); a handover and a rejoin have packets of their own (R454, R458). -/
def Cmd.forwarded : Cmd → Bool
  | .modeSet _ | .rollNext | .tableLoad _ | .timeStep _ | .evtCommit => true
  | _ => false

/-- The commands that the recovery monitor accepts (R475). -/
def Cmd.inRecovery : Cmd → Bool
  | .nop | .info | .cmdQuery .. | .regRead _ | .regWrite _ | .fwStage _ | .fwSwap | .nvWrite _ => true
  | _ => false

/-- The entry addresses a mirrored register. -/
def RegPut.mirrored (e : RegPut) : Bool :=
  match accessParts e.addr.toNat e.size.toNat with
  | some ps => ps.any (fun p => p.reg.mir)
  | none => false

/-- A service operation (R59, R348). -/
def Cmd.isService : Cmd → Bool
  | .hbmRetire .. | .fwSwap | .pipeTakeover _ | .laneRetrain _ | .partnerRejoin => true
  | _ => false

end Sys2Proof

namespace Sys2Proof.Machine

/-! ### Arguments in range (R335) -/

/-- The source of an image is host memory or lies in the stacks. -/
def Dev.sourceInRange (d : Dev) (x : ImageSrc) : Bool := !x.loc || !d.outside x.addr.toNat x.srcLen.toNat

/-- The arguments of a command lie in range (R335, R349 to R356). -/
def Dev.argsOk (d : Dev) : Cmd → Bool
  | .cmdQuery m _ => m.toNat < 16
  | .regRead es => 1 ≤ es.length && es.length ≤ 64
  | .regWrite es => 1 ≤ es.length && es.length ≤ 64
  | .modeSet t => (modeOf t.toNat).isSome
  | .loftExport _ _ r => 16 ≤ r.toNat && r.toNat < 4096
  | .tableLoad t => d.loadArgsOk t
  | .tableRead t => d.readArgsOk t
  | .camRegRead p n _ => p.toNat < 16 && 1 ≤ n.toNat && n.toNat ≤ 64
  | .camRegWrite p _ ws => p.toNat < 16 && 1 ≤ ws.length && ws.length ≤ 64
  | .viewReserve v => v.slot.toNat < 32 && v.dest.toNat < 64
  | .viewRelease k => k.toNat < 32
  | .hbmSetpoint m s => 1 ≤ m.toNat && m.toNat ≤ 3 && s.toNat ≤ 1
  | .hbmRetire s p => s.toNat < 2 && p.toNat < 32
  | .fwStage x => (x.thatch || x.srcLen.toNat ≤ 2 ^ 23) && d.sourceInRange x
  | .nvWrite x => d.sourceInRange x
  | .pipeTakeover t => t.toNat < 17
  | .laneRetrain l => l.toNat < 52 && !(40 ≤ l.toNat && l.toNat < 48)
  | .calRun item arg => d.calArgOk item.toNat arg.toNat
  | .calRead item => calKnown item.toNat
  | .fuseProgram ls => ls.length = 16 && ls.all (fun l => l.toNat ≤ 4)
  | .timeStep x => x ≠ 0
  | .nop | .info | .rollNext | .fwSwap | .partnerRejoin | .serviceAbort | .calStore | .cfgOpen | .cfgCommit | .evtCommit | .pairHandover => true

/-! ### Objects (R338) -/

/-- An object that commands change. -/
inductive Obj
  | mode | fwBank | flash | cal | time | evt | roll | loft | service
  | pipe (n : Nat) | port (p : Nat) | lane (l : Nat) | hbm (s : Nat) | view (v : Nat)
  | table (table inst bank : Nat)
  deriving DecidableEq, Repr

/-- The objects that a command's entry names (R349 to R356). -/
def Dev.objectsOf (d : Dev) : Cmd → List Obj
  | .modeSet _ | .pairHandover => [.mode]
  | .rollNext => [.roll]
  | .loftExport .. => [.loft]
  | .tableLoad t => [.table t.table.toNat t.inst.toNat t.bank.toNat]
  | .camRegRead p _ _ => [.port p.toNat]
  | .camRegWrite p _ _ => [.port p.toNat]
  | .viewReserve v => [.view v.slot.toNat]
  | .viewRelease k => [.view k.toNat]
  | .hbmSetpoint m _ => ([0, 1].filter (fun s => m.toNat.testBit s)).map .hbm
  | .hbmRetire s _ => [.hbm s.toNat]
  | .fwStage _ => [.fwBank]
  | .fwSwap => [.fwBank, .service]
  | .pipeTakeover t => .pipe t.toNat :: (match d.spareOf with | some n => [.pipe n] | none => [])
  | .laneRetrain l => [.lane l.toNat]
  | .serviceAbort => [.service]
  | .calRun .. => [.cal]
  | .calStore | .nvWrite _ | .fuseProgram _ => [.flash]
  | .timeStep _ => [.time]
  | .evtCommit => [.evt]
  | .nop | .info | .cmdQuery .. | .regRead _ | .regWrite _ | .tableRead _ | .partnerRejoin | .calRead _ | .cfgOpen | .cfgCommit => []

/-- Commands that hold their objects: class D commands without their final response but for MODE_SET, and commands that the partner is still
running (R338, R342). -/
def Dev.holders (d : Dev) : List Cmd :=
  d.keel.pending.map (·.cmd) ++ (d.keel.fwd.filter (fun f => f.mine.isSome)).map (·.cmd)

/-- An object is held: a port by 16 camera commands (R354); MODE until start-up ends (R548); the flash by a store of the device's own too. -/
def Dev.objectHeld (d : Dev) (o : Obj) : Bool :=
  let n := (d.holders.filter (fun c => (match c with | .modeSet _ => false | _ => true) && (d.objectsOf c).contains o)).length
  match o with
  | .port _ => 16 ≤ n
  | .mode => d.mode.starting || n ≠ 0
  | .flash => d.cal.auto || n ≠ 0
  | _ => n ≠ 0

/-! ### Starting (R338) -/

/-- The Keel serves its mailboxes: its firmware or monitor runs, and no firmware pause is on (R345, R475). -/
def Dev.keelServes (d : Dev) : Bool := d.rst.fwDone && !d.keel.paused && !d.isHeld .mbx

/-- The command may start: none before it in its mailbox waits, none of class I there is unfinished, none of its objects is held or waited for
by an earlier command, and with BARRIER every earlier command there has ended. -/
def Dev.mayStart (d : Dev) (t : Taken) : Bool :=
  let earlier := d.keel.waiting.filter (fun w => w.id < t.id)
  let mine (h : EnvHdr) : Bool := h.mailbox = t.h.mailbox
  let objs := d.objectsOf t.cmd
  !earlier.any (fun w => mine w.h) && !d.keel.pending.any (fun p => p.id < t.id && mine p.h && !p.cmd.deferred) &&
  !d.keel.fwd.any (fun f => f.id < t.id && mine f.h && !f.cmd.deferred) &&
  !objs.any d.objectHeld && !earlier.any (fun w => (d.objectsOf w.cmd).any (fun o => objs.contains o)) &&
  (!t.h.barrier || !(d.keel.pending.any (fun p => mine p.h) || d.keel.fwd.any (fun f => mine f.h)))

end Sys2Proof.Machine
end

