-- ==== Sys2Proof/Machine/Envelope.lean ====
section
/-! DEFINITION. The commands that envelopes carry (R348 to R356), and what the Keel does on its own with envelopes: taking one, starting one
that waits, ending one that waits too long (R331, R335, R338). -/

namespace Sys2Proof.Machine

/-! ### Ends -/

/-- The command ends with a status and no result. -/
def Dev.fail (d : Dev) (t : Taken) (status : Nat) : Dev := d.finalResp t.id t.cmd t.h status noLine []

/-- The command ends with OK and a result. -/
def Dev.done (d : Dev) (t : Taken) (body : List Byte) : Dev := d.finalResp t.id t.cmd t.h 0 noLine body

/-- The device holds the authority token. -/
def Dev.authority (d : Dev) : Bool := d.rdB a_RDG_STAT f_RDG_STAT_AUTHORITY

/-- The Ridge link is up. -/
def Dev.ridgeUp (d : Dev) : Bool := d.rdB a_RDG_STAT f_RDG_STAT_RIDGE_UP

/-! ### General and register commands (R349) -/

/-- NOP. -/
def Dev.runNop (d : Dev) (t : Taken) : Dev := d.done t []

/-- INFO. -/
def Dev.runInfo (d : Dev) (t : Taken) : Dev :=
  let k := d.keel
  let role : Nat := if !d.established then 0 else if d.authority then 1 else 2
  d.done t (leBytes 4 (d.rd a_DEV_ID).toNat ++ leBytes 4 k.bankA.version.toNat ++ leBytes 4 k.bankB.version.toNat ++
    [if k.bankInB then 1 else 0, if k.idle.verified then 1 else 0, 0, 0] ++ leBytes 8 d.now.toNat ++ leBytes 2 d.clk.epoch.toNat ++
    [BitVec.ofNat 8 role])

/-- What CMD_QUERY may find of a command: its number in the order taken, OPCODE, STATUS, state, EFFECT_LINE. -/
structure QueryHit where
  id     : Nat
  opcode : Nat
  status : Nat
  state  : Byte
  line   : W64

/-- The commands of mailbox m that carry a TAG, among those that wait, that are pending and the kept outcomes (R346). -/
def Dev.queryHits (d : Dev) (m : Nat) (tag : W32) : List QueryHit :=
  let mine (h : EnvHdr) : Bool := h.mailbox.val = m && h.tag = tag
  let k := d.keel
  (k.waiting.filter (fun t => mine t.h)).map (fun t => ⟨t.id, t.cmd.opcode, 0, 1, noLine⟩) ++
  (k.pending.filter (fun p => mine p.h)).map (fun p => ⟨p.id, p.cmd.opcode, 1, 2, p.line⟩) ++
  (k.fwd.filter (fun f => mine f.h && f.mine.isSome)).map (fun f => ⟨f.id, f.cmd.opcode, 1, 2, noLine⟩) ++
  (k.kept.filter (fun x => x.mailbox.val = m && x.tag = tag)).map (fun x => ⟨x.id, x.opcode.toNat, x.status.toNat, 3, x.line⟩)

/-- CMD_QUERY: the command taken most recently that carries the TAG; state 0 where none does (R346). -/
def Dev.runQuery (d : Dev) (t : Taken) (m : Nat) (tag : W32) : Dev :=
  let best := (d.queryHits m tag).foldl (fun (b : Option QueryHit) x =>
    match b with | some y => if y.id < x.id then some x else b | none => some x) none
  d.done t (match best with
    | some x => leBytes 2 x.opcode ++ leBytes 2 x.status ++ [x.state, 0, 0, 0] ++ leBytes 8 x.line.toNat
    | none => zeros 16)

/-- Status of an access to register space. -/
def Access.status : Access → Nat
  | .ok => 0 | .size => 0x12 | .reserved => 0x14 | .offline => 0x16 | .locked => 0x15

/-- One entry of REG_READ for mailbox m: its value, or its status. -/
def Dev.readEntry (d : Dev) (m : Fin 16) (e : RegSel) : Dev × Except Nat W64 :=
  let a := e.addr.toNat
  let n := e.size.toNat
  if !sizeOk a n then (d, .error 0x12)
  else if inTbl a then (d, .error 0x14)
  else if inRng a then (if d.reachable .rng then (let r := d.ctxRead a n; (r.1, .ok r.2)) else (d, .error 0x16))
  else
    let r := d.regRead a n (.mailbox m)
    (r.1, if r.2.2 = .ok then .ok r.2.1 else .error r.2.2.status)

/-- Entries of REG_READ in order until the first that fails: the values, and the status. -/
def Dev.readEntries (d : Dev) (m : Fin 16) : List RegSel → Dev × List W64 × Nat
  | [] => (d, [], 0)
  | e :: es =>
    match d.readEntry m e with
    | (d', .ok v) => let r := d'.readEntries m es; (r.1, v :: r.2.1, r.2.2)
    | (d', .error st) => (d', [], st)

/-- REG_READ. -/
def Dev.runRegRead (d : Dev) (t : Taken) (es : List RegSel) : Dev :=
  let (d, vs, st) := d.readEntries t.h.mailbox es
  d.finalResp t.id t.cmd t.h st noLine (padTo (leBytes 2 vs.length) 8 ++ vs.flatMap (fun v => leBytes 8 v.toNat))

/-- One entry of REG_WRITE for mailbox m: its status. A partner refuses an entry that addresses a mirrored register (R342). -/
def Dev.writeEntry (d : Dev) (m : Fin 16) (e : RegPut) : Dev × Nat :=
  let a := e.addr.toNat
  let n := e.size.toNat
  if !sizeOk a n then (d, 0x12)
  else if inTbl a then (d, 0x14)
  else if d.isPartner && m.val ≠ 15 && e.mirrored then (d, 0x1A)
  else if inRng a then
    if !d.reachable .rng then (d.addrErr 0x10 a (.mailbox m), 0x16)
    else
      let r := (a - 0x800000) / 64
      let bs := leBytes n e.value.toNat
      let bad := d.ringRefused r (a % 64) bs (.mailbox m)
      (d.ringWrite r (a % 64) bs (.mailbox m), if bad then 0x15 else 0)
  else
    let r := d.regWrite a n e.value (.mailbox m)
    (r.1, r.2.status)

/-- Entries of REG_WRITE in order until the first that fails: how many stand, and the status (R341). -/
def Dev.writeEntries (d : Dev) (m : Fin 16) : List RegPut → Dev × Nat × Nat
  | [] => (d, 0, 0)
  | e :: es =>
    match d.writeEntry m e with
    | (d', 0) => let r := d'.writeEntries m es; (r.1, r.2.1 + 1, r.2.2)
    | (d', st) => (d', 0, st)

/-- The authority of a pair whose link is up sends commands on to the partner, but for the partner's own (R342). -/
def Dev.sendsOn (d : Dev) (h : EnvHdr) : Bool := d.established && d.authority && d.ridgeUp && h.mailbox.val ≠ 15

/-- The envelope that carries a command to the partner's mailbox 15; its TAG is the command's number here (R329, R342). -/
def Dev.sendOn (d : Dev) (t : Taken) (cmd : Cmd) : Dev :=
  d.ridge 0x85 (envBytes cmd { t.h with tag := BitVec.ofNat 32 t.id, quiet := false, noInterim := true })

/-- What the partner's write stored joins the settings that the coming boundary brings in, where the write came before the sync point and is carried
out after it: one EFFECT_LINE for both devices (R342). -/
def Dev.sameLine (d : Dev) (t : Taken) (es : List RegPut) : Dev :=
  match t.line with
  | none => d
  | some x =>
    if !d.wpu.synced || x.1 ≠ d.nextFirst then d
    else es.foldl (fun d e =>
      match accessParts e.addr.toNat e.size.toNat with
      | some ps => ps.foldl (fun d p => { d with snap := d.snap.put p.addr (d.rd p.addr) }) d
      | none => d) d

/-- REG_WRITE: entries that address mirrored registers and stand are sent on to the partner (R341, R342). -/
def Dev.runRegWrite (d : Dev) (t : Taken) (es : List RegPut) : Dev :=
  let (d, n, st) := d.writeEntries t.h.mailbox es
  let d := d.sameLine t (es.take n)
  let sent := (es.take n).filter RegPut.mirrored
  let go := d.sendsOn t.h && !sent.isEmpty
  let d := if go then { d with keel := { d.keel with fwd := d.keel.fwd ++ [⟨t.id, t.cmd, t.h, none, none⟩] } } else d
  let d := d.finalResp t.id t.cmd t.h st noLine (leBytes 2 n)
  if go then d.sendOn t (.regWrite sent) else d

/-! ### MODE_SET (R50 to R55, R351, R442) -/

/-- Every port in use has the LANE_MODE of R442 in force: 1 on device A, 2 on device B. -/
def Dev.pairPortsOk (d : Dev) : Bool :=
  (List.range 16).all (fun p =>
    let m := d.inF (a_TPT_CFG p) f_TPT_CFG_LANE_MODE
    m = 0 || m = (if d.rst.primary then 1 else 2))

/-- Ports in use, as a mask. -/
def Dev.portsUsed (d : Dev) : Nat := maskOf ((List.range 16).filter (fun p => d.inF (a_TPT_CFG p) f_TPT_CFG_LANE_MODE ≠ 0))

/-- The partner's ports and their lanes, as its last HELLO shows them (log entry 33): the same ports, each with its LANE_MODE of R442. -/
def Dev.partnerPortsOk (d : Dev) : Bool :=
  match d.pair.hello with
  | some x => leAt x 28 2 = d.portsUsed && (leAt x 30 1).testBit 0
  | none => false

/-- The checks 0x0022 to 0x002C of an acquiring or other target, as FAIL_MASK: each is judged on the settings that the target's first line will
see (R50, R351). -/
def Dev.modeMask (d : Dev) (m : Mode) : Nat :=
  let e := d.bringCourse d.regs m.code false false
  let e := if d.mode.cur.acquiring then e else e.commit .entryStandby
  let e := e.commit .entry
  let e := if m == .record then e.commit .record else e
  let c := e.ctxNow 0 e.courseLen m.code
  let bit (k : Nat) (fails : Bool) : Nat := if fails then 2 ^ k else 0
  let hi := e.cF c a_THA_REC_CFG f_THA_REC_CFG_COL_HI
  let lo := e.cF c a_THA_REC_CFG f_THA_REC_CFG_COL_LO
  let rec_ : Bool := m == .record
  let fast : Bool := !(e.trigLimits c).any (fun x => e.recWidth c * x.2 ≤ 32 * x.1)
  let always := bit 2 (rec_ && (decide (hi < lo) || decide (e.gridWidth c ≤ hi) || fast)) + bit 3 (rec_ && d.bankWide d.bankCommitted) +
    bit 4 (!d.admitted m.code (0, 0))
  if !m.acquiring then always
  else
    let (size, kernel, store) := e.segEntry c m.code
    always + bit 5 (!e.coefSizeOk) + bit 6 (!e.battenOk) + bit 7 (!geometryOk (e.gridWidth c) (e.camsOf c)) +
      bit 8 (!e.cB c a_MOS_CFG f_MOS_CFG_CD_REF && !e.cB c a_MOS_EDGE_CFG f_MOS_EDGE_CFG_EN_OS) + bit 9 size + bit 10 kernel + bit 11 store +
      bit 12 (e.cF c a_CLS_LOFT_CFG f_CLS_LOFT_CFG_LINES < 8192)

/-- The status of a transition by R52: 0 where it is listed. -/
def Dev.transition (d : Dev) (m : Mode) : Nat :=
  if m == .safeHold then 0
  else
    match d.mode.cur with
    | .standby => if m.acquiring then 0 else 0x20
    | .safeHold => if m ≠ .standby then 0x20 else if d.safeClear then 0 else 0x21
    | cur => if m = cur then 0x20 else 0

/-- The first check of R351 that ends a MODE_SET, 0 for none, and FAIL_MASK. -/
def Dev.modeChecks (d : Dev) (h : EnvHdr) (m : Mode) : Dev × Nat × Nat :=
  let tr := d.transition m
  if d.mode.service.isSome && m ≠ .safeHold then (d, 0x1C, 0)
  else if d.isPartner && h.mailbox.val ≠ 15 then (d, 0x1A, 0)
  else if tr ≠ 0 then (d, tr, 0)
  else if d.established && !(m ∈ [Mode.standby, .calibrate, .inspectPaired, .safeHold]) then (d, 0x19, 0)
  else if m == .inspectPaired && !(d.established && d.ridgeUp) then (d, 0x1B, 0)
  else if m == .inspectPaired && !(d.pairPortsOk && d.partnerPortsOk) then (d.wrF a_RDG_STAT f_RDG_STAT_PAIR_ERR 5, 0x1B, 0)
  else if m == .safeHold then (d, 0, 0)
  else
    let mask := d.modeMask m
    (d, if mask = 0 then 0 else 0x20 + ((List.range 13).find? (fun k => mask.testBit k)).getD 0, mask)

/-- A MODE_SET that passed its checks: SAFE_HOLD at once; otherwise it replaces a pending change and takes effect as R52 says (R54, R55). In SAFE_HOLD
one to SAFE_HOLD leaves a pending change as it is (R52; log entry 120). -/
def Dev.modeAccept (d : Dev) (t : Taken) (m : Mode) : Dev :=
  if m == .safeHold then (if d.inSafe then d else d.enterSafe 4).done t []
  else
    let d := match d.mode.pend with
      | none => d
      | some p =>
        let d := { d with mode := { d.mode with pend := none } }
        match p.cmd with | some id => d.finish id 2 noLine [] | none => d
    if d.mode.cur.acquiring then
      let line := match t.line with | some x => x.1 | none => d.effectFirst
      ({ d with mode := { d.mode with pend := some ⟨m, some t.id, some line⟩ } } : Dev).accept t (BitVec.ofNat 64 line)
    else
      { d with
        mode := { d.mode with pend := some ⟨m, some t.id, none⟩ }
        keel := { d.keel with pending := d.keel.pending ++ [⟨t.id, t.h, t.cmd, noLine, t.at_⟩] } }

/-- MODE_SET. -/
def Dev.runModeSet (d : Dev) (t : Taken) (code : Nat) : Dev :=
  match modeOf code with
  | none => d.fail t 0x12
  | some m =>
    let (d, st, mask) := d.modeChecks t.h m
    if st = 0 then d.modeAccept t m
    else d.finalResp t.id t.cmd t.h st noLine (if mask = 0 then [] else leBytes 8 mask)

/-! ### Rolls and the loft (R274, R320, R350) -/

/-- ROLL_NEXT: refused where two rolls are open; otherwise the next line issued begins roll NEXT_ID, and the command ends with that line; outside the
acquiring modes no line is near and it ends at once (R336, R337; log entry 104). -/
def Dev.runRollNext (d : Dev) (t : Taken) : Dev :=
  if !d.reachable .cls then d.fail t 0x16
  else if 2 ≤ d.cls.rolls.length then (d.inc a_CLS_ROLL_STAT f_CLS_ROLL_STAT_REFUSED_CNT).fail t 0x17
  else
    let least := match t.line with | some x => x.2 | none => 0
    let due (c : Option Nat) : Dev := { d with cls := { d.cls with rollDue := d.cls.rollDue ++ [⟨0, none, least, c⟩] } }
    if d.acquiring then
      let d := due (some t.id)
      { d with keel := { d.keel with pending := d.keel.pending ++ [⟨t.id, t.h, t.cmd, noLine, t.at_⟩] } }
    else (due none).done t (leBytes 4 (d.rdF a_CLS_ROLL_CTRL f_CLS_ROLL_CTRL_NEXT_ID))

/-- LOFT_EXPORT: the range must lie in the frozen loft, and the ring be an enabled item ring; its object then goes to the ring. -/
def Dev.runLoftExport (d : Dev) (t : Taken) (first last ring : Nat) : Dev :=
  let c := d.ring ring
  if !d.reachable .cls then d.fail t 0x16
  else if !d.cls.frozen then d.fail t 0x38
  else if last < first || d.loftLines ≤ last - first ||
      (d.cls.written.filter (fun l => first ≤ l && l ≤ last)).length ≠ last + 1 - first || !c.en || c.typ ≠ 1 then d.fail t 0x12
  else
    let obj := (d.cls.objects + 1) % 2 ^ 32
    let d := d.accept t noLine
    let d := { d with cls := { d.cls with objects := obj, exp := some ⟨t.id, ring, obj, first, last, first, d.loftSlot d.wpu.ctx, 0, false⟩ } }
    d.toRing { RingItem.whole ring 5 [] with objId := BitVec.ofNat 32 obj, complete := false }

/-! ### Cameras, views, HBM (R354, R355) -/

/-- CAM_REG_READ and CAM_REG_WRITE: a REG_RD or REG_WR to the camera (R151). -/
def Dev.runCam (d : Dev) (t : Taken) (p typ count addr : Nat) (words : List W32) : Dev :=
  match d.trigLane p with
  | none => d.fail t 0x31
  | some l =>
    let mk (tag : BitVec 16) : List Byte :=
      packet typ 0 (leBytes 4 addr ++ leBytes 2 count ++ leBytes 2 tag.toNat) (words.flatMap (fun w => leBytes 4 w.toNat))
    (d.accept t noLine).camRequest p l typ mk (some t.id)

/-- VIEW_RESERVE. -/
def Dev.runViewReserve (d : Dev) (t : Taken) (v : ViewArgs) : Dev :=
  if !d.reachable .eth then d.fail t 0x16
  else
    let (d, st, body) := d.viewReserve v
    d.finalResp t.id t.cmd t.h st noLine body

/-- VIEW_RELEASE. -/
def Dev.runViewRelease (d : Dev) (t : Taken) (k : Nat) : Dev :=
  if !d.reachable .eth then d.fail t 0x16
  else
    let (d, st) := d.viewRelease k
    d.fail t st

/-- HBM_SETPOINT. -/
def Dev.runSetpoint (d : Dev) (t : Taken) (mask sp : Nat) : Dev :=
  let st := d.setpCheck t.h mask sp
  if (mask.testBit 0 && !d.reachable (.hbm 0)) || (mask.testBit 1 && !d.reachable (.hbm 1)) then d.fail t 0x16
  else if st ≠ 0 then d.fail t st
  else (d.accept t noLine).setpAccept t.id mask sp

/-! ### Service operations (R59 to R61, R355) -/

/-- Why a service operation may not start: the mode, another one running, or a profile that the SERVICE additions break (R59, R67, R73, R348). -/
def Dev.svcCheck (d : Dev) : Nat :=
  if d.mode.starting || d.mode.cur == .calibrate || d.mode.cur == .safeHold then 0x19
  else if d.mode.service.isSome then 0x1C
  else if !({ d with mode := { d.mode with service := some 0 } } : Dev).admitted d.mode.cur.code (0, 0) then 0x24
  else 0

/-- A service operation starts: SERVICE is set, its additions join the profile at once (log entry 122), and the command is accepted. -/
def Dev.svcStart (d : Dev) (t : Taken) (line : W64) : Dev :=
  (({ d with mode := { d.mode with service := some t.id } } : Dev).loadProfile d.mode.cur.code).accept t line

/-- HBM_RETIRE. -/
def Dev.runRetire (d : Dev) (t : Taken) (s p : Nat) : Dev :=
  let st := d.svcCheck
  if st ≠ 0 then d.fail t st
  else if !d.reachable (if s = 0 then .hbm 0 else .hbm 1) then d.fail t 0x16
  else
    let d' := d.svcStart t noLine
    let st := ({ d with mode := { d.mode with service := some t.id } } : Dev).retireCheck s p
    if st ≠ 0 then d.fail t st else d'.retireAccept t.id s p

/-- FW_SWAP: the idle bank must hold a verified image; the recovery monitor's swap sets no SERVICE (R348, R475, R508). -/
def Dev.runFwSwap (d : Dev) (t : Taken) : Dev :=
  let st := d.svcCheck
  if d.keel.recovery then (if d.keel.idle.verified then d.accept t noLine else d.fail t 0x37)
  else if st ≠ 0 then d.fail t (if st = 0x19 || d.keel.idle.verified then st else 0x37)
  else if !d.keel.idle.verified then d.fail t 0x37
  else d.svcStart t noLine

/-- PIPE_TAKEOVER: the spare stops patrolling and the copy begins (R511); the interim response names the line on which the spare would take the
port if the copy ends in time for the next sync point. -/
def Dev.runTakeover (d : Dev) (t : Taken) (target : Nat) : Dev :=
  let st := d.svcCheck
  if !(d.mode.cur ∈ [Mode.inspectWide, .inspectPaired, .inspectDeep, .record]) || d.mode.starting then d.fail t 0x19
  else if d.mode.service.isSome || d.mode.cur == .inspectDeep then d.fail t 0x1C
  else
    match d.spareOf with
    | none => d.fail t 0x12
    | some n =>
      if d.roleNow target ≠ 0 || d.inF (a_TPT_CFG (d.rdF (a_PIPE_ROLE target) f_PIPE_ROLE_PORT)) f_TPT_CFG_LANE_MODE = 0 then d.fail t 0x12
      else if st ≠ 0 then d.fail t st
      else
        let d := d.svcStart t (BitVec.ofNat 64 (d.effectFirst + 2 * d.wpu.ctx.len))
        let d := d.wrForce (a_PIPE_ROLE n) f_PIPE_ROLE_ROLE 1
        { d with spare := { d.spare with comps := d.spare.comps.filter (fun c => c.shadow), take := some ⟨t.id, target, n, false, none, none⟩ } }

/-- LANE_RETRAIN: the lane returns to receiver detect at its present rate (R434). -/
def Dev.runRetrain (d : Dev) (t : Taken) (l : Nat) : Dev :=
  let st := d.svcCheck
  if st ≠ 0 then d.fail t st
  else if !(if h : l / 4 < 13 then d.reachable (.lq ⟨l / 4, h⟩) else false) then d.fail t 0x16
  else (d.svcStart t noLine).retrain l

/-- What the partner's last HELLO says of its mode: it can be joined, being in STANDBY or split in INSPECT_PAIRED (R458; log entry 33). -/
def Dev.partnerJoinable (d : Dev) : Bool :=
  match d.pair.hello with
  | some x => let m := leAt x 31 1; m % 8 = 0 || (m % 8 = 3 && m.testBit 3)
  | none => false

/-- PARTNER_REJOIN: accepted by the holder of the token while the link is up; the transfer begins with the next SYNC_DATA (R458). -/
def Dev.runRejoin (d : Dev) (t : Taken) : Dev :=
  let st := d.svcCheck
  if d.isPartner then d.fail t 0x1A
  else if !d.ridgeUp || !d.partnerJoinable then d.fail t 0x1B
  else if !d.authority then d.fail t 0x1A
  else if st ≠ 0 then d.fail t st
  else
    let d := d.svcStart t noLine
    { d with pair := { d.pair with rejoin := some (t.id, d.el), step := 2, tL := none, mine := none, theirs := none } }

/-- SERVICE_ABORT: the operation that runs ends with E_ABORTED (R355). -/
def Dev.runAbort (d : Dev) (t : Taken) : Dev :=
  match d.serviceOp with
  | none => d.fail t 0x12
  | some c => ((d.abortService).loadProfile d.mode.cur.code).done t (leBytes 2 c.opcode)

/-! ### Calibration, configuration, flash, time, events, the pair (R356) -/

/-- CAL_RUN: the item's capture or measurement begins (R519). -/
def Dev.runCalRun (d : Dev) (t : Taken) (item : Nat) (arg : W64) : Dev :=
  if calNeedsMode item && (d.mode.starting || d.mode.cur ≠ .calibrate) then d.fail t 0x19
  else (d.accept t (d.calLine item arg)).calStart t.id item arg

/-- CAL_READ: count, time and coefficients of an item; an item at its factory value has count 0 and time 0 (R518). -/
def Dev.runCalRead (d : Dev) (t : Taken) (item : Nat) : Dev :=
  let found := d.calFind item
  let cs := if 0x600 ≤ item then d.calOwn item
    else match found with
      | some x => x.coefs
      | none => (List.range (calFactoryCoefs item)).map (fun i => Config.factoryCal item i)
  let cs := cs.take 1000
  let (n, time) : Nat × W64 := match found with | some x => (x.count, x.time) | none => (0, 0)
  d.done t (padTo (leBytes 4 n) 8 ++ leBytes 8 time.toNat ++ padTo (leBytes 2 cs.length) 8 ++ cs.flatMap (fun c => leBytes 4 c.toNat))

/-- FUSE_PROGRAM: once, and no level below the source's minimum (R465). -/
def Dev.runFuse (d : Dev) (t : Taken) (levels : List Byte) : Dev :=
  if d.rst.otpProg || (levels.zip minLevels).any (fun p => p.1.toNat < p.2) then d.fail t 0x39 else d.accept t noLine

/-- TIME_STEP: accepted, and applied within 1 ms (R374); in a pair it needs the partner (R358). Every merge point drains as it is accepted (R41;
log entry 83). -/
def Dev.runTimeStep (d : Dev) (t : Taken) (amount : W64) : Dev :=
  if !d.reachable .time then d.fail t 0x16
  else if d.established && !d.ridgeUp then d.fail t 0x1B
  else
    let d := d.accept t noLine
    let d := allMerges.foldl (fun d i => d.drainMerge i) d
    { d with clk := { d.clk with step := some (t.id, amount.toInt) } }

/-- EVT_COMMIT: the loop that refuses it, or the routing in force (R386). -/
def Dev.runEvtCommit (d : Dev) (t : Taken) : Dev :=
  if !d.reachable .evt then d.fail t 0x16
  else
    match d.evtCommit with
    | (d, none) => d.done t []
    | (d, some l) => d.finalResp t.id t.cmd t.h 0x3A noLine (leBytes 2 l.length ++ l.flatMap (fun c => leBytes 2 c))

/-- PAIR_HANDOVER: offered at the sync point, or at once where nothing is acquired (R454). -/
def Dev.runHandover (d : Dev) (t : Taken) : Dev :=
  if !d.established || !d.ridgeUp then d.fail t 0x1B
  else
    let acq := d.acquiring
    let d := d.accept t (if acq then BitVec.ofNat 64 d.effectFirst else noLine)
    let d := { d with pair := { d.pair with hand := some (t.id, acq, none) } }
    if acq then d else d.ridge 0x86 (padTo [1] 16)

/-! ### Running a command -/

/-- A command starts: its own checks and its effect. -/
def Dev.run (d : Dev) (t : Taken) : Dev :=
  match t.cmd with
  | .nop => d.runNop t
  | .info => d.runInfo t
  | .cmdQuery m tag => d.runQuery t m.toNat tag
  | .regRead es => d.runRegRead t es
  | .regWrite es => d.runRegWrite t es
  | .modeSet b => d.runModeSet t b.toNat
  | .rollNext => d.runRollNext t
  | .loftExport a b r => d.runLoftExport t a.toNat b.toNat r.toNat
  | .tableLoad x => d.cmdTableLoad t x
  | .tableRead x => d.cmdTableRead t x
  | .camRegRead p n a => d.runCam t p.toNat 3 n.toNat a.toNat []
  | .camRegWrite p a ws => d.runCam t p.toNat 2 ws.length a.toNat ws
  | .viewReserve v => d.runViewReserve t v
  | .viewRelease k => d.runViewRelease t k.toNat
  | .hbmSetpoint m sp => d.runSetpoint t m.toNat sp.toNat
  | .hbmRetire st p => d.runRetire t st.toNat p.toNat
  | .fwStage _ | .nvWrite _ | .calStore => d.accept t noLine
  | .fwSwap => d.runFwSwap t
  | .pipeTakeover x => d.runTakeover t x.toNat
  | .laneRetrain l => d.runRetrain t l.toNat
  | .partnerRejoin => d.runRejoin t
  | .serviceAbort => d.runAbort t
  | .calRun item arg => d.runCalRun t item.toNat arg
  | .calRead item => d.runCalRead t item.toNat
  | .cfgOpen => d.cmdCfgOpen t
  | .cfgCommit => d.cmdCfgCommit t
  | .fuseProgram ls => d.runFuse t ls
  | .timeStep x => d.runTimeStep t x
  | .evtCommit => d.runEvtCommit t
  | .pairHandover => d.runHandover t

/-- Once a command that the partner runs too has started here: an error ends it, otherwise it is sent on (R342). -/
def Dev.afterRun (d : Dev) (t : Taken) : Dev :=
  match d.keel.fwd.find? (fun f => f.id = t.id) with
  | none => d
  | some f =>
    match f.mine with
    | some (st, line, body) =>
      if st = 0 then d.sendOn t t.cmd
      else ({ d with keel := { d.keel with fwd := d.keel.fwd.filter (fun g => g.id ≠ t.id) } } : Dev).answer t.id t.cmd t.h st.toNat line body
    | none => d.sendOn t t.cmd

/-- A command starts (R338): authority is checked, and the authority of a pair prepares to send it on (R342). MODE_SET and PARTNER_REJOIN check
authority in their own place. -/
def Dev.start (d : Dev) (t : Taken) : Dev :=
  let own : Bool := match t.cmd with | .modeSet _ | .partnerRejoin => true | _ => false
  if t.cmd.needsAuthority && !own && d.isPartner && t.h.mailbox.val ≠ 15 then d.fail t 0x1A
  else if t.cmd.forwarded && d.sendsOn t.h then
    (({ d with keel := { d.keel with fwd := d.keel.fwd ++ [⟨t.id, t.cmd, t.h, none, none⟩] } } : Dev).run t).afterRun t
  else d.run t

/-! ### Taking (R331, R335) -/

/-- An envelope has been taken from mailbox m: it is numbered and counted. -/
def Dev.countTaken (d : Dev) (m : Fin 16) : Dev × Nat :=
  let id := d.keel.nextId
  (({ d with keel := { d.keel with nextId := id + 1 } } : Dev).inc (a_MBX_MB_STAT m) f_MBX_MB_STAT_TAKEN, id)

/-- An envelope that fails a check before its command is known is answered and its outcome kept (R335, R346). -/
def Dev.reject (d : Dev) (id opcode : Nat) (h : EnvHdr) (status : Nat) : Dev :=
  let d := d.respond opcode h status false noLine []
  { d with keel := d.keel.keep ⟨h.mailbox, h.tag, BitVec.ofNat 16 opcode, BitVec.ofNat 16 status, noLine, id⟩ }

/-- A command has been taken: refused where the recovery monitor does not serve it or an argument is out of range; started, or it waits (R335,
R338, R475). -/
def Dev.takeCmd (d : Dev) (id : Nat) (h : EnvHdr) (cmd : Cmd) (line : Option (Nat × Nat)) : Dev :=
  let t : Taken := ⟨id, h, cmd, d.el, line⟩
  let d := d.charge 8 ⟨0, 0, 0, Config.keelCycles cmd.opcode, 0⟩
  if d.keel.recovery && !cmd.inRecovery then d.fail t 0x10
  else if !d.argsOk cmd then d.fail t 0x12
  else if d.mayStart t then d.start t
  else { d with keel := { d.keel with waiting := d.keel.waiting ++ [t] } }

/-- The Keel takes an envelope that carries a command from a mailbox; while it serves none, the envelope waits in its ring and nothing happens
here (R345). -/
def Dev.submit (d : Dev) (h : EnvHdr) (cmd : Cmd) : Dev :=
  if !d.keelServes then d
  else
    let (d, id) := d.countTaken h.mailbox
    d.takeCmd id h cmd none

/-- Mailbox m has an envelope to take (R328, R329). -/
def Dev.boxReady (d : Dev) (m : Nat) : Bool :=
  let c := d.ring m
  c.en && c.typ = 2 && d.rdB (a_MBX_CFG m) f_MBX_CFG_EN && c.posted ≠ 0 && (c.loc || d.outboundOk)

/-- The mailbox whose turn it is (R331). -/
def Dev.nextMailbox (d : Dev) : Option (Fin 16) :=
  ((List.range 16).map (fun i => (Fin.ofNat 16 (d.keel.nextBox + i)))).find? (fun m => d.boxReady m)

/-- An envelope of n bytes from mailbox m: checked, and its command taken; to the recovery monitor an opcode it does not accept is not listed (R335,
R475). -/
def Dev.takeEnvelope (d : Dev) (m : Fin 16) (n : Nat) (e : List Byte) (line : Option (Nat × Nat)) : Dev :=
  let h := envHeader m e
  let (d, id) := d.countTaken m
  let op := leAt e 0 2
  match readEnvelope n e with
  | .error st =>
    let unlisted : Bool := d.keel.recovery && st ≠ 0x13 && leAt e 2 2 = n && !([0x01, 0x02, 0x03, 0x04, 0x05, 0x50, 0x51, 0x72].contains op)
    d.reject id op h (if unlisted then 0x10 else st)
  | .ok cmd => d.takeCmd id h cmd line

/-- The descriptor at HEAD is written back: byte 14 holds PHASE and BAD_DESC (R330). -/
def Dev.descBack (d : Dev) (m : Nat) (bad : Bool) : Dev :=
  let c := d.ring m
  ((d.ringWriteMem c (c.descAddr + 14) false false [BitVec.ofNat 8 (c.phase + (if bad then 2 else 0))]).chargeRing c 3 1).descDone m

/-- ENVELOPE_TAKE: the mailbox whose turn it is gives its next envelope. `desc` and `env` are what host memory holds of its descriptor and its
envelope; a ring in the stacks, as that of mailbox 15 is, is read there. -/
def Dev.envelopeTake (d : Dev) (rd : Nat → Nat → List Byte) (desc env : List Byte) : Dev :=
  if !d.keelServes then d
  else
    match d.nextMailbox with
    | none => d
    | some m =>
      if d.exhausted 8 .keel then d.noteShort 8
      else if d.ringShort (d.ring m) 3 then d.noteShort 3
      else
      let d := { d with keel := { d.keel with nextBox := (m.val + 1) % 16 } }
      let line := if m.val = 15 then d.pair.box.head? else none
      let d := if m.val = 15 then { d with pair := { d.pair with box := d.pair.box.drop 1 } } else d
      let c := d.ring m
      let d := if c.loc then d.hbmGot c.descAddr 16 else d.prefetch m
      let b := if c.loc then rd c.descAddr 16 else padTo (desc.take 16) 16
      let a := leAt b 0 8
      let n := leAt b 8 2
      if a % 8 ≠ 0 || n % 8 ≠ 0 || n < 32 || 4064 < n || (c.loc && d.outside a n) then
        let i := c.head.toNat % c.size
        let h : EnvHdr := ⟨m, 0, false, false, false, false, 0⟩
        ((d.descBack m true).inc a_MBX_STAT f_MBX_STAT_BAD_DESC).respond 0 h 0x11 false noLine (leBytes 2 i)
      else
        let d := (if c.loc then d.hbmGot a n else d.hostGet a false n).chargeRing c 3 n
        (d.descBack m false).takeEnvelope m n (if c.loc then rd a n else padTo (env.take n) n) line

/-- ENVELOPE_TAKE (R331). -/
def execEnvelopeTake (dt : Nat) (desc env : List Byte) (s : State) : Host.Outcome State Fault Refusal :=
  .next (s.afterH dt (fun rd d => d.envelopeTake rd desc env))

/-- A command that has waited TIMEOUT_MS without starting ends with E_TIMEOUT (R338). -/
def Dev.waitedOut (d : Dev) (t : Taken) : Dev :=
  let d := { d with keel := { d.keel with waiting := d.keel.waiting.filter (fun w => w.id ≠ t.id) } }
  (d.inc a_MBX_STAT f_MBX_STAT_TIMEOUT_CNT).fail t 0x18

/-- COMMAND_WAIT_START: the first command of mailbox m that waits starts, where nothing holds it back any more; it is too late for one that has waited
TIMEOUT_MS. -/
def Dev.waitStart (d : Dev) (m : Fin 16) : Dev :=
  match d.keel.waiting.find? (fun t => t.h.mailbox = m) with
  | none => d
  | some t =>
    if !d.keelServes then d
    else if t.at_ + t.h.timeoutNs ≤ d.el then d.waitedOut t
    else if !d.mayStart t then d
    else ({ d with keel := { d.keel with waiting := d.keel.waiting.filter (fun w => w.id ≠ t.id) } } : Dev).start t

/-- COMMAND_WAIT_START (R338). -/
def execCommandWaitStart (dt : Nat) (m : Fin 16) (s : State) : Host.Outcome State Fault Refusal := .next (s.after dt (fun d => d.waitStart m))

/-- COMMAND_TIMEOUT: the first command of mailbox m that has waited TIMEOUT_MS ends with E_TIMEOUT; a swap that could not pause in its time ends
with E_BUSY (R338, R345); a ROLL_NEXT whose line has not been issued is answered by the bound of R344 (log entry 104). -/
def Dev.cmdTimeout (d : Dev) (m : Fin 16) : Dev :=
  if !d.keelServes then d
  else
    match d.keel.waiting.find? (fun t => t.h.mailbox = m && t.at_ + t.h.timeoutNs ≤ d.el) with
    | some t => d.waitedOut t
    | none =>
      match d.keel.pending.find? (fun p => !p.cmd.deferred && p.h.mailbox = m && p.at_ + p.h.timeoutNs + 1000000 ≤ d.el) with
      | some p => d.finish p.id 0 (if d.acquiring then d.rd a_WPU_LINE_CNT else noLine) (leBytes 4 (d.rdF a_CLS_ROLL_CTRL f_CLS_ROLL_CTRL_NEXT_ID))
      | none =>
        match d.swapCmd with
        | some p => if p.h.mailbox = m && p.at_ + p.h.timeoutNs ≤ d.el then d.endService p.id 0x17 noLine [] else d
        | none => d

/-- COMMAND_TIMEOUT (R338). -/
def execCommandTimeout (dt : Nat) (m : Fin 16) (s : State) : Host.Outcome State Fault Refusal := .next (s.after dt (fun d => d.cmdTimeout m))

/-! ### The rows of the commands -/

/-- An envelope that carries a command is taken. -/
def State.envelope (s : State) (h : EnvHdr) (cmd : Cmd) : Host.Outcome State Fault Refusal := .next (s.after 0 (fun d => d.submit h cmd))

/-- NOP (R349). -/
def execNop (h : EnvHdr) (s : State) : Host.Outcome State Fault Refusal := s.envelope h .nop

/-- INFO (R349). -/
def execInfo (h : EnvHdr) (s : State) : Host.Outcome State Fault Refusal := s.envelope h .info

/-- CMD_QUERY (R346). -/
def execCmdQuery (h : EnvHdr) (mailbox : BitVec 8) (tag : W32) (s : State) : Host.Outcome State Fault Refusal :=
  s.envelope h (.cmdQuery mailbox tag)

/-- REG_READ (R349). -/
def execRegRead (h : EnvHdr) (entries : List RegSel) (s : State) : Host.Outcome State Fault Refusal := s.envelope h (.regRead entries)

/-- REG_WRITE (R341). -/
def execRegWrite (h : EnvHdr) (entries : List RegPut) (s : State) : Host.Outcome State Fault Refusal := s.envelope h (.regWrite entries)

/-- MODE_SET (R351). -/
def execModeSet (h : EnvHdr) (target : BitVec 8) (s : State) : Host.Outcome State Fault Refusal := s.envelope h (.modeSet target)

/-- ROLL_NEXT (R274). -/
def execRollNext (h : EnvHdr) (s : State) : Host.Outcome State Fault Refusal := s.envelope h .rollNext

/-- LOFT_EXPORT (R320). -/
def execLoftExport (h : EnvHdr) (first last : W64) (ring : BitVec 16) (s : State) : Host.Outcome State Fault Refusal :=
  s.envelope h (.loftExport first last ring)

/-- TABLE_LOAD (R353). -/
def execTableLoad (h : EnvHdr) (t : TableXfer) (s : State) : Host.Outcome State Fault Refusal := s.envelope h (.tableLoad t)

/-- TABLE_READ (R352). -/
def execTableRead (h : EnvHdr) (t : TableXfer) (s : State) : Host.Outcome State Fault Refusal := s.envelope h (.tableRead t)

/-- CAM_REG_READ (R354). -/
def execCamRegRead (h : EnvHdr) (port : BitVec 8) (count : BitVec 16) (addr : W32) (s : State) : Host.Outcome State Fault Refusal :=
  s.envelope h (.camRegRead port count addr)

/-- CAM_REG_WRITE (R354). -/
def execCamRegWrite (h : EnvHdr) (port : BitVec 8) (addr : W32) (words : List W32) (s : State) : Host.Outcome State Fault Refusal :=
  s.envelope h (.camRegWrite port addr words)

/-- VIEW_RESERVE (R354). -/
def execViewReserve (h : EnvHdr) (v : ViewArgs) (s : State) : Host.Outcome State Fault Refusal := s.envelope h (.viewReserve v)

/-- VIEW_RELEASE (R354). -/
def execViewRelease (h : EnvHdr) (slot : BitVec 8) (s : State) : Host.Outcome State Fault Refusal := s.envelope h (.viewRelease slot)

/-- HBM_SETPOINT (R406). -/
def execHbmSetpoint (h : EnvHdr) (mask sp : BitVec 8) (s : State) : Host.Outcome State Fault Refusal := s.envelope h (.hbmSetpoint mask sp)

/-- HBM_RETIRE (R411). -/
def execHbmRetire (h : EnvHdr) (stack pc : BitVec 8) (s : State) : Host.Outcome State Fault Refusal := s.envelope h (.hbmRetire stack pc)

/-- FW_STAGE (R507). -/
def execFwStage (h : EnvHdr) (src : ImageSrc) (s : State) : Host.Outcome State Fault Refusal := s.envelope h (.fwStage src)

/-- FW_SWAP (R508). -/
def execFwSwap (h : EnvHdr) (s : State) : Host.Outcome State Fault Refusal := s.envelope h .fwSwap

/-- PIPE_TAKEOVER (R511). -/
def execPipeTakeover (h : EnvHdr) (target : BitVec 8) (s : State) : Host.Outcome State Fault Refusal := s.envelope h (.pipeTakeover target)

/-- LANE_RETRAIN (R434). -/
def execLaneRetrain (h : EnvHdr) (lane : BitVec 8) (s : State) : Host.Outcome State Fault Refusal := s.envelope h (.laneRetrain lane)

/-- PARTNER_REJOIN (R458). -/
def execPartnerRejoin (h : EnvHdr) (s : State) : Host.Outcome State Fault Refusal := s.envelope h .partnerRejoin

/-- SERVICE_ABORT (R355). -/
def execServiceAbort (h : EnvHdr) (s : State) : Host.Outcome State Fault Refusal := s.envelope h .serviceAbort

/-- CAL_RUN (R519). -/
def execCalRun (h : EnvHdr) (item : BitVec 16) (arg : W64) (s : State) : Host.Outcome State Fault Refusal := s.envelope h (.calRun item arg)

/-- CAL_READ (R356). -/
def execCalRead (h : EnvHdr) (item : BitVec 16) (s : State) : Host.Outcome State Fault Refusal := s.envelope h (.calRead item)

/-- CAL_STORE (R524). -/
def execCalStore (h : EnvHdr) (s : State) : Host.Outcome State Fault Refusal := s.envelope h .calStore

/-- CFG_OPEN (R491). -/
def execCfgOpen (h : EnvHdr) (s : State) : Host.Outcome State Fault Refusal := s.envelope h .cfgOpen

/-- CFG_COMMIT (R491). -/
def execCfgCommit (h : EnvHdr) (s : State) : Host.Outcome State Fault Refusal := s.envelope h .cfgCommit

/-- NV_WRITE (R470). -/
def execNvWrite (h : EnvHdr) (src : ImageSrc) (s : State) : Host.Outcome State Fault Refusal := s.envelope h (.nvWrite src)

/-- FUSE_PROGRAM (R465). -/
def execFuseProgram (h : EnvHdr) (levels : List (BitVec 8)) (s : State) : Host.Outcome State Fault Refusal := s.envelope h (.fuseProgram levels)

/-- TIME_STEP (R374). -/
def execTimeStep (h : EnvHdr) (amount : W64) (s : State) : Host.Outcome State Fault Refusal := s.envelope h (.timeStep amount)

/-- EVT_COMMIT (R386). -/
def execEvtCommit (h : EnvHdr) (s : State) : Host.Outcome State Fault Refusal := s.envelope h .evtCommit

/-- PAIR_HANDOVER (R454). -/
def execPairHandover (h : EnvHdr) (s : State) : Host.Outcome State Fault Refusal := s.envelope h .pairHandover

end Sys2Proof.Machine
end

