-- ==== Sys2Proof/Machine/Pair.lean ====
section
/-! DEFINITION. The Ridge link and the pair (R437 to R459): packets in and out, establishment and rejoin, the adoption of lines, the compare of
records, FENCE, and the movement of authority. -/

namespace Sys2Proof.Machine

/-! ### The link (R439, R440) -/

/-- A flag of RDG.STAT. -/
def Dev.rdg (d : Dev) (f : Fld) : Bool := d.rdB a_RDG_STAT f
/-- Set a flag of RDG.STAT. -/
def Dev.setRdg (d : Dev) (f : Fld) (b : Bool) : Dev := d.wrB a_RDG_STAT f b
/-- SPLIT. -/
def Dev.split (d : Dev) : Bool := d.rdg f_RDG_STAT_SPLIT

/-- The pair logic works: EN in force, and its block not held in reset. -/
def Dev.pairOn (d : Dev) : Bool := d.inB a_RDG_CFG f_RDG_CFG_EN && !d.isHeld .rdg

/-- LEN of a Ridge packet is one that its TYPE has (R439). -/
def ridgeLenOk (typ n : Nat) : Bool :=
  match typ with
  | 0x80 => n = 64
  | 0x81 => n = 0
  | 0x82 => n = 64
  | 0x83 => n = 32
  | 0x84 => 16 ≤ n && n ≤ 1040 && n % 16 = 0
  | 0x85 => 32 ≤ n && n ≤ 4064
  | 0x86 => n = 16
  | 0x87 => n = 32
  | 0x90 => n = 128
  | 0x91 => 32 ≤ n && n ≤ 8224
  | 0x92 => 1 ≤ n && n ≤ 8192
  | _ => false

/-- The packet is a valid one of this TYPE. -/
def ridgeOk (typ : Nat) (pkt : List Byte) : Bool := pktType pkt = typ && ridgeLenOk typ (pktLen pkt) && pktCrcOk pkt

/-- RSEQ of a packet. -/
def ridgeSeq (pkt : List Byte) : W32 := BitVec.ofNat 32 (leAt pkt 4 4)

/-- The first exchange of HELLO is complete: RIDGE_UP is 1, and the bulk class begins again at RSEQ 0 (R440). -/
def Dev.ridgeRise (d : Dev) : Dev :=
  if !d.pair.sent || !d.pair.got || d.ridgeUp then d
  else
    ({ d with pair := { d.pair with txBulk := 0, rxBulk := 0, lostAt := none, early := d.pair.early.filter (fun e => !e.1) } } : Dev).setRdg
      f_RDG_STAT_RIDGE_UP true

/-! ### HELLO (R439, R441) -/

/-- Ports with an ACTIVE lane, as a mask. -/
def Dev.portsActive (d : Dev) : Nat := maskOf ((List.range 16).filter (fun p => d.portActive p))

/-- The mode as HELLO shows it: its code, or 6 during start-up. -/
def Dev.helloMode (d : Dev) : Nat := (if d.mode.starting then 6 else d.mode.cur.code) + (if d.split then 8 else 0)

/-- The 64 bytes of HELLO (R439; log entry 33). -/
def Dev.helloBody (d : Dev) : List Byte :=
  padTo (leBytes 8 Config.serial.toNat ++ leBytes 4 (d.rdF a_DEV_ID f_DEV_ID_STEPPING) ++ leBytes 4 d.keel.now.version.toNat ++
    [if d.rst.primary then 0 else 1, if d.authority then 1 else 0, 0, 0] ++ leBytes 4 (d.rdF a_CFG_CRC_REF f_CFG_CRC_REF_V) ++
    [BitVec.ofNat 8 (d.encType d.master), BitVec.ofNat 8 d.pair.step] ++ leBytes 2 d.portsActive ++ leBytes 2 d.portsUsed ++
    [if d.pairPortsOk then 1 else 0, BitVec.ofNat 8 d.helloMode]) 64

/-- The check of step 1: PAIR_ERR 1 straps, 2 stepping, 3 firmware, 4 an SSI master; 0 where all pass. -/
def Dev.helloCheck (d : Dev) (x : List Byte) : Nat :=
  if leAt x 16 1 = (if d.rst.primary then 0 else 1) then 1
  else if leAt x 8 4 ≠ d.rdF a_DEV_ID f_DEV_ID_STEPPING then 2
  else if leAt x 12 4 ≠ d.keel.now.version.toNat then 3
  else if leAt x 24 1 = 3 || d.encType d.master = 3 then 4
  else 0

/-- A Ridge control lane is in stage 4 of its bring-up. -/
def Dev.helloStage (d : Dev) : Bool := [32, 36].any (fun l => (d.lane l).step = 4)

/-- HELLO goes out on the control lanes; in stage 4, before a lane is ACTIVE, too (R439). -/
def Dev.sendHello (d : Dev) : Dev :=
  let send (d : Dev) : Dev :=
    if d.ridgeLanes false ≠ 0 then d.ridge 0x80 d.helloBody
    else
      let seq := d.pair.txCtl
      ({ d with pair := { d.pair with txCtl := seq + 1 } } : Dev).emit (.ridge 0x80 (packet 0x80 0 (leBytes 4 seq.toNat) d.helloBody))
  ({ send d with pair := { (send d).pair with sent := true, sentAt := d.el } } : Dev).ridgeRise

/-- A partner that has its transfer waits for LOCKED: step 4 (R441). -/
def Dev.lockStep (d : Dev) : Dev :=
  if d.pair.step = 3 && !d.authority && d.rdB a_TIME_STAT f_TIME_STAT_LOCKED then { d with pair := { d.pair with step := 4 } } else d

/-- Device time in eighths of a nanosecond. -/
def Dev.now8 (d : Dev) (f8 : Nat) : Nat := d.now.toNat * 8 + f8

/-- HELLO_TX: due every 1 ms, and at once where none has been sent or a lane is in stage 4. A device that takes time from the authority asks for an
offset then (R365). -/
def Dev.helloTx (d : Dev) : Dev :=
  let due := !d.pair.sent || d.helloStage || d.pair.sentAt + 1000000 ≤ d.el
  if !d.pairOn || !due || (d.ridgeLanes false = 0 && !d.helloStage) then d
  else
    let d := d.lockStep.sendHello
    if d.ridgeUp && !d.authority && d.rdF a_TIME_CTRL f_TIME_CTRL_SRC = 3 then d.ridge 0x83 (padTo (leBytes 8 (d.now8 0)) 32) else d

/-- HELLO_TX (R439). -/
def execHelloTx (dt : Nat) (s : State) : Host.Outcome State Fault Refusal := .next (s.after dt (fun d => d.helloTx))

/-! ### State transfer (R441 step 3, R458) -/

/-- A list cut into pieces of n. -/
def pieces {α : Type} (n : Nat) (l : List α) : List (List α) := (List.range (ceilDiv l.length (max 1 n))).map (fun i => (l.drop (i * n)).take n)

/-- The mirrored registers, in order of unit. -/
def mirrored : List Nat := unitsInOrder.flatMap (fun u => (u.regs.filter (fun r => r.mir)).flatMap (fun r => dimAddrs r.dims (u.base + r.off)))

/-- The state transfer in pieces, each with its kind: begin (8; 1 where this is a rejoin), mirrored registers (1), table cells (2), the column
model (3), seam registrations (4); in a rejoin the compare queues (5), the roll state and the mode (6); the end (0). -/
def Dev.syncPieces (d : Dev) (rejoin : Bool) : List (Nat × List Byte) :=
  let group (kind n : Nat) (l : List (List Byte)) : List (Nat × List Byte) := (pieces n l).map (fun p => (kind, p.flatten))
  let regs := mirrored.map (fun a => leBytes 8 a ++ leBytes 8 (d.rd a).toNat ++ leBytes 8 (d.inForce a).toNat)
  let cells := d.tab.map (fun c => leBytes 8 c.1 ++ [c.2])
  let cols := d.seg.cm.map (fun (c : Nat × CmEntry) =>
    leBytes 8 c.1 ++ leBytes 4 c.2.m ++ leBytes 4 c.2.v ++ leBytes 4 c.2.mn ++ leBytes 4 c.2.mx ++ leBytes 8 c.2.n)
  let seams := d.mos.regAt.map (fun r => padTo (leBytes 8 r.1 ++ r.2.flatMap (fun e => leBytes 4 (uwrap e.1 32) ++ leBytes 4 (uwrap e.2 32))) 128)
  let queues := d.wpu.cmp.flatMap (fun q => q.2.map (fun v => leBytes 8 q.1 ++ leBytes 8 (uwrap v 64)))
  [(8, [if rejoin then 1 else 0])] ++ group 1 340 regs ++ group 2 900 cells ++ group 3 250 cols ++ group 4 60 seams ++
  (if rejoin then group 5 500 queues ++
    [(6, leBytes 8 (d.rd a_CLS_ROLL_CTRL).toNat ++ leBytes 8 (d.rd a_CLS_ROLL_STAT).toNat ++ [BitVec.ofNat 8 d.helloMode])] else []) ++ [(0, [])]

/-- The authority sends the state transfer. -/
def Dev.sendSync (d : Dev) (rejoin : Bool) : Dev :=
  let d := (d.syncPieces rejoin).foldl (fun d p => d.ridge 0x92 (padTo [BitVec.ofNat 8 p.1] 8 ++ p.2)) d
  { d with pair := { d.pair with step := 3 } }

/-- Fields of a register that the transfer writes, and those whose value in force it sets; bank selections, roles and epochs are taken whole. -/
def syncMask (a : Nat) (r : Reg) (force : Bool) : W64 :=
  let whole : Bool := (List.range 17).any (fun n => a = a_PIPE_COEF_CTRL n || a = a_PIPE_ROLE n) || (List.range 16).any (fun p => a = a_TPT_EPOCH p) ||
    a = a_CLS_BANK_CTRL
  r.fields.foldl (fun m x =>
    let here : Bool := match x.eff with
      | .atOnce => !force
      | .course => true
      | .commit _ => true
      | .bringUp => !force
      | .reset => !force
    if whole || ((x.acc = .rw || x.acc = .lk || x.acc = .w1s) && here) then m ||| x.fld.mask else m) 0

/-- One register of the transfer is applied: its written value, and its value in force. -/
def Dev.syncReg (d : Dev) (e : List Byte) : Dev :=
  let a := leAt e 0 8
  match regAt a with
  | none => d
  | some (_, r, _) =>
    if !r.mir then d
    else
      let d := d.wr a (blend (syncMask a r false) (BitVec.ofNat 64 (leAt e 8 8)) (d.rd a))
      let d := { d with force := d.force.put a (blend (syncMask a r true) (BitVec.ofNat 64 (leAt e 16 8)) (d.inForce a)) }
      if r.effMask .reset ≠ 0 then { d with nextRst := d.nextRst.put a (d.rd a) } else d

/-- Entries of n bytes. -/
def entries (n : Nat) (b : List Byte) : List (List Byte) := pieces n b

/-- The SPLIT reconciliation is over: SPLIT clears (R459). -/
def Dev.reconDone (d : Dev) : Dev := ({ d with pair := { d.pair with recon := false } } : Dev).setRdg f_RDG_STAT_SPLIT false

/-- A device that receives a transfer: no holder of the token, in STANDBY before the pair is established or split from it. -/
def Dev.mayJoin (d : Dev) : Bool := !d.authority && ((!d.mode.starting && d.mode.cur == .standby) || d.split)

/-- SYNC_DATA is applied (R441 step 3); at its end the partner takes time from the authority (step 4). -/
def Dev.syncIn (d : Dev) (b : List Byte) : Dev :=
  let kind := leAt b 0 1
  let c := b.drop 8
  if kind = 7 then (if d.authority && d.established then d.reconDone else d)
  else if !d.mayJoin then d
  else if kind = 8 then
    let d := if leAt c 0 1 = 1 then iter 32 (fun u d => d.setCmp u []) d else d
    { d with
      tab := [], seg := { d.seg with cm := [] }
      pair := { d.pair with step := 2, tL := none, mine := none, theirs := none, joinAt := if leAt c 0 1 = 1 then some d.el else none } }
  else if d.pair.step ≠ 2 then d
  else
    match kind with
    | 0 =>
      let d := { d with pair := { d.pair with step := 3 } }
      (d.regWrite a_TIME_CTRL 8 (fset (d.rd a_TIME_CTRL) f_TIME_CTRL_SRC 3) .keel).1
    | 1 => d.ownChange (fun d => (entries 24 c).foldl (fun d e => d.syncReg e) d)
    | 2 => { d with tab := (entries 9 c).foldl (fun m e => m.write tabDefault (leAt e 0 8) ((e.drop 8).headD 0)) d.tab }
    | 3 => { d with seg := { d.seg with cm := d.seg.cm ++ (entries 32 c).map (fun e =>
        (leAt e 0 8, (⟨leAt e 8 4, leAt e 12 4, leAt e 16 4, leAt e 20 4, leAt e 24 8⟩ : CmEntry))) } }
    | 4 => { d with mos := { d.mos with regAt := (entries 128 c).map (fun e =>
        (leAt e 0 8, (entries 8 (e.drop 8)).map (fun x => (sext (leAt x 0 4) 32, sext (leAt x 4 4) 32)))) } }
    | 5 => (entries 16 c).foldl (fun d e =>
        let u := leAt e 0 8
        d.setCmp u (d.cmpQueue u ++ [sext (leAt e 8 8) 64])) d
    | 6 =>
      let stat := BitVec.ofNat 64 (leAt c 8 8)
      let d := (d.wr a_CLS_ROLL_CTRL (BitVec.ofNat 64 (leAt c 0 8))).wr a_CLS_ROLL_STAT stat
      let id := fget stat f_CLS_ROLL_STAT_CUR_ID
      let n := d.cls.rolls.length
      let d := { d with cls := { d.cls with rolls := d.cls.rolls.mapIdx (fun i (r : Roll) => if i + 1 = n then { r with id := id } else r) } }
      if leAt c 16 1 % 8 = 3 && d.mode.cur == .standby then { d with mode := { d.mode with pend := some ⟨.inspectPaired, none, some 0⟩ } } else d
    | _ => d

/-! ### Establishment and rejoin complete (R441 steps 5 and 6, R458, R459) -/

/-- Where the Keel keeps what it saves in the stacks: an area of 1 MiB (R329 names it and gives no place). It lies clear of the refuge under every
ORDER, so no retirement is refused for it (R394, R411; log entry 87). -/
def keelBase : Nat := 2 ^ 20 * (Config.keelArea % 704)

/-- Where envelope i of ring 15 lies; its descriptors lie at the start of the area. -/
def keelSlot (i : Nat) : Nat := keelBase + 4096 * (i + 1)

/-- The pair is established: ring 15 and mailbox 15 open (R329), PAIR_UP is reported. -/
def Dev.pairUp (d : Dev) : Dev :=
  let d := (d.setRdg f_RDG_STAT_ESTABLISHED true).wrF a_RDG_STAT f_RDG_STAT_PAIR_ERR 0
  let d := { d with pair := { d.pair with
    step := 6, tL := none, mine := none, theirs := none, joinAt := none, failed := none, lostAt := none, moved := none, points := [], descs := [],
    diff := (0, 0) } }
  let d := d.setRing 15 { RingCtx.off with descBase := BitVec.ofNat 64 keelBase, typ := 2, loc := true, en := true, log2Size := 6 }
  let d := d.ownChange (fun d => d.wrB (a_MBX_CFG 15) f_MBX_CFG_EN true)
  d.outputsIdle.reportErr 0x28 46 0

/-- The authority has sent its captured values: the pair stands. A rejoin ends with the first line on which the joining device's records are
verified. -/
def Dev.authorityUp (d : Dev) : Dev :=
  let rejoin := d.pair.rejoin
  let d := { d with pair := { d.pair with rejoin := none, recon := d.split } }
  let d := d.pairUp
  match rejoin with
  | none => d
  | some (id, _) =>
    let line := if d.acquiring then BitVec.ofNat 64 d.nextFirst else d.rd a_WPU_LINE_CNT
    d.endService id 0 line (leBytes 8 line.toNat)

/-- The partner has both captures: POS_OFS is the authority's to_nm less its own, and LINE is taken from the next LINE_DESC. A joining device
sends its reconciliation store, and its records are verified from the next course on (R458, R459). -/
def Dev.partnerUp (d : Dev) (rd : Nat → Nat → List Byte) (mine theirs : LatchVal) : Dev :=
  let joined := d.pair.joinAt.isSome
  let d := d.wr a_RDG_POS_OFS (BitVec.ofInt 64 (theirs.nm - mine.nm))
  let base := (d.inForce a_RDG_RECON_BASE).toNat
  let n := d.pair.store
  let d := { d with pair := { d.pair with
    adopt := true, kept := 0, unv := match d.pair.unv with | some (f, none) => some (f, some d.nextFirst) | u => u } }
  let d := d.pairUp
  if !joined then d
  else
    let d := iter n (fun i d => (d.hbmGot (base + 128 * i) 128).ridge 0x90 (rd (base + 128 * i) 128)) d
    let d := d.ridge 0x92 (padTo [7] 8)
    ({ d with pair := { d.pair with store := 0 } } : Dev).setRdg f_RDG_STAT_SPLIT false

/-- A partner with its own capture and the authority's completes. -/
def Dev.latchSettle (d : Dev) (rd : Nat → Nat → List Byte) : Dev :=
  if d.authority then d
  else
    match d.pair.mine, d.pair.theirs with
    | some m, some t => d.partnerUp rd m t
    | _, _ => d

/-- LATCH: the first sets the instant, the second brings the authority's captured values. -/
def Dev.latchIn (d : Dev) (rd : Nat → Nat → List Byte) (b : List Byte) : Dev :=
  let t := BitVec.ofNat 64 (leAt b 0 8)
  if d.authority || d.pair.step ≠ 4 then d
  else if d.pair.tL = some t then
    ({ d with pair := { d.pair with theirs := some ⟨BitVec.ofNat 64 (leAt b 8 8), sext (leAt b 16 8) 64⟩ } } : Dev).latchSettle rd
  else { d with pair := { d.pair with tL := some t, mine := none, theirs := none } }

/-- The body of LATCH (R439). -/
def latchBody (t : W64) (v : LatchVal) : List Byte := padTo (leBytes 8 t.toNat ++ leBytes 8 v.raw.toNat ++ leBytes 8 (uwrap v.nm 64)) 32

/-- PAIR_LATCH_CAPTURE: at tL each device captures its raw word and its to_nm; the authority sends what it captured. -/
def Dev.latchCapture (d : Dev) (rd : Nat → Nat → List Byte) : Dev :=
  match d.pair.tL with
  | none => d
  | some t =>
    if !d.pairOn || d.pair.mine.isSome || d.now.toNat < t.toNat then d
    else
      let raw := d.rd (a_WPU_ENC_POS d.master)
      if d.authority then
        let v : LatchVal := ⟨raw, d.tpos⟩
        (({ d with pair := { d.pair with mine := some v } } : Dev).ridge 0x87 (latchBody t v)).authorityUp
      else
        let v : LatchVal := ⟨raw, toNm d.wpu.t (d.scaleOf d.master)⟩
        let d := d.noteSat d.wpu.t (d.scaleOf d.master)
        ({ d with pair := { d.pair with mine := some v } } : Dev).latchSettle rd

/-- PAIR_LATCH_CAPTURE (R441). -/
def execPairLatchCapture (dt : Nat) (s : State) : Host.Outcome State Fault Refusal := .next (s.afterH dt (fun rd d => d.latchCapture rd))

/-- The authority asks for the common capture, 200 µs from now (R441 step 5). -/
def Dev.sendLatch (d : Dev) : Dev :=
  let t := d.now + 200000
  ({ d with pair := { d.pair with step := 4, tL := some t, mine := none, theirs := none } } : Dev).ridge 0x87 (latchBody t ⟨0, 0⟩)

/-- Steps 3 to 5 on the authority, as the partner's HELLO shows how far it has come. -/
def Dev.transferSteps (d : Dev) (rejoin : Bool) (x : List Byte) : Dev :=
  let theirs := leAt x 25 1
  if d.pair.step = 2 && (rejoin || 2 ≤ theirs) && d.ridgeLanes true ≠ 0 then d.sendSync rejoin
  else if d.pair.step = 3 && theirs = 4 then d.sendLatch
  else d

/-- Steps 1 and 2 and what follows, in STANDBY on both sides (R441). -/
def Dev.establish (d : Dev) (x : List Byte) : Dev :=
  if d.pair.failed = some x then d
  else
    let e := d.helloCheck x
    if e ≠ 0 then { d with pair := { d.pair with failed := some x, step := 0 } }.wrF a_RDG_STAT f_RDG_STAT_PAIR_ERR e
    else
      let d := ({ d with pair := { d.pair with failed := none, step := max 1 d.pair.step } } : Dev).wrF a_RDG_STAT f_RDG_STAT_PAIR_ERR 0
      let theirs := (leAt x 17 1).testBit 0
      let d :=
        if d.pair.step ≠ 1 then d
        else if d.rst.primary then
          (if theirs then d else ({ d with pair := { d.pair with step := 2 } } : Dev).setRdg f_RDG_STAT_AUTHORITY true)
        else if theirs && !d.authority then { d with pair := { d.pair with step := 2 } }
        else d
      if d.authority then d.transferSteps false x else d

/-- Ports in crossover, while INSPECT_PAIRED is in force: those ACTIVE here and not there are forwarded, the others received, at most one per
ACTIVE bulk lane, lowest numbers first (R449, R450). -/
def Dev.crossover (d : Dev) (x : List Byte) : Dev :=
  let theirs := leAt x 26 2
  let n := d.ridgeLanes true
  let pick (p : Nat → Bool) : Nat := maskOf (((List.range 16).filter (fun i => d.portsUsed.testBit i && p i)).take n)
  let on : Bool := d.established && d.ridgeUp && d.acquiring && d.mode.cur == .inspectPaired
  let give := if on then pick (fun i => d.portActive i && !theirs.testBit i) else 0
  let get := if on then pick (fun i => !d.portActive i && theirs.testBit i) else 0
  (d.wrF a_RDG_XFWD f_RDG_XFWD_DONATED give).wrF a_RDG_XFWD f_RDG_XFWD_RECEIVED get

/-- A HELLO is received: the link may rise, establishment or a rejoin goes on. -/
def Dev.helloIn (d : Dev) (x : List Byte) : Dev :=
  let d := ({ d with pair := { d.pair with hello := some x, got := true } } : Dev).ridgeRise
  let d := (d.crossover x).lockStep
  if !d.ridgeUp then d
  else if d.pair.rejoin.isSome then (if d.authority then d.transferSteps true x else d)
  else if !d.established && d.pair.step < 6 && !d.mode.starting && d.mode.cur == .standby && leAt x 31 1 = 0 then d.establish x
  else d

/-! ### TIME_SYNC (R365) -/

/-- The authority answers a request with the instants of its arrival and of the answer; the partner takes the offset. -/
def Dev.timeSyncIn (d : Dev) (f8 : Nat) (b : List Byte) : Dev :=
  let t1 := leAt b 0 8
  let t2 := leAt b 8 8
  let t3 := leAt b 16 8
  let t := d.now8 f8
  if t2 = 0 then (if d.authority then d.ridge 0x83 (padTo (leBytes 8 t1 ++ leBytes 8 t ++ leBytes 8 t) 32) else d)
  else if d.authority || d.isHeld .time || d.rdF a_TIME_CTRL f_TIME_CTRL_SRC ≠ 3 then d
  else (d.takeOffset (rhe ((t1 : Int) - t2 + (t - t3)) 4) d.el).lockStep

/-! ### Lines (R443 to R445, R457) -/

/-- A joining device in STANDBY enters INSPECT_PAIRED with the first line of a course (R458). -/
def Dev.joinBoundary (d : Dev) (line : Nat) : Dev :=
  match d.mode.pend with
  | some p =>
    if d.mode.cur == .standby && p.target.acquiring && line % d.courseLen = 0 then
      (({ d with mode := { d.mode with pend := some { p with line := none } } } : Dev).wr a_WPU_LINE_CNT (BitVec.ofNat 64 line)).modeEntry
    else d
  | none => d

/-- LINE is taken from the authority: the course is the one that line lies in (R441 step 5). -/
def Dev.adoptLine (d : Dev) (line : Nat) : Dev :=
  let len := max 1 d.wpu.ctx.len
  let first := line / len * len
  let d := (d.wr a_WPU_LINE_CNT (BitVec.ofNat 64 line))
  if d.wpu.ctx.first = first then d
  else
    let was := d.wpu.ctx.first
    { d with
      wpu := { d.wpu with ctx := { d.wpu.ctx with first := first }, courseAt := first }
      mos := { d.mos with regAt := d.mos.regAt.map (fun (r : Nat × List (Int × Int)) => if r.1 = was then (first, r.2) else r) } }

/-- A line beyond the course in force: the boundaries between are passed. -/
def Dev.passTo (d : Dev) (line : Nat) : Dev :=
  let n := (line - d.wpu.ctx.first) / max 1 d.wpu.ctx.len
  let d := iter (min n 16) (fun _ d => if d.acquiring && d.nextFirst ≤ line then d.boundary else d) d
  if d.acquiring && d.nextFirst ≤ line then d.adoptLine line else d

/-- A descriptor meets the point that the shadow unit found due within 5 µs, which gives POS_OFS its difference; points already counted or older
are passed over, and with none the descriptor waits for its point (R444, R445). -/
def Dev.shadowMatch (d : Dev) (line : Nat) (pos : Int) : Dev :=
  match d.pair.points.findIdx? (fun p => p.2 ≠ 0 && d.el ≤ p.2 + 5000) with
  | some i =>
    let own := match d.pair.points[i]? with | some p => p.1.pos | none => pos
    { d with pair := { d.pair with points := d.pair.points.drop (i + 1), diff := (d.pair.diff.1 + (pos - own), d.pair.diff.2 + 1) } }
  | none =>
    match d.pair.points with
    | _ :: more => { d with pair := { d.pair with points := more } }
    | [] => { d with pair := { d.pair with descs := d.pair.descs ++ [(line, d.el)] } }

/-- Lines adopted from `line` on are not UNVERIFIED, once the link is back and the pair is not split; UNVERIFIED shows it (R457, R458). -/
def Dev.verifyFrom (d : Dev) (line : Nat) : Dev :=
  let u := match d.pair.unv with | some (f, none) => some (f, some line) | u => u
  let over_ : Bool := match u with | some (_, some e) => decide (e ≤ line) | _ => true
  let d := { d with pair := { d.pair with unv := u } }
  if over_ && d.rdg f_RDG_STAT_UNVERIFIED then d.setRdg f_RDG_STAT_UNVERIFIED false else d

/-- The descriptor that LINE_DESC carries, as a line of the course in force. -/
def Dev.descOf (d : Dev) (b : List Byte) : LineDesc :=
  let fl := leAt b 42 1
  let line := leAt b 0 8
  { line := line, time := BitVec.ofNat 64 (leAt b 8 8), epoch := BitVec.ofNat 16 (leAt b 44 2), raw := BitVec.ofNat 64 (leAt b 16 8),
    pos := sext (leAt b 24 8) 64, speed := sext (leAt b 32 8) 64, gap := leAt b 40 2, dir := fl.testBit 0, dirChange := fl.testBit 1,
    speedValid := fl.testBit 2, extrap := fl.testBit 3, first := decide (line = d.wpu.ctx.first), ctx := d.wpu.ctx }

/-- LINE_DESC: the partner adopts the line as its own issued line (R443). A line below the next one, already taken under R457, is passed over. -/
def Dev.lineDescIn (d : Dev) (b : List Byte) : Dev :=
  if !d.isPartner || d.split then d
  else
    let line := leAt b 0 8
    let d := d.joinBoundary line
    if !d.acquiring then d
    else
      let d := if d.pair.adopt then ({ d with pair := { d.pair with adopt := false } } : Dev).adoptLine line else d
      if line < (d.rd a_WPU_LINE_CNT).toNat then d
      else
        let d := d.passTo line
        if !d.acquiring then d
        else
          let d := (d.shadowMatch line (sext (leAt b 24 8) 64)).verifyFrom line
          d.lineOut (d.descOf b) false

/-- Points that no LINE_DESC has named become the device's own lines (R457). -/
def Dev.pointsToLines (d : Dev) : Dev :=
  let ps := d.pair.points
  let d := { d with pair := { d.pair with points := [], descs := [] } }
  ps.foldl (fun d p =>
    if !d.acquiring then d
    else
      let n := (d.rd a_WPU_LINE_CNT).toNat
      d.lineOut { p.1 with line := n, first := decide (n = d.wpu.ctx.first), ctx := d.wpu.ctx } false) d

/-- From the next line on, records are UNVERIFIED (R457). -/
def Dev.unverify (d : Dev) : Dev :=
  let n := (d.rd a_WPU_LINE_CNT).toNat
  let f := match d.pair.unv with
    | some (f, none) => f
    | some (f, some e) => if n ≤ e then f else n
    | none => n
  ({ d with pair := { d.pair with unv := some (f, none) } } : Dev).setRdg f_RDG_STAT_UNVERIFIED true

/-- SHADOW_SLIP: points and descriptors that have waited 5 µs are counted, while the link is up (R444). -/
def Dev.shadowSlip (d : Dev) : Dev :=
  if !d.isPartner || !d.ridgeUp then d
  else
    let late (t : Nat) : Bool := t ≠ 0 && t + 5000 < d.el
    let n := (d.pair.points.filter (fun p => late p.2)).length + (d.pair.descs.filter (fun p => late p.2)).length
    let d := { d with pair := { d.pair with
      points := d.pair.points.map (fun (p : LineDesc × Nat) => if late p.2 then (p.1, 0) else p)
      descs := d.pair.descs.filter (fun p => !late p.2) } }
    if n = 0 then d else d.inc a_RDG_CNT1 f_RDG_CNT1_SHADOW_SLIP n

/-- SHADOW_SLIP (R444). -/
def execShadowSlip (dt : Nat) (s : State) : Host.Outcome State Fault Refusal := .next (s.after dt (fun d => d.shadowSlip))

/-- HELD_SEGMENT_TIMEOUT: segments held for a line that has not opened within 20 µs count as ORPHAN (R457). -/
def Dev.heldTimeout (d : Dev) (p : Nat) : Dev :=
  let x := d.port p
  let n := (x.heldSegs.filter (fun h => h.1 + 20000 ≤ d.el)).length
  if n = 0 then d
  else (d.setPort p { x with heldSegs := x.heldSegs.filter (fun h => d.el < h.1 + 20000) }).inc (a_TPT_STAT1 p) f_TPT_STAT1_ORPHAN n

/-- HELD_SEGMENT_TIMEOUT (R457). -/
def execHeldSegmentTimeout (dt : Nat) (p : Fin 16) (s : State) : Host.Outcome State Fault Refusal := .next (s.after dt (fun d => d.heldTimeout p))

/-! ### Other packets -/

/-- MIRROR: writes of the authority are applied; new seam registrations hold from the next course but one of those they were found in (R441;
log entry 24). -/
def Dev.mirrorIn (d : Dev) (b : List Byte) : Dev :=
  if !d.isPartner then d
  else
    let isSeam (a : Nat) : Bool := (List.range 15).any (fun k => a = a_MOS_SEAM_STAT k)
    let es := entries 16 b
    let seams := (es.filter (fun e => isSeam (leAt e 0 4))).map (fun e => (sext (leAt e 8 2) 16, sext (leAt e 10 2) 16))
    let d := if seams.isEmpty then d
      else { d with mos := { d.mos with regAt := (d.mos.regAt ++ [(d.nextFirst, seams)]).drop ((d.mos.regAt.length + 1) - 4) } }
    es.foldl (fun d e =>
      let a := leAt e 0 4
      let n := leAt e 4 1
      if isSeam a then
        [f_MOS_SEAM_STAT_SCORE, f_MOS_SEAM_STAT_REASON, f_MOS_SEAM_STAT_FLAGS].foldl (fun d f => d.wrF a f (fget (BitVec.ofNat 64 (leAt e 8 8)) f)) d
      else if !(n = 4 || n = 8) || a % n ≠ 0 then d else (d.regWrite a n (BitVec.ofNat 64 (leAt e 8 8)) .ridge).1) d

/-- The partner's final response to command `id`: together with the outcome here it makes the answer; an error ends a mode change that still
waits here (R342; log entry 31). -/
def Dev.partnerAnswer (d : Dev) (id status : Nat) : Dev :=
  match d.keel.fwd.find? (fun f => f.id = id) with
  | none => d
  | some f =>
    let st := BitVec.ofNat 16 status
    let d := { d with keel := { d.keel with fwd := d.keel.fwd.map (fun (g : Fwd) => if g.id = id then { g with theirs := some st } else g) } }
    match f.mine with
    | some (mst, line, body) => d.finalResp id f.cmd f.h mst.toNat line body
    | none =>
      match d.mode.pend with
      | some p =>
        if p.cmd = some id && status ≠ 0 then ({ d with mode := { d.mode with pend := none } } : Dev).finish id status noLine [] else d
      | none => d

/-- ENVELOPE: one without a stamp is written to HBM and posted to mailbox 15, anything else is a response of the partner's Keel (R329, R333). -/
def Dev.envelopeIn (d : Dev) (b : List Byte) : Dev :=
  if !d.established then d
  else if (slice b 12 20).all (fun x => x = 0) then
    if d.pair.box.length < 64 && (d.ring 15).en then
      let c := d.ring 15
      let i := c.tail.toNat % 64
      let d := (d.hbmPut (keelSlot i) b).hbmPut (keelBase + 16 * i) (padTo (leBytes 8 (keelSlot i) ++ leBytes 2 b.length) 16)
      ({ d with pair := { d.pair with box := d.pair.box ++ [(d.effectFirst, (d.rd a_WPU_LINE_CNT).toNat)] } } : Dev).setRing 15 { c with tail := c.tail + 1 }
    else d
  else if leAt b 23 1 ≠ 0 then d
  else d.partnerAnswer (leAt b 16 4) (leAt b 20 2)

/-- RECORD at the authority: it enters pair merge (R448, R459). -/
def Dev.recordIn (d : Dev) (b : List Byte) : Dev :=
  if !d.established || !d.authority then d
  else d.fly .pair ⟨stampOf b, BitVec.ofNat 16 (leAt b 12 2), .pairRec d.pair.recon d.el b⟩

/-- XSEG: the segment enters the port as if its own lane had received it (R449). -/
def Dev.xsegIn (d : Dev) (b : List Byte) : Dev :=
  let p := leAt b 0 4
  if !d.established || 16 ≤ p then d else d.takeSeg p (slice b 4 16) (b.drop 32)

/-! ### Authority (R452 to R455) -/

/-- AUTH OFFER: the partner accepts; while it acquires it takes authority with the next course (R454). -/
def Dev.offerIn (d : Dev) : Dev :=
  if !d.isPartner || d.split then d
  else
    let d := if d.acquiring then { d with pair := { d.pair with hand := some (0, true, some 0) } } else d
    d.ridge 0x86 (padTo [2] 16)

/-- AUTH ACCEPT: H is now where no course boundary is waited for; otherwise it is the boundary's (R454). -/
def Dev.acceptIn (d : Dev) : Dev :=
  match d.pair.hand with
  | some (id, false, none) =>
    if !d.authority then d
    else
      let d := { d with pair := { d.pair with hand := none } }
      ((d.finish id 0 noLine []).giveAuthority).ridge 0x86 (releaseBody d.now)
  | some (id, true, none) => if d.authority then { d with pair := { d.pair with hand := some (id, true, some d.now) } } else d
  | _ => d

/-- AUTH RELEASE: the partner takes authority at once (R452). -/
def Dev.releaseIn (d : Dev) : Dev :=
  if !d.isPartner then d else ({ d with pair := { d.pair with hand := none } } : Dev).takeAuthority

/-- AUTH SAFE: SAFE_HOLD with the authority's cause (R455). -/
def Dev.safeIn (d : Dev) (b : List Byte) : Dev := if d.isPartner then d.enterSafe (leAt b 1 1) else d

/-- An AUTH packet by its code. -/
def Dev.authIn (d : Dev) (b : List Byte) : Dev :=
  match leAt b 0 1 with
  | 1 => d.offerIn
  | 2 => d.acceptIn
  | 3 => d.releaseIn
  | 4 => d.safeIn b
  | _ => d

/-! ### Receiving in order (R439) -/

/-- What a packet does once its turn has come. -/
def Dev.ridgeDeliver (d : Dev) (rd : Nat → Nat → List Byte) (f8 : Nat) (pkt : List Byte) : Dev :=
  let b := pktPayload pkt
  match pktType pkt with
  | 0x80 => d.helloIn b
  | 0x82 => d.lineDescIn b
  | 0x83 => d.timeSyncIn f8 b
  | 0x84 => d.mirrorIn b
  | 0x85 => d.envelopeIn b
  | 0x86 => d.authIn b
  | 0x87 => d.latchIn rd b
  | 0x90 => d.recordIn b
  | 0x91 => d.xsegIn b
  | 0x92 => d.syncIn b
  | _ => d

/-- The RSEQ awaited in a class. -/
def Dev.rxSeq (d : Dev) (bulk : Bool) : W32 := if bulk then d.pair.rxBulk else d.pair.rxCtl
/-- Set it. -/
def Dev.setRxSeq (d : Dev) (bulk : Bool) (n : W32) : Dev :=
  { d with pair := if bulk then { d.pair with rxBulk := n } else { d.pair with rxCtl := n } }

/-- Packets that waited and whose turn has come are delivered, at most n. -/
def Dev.ridgeDrain (rd : Nat → Nat → List Byte) (bulk : Bool) : Nat → Dev → Dev
  | 0, d => d
  | n + 1, d =>
    match d.pair.early.find? (fun e => e.1 == bulk && e.2.1 = d.rxSeq bulk) with
    | none => d
    | some e =>
      let d := ({ d with pair := { d.pair with early := d.pair.early.filter (fun x => !(x.1 == bulk && x.2.1 = e.2.1)) } } : Dev).setRxSeq bulk (e.2.1 + 1)
      ridgeDrain rd bulk n (d.ridgeDeliver rd 0 e.2.2.2)

/-- A valid packet of the awaited RSEQ is delivered, with those that waited for it; one from further on waits; one from before is delivered as it
comes. While RIDGE_UP is 0 the control class starts at any RSEQ. Instants of TIME_SYNC are those of its arrival, so that it never waits. -/
def Dev.ridgeIn (d : Dev) (rd : Nat → Nat → List Byte) (f8 typ : Nat) (pkt : List Byte) : Dev :=
  if !d.pairOn || !ridgeOk typ pkt then d
  else
    let bulk : Bool := 0x90 ≤ typ
    let seq := ridgeSeq pkt
    let d := if bulk then d else { d with pair := { d.pair with heard := d.el } }
    let want := if bulk || d.ridgeUp then d.rxSeq bulk else seq
    let ahead := (seq - want).toNat
    if ahead = 0 then
      let n := d.pair.early.length
      Dev.ridgeDrain rd bulk n ((d.setRxSeq bulk (seq + 1)).ridgeDeliver rd f8 pkt)
    else if ahead < 2 ^ 31 then
      let now : Bool := typ = 0x83
      let d := if now then d.ridgeDeliver rd f8 pkt else d
      { d with pair := { d.pair with early := d.pair.early ++ [(bulk, seq, d.el, if now then [] else pkt)] } }
    else d.ridgeDeliver rd f8 pkt

/-- A packet is received. -/
def State.ridgePacket (s : State) (dt f8 typ : Nat) (pkt : List Byte) : Host.Outcome State Fault Refusal :=
  .next (s.afterH dt (fun rd d => d.ridgeIn rd f8 typ pkt))

/-- HELLO (R441). -/
def execHello (dt : Nat) (pkt : List Byte) (s : State) : Host.Outcome State Fault Refusal := s.ridgePacket dt 0 0x80 pkt

/-- LINE_DESC (R443). -/
def execLineDesc (dt : Nat) (pkt : List Byte) (s : State) : Host.Outcome State Fault Refusal := s.ridgePacket dt 0 0x82 pkt

/-- TIME_SYNC (R365): received f8 eighths of a nanosecond into the cycle. -/
def execTimeSync (dt : Nat) (f8 : Fin 8) (pkt : List Byte) (s : State) : Host.Outcome State Fault Refusal := s.ridgePacket dt f8 0x83 pkt

/-- MIRROR (R441). -/
def execMirror (dt : Nat) (pkt : List Byte) (s : State) : Host.Outcome State Fault Refusal := s.ridgePacket dt 0 0x84 pkt

/-- ENVELOPE_PACKET (R329). -/
def execEnvelopePacket (dt : Nat) (pkt : List Byte) (s : State) : Host.Outcome State Fault Refusal := s.ridgePacket dt 0 0x85 pkt

/-- LATCH (R441). -/
def execLatch (dt : Nat) (pkt : List Byte) (s : State) : Host.Outcome State Fault Refusal := s.ridgePacket dt 0 0x87 pkt

/-- RIDGE_RECORD (R448). -/
def execRidgeRecord (dt : Nat) (pkt : List Byte) (s : State) : Host.Outcome State Fault Refusal := s.ridgePacket dt 0 0x90 pkt

/-- XSEG (R449). -/
def execXseg (dt : Nat) (pkt : List Byte) (s : State) : Host.Outcome State Fault Refusal := s.ridgePacket dt 0 0x91 pkt

/-- SYNC_DATA (R441). -/
def execSyncData (dt : Nat) (pkt : List Byte) (s : State) : Host.Outcome State Fault Refusal := s.ridgePacket dt 0 0x92 pkt

/-- An AUTH packet with the code of its row. -/
def State.authPacket (s : State) (dt code : Nat) (pkt : List Byte) : Host.Outcome State Fault Refusal :=
  .next (s.afterH dt (fun rd d => if leAt (pktPayload pkt) 0 1 = code then d.ridgeIn rd 0 0x86 pkt else d))

/-- AUTH_OFFER (R454). -/
def execAuthOffer (dt : Nat) (pkt : List Byte) (s : State) : Host.Outcome State Fault Refusal := s.authPacket dt 1 pkt

/-- AUTH_ACCEPT (R454). -/
def execAuthAccept (dt : Nat) (pkt : List Byte) (s : State) : Host.Outcome State Fault Refusal := s.authPacket dt 2 pkt

/-- AUTH_RELEASE (R452). -/
def execAuthRelease (dt : Nat) (pkt : List Byte) (s : State) : Host.Outcome State Fault Refusal := s.authPacket dt 3 pkt

/-- AUTH_SAFE (R455). -/
def execAuthSafe (dt : Nat) (pkt : List Byte) (s : State) : Host.Outcome State Fault Refusal := s.authPacket dt 4 pkt

/-- KEEP: a control lane that has carried nothing for 1 µs sends one (an empty operand), or one is received. -/
def Dev.keep (d : Dev) (rd : Nat → Nat → List Byte) (l : Nat) (pkt : List Byte) : Dev :=
  if !pkt.isEmpty then d.ridgeIn rd 0 0x81 pkt
  else if d.pairOn && (l = 32 || l = 36) && d.laneActive l then d.ridge 0x81 []
  else d

/-- KEEP (R439). -/
def execKeep (dt : Nat) (l : Fin 40) (pkt : List Byte) (s : State) : Host.Outcome State Fault Refusal := .next (s.afterH dt (fun rd d => d.keep rd l pkt))

/-- RIDGE_GAP: a packet has been missing for 50 µs; it is given up and the packets that follow are delivered (R439). -/
def Dev.ridgeGap (d : Dev) (rd : Nat → Nat → List Byte) (bulk : Bool) : Dev :=
  let mine := d.pair.early.filter (fun e => e.1 == bulk)
  if !d.pairOn || !mine.any (fun e => e.2.2.1 + 50000 ≤ d.el) then d
  else
    let base := d.rxSeq bulk
    let skip := mine.foldl (fun m e => min m (e.2.1 - base).toNat) (2 ^ 32)
    let d := (d.inc a_RDG_CNT1 f_RDG_CNT1_GAP_CNT).reportErr 0x27 46 0
    Dev.ridgeDrain rd bulk mine.length (d.setRxSeq bulk (base + BitVec.ofNat 32 skip))

/-- RIDGE_GAP (R439). -/
def execRidgeGap (dt : Nat) (bulk : Bool) (s : State) : Host.Outcome State Fault Refusal := .next (s.afterH dt (fun rd d => d.ridgeGap rd bulk))

/-! ### Losing the link (R440, R451, R452, R457) -/

/-- Commands that need the partner end as the link goes: a handover before H and a TIME_STEP not yet made are cancelled (R358, R454). -/
def Dev.cancelPaired (d : Dev) : Dev :=
  let hand := d.pair.hand
  let step := d.clk.step
  let d := { d with pair := { d.pair with hand := none }, clk := { d.clk with step := none } }
  let d := match hand with | some (id, _, _) => d.finish id 3 noLine [] | none => d
  match step with | some (id, _) => d.finish id 3 noLine [] | none => d

/-- RIDGE_LOST: 10 µs without a valid control packet. The device without authority goes on by itself from here (R457). -/
def Dev.ridgeLost (d : Dev) : Dev :=
  if !d.pairOn || !d.ridgeUp || d.el < d.pair.heard + 10000 then d
  else
    let d := (d.setRdg f_RDG_STAT_RIDGE_UP false).wr a_RDG_XFWD 0
    let d := { d with pair := { d.pair with sent := false, got := false, early := [], lostAt := some d.el } }
    if !d.established then d
    else
      let d := d.cancelPaired
      if d.isPartner then (d.unverify.pointsToLines).fwdAlone else d.fwdAlone

/-- RIDGE_LOST (R440). -/
def execRidgeLost (dt : Nat) (s : State) : Host.Outcome State Fault Refusal := .next (s.after dt (fun d => d.ridgeLost))

/-- The pair is split: SPLIT is set and PAIR_SPLIT reported, and the keys of the split begin (R452, R457). -/
def Dev.setSplit (d : Dev) : Dev :=
  if d.split then d
  else (({ d with pair := { d.pair with keys := [] } } : Dev).setRdg f_RDG_STAT_SPLIT true).reportErr 0x29 46 0

/-- The table of R452 with the link lost, by FENCE_OK and the strap. -/
def Dev.splitCase (d : Dev) : Dev :=
  if d.rdg f_RDG_STAT_FENCE_OK then d.setSplit
  else if d.rst.primary then (if d.authority then d else d.takeAuthority)
  else
    let d := if d.authority then d.giveAuthority.unverify else d
    d.setSplit

/-- SPLIT_DECISION: 110 µs after the link was lost (R452); a device that gives authority up here drives a release pulse (R451), and one that gives it
up later, in the split, does not. -/
def Dev.splitDecision (d : Dev) : Dev :=
  match d.pair.lostAt with
  | none => d
  | some t =>
    if !d.pairOn || d.el < t + 110000 then d
    else
      let d := { d with pair := { d.pair with lostAt := none } }
      if !d.established || d.ridgeUp then d
      else
        let had := d.authority
        let d := d.splitCase
        if had && !d.authority then d.emit (.fencePulse 40000) else d

/-- SPLIT_DECISION (R452). -/
def execSplitDecision (dt : Nat) (s : State) : Host.Outcome State Fault Refusal := .next (s.after dt (fun d => d.splitDecision))

/-! ### FENCE (R451) -/

/-- FENCE_PULSE: at device time 0 or 10,000 modulo 20,000, once device time is set, the device pulls FENCE low for 1 µs. -/
def Dev.fencePulse (d : Dev) : Dev :=
  let phase := if d.rst.primary then 0 else 10000
  let soon : Bool := match d.pair.drove with | some t => decide (d.el < t + 1000) | none => false
  if !d.inB a_RDG_CFG f_RDG_CFG_EN || !d.rdB a_TIME_STAT f_TIME_STAT_SET || soon || 2 ≤ (d.now.toNat + 20000 - phase) % 20000 then d
  else ({ d with pair := { d.pair with drove := some d.el } } : Dev).emit (.fencePulse 1000)

/-- FENCE_PULSE (R451). -/
def execFencePulse (dt : Nat) (s : State) : Host.Outcome State Fault Refusal := .next (s.after dt (fun d => d.fencePulse))

/-- FENCE_PARTNER_PULSE: FENCE has been low for 500 ns while the device did not pull it. -/
def Dev.fencePartner (d : Dev) : Dev :=
  let own : Bool := match d.pair.drove with | some t => decide (d.el < t + 1500) | none => false
  if !d.inB a_RDG_CFG f_RDG_CFG_EN || own then d
  else ({ d with pair := { d.pair with pulse := some d.el } } : Dev).setRdg f_RDG_STAT_FENCE_OK true

/-- FENCE_PARTNER_PULSE (R451). -/
def execFencePartnerPulse (dt : Nat) (s : State) : Host.Outcome State Fault Refusal := .next (s.after dt (fun d => d.fencePartner))

/-- FENCE_OK_TIMEOUT: no partner pulse for 100 µs. With the link up this is FENCE_FAULT; a split device decides again (R452). -/
def Dev.fenceTimeout (d : Dev) : Dev :=
  let old : Bool := match d.pair.pulse with | some t => decide (t + 100000 ≤ d.el) | none => true
  if !d.rdg f_RDG_STAT_FENCE_OK || !old then d
  else
    let d := d.setRdg f_RDG_STAT_FENCE_OK false
    if !d.established then d
    else if d.ridgeUp then d.reportErr 0x2C 46 0
    else if d.split then d.splitCase
    else d

/-- FENCE_OK_TIMEOUT (R451). -/
def execFenceOkTimeout (dt : Nat) (s : State) : Host.Outcome State Fault Refusal := .next (s.after dt (fun d => d.fenceTimeout))

/-- FENCE_RELEASE_SEEN: the partner has left. Without the token the device takes authority at once (R452); the pair is no longer established and
returns only by rejoin (R455). -/
def Dev.releaseSeen (d : Dev) : Dev :=
  if !d.inB a_RDG_CFG f_RDG_CFG_EN || !d.established then d
  else
    let d := d.cancelPaired
    let d := if d.authority then d else d.takeAuthority
    let d := d.setRdg f_RDG_STAT_ESTABLISHED false
    ({ d with pair := { d.pair with step := 7, lostAt := none } } : Dev).pairClosed

/-- FENCE_RELEASE_SEEN (R451). -/
def execFenceReleaseSeen (dt : Nat) (s : State) : Host.Outcome State Fault Refusal := .next (s.after dt (fun d => d.releaseSeen))

/-- HANDOVER_SAFE_LEVEL: from H + 1,200 µs the new holder drives the safe level (R454). -/
def Dev.handoverLevel (d : Dev) : Dev :=
  match d.pair.moved with
  | some (h, true, false) =>
    if d.el < h + 1200000 then d else ({ d with pair := { d.pair with moved := some (h, true, true) } } : Dev).outputsIdle
  | _ => d

/-- HANDOVER_SAFE_LEVEL (R454). -/
def execHandoverSafeLevel (dt : Nat) (s : State) : Host.Outcome State Fault Refusal := .next (s.after dt (fun d => d.handoverLevel))

/-! ### Timeouts (R448, R458) -/

/-- PAIR_COMPARE_TIMEOUT: records that have waited 2 ms for their counterpart. -/
def Dev.compareTimeout (d : Dev) : Dev :=
  let old (t : Nat) : Bool := t + 2000000 ≤ d.el
  let n := (d.pair.own.filter (fun r => old r.2.2)).length
  let theirs := d.pair.theirs_.filter (fun r => old r.2.2)
  let d := { d with pair := { d.pair with own := d.pair.own.filter (fun r => !old r.2.2), theirs_ := d.pair.theirs_.filter (fun r => !old r.2.2) } }
  let d := if n = 0 then d else d.inc a_RDG_CNT0 f_RDG_CNT0_ONLY_AUTH_CNT n
  theirs.foldl (fun d r => (d.inc a_RDG_CNT0 f_RDG_CNT0_MISMATCH_CNT).toDiffRing r.2.1) d

/-- PAIR_COMPARE_TIMEOUT (R448). -/
def execPairCompareTimeout (dt : Nat) (s : State) : Host.Outcome State Fault Refusal := .next (s.after dt (fun d => d.compareTimeout))

/-- REJOIN_LOCK_TIMEOUT: 60 s have passed and the joining device's time is not locked (R458). -/
def Dev.rejoinTimeout (d : Dev) : Dev :=
  let due (t : Nat) : Bool := t + 60000000000 ≤ d.el
  match d.pair.rejoin with
  | some (id, t) =>
    if !due t || 4 ≤ d.pair.step then d
    else
      (({ d with pair := { d.pair with rejoin := none, step := 7 } } : Dev).wrF a_RDG_STAT f_RDG_STAT_PAIR_ERR 6).endService id 0x1D noLine []
  | none =>
    match d.pair.joinAt with
    | some t =>
      if !due t || d.rdB a_TIME_STAT f_TIME_STAT_LOCKED then d
      else ({ d with pair := { d.pair with joinAt := none, step := 7 } } : Dev).wrF a_RDG_STAT f_RDG_STAT_PAIR_ERR 6
    | none => d

/-- REJOIN_LOCK_TIMEOUT (R458). -/
def execRejoinLockTimeout (dt : Nat) (s : State) : Host.Outcome State Fault Refusal := .next (s.after dt (fun d => d.rejoinTimeout))

end Sys2Proof.Machine
end

