-- ==== Sys2Proof/Machine/Thermal.lean ====
section
/-! DEFINITION. Temperatures and their conditions (R542 to R544, R546) and SMBus (R541). -/

namespace Sys2Proof.Machine

/-- A reading in 1/256 °C. -/
def reading (temps : List (BitVec 16)) (i : Nat) : Int := (lget temps i 0).toInt

/-- A reading is valid (R542): within −20 to 150 °C, and within 15 °C of a neighbour in sensor number; an end sensor has one neighbour. -/
def readingOk (temps : List (BitVec 16)) (i : Nat) : Bool :=
  let r := reading temps i
  let near (j : Nat) : Bool := (r - reading temps j).natAbs ≤ 15 * 256
  decide (-20 * 256 ≤ r) && decide (r ≤ 150 * 256) && ((i ≠ 0 && near (i - 1)) || (i < 39 && near (i + 1)))

/-- The highest of the valid readings and the first sensor that gives it. -/
def hottest (temps : List (BitVec 16)) : Option (Int × Nat) :=
  ((List.range 40).filter (readingOk temps)).foldl (fun (m : Option (Int × Nat)) i =>
    match m with
    | some (t, _) => if t < reading temps i then some (reading temps i, i) else m
    | none => some (reading temps i, i)) none

/-- Thresholds of WARN, THROTTLE and HOT in 1/256 °C (R543). -/
def Dev.thresholds (d : Dev) : List Int :=
  [256 * (clampN (d.rdF a_THM_CFG f_THM_CFG_WARN_C) 60 99 : Nat), 256 * (clampN (d.rdF a_THM_CFG f_THM_CFG_THROTTLE_C) 70 99 : Nat), 25600]

/-- The bit of a condition in THM.STAT: WARN, THROTTLE, HOT. -/
def thmBit (k : Nat) : Fld := match k with | 0 => f_THM_STAT_WARN | 1 => f_THM_STAT_THROTTLE | _ => f_THM_STAT_HOT

/-- INFO of a thermal error (R544): the sensor and its reading. -/
def thmInfo (sensor : Nat) (t : Int) : Nat := sensor + uwrap t 16 * 2 ^ 16

/-- Sensors whose reading is invalid are reported, once each. -/
def Dev.sensorFails (d : Dev) (temps : List (BitVec 16)) : Dev :=
  iter 40 (fun i d =>
    if readingOk temps i || d.thm.failed.contains i then d
    else ({ d with thm := { d.thm with failed := d.thm.failed ++ [i] } } : Dev).reportErr 0x44 43 (thmInfo i (reading temps i))) d

/-- A condition follows a temperature: it rises at its threshold, reported once per rise, and the time 3 °C below it is kept. -/
def Dev.judgeTemp (d : Dev) (k : Nat) (t : Int) (sensor : Nat) : Dev :=
  let thr := lget d.thresholds k 0
  let below := if t ≤ thr - 768 then some ((lget d.thm.below k none).getD d.el) else none
  let d := { d with thm := { d.thm with below := lset d.thm.below k below } }
  if thr ≤ t && !d.rdB a_THM_STAT (thmBit k) then ((d.wrB a_THM_STAT (thmBit k) true).alertFrom d.smbAlert).reportErr (0x40 + k) 43 (thmInfo sensor t) else d

/-- Seconds spent in THROTTLE are counted up to now. -/
def Dev.throttleTime (d : Dev) : Dev :=
  let ns := if d.thm.read && d.rdB a_THM_STAT f_THM_STAT_THROTTLE then d.thm.thrNs + (d.el - d.thm.at_) else d.thm.thrNs
  ({ d with thm := { d.thm with thrNs := ns % 1000000000, at_ := d.el } } : Dev).inc a_THM_STAT f_THM_STAT_THROTTLE_S (ns / 1000000000)

/-- The readings are shown and judged. With fewer than 32 sensors valid the device acts as at THROTTLE_C (R542). -/
def Dev.takeTemps (d : Dev) (temps : List (BitVec 16)) : Dev :=
  let d := d.throttleTime
  let d := iter 40 (fun i d =>
    d.wr (a_THM_TEMP i) (fset (fset 0 f_THM_TEMP_T (lget temps i 0).toNat) f_THM_TEMP_VALID (if readingOk temps i then 1 else 0))) d
  let bad := ((List.range 40).filter (fun i => !readingOk temps i)).length
  let d := (d.wrF a_THM_STAT f_THM_STAT_INVALID bad).sensorFails temps
  let (t, i, d) : Int × Nat × Dev := match hottest temps with
    | some (t, i) =>
      let d := { d with thm := { d.thm with read := true } }
      let d := (d.wrS a_THM_TJ f_THM_TJ_TJ t).wrF a_THM_TJ f_THM_TJ_SENSOR i
      (t, i, if fgetS (d.rd a_THM_STAT) f_THM_STAT_PEAK < t then d.wrS a_THM_STAT f_THM_STAT_PEAK t else d)
    | none => (fgetS (d.rd a_THM_TJ) f_THM_TJ_TJ, d.rdF a_THM_TJ f_THM_TJ_SENSOR, d)
  let t := if 8 < bad then max t (lget d.thresholds 1 0) else t
  iter 3 (fun k d => d.judgeTemp k t i) d

/-- THERMAL_SAMPLE: the 40 sensors are read. The trip comparators act whether the block is in reset or not (R543). -/
def Dev.thermalSample (d : Dev) (temps : List (BitVec 16)) : Dev :=
  if d.thm.read && d.el < d.thm.at_ + 100000 then d
  else
    let d := if d.isHeld .thm then d else d.takeTemps temps
    match hottest temps with
    | some (t, i) => if 110 * 256 ≤ t && !d.rst.trip then (d.reportErr 0x43 43 (thmInfo i t)).assertReset .thermalTrip else d
    | none => d

/-- THERMAL_SAMPLE (R542). -/
def execThermalSample (dt : Nat) (temps : List (BitVec 16)) (s : State) : Host.Outcome State Fault Refusal :=
  .next (s.after dt (fun d => d.thermalSample temps))

/-- THERMAL_CLEAR: conditions whose threshold Tj has stayed 3 °C below for 1 s clear (R543). -/
def Dev.thermalClear (d : Dev) : Dev :=
  iter 3 (fun k d =>
    match lget d.thm.below k none with
    | some t => if t + 1000000000 ≤ d.el then (d.wrB a_THM_STAT (thmBit k) false).alertFrom d.smbAlert else d
    | none => d) d

/-- THERMAL_CLEAR (R543). -/
def execThermalClear (dt : Nat) (s : State) : Host.Outcome State Fault Refusal :=
  .next (s.after dt (fun d => if d.isHeld .thm then d else d.thermalClear))

/-! ### SMBus (R541) -/

/-- An answer on SMBus, which the AON island gives while VAON is in range. -/
def State.smbus (s : State) (f : Dev → List Byte) : Host.Outcome State Fault Refusal :=
  .next (s.after 0 (fun d => if d.rst.por then d else d.emit (.smbus (f d))))

/-- SMB_READ_ID: command 0x01. -/
def execSmbReadId (s : State) : Host.Outcome State Fault Refusal := s.smbus (fun d => leBytes 4 (d.rd a_DEV_ID).toNat)

/-- The AON copy of Tj: 0x8000 while the KEEL island cannot be reached or no reading has been taken. -/
def Dev.tjCopy (d : Dev) : Nat := if d.reachable .thm && d.thm.read then d.rdF a_THM_TJ f_THM_TJ_TJ else 0x8000

/-- SMB_READ_TJ: command 0x02. -/
def execSmbReadTj (s : State) : Host.Outcome State Fault Refusal := s.smbus (fun d => leBytes 2 d.tjCopy)

/-- SMB_READ_MODE: command 0x03, bits 18 to 11 of DEV.MODE. -/
def execSmbReadMode (s : State) : Host.Outcome State Fault Refusal := s.smbus (fun d => [BitVec.ofNat 8 (d.modeReg.toNat / 2 ^ 11)])

/-- SMB_READ_RST_CAUSE: command 0x04. -/
def execSmbReadRstCause (s : State) : Host.Outcome State Fault Refusal :=
  s.smbus (fun d => leBytes 4 (d.rd a_DEV_RST_CAUSE).toNat)

end Sys2Proof.Machine
end

