-- ==== Sys2Proof/Machine/Windows.lean ====
section
/-! DEFINITION. The ballast window (R66): budgets are served and renewed, and what waited for budget goes on. -/

namespace Sys2Proof.Machine

/-- What waits for budget goes on: engines, the sources of objects, the recorder, and frames of views leave (R70, R281). -/
def Dev.windowWork (d : Dev) (rd : Nat → Nat → List Byte) : Dev := (d.enginesRun.feedSources rd).viewsFlush

/-- BALLAST_WINDOW (R66). -/
def execBallastWindow (dt : Nat) (demand : List Demand) (s : State) : Host.Outcome State Fault Refusal :=
  .next (s.afterH dt (fun rd d => (d.enginesRun.ballastWindow demand).windowWork rd))

end Sys2Proof.Machine
end

