-- ==== Sys2Proof/Machine/Dispatch.lean ====
section
/-! DEFINITION. One arm per command: the meaning it calls. -/

namespace Sys2Proof.Machine

/-- The effect of a command on everything but the queue. -/
def exec (i : Instr) (s : State) : Host.Outcome State Fault Refusal :=
  match i with
  | .nop h => Sys2Proof.Machine.execNop h s
  | .info h => Sys2Proof.Machine.execInfo h s
  | .cmdQuery h mailbox tag => Sys2Proof.Machine.execCmdQuery h mailbox tag s
  | .regRead h entries => Sys2Proof.Machine.execRegRead h entries s
  | .regWrite h entries => Sys2Proof.Machine.execRegWrite h entries s
  | .modeSet h target => Sys2Proof.Machine.execModeSet h target s
  | .rollNext h => Sys2Proof.Machine.execRollNext h s
  | .loftExport h first last ring => Sys2Proof.Machine.execLoftExport h first last ring s
  | .tableLoad h t => Sys2Proof.Machine.execTableLoad h t s
  | .tableRead h t => Sys2Proof.Machine.execTableRead h t s
  | .camRegRead h port count addr => Sys2Proof.Machine.execCamRegRead h port count addr s
  | .camRegWrite h port addr words => Sys2Proof.Machine.execCamRegWrite h port addr words s
  | .viewReserve h v => Sys2Proof.Machine.execViewReserve h v s
  | .viewRelease h slot => Sys2Proof.Machine.execViewRelease h slot s
  | .hbmSetpoint h mask sp => Sys2Proof.Machine.execHbmSetpoint h mask sp s
  | .hbmRetire h stack pc => Sys2Proof.Machine.execHbmRetire h stack pc s
  | .fwStage h src => Sys2Proof.Machine.execFwStage h src s
  | .fwSwap h => Sys2Proof.Machine.execFwSwap h s
  | .pipeTakeover h target => Sys2Proof.Machine.execPipeTakeover h target s
  | .laneRetrain h lane => Sys2Proof.Machine.execLaneRetrain h lane s
  | .partnerRejoin h => Sys2Proof.Machine.execPartnerRejoin h s
  | .serviceAbort h => Sys2Proof.Machine.execServiceAbort h s
  | .calRun h item arg => Sys2Proof.Machine.execCalRun h item arg s
  | .calRead h item => Sys2Proof.Machine.execCalRead h item s
  | .calStore h => Sys2Proof.Machine.execCalStore h s
  | .cfgOpen h => Sys2Proof.Machine.execCfgOpen h s
  | .cfgCommit h => Sys2Proof.Machine.execCfgCommit h s
  | .nvWrite h src => Sys2Proof.Machine.execNvWrite h src s
  | .fuseProgram h levels => Sys2Proof.Machine.execFuseProgram h levels s
  | .timeStep h amount => Sys2Proof.Machine.execTimeStep h amount s
  | .evtCommit h => Sys2Proof.Machine.execEvtCommit h s
  | .pairHandover h => Sys2Proof.Machine.execPairHandover h s
  | .envelopeTake dt desc env => Sys2Proof.Machine.execEnvelopeTake dt desc env s
  | .commandWaitStart dt m => Sys2Proof.Machine.execCommandWaitStart dt m s
  | .commandTimeout dt m => Sys2Proof.Machine.execCommandTimeout dt m s
  | .fwSwapPause dt ready => Sys2Proof.Machine.execFwSwapPause dt ready s
  | .fwSwapReadyTimeout dt => Sys2Proof.Machine.execFwSwapReadyTimeout dt s
  | .registerWrite acc => Sys2Proof.Machine.execRegisterWrite acc s
  | .rcRead acc => Sys2Proof.Machine.execRcRead acc s
  | .safeReq data => Sys2Proof.Machine.execSafeReq data s
  | .wpuCommit data => Sys2Proof.Machine.execWpuCommit data s
  | .latchReq data => Sys2Proof.Machine.execLatchReq data s
  | .cmpPush u acc => Sys2Proof.Machine.execCmpPush u acc s
  | .cmpClear u data => Sys2Proof.Machine.execCmpClear u data s
  | .dspCommit data => Sys2Proof.Machine.execDspCommit data s
  | .coefMark n data => Sys2Proof.Machine.execCoefMark n data s
  | .coefSwap n data => Sys2Proof.Machine.execCoefSwap n data s
  | .cmClear data => Sys2Proof.Machine.execCmClear data s
  | .repCaptureGo data => Sys2Proof.Machine.execRepCaptureGo data s
  | .bankMark data => Sys2Proof.Machine.execBankMark data s
  | .bankSwap data => Sys2Proof.Machine.execBankSwap data s
  | .rollNow data => Sys2Proof.Machine.execRollNow data s
  | .loftFreeze data => Sys2Proof.Machine.execLoftFreeze data s
  | .loftResume data => Sys2Proof.Machine.execLoftResume data s
  | .tptRetrain p data => Sys2Proof.Machine.execTptRetrain p data s
  | .swFire data => Sys2Proof.Machine.execSwFire data s
  | .chCtrlWrite c data => Sys2Proof.Machine.execChCtrlWrite c data s
  | .ttArm k data => Sys2Proof.Machine.execTtArm k data s
  | .prGo st data => Sys2Proof.Machine.execPrGo st data s
  | .prExit st data => Sys2Proof.Machine.execPrExit st data s
  | .eyeGo q k data => Sys2Proof.Machine.execEyeGo q k data s
  | .blockRst data => Sys2Proof.Machine.execBlockRst data s
  | .devRst data => Sys2Proof.Machine.execDevRst data s
  | .clkTimeoutRetry data => Sys2Proof.Machine.execClkTimeoutRetry data s
  | .errAck data => Sys2Proof.Machine.execErrAck data s
  | .fatalPendClear data => Sys2Proof.Machine.execFatalPendClear data s
  | .lockSet u data => Sys2Proof.Machine.execLockSet u data s
  | .ringContextWrite acc => Sys2Proof.Machine.execRingContextWrite acc s
  | .doorbell acc descs => Sys2Proof.Machine.execDoorbell acc descs s
  | .tblWindowAccess acc => Sys2Proof.Machine.execTblWindowAccess acc s
  | .msixUnmask v => Sys2Proof.Machine.execMsixUnmask v s
  | .ripcordAssert dt => Sys2Proof.Machine.execRipcordAssert dt s
  | .ripcordRelease dt => Sys2Proof.Machine.execRipcordRelease dt s
  | .modeEntry dt => Sys2Proof.Machine.execModeEntry dt s
  | .reset dt src => Sys2Proof.Machine.execReset dt src s
  | .supplyFault dt io => Sys2Proof.Machine.execSupplyFault dt io s
  | .powerGood dt primary => Sys2Proof.Machine.execPowerGood dt primary s
  | .clockGood dt isl => Sys2Proof.Machine.execClockGood dt isl s
  | .clockGoodLoss dt isl => Sys2Proof.Machine.execClockGoodLoss dt isl s
  | .blockRelease dt u senses => Sys2Proof.Machine.execBlockRelease dt u senses s
  | .clkGoodTimeout dt isl => Sys2Proof.Machine.execClkGoodTimeout dt isl s
  | .idleTimeout dt u => Sys2Proof.Machine.execIdleTimeout dt u s
  | .optionLoadingDone dt flash => Sys2Proof.Machine.execOptionLoadingDone dt flash s
  | .fwBootDone dt boot => Sys2Proof.Machine.execFwBootDone dt boot s
  | .hbmTrainingDone dt st res => Sys2Proof.Machine.execHbmTrainingDone dt st res s
  | .startupComplete dt => Sys2Proof.Machine.execStartupComplete dt s
  | .quadStateChange dt n a b => Sys2Proof.Machine.execQuadStateChange dt n a b s
  | .indexEdge dt n => Sys2Proof.Machine.execIndexEdge dt n s
  | .hallStateChange dt n uvw => Sys2Proof.Machine.execHallStateChange dt n uvw s
  | .ssiFrame dt n bits => Sys2Proof.Machine.execSsiFrame dt n bits s
  | .tposExtrapolate dt => Sys2Proof.Machine.execTposExtrapolate dt s
  | .standstill dt => Sys2Proof.Machine.execStandstill dt s
  | .markerPulseStart dt n => Sys2Proof.Machine.execMarkerPulseStart dt n s
  | .markerPulseEnd dt n => Sys2Proof.Machine.execMarkerPulseEnd dt n s
  | .strobePulseStart dt n => Sys2Proof.Machine.execStrobePulseStart dt n s
  | .strobePulseEnd dt n => Sys2Proof.Machine.execStrobePulseEnd dt n s
  | .filterOutput dt f8 bits => Sys2Proof.Machine.execFilterOutput dt f8 bits s
  | .coarseValue dt f8 bits => Sys2Proof.Machine.execCoarseValue dt f8 bits s
  | .settleEnd dt f8 bits => Sys2Proof.Machine.execSettleEnd dt f8 bits s
  | .dsmStuck dt f8 bits => Sys2Proof.Machine.execDsmStuck dt f8 bits s
  | .lineSeg dt l pkt => Sys2Proof.Machine.execLineSeg dt l pkt s
  | .cap dt l pkt => Sys2Proof.Machine.execCap dt l pkt s
  | .ack dt l pkt => Sys2Proof.Machine.execAck dt l pkt s
  | .regRsp dt l pkt => Sys2Proof.Machine.execRegRsp dt l pkt s
  | .camEvent dt l pkt => Sys2Proof.Machine.execCamEvent dt l pkt s
  | .echoRsp dt l blk rtt => Sys2Proof.Machine.execEchoRsp dt l blk rtt s
  | .echoPeriodic dt => Sys2Proof.Machine.execEchoPeriodic dt s
  | .camRequestTimeout dt p => Sys2Proof.Machine.execCamRequestTimeout dt p s
  | .lineSlotClose dt p => Sys2Proof.Machine.execLineSlotClose dt p s
  | .alignLoss dt l => Sys2Proof.Machine.execAlignLoss dt l s
  | .bringupStepTimeout dt l => Sys2Proof.Machine.execBringupStepTimeout dt l s
  | .bringupPauseEnd dt l => Sys2Proof.Machine.execBringupPauseEnd dt l s
  | .receiverDetect dt l found => Sys2Proof.Machine.execReceiverDetect dt l found s
  | .trainingFrame dt l f => Sys2Proof.Machine.execTrainingFrame dt l f s
  | .laneLockLoss dt l => Sys2Proof.Machine.execLaneLockLoss dt l s
  | .lanePllUnlock dt q => Sys2Proof.Machine.execLanePllUnlock dt q s
  | .calBurstSend dt l => Sys2Proof.Machine.execCalBurstSend dt l s
  | .calBurstReceive dt l => Sys2Proof.Machine.execCalBurstReceive dt l s
  | .laneBurstMiss dt l => Sys2Proof.Machine.execLaneBurstMiss dt l s
  | .adaptFreeze dt l => Sys2Proof.Machine.execAdaptFreeze dt l s
  | .adaptResume dt l => Sys2Proof.Machine.execAdaptResume dt l s
  | .eyeScanDone dt l errors => Sys2Proof.Machine.execEyeScanDone dt l errors s
  | .pipeLine dt n => Sys2Proof.Machine.execPipeLine dt n s
  | .mosaicLine dt => Sys2Proof.Machine.execMosaicLine dt s
  | .loftFrozen dt => Sys2Proof.Machine.execLoftFrozen dt s
  | .seamUpdate dt => Sys2Proof.Machine.execSeamUpdate dt s
  | .lineLabel dt => Sys2Proof.Machine.execLineLabel dt s
  | .repmarkPosition dt => Sys2Proof.Machine.execRepmarkPosition dt s
  | .mergeArrival dt m => Sys2Proof.Machine.execMergeArrival dt m s
  | .mergeTimeoutRelease dt m => Sys2Proof.Machine.execMergeTimeoutRelease dt m s
  | .blobClassify dt => Sys2Proof.Machine.execBlobClassify dt s
  | .courseCloseTimeout dt => Sys2Proof.Machine.execCourseCloseTimeout dt s
  | .courseRecordSend dt => Sys2Proof.Machine.execCourseRecordSend dt s
  | .pass2Done dt => Sys2Proof.Machine.execPass2Done dt s
  | .pass2Timeout dt => Sys2Proof.Machine.execPass2Timeout dt s
  | .cropCutStart dt => Sys2Proof.Machine.execCropCutStart dt s
  | .cropPinExpiry dt => Sys2Proof.Machine.execCropPinExpiry dt s
  | .cropEnd dt => Sys2Proof.Machine.execCropEnd dt s
  | .ringItemDeliver dt r dmaOk => Sys2Proof.Machine.execRingItemDeliver dt r dmaOk s
  | .bufferFlush dt r => Sys2Proof.Machine.execBufferFlush dt r s
  | .ringCoalesceTimer dt r => Sys2Proof.Machine.execRingCoalesceTimer dt r s
  | .dmaCopy dt r desc data dmaOk => Sys2Proof.Machine.execDmaCopy dt r desc data dmaOk s
  | .outboundStop dt why => Sys2Proof.Machine.execOutboundStop dt why s
  | .outboundResume dt why => Sys2Proof.Machine.execOutboundResume dt why s
  | .subscribe dt f => Sys2Proof.Machine.execSubscribe dt f s
  | .renew dt f => Sys2Proof.Machine.execRenew dt f s
  | .unsubscribe dt f => Sys2Proof.Machine.execUnsubscribe dt f s
  | .viewLeaseExpiry dt v => Sys2Proof.Machine.execViewLeaseExpiry dt v s
  | .viewFrame dt v => Sys2Proof.Machine.execViewFrame dt v s
  | .arpRequest dt port targetIp senderIp senderMac => Sys2Proof.Machine.execArpRequest dt port targetIp senderIp senderMac s
  | .icmpEcho dt port f => Sys2Proof.Machine.execIcmpEcho dt port f s
  | .frameDiscard dt port ptp => Sys2Proof.Machine.execFrameDiscard dt port ptp s
  | .ptpSyncRx dt msg => Sys2Proof.Machine.execPtpSyncRx dt msg s
  | .ptpFollowUpRx dt msg => Sys2Proof.Machine.execPtpFollowUpRx dt msg s
  | .ptpDelayRespRx dt msg => Sys2Proof.Machine.execPtpDelayRespRx dt msg s
  | .ptpAnnounceRx dt msg => Sys2Proof.Machine.execPtpAnnounceRx dt msg s
  | .ptpDelayReqRx dt msg => Sys2Proof.Machine.execPtpDelayReqRx dt msg s
  | .ptpSyncTx dt f8 => Sys2Proof.Machine.execPtpSyncTx dt f8 s
  | .ptpDelayReqTx dt f8 => Sys2Proof.Machine.execPtpDelayReqTx dt f8 s
  | .ptpAnnounceTimeout dt => Sys2Proof.Machine.execPtpAnnounceTimeout dt s
  | .ppsInEdge dt f8 => Sys2Proof.Machine.execPpsInEdge dt f8 s
  | .ppsOutRise dt => Sys2Proof.Machine.execPpsOutRise dt s
  | .ppsOutFall dt => Sys2Proof.Machine.execPpsOutFall dt s
  | .timeTt dt k => Sys2Proof.Machine.execTimeTt dt k s
  | .timeSave dt => Sys2Proof.Machine.execTimeSave dt s
  | .holdover dt => Sys2Proof.Machine.execHoldover dt s
  | .timeStepApply dt => Sys2Proof.Machine.execTimeStepApply dt s
  | .channelFire dt c => Sys2Proof.Machine.execChannelFire dt c s
  | .evioEdge dt n level => Sys2Proof.Machine.execEvioEdge dt n level s
  | .evioPulseEnd dt n => Sys2Proof.Machine.execEvioPulseEnd dt n s
  | .evtRateWindow dt => Sys2Proof.Machine.execEvtRateWindow dt s
  | .jctStall dt isl => Sys2Proof.Machine.execJctStall dt isl s
  | .ballastWindow dt demand => Sys2Proof.Machine.execBallastWindow dt demand s
  | .thatchJobStart dt e job => Sys2Proof.Machine.execThatchJobStart dt e job s
  | .thatchResume dt e room => Sys2Proof.Machine.execThatchResume dt e room s
  | .thatchSave dt e pos addr => Sys2Proof.Machine.execThatchSave dt e pos addr s
  | .thatchRestore dt e addr => Sys2Proof.Machine.execThatchRestore dt e addr s
  | .thatchJobEnd dt e => Sys2Proof.Machine.execThatchJobEnd dt e s
  | .refresh dt st pc bank => Sys2Proof.Machine.execRefresh dt st pc bank s
  | .hbmTempSample dt st temp => Sys2Proof.Machine.execHbmTempSample dt st temp s
  | .rfm dt st pc bank => Sys2Proof.Machine.execRfm dt st pc bank s
  | .powerDownEntry dt st pc => Sys2Proof.Machine.execPowerDownEntry dt st pc s
  | .selfRefreshEntry dt st pc => Sys2Proof.Machine.execSelfRefreshEntry dt st pc s
  | .selfRefreshExit dt st pc => Sys2Proof.Machine.execSelfRefreshExit dt st pc s
  | .pcZeroDone dt st pc => Sys2Proof.Machine.execPcZeroDone dt st pc s
  | .trackingStepP dt st pc => Sys2Proof.Machine.execTrackingStepP dt st pc s
  | .setpointRelock dt => Sys2Proof.Machine.execSetpointRelock dt s
  | .hbmScrub dt st kind => Sys2Proof.Machine.execHbmScrub dt st kind s
  | .migrationDone dt => Sys2Proof.Machine.execMigrationDone dt s
  | .hello dt pkt => Sys2Proof.Machine.execHello dt pkt s
  | .keep dt l pkt => Sys2Proof.Machine.execKeep dt l pkt s
  | .lineDesc dt pkt => Sys2Proof.Machine.execLineDesc dt pkt s
  | .mirror dt pkt => Sys2Proof.Machine.execMirror dt pkt s
  | .envelopePacket dt pkt => Sys2Proof.Machine.execEnvelopePacket dt pkt s
  | .authOffer dt pkt => Sys2Proof.Machine.execAuthOffer dt pkt s
  | .authAccept dt pkt => Sys2Proof.Machine.execAuthAccept dt pkt s
  | .authRelease dt pkt => Sys2Proof.Machine.execAuthRelease dt pkt s
  | .authSafe dt pkt => Sys2Proof.Machine.execAuthSafe dt pkt s
  | .latch dt pkt => Sys2Proof.Machine.execLatch dt pkt s
  | .pairLatchCapture dt => Sys2Proof.Machine.execPairLatchCapture dt s
  | .ridgeRecord dt pkt => Sys2Proof.Machine.execRidgeRecord dt pkt s
  | .xseg dt pkt => Sys2Proof.Machine.execXseg dt pkt s
  | .syncData dt pkt => Sys2Proof.Machine.execSyncData dt pkt s
  | .timeSync dt f8 pkt => Sys2Proof.Machine.execTimeSync dt f8 pkt s
  | .ridgeGap dt bulk => Sys2Proof.Machine.execRidgeGap dt bulk s
  | .ridgeLost dt => Sys2Proof.Machine.execRidgeLost dt s
  | .splitDecision dt => Sys2Proof.Machine.execSplitDecision dt s
  | .fencePulse dt => Sys2Proof.Machine.execFencePulse dt s
  | .fencePartnerPulse dt => Sys2Proof.Machine.execFencePartnerPulse dt s
  | .fenceReleaseSeen dt => Sys2Proof.Machine.execFenceReleaseSeen dt s
  | .fenceOkTimeout dt => Sys2Proof.Machine.execFenceOkTimeout dt s
  | .pairCompareTimeout dt => Sys2Proof.Machine.execPairCompareTimeout dt s
  | .handoverSafeLevel dt => Sys2Proof.Machine.execHandoverSafeLevel dt s
  | .shadowSlip dt => Sys2Proof.Machine.execShadowSlip dt s
  | .heldSegmentTimeout dt p => Sys2Proof.Machine.execHeldSegmentTimeout dt p s
  | .rejoinLockTimeout dt => Sys2Proof.Machine.execRejoinLockTimeout dt s
  | .cfgSweep dt => Sys2Proof.Machine.execCfgSweep dt s
  | .cfgWindowLong dt => Sys2Proof.Machine.execCfgWindowLong dt s
  | .sramPatrol dt f => Sys2Proof.Machine.execSramPatrol dt f s
  | .sramRepair dt r => Sys2Proof.Machine.execSramRepair dt r s
  | .keelLockstep dt => Sys2Proof.Machine.execKeelLockstep dt s
  | .thermalSample dt temps => Sys2Proof.Machine.execThermalSample dt temps s
  | .thermalClear dt => Sys2Proof.Machine.execThermalClear dt s
  | .takeoverCopyDone dt => Sys2Proof.Machine.execTakeoverCopyDone dt s
  | .calCaptureDone dt coefs => Sys2Proof.Machine.execCalCaptureDone dt coefs s
  | .calApply dt => Sys2Proof.Machine.execCalApply dt s
  | .smbReadId => Sys2Proof.Machine.execSmbReadId s
  | .smbReadTj => Sys2Proof.Machine.execSmbReadTj s
  | .smbReadMode => Sys2Proof.Machine.execSmbReadMode s
  | .smbReadRstCause => Sys2Proof.Machine.execSmbReadRstCause s
  | .smbReset => Sys2Proof.Machine.execSmbReset s
  | .jtagReset => Sys2Proof.Machine.execJtagReset s
  | .alignLock dt l => Sys2Proof.Machine.execAlignLock dt l s
  | .signalDetect dt k => Sys2Proof.Machine.execSignalDetect dt k s
  | .blockLock dt k => Sys2Proof.Machine.execBlockLock dt k s
  | .malformed dt l => Sys2Proof.Machine.execMalformed dt l s
  | .uncorrectableCodeword dt l => Sys2Proof.Machine.execUncorrectableCodeword dt l s
  | .tableLoadCompletion dt src => Sys2Proof.Machine.execTableLoadCompletion dt src s
  | .tableReadCompletion dt => Sys2Proof.Machine.execTableReadCompletion dt s
  | .flashWriteCompletion dt ok src => Sys2Proof.Machine.execFlashWriteCompletion dt ok src s
  | .otpWriteCompletion dt => Sys2Proof.Machine.execOtpWriteCompletion dt s
  | .reservedLocationRead acc => Sys2Proof.Machine.execReservedLocationRead acc s
  | .ptpAnnounceTx dt => Sys2Proof.Machine.execPtpAnnounceTx dt s
  | .helloTx dt => Sys2Proof.Machine.execHelloTx dt s
  | .rowClose dt st pc bank => Sys2Proof.Machine.execRowClose dt st pc bank s
  | .porRelease dt => Sys2Proof.Machine.execPorRelease dt s
  | .tripRelease dt => Sys2Proof.Machine.execTripRelease dt s

end Sys2Proof.Machine
end

