-- ==== Sys2Proof/Machine/Step.lean ====
section
/-! DEFINITION. One step of the block: the command at the front of the queue is taken off it and runs; on an empty queue one TIO cycle
passes (log entry 1). -/

namespace Sys2Proof.Machine

/-- A block with no command waiting idles for one TIO cycle: only its clock moves (log entry 1). -/
def State.idle (s : State) : State := { s with dev := s.dev.elapse 1 }

/-- One step. -/
def step (s : State) : Host.Outcome State Fault Refusal :=
  match s.pending with
  | [] => .next s.idle
  | c :: rest => exec c { s with pending := rest }

/-- s with the command that a word spells put at the front of its queue; s itself where the word spells none. -/
def State.withFetchWord (s : State) (nbits w : Nat) : State :=
  match decodeTableWord nbits w with
  | none => s
  | some c => { s with pending := c :: s.pending }

end Sys2Proof.Machine
end

