-- ==== Sys2Proof/Safety.lean ====
section
/-! DEFINITION. What the statements call a state in which nothing is overdue, and the invariant of the machine's memories. -/

namespace Sys2Proof.Machine

/-- Nothing found in an earlier step is still due: no fatal error waits to reset the device (R494), no profile to be reported (R67), no block
to go idle (R466). -/
def Dev.calm (d : Dev) : Bool := !d.err.profileDue && !d.err.resetDue && d.rst.idle.isEmpty

/-- Every listed address lies below a bound. -/
def Mem.below (n : Nat) (m : Mem) : Bool := m.all (fun c => decide (c.1 < n))

/-- The bytes of the stacks are in canonical form, and every listed address lies in the stacks (R391). -/
def State.memOk (s : State) : Bool := s.hbm.wf hbmDefault && s.hbm.below hbmBytes

/-- What the block keeps for one step only is empty between steps. -/
def State.swept (s : State) : Bool := s.dev.hbmw.isEmpty && s.dev.hbmr.isEmpty && s.dev.hbmLost.isEmpty

/-- The invariant that every step keeps. -/
def State.ok (s : State) : Bool := s.memOk && s.swept

/-- The command makes a block d with P d: it answers a next state, the machine with d in it, once what falls due with it has been settled
(R494, R67, R466) and what it stores has reached the stacks. -/
def Makes (c : Instr) (s : State) (P : Dev → Prop) : Prop := ∃ d : Dev, exec c s = .next (s.put d.settle) ∧ P d

/-- Writes of the host to a unit's registers are not refused as a whole: the unit can be reached (R33), it is not locked (R484), and no pair is
established whose partner refuses mirrored registers (R441). -/
def Dev.takesWrites (d : Dev) (u : RUnit) : Bool := d.reachable u && !d.isLocked u && !d.established

/-- An error of this code changes nothing but the error merge point: its class is not FATAL, and ERR.MAP gives it neither SAFE nor RESET
(R494). -/
def Dev.plainErr (d : Dev) (code : Nat) : Bool :=
  errClass code ≠ 3 && !fbit (d.rd (a_ERR_MAP code)) f_ERR_MAP_SAFE && !fbit (d.rd (a_ERR_MAP code)) f_ERR_MAP_RESET

/-- A Ridge packet of this TYPE is the one awaited (R439): the pair logic is on, the link is up, no packet waits for one sent before it, and the
packet is valid with the RSEQ that its class expects. -/
def Dev.awaits (d : Dev) (typ : Nat) (pkt : List Byte) : Bool :=
  d.pairOn && d.ridgeUp && d.pair.early.isEmpty && ridgeOk typ pkt && ridgeSeq pkt == d.rxSeq (decide (0x90 ≤ typ))

/-- What the link keeps of a packet that it has delivered: the RSEQ expected next, and for a control packet when it was heard (R439, R440). -/
def Dev.afterPacket (d : Dev) (typ : Nat) : PairSt :=
  if 0x90 ≤ typ then { d.pair with rxBulk := d.pair.rxBulk + 1 } else { d.pair with rxCtl := d.pair.rxCtl + 1, heard := d.el }

/-- The Keel takes an envelope with this header and command and starts it at once, here alone (R335, R338, R342): it serves its mailboxes, its
firmware runs, the arguments lie in range, nothing holds the command back, and it is neither refused to a partner nor sent on to one. -/
def Dev.starts (d : Dev) (h : EnvHdr) (cmd : Cmd) : Bool :=
  d.keelServes && !d.keel.recovery && d.argsOk cmd && d.mayStart ⟨d.keel.nextId, h, cmd, d.el, none⟩ && d.keel.fwd.isEmpty &&
  !(cmd.needsAuthority && d.isPartner) && !(cmd.forwarded && d.sendsOn h)

/-- The command taken at s has ended at d (R333, R336, R346): its outcome is the last one kept, and unless QUIET left out an OK, a response with its
result goes to the response ring where that is an enabled item ring. -/
def Answered (s d : Dev) (h : EnvHdr) (cmd : Cmd) (status : Nat) (line : W64) (body : List Byte) : Prop :=
  d.keel.nextId = s.keel.nextId + 1 ∧
  d.keel.kept.head? = some ⟨h.mailbox, h.tag, BitVec.ofNat 16 cmd.opcode, BitVec.ofNat 16 status, line, s.keel.nextId⟩ ∧
  ((h.quiet = false ∨ status ≠ 0) → h.mailbox.val ≠ 15 → 16 ≤ s.rdF (a_MBX_CFG h.mailbox) f_MBX_CFG_RESP_RING →
    (s.ring (s.rdF (a_MBX_CFG h.mailbox) f_MBX_CFG_RESP_RING)).en = true → (s.ring (s.rdF (a_MBX_CFG h.mailbox) f_MBX_CFG_RESP_RING)).typ = 1 →
    ∃ st : Stamp, { RingItem.whole (s.rdF (a_MBX_CFG h.mailbox) f_MBX_CFG_RESP_RING) 8 (respBytes st cmd.opcode h status false line body) with
      mailbox := some h.mailbox } ∈ d.host.queue)

/-- The command taken at s is pending at d (R336), with the line of its effect. -/
def Pends (s d : Dev) (h : EnvHdr) (cmd : Cmd) (line : W64) : Prop :=
  d.keel.nextId = s.keel.nextId + 1 ∧ ⟨s.keel.nextId, h, cmd, line, s.el⟩ ∈ d.keel.pending

/-- Registers other than the mailbox counts that every command may move (R328, R331) are as they were. -/
def SameRegs (s d : Dev) (h : EnvHdr) : Prop := ∀ b, b ≠ a_MBX_MB_STAT h.mailbox → b ≠ a_MBX_STAT → d.rd b = s.rd b

end Sys2Proof.Machine
end

