-- ==== Sys2Proof/WellFormed.lean ====
section
/-! DEFINITION. Which commands can come from outside: what the spec's paths can carry. A bus access lies in its BAR and brings its data, an
envelope fits its length field, a packet is whole blocks. The meanings do not rely on it: they are total. -/

namespace Sys2Proof

/-- A memory access of the host: 1 to 64 bytes within BAR0 (16 MiB) or BAR2 (128 KiB), a write with all its data (R298, R299). -/
def BusAccess.wf (x : BusAccess) : Bool :=
  decide (1 ≤ x.size) && decide (x.size ≤ 64) && decide (x.addr + x.size ≤ if x.bar2 then 0x20000 else 0x1000000) &&
  (!x.write || decide (x.data.length = x.size))

/-- Whole 32-byte blocks, from the header of a packet up to 8,224 payload bytes (R134, R439). -/
def packetWf (p : List Byte) : Bool := decide (32 ≤ p.length) && decide (p.length ≤ 8256) && decide (p.length % 32 = 0)

/-- A job of an engine: it fits the stacks, and its client holds Thatch resources (R71, R277, R281). -/
def ThaJob.wf (j : ThaJob) : Bool := decide (j.dst + j.room ≤ 48 * 2 ^ 30) && decide (j.input.length < 2 ^ 32) && [5, 7, 11, 16, 17].contains j.client.val

/-- Fields of a PTP message that the wire holds in fewer values than their types (R370): the 64-bit signed correction. -/
def PtpMsg.wf (m : PtpMsg) : Bool := decide (-(2 ^ 63) ≤ m.correction) && decide (m.correction < 2 ^ 63)

/-- The command can come from outside. -/
def Instr.wf : Instr → Bool
  | .nop .. | .info .. | .cmdQuery .. | .modeSet .. | .rollNext .. | .loftExport .. | .tableLoad .. | .tableRead .. | .camRegRead .. => true
  | .regRead _ es => decide (32 + 8 + 8 * es.length ≤ 4064)
  | .regWrite _ es => decide (32 + 8 + 16 * es.length ≤ 4064)
  | .camRegWrite _ _ _ ws => decide (32 + 8 + 4 * ws.length ≤ 4064)
  | .viewReserve .. | .viewRelease .. | .hbmSetpoint .. | .hbmRetire .. | .fwStage .. | .fwSwap .. | .pipeTakeover .. | .laneRetrain .. => true
  | .partnerRejoin .. | .serviceAbort .. | .calRun .. | .calRead .. | .calStore .. | .cfgOpen .. | .cfgCommit .. | .nvWrite .. => true
  | .fuseProgram _ ls => decide (ls.length = 16)
  | .timeStep .. | .evtCommit .. | .pairHandover .. => true
  | .envelopeTake _ desc env => decide (desc.length = 16) && decide (env.length ≤ 4064)
  | .commandWaitStart .. | .commandTimeout .. | .fwSwapPause .. | .fwSwapReadyTimeout .. => true
  | .registerWrite acc => acc.wf && acc.write
  | .rcRead acc => acc.wf && !acc.write
  | .safeReq .. | .wpuCommit .. | .latchReq .. | .cmpClear .. | .dspCommit .. | .coefMark .. | .coefSwap .. | .cmClear .. => true
  | .cmpPush _ acc => acc.wf && acc.write
  | .repCaptureGo .. | .bankMark .. | .bankSwap .. | .rollNow .. | .loftFreeze .. | .loftResume .. | .tptRetrain .. | .swFire .. => true
  | .chCtrlWrite .. | .ttArm .. | .prGo .. | .prExit .. | .eyeGo .. | .blockRst .. | .devRst .. | .clkTimeoutRetry .. => true
  | .errAck .. | .fatalPendClear .. | .lockSet .. => true
  | .ringContextWrite acc => acc.wf && acc.write && !acc.bar2
  | .doorbell acc _ => acc.wf && acc.write && acc.bar2
  | .tblWindowAccess acc => acc.wf && !acc.bar2
  | .msixUnmask .. | .ripcordAssert .. | .ripcordRelease .. | .modeEntry .. | .reset .. | .supplyFault .. | .powerGood .. => true
  | .clockGood .. | .clockGoodLoss .. => true
  | .blockRelease _ _ senses => decide (senses.length ≤ 32)
  | .clkGoodTimeout .. | .idleTimeout .. | .optionLoadingDone .. | .fwBootDone .. => true
  | .hbmTrainingDone _ _ res => decide (1 ≤ res.raaimt) && decide (res.raaimt ≤ res.raammt)
  | .startupComplete .. | .quadStateChange .. | .indexEdge .. | .hallStateChange .. => true
  | .ssiFrame _ _ bits => decide (bits.length ≤ 66)
  | .tposExtrapolate .. | .standstill .. | .markerPulseStart .. | .markerPulseEnd .. | .strobePulseStart .. | .strobePulseEnd .. => true
  | .filterOutput .. | .coarseValue .. | .settleEnd .. | .dsmStuck .. => true
  | .lineSeg _ _ p => packetWf p
  | .cap _ _ p => packetWf p
  | .ack _ _ p => packetWf p
  | .regRsp _ _ p => packetWf p
  | .camEvent _ _ p => packetWf p
  | .echoRsp _ _ blk _ => decide (blk.length = 32)
  | .echoPeriodic .. | .camRequestTimeout .. | .lineSlotClose .. | .alignLoss .. | .bringupStepTimeout .. | .bringupPauseEnd .. => true
  | .receiverDetect .. | .trainingFrame .. | .laneLockLoss .. | .lanePllUnlock .. | .calBurstSend .. | .calBurstReceive .. => true
  | .laneBurstMiss .. | .adaptFreeze .. | .adaptResume .. | .eyeScanDone .. | .pipeLine .. | .mosaicLine .. | .loftFrozen .. => true
  | .seamUpdate .. | .lineLabel .. | .repmarkPosition .. | .mergeArrival .. | .mergeTimeoutRelease .. | .blobClassify .. => true
  | .courseCloseTimeout .. | .courseRecordSend .. | .pass2Done .. | .pass2Timeout .. | .cropCutStart .. | .cropPinExpiry .. => true
  | .cropEnd .. | .ringItemDeliver .. | .bufferFlush .. | .ringCoalesceTimer .. => true
  | .dmaCopy _ _ desc _ _ => decide (desc.length = 32)
  | .outboundStop .. | .outboundResume .. => true
  | .subscribe _ f => decide (f.payload.length ≤ 9000)
  | .renew _ f => decide (f.payload.length ≤ 9000)
  | .unsubscribe _ f => decide (f.payload.length ≤ 9000)
  | .viewLeaseExpiry .. | .viewFrame .. | .arpRequest .. => true
  | .icmpEcho _ _ f => decide (f.payload.length ≤ 9000)
  | .frameDiscard .. => true
  | .ptpSyncRx _ m => m.wf
  | .ptpFollowUpRx _ m => m.wf
  | .ptpDelayRespRx _ m => m.wf
  | .ptpAnnounceRx _ m => m.wf
  | .ptpDelayReqRx _ m => m.wf
  | .ptpSyncTx .. | .ptpDelayReqTx .. | .ptpAnnounceTimeout .. | .ppsInEdge .. | .ppsOutRise .. | .ppsOutFall .. => true
  | .timeTt .. | .timeSave .. | .holdover .. | .timeStepApply .. | .channelFire .. | .evioEdge .. | .evioPulseEnd .. => true
  | .evtRateWindow .. | .jctStall .. => true
  | .ballastWindow _ demand => decide (demand.length = 24)
  | .thatchJobStart _ _ job => job.wf
  | .thatchResume _ _ room => decide (room ≤ 48 * 2 ^ 30)
  | .thatchSave _ _ _ addr => decide (addr < 48 * 2 ^ 30)
  | .thatchRestore _ _ addr => decide (addr < 48 * 2 ^ 30)
  | .thatchJobEnd .. | .refresh .. | .hbmTempSample .. | .rfm .. | .powerDownEntry .. | .selfRefreshEntry .. => true
  | .selfRefreshExit .. | .pcZeroDone .. | .trackingStepP .. | .setpointRelock .. | .hbmScrub .. | .migrationDone .. => true
  | .hello _ p => packetWf p
  | .keep _ _ p => packetWf p
  | .lineDesc _ p => packetWf p
  | .mirror _ p => packetWf p
  | .envelopePacket _ p => packetWf p
  | .authOffer _ p => packetWf p
  | .authAccept _ p => packetWf p
  | .authRelease _ p => packetWf p
  | .authSafe _ p => packetWf p
  | .latch _ p => packetWf p
  | .pairLatchCapture .. => true
  | .ridgeRecord _ p => packetWf p
  | .xseg _ p => packetWf p
  | .syncData _ p => packetWf p
  | .timeSync _ _ p => packetWf p
  | .ridgeGap .. | .ridgeLost .. | .splitDecision .. | .fencePulse .. | .fencePartnerPulse .. | .fenceReleaseSeen .. => true
  | .fenceOkTimeout .. | .pairCompareTimeout .. | .handoverSafeLevel .. | .shadowSlip .. | .heldSegmentTimeout .. => true
  | .rejoinLockTimeout .. | .cfgSweep .. | .cfgWindowLong .. | .sramPatrol .. | .sramRepair .. | .keelLockstep .. => true
  | .thermalSample _ temps => decide (temps.length = 40)
  | .thermalClear .. | .takeoverCopyDone .. => true
  | .calCaptureDone _ coefs => decide (coefs.length ≤ 2 ^ 16)
  | .calApply .. | .signalDetect .. | .blockLock .. | .malformed .. => true
  | .alignLock _ l => l.what.all (fun b => decide (b.length = 32))
  | .uncorrectableCodeword _ l => decide (l.what.length = 544)
  | .tableLoadCompletion _ src => decide (src.length < 2 ^ 32)
  | .tableReadCompletion .. => true
  | .flashWriteCompletion _ _ src => decide (src.length < 2 ^ 32)
  | .otpWriteCompletion .. => true
  | .reservedLocationRead acc => acc.wf && !acc.write
  | .ptpAnnounceTx .. | .helloTx .. | .rowClose .. | .porRelease .. | .tripRelease .. => true
  | .smbReadId | .smbReadTj | .smbReadMode | .smbReadRstCause | .smbReset | .jtagReset => true

end Sys2Proof
end

