-- ==== Sys2Proof/Certificates/Slice0/Obligations.lean ====
section
/-! DEFINITION. The statements for the provers. `Makes c s P` (Safety) says that the command c answers a next state at s, made of a block with
P; the statements about the queue, `settle` and `put` say what that next state is. -/

open Sys2Proof Sys2Proof.Machine

/-! ### The machine as a whole -/

/-- A step of a block with commands waiting is exec of the first of them, on the machine with the queue's rest. -/
def Obligations.StepRunsFront : Prop :=
  ∀ (s : State) (c : Instr) (rest : List Instr), s.pending = c :: rest → step s = exec c { s with pending := rest }

/-- On an empty queue one TIO cycle passes and nothing but the clock changes: device time moves on by one cycle at RATE, while TIME is out of
reset (R359; that the block idles so is log entry 1). -/
def Obligations.IdleStep : Prop :=
  ∀ s : State, s.pending = [] →
    ∃ t, step s = .next t ∧ t.hbm = s.hbm ∧ t.pending = [] ∧ t.dev = { s.dev with clk := t.dev.clk } ∧
      t.dev.clk = { s.dev.clk with cyc := s.dev.clk.cyc + 1, acc := t.dev.clk.acc, el := t.dev.clk.el } ∧
      t.dev.clk.acc = (if s.dev.isHeld .time then s.dev.clk.acc else s.dev.clk.acc + BitVec.ofNat 112 (2 ^ 48 + s.dev.rate).toNat)

/-- Every command answers a next state, whatever the state and its operands, and leaves the queue as it was. -/
def Obligations.EveryCommandAnswers : Prop :=
  ∀ (c : Instr) (s : State), ∃ t, exec c s = .next t ∧ t.pending = s.pending

/-- Every step, from every state whose memory is in order, leaves the memory in order: the bytes of the stacks stay in canonical form and within
the 48 GiB of R391, and what a block keeps for one step is gone. -/
def Obligations.StepKeepsOk : Prop := ∀ s t : State, s.ok = true → step s = .next t → t.ok = true

/-- Where nothing is due, what a command makes of the block is what the next state holds: only the memory controllers, whose banks the
command's accesses to the stacks reach, can differ; without an access nothing differs. -/
def Obligations.NextStateOfBlock : Prop :=
  ∀ (s : State) (d : Dev), d.calm = true →
    (∃ m, (s.put d.settle).dev = { d with mem := m, hbmw := [], hbmr := [], hbmLost := [] }) ∧
    (d.hbmw = [] → d.hbmr = [] → d.hbmLost = [] → s.put d.settle = { s with dev := d })

/-- A byte stored in the stacks is read back, and every other byte reads as before. A step stores what the block's ranges hold and nothing else: a byte
outside every range reads as before, where nothing is lost. -/
def Obligations.StackBytes : Prop :=
  (∀ (m : Mem) (a : Nat) (b : Byte), m.wf hbmDefault = true →
      (m.write hbmDefault a b).read hbmDefault a = b ∧
      (∀ c, c ≠ a → (m.write hbmDefault a b).read hbmDefault c = m.read hbmDefault c) ∧ (m.write hbmDefault a b).wf hbmDefault = true) ∧
  (∀ (s : State) (d : Dev) (c : Nat), s.memOk = true → d.hbmLost = [] →
      (∀ w ∈ d.hbmw, c < w.1 ∨ w.1 + w.2.length ≤ c) → (s.put d).hbm.read hbmDefault c = s.hbm.read hbmDefault c)

/-- After power-on reset: device time and epoch are 0, AON retained memory is cleared, every merge point is empty, no SEQ has been used, the device is
starting, and the queue is empty. The invariant that StepKeepsOk keeps holds: the memory of the stacks is in order, and nothing is kept for a step.
What stands behind the registers and has no value in the spec is empty or 0 (log entries 2 and 5). -/
def Obligations.ResetState : Prop :=
  State.reset.ok = true ∧ State.reset.dev.clk.acc = 0 ∧ State.reset.dev.clk.epoch = 0 ∧ State.reset.dev.nextRst = [] ∧ State.reset.dev.aonUser = [] ∧
  (∀ i, (State.reset.dev.mrg.get i).held = [] ∧ (State.reset.dev.mrg.get i).fly = []) ∧ (∀ o, lget State.reset.dev.seqs o 0 = 0) ∧
  State.reset.dev.mode.starting = true ∧ State.reset.hbm = [] ∧ State.reset.pending = []

/-! ### Rules that every chapter shares -/

/-- What a write makes of one field, by its access code, where the field is not locked (R9): RW and LK take the value, RO and RC keep theirs, W1C clears
and W1S sets the bits written 1, WO takes the value, WOT takes it once; bits of other fields never change. A register that is set is read back, and
every other register keeps its value. -/
def Obligations.FieldsAndRegisters : Prop :=
  (∀ (x : FieldRow) (old new : W64) (first : Bool), 0 < x.fld.w → x.fld.lo + x.fld.w ≤ 64 →
      (let r := (writeField x (BitVec.allOnes 64) false first old new).1
       fget r x.fld = (match x.acc with
         | .rw | .lk | .wo => fget new x.fld
         | .ro | .rc => fget old x.fld
         | .w1c => fget old x.fld &&& (2 ^ x.fld.w - 1 - fget new x.fld)
         | .w1s => fget old x.fld ||| fget new x.fld
         | .wot => if first then fget new x.fld else fget old x.fld) ∧
       ∀ i < 64, i < x.fld.lo ∨ x.fld.lo + x.fld.w ≤ i → r.getLsbD i = old.getLsbD i)) ∧
  (∀ (d : Dev) (a : Nat) (v : W64), (d.wr a v).rd a = v ∧ (∀ b, b ≠ a → (d.wr a v).rd b = d.rd b) ∧
      (∀ b, (d.wr a v).inForce b = d.inForce b))

/-- R14: of two writes to one shadowed field, only the later value is left, whatever the first was; neither write moves what is in
force, so only that value can come into force. -/
def Obligations.ShadowedWrites : Prop :=
  (∀ (x : FieldRow) (old a b : W64) (first : Bool), x.eff ≠ .atOnce → x.acc = .rw ∨ x.acc = .lk → 0 < x.fld.w → x.fld.lo + x.fld.w ≤ 64 →
    (writeField x (BitVec.allOnes 64) false first (writeField x (BitVec.allOnes 64) false first old a).1 b).1 =
      (writeField x (BitVec.allOnes 64) false first old b).1) ∧
  (∀ (d : Dev) (a : Nat) (v w : W64), (d.wr a v).wr a w = d.wr a w ∧ (d.wr a w).rd a = w ∧ ∀ b, ((d.wr a v).wr a w).inForce b = d.inForce b)

/-- R84: rhe(x, k) is x / 2^k rounded half to even. -/
def Obligations.RoundHalfEven : Prop :=
  ∀ (x : Int) (k : Nat), 2 * (rhe x k * 2 ^ k - x).natAbs ≤ 2 ^ k ∧ (2 * (rhe x k * 2 ^ k - x).natAbs = 2 ^ k → 0 < k → rhe x k % 2 = 0)

/-- R38: stamps are ordered by the key (TIME, PAIR, ORIGIN, SEQ), the first three as unsigned integers, SEQ by serial arithmetic over 2^16; so of
two stamps with different keys exactly one precedes the other, and of two with one key neither does. -/
def Obligations.StampOrder : Prop :=
  ∀ x y : Stamp,
    x.precedes y = (if x.time ≠ y.time then decide (x.time.toNat < y.time.toNat) else if x.pair ≠ y.pair then decide (x.pair.toNat < y.pair.toNat)
      else if x.origin ≠ y.origin then decide (x.origin.toNat < y.origin.toNat)
      else let d := (y.seq - x.seq).toNat
        if d = 32768 then decide (x.seq.toNat < y.seq.toNat) else decide (1 ≤ d ∧ d ≤ 32767)) ∧
    (x.sameKey y = true → x.precedes y = false ∧ y.precedes x = false) ∧ (x.sameKey y = false → x.precedes y = !y.precedes x)

/-- R37: each stamp an origin makes takes the next SEQ of that origin, modulo 2^16; the SEQ of other origins does not move. -/
def Obligations.SeqPerOrigin : Prop :=
  ∀ (d : Dev) (o : Nat) (t : W64), o < d.seqs.length →
    (d.mkStamp o t).1.seq = lget d.seqs o 0 ∧ (d.mkStamp o t).1.time = t ∧ lget (d.mkStamp o t).2.seqs o 0 = lget d.seqs o 0 + 1 ∧
    (∀ p, p ≠ o → lget (d.mkStamp o t).2.seqs p 0 = lget d.seqs p 0)

/-- R39: a merge point releases from the front of its window, in key order, and stops as soon as fewer than 4,096 items are held and none of
them has waited 100 µs. -/
def Obligations.ReleaseFromFront : Prop :=
  ∀ (now : Nat) (held : List (Item × Nat)),
    (releaseLoop now held).1 ++ (releaseLoop now held).2.map (·.1) = held.map (·.1) ∧
    (releaseLoop now held).2.length < 4096 ∧ (∀ p ∈ (releaseLoop now held).2, now < p.2 + 100000)

/-- An error whose code is in the queue adds no entry, and the queue never grows beyond 64 entries (R497); an error that is not FATAL makes an entry for
the error merge point, with the code, its class and the origin's next SEQ, and changes nothing else (R494). -/
def Obligations.ErrorsReported : Prop :=
  (∀ (d : Dev) (e : ErrEntry), d.err.queue.length ≤ 64 →
      (d.joinErrors e).err.queue.length ≤ 64 ∧
      (d.err.queue.any (fun x => x.code = e.code) = true → (d.joinErrors e).err.queue.length = d.err.queue.length) ∧
      (d.err.queue.any (fun x => x.code = e.code) = false → d.err.queue.length < 64 → (d.joinErrors e).err.queue = d.err.queue ++ [e])) ∧
  (∀ (d : Dev) (code origin info : Nat), d.plainErr code = true → code ∉ [0x01, 0x02, 0x03, 0x43] →
      ∃ e : ErrEntry, d.reportErr code origin info =
          { d with seqs := lset d.seqs origin (lget d.seqs origin 0 + 1),
                   mrg := { d.mrg with err := { d.mrg.err with fly := d.mrg.err.fly ++ [⟨e.stamp, d.clk.epoch, .err e⟩] } } } ∧
        e.code = BitVec.ofNat 16 code ∧ e.cls = BitVec.ofNat 8 (errClass code) ∧ e.stamp = (d.mkStamp origin d.now).1 ∧
        e.info = BitVec.ofNat 64 info)

/-- An envelope carries its command whole: for every command whose lists fit an envelope, the bytes of the envelope are read back as that
command, with every operand. -/
def Obligations.EnvelopeRoundTrip : Prop :=
  ∀ (c : Cmd) (h : EnvHdr), (envBytes c h).length ≤ 4064 → (∀ ls, c = .fuseProgram ls → ls.length = 16) →
    readEnvelope (envBytes c h).length (envBytes c h) = .ok c ∧ envHeader h.mailbox (envBytes c h) = h

/-! ### Reset, clocks and start-up -/

/-- POWER_GOOD, POR_RELEASE, TRIP_RELEASE: the pins' levels reach the block. With RESET_N risen PRIMARY_STRAP is sampled, but after a reset of L2
(R533), option loading starts and the waits for clock-good begin (R461, R467); VAON in range ends POR with RESET_N still to rise (R530); below 95 °C the trip is released
and those waits begin (R543). Nothing else changes. CLOCK_GOOD and CLOCK_GOOD_LOSS (R27): the island's clock-good becomes true, or false at once, and no other island's
changes; the AON island's does not become false (R46). -/
def Obligations.PowerAndClocks : Prop :=
  ∀ (s : State) (dt : Nat),
    (∀ primary : Bool, s.dev.rst.pinLow = true → s.dev.rst.por = false →
      Makes (.powerGood dt primary) s (fun d => d = { s.dev.elapse dt with rst := { s.dev.rst with
        pinLow := false, primary := if s.dev.rst.level = 2 then s.dev.rst.primary else primary, optRun := true, held := s.dev.rst.held.map (fun p => (p.1, some (s.dev.elapse dt).el)) } })) ∧
    Makes (.porRelease dt) s (fun d => d = { s.dev.elapse dt with rst := { s.dev.rst with por := false, pinLow := true } }) ∧
    Makes (.tripRelease dt) s (fun d => d = { s.dev.elapse dt with rst := { s.dev.rst with
        trip := false, held := s.dev.rst.held.map (fun p => (p.1, some (s.dev.elapse dt).el)) } }) ∧
    (∀ i j : Fin 40,
      Makes (.clockGood dt i) s (fun d => d.clockGood j = (s.dev.clockGood j || decide (j = i))) ∧
      Makes (.clockGoodLoss dt i) s (fun d => d.clockGood j = (s.dev.clockGood j && !decide (j = i ∧ i ≠ 0))))

/-- R502: on a disagreement of its cores the device copies KEEL_LOCKSTEP (0x03) to ERR.LAST_FATAL and asserts reset source KEEL_LOCKSTEP at its fuse
level; a reset of level 2 or 3 is then the one of R463, and ERR.LAST_FATAL survives it. -/
def Obligations.KeelLockstepResets : Prop :=
  ∀ (s : State) (dt : Nat),
    Makes (.keelLockstep dt) s (fun d => ∃ (x : Dev) (e : ErrEntry), x.err.lastFatal = some e ∧ e.code = 0x03 ∧
      x.levelOf .keelLockstep = s.dev.levelOf .keelLockstep ∧ d = x.assertReset .keelLockstep) ∧
    (∀ l : Nat, s.dev.levelOf .keelLockstep = l → 2 ≤ l → l < 4 → s.dev.resetWaits = false → Makes (.keelLockstep dt) s (fun d =>
      d.rst.level = max s.dev.rst.level l ∧ d.mode.starting = true ∧ (∀ u ∈ wideScope l, d.isHeld u = true) ∧
      ∃ e : ErrEntry, d.err.lastFatal = some e ∧ e.code = 0x03))

/-- RESET, SUPPLY_FAULT, SMB_RESET and JTAG_RESET at level 2 or 3 (R463, R464): start-up begins again, the level is the one in the fuse
table in force, and every unit of the scope is held in reset; RST_CAUSE names level and source. A reset of no higher level than one that is still
asserted is absorbed into it, and SOURCES records it (R465). IDLE_TIMEOUT (R466): a unit that has not become idle by its deadline is held in reset,
and waits no longer. -/
def Obligations.ResetsTake : Prop :=
  (∀ (s : State) (dt : Nat),
      (∀ (src : ResetSrc) (l : Nat), s.dev.levelOf src = l → 2 ≤ l → l < 4 → s.dev.resetWaits = false → Makes (.reset dt src) s (fun d =>
        d.rst.level = max s.dev.rst.level l ∧ d.rdF a_DEV_RST_CAUSE f_DEV_RST_CAUSE_LAST_LEVEL = l ∧
        d.rdF a_DEV_RST_CAUSE f_DEV_RST_CAUSE_LAST_SRC = srcNum src ∧ d.mode.starting = true ∧ ∀ u ∈ wideScope l, d.isHeld u = true)) ∧
      (∀ (io : Bool) (l : Nat), s.dev.levelOf (if io then .ioSupply else .corePg) = l → 2 ≤ l → l < 4 → s.dev.resetWaits = false →
        Makes (.supplyFault dt io) s (fun d => d.rst.level = max s.dev.rst.level l ∧ d.rst.pinLow = true ∧ d.mode.starting = true ∧
          ∀ u ∈ wideScope l, d.isHeld u = true)) ∧
      (∀ l : Nat, s.dev.levelOf .smbus = l → 2 ≤ l → l < 4 → s.dev.resetWaits = false → Makes .smbReset s (fun d =>
        d.rst.level = max s.dev.rst.level l ∧ d.mode.starting = true ∧ ∀ u ∈ wideScope l, d.isHeld u = true)) ∧
      (∀ l : Nat, s.dev.levelOf .jtag = l → 2 ≤ l → l < 4 → s.dev.resetWaits = false → Makes .jtagReset s (fun d =>
        d.rst.level = max s.dev.rst.level l ∧ d.mode.starting = true ∧ ∀ u ∈ wideScope l, d.isHeld u = true)) ∧
      (∀ src : ResetSrc, s.dev.resetWaits = true → 2 ≤ s.dev.levelOf src → s.dev.levelOf src < 4 → s.dev.levelOf src ≤ s.dev.rst.level →
        Makes (.reset dt src) s (fun d => d.rst.level = s.dev.rst.level ∧ d.rst.held = s.dev.rst.held ∧ d.mode = s.dev.mode ∧
          (d.rdF a_DEV_RST_CAUSE f_DEV_RST_CAUSE_SOURCES).testBit (srcNum src) = true ∧
          d.rdF a_DEV_RST_CAUSE f_DEV_RST_CAUSE_BOOTS = s.dev.rdF a_DEV_RST_CAUSE f_DEV_RST_CAUSE_BOOTS))) ∧
  (∀ (s : State) (dt : Nat) (u : RUnit) (q : IdleReq), q ∈ s.dev.rst.idle → q.unit = u → q.deadline ≤ (s.dev.elapse dt).el →
      Makes (.idleTimeout dt u) s (fun d => d.isHeld u = true ∧ d.rst.idle = s.dev.rst.idle.filter (fun p => p.unit ≠ u)))

/-- BLOCK_RELEASE (R467): a unit whose reset has ended, whose islands have clock-good and for which option loading is done, is not held any
more; no other unit is released or reset by it. CLK_GOOD_TIMEOUT: 10 ms after a reset ended with clock-good still false, the island's bit of
RST.CLK_TIMEOUT is set and RESET_CLK_TIMEOUT (0x13) reported; the units stay in reset. -/
def Obligations.ReleaseAndTimeout : Prop :=
  ∀ (s : State) (dt : Nat),
    (∀ (u v : RUnit) (senses : List Bool), (s.dev.elapse dt).releasable u = true →
      Makes (.blockRelease dt u senses) s (fun d => d.isHeld v = (s.dev.isHeld v && decide (v ≠ u)))) ∧
    (∀ (i : Fin 40) (u : RUnit) (t : Nat), (u, some t) ∈ s.dev.rst.held → u.islands.contains i.val = true → t + 10000000 ≤ (s.dev.elapse dt).el →
      s.dev.clockGood i = false → (s.dev.rdF a_RST_CLK_TIMEOUT f_RST_CLK_TIMEOUT_TIMEOUT).testBit i = false → s.dev.plainErr 0x13 = true →
      Makes (.clkGoodTimeout dt i) s (fun d => d.rst = s.dev.rst ∧
        d.rdF a_RST_CLK_TIMEOUT f_RST_CLK_TIMEOUT_TIMEOUT = (s.dev.rdF a_RST_CLK_TIMEOUT f_RST_CLK_TIMEOUT_TIMEOUT ||| 2 ^ i.val) ∧
        d.mrg.err.fly.length = s.dev.mrg.err.fly.length + 1))

/-- STARTUP_COMPLETE (R480 step 8, R58): once option loading, firmware and both stacks are done, STARTING becomes 0 and the mode is STANDBY, or
SAFE_HOLD with the cause that start-up met. FW_BOOT_DONE (R475): the Keel runs the image of BOOT_BANK where it passes,
else the other one where that passes, the bank in force then being verified; else the recovery monitor. -/
def Obligations.StartupEnds : Prop :=
  ∀ (s : State) (dt : Nat),
    (s.dev.mode.starting = true → s.dev.rdB a_CFG_OPT_STAT f_CFG_OPT_STAT_DONE = true → s.dev.rst.fwDone = true → s.dev.rst.hbmDone.all id = true →
      Makes (.startupComplete dt) s (fun d => d.mode.starting = false ∧
        d.mode.cur = (if s.dev.mode.bootCause.isSome then .safeHold else .standby) ∧ d.mode.safeCause = s.dev.mode.bootCause.getD 0)) ∧
    (∀ b : FwBoot, s.dev.mode.starting = true → s.dev.rdB a_CFG_OPT_STAT f_CFG_OPT_STAT_DONE = true → s.dev.rst.fwDone = false →
      let first := fwCheck ((if b.bootB then b.imgB else b.imgA).take (512 + leAt (if b.bootB then b.imgB else b.imgA) 16 4))
      let second := fwCheck ((if b.bootB then b.imgA else b.imgB).take (512 + leAt (if b.bootB then b.imgA else b.imgB) 16 4))
      Makes (.fwBootDone dt b) s (fun d => d.rst.fwDone = true ∧ d.keel.bankInB = (if first ≠ 0 ∧ second = 0 then !b.bootB else b.bootB) ∧
        d.keel.recovery = decide (first ≠ 0 ∧ second ≠ 0) ∧ d.keel.now.verified = !d.keel.recovery ∧
        (first ≠ 0 → second = 0 → d.rdB a_CFG_OPT_STAT f_CFG_OPT_STAT_FW_FALLBACK = true)))

/-! ### Modes, the ripcord, ballast, temperatures, SMBus -/

/-- RIPCORD_ASSERT and SAFE_REQ (R63, R64): SAFE_HOLD is entered, with cause 1 or 3 where it was not in force; RIPCORD_RELEASE (R62, R65): the
level alone changes, SAFE_HOLD stays. -/
def Obligations.SafeHoldEntered : Prop :=
  ∀ (s : State) (dt : Nat), s.dev.mode.starting = false →
    (s.dev.mode.ripcord = true → Makes (.ripcordAssert dt) s (fun d => d.mode.ripcord = false ∧ d.mode.cur = .safeHold ∧
      d.mode.safeCause = (if s.dev.mode.cur = .safeHold then s.dev.mode.safeCause else 1))) ∧
    (∀ data : W32, data.getLsbD 0 = true → Makes (.safeReq data) s (fun d => d.mode.cur = .safeHold ∧ d.mode.ripcord = s.dev.mode.ripcord ∧
      d.mode.safeCause = (if s.dev.mode.cur = .safeHold then s.dev.mode.safeCause else 3))) ∧
    Makes (.ripcordRelease dt) s (fun d => d = { s.dev.elapse dt with mode := { s.dev.mode with ripcord := true } })

/-- MODE_ENTRY (R52): a change accepted in STANDBY brings its target into force, a change from SAFE_HOLD to STANDBY brings STANDBY where the ripcord
is high and no fatal cause remains; the change is pending no longer and SAFE_CAUSE is cleared with SAFE_HOLD. -/
def Obligations.ModeEntered : Prop :=
  ∀ (s : State) (dt : Nat) (p : ModePend), s.dev.mode.pend = some p → p.line = none → s.dev.mode.starting = false →
    (s.dev.mode.cur = .safeHold → p.target = .standby → s.dev.safeClear = true →
      Makes (.modeEntry dt) s (fun d => d.mode.cur = .standby ∧ d.mode.pend = none ∧ d.mode.safeCause = 0)) ∧
    (s.dev.mode.cur = .standby →
      Makes (.modeEntry dt) s (fun d => d.mode.cur = p.target ∧ d.mode.pend = none ∧ d.mode.safeCause = s.dev.mode.safeCause))

/-- BALLAST_WINDOW (R66, R69, R70): where nothing has been used yet and nothing waits for budget, every reserved client asks for no more than its
budget, of an HBM budget half from each stack, and no best-effort client asks for anything, no client stalls and nothing is counted; the round-robin
start moves on by one client, and the budgets are renewed. JCT_STALL (R30): the island's bit is set and JCT_STALL (0x11)
reported, once. That the start of the round moves by one client is log entry 62. -/
def Obligations.WindowsAndJunctions : Prop :=
  ∀ (s : State) (dt : Nat),
    (∀ w : List Demand, s.dev.isHeld .bal = false → (s.dev.mode.starting = true ∨ s.dev.mode.cur.acquiring = true) → w.length = 24 →
      s.dev.bal.used = [] → s.dev.bal.short = [] → (∀ e < 16, (s.dev.engine e).job = none) → s.dev.cls.crops = [] → s.dev.cls.exp = none →
      s.dev.cls.rec_.unread = [] → s.dev.views = [] →
      (∀ c < 11, let x := lget w c ⟨0, 0, 0, 0, 0⟩
        2 * x.hbm0 ≤ s.dev.rdF (a_BAL_ACTIVE c) f_BAL_PROFILE_HBM + 1 ∧ 2 * x.hbm1 ≤ s.dev.rdF (a_BAL_ACTIVE c) f_BAL_PROFILE_HBM ∧
        x.tha ≤ s.dev.rdF (a_BAL_ACTIVE c) f_BAL_PROFILE_THA ∧
        x.keel ≤ s.dev.rdF (a_BAL_ACTIVE c) f_BAL_PROFILE_KEEL ∧ x.dma ≤ s.dev.rdF (a_BAL_ACTIVE c) f_BAL_PROFILE_DMA) →
      (∀ c, 11 ≤ c → lget w c ⟨0, 0, 0, 0, 0⟩ = ⟨0, 0, 0, 0, 0⟩) →
      Makes (.ballastWindow dt w) s (fun d => d = { s.dev.elapse dt with
        bal := { s.dev.bal with rr := if s.dev.bal.rr = 23 then 11 else s.dev.bal.rr + 1, window := (s.dev.elapse dt).el / 1024, used := [], short := [] } })) ∧
    (∀ i : Fin 40, (s.dev.rdF a_DEV_JCT_STALL f_DEV_JCT_STALL_STALLED).testBit i = false → s.dev.plainErr 0x11 = true →
      Makes (.jctStall dt i) s (fun d => (d.rdF a_DEV_JCT_STALL f_DEV_JCT_STALL_STALLED).testBit i = true ∧
        d.mrg.err.fly.length = s.dev.mrg.err.fly.length + 1 ∧ d.mode = s.dev.mode)) ∧
    (∀ i : Fin 40, (s.dev.rdF a_DEV_JCT_STALL f_DEV_JCT_STALL_STALLED).testBit i = true → Makes (.jctStall dt i) s (fun d => d = s.dev.elapse dt))

/-- THERMAL_SAMPLE (R542): with every sensor at one valid temperature t, below all thresholds and below the 110 °C of the trip, THM.TJ shows t and no
sensor counts as invalid; every sensor's register shows it, valid. THERMAL_CLEAR (R543): a condition whose threshold Tj has stayed 3 °C below for 1 s
is cleared, one whose time has not come stays. SMB_READ_ID, SMB_READ_TJ, SMB_READ_MODE, SMB_READ_RST_CAUSE (R541): the bytes answered, least
significant first; the block does not change in any other way. That SMBus answers unless POR is asserted is log entry 95. -/
def Obligations.TemperaturesAndSmbus : Prop :=
  (∀ (s : State) (dt : Nat), s.dev.isHeld .thm = false →
      (∀ t : BitVec 16, -5120 ≤ t.toInt → (∀ k < 3, t.toInt < lget s.dev.thresholds k 0) → s.dev.thm.read = false →
        Makes (.thermalSample dt (List.replicate 40 t)) s (fun d => d.rdF a_THM_TJ f_THM_TJ_TJ = t.toNat ∧
          d.rdF a_THM_STAT f_THM_STAT_INVALID = 0 ∧ (∀ i < 40, d.rdF (a_THM_TEMP i) f_THM_TEMP_T = t.toNat ∧ d.rdB (a_THM_TEMP i) f_THM_TEMP_VALID = true) ∧
          d.mrg = s.dev.mrg)) ∧
      Makes (.thermalClear dt) s (fun d => ∀ k < 3, d.rdB a_THM_STAT (thmBit k) =
        (s.dev.rdB a_THM_STAT (thmBit k) && !(match lget s.dev.thm.below k none with | some t => decide (t + 1000000000 ≤ (s.dev.elapse dt).el) | none => false)))) ∧
  (∀ s : State, s.dev.rst.por = false →
      Makes .smbReadId s (fun d => d = (s.dev.elapse 0).emit (.smbus (leBytes 4 (s.dev.rd a_DEV_ID).toNat))) ∧
      Makes .smbReadTj s (fun d => d = (s.dev.elapse 0).emit (.smbus (leBytes 2
        (if s.dev.reachable .thm && s.dev.thm.read then s.dev.rdF a_THM_TJ f_THM_TJ_TJ else 0x8000)))) ∧
      Makes .smbReadMode s (fun d => d = (s.dev.elapse 0).emit (.smbus [BitVec.ofNat 8 (s.dev.modeReg.toNat / 2 ^ 11)])) ∧
      Makes .smbReadRstCause s (fun d => d = (s.dev.elapse 0).emit (.smbus (leBytes 4 (s.dev.rd a_DEV_RST_CAUSE).toNat))))

/-! ### The event router and the merge points -/

/-- EVIO_EDGE and EVIO_PULSE_END (R384): an input takes a level that differs from the accepted one, and only that pin changes; at the end of a pulse
the pin goes to its safe level and is no longer timed. -/
def Obligations.EventPins : Prop :=
  ∀ (s : State) (dt : Nat) (n : Fin 32), s.dev.evt.evio.length = 32 →
    (∀ (level : Bool) (k : Nat), s.dev.isHeld .evt = false → s.dev.evioOut n = false → (s.dev.evioSt n).level ≠ level →
      s.dev.inF (a_EVT_EVIO_CFG n) f_EVT_EVIO_CFG_FILT < k → Makes (.evioEdge dt n ⟨level, k⟩) s (fun d =>
        d.evioSt n = { s.dev.evioSt n with level := level } ∧ (∀ m, m ≠ n.val → d.evioSt m = s.dev.evioSt m) ∧
        d.regs = s.dev.regs ∧ d.out = s.dev.out)) ∧
    (∀ e : Nat, (s.dev.evioSt n).until_ = some e → e ≤ (s.dev.elapse dt).el →
      Makes (.evioPulseEnd dt n) s (fun d => d.evioSt n = { s.dev.evioSt n with active := false, until_ := none } ∧
        d.out = s.dev.out ++ [.pin (.evio n) ((s.dev.elapse dt).restLevel (s.dev.evioJoined n) (s.dev.evioSafe n))] ∧ d.regs = s.dev.regs))

/-- CHANNEL_FIRE (R380, R388): the events that reached the channel in the oldest cycle make one firing. FIRE_CNT counts it, the stamp of origin 22
takes the next SEQ, and those events wait no more. Where one interrupt input alone selects the channel, its bit of IRQ_PEND is set (R389). -/
def Obligations.ChannelFires : Prop :=
  ∀ (s : State) (dt : Nat) (c : Fin 256) (e : DueEvt), s.dev.evt.due.find? (fun x => x.chan = c.val) = some e →
    (s.dev.elapse dt).el < s.dev.evt.winAt + 100000 → s.dev.rdF (a_EVT_CH_CTRL c) f_EVT_CH_CTRL_LIMIT = 0 →
    ((∀ i ∈ s.dev.conInputs, selects (s.dev.inForce (a_EVT_CON_SEL i)) c = false) →
      Makes (.channelFire dt c) s (fun d =>
        d.rdF (a_EVT_CH_STAT c) f_EVT_CH_STAT_FIRE_CNT = min (s.dev.rdF (a_EVT_CH_STAT c) f_EVT_CH_STAT_FIRE_CNT + 1) 0xFFFFFFFF ∧
        d.evt.due = s.dev.evt.due.filter (fun x => !(x.chan = c.val && x.cycle = e.cycle)) ∧ d.seqs = lset s.dev.seqs 22 (lget s.dev.seqs 22 0 + 1))) ∧
    (∀ k : Fin 32, s.dev.conInputs = [64 + k.val] → selects (s.dev.inForce (a_EVT_CON_SEL (64 + k.val))) c = true →
      s.dev.evt.fired = [] → (s.dev.rdF a_EVT_IRQ_PEND f_EVT_IRQ_PEND_PEND).testBit k = false →
      Makes (.channelFire dt c) s (fun d => (d.rdF a_EVT_IRQ_PEND f_EVT_IRQ_PEND_PEND).testBit k = true))


/-- SW_FIRE and CH_CTRL_WRITE (R381, R387): a channel that is enabled, allows software firing and is not the Keel's has an event to fire; a write of
CH_CTRL with no storm in force sets EN, LIMIT and STORM_WIN as written. EVT_RATE_WINDOW (R387): the windows that have passed end; a channel that has
dropped firings in STORM_WIN windows running is turned off, with STORM set. That the guard is judged at the end of a window is log entry 84. -/
def Obligations.RouterControl : Prop :=
  (∀ s : State, s.dev.takesWrites .evt = true →
    (∀ (data : W32) (c : Nat), fget (data.setWidth 64) f_EVT_SW_FIRE_CHANNEL = c → s.dev.inB (a_EVT_CH_SRC c) f_EVT_CH_SRC_SW_OK = true →
      s.dev.rdB (a_EVT_CH_SRC c) f_EVT_CH_SRC_OWNER = false → s.dev.rdB (a_EVT_CH_CTRL c) f_EVT_CH_CTRL_EN = true →
      Makes (.swFire data) s (fun d => d.evt.due = s.dev.evt.due ++ [⟨c, none, s.dev.now, s.dev.clk.epoch, s.dev.clk.cyc⟩])) ∧
    (∀ (c : Fin 256) (data : W32), c.val < 240 → s.dev.rdB (a_EVT_CH_CTRL c) f_EVT_CH_CTRL_STORM = false →
      Makes (.chCtrlWrite c data) s (fun d =>
        d.rdB (a_EVT_CH_CTRL c) f_EVT_CH_CTRL_EN = fbit (data.setWidth 64) f_EVT_CH_CTRL_EN ∧
        d.rdF (a_EVT_CH_CTRL c) f_EVT_CH_CTRL_LIMIT = fget (data.setWidth 64) f_EVT_CH_CTRL_LIMIT ∧
        d.rdF (a_EVT_CH_CTRL c) f_EVT_CH_CTRL_STORM_WIN = fget (data.setWidth 64) f_EVT_CH_CTRL_STORM_WIN ∧
        d.rdB (a_EVT_CH_CTRL c) f_EVT_CH_CTRL_STORM = false))) ∧
  (∀ (s : State) (dt : Nat), s.dev.evt.winAt + 100000 ≤ (s.dev.elapse dt).el →
    (s.dev.evt.rate = [] → Makes (.evtRateWindow dt) s (fun d => d = { s.dev.elapse dt with
      evt := { s.dev.evt with winAt := s.dev.evt.winAt + ((s.dev.elapse dt).el - s.dev.evt.winAt) / 100000 * 100000 } })) ∧
    (∀ (c : Fin 256) (x : RateSt), s.dev.evt.rate = [(c.val, x)] → x.dropped = true → s.dev.rdF (a_EVT_CH_CTRL c) f_EVT_CH_CTRL_LIMIT ≠ 0 →
      max 1 (s.dev.rdF (a_EVT_CH_CTRL c) f_EVT_CH_CTRL_STORM_WIN) ≤ x.run + 1 → s.dev.plainErr 0x24 = true →
      Makes (.evtRateWindow dt) s (fun d => d.rdB (a_EVT_CH_CTRL c) f_EVT_CH_CTRL_EN = false ∧ d.rdB (a_EVT_CH_CTRL c) f_EVT_CH_CTRL_STORM = true ∧
        d.mrg.err.fly.length = s.dev.mrg.err.fly.length + 1)))

/-- MERGE_ARRIVAL and MERGE_TIMEOUT_RELEASE (R39 to R41): an item of the epoch in force, neither duplicate nor before what was released, is held in key
order while release is not due; while a time step is awaited it is passed on at once; one whose key precedes the last released is never held and is
counted; ring items whose release is due go to their rings in the order of the window. -/
def Obligations.MergePoints : Prop :=
  ∀ (s : State) (dt : Nat) (m : MergeId),
    (∀ (x : Item) (rest : List Item), s.dev.isHeld (mergeUnit m) = false → (s.dev.mrg.get m).fly = x :: rest → x.epoch = s.dev.clk.epoch →
      (s.dev.mrg.get m).held.any (fun p => p.1.stamp.sameKey x.stamp) = false →
      (s.dev.mrg.get m).gone.any (fun st => st.sameKey x.stamp) = false →
      (∀ st, (s.dev.mrg.get m).last = some st → x.stamp.precedes st = false) → s.dev.clk.step = none →
      releaseDue (holdSorted (x, (s.dev.elapse dt).el) (s.dev.mrg.get m).held) (s.dev.elapse dt).el = false →
      Makes (.mergeArrival dt m) s (fun d => (d.mrg.get m).fly = rest ∧
        (d.mrg.get m).held = holdSorted (x, (s.dev.elapse dt).el) (s.dev.mrg.get m).held ∧ (d.mrg.get m).last = (s.dev.mrg.get m).last ∧
        d.host = s.dev.host)) ∧
    (∀ (x : Item) (r : RingItem) (rest : List Item), s.dev.isHeld (mergeUnit m) = false → (s.dev.mrg.get m).fly = x :: rest →
      x.payload = .ring r → x.epoch = s.dev.clk.epoch → s.dev.clk.step.isSome = true → (s.dev.mrg.get m).held = [] →
      (s.dev.mrg.get m).gone.any (fun st => st.sameKey x.stamp) = false →
      (∀ st, (s.dev.mrg.get m).last = some st → x.stamp.precedes st = false) →
      Makes (.mergeArrival dt m) s (fun d => (d.mrg.get m).held = [] ∧ d.host.queue = s.dev.host.queue ++ [r] ∧
        (d.mrg.get m).last = some x.stamp ∧ d.regs = s.dev.regs)) ∧
    (∀ (x : Item) (r : RingItem) (rest : List Item) (st : Stamp), s.dev.isHeld (mergeUnit m) = false →
      (s.dev.mrg.get m).fly = x :: rest → x.payload = .ring r → (s.dev.mrg.get m).last = some st → x.stamp.precedes st = true →
      (s.dev.mrg.get m).held.any (fun p => p.1.stamp.sameKey x.stamp) = false →
      (s.dev.mrg.get m).gone.any (fun st => st.sameKey x.stamp) = false →
      Makes (.mergeArrival dt m) s (fun d => (d.mrg.get m).held = (s.dev.mrg.get m).held ∧ (d.mrg.get m).last = some st ∧
        d.rdF (mrgStat m) f_MOS_MRG_STAT_LATE_CNT =
          min (s.dev.rdF (mrgStat m) f_MOS_MRG_STAT_LATE_CNT + 1) (2 ^ f_MOS_MRG_STAT_LATE_CNT.w - 1))) ∧
    (∀ rs : List RingItem, (s.dev.mrg.get m).held.map (fun p => p.1.payload) = rs.map .ring →
      Makes (.mergeTimeoutRelease dt m) s (fun d =>
        d.host.queue = s.dev.host.queue ++ rs.take (releaseLoop (s.dev.elapse dt).el (s.dev.mrg.get m).held).1.length ∧
        (d.mrg.get m).held = (releaseLoop (s.dev.elapse dt).el (s.dev.mrg.get m).held).2))

/-! ### Integrity: the configuration CRC, the SRAM, the error queue -/

/-- CFG_SWEEP and CFG_WINDOW_LONG (R490, R493): a sweep keeps the CRC it has computed in LAST and sets MISMATCH where no window is open and the CRC is
not the reference; a window that has been open for longer than WIN_MAX_S is reported, once. -/
def Obligations.ConfigurationSweep : Prop :=
  ∀ (s : State) (dt : Nat),
    (s.dev.reachable .cfg = true → s.dev.coveredReachable = true → s.dev.err.sweepAt + 1000000 ≤ (s.dev.elapse dt).el → s.dev.plainErr 0x05 = true →
      Makes (.cfgSweep dt) s (fun d => d.rdF a_CFG_CRC_STAT f_CFG_CRC_STAT_LAST = s.dev.configCrc % 2 ^ 32 ∧
        d.rdB a_CFG_CRC_STAT f_CFG_CRC_STAT_MISMATCH = (s.dev.rdB a_CFG_CRC_STAT f_CFG_CRC_STAT_MISMATCH ||
          (s.dev.err.winOpen.isNone && s.dev.configCrc ≠ s.dev.rdF a_CFG_CRC_REF f_CFG_CRC_REF_V)) ∧
        d.err.sweepAt = (s.dev.elapse dt).el)) ∧
    (∀ t : Nat, s.dev.err.winOpen = some t → s.dev.rdF a_CFG_CRC_CTRL f_CFG_CRC_CTRL_WIN_MAX_S ≠ 0 → s.dev.err.winLong = false →
      t + s.dev.rdF a_CFG_CRC_CTRL f_CFG_CRC_CTRL_WIN_MAX_S * 1000000000 < (s.dev.elapse dt).el → s.dev.plainErr 0x2E = true →
      Makes (.cfgWindowLong dt) s (fun d => d.err.winLong = true ∧ d.mrg.err.fly.length = s.dev.mrg.err.fly.length + 1 ∧ d.regs = s.dev.regs))

/-- SRAM_PATROL and SRAM_REPAIR (R500, R501, R516): a clean word ends the report of its address; a word found uncorrectable is kept as reported and,
in an array that has spares and is not the firmware bank in force, its repair awaited; at its safe instant an array with a spare left gets its repair
and awaits it no more. One repair awaits for an array (log entry 93). -/
def Obligations.SramPatrolAndRepair : Prop :=
  ∀ (s : State) (dt : Nat),
    (∀ (u : RUnit) (a : BitVec 36) (st : SramStore), s.dev.isHeld u = false →
      Makes (.sramPatrol dt ⟨u, a, 0, st⟩) s (fun d => d = { s.dev.elapse dt with
        cal := { s.dev.cal with ues := s.dev.cal.ues.filter (fun k => k ≠ (u, a.toNat)) } })) ∧
    (∀ (u : RUnit) (a : BitVec 36) (st : SramStore), s.dev.isHeld u = false → (u, a.toNat) ∉ s.dev.cal.ues → st ≠ .fwBankInForce → st ≠ .other →
      s.dev.plainErr 0x06 = true →
      Makes (.sramPatrol dt ⟨u, a, 2, st⟩) s (fun d => (u, a.toNat) ∈ d.cal.ues ∧ d.cal.pendRep.any (fun p => p.1 = u && p.2.1 = st) = true ∧
        d.mrg.err.fly.length = s.dev.mrg.err.fly.length + 1)) ∧
    (∀ (r : SramRepair) (p : RUnit × SramStore × W32), s.dev.cal.pendRep.find? (fun p => p.1 = r.unit && p.2.1 = r.store) = some p →
      r.store ≠ .fwBankInForce → s.dev.cal.repairs.length < (storeKind r.store).2 →
      Makes (.sramRepair dt r) s (fun d => p ∉ d.cal.pendRep ∧
        d.cal.repairs = s.dev.cal.repairs ++ [repairEntry r.unit (storeKind r.store).1 r.row.toNat]))

/-- ERR_ACK and FATAL_PEND_CLEAR (R497, R499): a 1 in ACK retires the current error and the next becomes current; a 1 in FATAL_PEND clears it where no
fatal condition lasts, and does not where one does or where the device has set it in the same cycle (R10). -/
def Obligations.ErrorAcknowledged : Prop :=
  ∀ s : State, s.dev.takesWrites .err = true → s.dev.plainErr 0x0D = true →
    (∀ data : W64, fbit data f_ERR_STAT_ACK = true → fbit data f_ERR_STAT_FATAL_PEND = false →
      Makes (.errAck data) s (fun d => d.err.queue = s.dev.err.queue.drop 1 ∧ d.err.fatalCodes = s.dev.err.fatalCodes)) ∧
    (∀ data : W64, fbit data f_ERR_STAT_ACK = false → fbit data f_ERR_STAT_FATAL_PEND = true → s.dev.rdB a_ERR_STAT f_ERR_STAT_FATAL_PEND = true →
      Makes (.fatalPendClear data) s (fun d => d.err.queue = s.dev.err.queue ∧
        d.rdB a_ERR_STAT f_ERR_STAT_FATAL_PEND = (fbit (masksAt s.dev.cycle.flags a_ERR_STAT) f_ERR_STAT_FATAL_PEND ||
          s.dev.err.fatalCodes.any s.dev.fatalHolds)))

/-! ### Registers, tables and rings, as the host reaches them -/

/-- REGISTER_WRITE (R9): in a block whose registers have no behaviour beyond R9, an aligned write within one register stores its fields as R9 says,
and no other register changes. A W1C bit that the device has set in the same cycle stays set (R10). RC_READ (R43): a read returns the register's fields, and a read of all of it
clears its RC fields; a counter raised in the same cycle holds afterwards what the cycle added (R10).
RESERVED_LOCATION_READ (R482): the read completes with Completer Abort, RESERVED_ACCESS (0x0E) is reported, and no register changes. -/
def Obligations.RegisterAccesses : Prop :=
  ∀ (s : State) (a n : Nat) (data : List Byte), sizeOk a n = true → inTbl a = false → inRng a = false → inAon a = false →
    (∀ p : Part, accessParts a n = some [p] → p.unit ∈ [RUnit.bal, .cal, .mos, .tha, .eth, .pcx] → s.dev.takesWrites p.unit = true →
      s.dev.plainErr 0x0D = true →
      Makes (.registerWrite ⟨false, true, a, n, data⟩) s (fun d =>
        d.rd p.addr = (storeFields p.reg p.mask false (fun _ => false) (s.dev.rd p.addr)
          (s.dev.reaches p (BitVec.ofNat 64 (leNat (padTo (data.take n) n))))).1 ∧
        ∀ b, b ≠ p.addr → d.rd b = s.dev.rd b)) ∧
    (∀ p : Part, accessParts a n = some [p] → p.unit ∈ [RUnit.bal, .cal, .tha, .eth, .pcx, .wpu, .dsp, .time, .mbx] → s.dev.reachable p.unit = true →
      p.n = p.reg.bytes → (p.unit = .tha → ∀ e < 16, (s.dev.engine e).job = none) →
      Makes (.rcRead ⟨false, false, a, n, data⟩) s (fun d => d.out = s.dev.out ++ [.readData ((s.dev.elapse 0).readPart p)] ∧
        d.rd p.addr = s.dev.leftBy p ∧ ((s.dev.cycle.raised.filter p.counts) = [] → p.reg.hasRC = true → d.rd p.addr = clearRC p.reg (s.dev.rd p.addr)) ∧
        (p.reg.hasRC = false → d.rd p.addr = s.dev.rd p.addr) ∧ ∀ b, b ≠ p.addr → d.rd b = s.dev.rd b)) ∧
    (∀ (p : Part) (x : FieldRow) (r : Raised), accessParts a n = some [p] → p.n = p.reg.bytes → x ∈ p.reg.fields → x.acc = .rc →
      (x.fld = ⟨r.lsb, r.w⟩) → s.dev.cycle.raised.filter p.counts = [r] → r.lsb + r.w ≤ 64 →
      fget (s.dev.leftBy p) x.fld = min r.times (2 ^ r.w - 1)) ∧
    (accessParts a n = none → s.dev.plainErr 0x0E = true →
      Makes (.reservedLocationRead ⟨false, false, a, n, data⟩) s (fun d => d.out = s.dev.out ++ [.completerAbort] ∧ d.regs = s.dev.regs ∧
        d.mrg.err.fly.length = s.dev.mrg.err.fly.length + 1))

/-- LOCK_SET, BLOCK_RST, DEV_RST and CLK_TIMEOUT_RETRY (R484, R481, R464, R467): a block's lock is set by a 1 in SET; BLOCK_RST at level 0 resets
the block named, where nothing it has made is on its way; DEV_RST with its key resets at the level of SW_DEVICE and with another value only reports
LOCK_VIOLATION; a 1 in a bit of CLK_TIMEOUT clears it, unless the device has set it in the same cycle (R10). -/
def Obligations.ResetAndLockWrites : Prop :=
  ∀ s : State, s.dev.established = false →
    (∀ u : RUnit, u ∈ [RUnit.dev, .cfg, .err, .mbx, .evt, .wpu, .dsp, .time, .bal, .cal, .thm, .mos, .seg, .cls, .rdg, .pcx, .eth, .tha] →
      s.dev.reachable u = true → Makes (.lockSet u 1) s (fun d => d.isLocked u = true ∧ ∀ b, b ≠ lockAddr u → d.rd b = s.dev.rd b)) ∧
    (∀ u : RUnit, u ∈ [RUnit.cfg, .evt, .wpu, .dsp, .time, .bal, .cal, .thm, .mos, .seg, .cls, .eth] →
      s.dev.levelOf (.swBlock u false) = 0 → s.dev.rst.level = 0 → s.dev.junctionItems u = 0 → s.dev.isHeld u = false →
      Makes (.blockRst (BitVec.ofNat 32 (u.base / 0x1000))) s (fun d => d.isHeld u = true ∧ ∀ v, v ≠ u → d.isHeld v = s.dev.isHeld v)) ∧
    (∀ l : Nat, s.dev.levelOf .swDevice = l → 2 ≤ l → l < 4 → s.dev.resetWaits = false → Makes (.devRst 0x5253) s (fun d =>
      d.rst.level = max s.dev.rst.level l ∧ d.mode.starting = true ∧ ∀ u ∈ wideScope l, d.isHeld u = true)) ∧
    (∀ data : W32, fget (data.setWidth 64) f_RST_DEV_RST_KEY ≠ 0x5253 → s.dev.plainErr 0x0D = true → Makes (.devRst data) s (fun d =>
      d.rst = s.dev.rst ∧ d.mode = s.dev.mode ∧ d.mrg.err.fly.length = s.dev.mrg.err.fly.length + 1)) ∧
    (∀ (i : Fin 40) (data : W64), data = BitVec.ofNat 64 (2 ^ i.val) → Makes (.clkTimeoutRetry data) s (fun d =>
      (d.rdF a_RST_CLK_TIMEOUT f_RST_CLK_TIMEOUT_TIMEOUT).testBit i = ((s.dev.rdF a_RST_CLK_TIMEOUT f_RST_CLK_TIMEOUT_TIMEOUT).testBit i &&
        (fget (masksAt s.dev.cycle.flags a_RST_CLK_TIMEOUT) f_RST_CLK_TIMEOUT_TIMEOUT).testBit i) ∧
      ∀ j : Fin 40, j ≠ i → (d.rdF a_RST_CLK_TIMEOUT f_RST_CLK_TIMEOUT_TIMEOUT).testBit j =
        (s.dev.rdF a_RST_CLK_TIMEOUT f_RST_CLK_TIMEOUT_TIMEOUT).testBit j))

/-- TBL_WINDOW_ACCESS (R316): a write of words within the selected table, unlocked and outside the bank in use, stores its bytes there; a read
answers the table's bytes; a write to a locked table stores nothing and reports LOCK_VIOLATION. -/
def Obligations.TableWindow : Prop :=
  ∀ (s : State) (a : Nat) (data : List Byte) (t i b page : Nat), inTbl a = true → s.dev.tblSel = (t, i, b, page) →
    s.dev.reachable (tabUnit t i) = true →
    (tblSizeOk a data.length = true → page + (a - tblBase) + data.length ≤ s.dev.tabSize t i b → s.dev.tabLocked t i b = false →
      s.dev.tabTwins t i = [i] →
      Makes (.tblWindowAccess ⟨false, true, a, data.length, data⟩) s (fun d =>
        d.tab = s.dev.tab.writeBytes tabDefault (tabAddr t i b (page + (a - tblBase))) data ∧ d.mrg = s.dev.mrg)) ∧
    (tblSizeOk a data.length = true → page + (a - tblBase) + data.length ≤ s.dev.tabSize t i b → s.dev.tabLocked t i b = true →
      s.dev.plainErr 0x0D = true →
      Makes (.tblWindowAccess ⟨false, true, a, data.length, data⟩) s (fun d => d.tab = s.dev.tab ∧ d.regs = s.dev.regs ∧
        d.mrg.err.fly.length = s.dev.mrg.err.fly.length + 1)) ∧
    (∀ n : Nat, sizeOk a n = true → t ≠ 0x10 → page + (a - tblBase) + n ≤ s.dev.tabSize t i b →
      Makes (.tblWindowAccess ⟨false, false, a, n, []⟩) s (fun d => d.tab = s.dev.tab ∧ d.regs = s.dev.regs ∧
        d.out = s.dev.out ++ [.readData (BitVec.ofNat 64 (leNat (s.dev.tab.readBytes tabDefault (tabAddr t i b (page + (a - tblBase))) n)))]))

/-- TABLE_LOAD_COMPLETION and TABLE_READ_COMPLETION (R352, R353): a partial load from host memory stores its bytes at OFFSET in the table, and the
command is no longer pending; a read puts the table's bytes at its destination, in host memory (by the requests of R301) or in the stacks; in the repeat
bank in force it puts nothing and reports LOCK_VIOLATION (R227). -/
def Obligations.TableTransfers : Prop :=
  ∀ (s : State) (dt : Nat) (p : PendCmd) (t : TableXfer),
    (∀ src : List Byte, s.dev.pendingCmd (fun c => match c with | .tableLoad _ => true | _ => false) = some p → p.cmd = .tableLoad t →
      t.loc = false → t.thatch = false → t.part = true → t.srcLen = t.len → t.len ≠ 0 → s.dev.outboundOk = true → s.dev.tabRefusal t true = 0 →
      s.dev.tabTwins t.table.toNat t.inst.toNat = [t.inst.toNat] →
      Makes (.tableLoadCompletion dt src) s (fun d =>
        d.tab = s.dev.tab.writeBytes tabDefault (tabAddr t.table.toNat t.inst.toNat t.bank.toNat t.offset.toNat)
          (padTo (src.take t.srcLen.toNat) t.srcLen.toNat) ∧
        d.keel.pending = s.dev.keel.pending.filter (fun q => q.id ≠ p.id))) ∧
    (s.dev.pendingCmd (fun c => match c with | .tableRead _ => true | _ => false) = some p → p.cmd = .tableRead t →
      (t.loc = false → s.dev.outboundOk = true → Makes (.tableReadCompletion dt) s (fun d => d.tab = s.dev.tab ∧
        (∃ pre post, d.out = pre ++ (({ s.dev with out := [] } : Dev).hostPut t.addr.toNat false true
          (s.dev.tabBytes t.table.toNat t.inst.toNat t.bank.toNat t.offset.toNat t.len.toNat)).out ++ post) ∧
        d.keel.pending = s.dev.keel.pending.filter (fun q => q.id ≠ p.id))) ∧
      (t.loc = true → t.addr.toNat + (s.dev.tabBytes t.table.toNat t.inst.toNat t.bank.toNat t.offset.toNat t.len.toNat).length ≤ hbmBytes →
        (s.dev.repLocked t.addr.toNat (s.dev.tabBytes t.table.toNat t.inst.toNat t.bank.toNat t.offset.toNat t.len.toNat).length = false →
          Makes (.tableReadCompletion dt) s (fun d => d.tab = s.dev.tab ∧
            d.hbmw = s.dev.hbmw ++ [(t.addr.toNat, s.dev.tabBytes t.table.toNat t.inst.toNat t.bank.toNat t.offset.toNat t.len.toNat)] ∧
            d.keel.pending = s.dev.keel.pending.filter (fun q => q.id ≠ p.id))) ∧
        (s.dev.repLocked t.addr.toNat (s.dev.tabBytes t.table.toNat t.inst.toNat t.bank.toNat t.offset.toNat t.len.toNat).length = true →
          s.dev.plainErr 0x0D = true →
          Makes (.tableReadCompletion dt) s (fun d => d.tab = s.dev.tab ∧ d.hbmw = s.dev.hbmw ∧
            d.mrg.err.fly.length = s.dev.mrg.err.fly.length + 1 ∧ d.keel.pending = s.dev.keel.pending.filter (fun q => q.id ≠ p.id)))))

/-- RING_CONTEXT_WRITE and DOORBELL (R305, R306): EN = 1 written to a disabled ring whose context is valid enables it, with HEAD and TAIL 0, armed
and ERR 0; EN = 0 written to an enabled ring with no buffer begun disables it and discards what it staged; a doorbell within the ring's size sets
TAIL, and one beyond it is counted and reported (0x21) and sets nothing. -/
def Obligations.RingsEnabled : Prop :=
  ∀ (s : State) (r : Fin 4096), s.dev.reachable .rng = true →
    (∀ bs : List Byte, bs.length = 8 → (bs.headD 0).getLsbD 7 = true → (s.dev.ring r).en = false →
      s.dev.ringErr r ((s.dev.ring r).take ((s.dev.ring r).bytes.take 8 ++ bs ++ (s.dev.ring r).bytes.drop 16)) = 0 →
      Makes (.ringContextWrite ⟨false, true, 0x800000 + r * 64 + 8, 8, bs⟩) s (fun d =>
        d.ring r = { (s.dev.ring r).take ((s.dev.ring r).bytes.take 8 ++ bs ++ (s.dev.ring r).bytes.drop 16) with
          en := true, head := 0, tail := 0, armed := true, err := 0, items := 0 } ∧ ∀ q, q ≠ r.val → d.ring q = s.dev.ring q)) ∧
    (r.val ≠ 15 → (s.dev.ring r).en = true → (s.dev.ringRun r).frags = 0 → s.dev.plainErr 0x0D = true →
      Makes (.ringContextWrite ⟨false, true, 0x800000 + r * 64 + 8, 4, [0, 0, 0, 0]⟩) s (fun d =>
        (d.ring r).en = false ∧ (d.ring r).staged = 0 ∧ d.ringRun r = .empty ∧ ∀ q, q ≠ r.val → d.ring q = s.dev.ring q)) ∧
    (∀ (data : W32) (descs : List W64), (s.dev.ring r).en = true → (s.dev.ringRun r).unrep = 0 →
      ((data.setWidth 16 : BitVec 16) - (s.dev.ring r).head).toNat ≤ (s.dev.ring r).size →
      Makes (.doorbell ⟨true, true, r * 16, 4, leBytes 4 data.toNat⟩ descs) s (fun d =>
        d.ring r = { s.dev.ring r with tail := data.setWidth 16, armed := (s.dev.ring r).armed || data.getLsbD 31 } ∧
        ∀ q, q ≠ r.val → d.ring q = s.dev.ring q)) ∧
    (∀ (data : W32) (descs : List W64), (s.dev.ring r).en = true →
      (s.dev.ring r).size < ((data.setWidth 16 : BitVec 16) - (s.dev.ring r).head).toNat → s.dev.plainErr 0x21 = true →
      Makes (.doorbell ⟨true, true, r * 16, 4, leBytes 4 data.toNat⟩ descs) s (fun d => d.host = s.dev.host ∧
        d.mrg.err.fly.length = s.dev.mrg.err.fly.length + 1))

/-- RING_ITEM_DELIVER, BUFFER_FLUSH, RING_COALESCE_TIMER (R308 to R311, R315): an unfragmented item that fits becomes the first fragment of an empty
buffer of its ring and counts in ITEMS, where its client has ring DMA budget (R313); the flush timer completes a buffer, whose payload goes to host memory before HEAD moves on; the coalescing
timer disarms the ring and sends its message. -/
def Obligations.RingsDeliver : Prop :=
  ∀ (s : State) (dt : Nat) (r : Fin 4096), (s.dev.ring r).en = true → (s.dev.ring r).typ = 1 → (s.dev.ring r).loc = false → s.dev.outboundOk = true →
    (∀ (i : Nat) (x : RingItem), (s.dev.ring r).posted ≠ 0 → (s.dev.ring r).flushLast = false → (s.dev.ringRun r).stage = [] →
      (s.dev.ringRun r).frags = 0 → (s.dev.ringRun r).buf = [] → s.dev.mem.bad = [] → ((s.dev.ringRun r).posted.headD 0).toNat % 64 = 0 →
      nextItem r s.dev.host.queue = some i → s.dev.host.queue[i]? = some x → x.isObject = false →
      32 + (padMul x.body 8).length ≤ 2 ^ (s.dev.ring r).log2Buf.toNat →
      (s.dev.elapse dt).exhausted (contentClient x.content) .dma = false →
      Makes (.ringItemDeliver dt r true) s (fun d => (d.ringRun r).frags = 1 ∧ (d.ring r).items = (s.dev.ring r).items + 1 ∧
        (d.ringRun r).buf.length = 32 + (padMul x.body 8).length ∧ (d.ringRun r).buf.headD 0 = BitVec.ofNat 8 x.content ∧
        (d.ringRun r).buf.drop 32 = padMul x.body 8)) ∧
    ((s.dev.ringRun r).frags ≠ 0 → (s.dev.ringRun r).buf ≠ [] → (s.dev.ringRun r).bufAt + max 1 (s.dev.ring r).flushUs.toNat * 1000 ≤ (s.dev.elapse dt).el →
      Makes (.bufferFlush dt r) s (fun d => (d.ringRun r).frags = 0 ∧ (d.ring r).head = (s.dev.ring r).head + 1 ∧
        (∃ rest, d.out = (s.dev.hostPut ((s.dev.ringRun r).posted.headD 0).toNat (s.dev.ring r).ro (s.dev.ringRun r).best (s.dev.ringRun r).buf).out ++
          rest))) ∧
    (∀ v : Fin 2048, (s.dev.ring r).vector = BitVec.ofNat 16 v.val → (s.dev.ring r).armed = true → (s.dev.ring r).coalUs ≠ 0 → (s.dev.ringRun r).unrep ≠ 0 →
      (s.dev.ringRun r).unrepAt + (s.dev.ring r).coalUs.toNat * 1000 ≤ (s.dev.elapse dt).el → s.dev.msixOpen v.val = true →
      Makes (.ringCoalesceTimer dt r) s (fun d => (d.ring r).armed = false ∧ (d.ringRun r).unrep = 0 ∧ d.out = s.dev.out ++ [.msix v.val]))

/-- DMA_COPY (R314): a copy into the stacks stores the bytes read at HBM_ADDR and completes its descriptor; a copy out of them writes what the stacks
hold to host memory by the requests of R301, where HOST_DMA has budget (R313). OUTBOUND_STOP, OUTBOUND_RESUME and MSIX_UNMASK (R302, R315): the condition is set or ends, and a pending message of an unmasked
vector leaves once transfers run and MSI-X is enabled (R300). -/
def Obligations.CopiesAndMessages : Prop :=
  ∀ (s : State) (dt : Nat),
    (∀ (r : Fin 4096) (desc data : List Byte) (host hbm n : Nat), (s.dev.ring r).en = true → (s.dev.ring r).typ = 3 → (s.dev.ring r).posted ≠ 0 →
      (s.dev.ring r).loc = false → s.dev.outboundOk = true → leAt desc 0 8 = host → leAt desc 8 8 = hbm → leAt desc 16 4 = n → host % 64 = 0 →
      hbm % 64 = 0 → n % 64 = 0 → 64 ≤ n → n ≤ 16777216 → s.dev.outside hbm n = false →
      (∀ k ∈ [BalRes.dma, .hbm 0, .hbm 1], (s.dev.elapse dt).exhausted 20 k = false) →
      ((leAt desc 20 1).testBit 0 = false → s.dev.copyLocked hbm n = false →
        Makes (.dmaCopy dt r desc data true) s (fun d => d.hbmw = s.dev.hbmw ++ [(hbm, padTo (data.take n) n)] ∧
          (d.ring r).head = (s.dev.ring r).head + 1)) ∧
      ((leAt desc 20 1).testBit 0 = true → s.dev.mem.bad = [] →
        Makes (.dmaCopy dt r desc data true) s (fun d =>
          (∃ pre post, d.out = pre ++ (({ s.dev with out := [] } : Dev).hostPut host false true (s.hbmRead hbm n)).out ++ post) ∧
          (d.ring r).head = (s.dev.ring r).head + 1 ∧ d.hbmw = s.dev.hbmw))) ∧
    Makes (.outboundStop dt .busMasterOff) s (fun d => d = { s.dev.elapse dt with host := { s.dev.host with busMaster := false } }) ∧
    Makes (.outboundStop dt .d3hot) s (fun d => d = { s.dev.elapse dt with host := { s.dev.host with d0 := false } }) ∧
    Makes (.outboundStop dt .linkDown) s (fun d => d.host = { s.dev.host with linkUp := false } ∧ ∀ k < 8, (lget d.lanes (40 + k) .reset).step ≠ 6) ∧
    (∀ ctl : PcieCtl, s.dev.host.d0 = true → s.dev.host.linkUp = true → ctl.msixOn = true → ctl.masked = false →
      Makes (.outboundResume dt ⟨.busMasterOff, ctl⟩) s (fun d => d.host.busMaster = true ∧ d.host.ctl = ctl ∧
      ∀ v ∈ s.dev.host.msixPend, s.dev.host.unmasked.contains v = true → .msix v ∈ d.out ∧ v ∉ d.host.msixPend)) ∧
    (∀ v : Fin 2048, s.dev.outboundOk = true → s.dev.host.ctl.msixOn = true → s.dev.host.ctl.masked = false → v.val ∈ s.dev.host.msixPend →
      Makes (.msixUnmask v) s (fun d => .msix v.val ∈ d.out ∧ v.val ∉ d.host.msixPend ∧ v.val ∈ d.host.unmasked))

/-! ### Writes that start something: the position unit, the filters, the pipelines, the classifier, the units at the edge -/

/-- WPU_COMMIT, LATCH_REQ, CMP_PUSH, CMP_CLEAR, DSP_COMMIT (R85, R86, R100, R102, R105, R123): an accepted commit brings the written encoder types
into force, with speed unknown; a refused one shows its reason and changes nothing in force; a requested software latch takes the master's raw word
and the time; a value the position has not reached is queued in the unit's order, one passed within the late window fires at once; CLEAR empties the
unit's queue; an accepted filter commit brings the written settings into force, a refused one shows its reason. -/
def Obligations.MotionStrobes : Prop :=
  ∀ s : State, s.dev.takesWrites .wpu = true → s.dev.takesWrites .dsp = true → s.dev.plainErr 0x0D = true →
    (∀ data : W32, fbit (data.setWidth 64) f_WPU_COMMIT_GO = true → s.dev.wpuErr = 0 →
      Makes (.wpuCommit data) s (fun d => d.rdF a_WPU_COMMIT f_WPU_COMMIT_ERR = 0 ∧ d.wpu.rev = false ∧ d.wpu.edges = [] ∧ d.rd a_WPU_SPEED = 0 ∧
        d.rdB a_WPU_MOTION f_WPU_MOTION_STANDSTILL = true ∧ ∀ n : Fin 4, d.encType n = s.dev.rdF (a_WPU_ENC_CFG n) f_WPU_ENC_CFG_TYPE ∧
          d.rd (a_WPU_ENC_POS n) = (if d.encType n = s.dev.encType n then s.dev.rd (a_WPU_ENC_POS n) else 0))) ∧
    (∀ data : W32, fbit (data.setWidth 64) f_WPU_COMMIT_GO = true → s.dev.wpuErr ≠ 0 →
      Makes (.wpuCommit data) s (fun d => d.rdF a_WPU_COMMIT f_WPU_COMMIT_ERR = s.dev.wpuErr ∧ d.force = s.dev.force ∧ d.wpu = s.dev.wpu)) ∧
    (∀ data : W32, Makes (.latchReq data) s (fun d => d.wpu = s.dev.wpu ∧ ∀ k : Fin 4,
      d.rd (a_WPU_LATCH_POS k) = (if s.dev.latchSrc k = 0 ∧ data.getLsbD k then s.dev.rd (a_WPU_ENC_POS s.dev.master) else s.dev.rd (a_WPU_LATCH_POS k)) ∧
      d.rd (a_WPU_LATCH_TIME k) = (if s.dev.latchSrc k = 0 ∧ data.getLsbD k then s.dev.now else s.dev.rd (a_WPU_LATCH_TIME k)))) ∧
    (∀ (u : Fin 32) (v : W64), s.dev.wpu.rev ≠ s.dev.cmpRev u → (s.dev.cmpQueue u).length < 64 →
      Makes (.cmpPush u ⟨false, true, a_WPU_CMP_PUSH u, 8, leBytes 8 v.toNat⟩) s (fun d =>
        d.cmpQueue u = cmpInsert (s.dev.cmpRev u) v.toInt (s.dev.cmpQueue u) ∧ d.evt = s.dev.evt ∧ d.wpu.marks = s.dev.wpu.marks)) ∧
    (∀ (u : Fin 32) (v : W64), s.dev.wpu.rev = false → s.dev.cmpRev u = false → v.toInt ≤ s.dev.tpos → s.dev.inSafe = false →
      (s.dev.tpos - v.toInt).natAbs * 2 ^ 32 ≤ s.dev.rdF (a_WPU_CMP_CFG u) f_WPU_CMP_CFG_LATE_WINDOW * s.dev.scaleOf s.dev.master →
      Makes (.cmpPush u ⟨false, true, a_WPU_CMP_PUSH u, 8, leBytes 8 v.toNat⟩) s (fun d => d.cmpQueue u = s.dev.cmpQueue u ∧
        d.rdF (a_WPU_CMP_STAT u) f_WPU_CMP_STAT_LATE_FIRED_CNT = min (s.dev.rdF (a_WPU_CMP_STAT u) f_WPU_CMP_STAT_LATE_FIRED_CNT + 1) 255 ∧
        d.rdF (a_WPU_CMP_STAT u) f_WPU_CMP_STAT_FIRE_CNT = min (s.dev.rdF (a_WPU_CMP_STAT u) f_WPU_CMP_STAT_FIRE_CNT + 1) 65535)) ∧
    (∀ (u : Fin 32) (data : W64), fbit data f_WPU_CMP_STAT_CLEAR = true → Makes (.cmpClear u data) s (fun d =>
      d.cmpQueue u = [] ∧ d.rdF (a_WPU_CMP_STAT u) f_WPU_CMP_STAT_DEPTH = 0 ∧ d.evt = s.dev.evt ∧ ∀ v : Fin 32, v ≠ u → d.cmpQueue v = s.dev.cmpQueue v)) ∧
    (∀ data : W32, fbit (data.setWidth 64) f_DSP_COMMIT_GO = true → s.dev.dspErr = 0 →
      Makes (.dspCommit data) s (fun d => d.rdF a_DSP_COMMIT f_DSP_COMMIT_ERR = 0 ∧ d.inF a_DSP_CLK_CFG f_DSP_CLK_CFG_EN0 = s.dev.rdF a_DSP_CLK_CFG f_DSP_CLK_CFG_EN0 ∧
        d.inF a_DSP_CLK_CFG f_DSP_CLK_CFG_EN1 = s.dev.rdF a_DSP_CLK_CFG f_DSP_CLK_CFG_EN1 ∧
        ∀ f : Fin 8, d.inF (a_DSP_FLT_CFG f) f_DSP_FLT_CFG_USE = s.dev.rdF (a_DSP_FLT_CFG f) f_DSP_FLT_CFG_USE ∧
          d.inF (a_DSP_FLT_CFG f) f_DSP_FLT_CFG_PRESET = s.dev.rdF (a_DSP_FLT_CFG f) f_DSP_FLT_CFG_PRESET)) ∧
    (∀ data : W32, fbit (data.setWidth 64) f_DSP_COMMIT_GO = true → s.dev.dspErr ≠ 0 →
      Makes (.dspCommit data) s (fun d => d.rdF a_DSP_COMMIT f_DSP_COMMIT_ERR = s.dev.dspErr ∧ d.force = s.dev.force ∧ d.flt = s.dev.flt))

/-- COEF_MARK, COEF_SWAP, CM_CLEAR, REP_CAPTURE_GO, BANK_MARK, BANK_SWAP, ROLL_NOW, LOFT_FREEZE, LOFT_RESUME (R168, R169, R222, R228, R250, R251,
R274, R264): MARK sets LOADED of the coefficient bank not in force, SWAP waits for the course boundary; CM_CTRL gathers the models to clear; a
capture starts in CALIBRATE alone; MARK validates the idle tree bank and LOADED follows; SWAP of a loaded bank waits, of one not loaded is refused
with ERR 1; a roll becomes due; a freeze with a delay waits, and RESUME ends it. -/
def Obligations.CourseStrobes : Prop :=
  ∀ s : State, s.dev.plainErr 0x0D = true → s.dev.takesWrites .seg = true → s.dev.takesWrites .cls = true →
    (∀ (n : Fin 17) (data : W32), s.dev.takesWrites (.pipe n) = true → s.dev.pipeTwins n = [n.val] →
      s.dev.inB (a_PIPE_COEF_CTRL n) f_PIPE_COEF_CTRL_WIDE = false →
      (fbit (data.setWidth 64) f_PIPE_COEF_CTRL_MARK = true → fbit (data.setWidth 64) f_PIPE_COEF_CTRL_SWAP = false →
        Makes (.coefMark n data) s (fun d => (d.rdF (a_PIPE_COEF_CTRL n) f_PIPE_COEF_CTRL_LOADED).testBit
            (1 - s.dev.rdF (a_PIPE_COEF_CTRL n) f_PIPE_COEF_CTRL_IN_FORCE) = true ∧
          d.rdB (a_PIPE_COEF_CTRL n) f_PIPE_COEF_CTRL_SWAP = s.dev.rdB (a_PIPE_COEF_CTRL n) f_PIPE_COEF_CTRL_SWAP ∧
          ∀ b, b ≠ a_PIPE_COEF_CTRL n → d.rd b = s.dev.rd b)) ∧
      (fbit (data.setWidth 64) f_PIPE_COEF_CTRL_MARK = false → fbit (data.setWidth 64) f_PIPE_COEF_CTRL_SWAP = true →
        Makes (.coefSwap n data) s (fun d => d.rdB (a_PIPE_COEF_CTRL n) f_PIPE_COEF_CTRL_SWAP = true ∧
          d.rdF (a_PIPE_COEF_CTRL n) f_PIPE_COEF_CTRL_LOADED = s.dev.rdF (a_PIPE_COEF_CTRL n) f_PIPE_COEF_CTRL_LOADED ∧
          ∀ b, b ≠ a_PIPE_COEF_CTRL n → d.rd b = s.dev.rd b))) ∧
    (∀ data : W32, Makes (.cmClear data) s (fun d => d.seg = s.dev.seg ∧
      d.rdF a_SEG_CM_CTRL f_SEG_CM_CTRL_CLEAR = (s.dev.rdF a_SEG_CM_CTRL f_SEG_CM_CTRL_CLEAR) ||| (data.toNat % 2 ^ 16))) ∧
    (∀ data : W64, fbit data f_SEG_REP_CAPTURE_GO = true →
      (s.dev.mode.starting = false → s.dev.mode.cur = .calibrate →
        Makes (.repCaptureGo data) s (fun d => d.rdB a_SEG_REP_CAPTURE f_SEG_REP_CAPTURE_BUSY = true ∧ d.rdF a_SEG_REP_CAPTURE f_SEG_REP_CAPTURE_ERR = 0 ∧
          d.seg = { s.dev.seg with capture := some ⟨false, 0, []⟩ })) ∧
      (s.dev.mode.cur ≠ .calibrate →
        Makes (.repCaptureGo data) s (fun d => d.rdF a_SEG_REP_CAPTURE f_SEG_REP_CAPTURE_ERR = 1 ∧ d.seg = s.dev.seg))) ∧
    (∀ data : W32, fbit (data.setWidth 64) f_CLS_BANK_CTRL_MARK = true → fbit (data.setWidth 64) f_CLS_BANK_CTRL_SWAP = false →
      Makes (.bankMark data) s (fun d => d.cls = s.dev.cls ∧ d.rdF a_CLS_BANK_CTRL f_CLS_BANK_CTRL_VAL_ERR = (s.dev.bankCheck (1 - s.dev.bankNow)).1 % 16 ∧
        (d.rdF a_CLS_BANK_CTRL f_CLS_BANK_CTRL_LOADED).testBit (1 - s.dev.bankNow) = ((s.dev.bankCheck (1 - s.dev.bankNow)).1 = 0))) ∧
    (∀ data : W32, fbit (data.setWidth 64) f_CLS_BANK_CTRL_MARK = false → fbit (data.setWidth 64) f_CLS_BANK_CTRL_SWAP = true →
      ((s.dev.rdF a_CLS_BANK_CTRL f_CLS_BANK_CTRL_LOADED).testBit (1 - s.dev.bankNow) = true → s.dev.bankWide (1 - s.dev.bankNow) = false →
        Makes (.bankSwap data) s (fun d => d.rdB a_CLS_BANK_CTRL f_CLS_BANK_CTRL_SWAP = true ∧ d.rdF a_CLS_BANK_CTRL f_CLS_BANK_CTRL_ERR = 0 ∧
          d.bankNow = s.dev.bankNow ∧ d.cls = s.dev.cls)) ∧
      ((s.dev.rdF a_CLS_BANK_CTRL f_CLS_BANK_CTRL_LOADED).testBit (1 - s.dev.bankNow) = false →
        Makes (.bankSwap data) s (fun d => d.rdB a_CLS_BANK_CTRL f_CLS_BANK_CTRL_SWAP = s.dev.rdB a_CLS_BANK_CTRL f_CLS_BANK_CTRL_SWAP ∧
          d.rdF a_CLS_BANK_CTRL f_CLS_BANK_CTRL_ERR = 1 ∧ d.cls = s.dev.cls))) ∧
    (∀ data : W64, fbit data f_CLS_ROLL_CTRL_NOW = true →
      Makes (.rollNow data) s (fun d => d.cls = { s.dev.cls with rollDue := s.dev.cls.rollDue ++ [⟨0, none, 0, none⟩] } ∧
        d.rdB a_CLS_ROLL_CTRL f_CLS_ROLL_CTRL_NOW = false)) ∧
    (∀ data : W64, fbit data f_CLS_LOFT_CTRL_FREEZE = true → fbit data f_CLS_LOFT_CTRL_RESUME = false → s.dev.cls.frozen = false →
      s.dev.cls.freeze = none → s.dev.rdF a_CLS_LOFT_CFG f_CLS_LOFT_CFG_FREEZE_DELAY ≠ 0 →
      Makes (.loftFreeze data) s (fun d => d.cls = { s.dev.cls with freeze := some (s.dev.rdF a_CLS_LOFT_CFG f_CLS_LOFT_CFG_FREEZE_DELAY) } ∧
        d.rdB a_CLS_LOFT_CTRL f_CLS_LOFT_CTRL_FROZEN = s.dev.rdB a_CLS_LOFT_CTRL f_CLS_LOFT_CTRL_FROZEN)) ∧
    (∀ data : W64, fbit data f_CLS_LOFT_CTRL_FREEZE = false → fbit data f_CLS_LOFT_CTRL_RESUME = true →
      Makes (.loftResume data) s (fun d => d.cls = { s.dev.cls with freeze := none, frozen := false } ∧
        d.rdB a_CLS_LOFT_CTRL f_CLS_LOFT_CTRL_FROZEN = false))

/-- TPT_RETRAIN, TT_ARM, PR_GO, PR_EXIT, EYE_GO (R154, R434, R372, R401, R402, R435): a lane in bring-up that is told to retrain counts the stage it
gives up and is at receiver detect again; arming a trigger whose start is ahead sets its first instant, one whose start is past is LATE and
disarmed; partial retention starts in STANDBY alone, where each unretired channel outside RET_MASK loses its contents; EXIT ends it; a scan starts on
a lane in stage 5 and is refused with ERR 1 outside it. -/
def Obligations.EdgeStrobes : Prop :=
  ∀ s : State, s.dev.plainErr 0x0D = true →
    (∀ p : Fin 16, s.dev.takesWrites (.tpt p) = true → s.dev.laneInUse p 0 = true → 1 ≤ (s.dev.lane (2 * p)).step → (s.dev.lane (2 * p)).step < 6 →
      (s.dev.lane (2 * p + 1)).step = 6 → s.dev.quadUp (2 * p) = true → s.dev.rd (a_TPT_CFG p) = s.dev.inForce (a_TPT_CFG p) →
      Makes (.tptRetrain p 1) s (fun d => d.rdF (lnCnt (2 * p)) f_LQ_LN_CNT_ABORT_CNT = min (s.dev.rdF (lnCnt (2 * p)) f_LQ_LN_CNT_ABORT_CNT + 1) 65535 ∧
        (d.lane (2 * p)).step = 1 ∧ (d.lane (2 * p)).rate = (s.dev.lane (2 * p)).rate ∧ d.lane (2 * p + 1) = s.dev.lane (2 * p + 1))) ∧
    (∀ (k : Fin 8) (data : W64), s.dev.takesWrites .time = true → s.dev.rdB (a_TIME_TT_CFG k) f_TIME_TT_CFG_EN = false →
      fbit data f_TIME_TT_CFG_EN = true →
      (s.dev.now.toNat < (s.dev.rd (a_TIME_TT_START k)).toNat →
        Makes (.ttArm k data) s (fun d => d.clk = { s.dev.clk with
            ttNext := lset s.dev.clk.ttNext k (some ((s.dev.rd (a_TIME_TT_START k)).toNat, (s.dev.rd (a_TIME_TT_START k)).toNat)) } ∧
          d.rdB (a_TIME_TT_CFG k) f_TIME_TT_CFG_EN = true)) ∧
      ((s.dev.rd (a_TIME_TT_START k)).toNat ≤ s.dev.now.toNat →
        Makes (.ttArm k data) s (fun d => d.clk = { s.dev.clk with ttNext := lset s.dev.clk.ttNext k none } ∧
          d.rdB (a_TIME_TT_CFG k) f_TIME_TT_CFG_EN = false ∧ d.rdB (a_TIME_TT_STAT k) f_TIME_TT_STAT_LATE = true))) ∧
    (∀ (st : Fin 2) (data : W64), s.dev.takesWrites (.hbm st) = true → fbit data f_HBM_PR_CTRL_GO = true → fbit data f_HBM_PR_CTRL_EXIT = false →
      (s.dev.mode.starting = false → s.dev.mode.cur = .standby → s.dev.plainErr 0x0B = true →
        Makes (.prGo st data) s (fun d => d.rdF (a_HBM_PR_CTRL st) f_HBM_PR_CTRL_ERR = 0 ∧ ∀ p : Fin 32,
          fget data f_HBM_PR_CTRL_RET_MASK / 2 ^ p.val % 2 = 0 → (s.dev.retired st).testBit p = false →
            (d.rdF (a_HBM_PC_STAT st) f_HBM_PC_STAT_LOST).testBit p = true ∧ (st.val, p.val) ∈ d.hbmLost)) ∧
      (s.dev.mode.cur ≠ .standby →
        Makes (.prGo st data) s (fun d => d.rdF (a_HBM_PR_CTRL st) f_HBM_PR_CTRL_ERR = 1 ∧ d.mem = s.dev.mem ∧ d.hbmLost = s.dev.hbmLost))) ∧
    (∀ (st : Fin 2) (data : W64), s.dev.takesWrites (.hbm st) = true → fbit data f_HBM_PR_CTRL_GO = false → fbit data f_HBM_PR_CTRL_EXIT = true →
      Makes (.prExit st data) s (fun d => (d.stack st).retained = false ∧ d.hbmLost = s.dev.hbmLost ∧
        d.stack (1 - st) = s.dev.stack (1 - st))) ∧
    (∀ (q : Fin 13) (k : Fin 4) (data : W32), s.dev.takesWrites (.lq q) = true → fbit (data.setWidth 64) f_LQ_EYE_CTRL_GO = true →
      s.dev.rdB (a_LQ_EYE_CTRL q k) f_LQ_EYE_CTRL_GO = false →
      (s.dev.laneActive (q * 4 + k) = true →
        Makes (.eyeGo q k data) s (fun d => d.rdB (a_LQ_EYE_CTRL q k) f_LQ_EYE_CTRL_GO = true ∧ d.rdF (a_LQ_EYE_CTRL q k) f_LQ_EYE_CTRL_ERR = 0 ∧
          d.lanes = s.dev.lanes)) ∧
      (s.dev.laneActive (q * 4 + k) = false →
        Makes (.eyeGo q k data) s (fun d => d.rdB (a_LQ_EYE_CTRL q k) f_LQ_EYE_CTRL_GO = false ∧ d.rdF (a_LQ_EYE_CTRL q k) f_LQ_EYE_CTRL_ERR = 1 ∧
          d.lanes = s.dev.lanes)))

/-! ### Position, pulses, filters -/

/-- QUAD_STATE_CHANGE, INDEX_EDGE, HALL_STATE_CHANGE, SSI_FRAME (R76, R78, R81, R82, R83): on a channel that is not the master, or on the master while
no mode acquires and no compare value waits, one count moves the raw word by 4,096 in the direction that DIR_INV leaves; two quadrature inputs that
change at once count an error and move nothing; a change that the glitch filter has not accepted yet (R76) moves nothing; an index edge latches the word and the time; the first valid SSI frame sets the word to its value
times 4,096. The measurement instant of a frame is log entry 18,
that a command says for how many cycles a level has been stable log entry 106. -/
def Obligations.EncoderEvents : Prop :=
  ∀ (s : State) (dt : Nat) (n : Fin 4), s.dev.isHeld .wpu = false →
    (∀ (a b : Bool) (j k : Nat), s.dev.encType n = 1 →
      ((s.dev.enc n).a = a ∨ s.dev.accepts n j = true) → ((s.dev.enc n).b = b ∨ s.dev.accepts n k = true) →
      (((s.dev.enc n).a ≠ a ∧ (s.dev.enc n).b = b) ∨ ((s.dev.enc n).a = a ∧ (s.dev.enc n).b ≠ b)) →
      (n.val ≠ s.dev.master ∨ (s.dev.acquiring = false ∧ s.dev.wpu.cmp = [])) →
      Makes (.quadStateChange dt n ⟨a, j⟩ ⟨b, k⟩) s (fun d => d.rd (a_WPU_ENC_POS n) = (
        let lead := if (s.dev.enc n).a ≠ a then a ≠ b else a = b
        if (lead == Config.quadForward) ≠ s.dev.inB (a_WPU_ENC_CFG n) f_WPU_ENC_CFG_DIR_INV then s.dev.rd (a_WPU_ENC_POS n) + 4096
        else s.dev.rd (a_WPU_ENC_POS n) - 4096) ∧ (n.val ≠ s.dev.master → d.wpu.t = s.dev.wpu.t ∧ (s.dev.cycle.idx = [] → d.evt = s.dev.evt)))) ∧
    (∀ (a b : Bool) (j k : Nat), s.dev.accepts n j = false → s.dev.accepts n k = false →
      Makes (.quadStateChange dt n ⟨a, j⟩ ⟨b, k⟩) s (fun d => d.regs = s.dev.regs ∧ d.evt = s.dev.evt ∧ d.out = s.dev.out ∧ d.wpu.t = s.dev.wpu.t ∧
        (d.enc n).a = (s.dev.enc n).a ∧ (d.enc n).b = (s.dev.enc n).b)) ∧
    (∀ k : Nat, s.dev.encType n = 1 → s.dev.accepts n k = true →
      Makes (.quadStateChange dt n ⟨!(s.dev.enc n).a, k⟩ ⟨!(s.dev.enc n).b, k⟩) s (fun d =>
      d.rd (a_WPU_ENC_POS n) = s.dev.rd (a_WPU_ENC_POS n) ∧
      d.rdF (a_WPU_ENC_STAT n) f_WPU_ENC_STAT_QUAD_ERR_CNT = min (s.dev.rdF (a_WPU_ENC_STAT n) f_WPU_ENC_STAT_QUAD_ERR_CNT + 1)
        (2 ^ f_WPU_ENC_STAT_QUAD_ERR_CNT.w - 1))) ∧
    (∀ k : Nat, (s.dev.encType n = 1 ∨ s.dev.encType n = 2) → s.dev.inB (a_WPU_ENC_CFG n) f_WPU_ENC_CFG_IDX_EN = true → s.dev.accepts n k = true →
      Makes (.indexEdge dt ⟨n, k⟩) s (fun d => d.rd (a_WPU_IDX_POS n) = s.dev.rd (a_WPU_ENC_POS n) ∧ d.rd (a_WPU_IDX_TIME n) = (s.dev.elapse dt).now ∧
        d.rd (a_WPU_ENC_POS n) = s.dev.rd (a_WPU_ENC_POS n))) ∧
    (∀ (old k : Nat) (uvw : Fin 8), s.dev.encType n = 4 → s.dev.accepts n k = true → n.val ≠ s.dev.master → (s.dev.enc n).hall = some old → uvw ≠ 0 → uvw ≠ 7 →
      (hallPlace uvw + 6 - hallPlace old) % 6 = 1 → s.dev.inB (a_WPU_ENC_CFG n) f_WPU_ENC_CFG_DIR_INV = false →
      Makes (.hallStateChange dt n ⟨uvw, k⟩) s (fun d => d.rd (a_WPU_ENC_POS n) = s.dev.rd (a_WPU_ENC_POS n) + 4096 ∧ d.wpu.t = s.dev.wpu.t ∧
        (s.dev.cycle.idx = [] → d.evt = s.dev.evt))) ∧
    (∀ bits : List Bool, s.dev.encType n = 3 → n.val ≠ s.dev.master → (s.dev.enc n).ssi = none → (s.dev.enc n).frameAt = none → lget bits 0 false = true →
      s.dev.inF a_WPU_SSI_CFG f_WPU_SSI_CFG_PARITY = 0 → s.dev.inB a_WPU_SSI_CFG f_WPU_SSI_CFG_GRAY = false →
      bits.length = 1 + s.dev.inF a_WPU_SSI_CFG f_WPU_SSI_CFG_BITS →
      Makes (.ssiFrame dt n bits) s (fun d => d.rd (a_WPU_ENC_POS n) = BitVec.ofNat 64 (msbFirst (bits.drop 1) * 4096) ∧ d.wpu.t = s.dev.wpu.t ∧
        (s.dev.cycle.idx = [] → d.evt = s.dev.evt)))

/-- TPOS_EXTRAPOLATE, STANDSTILL (R89, R92): between samples the trigger position moves to the extrapolated one where that lies ahead in its
direction, and the raw word stays; at standstill SPEED is 0 and not valid. MARKER_PULSE_START, MARKER_PULSE_END, STROBE_PULSE_START, STROBE_PULSE_END
(R98, R99, R101): the oldest pulse due begins on its pin, and the pin returns to its safe level at its end. That a pulse due joins the one in progress
is read from R99 (log entry 19). -/
def Obligations.PulsesAndStandstill : Prop :=
  ∀ (s : State) (dt : Nat),
    (∀ (nm at_ : Int) (period : Nat), s.dev.isHeld .wpu = false → s.dev.wpu.sample = some (nm, at_, period) →
      (s.dev.encType s.dev.master = 2 ∨ s.dev.encType s.dev.master = 3) → s.dev.scaleOf s.dev.master ≠ 0 →
      s.dev.rdB a_WPU_MOTION f_WPU_MOTION_SPEED_VALID = true → s.dev.acquiring = false → s.dev.wpu.cmp = [] → s.dev.wpu.rev = false →
      Makes (.tposExtrapolate dt) s (fun d => d.rd (a_WPU_ENC_POS s.dev.master) = s.dev.rd (a_WPU_ENC_POS s.dev.master) ∧
        d.wpu.t = max s.dev.wpu.t (rdiv (extrapNm (min ((s.dev.elapse dt).el : Int) (at_ + period)) nm at_ (s.dev.rd a_WPU_SPEED).toInt true * 2 ^ 44)
          (s.dev.scaleOf s.dev.master)))) ∧
    (s.dev.isHeld .wpu = false → s.dev.wpu.still = false → s.dev.wpu.edgeAt + s.dev.standNs ≤ (s.dev.elapse dt).el →
      Makes (.standstill dt) s (fun d => d.rd a_WPU_SPEED = 0 ∧ d.rdB a_WPU_MOTION f_WPU_MOTION_SPEED_VALID = false ∧
        d.rdB a_WPU_MOTION f_WPU_MOTION_STANDSTILL = true ∧ d.wpu.edges = [] ∧ d.wpu.t = s.dev.wpu.t)) ∧
    (∀ (n : Fin 16) (p : Pulse), s.dev.wpu.marks.find? (fun p => p.pin = n.val && p.start ≤ (s.dev.elapse dt).el) = some p →
      lget s.dev.wpu.mko n none = none → s.dev.drives p.fired = true → s.dev.mkoDriven = true →
      Makes (.markerPulseStart dt n) s (fun d => d.wpu = { s.dev.wpu with
          marks := s.dev.wpu.marks.erase p, mko := lset s.dev.wpu.mko n (some (p.start + p.width)) } ∧
        d.out = s.dev.out ++ [.pin (.mko n) (s.dev.drive (s.dev.mkoSafe n) true)] ∧ d.regs = s.dev.regs)) ∧
    (∀ (n : Fin 16) (e : Nat), lget s.dev.wpu.mko n none = some e → e ≤ (s.dev.elapse dt).el →
      Makes (.markerPulseEnd dt n) s (fun d => d.wpu = { s.dev.wpu with mko := lset s.dev.wpu.mko n none } ∧
        d.out = s.dev.out ++ [.pin (.mko n) (s.dev.restLevel true (s.dev.mkoSafe n))] ∧ d.regs = s.dev.regs)) ∧
    (∀ (n : Fin 8) (p : Pulse), (s.dev.strobe n).sched.find? (fun p => p.start ≤ (s.dev.elapse dt).el) = some p → (s.dev.strobe n).active = none →
      (s.dev.strobe n).past = [] → s.dev.dutyNs n ≠ 0 → s.dev.drives p.fired = true → s.dev.pinsHeld = false →
      Makes (.strobePulseStart dt n) s (fun d => d.wpu = { s.dev.wpu with
          strobes := lset s.dev.wpu.strobes n ⟨(s.dev.strobe n).sched.erase p, some ((s.dev.elapse dt).el, p.start + p.width), []⟩ } ∧
        d.out = s.dev.out ++ [.pin (.stb n) (s.dev.drive (s.dev.stbSafe n) true)] ∧ d.regs = s.dev.regs)) ∧
    (∀ (n : Fin 8) (b e : Nat), (s.dev.strobe n).active = some (b, e) → e ≤ (s.dev.elapse dt).el →
      Makes (.strobePulseEnd dt n) s (fun d => d.out = s.dev.out ++ [.pin (.stb n) (s.dev.restLevel true (s.dev.stbSafe n))] ∧
        d.wpu.strobes = lset s.dev.wpu.strobes n { s.dev.strobe n with
          active := none, past := (b, (s.dev.elapse dt).el) :: (s.dev.strobe n).past.filter (fun q => (s.dev.elapse dt).el < q.2 + 100000) } ∧
        d.regs = s.dev.regs))

/-- FILTER_OUTPUT, COARSE_VALUE, SETTLE_END, DSM_STUCK (R110 to R118): the modulator bits run through the filter's paths; the last of them, before
which nothing came about, delivers the sample in FLT_OUT, or shows whether the filter still settles, or counts and reports a stuck input (0x17). The
filter is not one of a sine and cosine pair, whose samples go on to the position unit. That a command carries the bits up to its event is log entry 6,
where a clock's first rising edge lies log entry 107. -/
def Obligations.FilterEvents : Prop :=
  ∀ (s : State) (dt : Nat) (f : Fin 8) (bits : List Bool) (e : BitEvents) (before : List BitEvents),
    s.dev.isHeld .dsp = false → (s.dev.fltIn f).clkOn = true → (s.dev.fltIn f).use ≠ 1 → bits.length = (s.dev.elapse dt).bitsDue f →
    ((s.dev.filter f).bits (s.dev.fltIn f) (s.dev.tap f) bits).2.reverse = e :: before → before.all (fun x => !x.any) = true →
    (∀ (v : Int) (c sat : Bool), e.sample = some (v, c, sat) → e.stuck = false →
      Makes (.filterOutput dt f bits) s (fun d => d.rdF (a_DSP_FLT_OUT f) f_DSP_FLT_OUT_VALUE = uwrap v 40 ∧
        d.rdF (a_DSP_FLT_OUT f) f_DSP_FLT_OUT_VALID = 1 ∧ d.rdB (a_DSP_FLT_OUT f) f_DSP_FLT_OUT_COARSE = c ∧
        d.rdB (a_DSP_FLT_OUT f) f_DSP_FLT_OUT_SAT = sat ∧ d.wpu = s.dev.wpu)) ∧
    (e.sample = none → e.stuck = false →
      (e.coarse = true → Makes (.coarseValue dt f bits) s (fun d =>
        d.flt = lset s.dev.flt f { ((s.dev.filter f).bits (s.dev.fltIn f) (s.dev.tap f) bits).1 with at_ := (s.dev.elapse dt).clk.cyc } ∧ d.wpu = s.dev.wpu)) ∧
      (e.settled = true → Makes (.settleEnd dt f bits) s (fun d =>
        d.flt = lset s.dev.flt f { ((s.dev.filter f).bits (s.dev.fltIn f) (s.dev.tap f) bits).1 with at_ := (s.dev.elapse dt).clk.cyc } ∧ d.wpu = s.dev.wpu ∧
        d.rdB (a_DSP_FLT_STAT f) f_DSP_FLT_STAT_SETTLING = (((s.dev.filter f).bits (s.dev.fltIn f) (s.dev.tap f) bits).1.settle ≠ 0)))) ∧
    (e.stuck = true → e.sample = none → s.dev.plainErr 0x17 = true → Makes (.dsmStuck dt f bits) s (fun d =>
      d.rdF (a_DSP_FLT_STAT f) f_DSP_FLT_STAT_STUCK_CNT = min (s.dev.rdF (a_DSP_FLT_STAT f) f_DSP_FLT_STAT_STUCK_CNT + 1)
        (2 ^ f_DSP_FLT_STAT_STUCK_CNT.w - 1) ∧ d.mrg.err.fly.length = s.dev.mrg.err.fly.length + 1 ∧
      d.flt = lset s.dev.flt f { ((s.dev.filter f).bits (s.dev.fltIn f) (s.dev.tap f) bits).1 with at_ := (s.dev.elapse dt).clk.cyc }))

/-! ### Lanes and cameras -/

/-- RECEIVER_DETECT, TRAINING_FRAME, ALIGN_LOCK, ALIGN_LOSS, LANE_LOCK_LOSS, BRINGUP_STEP_TIMEOUT, BRINGUP_PAUSE_END, SIGNAL_DETECT, BLOCK_LOCK,
LANE_PLL_UNLOCK (R133, R153, R154, R423 to R429): what takes a lane from one step of its bring-up to the next, and what takes it back. -/
def Obligations.LaneBringUp : Prop :=
  ∀ (s : State) (dt : Nat),
    (∀ l : Fin 52, (s.dev.lane l).step = 1 → (s.dev.lane l).pause = none → laneUse l ≠ .eth →
      (laneUse l = .tether → ∃ t, (s.dev.port (l / 2)).clockAt = some t ∧ t + 1000000 ≤ (s.dev.elapse dt).refNs) →
      Makes (.receiverDetect dt l true) s (fun d => (d.lane l).step = 2 ∧ d.rdF (lnStat l) f_LQ_LN_STAT_STAGE = 2 ∧
        ∀ k, k ≠ l.val → d.lane k = s.dev.lane k)) ∧
    (∀ (l : Fin 40) (f : TrainFrame), (s.dev.lane l).step = 2 → (s.dev.lane l).extra = some 7 → f.control = 0 → f.controlN = ~~~ f.control →
      f.statusN = ~~~ f.status →
      Makes (.trainingFrame dt l f) s (fun d => (d.lane l).step = 3 ∧ d.rdB (lnStat l) f_LQ_LN_STAT_CDR_LOCK = true ∧
        d.rdF (lnStat l) f_LQ_LN_STAT_PRE = s.dev.rdF (lnStat l) f_LQ_LN_STAT_PRE ∧ ∀ k, k ≠ l.val → d.lane k = s.dev.lane k)) ∧
    (∀ (l : Fin 40) (blocks : List (List Byte)), (s.dev.lane l).step = 3 → 3 ≤ blocks.length → blocks.all isAlign = true →
      Makes (.alignLock dt ⟨l, blocks⟩) s (fun d => (d.lane l).step = (if laneUse l = .tether ∧ (s.dev.lane l).final then 5 else 4) ∧
        ∀ k, k ≠ l.val → d.lane k = s.dev.lane k)) ∧
    (∀ (l : Fin 40) (missed : Nat), 3 ≤ (s.dev.lane l).step → (s.dev.lane l).step < 6 →
      (4 ≤ missed → Makes (.alignLoss dt ⟨l, missed⟩) s (fun d => (d.lane l).step ≤ 1 ∧ d.rd (lnCnt l) = s.dev.rd (lnCnt l))) ∧
      (missed < 4 → Makes (.alignLoss dt ⟨l, missed⟩) s (fun d => d = s.dev.elapse dt))) ∧
    (∀ l : Fin 52, (s.dev.lane l).step = 6 → s.dev.plainErr 0x1B = true → (s.dev.port (l / 2)).reqs = [] →
      Makes (.laneLockLoss dt l) s (fun d => (d.lane l).step ≤ 1 ∧
        d.rdF (lnCnt l) f_LQ_LN_CNT_DOWN_CNT = min (s.dev.rdF (lnCnt l) f_LQ_LN_CNT_DOWN_CNT + 1) 65535)) ∧
    (∀ (l : Fin 40) (n : Nat), s.dev.stepLimit l = some n → (s.dev.lane l).since + n ≤ (s.dev.elapse dt).refNs → (s.dev.lane l).returns < 2 →
      (laneUse l = .tether → s.dev.laneModeKept (l / 2) = true) →
      Makes (.bringupStepTimeout dt l) s (fun d => (d.lane l).step ≤ 1 ∧ (d.lane l).returns = (s.dev.lane l).returns + 1 ∧ d.mrg = s.dev.mrg)) ∧
    (∀ (l : Fin 40) (t : Nat), (s.dev.lane l).pause = some t → t ≤ (s.dev.elapse dt).refNs → (s.dev.lane l).step ≤ 1 →
      Makes (.bringupPauseEnd dt l) s (fun d => (d.lane l).pause = none ∧ (d.lane l).step ≤ 1)) ∧
    (∀ k : Fin 4, s.dev.ethUsed k = true → (s.dev.lane (48 + k)).step = 1 → Makes (.signalDetect dt k) s (fun d => (d.lane (48 + k)).step = 3 ∧
      ∀ j, j ≠ 48 + k.val → d.lane j = s.dev.lane j)) ∧
    (∀ k : Fin 4, (s.dev.lane (48 + k)).step = 3 → s.dev.keel.pending = [] → Makes (.blockLock dt k) s (fun d => (d.lane (48 + k)).step = 6 ∧
      d.rdF (lnStat (48 + k)) f_LQ_LN_STAT_STAGE = 5 ∧ ∀ j, j ≠ 48 + k.val → d.lane j = s.dev.lane j)) ∧
    (∀ q : Fin 13, s.dev.rdB (a_LQ_QUAD_STAT q) f_LQ_QUAD_STAT_PLL_LOCK = true → (∀ l ∈ quadLanes q, (s.dev.lane l).step ≠ 6) →
      s.dev.plainErr 0x25 = true →
      Makes (.lanePllUnlock dt q) s (fun d => d.rdB (a_LQ_QUAD_STAT q) f_LQ_QUAD_STAT_PLL_LOCK = false ∧ d.clockGood (3 + q) = false ∧
        (∀ l ∈ quadLanes q, (d.lane l).step = 0) ∧ d.mrg.err.fly.length = s.dev.mrg.err.fly.length + 1))

/-- CAL_BURST_SEND, CAL_BURST_RECEIVE, LANE_BURST_MISS, ADAPT_FREEZE, ADAPT_RESUME, EYE_SCAN_DONE, MALFORMED, UNCORRECTABLE_CODEWORD (R132, R135,
R155, R430 to R435): bursts are numbered and leave with their blocks, a lane heard again is no longer missed, a miss is counted and reported once;
adaptation freezes and resumes; a scan leaves its bits and errors; what a Tether lane discards is counted on its port, and the symbols it corrects. -/
def Obligations.LaneUpkeep : Prop :=
  ∀ (s : State) (dt : Nat),
    (∀ l : Fin 40, 3 ≤ (s.dev.lane l).step → s.dev.cal.run = none → (s.dev.lane l).burstAt + 950000 ≤ (s.dev.elapse dt).refNs →
      Makes (.calBurstSend dt l) s (fun d => (d.lane l).burst = (s.dev.lane l).burst + 1 ∧ (d.lane l).burstAt = (s.dev.elapse dt).refNs ∧
        (d.lane l).step = (s.dev.lane l).step ∧ (∀ k, k ≠ l.val → d.lane k = s.dev.lane k) ∧
        d.out = ((s.dev.elapse dt).sendAligns l).out ++ [.lane l 3 (burstBytes (s.dev.lane l).burst)] ∧ d.regs = s.dev.regs)) ∧
    (∀ l : Fin 40, 3 ≤ (s.dev.lane l).step → s.dev.cal.run = none →
      Makes (.calBurstReceive dt l) s (fun d => d.lanes = lset s.dev.lanes l { s.dev.lane l with
        heardAt := (s.dev.elapse dt).refNs, missed := false } ∧ d.regs = s.dev.regs)) ∧
    (∀ l : Fin 40, (s.dev.lane l).step = 6 → (s.dev.lane l).missed = false → (s.dev.lane l).heardAt + 2000000 ≤ (s.dev.elapse dt).refNs →
      s.dev.plainErr 0x26 = true →
      Makes (.laneBurstMiss dt l) s (fun d => d.lanes = lset s.dev.lanes l { s.dev.lane l with missed := true } ∧
        d.rdF (lnCnt l) f_LQ_LN_CNT_BURST_MISS_CNT = min (s.dev.rdF (lnCnt l) f_LQ_LN_CNT_BURST_MISS_CNT + 1) 65535 ∧
        d.mrg.err.fly.length = s.dev.mrg.err.fly.length + 1)) ∧
    (∀ l : Fin 52, s.dev.laneActive l = true →
      Makes (.adaptFreeze dt l) s (fun d => d.rdB (lnStat l) f_LQ_LN_STAT_FROZEN = true ∧ d.lanes = s.dev.lanes ∧
        ∀ b, b ≠ lnStat l → d.rd b = s.dev.rd b) ∧
      Makes (.adaptResume dt l) s (fun d => d.rdB (lnStat l) f_LQ_LN_STAT_FROZEN =
          (s.dev.rdB (lnStat l) f_LQ_LN_STAT_FROZEN && s.dev.rdB (lnCfg l) f_LQ_LN_CFG_FREEZE_HOLD) ∧
        d.lanes = s.dev.lanes ∧ ∀ b, b ≠ lnStat l → d.rd b = s.dev.rd b)) ∧
    (∀ (l : Fin 52) (errors : Nat), s.dev.rdB (eyeCtrl l) f_LQ_EYE_CTRL_GO = true →
      Makes (.eyeScanDone dt l errors) s (fun d => d.rdB (eyeCtrl l) f_LQ_EYE_CTRL_GO = false ∧ d.rdB (eyeCtrl l) f_LQ_EYE_CTRL_DONE = true ∧
        d.rdF (a_LQ_EYE_RES (l / 4) (l % 4)) f_LQ_EYE_RES_BITS = 2 ^ s.dev.dwell l ∧
        d.rdF (a_LQ_EYE_RES (l / 4) (l % 4)) f_LQ_EYE_RES_ERRORS = min errors (2 ^ 32 - 1))) ∧
    (∀ l : Fin 40, l.val < 32 →
      Makes (.malformed dt l) s (fun d => d.rdF (a_TPT_STAT2 (l / 2)) f_TPT_STAT2_MALFORMED =
          min (s.dev.rdF (a_TPT_STAT2 (l / 2)) f_TPT_STAT2_MALFORMED + 1) 65535 ∧ ∀ b, b ≠ a_TPT_STAT2 (l / 2) → d.rd b = s.dev.rd b) ∧
      (∀ cw : List (BitVec 10),
        (rsCorrect (cw.map BitVec.toNat) = none →
          Makes (.uncorrectableCodeword dt ⟨l, cw⟩) s (fun d => d.rdF (a_TPT_STAT0 (l / 2)) f_TPT_STAT0_FEC_UNCORR =
            min (s.dev.rdF (a_TPT_STAT0 (l / 2)) f_TPT_STAT0_FEC_UNCORR + 1) 65535 ∧ ∀ b, b ≠ a_TPT_STAT0 (l / 2) → d.rd b = s.dev.rd b)) ∧
        (∀ n : Nat, rsCorrect (cw.map BitVec.toNat) = some n →
          Makes (.uncorrectableCodeword dt ⟨l, cw⟩) s (fun d => d.rdF (a_TPT_FEC_CORR (l / 2)) f_TPT_FEC_CORR_SYMBOLS =
            min (s.dev.rdF (a_TPT_FEC_CORR (l / 2)) f_TPT_FEC_CORR_SYMBOLS + n) (2 ^ 32 - 1) ∧
            ∀ b, b ≠ a_TPT_FEC_CORR (l / 2) → d.rd b = s.dev.rd b)))) ∧
    (∀ (l : Fin 40) (cw : List (BitVec 10)), 32 ≤ l.val → Makes (.malformed dt l) s (fun d => d = s.dev.elapse dt) ∧
      Makes (.uncorrectableCodeword dt ⟨l, cw⟩) s (fun d => d = s.dev.elapse dt))

/-- LINE_SEG, CAP, ACK, REG_RSP, CAM_EVENT, ECHO_RSP, ECHO_PERIODIC, CAM_REQUEST_TIMEOUT, LINE_SLOT_CLOSE (R134, R140, R144, R149, R151, R152, R153,
R155): a pixel segment with its CRC right enters its line's slot and one with its CRC wrong is counted; a valid CAP is kept and answered with a GRANT;
the ACK of a SET shows the line it took effect on; a response ends its request; an event is acknowledged, and delivered once; a round trip moves the
delay by at most 50 ps; a request unanswered is sent again; a slot closes at its instant. The corners of late and overlapping segments, and of requests
beyond 16, are log entries 67 and 69. -/
def Obligations.CameraPackets : Prop :=
  ∀ (s : State) (dt : Nat),
    (∀ (l : Fin 32) (pkt : List Byte), 3 ≤ (s.dev.lane l).step → pktType pkt = 0x10 → pktFormOk pkt = true →
      (pktCrcOk pkt = false → Makes (.lineSeg dt l pkt) s (fun d => d.ports = s.dev.ports ∧
        d.rdF (a_TPT_STAT0 (l / 2)) f_TPT_STAT0_SEG_CRC = min (s.dev.rdF (a_TPT_STAT0 (l / 2)) f_TPT_STAT0_SEG_CRC + 1) 65535)) ∧
      (∀ (i : Nat) (x : Slot), pktCrcOk pkt = true → s.dev.rdF a_RDG_XFWD f_RDG_XFWD_DONATED = 0 →
        (s.dev.port (l / 2)).slots.findIdx? (fun s => s.desc.line % 2 ^ 32 = leAt (slice pkt 0 16) 4 4) = some i →
        (s.dev.port (l / 2)).slots[i]? = some x → x.segs ≠ [] → s.dev.vcUse x.desc.ctx (l / 2) (pktVc (slice pkt 0 16)) = .pixel →
        leAt (slice pkt 0 16) 14 1 = s.dev.cF x.desc.ctx (a_TPT_CFG (l / 2)) f_TPT_CFG_PIX_DT →
        leAt (slice pkt 0 16) 8 4 + (pktPayload pkt).length ≤ s.dev.lineBytes x.desc.ctx (l / 2) →
        covered x.segs (leAt (slice pkt 0 16) 8 4) (pktPayload pkt).length = false →
        Makes (.lineSeg dt l pkt) s (fun d => (d.port (l / 2)).slots[i]?.map (fun y => (y.segs, y.long, y.desc, y.meta_)) =
            some (x.segs ++ [(leAt (slice pkt 0 16) 8 4, pktPayload pkt)], x.long, x.desc, x.meta_) ∧ d.regs = s.dev.regs))) ∧
    (∀ (l : Fin 32) (pkt : List Byte), (s.dev.lane l).step = 4 → pktType pkt = 0x20 → pktFormOk pkt = true → pktCrcOk pkt = true →
      (s.dev.port (l / 2)).reqs = [] → s.dev.rdF (a_TPT_LINK (l / 2)) f_TPT_LINK_CAP_ERR = 0 → s.dev.capErr (l / 2) (pktPayload pkt) = 0 →
      Makes (.cap dt l pkt) s (fun d => (∀ i : Fin 8, d.rd (a_TPT_CAP (l / 2) i) = BitVec.ofNat 64 (leAt (pktPayload pkt) (8 * i) 8)) ∧
        ∃ pay t, d.out = ((s.dev.elapse dt).sendAligns l).out ++ [.tether (l / 2) (l % 2) t (packet 4 0 (zeros 6 ++ leBytes 2 (s.dev.port (l / 2)).nextTag.toNat) pay)])) ∧
    (∀ (l : Fin 32) (pkt : List Byte) (r : CamReq), 3 ≤ (s.dev.lane l).step → pktFormOk pkt = true → pktCrcOk pkt = true →
      (pktType pkt = 0x23 → r.typ = 1 → pktStatus pkt ≠ 4 →
        ((s.dev.port (l / 2)).reqs.take 16).find? (fun r => r.tag = pktTag pkt && (r.typ = 4 || r.typ = 1) && r.typ = leAt pkt 13 1) = some r →
        Makes (.ack dt l pkt) s (fun d => d.rdF (a_TPT_EPOCH (l / 2)) f_TPT_EPOCH_APPLIED_LINE = leAt pkt 4 4 ∧
          (∀ q ∈ (d.port (l / 2)).reqs, q.tag ≠ r.tag) ∧ ∀ b, b ≠ a_TPT_EPOCH (l / 2) → d.rd b = s.dev.rd b)) ∧
      (∀ id : Nat, pktType pkt = 0x21 → r.cmd = some id → pktLen pkt = (if r.typ = 3 then 4 * leAt pkt 8 2 else 0) →
        ((s.dev.port (l / 2)).reqs.take 16).find? (fun r =>
          r.tag = pktTag pkt && (r.typ = 2 || r.typ = 3) && slice r.packet 4 6 = slice pkt 4 6) = some r →
        Makes (.regRsp dt l pkt) s (fun d => (∀ q ∈ (d.port (l / 2)).reqs, q.tag ≠ r.tag) ∧
          d.keel.pending = s.dev.keel.pending.filter (fun q => q.id ≠ id))) ∧
      (pktType pkt = 0x21 → pktLen pkt ≠ (if r.typ = 3 then 4 * leAt pkt 8 2 else 0) →
        ((s.dev.port (l / 2)).reqs.take 16).find? (fun r =>
          r.tag = pktTag pkt && (r.typ = 2 || r.typ = 3) && slice r.packet 4 6 = slice pkt 4 6) = some r →
        Makes (.regRsp dt l pkt) s (fun d => d.ports = s.dev.ports ∧ d.keel = s.dev.keel ∧
          d.rdF (a_TPT_STAT2 (l / 2)) f_TPT_STAT2_MALFORMED = min (s.dev.rdF (a_TPT_STAT2 (l / 2)) f_TPT_STAT2_MALFORMED + 1) 65535))) ∧
    (∀ (l : Fin 32) (pkt : List Byte), 3 ≤ (s.dev.lane l).step → pktType pkt = 0x22 → pktFormOk pkt = true → pktCrcOk pkt = true →
      Makes (.camEvent dt l pkt) s (fun d =>
        d.out = ((s.dev.elapse dt).sendAligns l).out ++ [.tether (l / 2) (l % 2)
          ((s.dev.lane l).slots (max (1000 * (s.dev.elapse dt).refNs) (s.dev.lane l).txEnd) 1).1
          (packet 5 0 (zeros 6 ++ leBytes 2 (pktTag pkt).toNat ++ [0, 0x22]) [])] ∧
        (if pktTag pkt ∈ (s.dev.port (l / 2)).evTags then d.host = s.dev.host ∧ d.ports = s.dev.ports
         else ∃ body, d.host.queue = s.dev.host.queue ++
          [.whole (s.dev.inF (a_TPT_VC_ROUTE (l / 2)) f_TPT_VC_ROUTE_META_RING) 9 (body ++ slice pkt 0 16 ++ pktPayload pkt)]))) ∧
    (∀ (l : Fin 32) (blk : List Byte) (rtt : Nat), (s.dev.lane l).step = 6 → leAt blk 0 1 = 0x67 → crc32c (slice blk 0 28) = leAt blk 28 4 →
      BitVec.ofNat 16 (leAt blk 1 2) ∈ (s.dev.lane l).echoes →
      Makes (.echoRsp dt l blk rtt) s (fun d => (d.lane l).dly ≤ (s.dev.lane l).dly + 50 ∧ (s.dev.lane l).dly ≤ (d.lane l).dly + 50 ∧
        (d.lane l).trips = (((rtt : Int) - 125 * (leAt blk 3 4 : Nat)) :: (s.dev.lane l).trips).take 64 ∧ (d.lane l).step = 6 ∧
        ∀ k, k ≠ l.val → d.lane k = s.dev.lane k)) ∧
    Makes (.echoPeriodic dt) s (fun d => d.regs = s.dev.regs ∧ ∀ l : Fin 32,
      (if (s.dev.lane l).step = 6 ∧ (s.dev.lane l).echoAt + 100000000 ≤ (s.dev.elapse dt).refNs then (d.lane l).echoAt = (s.dev.elapse dt).refNs
       else d.lane l = s.dev.lane l) ∧ (d.lane l).step = (s.dev.lane l).step) ∧
    (∀ (p : Fin 16) (i : Nat) (r : CamReq), ((s.dev.port p).reqs.take 16).findIdx? (fun r => r.sentAt + 1000000 ≤ (s.dev.elapse dt).refNs) = some i →
      (s.dev.port p).reqs[i]? = some r →
      (r.resends < 2 → Makes (.camRequestTimeout dt p) s (fun d =>
        (∃ t, d.out = ((s.dev.elapse dt).sendAligns r.lane).out ++ [.tether (r.lane / 2) (r.lane % 2) t r.packet]) ∧
        d.rdF (a_TPT_STAT2 p) f_TPT_STAT2_REQ_RETRY = min (s.dev.rdF (a_TPT_STAT2 p) f_TPT_STAT2_REQ_RETRY + 1) 65535 ∧ d.mrg = s.dev.mrg)) ∧
      (2 ≤ r.resends → r.cmd = none → s.dev.plainErr 0x18 = true → Makes (.camRequestTimeout dt p) s (fun d =>
        (∀ q ∈ (d.port p).reqs, q.tag ≠ r.tag) ∧ d.mrg.err.fly.length = s.dev.mrg.err.fly.length + 1))) ∧
    (∀ (p : Fin 16) (i : Nat) (x : Slot), (s.dev.port p).slots.findIdx? (fun x => x.closeAt ≤ (s.dev.elapse dt).refNs) = some i →
      (s.dev.port p).slots[i]? = some x →
      Makes (.lineSlotClose dt p) s (fun d => (d.port p).slots = (s.dev.port p).slots.eraseIdx i ∧
        (d.port p).closedTo = some (max x.desc.line ((s.dev.port p).closedTo.getD 0)) ∧
        d.rdF (a_TPT_STAT1 p) f_TPT_STAT1_MISSING = (if x.segs = [] then min (s.dev.rdF (a_TPT_STAT1 p) f_TPT_STAT1_MISSING + 1) 65535
          else s.dev.rdF (a_TPT_STAT1 p) f_TPT_STAT1_MISSING)))

/-! ### The way of a line: pipeline, mosaic, segmentation, classification, crops -/

/-- PIPE_LINE, MOSAIC_LINE, LOFT_FROZEN, SEAM_UPDATE, LINE_LABEL, REPMARK_POSITION (R161, R177, R197, R218, R225, R263, R264): an active pipeline
takes in its oldest line and, with no lag, emits it to the mosaic line merge; the mosaic's oldest line due leaves it, for the loft too; a freeze that
has run out stops the writer; the oldest course that ended is measured, and its registration is set for the course after the next; segmentation takes
in the oldest mosaic line; the first repeat mark locks the repeat to its position. -/
def Obligations.LineStages : Prop :=
  ∀ (s : State) (dt : Nat),
    (∀ (n : Fin 17) (i : InLine) (rest : List InLine), (s.dev.pipe n).input = i :: rest → (s.dev.pipe n).hist = [] → (s.dev.pipe n).done = none →
      (s.dev.pipe n).stats = none → (s.dev.pipe n).ready = [] → s.dev.spare.comps = [] → s.dev.cal.run = none → s.dev.pipeRole i.desc.ctx n = 0 →
      s.dev.cF i.desc.ctx (a_PIPE_ALIGN_CFG n) f_PIPE_ALIGN_CFG_ALIGN_LAG = 0 →
      s.dev.cB i.desc.ctx (a_PIPE_STAT_CFG n) f_PIPE_STAT_CFG_EN = false →
      (∀ x ∈ (s.dev.port (s.dev.pipePort i.desc.ctx n)).slots, i.desc.line ≤ x.desc.line) →
      Makes (.pipeLine dt n) s (fun d => (d.pipe n).input = rest ∧ (d.pipe n).done = some i.desc.line ∧
        d.mrg.mosaic.fly.length = s.dev.mrg.mosaic.fly.length + 1 ∧ ∀ m, m ≠ n.val → d.pipe m = s.dev.pipe m)) ∧
    (∀ (x : LineDesc) (rest : List LineDesc), s.dev.mos.todo = x :: rest → s.dev.mosaicDue x = true → x.ctx.mode ≠ 5 → s.dev.cls.rec_.enc = none →
      s.dev.cls.rec_.waiting = false → s.dev.cls.rec_.unread = [] →
      Makes (.mosaicLine dt) s (fun d => d.mos.todo = rest ∧ d.cls.emitted = some x.line ∧
        (s.dev.cls.frozen = false → s.dev.cls.freeze = none → d.cls.newest = some x.line ∧
          d.rdF a_CLS_LOFT_CTRL f_CLS_LOFT_CTRL_NEWEST = x.line / 8 % 2 ^ 61))) ∧
    (s.dev.cls.freeze = some 0 → Makes (.loftFrozen dt) s (fun d => d.cls = { s.dev.cls with freeze := none, frozen := true } ∧
      d.rdB a_CLS_LOFT_CTRL f_CLS_LOFT_CTRL_FROZEN = true ∧ ∀ b, b ≠ a_CLS_LOFT_CTRL → d.rd b = s.dev.rd b)) ∧
    (∀ (k : MosCourse) (rest : List MosCourse), s.dev.mos.closed = k :: rest → s.dev.established = false → s.dev.cal.run = none → k.ctx.run = s.dev.wpu.ctx.run →
      Makes (.seamUpdate dt) s (fun d => d.mos.closed = rest ∧ d.mos.todo = s.dev.mos.todo ∧
        (k.ctx.first + 2 * k.ctx.len, (List.range (k.ctx.cams.length - 1)).map (fun i => (s.dev.seamEntry k i).next)) ∈ d.mos.regAt)) ∧
    (∀ (m : MosLine) (rest : List MosLine), s.dev.seg.arrived = m :: rest →
      (s.dev.segOver = false ∨ s.dev.seg.nextLabel = none) → s.dev.mem.bad = [] → s.dev.plainErr 0x1E = true →
      Makes (.lineLabel dt) s (fun d => d.seg.arrived = rest ∧ d.seg.run = some m.desc.ctx.run ∧ (d.seg.hist.map (·.line)).head? = some m ∧
        d.cls.emitted = s.dev.cls.emitted)) ∧
    (∀ (tm : W64) (j : LineDesc) (rest : List LineDesc), s.dev.seg.mark = some tm → s.dev.seg.marked = false →
      s.dev.wpu.issued.filter (fun l => decide ((l.time.toNat : Int) ≤ (tm.toNat : Int)) && l.epoch = s.dev.clk.epoch) = j :: rest →
      s.dev.wpu.issued.find? (fun l => l.line = j.line + 1) = none → j.speedValid = false →
      Makes (.repmarkPosition dt) s (fun d => d.seg.mark = none ∧ d.seg.marked = true ∧ d.seg.lastMark = some j.pos ∧
        d.seg.origin = j.pos - s.dev.cF s.dev.wpu.ctx a_SEG_REP_MARK f_SEG_REP_MARK_MARK_OFS_NM ∧
        d.rdB a_SEG_REP_STAT f_SEG_REP_STAT_LOCKED = true))

/-- BLOB_CLASSIFY, PASS2_DONE, PASS2_TIMEOUT, COURSE_CLOSE_TIMEOUT, COURSE_RECORD_SEND (R253 to R257, R273): with trees whose classes ask for no
action, the oldest blob takes its class and is counted, or waits for its second pass in INSPECT_DEEP; a second pass that is done, or that has lasted
2 ms, leaves the queue, the latter counted as failed; a course closes 200 µs after its end, 2,200 µs in INSPECT_DEEP; a closed course whose records
have arrived is sent. CROP_CUT_START, CROP_PIN_EXPIRY, CROP_END (R266 to R268, R277): the crop at the head of the queue starts once its last line is in the
loft and an engine is idle; it closes TRUNCATED when its pin expires with lines unread; closed, it leaves the queue and is counted. -/
def Obligations.BlobsAndCrops : Prop :=
  (∀ (s : State) (dt : Nat), (∀ (c : CourseCtx) (k : Nat), k < 65536 →
        leAt (s.dev.tab.readBytes tabDefault (tabAddr 0x21 0 (s.dev.bankOf c) (32 * k)) 32) 1 1 = 0) →
      (∀ (b : BlobDesc) (rest : List BlobDesc), s.dev.cls.queue = b :: rest → s.dev.cls.rolls = [] →
        (((s.dev.firstPass b).2 = false ∨ b.ctx.mode ≠ 4) →
          Makes (.blobClassify dt) s (fun d => d.cls.queue = rest ∧ d.cls.pass2 = s.dev.cls.pass2 ∧ d.rdF a_CLS_STAT0 f_CLS_STAT0_CLASSIFIED =
            min (s.dev.rdF a_CLS_STAT0 f_CLS_STAT0_CLASSIFIED + 1) (2 ^ f_CLS_STAT0_CLASSIFIED.w - 1) ∧ d.mrg = s.dev.mrg)) ∧
        ((s.dev.firstPass b).2 = true → b.ctx.mode = 4 → s.dev.cB b.ctx a_CLS_CFG f_CLS_CFG_PASS2_EN = true →
          Makes (.blobClassify dt) s (fun d => d.cls.queue = rest ∧ d.regs = s.dev.regs ∧
            d.cls.pass2 = s.dev.cls.pass2 ++ [⟨b, (s.dev.firstPass b).1, (s.dev.elapse dt).el⟩]))) ∧
      (∀ (x : Pass2) (rest : List Pass2), s.dev.cls.pass2 = x :: rest →
        (x.at_ + 2000000 ≤ (s.dev.elapse dt).el →
          Makes (.pass2Timeout dt) s (fun d => d.cls.pass2 = rest ∧ d.rdF a_CLS_STAT0 f_CLS_STAT0_P2_FAIL_CNT =
            min (s.dev.rdF a_CLS_STAT0 f_CLS_STAT0_P2_FAIL_CNT + 1) (2 ^ f_CLS_STAT0_P2_FAIL_CNT.w - 1) ∧ d.mrg = s.dev.mrg)) ∧
        (∀ (inner : Int × Int × Int × Int) (xa xb ya yb : Int) (e : Nat), s.dev.p2Boxes x.blob = (inner, xa, xb, ya, yb) →
          (s.dev.elapse dt).el ≤ x.at_ + 2000000 → s.dev.cls.emitted = some e → yb ≤ e → s.dev.mem.bad = [] →
          (∀ k < (yb - ya + 1).toNat, s.dev.inLoft (ya + k).toNat = true) →
          (winSums inner (xa, xb, ya, yb) (fun gx gy => unpack12 (lget ((List.range (yb - ya + 1).toNat).map (fun k : Nat =>
            s.hbmRead (s.dev.loftAddr x.blob.ctx (ya + k).toNat + 64) (s.dev.loftSlot x.blob.ctx - 64))) (gy - ya).toNat []) gx.toNat)).features ≠ none →
          Makes (.pass2Done dt) s (fun d => d.cls.pass2 = rest ∧
            d.rdF a_CLS_STAT0 f_CLS_STAT0_P2_FAIL_CNT = s.dev.rdF a_CLS_STAT0 f_CLS_STAT0_P2_FAIL_CNT ∧
            d.rdF a_CLS_STAT0 f_CLS_STAT0_CLASSIFIED =
              min (s.dev.rdF a_CLS_STAT0 f_CLS_STAT0_CLASSIFIED + 1) (2 ^ f_CLS_STAT0_CLASSIFIED.w - 1)))) ∧
      ((∀ r ∈ s.dev.cls.rolls, r.ends = none) → Makes (.courseCloseTimeout dt) s (fun d => d = { s.dev.elapse dt with cls := { s.dev.cls with
        courses := s.dev.cls.courses.map (fun c => match c.ends with
          | some (_, _, at_) => if at_ + (if c.ctx.mode = 4 then 2200000 else 200000) ≤ (s.dev.elapse dt).el then { c with closed := true } else c
          | none => c) } })) ∧
      (∀ c : ClsCourse, s.dev.cls.courses.find? s.dev.courseReady = some c → s.dev.cB c.ctx a_CLS_CFG f_CLS_CFG_COURSE_EN = true →
        s.dev.isPartner = false →
        Makes (.courseRecordSend dt) s (fun d => d.cls.courses = s.dev.cls.courses.filter (fun x => x.ctx.first ≠ c.ctx.first) ∧
          d.mrg.record.fly.length = s.dev.mrg.record.fly.length + 1 ∧ d.regs = s.dev.regs))) ∧
  (∀ (s : State) (dt : Nat) (c : Crop) (rest : List Crop), s.dev.cls.crops = c :: rest →
      (∀ e : Nat, c.started = none → c.closed = none → s.dev.cls.emitted = some e → c.y0 + c.h ≤ e + 1 → s.dev.mem.bad = [] → s.dev.freeEngine ≠ none →
        Makes (.cropCutStart dt) s (fun d => ∃ c' : Crop, d.cls.crops = c' :: rest ∧ c'.id = c.id ∧ c'.started = some (s.dev.elapse dt).el)) ∧
      (∀ t : Nat, c.started = some t → c.closed = none → c.lines < c.h →
        t + max 1 (s.dev.rdF a_CLS_CROP_CFG f_CLS_CROP_CFG_PIN_MS) * 1000000 ≤ (s.dev.elapse dt).el →
        Makes (.cropPinExpiry dt) s (fun d => d = { s.dev.elapse dt with cls := { s.dev.cls with crops := { c with closed := some 1 } :: rest } })) ∧
      (∀ t : Nat, c.started = some t → c.closed = some 1 →
        Makes (.cropEnd dt) s (fun d => d.cls.crops = rest ∧ d.rdF a_CLS_STAT1 f_CLS_STAT1_CROP_TRUNC_CNT =
          min (s.dev.rdF a_CLS_STAT1 f_CLS_STAT1_CROP_TRUNC_CNT + 1) (2 ^ f_CLS_STAT1_CROP_TRUNC_CNT.w - 1))) ∧
      (∀ t : Nat, c.started = some t → c.closed = none → c.lines = c.h →
        Makes (.cropEnd dt) s (fun d => d.cls.crops = rest ∧
          d.rdF a_CLS_STAT1 f_CLS_STAT1_CROP_TRUNC_CNT = s.dev.rdF a_CLS_STAT1 f_CLS_STAT1_CROP_TRUNC_CNT)))

/-! ### Device time, the PTP port, Ethernet -/

/-- PPS_IN_EDGE, PPS_OUT_RISE, PPS_OUT_FALL, TIME_TT, TIME_SAVE, HOLDOVER, TIME_STEP_APPLY (R361, R364, R366, R367, R372, R374): an accepted edge is
timed in eighths of a nanosecond, and with SRC = 2 gives the offset of its second; the pulse begins at an instant not yet driven and ends after its
width; a trigger whose time has come fires, a one-shot disarming itself; the time is saved; 4 s without an offset end LOCKED; a step moves device time
by its amount, raises the epoch and ends its command. -/
def Obligations.DeviceTime : Prop :=
  ∀ (s : State) (dt : Nat), s.dev.isHeld .time = false →
    (∀ f : Fin 8, s.dev.clk.ppsLast = none →
      (s.dev.rdF a_TIME_CTRL f_TIME_CTRL_SRC ≠ 2 →
        Makes (.ppsInEdge dt f) s (fun d => d.rd a_TIME_PPS_IN_TS = BitVec.ofNat 64 ((s.dev.elapse dt).now.toNat * 8 + f) ∧
          d.clk = { (s.dev.elapse dt).clk with ppsLast := some (8 * (s.dev.elapse dt).el + f) } ∧ d.rd a_TIME_OFFSET = s.dev.rd a_TIME_OFFSET)) ∧
      (s.dev.rdF a_TIME_CTRL f_TIME_CTRL_SRC = 2 → s.dev.rdB a_TIME_STAT f_TIME_STAT_SET = true → s.dev.plainErr 0x23 = true →
        Makes (.ppsInEdge dt f) s (fun d => d.rd a_TIME_TOD_NEXT = s.dev.rd a_TIME_TOD_NEXT + 1 ∧
          d.rd a_TIME_OFFSET = BitVec.ofInt 64 (rhe ((s.dev.elapse dt).now.toNat * 8 + f) 3 - (s.dev.rd a_TIME_TOD_NEXT).toNat * 1000000000)))) ∧
    (∀ e : Nat, (s.dev.elapse dt).ppsInstant = some e → s.dev.clk.ppsDone ≠ some e → s.dev.clk.ppsOutEnd = none →
      s.dev.rdB a_TIME_STAT f_TIME_STAT_LOCKED = true →
      Makes (.ppsOutRise dt) s (fun d => d.out = s.dev.out ++ [.pin .ppsOut .high] ∧ d.clk = { (s.dev.elapse dt).clk with
        ppsDone := some e, ppsOutEnd := some ((s.dev.elapse dt).el - ((s.dev.elapse dt).now.toNat - e) + max 1 (s.dev.rdF a_TIME_PPS_OUT f_TIME_PPS_OUT_WIDTH_NS)) })) ∧
    (∀ x : Nat, s.dev.clk.ppsOutEnd = some x → x ≤ (s.dev.elapse dt).el →
      Makes (.ppsOutFall dt) s (fun d => d.out = s.dev.out ++ [.pin .ppsOut .low] ∧ d.clk = { (s.dev.elapse dt).clk with ppsOutEnd := none } ∧
        d.regs = s.dev.regs)) ∧
    (∀ (k : Fin 8) (at_ start : Nat), lget s.dev.clk.ttNext k none = some (at_, start) → at_ ≤ (s.dev.elapse dt).now.toNat →
      s.dev.rdB (a_TIME_TT_CFG k) f_TIME_TT_CFG_ACTION = false →
      Makes (.timeTt dt k) s (fun d => d.rdF (a_TIME_TT_STAT k) f_TIME_TT_STAT_FIRE_CNT =
          min (s.dev.rdF (a_TIME_TT_STAT k) f_TIME_TT_STAT_FIRE_CNT + 1) (2 ^ f_TIME_TT_STAT_FIRE_CNT.w - 1) ∧
        d.clk = { (s.dev.elapse dt).clk with
          ttNext := lset s.dev.clk.ttNext k (if s.dev.ttPeriod k = 0 then none else some (at_ + s.dev.ttPeriod k, start)) } ∧
        (s.dev.ttPeriod k = 0 → d.rdB (a_TIME_TT_CFG k) f_TIME_TT_CFG_EN = false))) ∧
    ((∀ t : Nat, s.dev.clk.savedAt = some t → t + 1000000 ≤ (s.dev.elapse dt).el) →
      Makes (.timeSave dt) s (fun d => d = { s.dev.elapse dt with clk := { (s.dev.elapse dt).clk with
        savedTime := (s.dev.elapse dt).now, savedEpoch := s.dev.clk.epoch, savedAt := some (s.dev.elapse dt).el } })) ∧
    (s.dev.rdB a_TIME_STAT f_TIME_STAT_SET = true → s.dev.clk.lastOffset + 4000000000 ≤ (s.dev.elapse dt).el →
      Makes (.holdover dt) s (fun d => d.rdB a_TIME_STAT f_TIME_STAT_HOLDOVER = true ∧ d.rdB a_TIME_STAT f_TIME_STAT_LOCKED = false ∧
        ∀ b, b ≠ a_TIME_STAT → d.rd b = s.dev.rd b)) ∧
    (∀ (id : Nat) (amount : Int), s.dev.clk.step = some (id, amount) → (∀ k, lget s.dev.clk.ttNext k none = none) →
      Makes (.timeStepApply dt) s (fun d => d.clk.epoch = s.dev.clk.epoch + 1 ∧ d.clk.step = none ∧
        d.clk.acc = (s.dev.elapse dt).clk.acc + (BitVec.ofInt 112 amount <<< 48) ∧ d.rdB a_TIME_STAT f_TIME_STAT_SET = true ∧
        d.keel.pending = s.dev.keel.pending.filter (fun p => p.id ≠ id)))

/-- PTP_SYNC_RX, PTP_FOLLOW_UP_RX, PTP_DELAY_REQ_TX, PTP_DELAY_RESP_RX, PTP_ANNOUNCE_RX, PTP_ANNOUNCE_TIMEOUT, PTP_DELAY_REQ_RX, PTP_SYNC_TX,
PTP_ANNOUNCE_TX (R369 to R371): the port keeps the instants of the exchange with its master, and the last of them gives the offset; an announcing clock
is remembered; without Announce the port listens or is master; a master answers and sends, numbering what it sends. The message formats and the
comparison of clocks are those of IEEE 1588, which the rules name (log entry 27). -/
def Obligations.PtpPort : Prop :=
  ∀ (s : State) (dt : Nat),
    (∀ m : PtpMsg, s.dev.fromMaster m = true →
      (m.twoStep = true → Makes (.ptpSyncRx dt m) s (fun d => d = { s.dev.elapse dt with clk := { (s.dev.elapse dt).clk with
        ptpSync := some (m.seqId, ((s.dev.elapse dt).ingress8 m.ts8 * 8192 : Nat), m.correction) } })) ∧
      (m.twoStep = false → Makes (.ptpSyncRx dt m) s (fun d => d = { s.dev.elapse dt with clk := { (s.dev.elapse dt).clk with
        ptpSync := none, ptpPair := some (m.time, ((s.dev.elapse dt).ingress8 m.ts8 * 8192 : Nat), m.correction) } })) ∧
      (∀ t2 c : Int, s.dev.clk.ptpSync = some (m.seqId, t2, c) →
        Makes (.ptpFollowUpRx dt m) s (fun d => d = { s.dev.elapse dt with clk := { (s.dev.elapse dt).clk with
          ptpSync := none, ptpPair := some (m.time, t2, c + m.correction) } })) ∧
      (∀ t1 t2 t3 cs : Int, s.dev.clk.ptpReq = some (m.seqId, t3) → s.dev.clk.ptpPair = some (t1, t2, cs) → m.reqId = s.dev.portId →
        s.dev.plainErr 0x23 = true → s.dev.rdB a_TIME_STAT f_TIME_STAT_SET = true →
        Makes (.ptpDelayRespRx dt m) s (fun d => d.clk.ptpReq = none ∧ d.ptpState = 9 ∧
          d.rd a_TIME_OFFSET = (if s.dev.rdF a_TIME_CTRL f_TIME_CTRL_SRC = 1 then
            BitVec.ofInt 64 (rhe (rdiv ((t2 - t1 - cs) - (m.time - t3 - m.correction)) 2) 16 - fgetS (s.dev.rd a_TIME_PTP_LAT) f_TIME_PTP_LAT_ASYM_NS)
            else s.dev.rd a_TIME_OFFSET)))) ∧
    (∀ m : PtpMsg, s.dev.ptpMine m = true → m.srcId ≠ s.dev.portId → m.gmId.toNat ≠ s.dev.clockId → m.stepsRemoved.toNat < 255 →
      Makes (.ptpAnnounceRx dt m) s (fun d => d.clk.foreign.head?.map (·.1) = some m.srcId ∧
        d.clk.foreign.tail = s.dev.clk.foreign.filter (fun x => x.1 != m.srcId) ∧ d.rd a_TIME_OFFSET = s.dev.rd a_TIME_OFFSET)) ∧
    (∀ m : PtpMsg, s.dev.ptpMine m = true → s.dev.ptpState = 6 → Makes (.ptpDelayReqRx dt m) s (fun d => ∃ o, d = (s.dev.elapse dt).emit o)) ∧
    (s.dev.ptpOn = true →
      (∀ f : Fin 8, (s.dev.ptpState = 8 ∨ s.dev.ptpState = 9) →
        Makes (.ptpDelayReqTx dt f) s (fun d => d.clk = { (s.dev.elapse dt).clk with
            ptpReqSeq := s.dev.clk.ptpReqSeq + 1, ptpReq := some (s.dev.clk.ptpReqSeq, ((s.dev.elapse dt).egress8 f * 8192 : Nat)) } ∧
          d.out.length = s.dev.out.length + 1 ∧ d.regs = s.dev.regs)) ∧
      (∀ f : Fin 8, s.dev.ptpState = 6 →
        Makes (.ptpSyncTx dt f) s (fun d => d.clk = { (s.dev.elapse dt).clk with ptpSyncSeq := s.dev.clk.ptpSyncSeq + 1 } ∧
          d.out.length = s.dev.out.length + 1 ∧ d.regs = s.dev.regs)) ∧
      (s.dev.ptpState = 6 →
        Makes (.ptpAnnounceTx dt) s (fun d => d.clk = { (s.dev.elapse dt).clk with ptpAnnSeq := s.dev.clk.ptpAnnSeq + 1 } ∧
          d.out.length = s.dev.out.length + 1 ∧ d.regs = s.dev.regs)) ∧
      (s.dev.ptpState ≠ 6 → s.dev.clk.ptpAnnAt + 3 * s.dev.announceNs ≤ (s.dev.elapse dt).el →
        Makes (.ptpAnnounceTimeout dt) s (fun d => d.clk.ptpMaster = none ∧ d.clk.foreign = [] ∧
          d.ptpState = (if s.dev.ptpF f_TIME_PTP_CFG_SLAVE_ONLY = 0 then 6 else 4) ∧ ∀ b, b ≠ a_TIME_PTP_STAT → d.rd b = s.dev.rd b)))

/-- SUBSCRIBE, RENEW, UNSUBSCRIBE, VIEW_LEASE_EXPIRY, VIEW_FRAME, ARP_REQUEST, ICMP_ECHO, FRAME_DISCARD (R321, R323 to R325): an accepted
subscription takes the lowest free slot; one from outside VIEW_ACL is counted and makes no view; a renewal restarts the lease; the end of a
subscription or of its lease frees the slot; a frame sent counts on; requests for the address of a port that is up and echo requests to it are answered;
other frames are counted. The replies' layouts are those of RFC 826 and RFC 792 (log entry 28). -/
def Obligations.EthernetPorts : Prop :=
  ∀ (s : State) (dt : Nat), s.dev.isHeld .eth = false →
    (∀ (f : UdpFrame) (k : Nat), isViewMsg f 2 22 = true → f.dstIp.toNat = s.dev.portIp f.port → s.dev.ethMbps f.port ≠ 0 →
      (List.range 32).find? (fun k => !(s.dev.rdF a_ETH_VIEW_RSV f_ETH_VIEW_RSV_RSV).testBit k && (s.dev.viewAt k).isNone) = some k →
      (s.dev.aclOk f.srcIp = true → s.dev.viewStatus (leAt f.payload 4 4) (leAt f.payload 8 4) (leAt f.payload 12 1) (leAt f.payload 13 1)
          (leAt f.payload 14 2) = 0 →
        Makes (.subscribe dt f) s (fun d => ∃ v : View, d.views = s.dev.views.filter (fun x => x.slot ≠ k) ++ [v] ∧ v.slot = k ∧ v.dest = none ∧
          v.ip = f.srcIp ∧ v.mac = f.srcMac ∧ v.x0 = leAt f.payload 4 4 ∧ v.x1 = leAt f.payload 8 4 ∧ v.lease = (s.dev.elapse dt).el)) ∧
      (s.dev.aclOk f.srcIp = false →
        Makes (.subscribe dt f) s (fun d => d.views = s.dev.views ∧ d.rdF a_ETH_VIEW_STAT f_ETH_VIEW_STAT_REFUSED_CNT =
          min (s.dev.rdF a_ETH_VIEW_STAT f_ETH_VIEW_STAT_REFUSED_CNT + 1) (2 ^ f_ETH_VIEW_STAT_REFUSED_CNT.w - 1)))) ∧
    (∀ (f : UdpFrame) (v : View), f.dstIp.toNat = s.dev.portIp f.port → s.dev.ethMbps f.port ≠ 0 → s.dev.aclOk f.srcIp = true →
      s.dev.viewAt (leAt f.payload 4 1) = some v → v.dest = none →
      (isViewMsg f 3 5 = true → Makes (.renew dt f) s (fun d =>
        d.views = s.dev.views.filter (fun x => x.slot ≠ v.slot) ++ [{ v with lease := (s.dev.elapse dt).el }])) ∧
      (isViewMsg f 4 5 = true → Makes (.unsubscribe dt f) s (fun d => d.views = s.dev.views.filter (fun x => x.slot ≠ v.slot)))) ∧
    (∀ (k : Fin 32) (v : View), s.dev.viewAt k = some v →
      (v.dest = none → v.lease + 5000000000 ≤ (s.dev.elapse dt).el →
        Makes (.viewLeaseExpiry dt k) s (fun d => d.views = s.dev.views.filter (fun x => x.slot ≠ k.val) ∧ (v.todo = [] → d.out = s.dev.out))) ∧
      (∀ n : Nat, (s.dev.elapse dt).now.toNat / framePeriod v.rate ≠ v.last → s.dev.cls.newest = some n → v.busyUntil ≤ (s.dev.elapse dt).el →
        s.dev.ethMbps (s.dev.viewPort v) ≠ 0 → s.dev.mem.bad = [] → s.dev.freeEngine ≠ none →
        (s.dev.elapse dt).exhausted 5 (.hbm 0) = false → (s.dev.elapse dt).exhausted 5 (.hbm 1) = false → (s.dev.elapse dt).exhausted 5 .tha = false →
        Makes (.viewFrame dt k) s (fun d => ∃ v' : View, d.viewAt k = some v' ∧ v'.frame = v.frame + 1 ∧
          v'.last = (s.dev.elapse dt).now.toNat / framePeriod v.rate))) ∧
    (∀ (p : Fin 4) (target sender : W32) (mac : BitVec 48), s.dev.ethMbps p ≠ 0 →
      (target.toNat = s.dev.portIp p →
        Makes (.arpRequest dt p target sender mac) s (fun d => ∃ bytes, d = (s.dev.elapse dt).emit (.eth p sender mac 0 bytes) ∧ bytes.length = 28)) ∧
      (target.toNat ≠ s.dev.portIp p → Makes (.arpRequest dt p target sender mac) s (fun d => d = { s.dev.elapse dt with
        host := { s.dev.host with ethDropped := s.dev.host.ethDropped + 1 } }))) ∧
    (∀ (p : Fin 4) (f : UdpFrame), s.dev.ethMbps p ≠ 0 → f.dstIp.toNat = s.dev.portIp p →
      Makes (.icmpEcho dt p f) s (fun d => d = (s.dev.elapse dt).emit (.eth p f.srcIp f.srcMac 0
        ([0, 0] ++ netBytes 2 (inetSum ([0, 0, 0, 0] ++ f.payload)) ++ f.payload)))) ∧
    (∀ p : Fin 4,
      Makes (.frameDiscard dt p false) s (fun d => d = { s.dev.elapse dt with host := { s.dev.host with ethDropped := s.dev.host.ethDropped + 1 } }) ∧
      Makes (.frameDiscard dt p true) s (fun d => d.rdF a_TIME_PTP_STAT f_TIME_PTP_STAT_RX_DISCARD =
        min (s.dev.rdF a_TIME_PTP_STAT f_TIME_PTP_STAT_RX_DISCARD + 1) (2 ^ f_TIME_PTP_STAT_RX_DISCARD.w - 1)))

/-! ### Thatch engines and the memory -/

/-- THATCH_JOB_START, THATCH_RESUME, THATCH_SAVE, THATCH_RESTORE, THATCH_JOB_END (R277, R280, R281, R284, R285, R294): an idle engine takes a job and
runs; its first output, the stream header (with the end block where there is no input) or what a decompression gives, is written as far as the
destination has room, and the engine stalls with the rest. A stalled engine that gets space writes as much as fits and goes on. A save ends the block
in progress; once that is written its state goes to the stacks, and the engine shows that; when the state has left, the engine is idle. A saved state
comes back to an idle engine with the stream as the bytes read give it. A job all of whose output fits ends: its output is written and its result given,
a failed decompression reported. What an engine has done since it last worked is `engRun`, on the cycles its client's budget allowed (R278; log entries
78 and 114). -/
def Obligations.ThatchJobs : Prop :=
  ∀ (s : State) (dt : Nat) (e : Fin 16), s.dev.tha.engines.length = 16 → let el := (s.dev.elapse dt).el
    (∀ (j : ThaJob) (first : List Byte), (s.dev.engine e).job = none → (s.dev.engine e).own = none → s.dev.reachable .tha = true →
      (j.compress = false ∨ j.bounded = false ∨ 1024 ≤ j.outLimit) →
      first = (if j.compress then streamHeader j.level j.kind j.input.length ++ (if j.input = [] then (StreamSt.start j.level).endBlock else [])
        else (thatchDecode (if s.dev.rdF a_THA_CFG f_THA_CFG_RATIO = 0 then 64 else min (s.dev.rdF a_THA_CFG f_THA_CFG_RATIO) 4096) j.outMax j.input).out) →
      Makes (.thatchJobStart dt e j) s (fun d => (∃ x : EngSt, d.tha = { s.dev.tha with engines := lset s.dev.tha.engines e x } ∧
          x.job = some j ∧ x.enc = .start j.level ∧ x.wrote = min j.room first.length ∧ (x.todo = [] ↔ first.length ≤ j.room) ∧ x.room = j.room ∧
          x.coded = 0 ∧ x.at_ = el ∧ x.busy = false ∧ x.save = none) ∧
        (0 < min j.room first.length → j.dst + min j.room first.length ≤ hbmBytes → d.hbmw = s.dev.hbmw ++ [(j.dst, first.take j.room)]) ∧
        d.rdF (a_THA_ENG_STAT e) f_THA_ENG_STAT_STATE = (if j.room < first.length then 3 else if j.compress then 1 else 2) ∧
        d.rdF (a_THA_ENG_STAT e) f_THA_ENG_STAT_CLIENT = j.client ∧ d.rdB (a_THA_ENG_STAT e) f_THA_ENG_STAT_MODE = j.bounded ∧
        d.rdF (a_THA_ENG_STAT e) f_THA_ENG_STAT_LEVEL = (if j.compress then j.level.val else 0) ∧
        ∀ b, b ≠ a_THA_ENG_STAT e → b ≠ a_THA_ENG_CNT e → d.rd b = s.dev.rd b)) ∧
    (∀ (j : ThaJob) (room : Nat) (x : EngSt), s.dev.engine e = x → x.job = some j → x.busy = false → x.save = none → x.todo ≠ [] → x.room = x.wrote →
      (x.ends = true ∨ (j.input ≠ [] ∧ x.got < 100 * x.need j)) →
      Makes (.thatchResume dt e room) s (fun d =>
        d.tha = { s.dev.tha with engines := lset s.dev.tha.engines e { x with
          room := x.room + room, todo := x.todo.drop room, wrote := x.wrote + min room x.todo.length, at_ := el } } ∧
        (0 < room → j.dst + x.wrote + min room x.todo.length ≤ hbmBytes → d.hbmw = s.dev.hbmw ++ [(j.dst + x.wrote, x.todo.take room)]) ∧
        d.rdF (a_THA_ENG_STAT e) f_THA_ENG_STAT_STATE = (if room < x.todo.length then 3 else if j.compress then 1 else 2) ∧
        ∀ b, b ≠ a_THA_ENG_STAT e → b ≠ a_THA_ENG_CNT e → d.rd b = s.dev.rd b)) ∧
    (∀ (j : ThaJob) (pos addr : Nat) (d0 : Dev) (x y : EngSt), d0 = (s.dev.elapse dt).engRun e → x = d0.engine e → x.job = some j →
      j.compress = true → x.busy = false → x.ends = false → x.save = none → x.todo = [] →
      y = (if min (max (x.got / 100) pos) (x.need j) = 0 then x else x.codeBlock j (min (max (x.got / 100) pos) (x.need j))) → x.wrote + y.todo.length ≤ x.room →
      j.dst + x.wrote + y.todo.length ≤ hbmBytes → addr + 256 + 2 ^ levelWindow j.level ≤ hbmBytes →
      ((d0.mem.closed || d0.mem.retire.isSome) && hitsRefuge d0.mapOrder addr (256 + 2 ^ levelWindow j.level)) = false →
      Makes (.thatchSave dt e pos addr) s (fun d =>
        d.hbmw = d0.hbmw ++ (if y.todo = [] then [] else [(j.dst + x.wrote, y.todo)]) ++
          [(addr, y.context j.bounded ++ (y.enc.hist.take (2 ^ levelWindow j.level)).reverse)] ∧
        d.tha = { d0.tha with
          engines := lset d0.tha.engines e { y with todo := [], wrote := x.wrote + y.todo.length, busy := true, leaving := true }
          saved := alSet d0.tha.saved addr { y with todo := [], wrote := x.wrote + y.todo.length, got := 0 } } ∧
        d.rdF (a_THA_ENG_STAT e) f_THA_ENG_STAT_STATE = 4)) ∧
    (∀ j : ThaJob, (s.dev.engine e).job = some j → (s.dev.engine e).busy = true → (s.dev.engine e).leaving = true →
      (s.dev.elapse dt).exhausted j.client (.hbm 0) = false → (s.dev.elapse dt).exhausted j.client (.hbm 1) = false →
      Makes (.thatchJobEnd dt e) s (fun d => d.tha = { s.dev.tha with engines := lset s.dev.tha.engines e .reset } ∧
        d.rdF (a_THA_ENG_STAT e) f_THA_ENG_STAT_STATE = 0 ∧ d.out = s.dev.out)) ∧
    (∀ (addr : Nat) (p : Nat × EngSt) (j : ThaJob), s.dev.tha.saved.find? (fun p => p.1 = addr) = some p → p.2.job = some j →
      (s.dev.engine e).job = none → (s.dev.engine e).own = none → s.dev.reachable .tha = true → s.dev.mem.bad = [] →
      Makes (.thatchRestore dt e addr) s (fun d => d.tha = { s.dev.tha with engines := lset s.dev.tha.engines e { p.2 with
          enc := p.2.readBack j.bounded (s.hbmRead addr (256 + (p.2.enc.hist.take (2 ^ levelWindow j.level)).length))
          at_ := el, busy := true, leaving := false } } ∧
        d.rdF (a_THA_ENG_STAT e) f_THA_ENG_STAT_STATE = 5 ∧ ∀ b, b ≠ a_THA_ENG_STAT e → d.rd b = s.dev.rd b)) ∧
    (∀ (j : ThaJob) (d0 : Dev) (x y : EngSt) (left : Nat) (w : List Byte) (r : DecResult), d0 = (s.dev.elapse dt).engRun e → x = d0.engine e →
      x.job = some j → x.busy = false → d0.exhausted j.client .tha = false → x.work (jobSteps j) (100 * j.input.length) [] = (y, left, w) →
      y.todo = [] → y.ends = true → r = thatchDecode x.ratio j.outMax j.input → let taken := if j.compress then y.coded else r.consumed
      (j.compress = true ∨ r.status = 0 →
        Makes (.thatchJobEnd dt e) s (fun d => d.tha = { d0.tha with engines := lset d0.tha.engines e .reset } ∧
          (w ≠ [] → j.dst + x.wrote + w.length ≤ hbmBytes → d.hbmw = d0.hbmw ++ [(j.dst + x.wrote, w)]) ∧
          d.out = s.dev.out ++ [.thatch e 0 taken y.wrote] ∧
          d.rdF (a_THA_ENG_STAT e) f_THA_ENG_STAT_STATE = 0 ∧ d.rdF (a_THA_ENG_CNT e) f_THA_ENG_CNT_IN_KIB =
            min (d0.rdF (a_THA_ENG_CNT e) f_THA_ENG_CNT_IN_KIB + (taken / 1024 - x.coded / 1024)) (2 ^ 32 - 1) ∧ d.mrg = s.dev.mrg)) ∧
      (j.compress = false → r.status ≠ 0 → s.dev.plainErr 0x1F = true →
        Makes (.thatchJobEnd dt e) s (fun d => d.tha = { d0.tha with engines := lset d0.tha.engines e .reset } ∧
          d.out = s.dev.out ++ [.thatch e r.status r.consumed y.wrote] ∧
          d.rdF a_THA_DEC_STAT f_THA_DEC_STAT_LAST_ERR = r.status % 16 ∧ d.mrg.err.fly.length = s.dev.mrg.err.fly.length + 1)))

/-- REFRESH, RFM, HBM_TEMP_SAMPLE, ROW_CLOSE, POWER_DOWN_ENTRY, SELF_REFRESH_ENTRY, SELF_REFRESH_EXIT, PC_ZERO_DONE (R395 to R402): a refresh closes
the bank's row, sets its predictor to 2 and pays RAAIMT; an RFM pays it, lets held activations follow as far as RAAMMT allows, and counts itself and
the hold; a stack's temperature is shown, and HOT with it; an idle row closes; an idle channel powers down, and drains and stops for self-refresh,
and comes back 900 ns after its entry for a request; a zeroed channel is active. TRACKING_STEP_P, SETPOINT_RELOCK, HBM_SCRUB, MIGRATION_DONE (R403,
R406, R408, R410, R413): step P begins 100 ms after the last and ends with the next command; relocked PLLs bring the new setpoint and end its
command; the scrubber goes on and counts what it finds; a migrated channel is retired. That entry to self-refresh is a command of its own is log
entry 85. -/
def Obligations.MemoryUpkeep : Prop :=
  (∀ (s : State) (dt : Nat) (st : Fin 2) (pc : Fin 32), let x := s.dev.stack st; let p := s.dev.pc st pc
    (∀ b : Fin 48, let k := s.dev.bank st pc b
      (p.mode = .active ∨ p.mode = .powerDown ∨ p.mode = .draining →
        Makes (.refresh dt st pc b) s (fun d => d.regs = s.dev.regs ∧ d.mem = { s.dev.mem with stack := lset s.dev.mem.stack st { x with
          banks := alSet x.banks (pc * 64 + b) { k with row := none, pred := 2, raa := k.raa - x.raaimt } } })) ∧
      (x.raaimt ≠ 0 → x.raaimt ≤ k.raa → Makes (.rfm dt st pc b) s (fun d =>
        d.mem = { s.dev.mem with stack := lset s.dev.mem.stack st { x with
          banks := alSet x.banks (pc * 64 + b) { k with
            raa := k.raa - x.raaimt + min k.held (x.raammt - (k.raa - x.raaimt))
            held := k.held - min k.held (x.raammt - (k.raa - x.raaimt)) } } } ∧
        d.rdF (a_HBM_REF_STAT st) f_HBM_REF_STAT_RFM_CNT = min (s.dev.rdF (a_HBM_REF_STAT st) f_HBM_REF_STAT_RFM_CNT + 1) (2 ^ 32 - 1) ∧
        d.rdF (a_HBM_REF_STAT st) f_HBM_REF_STAT_ALERT_CNT = min (s.dev.rdF (a_HBM_REF_STAT st) f_HBM_REF_STAT_ALERT_CNT + (if k.held = 0 then 0 else 1)) 65535)) ∧
      (k.row ≠ none → k.at_ + s.dev.memNs st (s.dev.rdF (a_HBM_PAGE_PWR st) f_HBM_PAGE_PWR_PAGE_IDLE) ≤ (s.dev.elapse dt).el →
        Makes (.rowClose dt st pc b) s (fun d => d.regs = s.dev.regs ∧ d.mem = { s.dev.mem with stack := lset s.dev.mem.stack st { x with
          banks := alSet x.banks (pc * 64 + b) { k with row := none } } }))) ∧
    (p.mode = .active → p.at_ + s.dev.memNs st (max 1 (s.dev.rdF (a_HBM_PAGE_PWR st) f_HBM_PAGE_PWR_PD_IDLE)) ≤ (s.dev.elapse dt).el →
      Makes (.powerDownEntry dt st pc) s (fun d => d.regs = s.dev.regs ∧ d.mem = { s.dev.mem with stack := lset s.dev.mem.stack st { x with
        pcs := lset x.pcs pc { p with mode := .powerDown, since := (s.dev.elapse dt).el, wants := false } } })) ∧
    ((p.mode = .active ∨ p.mode = .powerDown) → s.dev.rdF (a_HBM_PAGE_PWR st) f_HBM_PAGE_PWR_SR_IDLE ≠ 0 →
      p.at_ + s.dev.rdF (a_HBM_PAGE_PWR st) f_HBM_PAGE_PWR_SR_IDLE * 1000 ≤ (s.dev.elapse dt).el →
      Makes (.selfRefreshEntry dt st pc) s (fun d => d.regs = s.dev.regs ∧ ∃ banks : List (Nat × BankSt),
        (∀ k ∈ banks, k.1 / 64 = pc.val → k.2.row = none) ∧ d.mem = { s.dev.mem with stack := lset s.dev.mem.stack st { x with
          banks := banks, pcs := lset x.pcs pc { p with mode := .draining, since := (s.dev.elapse dt).el, wants := false } } })) ∧
    (p.mode = .draining → Makes (.selfRefreshEntry dt st pc) s (fun d => d.regs = s.dev.regs ∧
      d.mem = { s.dev.mem with stack := lset s.dev.mem.stack st { x with
        pcs := lset x.pcs pc { p with mode := .selfRefresh, since := (s.dev.elapse dt).el, wants := false } } })) ∧
    (p.mode = .selfRefresh → p.wants = true → x.retained = false → p.since + 900 ≤ (s.dev.elapse dt).el →
      Makes (.selfRefreshExit dt st pc) s (fun d => d.regs = s.dev.regs ∧ d.mem = { s.dev.mem with stack := lset s.dev.mem.stack st { x with
        pcs := lset x.pcs pc { p with mode := .active, since := (s.dev.elapse dt).el, wants := false } } })) ∧
    (p.mode = .zeroing → Makes (.pcZeroDone dt st pc) s (fun d => d.regs = s.dev.regs ∧
      d.mem = { s.dev.mem with stack := lset s.dev.mem.stack st { x with
        pcs := lset x.pcs pc { p with mode := .active, since := (s.dev.elapse dt).el, wants := false } } })) ∧
    (s.dev.mem.setp = none → (x.stepP = none → p.mode ≠ .off → (s.dev.retired st).testBit pc = false →
        p.track + 100000000 ≤ (s.dev.elapse dt).el → Makes (.trackingStepP dt st pc) s (fun d =>
          d.mem = { s.dev.mem with stack := lset s.dev.mem.stack st { x with stepP := some pc.val } } ∧
          d.rdF (a_HBM_TRN_STAT st) f_HBM_TRN_STAT_STEP = 0x50 ∧ d.rdB (a_HBM_TRN_STAT st) f_HBM_TRN_STAT_BUSY = true)) ∧
      (x.stepP = some pc.val → Makes (.trackingStepP dt st pc) s (fun d =>
          d.mem = { s.dev.mem with stack := lset s.dev.mem.stack st { x with
            stepP := none, pcs := lset x.pcs pc { p with track := (s.dev.elapse dt).el } } } ∧
          d.rdF (a_HBM_TRN_STAT st) f_HBM_TRN_STAT_STEP = 0 ∧ d.rdB (a_HBM_TRN_STAT st) f_HBM_TRN_STAT_BUSY = false)))) ∧
  (∀ (s : State) (dt : Nat) (st : Fin 2), let x := s.dev.stack st
    (∀ temp : Byte, s.dev.plainErr 0x45 = true → Makes (.hbmTempSample dt st temp) s (fun d =>
      d.rdF (a_HBM_REF_STAT st) f_HBM_REF_STAT_TEMP = temp.toNat ∧ d.rdB (a_HBM_REF_STAT st) f_HBM_REF_STAT_HOT =
        (if 85 < temp.toNat then true else if temp.toNat < 82 then false else s.dev.rdB (a_HBM_REF_STAT st) f_HBM_REF_STAT_HOT) ∧
      d.mem = { s.dev.mem with stack := lset s.dev.mem.stack st { x with hot95 := 95 ≤ temp.toNat } } ∧
      d.mrg.err.fly.length = s.dev.mrg.err.fly.length + (if 95 ≤ temp.toNat ∧ x.hot95 = false then 1 else 0))) ∧
    (s.dev.rdB (a_HBM_SCRUB_CFG st) f_HBM_SCRUB_CFG_EN = true → s.dev.scrubPc st (x.scrub % 32) = some (x.scrub % 32) →
      x.scrub < 32 * (pcBytes / 256) → s.dev.plainErr 0x08 = true → s.dev.plainErr 0x09 = true → s.dev.plainErr 0x0A = true →
      ∀ kind : Fin 4, Makes (.hbmScrub dt st kind) s (fun d =>
        d.mem.stack = lset s.dev.mem.stack st { x with
          scrub := (x.scrub + 1) % (32 * (pcBytes / 256)), pcs := if kind.val = 1 then lset x.pcs (x.scrub % 32) { lget x.pcs (x.scrub % 32) .reset with ce := (lget x.pcs (x.scrub % 32) .reset).ce + 1 } else x.pcs } ∧
        d.rdF (a_HBM_ECC_STAT st) f_HBM_ECC_STAT_CE_CNT = min (s.dev.rdF (a_HBM_ECC_STAT st) f_HBM_ECC_STAT_CE_CNT + (if kind.val = 1 then 1 else 0))
          (2 ^ f_HBM_ECC_STAT_CE_CNT.w - 1) ∧
        d.rdF (a_HBM_ECC_STAT st) f_HBM_ECC_STAT_ODE_CNT = min (s.dev.rdF (a_HBM_ECC_STAT st) f_HBM_ECC_STAT_ODE_CNT + (if kind.val = 2 then 1 else 0))
          (2 ^ f_HBM_ECC_STAT_ODE_CNT.w - 1) ∧
        (kind.val = 3 → unmapAddr s.dev.mapOrder st (x.scrub % 32) (x.scrub / 32) / 64 ∈ d.mem.bad) ∧
        (kind.val ≠ 3 → d.mem.bad = s.dev.mem.bad)))) ∧
  (∀ (s : State) (dt : Nat),
    (∀ (id mask sp : Nat), s.dev.mem.setp = some (id, mask, sp, true) → Makes (.setpointRelock dt) s (fun d =>
      d.mem.setp = none ∧ d.keel.pending = s.dev.keel.pending.filter (fun q => q.id ≠ id) ∧
      ∀ st : Fin 2, if mask.testBit st then d.clockGood (37 + st) = true ∧ d.rdF (a_HBM_TRN_STAT st) f_HBM_TRN_STAT_SETPOINT = sp % 2
        else d.clockGood (37 + st) = s.dev.clockGood (37 + st) ∧ d.rd (a_HBM_TRN_STAT st) = s.dev.rd (a_HBM_TRN_STAT st))) ∧
    (∀ r : Retire, s.dev.mem.retire = some r → r.started = true → r.stack < 2 → Makes (.migrationDone dt) s (fun d =>
      d.mem.retire = none ∧ d.mem.retired = lset s.dev.mem.retired r.stack (lget s.dev.mem.retired r.stack 0 ||| 2 ^ r.pc) ∧
      (∀ st : Fin 2, d.migrateReg st = 0) ∧
      (∀ id, r.cmd = some id → d.keel.pending = s.dev.keel.pending.filter (fun q => q.id ≠ id)) ∧ d.cal.auto = true)))

/-! ### The Ridge link and the pair -/

/-- HELLO_TX, HELLO, KEEP, LINE_DESC, MIRROR, TIME_SYNC (R365, R439 to R441, R443): a HELLO goes out when one is due; one received is kept, raises the
link where one was sent, and shows a failed check in PAIR_ERR; a silent control lane sends KEEP, and a KEEP received changes the link's own record
only; the partner adopts the authority's line as its own; a mirrored write is made at the partner; a TIME_SYNC request is answered with the instant of
its arrival. LATCH, PAIR_LATCH_CAPTURE, SYNC_DATA (R441): the partner takes the instant, captures at it, and takes the transferred tables; the
authority's capture establishes the pair. The layouts of HELLO, LINE_DESC, SYNC_DATA and TIME_SYNC are the model's (log entries 33, 25, 34 and 35). -/
def Obligations.PairLink : Prop :=
  ∀ (s : State) (dt : Nat), let el := (s.dev.elapse dt).el
    (s.dev.pairOn = true → s.dev.ridgeLanes false ≠ 0 → s.dev.pair.got = false → s.dev.ridgeUp = false → s.dev.pair.step ≠ 3 →
      (s.dev.pair.sent = false ∨ s.dev.pair.sentAt + 1000000 ≤ el) →
      Makes (.helloTx dt) s (fun d => d.pair = { s.dev.pair with txCtl := s.dev.pair.txCtl + 1, sent := true, sentAt := el } ∧ d.regs = s.dev.regs ∧
        d.out = s.dev.out ++ [.ridge 0x80 (packet 0x80 0 (leBytes 4 s.dev.pair.txCtl.toNat) s.dev.helloBody)])) ∧
    (∀ pkt : List Byte, s.dev.pairOn = true → ridgeOk 0x80 pkt = true → s.dev.pair.early = [] →
      (s.dev.ridgeUp = true → ridgeSeq pkt = s.dev.pair.rxCtl) →
      Makes (.hello dt pkt) s (fun d => d.pair.hello = some (pktPayload pkt) ∧ d.pair.got = true ∧ d.pair.heard = el ∧
        d.pair.rxCtl = ridgeSeq pkt + 1 ∧ d.ridgeUp = (s.dev.ridgeUp || s.dev.pair.sent) ∧
        (d.ridgeUp = true → s.dev.pair.rejoin = none → s.dev.established = false → s.dev.pair.step < 6 → s.dev.mode.starting = false →
          s.dev.mode.cur = .standby → leAt (pktPayload pkt) 31 1 = 0 → s.dev.pair.failed ≠ some (pktPayload pkt) →
          s.dev.helloCheck (pktPayload pkt) ≠ 0 →
          d.rdF a_RDG_STAT f_RDG_STAT_PAIR_ERR = s.dev.helloCheck (pktPayload pkt) ∧ d.pair.failed = some (pktPayload pkt) ∧ d.pair.step = 0))) ∧
    (∀ l : Fin 40, s.dev.pairOn = true → (l.val = 32 ∨ l.val = 36) → s.dev.laneActive l = true →
      Makes (.keep dt l []) s (fun d => d.regs = s.dev.regs ∧
        d.out = s.dev.out ++ [.ridge 0x81 (packet 0x81 0 (leBytes 4 s.dev.pair.txCtl.toNat) [])])) ∧
    (∀ (l : Fin 40) (pkt : List Byte), s.dev.awaits 0x81 pkt = true →
      Makes (.keep dt l pkt) s (fun d => d = { s.dev.elapse dt with pair := (s.dev.elapse dt).afterPacket 0x81 })) ∧
    (∀ (pkt : List Byte) (n : Nat), s.dev.awaits 0x82 pkt = true → s.dev.isPartner = true → s.dev.split = false → s.dev.acquiring = true →
      s.dev.pair.adopt = false → s.dev.mode.pend = none → s.dev.pair.points = [] → leAt (pktPayload pkt) 0 8 = n → n ≠ s.dev.wpu.ctx.first →
      (s.dev.rd a_WPU_LINE_CNT).toNat = n → n + 1 < s.dev.nextFirst → n + 16 ≠ s.dev.nextFirst → s.dev.plainErr 0x1C = true →
      Makes (.lineDesc dt pkt) s (fun d => d.rd a_WPU_LINE_CNT = s.dev.rd a_WPU_LINE_CNT + 1 ∧ ∃ x : LineDesc, d.wpu.lastLine = some x ∧
        x.line = n ∧ x.time.toNat = leAt (pktPayload pkt) 8 8 ∧ x.pos = sext (leAt (pktPayload pkt) 24 8) 64 ∧ x.ctx = s.dev.wpu.ctx ∧
        d.mos.todo = s.dev.mos.todo ++ [x] ∧ d.pair.descs = s.dev.pair.descs ++ [(n, el)])) ∧
    (∀ (pkt : List Byte) (a n : Nat) (p : Part), s.dev.awaits 0x84 pkt = true → s.dev.isPartner = true → (pktPayload pkt).length = 16 →
      leAt (pktPayload pkt) 0 4 = a → leAt (pktPayload pkt) 4 1 = n → sizeOk a n = true → inAon a = false → accessParts a n = some [p] →
      p.unit = .bal → s.dev.reachable .bal = true → s.dev.isLocked .bal = false → s.dev.plainErr 0x0D = true →
      Makes (.mirror dt pkt) s (fun d => d.rd p.addr =
          (storeFields p.reg p.mask false (fun _ => false) (s.dev.rd p.addr) (p.lay (BitVec.ofNat 64 (leAt (pktPayload pkt) 8 8)))).1 ∧
        ∀ b, b ≠ p.addr → d.rd b = s.dev.rd b)) ∧
    (∀ (pkt : List Byte) (f8 : Fin 8), s.dev.awaits 0x83 pkt = true → leAt (pktPayload pkt) 8 8 = 0 → s.dev.authority = true →
      s.dev.ridgeLanes false ≠ 0 → let t := leBytes 8 ((s.dev.elapse dt).now.toNat * 8 + f8)
      Makes (.timeSync dt f8 pkt) s (fun d => d.regs = s.dev.regs ∧ d.clk = (s.dev.elapse dt).clk ∧
        d.out = s.dev.out ++ [.ridge 0x83 (packet 0x83 0 (leBytes 4 s.dev.pair.txCtl.toNat)
          (padTo (leBytes 8 (leAt (pktPayload pkt) 0 8) ++ t ++ t) 32))])) ∧
    (∀ (pkt : List Byte) (t : W64), s.dev.awaits 0x87 pkt = true → s.dev.authority = false → s.dev.pair.step = 4 →
      t.toNat = leAt (pktPayload pkt) 0 8 → s.dev.pair.tL ≠ some t →
      Makes (.latch dt pkt) s (fun d => d.regs = s.dev.regs ∧
        d.pair = { (s.dev.elapse dt).afterPacket 0x87 with tL := some t, mine := none, theirs := none })) ∧
    (∀ t : W64, s.dev.pairOn = true → s.dev.pair.tL = some t → s.dev.pair.mine = none → t.toNat ≤ (s.dev.elapse dt).now.toNat →
      (s.dev.authority = false → s.dev.pair.theirs = none → Makes (.pairLatchCapture dt) s (fun d => d.regs = s.dev.regs ∧
        d.pair = { s.dev.pair with mine := some ⟨s.dev.rd (a_WPU_ENC_POS s.dev.master), toNm s.dev.wpu.t (s.dev.scaleOf s.dev.master)⟩ })) ∧
      (s.dev.authority = true → s.dev.pair.rejoin = none → s.dev.plainErr 0x28 = true → Makes (.pairLatchCapture dt) s (fun d =>
        d.established = true ∧ d.pair.step = 6 ∧ (d.ring 15).en = true ∧ d.rdB (a_MBX_CFG 15) f_MBX_CFG_EN = true ∧
        d.mrg.err.fly.length = s.dev.mrg.err.fly.length + 1))) ∧
    (∀ pkt : List Byte, s.dev.awaits 0x92 pkt = true → s.dev.mayJoin = true →
      (leAt (pktPayload pkt) 0 1 = 8 → leAt (pktPayload pkt) 8 1 = 0 → Makes (.syncData dt pkt) s (fun d => d.tab = [] ∧ d.seg.cm = [] ∧
        d.regs = s.dev.regs ∧ d.pair.step = 2)) ∧
      (leAt (pktPayload pkt) 0 1 = 2 → s.dev.pair.step = 2 → Makes (.syncData dt pkt) s (fun d => d.regs = s.dev.regs ∧ d.pair.step = 2 ∧
        d.tab = (pieces 9 ((pktPayload pkt).drop 8)).foldl (fun m e => m.write tabDefault (leAt e 0 8) ((e.drop 8).headD 0)) s.dev.tab)))

/-- ENVELOPE_PACKET, RIDGE_RECORD, XSEG (R329, R342, R448, R449): an envelope is posted to mailbox 15, a response is kept for the command it ends; a
partner's record enters pair merge; a segment enters its line's slot as if received here. AUTH_OFFER, AUTH_ACCEPT, AUTH_RELEASE, AUTH_SAFE (R452,
R454, R455): the partner accepts an offer; an accepted one moves authority at once or with the course; RELEASE brings it to the partner; SAFE brings
SAFE_HOLD with the authority's cause. The layout of XSEG is the model's (log entry 20). -/
def Obligations.PairPackets : Prop :=
  ∀ (s : State) (dt : Nat) (pkt : List Byte), let b := pktPayload pkt; let el := (s.dev.elapse dt).el
    (s.dev.awaits 0x85 pkt = true → s.dev.established = true →
      ((∀ x ∈ slice b 12 20, x = 0) → s.dev.pair.box.length < 64 → (s.dev.ring 15).en = true →
        Makes (.envelopePacket dt pkt) s (fun d => d.pair = { (s.dev.elapse dt).afterPacket 0x85 with
            box := s.dev.pair.box ++ [(s.dev.effectFirst, (s.dev.rd a_WPU_LINE_CNT).toNat)] } ∧
          (keelSlot ((s.dev.ring 15).tail.toNat % 64), b) ∈ d.hbmw ∧
          (d.ring 15).tail = (s.dev.ring 15).tail + 1 ∧ d.keel = s.dev.keel ∧ d.regs = s.dev.regs)) ∧
      (∀ f : Fwd, (∃ x ∈ slice b 12 20, x ≠ 0) → leAt b 23 1 = 0 → s.dev.keel.fwd.find? (fun f => f.id = leAt b 16 4) = some f → f.mine = none →
        leAt b 20 2 = 0 → Makes (.envelopePacket dt pkt) s (fun d => d.keel = { s.dev.keel with
          fwd := s.dev.keel.fwd.map (fun (g : Fwd) => if g.id = leAt b 16 4 then { g with theirs := some 0 } else g) } ∧ d.regs = s.dev.regs))) ∧
    (s.dev.awaits 0x90 pkt = true → s.dev.established = true → s.dev.authority = true →
      Makes (.ridgeRecord dt pkt) s (fun d => (d.mrg.get .pair).fly = (s.dev.mrg.get .pair).fly ++
          [⟨stampOf b, BitVec.ofNat 16 (leAt b 12 2), .pairRec s.dev.pair.recon el b⟩] ∧
        (d.mrg.get .pair).held = (s.dev.mrg.get .pair).held ∧ d.regs = s.dev.regs)) ∧
    (∀ (p : Fin 16) (i : Nat) (x : Slot), s.dev.awaits 0x91 pkt = true → s.dev.established = true → leAt b 0 4 = p.val →
      (s.dev.port p).slots.findIdx? (fun s => s.desc.line % 2 ^ 32 = leAt (slice b 4 16) 4 4) = some i → (s.dev.port p).slots[i]? = some x →
      x.segs ≠ [] → s.dev.vcUse x.desc.ctx p (pktVc (slice b 4 16)) = .pixel →
      leAt (slice b 4 16) 14 1 = s.dev.cF x.desc.ctx (a_TPT_CFG p) f_TPT_CFG_PIX_DT →
      leAt (slice b 4 16) 8 4 + (b.drop 32).length ≤ s.dev.lineBytes x.desc.ctx p →
      covered x.segs (leAt (slice b 4 16) 8 4) (b.drop 32).length = false →
      Makes (.xseg dt pkt) s (fun d => (d.port p).slots[i]?.map (fun y => (y.segs, y.long, y.desc, y.meta_)) =
        some (x.segs ++ [(leAt (slice b 4 16) 8 4, b.drop 32)], x.long, x.desc, x.meta_) ∧ d.regs = s.dev.regs)) ∧
    (s.dev.awaits 0x86 pkt = true →
      (leAt b 0 1 = 1 → s.dev.isPartner = true → s.dev.split = false → s.dev.ridgeLanes false ≠ 0 →
        Makes (.authOffer dt pkt) s (fun d => d.regs = s.dev.regs ∧
          d.pair.hand = (if s.dev.acquiring then some (0, true, some 0) else s.dev.pair.hand) ∧
          d.out = s.dev.out ++ [.ridge 0x86 (packet 0x86 0 (leBytes 4 s.dev.pair.txCtl.toNat) (padTo [2] 16))])) ∧
      (∀ id : Nat, leAt b 0 1 = 2 → s.dev.authority = true →
        (s.dev.pair.hand = some (id, true, none) → Makes (.authAccept dt pkt) s (fun d => d.regs = s.dev.regs ∧
          d.pair = { (s.dev.elapse dt).afterPacket 0x86 with hand := some (id, true, some (s.dev.elapse dt).now) })) ∧
        (s.dev.pair.hand = some (id, false, none) → Makes (.authAccept dt pkt) s (fun d => d.authority = false ∧ d.pair.hand = none ∧
          d.pair.moved = some (el, false, false) ∧ ∀ q ∈ d.keel.pending, q.id ≠ id))) ∧
      (leAt b 0 1 = 3 → s.dev.isPartner = true → s.dev.plainErr 0x2B = true → Makes (.authRelease dt pkt) s (fun d =>
        d.authority = true ∧ d.rd a_RDG_POS_OFS = 0 ∧ d.pair.hand = none ∧ d.pair.moved = some (el, true, false) ∧
        d.rdF a_RDG_CNT1 f_RDG_CNT1_TAKEOVER_CNT =
          min (s.dev.rdF a_RDG_CNT1 f_RDG_CNT1_TAKEOVER_CNT + 1) (2 ^ f_RDG_CNT1_TAKEOVER_CNT.w - 1) ∧
        d.mrg.err.fly.length = s.dev.mrg.err.fly.length + 1)) ∧
      (leAt b 0 1 = 4 → s.dev.isPartner = true → s.dev.mode.starting = false → Makes (.authSafe dt pkt) s (fun d => d.mode.cur = .safeHold ∧
        d.mode.safeCause = (if s.dev.mode.cur = .safeHold then s.dev.mode.safeCause else BitVec.ofNat 4 (leAt b 1 1)))))

/-- RIDGE_GAP, RIDGE_LOST, SPLIT_DECISION (R439, R440, R452, R457): a missing packet is given up and counted; a link that has heard nothing for 10 µs
is down, and the partner's lines are UNVERIFIED; 110 µs later FENCE_OK and the strap decide. FENCE_PULSE, FENCE_PARTNER_PULSE, FENCE_OK_TIMEOUT,
FENCE_RELEASE_SEEN (R451, R455): what drives FENCE and what is seen on it. PAIR_COMPARE_TIMEOUT, HANDOVER_SAFE_LEVEL, SHADOW_SLIP,
HELD_SEGMENT_TIMEOUT, REJOIN_LOCK_TIMEOUT (R444, R448, R454, R457, R458): what has waited too long is counted or ended. How near its instant a FENCE
pulse is driven, and what the table of R452 leaves open, is log entry 38. -/
def Obligations.PairEvents : Prop :=
  ∀ (s : State) (dt : Nat), let el := (s.dev.elapse dt).el
    (∀ (bulk : Bool) (seq : W32) (t : Nat) (pkt : List Byte), s.dev.pairOn = true → s.dev.pair.early = [(bulk, seq, t, pkt)] → pktType pkt = 0x81 →
      t + 50000 ≤ el → s.dev.plainErr 0x27 = true →
      Makes (.ridgeGap dt bulk) s (fun d => d.pair.early = [] ∧ d.rxSeq bulk = seq + 1 ∧ d.rxSeq (!bulk) = s.dev.rxSeq (!bulk) ∧
        d.rdF a_RDG_CNT1 f_RDG_CNT1_GAP_CNT = min (s.dev.rdF a_RDG_CNT1 f_RDG_CNT1_GAP_CNT + 1) (2 ^ f_RDG_CNT1_GAP_CNT.w - 1) ∧
        d.mrg.err.fly.length = s.dev.mrg.err.fly.length + 1)) ∧
    (s.dev.pairOn = true → s.dev.ridgeUp = true → s.dev.pair.heard + 10000 ≤ el →
      (s.dev.established = false → Makes (.ridgeLost dt) s (fun d => d.ridgeUp = false ∧ d.rd a_RDG_XFWD = 0 ∧
        d.pair = { s.dev.pair with sent := false, got := false, early := [], lostAt := some el })) ∧
      (s.dev.isPartner = true → s.dev.pair.points = [] → Makes (.ridgeLost dt) s (fun d => d.ridgeUp = false ∧ d.rd a_RDG_XFWD = 0 ∧
        d.rdB a_RDG_STAT f_RDG_STAT_UNVERIFIED = true ∧ d.pair.lostAt = some el ∧ d.pair.hand = none ∧ d.keel.fwd = []))) ∧
    (∀ t : Nat, s.dev.pair.lostAt = some t → s.dev.pairOn = true → t + 110000 ≤ el → s.dev.established = true → s.dev.ridgeUp = false →
      s.dev.authority = false → s.dev.split = false → s.dev.plainErr 0x29 = true → s.dev.plainErr 0x2B = true →
      Makes (.splitDecision dt) s (fun d => d.pair.lostAt = none ∧
        (if s.dev.rdg f_RDG_STAT_FENCE_OK = true ∨ s.dev.rst.primary = false then d.split = true ∧ d.pair.keys = [] ∧ d.authority = false
         else d.split = false ∧ d.authority = true))) ∧
    (s.dev.inB a_RDG_CFG f_RDG_CFG_EN = true →
      (s.dev.rdB a_TIME_STAT f_TIME_STAT_SET = true → (∀ t, s.dev.pair.drove = some t → t + 1000 ≤ el) →
        ((s.dev.elapse dt).now.toNat + 20000 - (if s.dev.rst.primary then 0 else 10000)) % 20000 < 2 →
        Makes (.fencePulse dt) s (fun d => d = { s.dev.elapse dt with
          pair := { s.dev.pair with drove := some el }, out := s.dev.out ++ [.fencePulse 1000] })) ∧
      ((∀ t, s.dev.pair.drove = some t → t + 1500 ≤ el) → Makes (.fencePartnerPulse dt) s (fun d =>
        d.rdB a_RDG_STAT f_RDG_STAT_FENCE_OK = true ∧ d.pair = { s.dev.pair with pulse := some el } ∧ ∀ b, b ≠ a_RDG_STAT → d.rd b = s.dev.rd b)) ∧
      (s.dev.established = true → s.dev.plainErr 0x2B = true → Makes (.fenceReleaseSeen dt) s (fun d => d.authority = true ∧ d.established = false ∧
        d.pair.step = 7 ∧ d.pair.box = [] ∧ d.rdB (a_MBX_CFG 15) f_MBX_CFG_EN = false))) ∧
    (s.dev.rdg f_RDG_STAT_FENCE_OK = true → (∀ t, s.dev.pair.pulse = some t → t + 100000 ≤ el) →
      (s.dev.established = false → Makes (.fenceOkTimeout dt) s (fun d => d.rdg f_RDG_STAT_FENCE_OK = false ∧ d.mrg = s.dev.mrg ∧
        d.pair = s.dev.pair)) ∧
      (s.dev.established = true → s.dev.ridgeUp = true → s.dev.plainErr 0x2C = true → Makes (.fenceOkTimeout dt) s (fun d =>
        d.rdg f_RDG_STAT_FENCE_OK = false ∧ d.established = true ∧ d.mrg.err.fly.length = s.dev.mrg.err.fly.length + 1))) ∧
    Makes (.pairCompareTimeout dt) s (fun d => d.pair.own = s.dev.pair.own.filter (fun r => el < r.2.2 + 2000000) ∧
      d.pair.theirs_ = s.dev.pair.theirs_.filter (fun r => el < r.2.2 + 2000000) ∧ d.rdF a_RDG_CNT0 f_RDG_CNT0_ONLY_AUTH_CNT =
        min (s.dev.rdF a_RDG_CNT0 f_RDG_CNT0_ONLY_AUTH_CNT + (s.dev.pair.own.filter (fun r => r.2.2 + 2000000 ≤ el)).length)
          (2 ^ f_RDG_CNT0_ONLY_AUTH_CNT.w - 1) ∧ d.rdF a_RDG_CNT0 f_RDG_CNT0_MISMATCH_CNT =
        min (s.dev.rdF a_RDG_CNT0 f_RDG_CNT0_MISMATCH_CNT + (s.dev.pair.theirs_.filter (fun r => r.2.2 + 2000000 ≤ el)).length)
          (2 ^ f_RDG_CNT0_MISMATCH_CNT.w - 1)) ∧
    (∀ h : Nat, s.dev.pair.moved = some (h, true, false) → h + 1200000 ≤ el → Makes (.handoverSafeLevel dt) s (fun d =>
      d.pair = { s.dev.pair with moved := some (h, true, true) } ∧ d.regs = s.dev.regs ∧ s.dev.out <+: d.out)) ∧
    (s.dev.isPartner = true → s.dev.ridgeUp = true → let late (t : Nat) : Bool := decide (t ≠ 0 ∧ t + 5000 < el)
      Makes (.shadowSlip dt) s (fun d => d.pair = { s.dev.pair with
          points := s.dev.pair.points.map (fun p => if late p.2 then (p.1, 0) else p), descs := s.dev.pair.descs.filter (fun p => !late p.2) } ∧
        d.rdF a_RDG_CNT1 f_RDG_CNT1_SHADOW_SLIP = min (s.dev.rdF a_RDG_CNT1 f_RDG_CNT1_SHADOW_SLIP +
          ((s.dev.pair.points.filter (fun p => late p.2)).length + (s.dev.pair.descs.filter (fun p => late p.2)).length))
          (2 ^ f_RDG_CNT1_SHADOW_SLIP.w - 1))) ∧
    (∀ p : Fin 16, Makes (.heldSegmentTimeout dt p) s (fun d => d.ports = lset s.dev.ports p { s.dev.port p with
        heldSegs := (s.dev.port p).heldSegs.filter (fun h => el < h.1 + 20000) } ∧ d.rdF (a_TPT_STAT1 p) f_TPT_STAT1_ORPHAN =
      min (s.dev.rdF (a_TPT_STAT1 p) f_TPT_STAT1_ORPHAN + ((s.dev.port p).heldSegs.filter (fun h => h.1 + 20000 ≤ el)).length)
        (2 ^ f_TPT_STAT1_ORPHAN.w - 1))) ∧
    (∀ id t : Nat, t + 60000000000 ≤ el →
      (s.dev.pair.rejoin = some (id, t) → s.dev.pair.step < 4 → Makes (.rejoinLockTimeout dt) s (fun d => d.pair.rejoin = none ∧ d.pair.step = 7 ∧
        d.rdF a_RDG_STAT f_RDG_STAT_PAIR_ERR = 6 ∧ ∀ q ∈ d.keel.pending, q.id ≠ id)) ∧
      (s.dev.pair.rejoin = none → s.dev.pair.joinAt = some t → s.dev.rdB a_TIME_STAT f_TIME_STAT_LOCKED = false →
        Makes (.rejoinLockTimeout dt) s (fun d => d.pair = { s.dev.pair with joinAt := none, step := 7 } ∧
          d.rdF a_RDG_STAT f_RDG_STAT_PAIR_ERR = 6)))

/-! ### Start-up and service operations -/

/-- OPTION_LOADING_DONE, HBM_TRAINING_DONE (R403, R405, R472, R473): option loading shows what it chose and closes the configuration window with the
reference committed; a stack trained without a failure is ready at both setpoints that trained. FW_SWAP_PAUSE, FW_SWAP_READY_TIMEOUT (R508, R509): with
nothing else pending a swap whose firmware reports ready exchanges the banks, otherwise the pause runs; after 1.5 ms without ready the old firmware runs
on. TAKEOVER_COPY_DONE (R511): the spare holds the target's registers. CAL_CAPTURE_DONE, CAL_APPLY (R519, R522): the capture of TS_TAPS or a lane is
held, and TS_TAPS come into force at the half second. FLASH_WRITE_COMPLETION, OTP_WRITE_COMPLETION (R465, R470, R524): a store that verified leaves
the store clean; the fuse levels are programmed; the command ends. -/
def Obligations.ServiceSteps : Prop :=
  ∀ (s : State) (dt : Nat), let el := (s.dev.elapse dt).el
    (∀ f : FlashRead, s.dev.rst.optRun = true → s.dev.resetWaits = false →
      Makes (.optionLoadingDone dt f) s (fun d => d.rdB a_CFG_OPT_STAT f_CFG_OPT_STAT_DONE = true ∧ d.rst.optRun = false ∧ d.rst.pinsSet = true ∧
        d.rdB a_CFG_OPT_STAT f_CFG_OPT_STAT_USER_NV = (!s.dev.rst.forced && (nvPass f.nv0 || nvPass f.nv1)) ∧
        d.rdB a_CFG_OPT_STAT f_CFG_OPT_STAT_FACTORY_FORCED = s.dev.rst.forced ∧ d.err.winOpen = none ∧
        (s.dev.mode.ripcord = true → d.rdF a_CFG_CRC_REF f_CFG_CRC_REF_V = d.configCrc))) ∧
    (∀ (st : Fin 2) (r : TrainResult), s.dev.mode.starting = true → s.dev.rdB a_CFG_OPT_STAT f_CFG_OPT_STAT_DONE = true →
      lget s.dev.rst.hbmDone st false = false → r.failed = 0 → r.temp.toNat < 95 →
      Makes (.hbmTrainingDone dt st r) s (fun d => d.rst.hbmDone = lset s.dev.rst.hbmDone st true ∧
        d.rdB (a_HBM_TRN_STAT st) f_HBM_TRN_STAT_TRAINED_64 = true ∧ d.rdB (a_HBM_TRN_STAT st) f_HBM_TRN_STAT_TRAINED_32 = r.slow ∧
        d.rdB (a_HBM_TRN_STAT st) f_HBM_TRN_STAT_SETPOINT = false ∧ d.rdF (a_HBM_REF_STAT st) f_HBM_REF_STAT_TEMP = r.temp.toNat ∧
        d.mem.stack = lset s.dev.mem.stack st { StackSt.reset with
          pcs := trainedPcs (lget s.dev.mem.retired st 0) el, raaimt := r.raaimt, raammt := r.raammt } ∧
        d.hbmLost = s.dev.hbmLost ++ (List.range 32).map (fun p => (st.val, p)) ∧ d.mrg = s.dev.mrg)) ∧
    (∀ p : PendCmd, s.dev.swapCmd = some p → let k := s.dev.keel
      (k.paused = false → (∀ q ∈ k.pending, q.id = p.id) → k.fwd = [] → el < p.at_ + p.h.timeoutNs → (k.recovery = true ∨ (k.idle.hoMin ≤ k.now.hoFmt ∧ k.now.hoFmt ≤ k.idle.hoMax)) →
        Makes (.fwSwapPause dt true) s (fun d => d.keel.bankInB = !k.bankInB ∧ d.keel.bankA = k.bankA ∧ d.keel.bankB = k.bankB ∧
          d.keel.recovery = false ∧ d.flash.bootB = !k.bankInB ∧ d.keel.pending = []) ∧
        Makes (.fwSwapPause dt false) s (fun d => d = { s.dev.elapse dt with keel := { k with paused := true, pauseAt := some el } })) ∧
      (∀ t : Nat, k.pauseAt = some t → t + 1500000 ≤ el → Makes (.fwSwapReadyTimeout dt) s (fun d => d.keel.bankInB = k.bankInB ∧
        d.keel.paused = false ∧ d.keel.idle = { k.idle with verified := false } ∧ d.keel.now = k.now ∧ d.keel.pending = k.pending.filter (fun q => q.id ≠ p.id)))) ∧
    (∀ t : TakeSt, s.dev.spare.take = some t → t.copied = false → t.spare < 17 → t.target < 17 →
      Makes (.takeoverCopyDone dt) s (fun d => d.spare = { s.dev.spare with take := some { t with copied := true } } ∧
        ∀ o ∈ copiedRegs 0, d.rd (a_PIPE_ROLE t.spare + o) = s.dev.rd (a_PIPE_ROLE t.target + o) ∧
          d.inForce (a_PIPE_ROLE t.spare + o) = s.dev.inForce (a_PIPE_ROLE t.target + o))) ∧
    (∀ x : CalRun, s.dev.cal.run = some x →
      (∀ coefs : List W32, x.pend = none → (calKind x.item).1 ≤ 1 → coefs.length = calFactoryCoefs x.item →
        Makes (.calCaptureDone dt coefs) s (fun d => d = { s.dev.elapse dt with
          cal := { s.dev.cal with run := some { x with pend := some (coefs, (s.dev.elapse dt).now, el), sums := [] } } })) ∧
      (∀ (cs : List W32) (t : W64) (n : Nat), x.pend = some (cs, t, n) → x.item = 1 → nextHalfSecond t.toNat ≤ (s.dev.elapse dt).now.toNat →
        Makes (.calApply dt) s (fun d => d.cal.run = none ∧ d.keel.pending = s.dev.keel.pending.filter (fun q => q.id ≠ x.cmd) ∧
          d.calFind 1 = some ⟨1, cs, (match s.dev.calFind 1 with | some y => y.count | none => 0) + 1, (s.dev.elapse dt).now⟩))) ∧
    (∀ (src : List Byte) (p : PendCmd), s.dev.pendingCmd writesFlash = some p → p.cmd = .calStore →
      Makes (.flashWriteCompletion dt true src) s (fun d => d.cal = { s.dev.cal with dirty := false } ∧
        d.keel.pending = s.dev.keel.pending.filter (fun q => q.id ≠ p.id) ∧
        s.dev.out ++ [.flashWrite (calBase s.dev.cal.target) (s.dev.calImage (s.dev.cal.gen + 1)),
          .flashWrite (headerGen (2 + s.dev.cal.target)) (leBytes 4 (s.dev.cal.gen + 1).toNat)] <+: d.out) ∧
      Makes (.flashWriteCompletion dt false src) s (fun d => d.cal = s.dev.cal ∧
        d.keel.pending = s.dev.keel.pending.filter (fun q => q.id ≠ p.id))) ∧
    (∀ (p : PendCmd) (levels : List Byte), s.dev.pendingCmd (fun c => match c with | .fuseProgram _ => true | _ => false) = some p →
      p.cmd = .fuseProgram levels → Makes (.otpWriteCompletion dt) s (fun d => d.rst.otpProg = true ∧ d.rst.otpLevels = levels.map (fun b => b.toNat) ∧
        d.keel.pending = s.dev.keel.pending.filter (fun q => q.id ≠ p.id)))

/-! ### Commands in envelopes -/

/-- The commands of class I (R336), started at once and answered (R333, R335, R346, R349): NOP, INFO, CMD_QUERY, CAL_READ (R518) and REG_READ answer
with their result and change no other register, but for what a read clears; REG_WRITE (R341) stores as R9 says; ROLL_NEXT (R274) makes a roll due, and
while lines are issued waits for its line (R337; log entry 104);
VIEW_RESERVE and VIEW_RELEASE (R354) take and free a view; SERVICE_ABORT (R355) ends the operation that runs; CFG_OPEN and CFG_COMMIT (R491) open and
close the window; EVT_COMMIT (R386) brings the routing into force or names the loop. That a result is not padded is log entry 81. -/
def Obligations.EnvelopesAnswered : Prop :=
  ∀ (s : State) (h : EnvHdr), let o := s.dev
    (o.starts h .nop = true → Makes (.nop h) s (fun d => Answered o d h .nop 0 noLine [] ∧ SameRegs o d h)) ∧
    (o.starts h .info = true → o.established = false → Makes (.info h) s (fun d => SameRegs o d h ∧ Answered o d h .info 0 noLine
      (leBytes 4 (o.rd a_DEV_ID).toNat ++ leBytes 4 o.keel.bankA.version.toNat ++ leBytes 4 o.keel.bankB.version.toNat ++
        [if o.keel.bankInB then 1 else 0, if o.keel.idle.verified then 1 else 0, 0, 0] ++ leBytes 8 o.now.toNat ++ leBytes 2 o.clk.epoch.toNat ++ [0]))) ∧
    (∀ (m : Byte) (tag : W32), o.starts h (.cmdQuery m tag) = true →
      (o.queryHits m.toNat tag = [] → Makes (.cmdQuery h m tag) s (fun d => SameRegs o d h ∧ Answered o d h (.cmdQuery m tag) 0 noLine (zeros 16))) ∧
      (∀ x : QueryHit, o.queryHits m.toNat tag = [x] → Makes (.cmdQuery h m tag) s (fun d => SameRegs o d h ∧ Answered o d h (.cmdQuery m tag) 0 noLine
        (leBytes 2 x.opcode ++ leBytes 2 x.status ++ [x.state, 0, 0, 0] ++ leBytes 8 x.line.toNat)))) ∧
    (∀ (item : BitVec 16) (x : CalItem), o.starts h (.calRead item) = true → item.toNat < 0x600 → o.calFind item.toNat = some x → x.coefs.length ≤ 1000 →
      Makes (.calRead h item) s (fun d => SameRegs o d h ∧ Answered o d h (.calRead item) 0 noLine (padTo (leBytes 4 x.count) 8 ++ leBytes 8 x.time.toNat ++
        padTo (leBytes 2 x.coefs.length) 8 ++ x.coefs.flatMap (fun c => leBytes 4 c.toNat)))) ∧
    (∀ (a n : Nat) (p : Part), sizeOk a n = true → inTbl a = false → inRng a = false → inAon a = false → accessParts a n = some [p] →
      (∀ e : RegSel, e.addr.toNat = a → e.size.toNat = n → o.starts h (.regRead [e]) = true → o.reachable p.unit = true → p.n = p.reg.bytes →
        p.unit ∈ [RUnit.bal, .cal, .tha, .eth, .pcx, .wpu, .dsp, .time] → (p.unit = .tha → ∀ k < 16, (o.engine k).job = none) → Makes (.regRead h [e]) s (fun d =>
          Answered o d h (.regRead [e]) 0 noLine (padTo (leBytes 2 1) 8 ++ leBytes 8 (o.readPart p).toNat) ∧
          d.rd p.addr = o.leftBy p ∧
          ∀ b, b ≠ p.addr → b ≠ a_MBX_MB_STAT h.mailbox → b ≠ a_MBX_STAT → d.rd b = o.rd b)) ∧
      (∀ e : RegPut, e.addr.toNat = a → e.size.toNat = n → o.starts h (.regWrite [e]) = true → o.takesWrites p.unit = true → o.plainErr 0x0D = true →
        p.unit ∈ [RUnit.bal, .cal, .mos, .tha, .eth, .pcx] → Makes (.regWrite h [e]) s (fun d =>
          (Answered o d h (.regWrite [e]) 0 noLine (leBytes 2 1) ∨ Answered o d h (.regWrite [e]) 0x15 noLine (leBytes 2 0)) ∧
          d.rd p.addr = (storeFields p.reg p.mask false (fun _ => false) (o.rd p.addr) (o.reaches p e.value)).1 ∧
          ∀ b, b ≠ p.addr → b ≠ a_MBX_MB_STAT h.mailbox → b ≠ a_MBX_STAT → d.rd b = o.rd b))) ∧
    (o.starts h .rollNext = true → o.reachable .cls = true →
      (o.cls.rolls.length < 2 → o.acquiring = true → Makes (.rollNext h) s (fun d => SameRegs o d h ∧ Pends o d h .rollNext noLine ∧
        d.cls = { o.cls with rollDue := o.cls.rollDue ++ [⟨0, none, 0, some o.keel.nextId⟩] })) ∧
      (o.cls.rolls.length < 2 → o.acquiring = false → Makes (.rollNext h) s (fun d => SameRegs o d h ∧
        d.cls = { o.cls with rollDue := o.cls.rollDue ++ [⟨0, none, 0, none⟩] } ∧
        Answered o d h .rollNext 0 noLine (leBytes 4 (o.rdF a_CLS_ROLL_CTRL f_CLS_ROLL_CTRL_NEXT_ID)))) ∧
      (2 ≤ o.cls.rolls.length → Makes (.rollNext h) s (fun d => d.cls = o.cls ∧ Answered o d h .rollNext 0x17 noLine [] ∧
        d.rdF a_CLS_ROLL_STAT f_CLS_ROLL_STAT_REFUSED_CNT =
          min (o.rdF a_CLS_ROLL_STAT f_CLS_ROLL_STAT_REFUSED_CNT + 1) (2 ^ f_CLS_ROLL_STAT_REFUSED_CNT.w - 1)))) ∧
    (∀ v : ViewArgs, o.starts h (.viewReserve v) = true → o.reachable .eth = true → o.rdF (a_ETH_DEST v.dest.toNat) f_ETH_DEST_IPV4 ≠ 0 →
      o.viewStatus v.x0.toNat v.x1.toNat v.zoom.toNat v.rate.toNat v.hOut.toNat = 0 → o.viewAt v.slot.toNat = none →
      Makes (.viewReserve h v) s (fun d => (d.rdF a_ETH_VIEW_RSV f_ETH_VIEW_RSV_RSV).testBit v.slot.toNat = true ∧ (d.viewAt v.slot.toNat).isSome = true ∧
        (∀ k, k ≠ v.slot.toNat → d.viewAt k = o.viewAt k) ∧ Answered o d h (.viewReserve v) 0 noLine
          (leBytes 2 (wOut v.x0.toNat v.x1.toNat v.zoom.toNat) ++ leBytes 2 v.hOut.toNat))) ∧
    (∀ k : Byte, o.starts h (.viewRelease k) = true → o.reachable .eth = true →
      ((o.rdF a_ETH_VIEW_RSV f_ETH_VIEW_RSV_RSV).testBit k.toNat = true → Makes (.viewRelease h k) s (fun d =>
        (d.rdF a_ETH_VIEW_RSV f_ETH_VIEW_RSV_RSV).testBit k.toNat = false ∧ Answered o d h (.viewRelease k) 0 noLine [])) ∧
      ((o.rdF a_ETH_VIEW_RSV f_ETH_VIEW_RSV_RSV).testBit k.toNat = false → Makes (.viewRelease h k) s (fun d =>
        d.views = o.views ∧ SameRegs o d h ∧ Answered o d h (.viewRelease k) 0x12 noLine []))) ∧
    (o.starts h .serviceAbort = true →
      (o.serviceOp = none → Makes (.serviceAbort h) s (fun d => d.mode = o.mode ∧ SameRegs o d h ∧ Answered o d h .serviceAbort 0x12 noLine [])) ∧
      (∀ c : Cmd, o.serviceOp = some c → Makes (.serviceAbort h) s (fun d => d.mode.service = none ∧
        Answered o d h .serviceAbort 0 noLine (leBytes 2 c.opcode)))) ∧
    (o.windowReachable = true → o.starts h .cfgOpen = true → Makes (.cfgOpen h) s (fun d => d.err.winOpen = some (o.err.winOpen.getD o.el) ∧
      SameRegs o d h ∧ Answered o d h .cfgOpen 0 noLine [])) ∧
    (o.windowReachable = true → o.coveredReachable = true → o.starts h .cfgCommit = true → Makes (.cfgCommit h) s (fun d => d.err.winOpen = none ∧
      d.rdF a_CFG_CRC_REF f_CFG_CRC_REF_V = o.configCrc ∧ d.rdB a_CFG_CRC_STAT f_CFG_CRC_STAT_MISMATCH = false ∧
      Answered o d h .cfgCommit 0 noLine (leBytes 4 o.configCrc))) ∧
    (o.starts h .evtCommit = true → o.reachable .evt = true →
      (o.evtLoop = none → Makes (.evtCommit h) s (fun d => Answered o d h .evtCommit 0 noLine [] ∧
        d.rdF a_EVT_COMMIT_STAT f_EVT_COMMIT_STAT_GEN = (o.rdF a_EVT_COMMIT_STAT f_EVT_COMMIT_STAT_GEN + 1) % 2 ^ f_EVT_COMMIT_STAT_GEN.w ∧
        d.rdB a_EVT_COMMIT_STAT f_EVT_COMMIT_STAT_LAST_REFUSED = false)) ∧
      (∀ l : List Nat, o.evtLoop = some l → Makes (.evtCommit h) s (fun d => d.force = o.force ∧ d.evt = o.evt ∧
        d.rdB a_EVT_COMMIT_STAT f_EVT_COMMIT_STAT_LAST_REFUSED = true ∧
        Answered o d h .evtCommit 0x3A noLine (leBytes 2 l.length ++ l.flatMap (fun c => leBytes 2 c)))))

/-- The commands of class D (R336), accepted and pending: MODE_SET (R52) with its change, TABLE_LOAD and TABLE_READ (R353), LOFT_EXPORT (R320), camera
commands (R354) with their request, HBM_SETPOINT and HBM_RETIRE (R406, R411), FW_STAGE, NV_WRITE, CAL_STORE, FUSE_PROGRAM (R465, R470, R507, R524), FW_SWAP,
PIPE_TAKEOVER, LANE_RETRAIN, PARTNER_REJOIN (R355, R434, R458, R508, R511), CAL_RUN (R519), TIME_STEP (R374), PAIR_HANDOVER (R454). MODE_SET to SAFE_HOLD
acts and is answered at once (R63). ENVELOPE_TAKE, COMMAND_WAIT_START, COMMAND_TIMEOUT (R331, R335, R338): an envelope that fails a check is answered, one
whose command may not start waits; a command starts once it may, or ends with E_TIMEOUT. -/
def Obligations.EnvelopesPending : Prop :=
  (∀ (s : State) (h : EnvHdr), let o := s.dev; let id := o.keel.nextId
    (∀ (m : Byte) (t : Mode), modeOf m.toNat = some t → o.starts h (.modeSet m) = true → o.mode.starting = false →
      (t = .safeHold → Makes (.modeSet h m) s (fun d => d.mode.cur = .safeHold ∧ Answered o d h (.modeSet m) 0 noLine [] ∧
        d.mode.safeCause = (if o.mode.cur = .safeHold then o.mode.safeCause else 4))) ∧
      (t ≠ .safeHold → (((o.elapse 0).countTaken h.mailbox).1.modeChecks h t).2.1 = 0 → o.mode.pend = none →
        Makes (.modeSet h m) s (fun d => d.mode.cur = o.mode.cur ∧ SameRegs o d h ∧
          d.mode.pend = some ⟨t, some id, if o.mode.cur.acquiring then some o.effectFirst else none⟩ ∧
          Pends o d h (.modeSet m) (if o.mode.cur.acquiring then BitVec.ofNat 64 o.effectFirst else noLine)))) ∧
    (∀ t : TableXfer,
      (o.starts h (.tableLoad t) = true → o.tabRefusal t true = 0 → Makes (.tableLoad h t) s (fun d => SameRegs o d h ∧ d.tab = o.tab ∧
        Pends o d h (.tableLoad t) noLine)) ∧
      (o.starts h (.tableRead t) = true → o.tabRefusal t false = 0 → Makes (.tableRead h t) s (fun d => SameRegs o d h ∧ d.tab = o.tab ∧
        Pends o d h (.tableRead t) noLine))) ∧
    (∀ (first last : W64) (ring : BitVec 16), o.starts h (.loftExport first last ring) = true → o.reachable .cls = true → o.cls.frozen = true →
      first.toNat ≤ last.toNat → last.toNat - first.toNat < o.loftLines →
      (o.cls.written.filter (fun l => first.toNat ≤ l && l ≤ last.toNat)).length = last.toNat + 1 - first.toNat →
      (o.ring ring.toNat).en = true → (o.ring ring.toNat).typ = 1 →
      Makes (.loftExport h first last ring) s (fun d => Pends o d h (.loftExport first last ring) noLine ∧
        d.cls = { o.cls with objects := (o.cls.objects + 1) % 2 ^ 32, exp := some ⟨id, ring.toNat, (o.cls.objects + 1) % 2 ^ 32, first.toNat, last.toNat,
          first.toNat, o.loftSlot o.wpu.ctx, 0, false⟩ })) ∧
    (∀ (p : Byte) (a : W32) (l : Nat), o.trigLane p.toNat = some l →
      (∀ n : BitVec 16, o.starts h (.camRegRead p n a) = true → Makes (.camRegRead h p n a) s (fun d => Pends o d h (.camRegRead p n a) noLine ∧
        SameRegs o d h ∧ ∃ r : CamReq, r.typ = 3 ∧ r.lane = l ∧ r.cmd = some id ∧ r.tag = (o.port p.toNat).nextTag ∧
          d.ports = lset o.ports p.toNat { o.port p.toNat with nextTag := r.tag + 1, reqs := (o.port p.toNat).reqs ++ [r] })) ∧
      (∀ ws : List W32, o.starts h (.camRegWrite p a ws) = true → Makes (.camRegWrite h p a ws) s (fun d => Pends o d h (.camRegWrite p a ws) noLine ∧
        SameRegs o d h ∧ ∃ r : CamReq, r.typ = 2 ∧ r.lane = l ∧ r.cmd = some id ∧ r.tag = (o.port p.toNat).nextTag ∧
          d.ports = lset o.ports p.toNat { o.port p.toNat with nextTag := r.tag + 1, reqs := (o.port p.toNat).reqs ++ [r] }))) ∧
    (∀ mask sp : Byte, o.starts h (.hbmSetpoint mask sp) = true → o.setpCheck h mask.toNat sp.toNat = 0 → o.reachable (.hbm 0) = true →
      o.reachable (.hbm 1) = true → Makes (.hbmSetpoint h mask sp) s (fun d => Pends o d h (.hbmSetpoint mask sp) noLine ∧ SameRegs o d h ∧
        ∃ b : Bool, d.mem.setp = some (id, mask.toNat, sp.toNat, b))) ∧
    (∀ cmd : Cmd, o.starts h cmd = true →
      (∀ x : ImageSrc, cmd = .fwStage x → Makes (.fwStage h x) s (fun d => Pends o d h cmd noLine ∧ SameRegs o d h ∧ d.flash = o.flash)) ∧
      (∀ x : ImageSrc, cmd = .nvWrite x → Makes (.nvWrite h x) s (fun d => Pends o d h cmd noLine ∧ SameRegs o d h ∧ d.flash = o.flash)) ∧
      (cmd = .calStore → Makes (.calStore h) s (fun d => Pends o d h cmd noLine ∧ SameRegs o d h ∧ d.cal = o.cal)) ∧
      (∀ ls : List Byte, cmd = .fuseProgram ls → o.rst.otpProg = false → (ls.zip minLevels).any (fun p => p.1.toNat < p.2) = false →
        Makes (.fuseProgram h ls) s (fun d => Pends o d h cmd noLine ∧ SameRegs o d h ∧ d.rst = o.rst)) ∧
      (∀ (item : BitVec 16) (arg : W64), cmd = .calRun item arg →
        (calNeedsMode item.toNat = true → o.mode.starting = false ∧ o.mode.cur = .calibrate) →
        Makes (.calRun h item arg) s (fun d => Pends o d h cmd (o.calLine item.toNat arg) ∧ SameRegs o d h ∧ ∃ first : Nat, d.cal = { o.cal with
          run := some ⟨id, item.toNat, arg, if o.acquiring then some first else none, 0, [], none, none, false, false⟩ })) ∧
      (∀ x : W64, cmd = .timeStep x → o.reachable .time = true → (o.established = true → o.ridgeUp = true) →
        Makes (.timeStep h x) s (fun d => d.clk.step = some (id, x.toInt) ∧ (∀ m, (d.mrg.get m).held = []) ∧
          ((∀ m, (o.mrg.get m).held = []) → Pends o d h cmd noLine ∧ SameRegs o d h))) ∧
      (cmd = .pairHandover → o.established = true → o.ridgeUp = true →
        Makes (.pairHandover h) s (fun d => Pends o d h cmd (if o.acquiring then BitVec.ofNat 64 o.effectFirst else noLine) ∧ SameRegs o d h ∧
          d.pair.hand = some (id, o.acquiring, none)))) ∧
    (o.svcCheck = 0 →
      (∀ st pc : Byte, o.starts h (.hbmRetire st pc) = true → o.reachable (if st.toNat = 0 then .hbm 0 else .hbm 1) = true →
        ({ (o.elapse 0).countTaken h.mailbox |>.1 with mode := { o.mode with service := some id } } : Dev).retireCheck st.toNat pc.toNat = 0 →
        Makes (.hbmRetire h st pc) s (fun d => Pends o d h (.hbmRetire st pc) noLine ∧ d.mode.service = some id ∧
          d.mem.retire = some ⟨some id, st.toNat, pc.toNat, !o.acquiring⟩)) ∧
      (o.starts h .fwSwap = true → o.keel.idle.verified = true → Makes (.fwSwap h) s (fun d => Pends o d h .fwSwap noLine ∧ d.mode.service = some id ∧
        d.keel.paused = o.keel.paused ∧ d.keel.bankInB = o.keel.bankInB)) ∧
      (∀ (t : Byte) (n : Nat), o.starts h (.pipeTakeover t) = true → o.mode.cur ∈ [Mode.inspectWide, .inspectPaired, .record] → o.spareOf = some n →
        o.roleNow t.toNat = 0 → o.inF (a_TPT_CFG (o.rdF (a_PIPE_ROLE t.toNat) f_PIPE_ROLE_PORT)) f_TPT_CFG_LANE_MODE ≠ 0 →
        Makes (.pipeTakeover h t) s (fun d => Pends o d h (.pipeTakeover t) (BitVec.ofNat 64 (o.effectFirst + 2 * o.wpu.ctx.len)) ∧
          d.mode.service = some id ∧ d.rdF (a_PIPE_ROLE n) f_PIPE_ROLE_ROLE = 1 ∧ d.spare.take = some ⟨id, t.toNat, n, false, none, none⟩)) ∧
      (∀ (l : Byte) (q : Fin 13), o.starts h (.laneRetrain l) = true → q.val = l.toNat / 4 → o.reachable (.lq q) = true →
        (o.port (l.toNat / 2)).reqs = [] → o.plainErr 0x1B = true → Makes (.laneRetrain h l) s (fun d => Pends o d h (.laneRetrain l) noLine ∧ d.mode.service = some id ∧
          (d.lane l.toNat).step ≤ 1)) ∧
      (o.starts h .partnerRejoin = true → o.isPartner = false → o.ridgeUp = true → o.partnerJoinable = true → o.authority = true →
        Makes (.partnerRejoin h) s (fun d => Pends o d h .partnerRejoin noLine ∧ d.mode.service = some id ∧ d.pair.rejoin = some (id, o.el) ∧
          d.pair.step = 2)))) ∧
  (∀ (s : State) (dt : Nat) (m : Fin 16), s.dev.keelServes = true → let o := s.dev; let el := (o.elapse dt).el
    (∀ (desc env : List Byte), o.nextMailbox = some m → m.val ≠ 15 → (o.ring m).loc = false → desc.length = 16 →
      leAt desc 0 8 % 8 = 0 → leAt desc 8 2 = env.length → env.length % 8 = 0 → 32 ≤ env.length → env.length ≤ 4064 →
      (o.elapse dt).exhausted 8 .keel = false → (o.elapse dt).ringShort (o.ring m) 3 = false →
      (∀ st : Nat, readEnvelope env.length env = .error st → o.keel.recovery = false → Makes (.envelopeTake dt desc env) s (fun d => (d.ring m).head = (o.ring m).head + 1 ∧
        d.keel.nextBox = (m.val + 1) % 16 ∧ d.keel.nextId = o.keel.nextId + 1 ∧ d.keel.kept.head? =
          some ⟨m, (envHeader m env).tag, BitVec.ofNat 16 (leAt env 0 2), BitVec.ofNat 16 st, noLine, o.keel.nextId⟩)) ∧
      (∀ cmd : Cmd, readEnvelope env.length env = .ok cmd → o.keel.recovery = false → o.argsOk cmd = true →
        o.mayStart ⟨o.keel.nextId, envHeader m env, cmd, el, none⟩ = false → Makes (.envelopeTake dt desc env) s (fun d =>
          (d.ring m).head = (o.ring m).head + 1 ∧ d.keel = { o.keel with
            nextBox := (m.val + 1) % 16, nextId := o.keel.nextId + 1, waiting := o.keel.waiting ++ [⟨o.keel.nextId, envHeader m env, cmd, el, none⟩] }))) ∧
    (∀ t : Taken, o.keel.waiting.find? (fun t => t.h.mailbox = m) = some t → o.keel.fwd = [] → el < t.at_ + t.h.timeoutNs → o.mayStart t = true →
      (t.cmd = .nop → Makes (.commandWaitStart dt m) s (fun d => d.keel.waiting = o.keel.waiting.filter (fun w => w.id ≠ t.id) ∧
        d.keel.kept.head? = some ⟨t.h.mailbox, t.h.tag, 1, 0, noLine, t.id⟩)) ∧
      (t.cmd = .calStore → Makes (.commandWaitStart dt m) s (fun d => d.keel.waiting = o.keel.waiting.filter (fun w => w.id ≠ t.id) ∧
        d.keel.pending = o.keel.pending ++ [⟨t.id, t.h, .calStore, noLine, t.at_⟩]))) ∧
    (∀ t : Taken, o.keel.waiting.find? (fun t => t.h.mailbox = m && t.at_ + t.h.timeoutNs ≤ el) = some t → o.keel.fwd = [] →
      Makes (.commandTimeout dt m) s (fun d => d.keel.waiting = o.keel.waiting.filter (fun w => w.id ≠ t.id) ∧
        d.rdF a_MBX_STAT f_MBX_STAT_TIMEOUT_CNT = min (o.rdF a_MBX_STAT f_MBX_STAT_TIMEOUT_CNT + 1) (2 ^ f_MBX_STAT_TIMEOUT_CNT.w - 1) ∧
        d.keel.kept.head? = some ⟨t.h.mailbox, t.h.tag, BitVec.ofNat 16 t.cmd.opcode, 0x18, noLine, t.id⟩)))
end

