-- ==== Sys2Proof/Laws/State.lean ====
section
/-! SUPPORT. One lemma per field per update of the block: what the named updates leave as it was. All true by definition; they keep later
proofs from unfolding an update. -/

namespace Sys2Proof.Machine

variable (d : Dev)


/-! ### wr -/

@[simp] theorem Dev.wr_force (a : Nat) (v : W64) : (d.wr a v).force = d.force := rfl
@[simp] theorem Dev.wr_snap (a : Nat) (v : W64) : (d.wr a v).snap = d.snap := rfl
@[simp] theorem Dev.wr_nv (a : Nat) (v : W64) : (d.wr a v).nv = d.nv := rfl
@[simp] theorem Dev.wr_nextRst (a : Nat) (v : W64) : (d.wr a v).nextRst = d.nextRst := rfl
@[simp] theorem Dev.wr_tab (a : Nat) (v : W64) : (d.wr a v).tab = d.tab := rfl
@[simp] theorem Dev.wr_aonUser (a : Nat) (v : W64) : (d.wr a v).aonUser = d.aonUser := rfl
@[simp] theorem Dev.wr_seqs (a : Nat) (v : W64) : (d.wr a v).seqs = d.seqs := rfl
@[simp] theorem Dev.wr_cycle (a : Nat) (v : W64) : (d.wr a v).cycle = d.cycle := rfl
@[simp] theorem Dev.wr_clk (a : Nat) (v : W64) : (d.wr a v).clk = d.clk := rfl
@[simp] theorem Dev.wr_mode (a : Nat) (v : W64) : (d.wr a v).mode = d.mode := rfl
@[simp] theorem Dev.wr_keel (a : Nat) (v : W64) : (d.wr a v).keel = d.keel := rfl
@[simp] theorem Dev.wr_rst (a : Nat) (v : W64) : (d.wr a v).rst = d.rst := rfl
@[simp] theorem Dev.wr_err (a : Nat) (v : W64) : (d.wr a v).err = d.err := rfl
@[simp] theorem Dev.wr_evt (a : Nat) (v : W64) : (d.wr a v).evt = d.evt := rfl
@[simp] theorem Dev.wr_bal (a : Nat) (v : W64) : (d.wr a v).bal = d.bal := rfl
@[simp] theorem Dev.wr_host (a : Nat) (v : W64) : (d.wr a v).host = d.host := rfl
@[simp] theorem Dev.wr_views (a : Nat) (v : W64) : (d.wr a v).views = d.views := rfl
@[simp] theorem Dev.wr_mrg (a : Nat) (v : W64) : (d.wr a v).mrg = d.mrg := rfl
@[simp] theorem Dev.wr_wpu (a : Nat) (v : W64) : (d.wr a v).wpu = d.wpu := rfl
@[simp] theorem Dev.wr_flt (a : Nat) (v : W64) : (d.wr a v).flt = d.flt := rfl
@[simp] theorem Dev.wr_ckAt (a : Nat) (v : W64) : (d.wr a v).ckAt = d.ckAt := rfl
@[simp] theorem Dev.wr_lanes (a : Nat) (v : W64) : (d.wr a v).lanes = d.lanes := rfl
@[simp] theorem Dev.wr_ports (a : Nat) (v : W64) : (d.wr a v).ports = d.ports := rfl
@[simp] theorem Dev.wr_pipes (a : Nat) (v : W64) : (d.wr a v).pipes = d.pipes := rfl
@[simp] theorem Dev.wr_mos (a : Nat) (v : W64) : (d.wr a v).mos = d.mos := rfl
@[simp] theorem Dev.wr_seg (a : Nat) (v : W64) : (d.wr a v).seg = d.seg := rfl
@[simp] theorem Dev.wr_cls (a : Nat) (v : W64) : (d.wr a v).cls = d.cls := rfl
@[simp] theorem Dev.wr_pair (a : Nat) (v : W64) : (d.wr a v).pair = d.pair := rfl
@[simp] theorem Dev.wr_hbmw (a : Nat) (v : W64) : (d.wr a v).hbmw = d.hbmw := rfl
@[simp] theorem Dev.wr_hbmr (a : Nat) (v : W64) : (d.wr a v).hbmr = d.hbmr := rfl
@[simp] theorem Dev.wr_hbmLost (a : Nat) (v : W64) : (d.wr a v).hbmLost = d.hbmLost := rfl
@[simp] theorem Dev.wr_spare (a : Nat) (v : W64) : (d.wr a v).spare = d.spare := rfl
@[simp] theorem Dev.wr_tha (a : Nat) (v : W64) : (d.wr a v).tha = d.tha := rfl
@[simp] theorem Dev.wr_mem (a : Nat) (v : W64) : (d.wr a v).mem = d.mem := rfl
@[simp] theorem Dev.wr_cal (a : Nat) (v : W64) : (d.wr a v).cal = d.cal := rfl
@[simp] theorem Dev.wr_flash (a : Nat) (v : W64) : (d.wr a v).flash = d.flash := rfl
@[simp] theorem Dev.wr_thm (a : Nat) (v : W64) : (d.wr a v).thm = d.thm := rfl
@[simp] theorem Dev.wr_out (a : Nat) (v : W64) : (d.wr a v).out = d.out := rfl

/-! ### wrF -/

@[simp] theorem Dev.wrF_force (a : Nat) (f : Fld) (n : Nat) : (d.wrF a f n).force = d.force := rfl
@[simp] theorem Dev.wrF_snap (a : Nat) (f : Fld) (n : Nat) : (d.wrF a f n).snap = d.snap := rfl
@[simp] theorem Dev.wrF_nv (a : Nat) (f : Fld) (n : Nat) : (d.wrF a f n).nv = d.nv := rfl
@[simp] theorem Dev.wrF_nextRst (a : Nat) (f : Fld) (n : Nat) : (d.wrF a f n).nextRst = d.nextRst := rfl
@[simp] theorem Dev.wrF_tab (a : Nat) (f : Fld) (n : Nat) : (d.wrF a f n).tab = d.tab := rfl
@[simp] theorem Dev.wrF_aonUser (a : Nat) (f : Fld) (n : Nat) : (d.wrF a f n).aonUser = d.aonUser := rfl
@[simp] theorem Dev.wrF_seqs (a : Nat) (f : Fld) (n : Nat) : (d.wrF a f n).seqs = d.seqs := rfl
@[simp] theorem Dev.wrF_cycle (a : Nat) (f : Fld) (n : Nat) : (d.wrF a f n).cycle = d.cycle := rfl
@[simp] theorem Dev.wrF_clk (a : Nat) (f : Fld) (n : Nat) : (d.wrF a f n).clk = d.clk := rfl
@[simp] theorem Dev.wrF_mode (a : Nat) (f : Fld) (n : Nat) : (d.wrF a f n).mode = d.mode := rfl
@[simp] theorem Dev.wrF_keel (a : Nat) (f : Fld) (n : Nat) : (d.wrF a f n).keel = d.keel := rfl
@[simp] theorem Dev.wrF_rst (a : Nat) (f : Fld) (n : Nat) : (d.wrF a f n).rst = d.rst := rfl
@[simp] theorem Dev.wrF_err (a : Nat) (f : Fld) (n : Nat) : (d.wrF a f n).err = d.err := rfl
@[simp] theorem Dev.wrF_evt (a : Nat) (f : Fld) (n : Nat) : (d.wrF a f n).evt = d.evt := rfl
@[simp] theorem Dev.wrF_bal (a : Nat) (f : Fld) (n : Nat) : (d.wrF a f n).bal = d.bal := rfl
@[simp] theorem Dev.wrF_host (a : Nat) (f : Fld) (n : Nat) : (d.wrF a f n).host = d.host := rfl
@[simp] theorem Dev.wrF_views (a : Nat) (f : Fld) (n : Nat) : (d.wrF a f n).views = d.views := rfl
@[simp] theorem Dev.wrF_mrg (a : Nat) (f : Fld) (n : Nat) : (d.wrF a f n).mrg = d.mrg := rfl
@[simp] theorem Dev.wrF_wpu (a : Nat) (f : Fld) (n : Nat) : (d.wrF a f n).wpu = d.wpu := rfl
@[simp] theorem Dev.wrF_flt (a : Nat) (f : Fld) (n : Nat) : (d.wrF a f n).flt = d.flt := rfl
@[simp] theorem Dev.wrF_ckAt (a : Nat) (f : Fld) (n : Nat) : (d.wrF a f n).ckAt = d.ckAt := rfl
@[simp] theorem Dev.wrF_lanes (a : Nat) (f : Fld) (n : Nat) : (d.wrF a f n).lanes = d.lanes := rfl
@[simp] theorem Dev.wrF_ports (a : Nat) (f : Fld) (n : Nat) : (d.wrF a f n).ports = d.ports := rfl
@[simp] theorem Dev.wrF_pipes (a : Nat) (f : Fld) (n : Nat) : (d.wrF a f n).pipes = d.pipes := rfl
@[simp] theorem Dev.wrF_mos (a : Nat) (f : Fld) (n : Nat) : (d.wrF a f n).mos = d.mos := rfl
@[simp] theorem Dev.wrF_seg (a : Nat) (f : Fld) (n : Nat) : (d.wrF a f n).seg = d.seg := rfl
@[simp] theorem Dev.wrF_cls (a : Nat) (f : Fld) (n : Nat) : (d.wrF a f n).cls = d.cls := rfl
@[simp] theorem Dev.wrF_pair (a : Nat) (f : Fld) (n : Nat) : (d.wrF a f n).pair = d.pair := rfl
@[simp] theorem Dev.wrF_hbmw (a : Nat) (f : Fld) (n : Nat) : (d.wrF a f n).hbmw = d.hbmw := rfl
@[simp] theorem Dev.wrF_hbmr (a : Nat) (f : Fld) (n : Nat) : (d.wrF a f n).hbmr = d.hbmr := rfl
@[simp] theorem Dev.wrF_hbmLost (a : Nat) (f : Fld) (n : Nat) : (d.wrF a f n).hbmLost = d.hbmLost := rfl
@[simp] theorem Dev.wrF_spare (a : Nat) (f : Fld) (n : Nat) : (d.wrF a f n).spare = d.spare := rfl
@[simp] theorem Dev.wrF_tha (a : Nat) (f : Fld) (n : Nat) : (d.wrF a f n).tha = d.tha := rfl
@[simp] theorem Dev.wrF_mem (a : Nat) (f : Fld) (n : Nat) : (d.wrF a f n).mem = d.mem := rfl
@[simp] theorem Dev.wrF_cal (a : Nat) (f : Fld) (n : Nat) : (d.wrF a f n).cal = d.cal := rfl
@[simp] theorem Dev.wrF_flash (a : Nat) (f : Fld) (n : Nat) : (d.wrF a f n).flash = d.flash := rfl
@[simp] theorem Dev.wrF_thm (a : Nat) (f : Fld) (n : Nat) : (d.wrF a f n).thm = d.thm := rfl
@[simp] theorem Dev.wrF_out (a : Nat) (f : Fld) (n : Nat) : (d.wrF a f n).out = d.out := rfl

/-! ### wrB -/

@[simp] theorem Dev.wrB_force (a : Nat) (f : Fld) (b : Bool) : (d.wrB a f b).force = d.force := rfl
@[simp] theorem Dev.wrB_snap (a : Nat) (f : Fld) (b : Bool) : (d.wrB a f b).snap = d.snap := rfl
@[simp] theorem Dev.wrB_nv (a : Nat) (f : Fld) (b : Bool) : (d.wrB a f b).nv = d.nv := rfl
@[simp] theorem Dev.wrB_nextRst (a : Nat) (f : Fld) (b : Bool) : (d.wrB a f b).nextRst = d.nextRst := rfl
@[simp] theorem Dev.wrB_tab (a : Nat) (f : Fld) (b : Bool) : (d.wrB a f b).tab = d.tab := rfl
@[simp] theorem Dev.wrB_aonUser (a : Nat) (f : Fld) (b : Bool) : (d.wrB a f b).aonUser = d.aonUser := rfl
@[simp] theorem Dev.wrB_seqs (a : Nat) (f : Fld) (b : Bool) : (d.wrB a f b).seqs = d.seqs := rfl
@[simp] theorem Dev.wrB_cycle (a : Nat) (f : Fld) (b : Bool) : (d.wrB a f b).cycle = d.cycle := rfl
@[simp] theorem Dev.wrB_clk (a : Nat) (f : Fld) (b : Bool) : (d.wrB a f b).clk = d.clk := rfl
@[simp] theorem Dev.wrB_mode (a : Nat) (f : Fld) (b : Bool) : (d.wrB a f b).mode = d.mode := rfl
@[simp] theorem Dev.wrB_keel (a : Nat) (f : Fld) (b : Bool) : (d.wrB a f b).keel = d.keel := rfl
@[simp] theorem Dev.wrB_rst (a : Nat) (f : Fld) (b : Bool) : (d.wrB a f b).rst = d.rst := rfl
@[simp] theorem Dev.wrB_err (a : Nat) (f : Fld) (b : Bool) : (d.wrB a f b).err = d.err := rfl
@[simp] theorem Dev.wrB_evt (a : Nat) (f : Fld) (b : Bool) : (d.wrB a f b).evt = d.evt := rfl
@[simp] theorem Dev.wrB_bal (a : Nat) (f : Fld) (b : Bool) : (d.wrB a f b).bal = d.bal := rfl
@[simp] theorem Dev.wrB_host (a : Nat) (f : Fld) (b : Bool) : (d.wrB a f b).host = d.host := rfl
@[simp] theorem Dev.wrB_views (a : Nat) (f : Fld) (b : Bool) : (d.wrB a f b).views = d.views := rfl
@[simp] theorem Dev.wrB_mrg (a : Nat) (f : Fld) (b : Bool) : (d.wrB a f b).mrg = d.mrg := rfl
@[simp] theorem Dev.wrB_wpu (a : Nat) (f : Fld) (b : Bool) : (d.wrB a f b).wpu = d.wpu := rfl
@[simp] theorem Dev.wrB_flt (a : Nat) (f : Fld) (b : Bool) : (d.wrB a f b).flt = d.flt := rfl
@[simp] theorem Dev.wrB_ckAt (a : Nat) (f : Fld) (b : Bool) : (d.wrB a f b).ckAt = d.ckAt := rfl
@[simp] theorem Dev.wrB_lanes (a : Nat) (f : Fld) (b : Bool) : (d.wrB a f b).lanes = d.lanes := rfl
@[simp] theorem Dev.wrB_ports (a : Nat) (f : Fld) (b : Bool) : (d.wrB a f b).ports = d.ports := rfl
@[simp] theorem Dev.wrB_pipes (a : Nat) (f : Fld) (b : Bool) : (d.wrB a f b).pipes = d.pipes := rfl
@[simp] theorem Dev.wrB_mos (a : Nat) (f : Fld) (b : Bool) : (d.wrB a f b).mos = d.mos := rfl
@[simp] theorem Dev.wrB_seg (a : Nat) (f : Fld) (b : Bool) : (d.wrB a f b).seg = d.seg := rfl
@[simp] theorem Dev.wrB_cls (a : Nat) (f : Fld) (b : Bool) : (d.wrB a f b).cls = d.cls := rfl
@[simp] theorem Dev.wrB_pair (a : Nat) (f : Fld) (b : Bool) : (d.wrB a f b).pair = d.pair := rfl
@[simp] theorem Dev.wrB_hbmw (a : Nat) (f : Fld) (b : Bool) : (d.wrB a f b).hbmw = d.hbmw := rfl
@[simp] theorem Dev.wrB_hbmr (a : Nat) (f : Fld) (b : Bool) : (d.wrB a f b).hbmr = d.hbmr := rfl
@[simp] theorem Dev.wrB_hbmLost (a : Nat) (f : Fld) (b : Bool) : (d.wrB a f b).hbmLost = d.hbmLost := rfl
@[simp] theorem Dev.wrB_spare (a : Nat) (f : Fld) (b : Bool) : (d.wrB a f b).spare = d.spare := rfl
@[simp] theorem Dev.wrB_tha (a : Nat) (f : Fld) (b : Bool) : (d.wrB a f b).tha = d.tha := rfl
@[simp] theorem Dev.wrB_mem (a : Nat) (f : Fld) (b : Bool) : (d.wrB a f b).mem = d.mem := rfl
@[simp] theorem Dev.wrB_cal (a : Nat) (f : Fld) (b : Bool) : (d.wrB a f b).cal = d.cal := rfl
@[simp] theorem Dev.wrB_flash (a : Nat) (f : Fld) (b : Bool) : (d.wrB a f b).flash = d.flash := rfl
@[simp] theorem Dev.wrB_thm (a : Nat) (f : Fld) (b : Bool) : (d.wrB a f b).thm = d.thm := rfl
@[simp] theorem Dev.wrB_out (a : Nat) (f : Fld) (b : Bool) : (d.wrB a f b).out = d.out := rfl

/-! ### wrS -/

@[simp] theorem Dev.wrS_force (a : Nat) (f : Fld) (n : Int) : (d.wrS a f n).force = d.force := rfl
@[simp] theorem Dev.wrS_snap (a : Nat) (f : Fld) (n : Int) : (d.wrS a f n).snap = d.snap := rfl
@[simp] theorem Dev.wrS_nv (a : Nat) (f : Fld) (n : Int) : (d.wrS a f n).nv = d.nv := rfl
@[simp] theorem Dev.wrS_nextRst (a : Nat) (f : Fld) (n : Int) : (d.wrS a f n).nextRst = d.nextRst := rfl
@[simp] theorem Dev.wrS_tab (a : Nat) (f : Fld) (n : Int) : (d.wrS a f n).tab = d.tab := rfl
@[simp] theorem Dev.wrS_aonUser (a : Nat) (f : Fld) (n : Int) : (d.wrS a f n).aonUser = d.aonUser := rfl
@[simp] theorem Dev.wrS_seqs (a : Nat) (f : Fld) (n : Int) : (d.wrS a f n).seqs = d.seqs := rfl
@[simp] theorem Dev.wrS_cycle (a : Nat) (f : Fld) (n : Int) : (d.wrS a f n).cycle = d.cycle := rfl
@[simp] theorem Dev.wrS_clk (a : Nat) (f : Fld) (n : Int) : (d.wrS a f n).clk = d.clk := rfl
@[simp] theorem Dev.wrS_mode (a : Nat) (f : Fld) (n : Int) : (d.wrS a f n).mode = d.mode := rfl
@[simp] theorem Dev.wrS_keel (a : Nat) (f : Fld) (n : Int) : (d.wrS a f n).keel = d.keel := rfl
@[simp] theorem Dev.wrS_rst (a : Nat) (f : Fld) (n : Int) : (d.wrS a f n).rst = d.rst := rfl
@[simp] theorem Dev.wrS_err (a : Nat) (f : Fld) (n : Int) : (d.wrS a f n).err = d.err := rfl
@[simp] theorem Dev.wrS_evt (a : Nat) (f : Fld) (n : Int) : (d.wrS a f n).evt = d.evt := rfl
@[simp] theorem Dev.wrS_bal (a : Nat) (f : Fld) (n : Int) : (d.wrS a f n).bal = d.bal := rfl
@[simp] theorem Dev.wrS_host (a : Nat) (f : Fld) (n : Int) : (d.wrS a f n).host = d.host := rfl
@[simp] theorem Dev.wrS_views (a : Nat) (f : Fld) (n : Int) : (d.wrS a f n).views = d.views := rfl
@[simp] theorem Dev.wrS_mrg (a : Nat) (f : Fld) (n : Int) : (d.wrS a f n).mrg = d.mrg := rfl
@[simp] theorem Dev.wrS_wpu (a : Nat) (f : Fld) (n : Int) : (d.wrS a f n).wpu = d.wpu := rfl
@[simp] theorem Dev.wrS_flt (a : Nat) (f : Fld) (n : Int) : (d.wrS a f n).flt = d.flt := rfl
@[simp] theorem Dev.wrS_ckAt (a : Nat) (f : Fld) (n : Int) : (d.wrS a f n).ckAt = d.ckAt := rfl
@[simp] theorem Dev.wrS_lanes (a : Nat) (f : Fld) (n : Int) : (d.wrS a f n).lanes = d.lanes := rfl
@[simp] theorem Dev.wrS_ports (a : Nat) (f : Fld) (n : Int) : (d.wrS a f n).ports = d.ports := rfl
@[simp] theorem Dev.wrS_pipes (a : Nat) (f : Fld) (n : Int) : (d.wrS a f n).pipes = d.pipes := rfl
@[simp] theorem Dev.wrS_mos (a : Nat) (f : Fld) (n : Int) : (d.wrS a f n).mos = d.mos := rfl
@[simp] theorem Dev.wrS_seg (a : Nat) (f : Fld) (n : Int) : (d.wrS a f n).seg = d.seg := rfl
@[simp] theorem Dev.wrS_cls (a : Nat) (f : Fld) (n : Int) : (d.wrS a f n).cls = d.cls := rfl
@[simp] theorem Dev.wrS_pair (a : Nat) (f : Fld) (n : Int) : (d.wrS a f n).pair = d.pair := rfl
@[simp] theorem Dev.wrS_hbmw (a : Nat) (f : Fld) (n : Int) : (d.wrS a f n).hbmw = d.hbmw := rfl
@[simp] theorem Dev.wrS_hbmr (a : Nat) (f : Fld) (n : Int) : (d.wrS a f n).hbmr = d.hbmr := rfl
@[simp] theorem Dev.wrS_hbmLost (a : Nat) (f : Fld) (n : Int) : (d.wrS a f n).hbmLost = d.hbmLost := rfl
@[simp] theorem Dev.wrS_spare (a : Nat) (f : Fld) (n : Int) : (d.wrS a f n).spare = d.spare := rfl
@[simp] theorem Dev.wrS_tha (a : Nat) (f : Fld) (n : Int) : (d.wrS a f n).tha = d.tha := rfl
@[simp] theorem Dev.wrS_mem (a : Nat) (f : Fld) (n : Int) : (d.wrS a f n).mem = d.mem := rfl
@[simp] theorem Dev.wrS_cal (a : Nat) (f : Fld) (n : Int) : (d.wrS a f n).cal = d.cal := rfl
@[simp] theorem Dev.wrS_flash (a : Nat) (f : Fld) (n : Int) : (d.wrS a f n).flash = d.flash := rfl
@[simp] theorem Dev.wrS_thm (a : Nat) (f : Fld) (n : Int) : (d.wrS a f n).thm = d.thm := rfl
@[simp] theorem Dev.wrS_out (a : Nat) (f : Fld) (n : Int) : (d.wrS a f n).out = d.out := rfl

/-! ### inc -/

@[simp] theorem Dev.inc_force (a : Nat) (f : Fld) (n : Nat) : (d.inc a f n).force = d.force := rfl
@[simp] theorem Dev.inc_snap (a : Nat) (f : Fld) (n : Nat) : (d.inc a f n).snap = d.snap := rfl
@[simp] theorem Dev.inc_nv (a : Nat) (f : Fld) (n : Nat) : (d.inc a f n).nv = d.nv := rfl
@[simp] theorem Dev.inc_nextRst (a : Nat) (f : Fld) (n : Nat) : (d.inc a f n).nextRst = d.nextRst := rfl
@[simp] theorem Dev.inc_tab (a : Nat) (f : Fld) (n : Nat) : (d.inc a f n).tab = d.tab := rfl
@[simp] theorem Dev.inc_aonUser (a : Nat) (f : Fld) (n : Nat) : (d.inc a f n).aonUser = d.aonUser := rfl
@[simp] theorem Dev.inc_seqs (a : Nat) (f : Fld) (n : Nat) : (d.inc a f n).seqs = d.seqs := rfl
@[simp] theorem Dev.inc_clk (a : Nat) (f : Fld) (n : Nat) : (d.inc a f n).clk = d.clk := rfl
@[simp] theorem Dev.inc_mode (a : Nat) (f : Fld) (n : Nat) : (d.inc a f n).mode = d.mode := rfl
@[simp] theorem Dev.inc_keel (a : Nat) (f : Fld) (n : Nat) : (d.inc a f n).keel = d.keel := rfl
@[simp] theorem Dev.inc_rst (a : Nat) (f : Fld) (n : Nat) : (d.inc a f n).rst = d.rst := rfl
@[simp] theorem Dev.inc_err (a : Nat) (f : Fld) (n : Nat) : (d.inc a f n).err = d.err := rfl
@[simp] theorem Dev.inc_evt (a : Nat) (f : Fld) (n : Nat) : (d.inc a f n).evt = d.evt := rfl
@[simp] theorem Dev.inc_bal (a : Nat) (f : Fld) (n : Nat) : (d.inc a f n).bal = d.bal := rfl
@[simp] theorem Dev.inc_host (a : Nat) (f : Fld) (n : Nat) : (d.inc a f n).host = d.host := rfl
@[simp] theorem Dev.inc_views (a : Nat) (f : Fld) (n : Nat) : (d.inc a f n).views = d.views := rfl
@[simp] theorem Dev.inc_mrg (a : Nat) (f : Fld) (n : Nat) : (d.inc a f n).mrg = d.mrg := rfl
@[simp] theorem Dev.inc_wpu (a : Nat) (f : Fld) (n : Nat) : (d.inc a f n).wpu = d.wpu := rfl
@[simp] theorem Dev.inc_flt (a : Nat) (f : Fld) (n : Nat) : (d.inc a f n).flt = d.flt := rfl
@[simp] theorem Dev.inc_ckAt (a : Nat) (f : Fld) (n : Nat) : (d.inc a f n).ckAt = d.ckAt := rfl
@[simp] theorem Dev.inc_lanes (a : Nat) (f : Fld) (n : Nat) : (d.inc a f n).lanes = d.lanes := rfl
@[simp] theorem Dev.inc_ports (a : Nat) (f : Fld) (n : Nat) : (d.inc a f n).ports = d.ports := rfl
@[simp] theorem Dev.inc_pipes (a : Nat) (f : Fld) (n : Nat) : (d.inc a f n).pipes = d.pipes := rfl
@[simp] theorem Dev.inc_mos (a : Nat) (f : Fld) (n : Nat) : (d.inc a f n).mos = d.mos := rfl
@[simp] theorem Dev.inc_seg (a : Nat) (f : Fld) (n : Nat) : (d.inc a f n).seg = d.seg := rfl
@[simp] theorem Dev.inc_cls (a : Nat) (f : Fld) (n : Nat) : (d.inc a f n).cls = d.cls := rfl
@[simp] theorem Dev.inc_pair (a : Nat) (f : Fld) (n : Nat) : (d.inc a f n).pair = d.pair := rfl
@[simp] theorem Dev.inc_hbmw (a : Nat) (f : Fld) (n : Nat) : (d.inc a f n).hbmw = d.hbmw := rfl
@[simp] theorem Dev.inc_hbmr (a : Nat) (f : Fld) (n : Nat) : (d.inc a f n).hbmr = d.hbmr := rfl
@[simp] theorem Dev.inc_hbmLost (a : Nat) (f : Fld) (n : Nat) : (d.inc a f n).hbmLost = d.hbmLost := rfl
@[simp] theorem Dev.inc_spare (a : Nat) (f : Fld) (n : Nat) : (d.inc a f n).spare = d.spare := rfl
@[simp] theorem Dev.inc_tha (a : Nat) (f : Fld) (n : Nat) : (d.inc a f n).tha = d.tha := rfl
@[simp] theorem Dev.inc_mem (a : Nat) (f : Fld) (n : Nat) : (d.inc a f n).mem = d.mem := rfl
@[simp] theorem Dev.inc_cal (a : Nat) (f : Fld) (n : Nat) : (d.inc a f n).cal = d.cal := rfl
@[simp] theorem Dev.inc_flash (a : Nat) (f : Fld) (n : Nat) : (d.inc a f n).flash = d.flash := rfl
@[simp] theorem Dev.inc_thm (a : Nat) (f : Fld) (n : Nat) : (d.inc a f n).thm = d.thm := rfl
@[simp] theorem Dev.inc_out (a : Nat) (f : Fld) (n : Nat) : (d.inc a f n).out = d.out := rfl

/-! ### emit -/

@[simp] theorem Dev.emit_regs (o : Out) : (d.emit o).regs = d.regs := rfl
@[simp] theorem Dev.emit_force (o : Out) : (d.emit o).force = d.force := rfl
@[simp] theorem Dev.emit_snap (o : Out) : (d.emit o).snap = d.snap := rfl
@[simp] theorem Dev.emit_nv (o : Out) : (d.emit o).nv = d.nv := rfl
@[simp] theorem Dev.emit_nextRst (o : Out) : (d.emit o).nextRst = d.nextRst := rfl
@[simp] theorem Dev.emit_tab (o : Out) : (d.emit o).tab = d.tab := rfl
@[simp] theorem Dev.emit_aonUser (o : Out) : (d.emit o).aonUser = d.aonUser := rfl
@[simp] theorem Dev.emit_seqs (o : Out) : (d.emit o).seqs = d.seqs := rfl
@[simp] theorem Dev.emit_cycle (o : Out) : (d.emit o).cycle = d.cycle := rfl
@[simp] theorem Dev.emit_clk (o : Out) : (d.emit o).clk = d.clk := rfl
@[simp] theorem Dev.emit_mode (o : Out) : (d.emit o).mode = d.mode := rfl
@[simp] theorem Dev.emit_keel (o : Out) : (d.emit o).keel = d.keel := rfl
@[simp] theorem Dev.emit_rst (o : Out) : (d.emit o).rst = d.rst := rfl
@[simp] theorem Dev.emit_err (o : Out) : (d.emit o).err = d.err := rfl
@[simp] theorem Dev.emit_evt (o : Out) : (d.emit o).evt = d.evt := rfl
@[simp] theorem Dev.emit_bal (o : Out) : (d.emit o).bal = d.bal := rfl
@[simp] theorem Dev.emit_host (o : Out) : (d.emit o).host = d.host := rfl
@[simp] theorem Dev.emit_views (o : Out) : (d.emit o).views = d.views := rfl
@[simp] theorem Dev.emit_mrg (o : Out) : (d.emit o).mrg = d.mrg := rfl
@[simp] theorem Dev.emit_wpu (o : Out) : (d.emit o).wpu = d.wpu := rfl
@[simp] theorem Dev.emit_flt (o : Out) : (d.emit o).flt = d.flt := rfl
@[simp] theorem Dev.emit_ckAt (o : Out) : (d.emit o).ckAt = d.ckAt := rfl
@[simp] theorem Dev.emit_lanes (o : Out) : (d.emit o).lanes = d.lanes := rfl
@[simp] theorem Dev.emit_ports (o : Out) : (d.emit o).ports = d.ports := rfl
@[simp] theorem Dev.emit_pipes (o : Out) : (d.emit o).pipes = d.pipes := rfl
@[simp] theorem Dev.emit_mos (o : Out) : (d.emit o).mos = d.mos := rfl
@[simp] theorem Dev.emit_seg (o : Out) : (d.emit o).seg = d.seg := rfl
@[simp] theorem Dev.emit_cls (o : Out) : (d.emit o).cls = d.cls := rfl
@[simp] theorem Dev.emit_pair (o : Out) : (d.emit o).pair = d.pair := rfl
@[simp] theorem Dev.emit_hbmw (o : Out) : (d.emit o).hbmw = d.hbmw := rfl
@[simp] theorem Dev.emit_hbmr (o : Out) : (d.emit o).hbmr = d.hbmr := rfl
@[simp] theorem Dev.emit_hbmLost (o : Out) : (d.emit o).hbmLost = d.hbmLost := rfl
@[simp] theorem Dev.emit_spare (o : Out) : (d.emit o).spare = d.spare := rfl
@[simp] theorem Dev.emit_tha (o : Out) : (d.emit o).tha = d.tha := rfl
@[simp] theorem Dev.emit_mem (o : Out) : (d.emit o).mem = d.mem := rfl
@[simp] theorem Dev.emit_cal (o : Out) : (d.emit o).cal = d.cal := rfl
@[simp] theorem Dev.emit_flash (o : Out) : (d.emit o).flash = d.flash := rfl
@[simp] theorem Dev.emit_thm (o : Out) : (d.emit o).thm = d.thm := rfl

/-! ### elapse -/

@[simp] theorem Dev.elapse_regs (dt : Nat) : (d.elapse dt).regs = d.regs := rfl
@[simp] theorem Dev.elapse_force (dt : Nat) : (d.elapse dt).force = d.force := rfl
@[simp] theorem Dev.elapse_snap (dt : Nat) : (d.elapse dt).snap = d.snap := rfl
@[simp] theorem Dev.elapse_nv (dt : Nat) : (d.elapse dt).nv = d.nv := rfl
@[simp] theorem Dev.elapse_nextRst (dt : Nat) : (d.elapse dt).nextRst = d.nextRst := rfl
@[simp] theorem Dev.elapse_tab (dt : Nat) : (d.elapse dt).tab = d.tab := rfl
@[simp] theorem Dev.elapse_aonUser (dt : Nat) : (d.elapse dt).aonUser = d.aonUser := rfl
@[simp] theorem Dev.elapse_seqs (dt : Nat) : (d.elapse dt).seqs = d.seqs := rfl
@[simp] theorem Dev.elapse_mode (dt : Nat) : (d.elapse dt).mode = d.mode := rfl
@[simp] theorem Dev.elapse_keel (dt : Nat) : (d.elapse dt).keel = d.keel := rfl
@[simp] theorem Dev.elapse_rst (dt : Nat) : (d.elapse dt).rst = d.rst := rfl
@[simp] theorem Dev.elapse_err (dt : Nat) : (d.elapse dt).err = d.err := rfl
@[simp] theorem Dev.elapse_evt (dt : Nat) : (d.elapse dt).evt = d.evt := rfl
@[simp] theorem Dev.elapse_bal (dt : Nat) : (d.elapse dt).bal = d.bal := rfl
@[simp] theorem Dev.elapse_host (dt : Nat) : (d.elapse dt).host = d.host := rfl
@[simp] theorem Dev.elapse_views (dt : Nat) : (d.elapse dt).views = d.views := rfl
@[simp] theorem Dev.elapse_mrg (dt : Nat) : (d.elapse dt).mrg = d.mrg := rfl
@[simp] theorem Dev.elapse_wpu (dt : Nat) : (d.elapse dt).wpu = d.wpu := rfl
@[simp] theorem Dev.elapse_flt (dt : Nat) : (d.elapse dt).flt = d.flt := rfl
@[simp] theorem Dev.elapse_ckAt (dt : Nat) : (d.elapse dt).ckAt = d.ckAt := rfl
@[simp] theorem Dev.elapse_lanes (dt : Nat) : (d.elapse dt).lanes = d.lanes := rfl
@[simp] theorem Dev.elapse_ports (dt : Nat) : (d.elapse dt).ports = d.ports := rfl
@[simp] theorem Dev.elapse_pipes (dt : Nat) : (d.elapse dt).pipes = d.pipes := rfl
@[simp] theorem Dev.elapse_mos (dt : Nat) : (d.elapse dt).mos = d.mos := rfl
@[simp] theorem Dev.elapse_seg (dt : Nat) : (d.elapse dt).seg = d.seg := rfl
@[simp] theorem Dev.elapse_cls (dt : Nat) : (d.elapse dt).cls = d.cls := rfl
@[simp] theorem Dev.elapse_pair (dt : Nat) : (d.elapse dt).pair = d.pair := rfl
@[simp] theorem Dev.elapse_hbmw (dt : Nat) : (d.elapse dt).hbmw = d.hbmw := rfl
@[simp] theorem Dev.elapse_hbmr (dt : Nat) : (d.elapse dt).hbmr = d.hbmr := rfl
@[simp] theorem Dev.elapse_hbmLost (dt : Nat) : (d.elapse dt).hbmLost = d.hbmLost := rfl
@[simp] theorem Dev.elapse_spare (dt : Nat) : (d.elapse dt).spare = d.spare := rfl
@[simp] theorem Dev.elapse_tha (dt : Nat) : (d.elapse dt).tha = d.tha := rfl
@[simp] theorem Dev.elapse_mem (dt : Nat) : (d.elapse dt).mem = d.mem := rfl
@[simp] theorem Dev.elapse_cal (dt : Nat) : (d.elapse dt).cal = d.cal := rfl
@[simp] theorem Dev.elapse_flash (dt : Nat) : (d.elapse dt).flash = d.flash := rfl
@[simp] theorem Dev.elapse_thm (dt : Nat) : (d.elapse dt).thm = d.thm := rfl
@[simp] theorem Dev.elapse_out (dt : Nat) : (d.elapse dt).out = d.out := rfl

/-! ### setRing -/

@[simp] theorem Dev.setRing_regs (r : Nat) (c : RingCtx) : (d.setRing r c).regs = d.regs := rfl
@[simp] theorem Dev.setRing_force (r : Nat) (c : RingCtx) : (d.setRing r c).force = d.force := rfl
@[simp] theorem Dev.setRing_snap (r : Nat) (c : RingCtx) : (d.setRing r c).snap = d.snap := rfl
@[simp] theorem Dev.setRing_nv (r : Nat) (c : RingCtx) : (d.setRing r c).nv = d.nv := rfl
@[simp] theorem Dev.setRing_nextRst (r : Nat) (c : RingCtx) : (d.setRing r c).nextRst = d.nextRst := rfl
@[simp] theorem Dev.setRing_tab (r : Nat) (c : RingCtx) : (d.setRing r c).tab = d.tab := rfl
@[simp] theorem Dev.setRing_aonUser (r : Nat) (c : RingCtx) : (d.setRing r c).aonUser = d.aonUser := rfl
@[simp] theorem Dev.setRing_seqs (r : Nat) (c : RingCtx) : (d.setRing r c).seqs = d.seqs := rfl
@[simp] theorem Dev.setRing_cycle (r : Nat) (c : RingCtx) : (d.setRing r c).cycle = d.cycle := rfl
@[simp] theorem Dev.setRing_clk (r : Nat) (c : RingCtx) : (d.setRing r c).clk = d.clk := rfl
@[simp] theorem Dev.setRing_mode (r : Nat) (c : RingCtx) : (d.setRing r c).mode = d.mode := rfl
@[simp] theorem Dev.setRing_keel (r : Nat) (c : RingCtx) : (d.setRing r c).keel = d.keel := rfl
@[simp] theorem Dev.setRing_rst (r : Nat) (c : RingCtx) : (d.setRing r c).rst = d.rst := rfl
@[simp] theorem Dev.setRing_err (r : Nat) (c : RingCtx) : (d.setRing r c).err = d.err := rfl
@[simp] theorem Dev.setRing_evt (r : Nat) (c : RingCtx) : (d.setRing r c).evt = d.evt := rfl
@[simp] theorem Dev.setRing_bal (r : Nat) (c : RingCtx) : (d.setRing r c).bal = d.bal := rfl
@[simp] theorem Dev.setRing_views (r : Nat) (c : RingCtx) : (d.setRing r c).views = d.views := rfl
@[simp] theorem Dev.setRing_mrg (r : Nat) (c : RingCtx) : (d.setRing r c).mrg = d.mrg := rfl
@[simp] theorem Dev.setRing_wpu (r : Nat) (c : RingCtx) : (d.setRing r c).wpu = d.wpu := rfl
@[simp] theorem Dev.setRing_flt (r : Nat) (c : RingCtx) : (d.setRing r c).flt = d.flt := rfl
@[simp] theorem Dev.setRing_ckAt (r : Nat) (c : RingCtx) : (d.setRing r c).ckAt = d.ckAt := rfl
@[simp] theorem Dev.setRing_lanes (r : Nat) (c : RingCtx) : (d.setRing r c).lanes = d.lanes := rfl
@[simp] theorem Dev.setRing_ports (r : Nat) (c : RingCtx) : (d.setRing r c).ports = d.ports := rfl
@[simp] theorem Dev.setRing_pipes (r : Nat) (c : RingCtx) : (d.setRing r c).pipes = d.pipes := rfl
@[simp] theorem Dev.setRing_mos (r : Nat) (c : RingCtx) : (d.setRing r c).mos = d.mos := rfl
@[simp] theorem Dev.setRing_seg (r : Nat) (c : RingCtx) : (d.setRing r c).seg = d.seg := rfl
@[simp] theorem Dev.setRing_cls (r : Nat) (c : RingCtx) : (d.setRing r c).cls = d.cls := rfl
@[simp] theorem Dev.setRing_pair (r : Nat) (c : RingCtx) : (d.setRing r c).pair = d.pair := rfl
@[simp] theorem Dev.setRing_hbmw (r : Nat) (c : RingCtx) : (d.setRing r c).hbmw = d.hbmw := rfl
@[simp] theorem Dev.setRing_hbmr (r : Nat) (c : RingCtx) : (d.setRing r c).hbmr = d.hbmr := rfl
@[simp] theorem Dev.setRing_hbmLost (r : Nat) (c : RingCtx) : (d.setRing r c).hbmLost = d.hbmLost := rfl
@[simp] theorem Dev.setRing_spare (r : Nat) (c : RingCtx) : (d.setRing r c).spare = d.spare := rfl
@[simp] theorem Dev.setRing_tha (r : Nat) (c : RingCtx) : (d.setRing r c).tha = d.tha := rfl
@[simp] theorem Dev.setRing_mem (r : Nat) (c : RingCtx) : (d.setRing r c).mem = d.mem := rfl
@[simp] theorem Dev.setRing_cal (r : Nat) (c : RingCtx) : (d.setRing r c).cal = d.cal := rfl
@[simp] theorem Dev.setRing_flash (r : Nat) (c : RingCtx) : (d.setRing r c).flash = d.flash := rfl
@[simp] theorem Dev.setRing_thm (r : Nat) (c : RingCtx) : (d.setRing r c).thm = d.thm := rfl
@[simp] theorem Dev.setRing_out (r : Nat) (c : RingCtx) : (d.setRing r c).out = d.out := rfl

/-! ### toRing -/

@[simp] theorem Dev.toRing_regs (x : RingItem) : (d.toRing x).regs = d.regs := rfl
@[simp] theorem Dev.toRing_force (x : RingItem) : (d.toRing x).force = d.force := rfl
@[simp] theorem Dev.toRing_snap (x : RingItem) : (d.toRing x).snap = d.snap := rfl
@[simp] theorem Dev.toRing_nv (x : RingItem) : (d.toRing x).nv = d.nv := rfl
@[simp] theorem Dev.toRing_nextRst (x : RingItem) : (d.toRing x).nextRst = d.nextRst := rfl
@[simp] theorem Dev.toRing_tab (x : RingItem) : (d.toRing x).tab = d.tab := rfl
@[simp] theorem Dev.toRing_aonUser (x : RingItem) : (d.toRing x).aonUser = d.aonUser := rfl
@[simp] theorem Dev.toRing_seqs (x : RingItem) : (d.toRing x).seqs = d.seqs := rfl
@[simp] theorem Dev.toRing_cycle (x : RingItem) : (d.toRing x).cycle = d.cycle := rfl
@[simp] theorem Dev.toRing_clk (x : RingItem) : (d.toRing x).clk = d.clk := rfl
@[simp] theorem Dev.toRing_mode (x : RingItem) : (d.toRing x).mode = d.mode := rfl
@[simp] theorem Dev.toRing_keel (x : RingItem) : (d.toRing x).keel = d.keel := rfl
@[simp] theorem Dev.toRing_rst (x : RingItem) : (d.toRing x).rst = d.rst := rfl
@[simp] theorem Dev.toRing_err (x : RingItem) : (d.toRing x).err = d.err := rfl
@[simp] theorem Dev.toRing_evt (x : RingItem) : (d.toRing x).evt = d.evt := rfl
@[simp] theorem Dev.toRing_bal (x : RingItem) : (d.toRing x).bal = d.bal := rfl
@[simp] theorem Dev.toRing_views (x : RingItem) : (d.toRing x).views = d.views := rfl
@[simp] theorem Dev.toRing_mrg (x : RingItem) : (d.toRing x).mrg = d.mrg := rfl
@[simp] theorem Dev.toRing_wpu (x : RingItem) : (d.toRing x).wpu = d.wpu := rfl
@[simp] theorem Dev.toRing_flt (x : RingItem) : (d.toRing x).flt = d.flt := rfl
@[simp] theorem Dev.toRing_ckAt (x : RingItem) : (d.toRing x).ckAt = d.ckAt := rfl
@[simp] theorem Dev.toRing_lanes (x : RingItem) : (d.toRing x).lanes = d.lanes := rfl
@[simp] theorem Dev.toRing_ports (x : RingItem) : (d.toRing x).ports = d.ports := rfl
@[simp] theorem Dev.toRing_pipes (x : RingItem) : (d.toRing x).pipes = d.pipes := rfl
@[simp] theorem Dev.toRing_mos (x : RingItem) : (d.toRing x).mos = d.mos := rfl
@[simp] theorem Dev.toRing_seg (x : RingItem) : (d.toRing x).seg = d.seg := rfl
@[simp] theorem Dev.toRing_cls (x : RingItem) : (d.toRing x).cls = d.cls := rfl
@[simp] theorem Dev.toRing_pair (x : RingItem) : (d.toRing x).pair = d.pair := rfl
@[simp] theorem Dev.toRing_hbmw (x : RingItem) : (d.toRing x).hbmw = d.hbmw := rfl
@[simp] theorem Dev.toRing_hbmr (x : RingItem) : (d.toRing x).hbmr = d.hbmr := rfl
@[simp] theorem Dev.toRing_hbmLost (x : RingItem) : (d.toRing x).hbmLost = d.hbmLost := rfl
@[simp] theorem Dev.toRing_spare (x : RingItem) : (d.toRing x).spare = d.spare := rfl
@[simp] theorem Dev.toRing_tha (x : RingItem) : (d.toRing x).tha = d.tha := rfl
@[simp] theorem Dev.toRing_mem (x : RingItem) : (d.toRing x).mem = d.mem := rfl
@[simp] theorem Dev.toRing_cal (x : RingItem) : (d.toRing x).cal = d.cal := rfl
@[simp] theorem Dev.toRing_flash (x : RingItem) : (d.toRing x).flash = d.flash := rfl
@[simp] theorem Dev.toRing_thm (x : RingItem) : (d.toRing x).thm = d.thm := rfl
@[simp] theorem Dev.toRing_out (x : RingItem) : (d.toRing x).out = d.out := rfl

/-! ### fly -/

@[simp] theorem Dev.fly_regs (i : MergeId) (x : Item) : (d.fly i x).regs = d.regs := rfl
@[simp] theorem Dev.fly_force (i : MergeId) (x : Item) : (d.fly i x).force = d.force := rfl
@[simp] theorem Dev.fly_snap (i : MergeId) (x : Item) : (d.fly i x).snap = d.snap := rfl
@[simp] theorem Dev.fly_nv (i : MergeId) (x : Item) : (d.fly i x).nv = d.nv := rfl
@[simp] theorem Dev.fly_nextRst (i : MergeId) (x : Item) : (d.fly i x).nextRst = d.nextRst := rfl
@[simp] theorem Dev.fly_tab (i : MergeId) (x : Item) : (d.fly i x).tab = d.tab := rfl
@[simp] theorem Dev.fly_aonUser (i : MergeId) (x : Item) : (d.fly i x).aonUser = d.aonUser := rfl
@[simp] theorem Dev.fly_seqs (i : MergeId) (x : Item) : (d.fly i x).seqs = d.seqs := rfl
@[simp] theorem Dev.fly_cycle (i : MergeId) (x : Item) : (d.fly i x).cycle = d.cycle := rfl
@[simp] theorem Dev.fly_clk (i : MergeId) (x : Item) : (d.fly i x).clk = d.clk := rfl
@[simp] theorem Dev.fly_mode (i : MergeId) (x : Item) : (d.fly i x).mode = d.mode := rfl
@[simp] theorem Dev.fly_keel (i : MergeId) (x : Item) : (d.fly i x).keel = d.keel := rfl
@[simp] theorem Dev.fly_rst (i : MergeId) (x : Item) : (d.fly i x).rst = d.rst := rfl
@[simp] theorem Dev.fly_err (i : MergeId) (x : Item) : (d.fly i x).err = d.err := rfl
@[simp] theorem Dev.fly_evt (i : MergeId) (x : Item) : (d.fly i x).evt = d.evt := rfl
@[simp] theorem Dev.fly_bal (i : MergeId) (x : Item) : (d.fly i x).bal = d.bal := rfl
@[simp] theorem Dev.fly_host (i : MergeId) (x : Item) : (d.fly i x).host = d.host := rfl
@[simp] theorem Dev.fly_views (i : MergeId) (x : Item) : (d.fly i x).views = d.views := rfl
@[simp] theorem Dev.fly_wpu (i : MergeId) (x : Item) : (d.fly i x).wpu = d.wpu := rfl
@[simp] theorem Dev.fly_flt (i : MergeId) (x : Item) : (d.fly i x).flt = d.flt := rfl
@[simp] theorem Dev.fly_ckAt (i : MergeId) (x : Item) : (d.fly i x).ckAt = d.ckAt := rfl
@[simp] theorem Dev.fly_lanes (i : MergeId) (x : Item) : (d.fly i x).lanes = d.lanes := rfl
@[simp] theorem Dev.fly_ports (i : MergeId) (x : Item) : (d.fly i x).ports = d.ports := rfl
@[simp] theorem Dev.fly_pipes (i : MergeId) (x : Item) : (d.fly i x).pipes = d.pipes := rfl
@[simp] theorem Dev.fly_mos (i : MergeId) (x : Item) : (d.fly i x).mos = d.mos := rfl
@[simp] theorem Dev.fly_seg (i : MergeId) (x : Item) : (d.fly i x).seg = d.seg := rfl
@[simp] theorem Dev.fly_cls (i : MergeId) (x : Item) : (d.fly i x).cls = d.cls := rfl
@[simp] theorem Dev.fly_pair (i : MergeId) (x : Item) : (d.fly i x).pair = d.pair := rfl
@[simp] theorem Dev.fly_hbmw (i : MergeId) (x : Item) : (d.fly i x).hbmw = d.hbmw := rfl
@[simp] theorem Dev.fly_hbmr (i : MergeId) (x : Item) : (d.fly i x).hbmr = d.hbmr := rfl
@[simp] theorem Dev.fly_hbmLost (i : MergeId) (x : Item) : (d.fly i x).hbmLost = d.hbmLost := rfl
@[simp] theorem Dev.fly_spare (i : MergeId) (x : Item) : (d.fly i x).spare = d.spare := rfl
@[simp] theorem Dev.fly_tha (i : MergeId) (x : Item) : (d.fly i x).tha = d.tha := rfl
@[simp] theorem Dev.fly_mem (i : MergeId) (x : Item) : (d.fly i x).mem = d.mem := rfl
@[simp] theorem Dev.fly_cal (i : MergeId) (x : Item) : (d.fly i x).cal = d.cal := rfl
@[simp] theorem Dev.fly_flash (i : MergeId) (x : Item) : (d.fly i x).flash = d.flash := rfl
@[simp] theorem Dev.fly_thm (i : MergeId) (x : Item) : (d.fly i x).thm = d.thm := rfl
@[simp] theorem Dev.fly_out (i : MergeId) (x : Item) : (d.fly i x).out = d.out := rfl

/-! ### mkStamp -/

@[simp] theorem Dev.mkStamp_regs (o : Nat) (t : W64) : ((d.mkStamp o t).2).regs = d.regs := rfl
@[simp] theorem Dev.mkStamp_force (o : Nat) (t : W64) : ((d.mkStamp o t).2).force = d.force := rfl
@[simp] theorem Dev.mkStamp_snap (o : Nat) (t : W64) : ((d.mkStamp o t).2).snap = d.snap := rfl
@[simp] theorem Dev.mkStamp_nv (o : Nat) (t : W64) : ((d.mkStamp o t).2).nv = d.nv := rfl
@[simp] theorem Dev.mkStamp_nextRst (o : Nat) (t : W64) : ((d.mkStamp o t).2).nextRst = d.nextRst := rfl
@[simp] theorem Dev.mkStamp_tab (o : Nat) (t : W64) : ((d.mkStamp o t).2).tab = d.tab := rfl
@[simp] theorem Dev.mkStamp_aonUser (o : Nat) (t : W64) : ((d.mkStamp o t).2).aonUser = d.aonUser := rfl
@[simp] theorem Dev.mkStamp_cycle (o : Nat) (t : W64) : ((d.mkStamp o t).2).cycle = d.cycle := rfl
@[simp] theorem Dev.mkStamp_clk (o : Nat) (t : W64) : ((d.mkStamp o t).2).clk = d.clk := rfl
@[simp] theorem Dev.mkStamp_mode (o : Nat) (t : W64) : ((d.mkStamp o t).2).mode = d.mode := rfl
@[simp] theorem Dev.mkStamp_keel (o : Nat) (t : W64) : ((d.mkStamp o t).2).keel = d.keel := rfl
@[simp] theorem Dev.mkStamp_rst (o : Nat) (t : W64) : ((d.mkStamp o t).2).rst = d.rst := rfl
@[simp] theorem Dev.mkStamp_err (o : Nat) (t : W64) : ((d.mkStamp o t).2).err = d.err := rfl
@[simp] theorem Dev.mkStamp_evt (o : Nat) (t : W64) : ((d.mkStamp o t).2).evt = d.evt := rfl
@[simp] theorem Dev.mkStamp_bal (o : Nat) (t : W64) : ((d.mkStamp o t).2).bal = d.bal := rfl
@[simp] theorem Dev.mkStamp_host (o : Nat) (t : W64) : ((d.mkStamp o t).2).host = d.host := rfl
@[simp] theorem Dev.mkStamp_views (o : Nat) (t : W64) : ((d.mkStamp o t).2).views = d.views := rfl
@[simp] theorem Dev.mkStamp_mrg (o : Nat) (t : W64) : ((d.mkStamp o t).2).mrg = d.mrg := rfl
@[simp] theorem Dev.mkStamp_wpu (o : Nat) (t : W64) : ((d.mkStamp o t).2).wpu = d.wpu := rfl
@[simp] theorem Dev.mkStamp_flt (o : Nat) (t : W64) : ((d.mkStamp o t).2).flt = d.flt := rfl
@[simp] theorem Dev.mkStamp_ckAt (o : Nat) (t : W64) : ((d.mkStamp o t).2).ckAt = d.ckAt := rfl
@[simp] theorem Dev.mkStamp_lanes (o : Nat) (t : W64) : ((d.mkStamp o t).2).lanes = d.lanes := rfl
@[simp] theorem Dev.mkStamp_ports (o : Nat) (t : W64) : ((d.mkStamp o t).2).ports = d.ports := rfl
@[simp] theorem Dev.mkStamp_pipes (o : Nat) (t : W64) : ((d.mkStamp o t).2).pipes = d.pipes := rfl
@[simp] theorem Dev.mkStamp_mos (o : Nat) (t : W64) : ((d.mkStamp o t).2).mos = d.mos := rfl
@[simp] theorem Dev.mkStamp_seg (o : Nat) (t : W64) : ((d.mkStamp o t).2).seg = d.seg := rfl
@[simp] theorem Dev.mkStamp_cls (o : Nat) (t : W64) : ((d.mkStamp o t).2).cls = d.cls := rfl
@[simp] theorem Dev.mkStamp_pair (o : Nat) (t : W64) : ((d.mkStamp o t).2).pair = d.pair := rfl
@[simp] theorem Dev.mkStamp_hbmw (o : Nat) (t : W64) : ((d.mkStamp o t).2).hbmw = d.hbmw := rfl
@[simp] theorem Dev.mkStamp_hbmr (o : Nat) (t : W64) : ((d.mkStamp o t).2).hbmr = d.hbmr := rfl
@[simp] theorem Dev.mkStamp_hbmLost (o : Nat) (t : W64) : ((d.mkStamp o t).2).hbmLost = d.hbmLost := rfl
@[simp] theorem Dev.mkStamp_spare (o : Nat) (t : W64) : ((d.mkStamp o t).2).spare = d.spare := rfl
@[simp] theorem Dev.mkStamp_tha (o : Nat) (t : W64) : ((d.mkStamp o t).2).tha = d.tha := rfl
@[simp] theorem Dev.mkStamp_mem (o : Nat) (t : W64) : ((d.mkStamp o t).2).mem = d.mem := rfl
@[simp] theorem Dev.mkStamp_cal (o : Nat) (t : W64) : ((d.mkStamp o t).2).cal = d.cal := rfl
@[simp] theorem Dev.mkStamp_flash (o : Nat) (t : W64) : ((d.mkStamp o t).2).flash = d.flash := rfl
@[simp] theorem Dev.mkStamp_thm (o : Nat) (t : W64) : ((d.mkStamp o t).2).thm = d.thm := rfl
@[simp] theorem Dev.mkStamp_out (o : Nat) (t : W64) : ((d.mkStamp o t).2).out = d.out := rfl

/-! ### What the updates change -/

@[simp] theorem Dev.wr_regs (a : Nat) (v : W64) : (d.wr a v).regs = d.regs.put a v := rfl
@[simp] theorem Dev.emit_out (o : Out) : (d.emit o).out = d.out ++ [o] := rfl
@[simp] theorem Dev.setRing_host (r : Nat) (c : RingCtx) : (d.setRing r c).host = { d.host with rings := alSet d.host.rings r c } := rfl
@[simp] theorem Dev.toRing_host (x : RingItem) : (d.toRing x).host = { d.host with queue := d.host.queue ++ [x] } := rfl
@[simp] theorem Dev.elapse_cyc (dt : Nat) : (d.elapse dt).clk.cyc = d.clk.cyc + dt := rfl
@[simp] theorem Dev.mkStamp_seqs (o : Nat) (t : W64) : (d.mkStamp o t).2.seqs = lset d.seqs o (lget d.seqs o 0 + 1) := rfl

end Sys2Proof.Machine
end

