-- ==== Sys2Proof/Laws/Store.lean ====
section
/-! SUPPORT. The register stores and the byte memory: a read after a write, and the canonical form, which every operation keeps. -/

namespace Sys2Proof.Machine

/-! ### Register stores -/

@[simp] theorem RegStore.find_put_self (m : RegStore) (a : Nat) (v : W64) : (m.put a v).find a = some v := by
  induction m with
  | nil => simp [RegStore.put, RegStore.find]
  | cons p m ih =>
    unfold RegStore.put
    split
    · simp [RegStore.find]
    · split
      · simp [RegStore.find]
      · simp [RegStore.find, *]

theorem RegStore.find_put_ne (m : RegStore) {a b : Nat} (v : W64) (h : b ≠ a) : (m.put a v).find b = m.find b := by
  induction m with
  | nil => simp [RegStore.put, RegStore.find, Ne.symm h]
  | cons p m ih =>
    obtain ⟨k, w⟩ := p
    unfold RegStore.put
    split
    · rename_i hk
      subst hk
      simp [RegStore.find, Ne.symm h]
    · split
      · rename_i hlt
        simp only [RegStore.find, Ne.symm h, if_false]
        split
        · rename_i hb
          have : ¬ k = b := by omega
          have : b < k := by simp only at hlt; omega
          simp [*]
        · rfl
      · simp only [RegStore.find, ih]

/-! ### Byte memory -/

theorem Mem.wfFrom_mono (dflt : Nat → Byte) {lo lo' : Nat} (m : Mem) (h : lo ≤ lo') (hm : Mem.wfFrom dflt lo' m = true) :
    Mem.wfFrom dflt lo m = true := by
  cases m with
  | nil => rfl
  | cons p m =>
    simp only [Mem.wfFrom, Bool.and_eq_true, decide_eq_true_eq] at hm ⊢
    exact ⟨⟨by omega, hm.1.2⟩, hm.2⟩

theorem Mem.wfFrom_write (dflt : Nat → Byte) (a : Nat) (b : Byte) : ∀ (m : Mem) (lo : Nat), lo ≤ a → Mem.wfFrom dflt lo m = true →
    Mem.wfFrom dflt lo (m.write dflt a b) = true := by
  intro m
  induction m with
  | nil =>
    intro lo hlo _
    unfold Mem.write
    split <;> simp_all [Mem.wfFrom]
  | cons p m ih =>
    intro lo hlo hm
    simp only [Mem.wfFrom, Bool.and_eq_true, decide_eq_true_eq] at hm
    obtain ⟨⟨h1, h2⟩, h3⟩ := hm
    unfold Mem.write
    split
    · rename_i hp
      split
      · exact Mem.wfFrom_mono dflt m (by omega) h3
      · simp_all [Mem.wfFrom]
    · split
      · split
        · simp_all [Mem.wfFrom]
        · simp only [Mem.wfFrom, Bool.and_eq_true, decide_eq_true_eq]
          exact ⟨⟨hlo, by assumption⟩, ⟨by omega, h2⟩, h3⟩
      · simp only [Mem.wfFrom, Bool.and_eq_true, decide_eq_true_eq]
        exact ⟨⟨h1, h2⟩, ih _ (by omega) h3⟩

/-- A store keeps the canonical form. -/
theorem Mem.wf_write (dflt : Nat → Byte) (m : Mem) (a : Nat) (b : Byte) (h : m.wf dflt = true) : (m.write dflt a b).wf dflt = true :=
  Mem.wfFrom_write dflt a b m 0 (Nat.zero_le a) h

theorem Mem.wf_writeBytes (dflt : Nat → Byte) : ∀ (bs : List Byte) (m : Mem) (a : Nat), m.wf dflt = true → (m.writeBytes dflt a bs).wf dflt = true
  | [], _, _, h => h
  | b :: bs, m, a, h => Mem.wf_writeBytes dflt bs (m.write dflt a b) (a + 1) (Mem.wf_write dflt m a b h)

theorem Mem.wfFrom_filter (dflt : Nat → Byte) (q : Host.Cell → Bool) : ∀ (m : Mem) (lo : Nat), Mem.wfFrom dflt lo m = true →
    Mem.wfFrom dflt lo (m.filter q) = true := by
  intro m
  induction m with
  | nil => intro lo h; exact h
  | cons p m ih =>
    intro lo h
    simp only [Mem.wfFrom, Bool.and_eq_true, decide_eq_true_eq] at h
    obtain ⟨⟨h1, h2⟩, h3⟩ := h
    rw [List.filter_cons]
    split
    · simp only [Mem.wfFrom, Bool.and_eq_true, decide_eq_true_eq]
      exact ⟨⟨h1, h2⟩, ih _ h3⟩
    · exact ih lo (Mem.wfFrom_mono dflt m (by omega) h3)

/-- A byte stored is read back. -/
@[simp] theorem Mem.read_write_self (dflt : Nat → Byte) (a : Nat) (b : Byte) : ∀ (m : Mem) (lo : Nat), Mem.wfFrom dflt lo m = true →
    (m.write dflt a b).read dflt a = b := by
  intro m
  induction m with
  | nil =>
    intro lo _
    unfold Mem.write
    split <;> simp_all [Mem.read]
  | cons p m ih =>
    intro lo h
    simp only [Mem.wfFrom, Bool.and_eq_true, decide_eq_true_eq] at h
    obtain ⟨⟨h1, h2⟩, h3⟩ := h
    unfold Mem.write
    split
    · split
      · rename_i hp hb
        subst hp
        cases m with
        | nil => simp [Mem.read, hb]
        | cons q m =>
          simp only [Mem.wfFrom, Bool.and_eq_true, decide_eq_true_eq] at h3
          have h5 : ¬ q.1 = p.1 := by omega
          have h6 : p.1 < q.1 := by omega
          simp [Mem.read, h5, h6, hb]
      · simp [Mem.read]
    · split
      · rename_i hp hlt
        split
        · simp [Mem.read, *]
        · simp [Mem.read]
      · rename_i hp hlt
        simp only [Mem.read, hp, hlt, if_false]
        exact ih _ h3

/-- A store leaves every other byte alone. -/
theorem Mem.read_write_ne (dflt : Nat → Byte) {a c : Nat} (b : Byte) (hne : c ≠ a) : ∀ (m : Mem) (lo : Nat), Mem.wfFrom dflt lo m = true →
    (m.write dflt a b).read dflt c = m.read dflt c := by
  intro m
  induction m with
  | nil =>
    intro lo _
    unfold Mem.write
    split
    · rfl
    · simp only [Mem.read, Ne.symm hne, if_false]; split <;> rfl
  | cons p m ih =>
    intro lo h
    simp only [Mem.wfFrom, Bool.and_eq_true, decide_eq_true_eq] at h
    obtain ⟨⟨h1, h2⟩, h3⟩ := h
    unfold Mem.write
    split
    · rename_i hp
      subst hp
      split
      · simp only [Mem.read, Ne.symm hne, if_false]
        cases m with
        | nil => split <;> rfl
        | cons q m =>
          simp only [Mem.wfFrom, Bool.and_eq_true, decide_eq_true_eq] at h3
          split
          · have h5 : ¬ q.1 = c := by omega
            have h6 : c < q.1 := by omega
            simp [Mem.read, h5, h6]
          · rfl
      · simp [Mem.read, Ne.symm hne]
    · split
      · rename_i hp hlt
        split
        · rfl
        · simp only [Mem.read, Ne.symm hne, if_false]
          split
          · have h5 : ¬ p.1 = c := by omega
            have h6 : c < p.1 := by omega
            simp [h5, h6]
          · rfl
      · simp only [Mem.read, ih _ h3]

theorem Mem.below_write (dflt : Nat → Byte) (n a : Nat) (b : Byte) (ha : a < n) : ∀ m : Mem, m.below n = true → (m.write dflt a b).below n = true := by
  intro m
  induction m with
  | nil => intro _; unfold Mem.write; split <;> simp [Mem.below, ha]
  | cons p m ih =>
    intro h
    simp only [Mem.below, List.all_cons, Bool.and_eq_true, decide_eq_true_eq] at h ih ⊢
    unfold Mem.write
    split
    · split
      · exact h.2
      · simp [ha, h.2]
    · split
      · split
        · simp [h.1, h.2]
        · simp [ha, h.1, h.2]
      · simp [h.1, ih h.2]

theorem Mem.below_writeBytes (dflt : Nat → Byte) (n : Nat) : ∀ (bs : List Byte) (m : Mem) (a : Nat), a + bs.length ≤ n → m.below n = true →
    (m.writeBytes dflt a bs).below n = true
  | [], _, _, _, h => h
  | b :: bs, m, a, ha, h => by
    simp only [List.length_cons] at ha
    exact Mem.below_writeBytes dflt n bs (m.write dflt a b) (a + 1) (by omega) (Mem.below_write dflt n a b (by omega) m h)

/-! ### What a step does to the stacks -/

/-- Losing contents keeps the form. -/
theorem loseContents_wf (o : Nat) (l : List (Nat × Nat)) (m : Mem) (h : m.wf hbmDefault = true) : (loseContents o l m).wf hbmDefault = true := by
  unfold loseContents
  split
  · exact h
  · exact Mem.wfFrom_filter _ _ m 0 h

theorem loseContents_below (o n : Nat) (l : List (Nat × Nat)) (m : Mem) (h : m.below n = true) : (loseContents o l m).below n = true := by
  unfold loseContents
  split
  · exact h
  · simp only [Mem.below, List.all_eq_true] at h ⊢
    intro c hc
    exact h c (List.mem_of_mem_filter hc)

/-- What a step stores lies in the stacks and keeps the form. -/
theorem storeAll_ok : ∀ (ws : List (Nat × List Byte)) (m : Mem), m.wf hbmDefault = true → m.below hbmBytes = true →
    (storeAll ws m).wf hbmDefault = true ∧ (storeAll ws m).below hbmBytes = true
  | [], _, h, k => ⟨h, k⟩
  | p :: ws, m, h, k => by
    simp only [storeAll, List.foldl_cons]
    split
    · exact storeAll_ok ws _ (Mem.wf_writeBytes _ _ _ _ h) (Mem.below_writeBytes _ _ _ _ _ (by assumption) k)
    · exact storeAll_ok ws m h k

end Sys2Proof.Machine
end

