-- ==== Sys2Proof/Laws/Ops.lean ====
section
/-! SUPPORT. Fields of registers, registers of the block, and what a step leaves of the block that a meaning made. -/

namespace Sys2Proof.Machine

/-! ### Fields -/

theorem Fld.testBit_mask (f : Fld) (i : Nat) (hi : i < 64) : f.mask.getLsbD i = (decide (f.lo ≤ i) && decide (i < f.lo + f.w)) := by
  have e : f.mask.getLsbD i = ((2 ^ f.w - 1) <<< f.lo).testBit i := by
    rw [Fld.mask, BitVec.getLsbD_ofNat, decide_eq_true hi, Bool.true_and]
  rw [e, Nat.testBit_shiftLeft, Nat.testBit_two_pow_sub_one]
  by_cases h : f.lo ≤ i
  · have : i - f.lo < f.w ↔ i < f.lo + f.w := by omega
    simp [h, this]
  · simp [h]

theorem testBit_fget (v : W64) (f : Fld) (i : Nat) : (fget v f).testBit i = (decide (i < f.w) && v.getLsbD (f.lo + i)) := by
  simp [fget, Nat.testBit_mod_two_pow, Nat.testBit_shiftRight, BitVec.testBit_toNat]

theorem getLsbD_fset (v : W64) (f : Fld) (n i : Nat) (hi : i < 64) :
    (fset v f n).getLsbD i = if f.lo ≤ i ∧ i < f.lo + f.w then n.testBit (i - f.lo) else v.getLsbD i := by
  have e : (BitVec.ofNat 64 ((n % 2 ^ f.w) <<< f.lo)).getLsbD i = (decide (f.lo ≤ i) && (decide (i - f.lo < f.w) && n.testBit (i - f.lo))) := by
    rw [BitVec.getLsbD_ofNat, decide_eq_true hi, Bool.true_and, Nat.testBit_shiftLeft, Nat.testBit_mod_two_pow]
  simp only [fset, BitVec.getLsbD_or, BitVec.getLsbD_and, BitVec.getLsbD_not, Fld.testBit_mask f i hi, e, hi, decide_true, Bool.true_and]
  by_cases h1 : f.lo ≤ i
  · by_cases h2 : i < f.lo + f.w
    · have : i - f.lo < f.w := by omega
      simp [h1, h2, this]
    · have : ¬ i - f.lo < f.w := by omega
      simp [h1, h2, this]
  · simp [h1]

/-- A field set is read back, modulo its width. -/
theorem fget_fset_self (v : W64) (f : Fld) (n : Nat) (h : f.lo + f.w ≤ 64) : fget (fset v f n) f = n % 2 ^ f.w := by
  apply Nat.eq_of_testBit_eq
  intro i
  rw [testBit_fget, Nat.testBit_mod_two_pow]
  by_cases hi : i < f.w
  · have e : f.lo + i - f.lo = i := by omega
    rw [getLsbD_fset v f n _ (by omega)]
    simp [hi, e]
  · simp [hi]

/-- Setting a field leaves a field of other bits alone. -/
theorem fget_fset_ne (v : W64) (f g : Fld) (n : Nat) (h : g.lo + g.w ≤ f.lo ∨ f.lo + f.w ≤ g.lo) (hg : g.lo + g.w ≤ 64) :
    fget (fset v f n) g = fget v g := by
  apply Nat.eq_of_testBit_eq
  intro i
  rw [testBit_fget, testBit_fget]
  by_cases hi : i < g.w
  · rw [getLsbD_fset v f n _ (by omega)]
    have : ¬ (f.lo ≤ g.lo + i ∧ g.lo + i < f.lo + f.w) := by omega
    simp [this]
  · simp [hi]

theorem fbit_fset_self (v : W64) (f : Fld) (b : Bool) (h : f.lo + f.w ≤ 64) (hw : 0 < f.w) : fbit (fset v f (if b then 1 else 0)) f = b := by
  have : 1 < 2 ^ f.w := Nat.one_lt_two_pow (by omega)
  cases b <;> simp [fbit, fget_fset_self v f _ h, Nat.mod_eq_of_lt this]

/-! ### Registers -/

@[simp] theorem Dev.rd_wr_self (d : Dev) (a : Nat) (v : W64) : (d.wr a v).rd a = v := by
  simp [Dev.rd]

theorem Dev.rd_wr_ne (d : Dev) {a b : Nat} (v : W64) (h : b ≠ a) : (d.wr a v).rd b = d.rd b := by
  simp [Dev.rd, RegStore.find_put_ne _ _ h, Dev.dflt]

theorem Dev.rdF_wrF_self (d : Dev) (a : Nat) (f : Fld) (n : Nat) (h : f.lo + f.w ≤ 64) : (d.wrF a f n).rdF a f = n % 2 ^ f.w := by
  simp [Dev.rdF, Dev.wrF, fget_fset_self _ _ _ h]

theorem Dev.rdF_wrF_ne (d : Dev) {a b : Nat} (f g : Fld) (n : Nat) (h : b ≠ a) : (d.wrF a f n).rdF b g = d.rdF b g := by
  simp [Dev.rdF, Dev.wrF, Dev.rd_wr_ne _ _ h]

theorem Dev.rd_inc_ne (d : Dev) {a b : Nat} (f : Fld) (n : Nat) (h : b ≠ a) : (d.inc a f n).rd b = d.rd b := d.rd_wr_ne _ h

@[simp] theorem Dev.rd_inc_self (d : Dev) (a : Nat) (f : Fld) (n : Nat) : (d.inc a f n).rd a = fincSat (d.rd a) f n := d.rd_wr_self a _

theorem Dev.rdF_inc_ne (d : Dev) {a b : Nat} (f g : Fld) (n : Nat) (h : b ≠ a) : (d.inc a f n).rdF b g = d.rdF b g := by
  simp [Dev.rdF, Dev.rd_inc_ne _ _ _ h]

/-- A counter saturates at its largest value. -/
theorem Dev.rdF_inc_self (d : Dev) (a : Nat) (f : Fld) (n : Nat) (h : f.lo + f.w ≤ 64) :
    (d.inc a f n).rdF a f = min (d.rdF a f + n) (2 ^ f.w - 1) := by
  have hp : 0 < 2 ^ f.w := Nat.two_pow_pos f.w
  have : min (fget (d.rd a) f + n) (2 ^ f.w - 1) < 2 ^ f.w := by omega
  simp [Dev.rdF, fincSat, fget_fset_self _ _ _ h, Nat.mod_eq_of_lt this]

theorem Dev.rdB_wrB_self (d : Dev) (a : Nat) (f : Fld) (b : Bool) (h : f.lo + f.w ≤ 64) (hw : 0 < f.w) : (d.wrB a f b).rdB a f = b := by
  simp [Dev.rdB, Dev.wrB, Dev.wrF, fbit_fset_self _ _ _ h hw]

/-- Two blocks with the same written values and defaults read alike. -/
theorem Dev.rd_congr {d e : Dev} (h : d.regs = e.regs) (k : d.nv = e.nv) (a : Nat) : d.rd a = e.rd a := by
  simp [Dev.rd, Dev.dflt, h, k]

theorem Dev.elapse_rd (d : Dev) (dt a : Nat) : (d.elapse dt).rd a = d.rd a := rfl
theorem Dev.elapse_rdF (d : Dev) (dt a : Nat) (f : Fld) : (d.elapse dt).rdF a f = d.rdF a f := rfl
theorem Dev.elapse_rdB (d : Dev) (dt a : Nat) (f : Fld) : (d.elapse dt).rdB a f = d.rdB a f := rfl
theorem Dev.elapse_inF (d : Dev) (dt a : Nat) (f : Fld) : (d.elapse dt).inF a f = d.inF a f := rfl
theorem Dev.elapse_inB (d : Dev) (dt a : Nat) (f : Fld) : (d.elapse dt).inB a f = d.inB a f := rfl
theorem Dev.elapse_isHeld (d : Dev) (dt : Nat) (u : RUnit) : (d.elapse dt).isHeld u = d.isHeld u := rfl
theorem Dev.elapse_reachable (d : Dev) (dt : Nat) (u : RUnit) : (d.elapse dt).reachable u = d.reachable u := rfl
theorem Dev.elapse_calm (d : Dev) (dt : Nat) : (d.elapse dt).calm = d.calm := rfl

/-! ### What falls due -/

theorem Dev.idleResets_none (d : Dev) (h : d.rst.idle = []) : d.idleResets = d := by simp [Dev.idleResets, h]

/-- Where nothing is due, nothing falls due. -/
theorem Dev.settle_of_calm (d : Dev) (h : d.calm = true) : d.settle = d := by
  simp only [Dev.calm, Bool.and_eq_true, Bool.not_eq_true', List.isEmpty_iff] at h
  obtain ⟨⟨h1, h2⟩, h3⟩ := h
  simp [Dev.settle, h1, h2, Dev.idleResets_none d h3]

/-- Accesses that reach the stacks change the memory controllers alone. -/
theorem Dev.touchWord_eq (d : Dev) (w : Nat) (n : Option Nat) : ∃ m, d.touchWord w n = { d with mem := m } := ⟨_, rfl⟩

theorem Dev.touchWords_eq (ws : List (Nat × Option Nat)) : ∀ d : Dev, ∃ m, ws.foldl (fun d p => d.touchWord p.1 p.2) d = { d with mem := m } := by
  induction ws with
  | nil => intro d; exact ⟨d.mem, rfl⟩
  | cons p ws ih =>
    intro d
    obtain ⟨m, hm⟩ := Dev.touchWord_eq d p.1 p.2
    obtain ⟨m', hm'⟩ := ih (d.touchWord p.1 p.2)
    exact ⟨m', by rw [List.foldl_cons, hm', hm]⟩

theorem Dev.touchAll_eq (d : Dev) : ∃ m, d.touchAll = { d with mem := m } := by
  unfold Dev.touchAll
  obtain ⟨m, hm⟩ := Dev.touchWords_eq ((d.hbmr.flatMap (fun p => wordsOf p.1 p.2) ++ d.hbmw.flatMap (fun p => wordsOf p.1 p.2.length)).zip
    ((d.hbmr.flatMap (fun p => wordsOf p.1 p.2) ++ d.hbmw.flatMap (fun p => wordsOf p.1 p.2.length)).drop 1 |>.map some |>.append [none])) d
  simp only [hm]
  split
  · exact ⟨_, rfl⟩
  · exact ⟨_, rfl⟩

/-- What a step leaves of a block: the same block, but for the memory controllers and what was kept for the step. -/
theorem State.put_dev (s : State) (d : Dev) : ∃ m, (s.put d).dev = { d with mem := m, hbmw := [], hbmr := [], hbmLost := [] } := by
  obtain ⟨m, hm⟩ := Dev.touchAll_eq d
  exact ⟨m, by simp [State.put, hm]⟩

@[simp] theorem State.put_pending (s : State) (d : Dev) : (s.put d).pending = s.pending := rfl
@[simp] theorem State.after_pending (s : State) (dt : Nat) (f : Dev → Dev) : (s.after dt f).pending = s.pending := rfl

/-- What a step leaves of the block that a calm meaning made. -/
theorem State.after_dev (s : State) (dt : Nat) (f : Dev → Dev) (h : (f (s.dev.elapse dt)).calm = true) :
    ∃ m, (s.after dt f).dev = { f (s.dev.elapse dt) with mem := m, hbmw := [], hbmr := [], hbmLost := [] } := by
  obtain ⟨m, hm⟩ := State.put_dev s (f (s.dev.elapse dt))
  exact ⟨m, by rw [State.after, Dev.settle_of_calm _ h, hm]⟩

/-- Every step's memory is in order. -/
theorem State.put_ok (s : State) (d : Dev) (h : s.memOk = true) : (s.put d).ok = true := by
  simp only [State.memOk, Bool.and_eq_true] at h
  have k := storeAll_ok d.hbmw (loseContents d.mapOrder d.hbmLost s.hbm) (loseContents_wf _ _ _ h.1) (loseContents_below _ _ _ _ h.2)
  simp [State.ok, State.memOk, State.swept, State.put, k]

end Sys2Proof.Machine
end

