-- ==== Sys2Proof/Laws/Exec.lean ====
section
/-! SUPPORT. What a command and a step can do at all: the block is replaced, the queue is not touched. -/

namespace Sys2Proof.Machine

/-- Every command ends in a next state, which holds the block that its meaning made, what that stores, and the queue as it was. -/
theorem exec_put (c : Instr) (s : State) : ∃ d, exec c s = .next (s.put d) := by
  cases c <;> exact ⟨_, rfl⟩

/-- A command leaves the queue alone. -/
theorem exec_pending {c : Instr} {s t : State} (h : exec c s = .next t) : t.pending = s.pending := by
  obtain ⟨d, hd⟩ := exec_put c s
  rw [hd] at h
  cases h
  rfl

/-- A step of a block with commands waiting runs the first of them. -/
theorem step_cons (s : State) (c : Instr) (rest : List Instr) (h : s.pending = c :: rest) : step s = exec c { s with pending := rest } := by
  simp [step, h]

/-- A step of a block with an empty queue lets one cycle pass. -/
theorem step_nil (s : State) (h : s.pending = []) : step s = .next s.idle := by
  simp [step, h]

/-- What a step can do: a cycle passes, or the block is replaced and one command leaves the queue. -/
theorem step_cases {s t : State} (h : step s = .next t) :
    (s.pending = [] ∧ t = s.idle) ∨
    ∃ c rest d, s.pending = c :: rest ∧ t = ({ s with pending := rest } : State).put d := by
  cases hp : s.pending with
  | nil =>
    rw [step_nil s hp] at h
    cases h
    exact .inl ⟨rfl, rfl⟩
  | cons c rest =>
    rw [step_cons s c rest hp] at h
    obtain ⟨d, hd⟩ := exec_put c { s with pending := rest }
    rw [hd] at h
    cases h
    exact .inr ⟨c, rest, d, rfl, rfl⟩

end Sys2Proof.Machine
end

