-- ==== Sys2Proof/Tests/Slice0.lean ====
section
/-! SUPPORT. Tests. `test_hyps_X` shows, for each clause of the statement X that has hypotheses, a state and operands that meet them all; then terms
that WellFormed refuses, values that the spec's text works out, and the queue. Each is one step or one evaluation on a small state. -/

set_option linter.unusedVariables false

open Sys2Proof Sys2Proof.Machine

namespace Sys2Proof.Tests

set_option Elab.async false

/-- A block in STANDBY: out of reset, every clock good, the Keel serving. -/
def up : Dev := { Dev.reset with
  rst := { ResetSt.reset with held := [], pinLow := false, clkGood := BitVec.allOnes 40, fwDone := true }
  mode := { ModeSt.reset with starting := false, ripcord := true } }

/-- A block that starts up: option loading done, firmware not run. -/
def boot : Dev := { up with
  rst := { up.rst with fwDone := false }, mode := { up.mode with starting := true }
  regs := [(a_CFG_OPT_STAT, fset 0 f_CFG_OPT_STAT_DONE 1)] }

/-- A block that inspects alone in mode 2. -/
def insp : Dev := { up with mode := { up.mode with cur := .inspectWide } }

/-- The machine around a block. -/
def st (d : Dev) : State := ⟨d, [], []⟩

/-- A block with a register set, and with it in force. -/
def wv (d : Dev) (a : Nat) (v : W64) : Dev := { d with regs := d.regs.put a v, force := d.force.put a v }

/-- The smallest stamp, and a ring item with it. -/
def stamp0 : Stamp := ⟨5, 1, 2, false, false⟩
/-- An item of the error log. -/
def item0 : Item := ⟨stamp0, 0, .ring (.whole 3 7 [])⟩

/-- The register that an access touches. -/
def part (a n : Nat) : Part := ((accessParts a n).getD []).headD ⟨0, .dev, r_DEV_ID, [], 0, 4, 0⟩

/-- A header without flags. -/
def hdr (m : Fin 16) : EnvHdr := ⟨m, 9, false, false, false, false, 0⟩

/-- A pending command. -/
def pends (c : Cmd) : PendCmd := ⟨0, hdr 0, c, noLine, 0⟩

/-- A block with this command pending. -/
def pending (d : Dev) (c : Cmd) : Dev := { d with keel := { d.keel with nextId := 1, pending := [pends c] } }

/-- A ring of eight descriptors in host memory. -/
def ring (typ : BitVec 4) (tail : BitVec 16) : RingCtx :=
  { RingCtx.off with typ := typ, en := true, log2Size := 3, log2Buf := 12, vector := 0xFFFF, tail := tail }

/-- A ring's record with one buffer posted. -/
def run0 : RingRun := { RingRun.empty with posted := [0] }

/-- A block whose PCIe link is up, with one ring. -/
def ringed (r : Nat) (c : RingCtx) (x : RingRun) : Dev :=
  { up with host := { up.host with rings := [(r, c)], runs := [(r, x)], busMaster := true, linkUp := true, ctl := { up.host.ctl with msixOn := true } } }


/-- A block whose encoder channel n has a type. -/
def enc (d : Dev) (n typ : Nat) : Dev := wv d (a_WPU_ENC_CFG n) (fset 0 f_WPU_ENC_CFG_TYPE typ)

/-- A block whose filter 7 runs with settings of its own: N 3, M 8, one tap. -/
def flt (x : FltSt) : Dev :=
  { wv (wv (wv up a_DSP_CLK_CFG (fset (staticReg a_DSP_CLK_CFG) f_DSP_CLK_CFG_EN0 1)) (a_DSP_FLT_CFG 7) (fset 0 f_DSP_FLT_CFG_PRESET 4))
      (a_DSP_FLT_CUSTOM 7) (fset (fset (fset 0 f_DSP_FLT_CUSTOM_N 3) f_DSP_FLT_CUSTOM_M 8) f_DSP_FLT_CUSTOM_L 1) with
    flt := List.replicate 7 (.start 0) ++ [x] }

/-- A block with one lane as given. -/
def lan (d : Dev) (l : Nat) (x : LaneSt) : Dev := { d with lanes := List.replicate l .reset ++ [x] }

/-- A lane at a step. -/
def atStep (n : Nat) : LaneSt := { LaneSt.reset with step := n }

/-- A block with one port as given. -/
def prt (d : Dev) (p : Nat) (x : PortSt) : Dev := { d with ports := List.replicate p .reset ++ [x] }

/-- A packet with its CRC. -/
def crcd (b : List Byte) : List Byte := b ++ leBytes 4 (crc32c b)

/-- A line of no course. -/
def line0 : LineDesc := ⟨8, 100, 0, 0, 7, 0, 0, false, false, false, false, true, .none_⟩

/-- A slot of that line with its first byte received. -/
def slot0 : Slot := ⟨line0, 0, 5, [], [(0, [1])], none, none, false, []⟩

/-- A mosaic line. -/
def mos0 : MosLine := ⟨stamp0, line0, 0, 0, none, none, 0, 0, []⟩

/-- Mode 4 with the second pass, on a grid two columns wide. -/
def deep0 : CourseCtx := { CourseCtx.none_ with
  mode := 4, cfg := [(a_MOS_GRID, fset 0 f_MOS_GRID_WIDTH_M1 1), (a_CLS_CFG, fset 0 f_CLS_CFG_PASS2_EN 1)] }

/-- A blob of one pixel. -/
def blob0 : BlobDesc :=
  ⟨stamp0, 0, deep0, false, 1, 0, 0, 1, 0, 0, 0, 0, 0, 0, 0, 0, 0, 4, 1, 0, 0, 1, 0, 0, 0, 0, 0, 0, 0, 1, 0, 0, 0⟩

/-- No stream. -/
def stream0 : StreamSt := ⟨0, [], none, true, [], 0, 0⟩

/-- A crop one line high. -/
def crop0 : Crop := ⟨1, stamp0, 1, 0, 0, 1, 7, 1, none, 0, 0, 0, stream0, none⟩

/-- Empty class tables ask for no action. -/
theorem noAction (d : Dev) (htab : d.tab = [] ∨ d.tab = [(tabAddr 0x20 0 0 10, 1)]) (c : CourseCtx) (k : Nat) (hk : k < 65536) :
    leAt (d.tab.readBytes tabDefault (tabAddr 0x21 0 (d.bankOf c) (32 * k)) 32) 1 1 = 0 := by
  have e1 : ∀ b o, tabAddr 0x21 0 b o = ((0x21 * 32) * 2 + b) * 2 ^ 24 + o := fun _ _ => rfl
  have e0 : tabAddr 0x20 0 0 10 = 0x20 * 32 * 2 * 2 ^ 24 + 10 := rfl
  have hb : d.bankOf c < 2 := by
    show fget (d.under c a_CLS_BANK_CTRL) f_CLS_BANK_CTRL_IN_FORCE < 2
    exact Nat.mod_lt _ (by decide)
  have hd : tabDefault (tabAddr 0x21 0 (d.bankOf c) (32 * k) + 1) = 0 := by
    have h : (tabAddr 0x21 0 (d.bankOf c) (32 * k) + 1) / 2 ^ 30 = 0x21 := by rw [e1]; omega
    simp only [tabDefault, h, tableFactory]
  have hr : d.tab.read tabDefault (tabAddr 0x21 0 (d.bankOf c) (32 * k) + 1) = 0 := by
    rcases htab with e | e
    · rw [e]; exact hd
    · rw [e]
      have h1 : tabAddr 0x20 0 0 10 ≠ tabAddr 0x21 0 (d.bankOf c) (32 * k) + 1 := by rw [e0, e1]; omega
      have h2 : ¬ tabAddr 0x21 0 (d.bankOf c) (32 * k) + 1 < tabAddr 0x20 0 0 10 := by rw [e0, e1]; omega
      simp only [Mem.read, if_neg h1, if_neg h2, hd]
  have : leAt (d.tab.readBytes tabDefault (tabAddr 0x21 0 (d.bankOf c) (32 * k)) 32) 1 1 =
      leNat [d.tab.read tabDefault (tabAddr 0x21 0 (d.bankOf c) (32 * k) + 1)] := rfl
  rw [this, hr]; rfl

/-- A course with registers of its own. -/
def under (r : RegStore) : CourseCtx := { CourseCtx.none_ with cfg := r }

/-- A line of that course. -/
def lineOf (c : CourseCtx) : LineDesc := { line0 with ctx := c }

/-- Port 15 with VC 0 for pixels, 1,024 of them. -/
def pix0 : CourseCtx := under [(a_TPT_CFG 15, fset 0 f_TPT_CFG_WIDTH 1024), (a_TPT_VC_ROUTE 15, 2)]

/-- Pipeline 16 serving, without statistics. -/
def pipe16 : CourseCtx := under [(a_PIPE_ROLE 16, 0), (a_PIPE_STAT_CFG 16, 0)]

/-- A block with its PTP port on, in a port state, its MAC address 1. -/
def ptp (state : Nat) : Dev :=
  wv (wv (wv up a_ETH_MAC_BASE 1) a_TIME_PTP_CFG (fset 0 f_TIME_PTP_CFG_EN 1)) a_TIME_PTP_STAT (fset 0 f_TIME_PTP_STAT_PORT_STATE state)

/-- A PTP message from clock 5. -/
def msg0 : PtpMsg := ⟨0, true, 0, false, 9, 5, 0, 3, 7, 0, 0, 0, false, 0, 0, 0, 0, 0, 5, 254, 7⟩

/-- The block follows clock 5. -/
def slave (state : Nat) : Dev := { ptp state with clk := { up.clk with ptpMaster := some (5, []) } }

/-- A view in slot 31. -/
def view0 : View := ⟨31, none, 0, 0, 15, 1, 1, 16, 1, 1, 1, 0, 0, 0, 0, 0, [], none⟩

/-- A frame with a payload. -/
def frame0 (b : List Byte) : UdpFrame := ⟨3, 1, 0, 1, 1, b⟩

/-- A block with one view. -/
def viewing : Dev := { up with views := [view0] }

/-- A Thatch job of one byte. -/
def job0 (compress : Bool) : ThaJob := ⟨compress, 17, 0, 0, false, 1024, 1, [9], [], 0, 4096⟩

/-- A block with budgets for client c. -/
def fed (d : Dev) (c : Nat) : Dev := wv d (a_BAL_ACTIVE c) (packBudget (64, 64, 64, 64))

/-- A block with engine 15 as given. -/
def working (x : EngSt) : Dev := { fed up 17 with tha := { up.tha with engines := List.replicate 15 .reset ++ [x] } }

/-- An engine with that job at level 0, its stream begun. -/
def coding : EngSt := { EngSt.reset with job := some { job0 true with input := [9, 8] }, enc := .start 0, got := 100, room := 4096 }

/-- An engine with a decompression that fails. -/
def decoding : EngSt := { EngSt.reset with job := some (job0 false), ends := true, room := 4096 }

/-- What such a block has done by now. -/
def worked (x : EngSt) : Dev := ((working x).elapse 0).engRun 15

/-- A block with pseudo-channel 31 of stack 1, and its bank 47, as given. -/
def pcOf (p : PcSt) (b : BankSt) (x : StackSt) : Dev :=
  { up with mem := { up.mem with stack := [.reset, { x with pcs := List.replicate 31 .reset ++ [p], banks := [(31 * 64 + 47, b)] }] } }

/-- An entry of a list of absent entries. -/
theorem lgetNones {α : Type} (n k : Nat) : lget (List.replicate n (none : Option α)) k none = none := by
  simp only [lget, List.getD_eq_getElem?_getD, List.getElem?_replicate]; split <;> rfl

/-- A block of a pair: EN in force, lane 32 ACTIVE, flags of RDG.STAT set. -/
def pr (flags : List Fld) : Dev :=
  wv (wv (lan up 32 (atStep 6)) a_RDG_CFG (fset 0 f_RDG_CFG_EN 1)) a_RDG_STAT (flags.foldl (fun v f => fset v f 1) 0)

/-- The first packet of its class with this body. -/
def rp (typ : Nat) (body : List Byte) : List Byte := packet typ 0 (leBytes 4 0) body

/-- The partner of a pair, its link up. -/
def partner0 : Dev := pr [f_RDG_STAT_ESTABLISHED, f_RDG_STAT_RIDGE_UP]

/-- The authority of a pair, its link up. -/
def auth0 : Dev := pr [f_RDG_STAT_ESTABLISHED, f_RDG_STAT_RIDGE_UP, f_RDG_STAT_AUTHORITY]

/-- A calibration run of TS_TAPS. -/
def run1 : CalRun := ⟨7, 1, 0, none, 0, [], none, none, false, false⟩

/-- A table transfer of a word at the end of bank 1 of the decision tree. -/
def xfer (part : Bool) (srcLen : W32) : TableXfer := ⟨0x20, 0, 1, false, false, part, 131068, 4, srcLen, 0⟩

/-- A block whose mailbox 14 has an envelope posted. -/
def posted14 : Dev := wv (ringed 14 (ring 2 1) run0) (a_MBX_CFG 14) (fset 0 f_MBX_CFG_EN 1)

/-- The descriptor of an envelope of 32 bytes. -/
def desc0 : List Byte := zeros 8 ++ [32, 0] ++ zeros 6

/-- The envelope of a NOP. -/
def nop0 : List Byte := [1, 0, 32, 0, 9, 0, 0, 0, 1, 0, 0, 0] ++ zeros 20

/-- A block with a command waiting. -/
def waits (m : Fin 16) (c : Cmd) : Dev := { up with keel := { up.keel with nextId := 1, waiting := [⟨0, hdr m, c, 0, none⟩] } }

/-! ### Terms that no command from outside spells -/

/-- Sixteen bytes of zeros. -/
def packet16 : List Byte := zeros 16

/-- Lists and images too long for an envelope, a fuse table of the wrong length. -/
theorem test_wf_envelopes :
    Instr.wf (.regRead (hdr 0) (List.replicate 504 ⟨0, 4⟩)) = false ∧ Instr.wf (.regRead (hdr 0) (List.replicate 503 ⟨0, 4⟩)) = true ∧
    Instr.wf (.regWrite (hdr 0) (List.replicate 252 ⟨0, 4, 0⟩)) = false ∧ Instr.wf (.camRegWrite (hdr 0) 0 0 (List.replicate 1007 0)) = false ∧
    Instr.wf (.fuseProgram (hdr 0) (List.replicate 15 0)) = false ∧ Instr.wf (.envelopeTake 0 (zeros 15) []) = false ∧
    Instr.wf (.envelopeTake 0 packet16 (zeros 4065)) = false ∧ Instr.wf (.nop (hdr 0)) = true := by decide +kernel

/-- Accesses outside their BAR, of no bytes or without their data, reads for writes. -/
theorem test_wf_accesses :
    Instr.wf (.registerWrite ⟨false, true, 0xFFFFFC, 8, zeros 8⟩) = false ∧ Instr.wf (.registerWrite ⟨false, true, 0xFFFFF8, 8, zeros 8⟩) = true ∧
    Instr.wf (.registerWrite ⟨false, true, 0, 8, zeros 7⟩) = false ∧ Instr.wf (.registerWrite ⟨false, false, 0, 8, []⟩) = false ∧
    Instr.wf (.rcRead ⟨false, true, 0, 8, zeros 8⟩) = false ∧ Instr.wf (.rcRead ⟨false, false, 0, 0, []⟩) = false ∧
    Instr.wf (.cmpPush 0 ⟨false, false, 0, 8, []⟩) = false ∧ Instr.wf (.ringContextWrite ⟨true, true, 0, 8, zeros 8⟩) = false ∧
    Instr.wf (.doorbell ⟨false, true, 0, 4, zeros 4⟩ []) = false ∧ Instr.wf (.doorbell ⟨true, true, 0x20000, 4, zeros 4⟩ []) = false ∧
    Instr.wf (.tblWindowAccess ⟨true, true, 0, 4, zeros 4⟩) = false ∧
    Instr.wf (.reservedLocationRead ⟨false, false, 0, 65, []⟩) = false := by decide +kernel

/-- Packets that are not whole blocks, blocks, descriptors, frames and samples of the wrong length. -/
theorem test_wf_bytes :
    Instr.wf (.lineSeg 0 0 (zeros 33)) = false ∧ Instr.wf (.lineSeg 0 0 (zeros 32)) = true ∧ Instr.wf (.cap 0 0 []) = false ∧
    Instr.wf (.hello 0 (zeros 8288)) = false ∧ Instr.wf (.echoRsp 0 0 (zeros 31) 0) = false ∧ Instr.wf (.dmaCopy 0 0 packet16 [] true) = false ∧
    Instr.wf (.subscribe 0 (frame0 (zeros 9001))) = false ∧ Instr.wf (.icmpEcho 0 0 (frame0 (zeros 9001))) = false ∧
    Instr.wf (.alignLock 0 ⟨0, [[0]]⟩) = false ∧ Instr.wf (.uncorrectableCodeword 0 ⟨0, List.replicate 543 0⟩) = false ∧
    Instr.wf (.ssiFrame 0 0 (List.replicate 67 true)) = false ∧ Instr.wf (.thermalSample 0 (List.replicate 39 0)) = false ∧
    Instr.wf (.ballastWindow 0 []) = false ∧ Instr.wf (.blockRelease 0 .evt (List.replicate 33 true)) = false := by decide +kernel

/-- Numbers that the hardware's fields do not hold. -/
theorem test_wf_numbers :
    Instr.wf (.hbmTrainingDone 0 0 ⟨0, true, 0, 0, 0⟩) = false ∧ Instr.wf (.hbmTrainingDone 0 0 ⟨0, true, 2, 1, 0⟩) = false ∧
    Instr.wf (.ptpSyncRx 0 { msg0 with correction := 2 ^ 63 }) = false ∧ Instr.wf (.ptpSyncRx 0 { msg0 with correction := -(2 ^ 63) }) = true ∧
    Instr.wf (.thatchJobStart 0 0 { job0 true with dst := 48 * 2 ^ 30 }) = false ∧ Instr.wf (.thatchResume 0 0 (48 * 2 ^ 30 + 1)) = false ∧
    Instr.wf (.thatchSave 0 0 0 (48 * 2 ^ 30)) = false ∧ Instr.wf (.thatchRestore 0 0 (48 * 2 ^ 30)) = false ∧
    Instr.wf (.thatchJobStart 0 0 { job0 true with client := 6 }) = false ∧ Instr.wf (.thatchJobStart 0 0 (job0 true)) = true ∧
    Instr.wf (.calCaptureDone 0 (List.replicate 65537 0)) = false := by decide +kernel

/-! ### Values that the spec works out -/

/-- The check value of the CRC-32C (R134). -/
theorem test_crc_check_value : crc32c [0x31, 0x32, 0x33, 0x34, 0x35, 0x36, 0x37, 0x38, 0x39] = 0xE3069283 := by decide +kernel

/-- The first lines of the worked example of the pixel pipeline (R156 to R162): stages 2 and 4. -/
theorem test_pixel_example : rhe ((29600 - 640) * 18842) 14 = 33305 ∧ rdiv 68719476736 4026532 = 17067 ∧ rhe (33305 * 17067) 14 = 34693 := by
  decide +kernel

/-- The address of the example under R392. -/
theorem test_hbm_address_example : mapAddr 0 0x0000000300041A40 = (0, 13, 0x000C0010) := by decide +kernel

/-- The servo example under R363. -/
theorem test_servo_example :
    let d := ({ wv up a_TIME_CTRL (fset (fset (fset 0 f_TIME_CTRL_SERVO_EN 1) f_TIME_CTRL_KP_SHIFT 1) f_TIME_CTRL_KI_SHIFT 4) with
      clk := { up.clk with lastRef := some 0 } } : Dev).servo 1250 125000000
    d.clk.iAcc = -175921860 ∧ (d.rd a_TIME_RATE).toInt = -1583296744 := by decide +kernel

/-- The stream of the worked example of Thatch. -/
def stream46 : List Byte :=
  [0x54, 0x48, 0x01, 0x10, 0x01, 0, 0, 0, 8, 0, 0, 0, 0, 0, 0, 0, 0x15, 0, 0, 0, 4, 9, 5, 6, 3, 0, 8, 0, 0, 0, 2, 0, 0, 0] ++
  leBytes 4 (crc32c [0x41, 0x42, 0x41, 0x42, 0x41, 0x42, 0x41, 0x42]) ++ [8, 0, 0, 0, 0, 0, 0, 0]

/-- It decodes to its eight bytes. -/
theorem test_thatch_example : thatchDecode 64 8 stream46 = ⟨0, 46, [0x41, 0x42, 0x41, 0x42, 0x41, 0x42, 0x41, 0x42]⟩ := by decide +kernel

/-- A node of a tree. -/
def node (kind thr code lt ge : Nat) : List Byte := leBytes 8 thr ++ [BitVec.ofNat 8 kind, BitVec.ofNat 8 code] ++ leBytes 2 lt ++ leBytes 2 ge ++ [0, 0]

/-- The tree of the worked example of classification. -/
def tree7 : List Byte :=
  node 0 16 0 1 2 ++ node 0 1 19 3 4 ++ node 1 0 20 0 0 ++ node 1 0 8 0 0 ++ node 0 800 12 5 6 ++ node 1 0 10 0 0 ++ node 1 0 9 0 0

/-- The dark spot of that example takes class 9. -/
theorem test_classify_example :
    (({ up with tab := up.tab.writeBytes tabDefault (tabAddr 0x20 0 0 0) tree7 } : Dev).firstPass
      { blob0 with area := 7, dark := true, cmax := 960, ctx := .none_ }) = (9, false) := by decide +kernel

/-! ### The queue -/

/-- The command at the front runs and leaves the queue; the next one stays. -/
theorem test_step_takes_front :
    (match step { st up with pending := [.nop (hdr 0), .safeReq 1] } with
     | .next s => s.pending = [.safeReq 1] && s.dev.keel.nextId = 1
     | _ => false) = true := by decide +kernel

/-- No word spells a command. -/
theorem test_no_word : decodeTableWord 32 0 = none ∧ (st up).withFetchWord 32 0 = st up := by
  constructor <;> rfl

/-! ### Lanes and the endpoint -/

/-- Vendor and device, revision and class of the function, and BAR0's type (R297, R298). -/
theorem test_config_identity : up.configDword 0 = 0x16241F3A ∧ up.configDword 2 = 0x118000B0 ∧ up.configDword 4 % 16 = 4 := by decide

/-- The first byte of a data block goes out least significant bit first behind its header; behind zeros the scrambler passes 39 bits unchanged (R131). -/
theorem test_block_bits : ((blockBits [] true (0x05 :: zeros 31)).1.take 9) = [true, true, false, true, false, false, false, false, false] := by decide +kernel

/-- The Gray mapping of PAM4 (R131). -/
theorem test_pam4 : [pam4 false false, pam4 false true, pam4 true true, pam4 true false] = [0, 1, 2, 3] := by decide

/-- A short code of RS(544,514)'s generator: a parity found is corrected to none, and one wrong symbol to one (R131). -/
theorem test_rs_one_error :
    let w := rsEncode [5, 9]
    rsCorrect w = some 0 ∧ rsCorrect (w.set 1 77) = some 1 := by decide +kernel

/-! ### The hypotheses of the statements -/

/-- The hypotheses of StepRunsFront are met together, clause by clause. -/
theorem test_hyps_StepRunsFront :
    (∃ (s : State) (c : Instr) (rest : List Instr), s.pending = c :: rest) :=
  ⟨{ State.reset with pending := [.smbReadId, .smbReadTj] }, .smbReadId, [.smbReadTj], by decide +kernel⟩

/-- The hypotheses of IdleStep are met together, clause by clause. -/
theorem test_hyps_IdleStep :
    (∃ s : State, s.pending = []) :=
  ⟨State.reset, by decide +kernel⟩

/-- The hypotheses of StepKeepsOk are met together, clause by clause. -/
theorem test_hyps_StepKeepsOk :
    (∃ s t : State, s.ok = true ∧ step s = .next t) :=
  ⟨State.reset, _, by decide +kernel, rfl⟩

/-- The hypotheses of NextStateOfBlock are met together, clause by clause. -/
theorem test_hyps_NextStateOfBlock :
    (∃ (s : State) (d : Dev), d.calm = true) ∧
    (∃ (s : State) (d : Dev), d.calm = true ∧ d.hbmw = [] ∧ d.hbmr = [] ∧ d.hbmLost = []) :=
  ⟨⟨State.reset, Dev.reset, by decide +kernel⟩,
   ⟨State.reset, up, by decide +kernel⟩⟩

/-- The hypotheses of StackBytes are met together, clause by clause. -/
theorem test_hyps_StackBytes :
    (∃ (m : Mem) (a : Nat) (b : Byte), m.wf hbmDefault = true) ∧
    (∃ (m : Mem) (a : Nat) (b : Byte), ∃ c, m.wf hbmDefault = true ∧ c ≠ a) ∧
    (∃ (s : State) (d : Dev) (c : Nat), s.memOk = true ∧ d.hbmLost = [] ∧ (∀ w ∈ d.hbmw, c < w.1 ∨ w.1 + w.2.length ≤ c)) :=
  ⟨⟨[(0, 1), (7, 255)], 7, 0, by decide +kernel⟩,
   ⟨[(0, 1), (7, 255)], 7, 0, 0, by decide +kernel⟩,
   ⟨State.reset, up.hbmPut 64 [1, 2], 66, by decide +kernel⟩⟩

/-- The hypotheses of FieldsAndRegisters are met together, clause by clause. -/
theorem test_hyps_FieldsAndRegisters :
    (∃ (x : FieldRow) (old new : W64) (first : Bool), let r := (writeField x (BitVec.allOnes 64) false first old new).1; 0 < x.fld.w ∧
    x.fld.lo + x.fld.w ≤ 64) ∧
    (∃ (x : FieldRow) (old new : W64) (first : Bool), let r := (writeField x (BitVec.allOnes 64) false first old new).1; ∃ i, 0 < x.fld.w ∧
    x.fld.lo + x.fld.w ≤ 64 ∧ i < 64 ∧ (i < x.fld.lo ∨ x.fld.lo + x.fld.w ≤ i)) ∧
    (∃ (d : Dev) (a : Nat) (v : W64), ∃ b, b ≠ a) :=
  ⟨⟨⟨⟨60, 4⟩, .w1c, false, 0, .atOnce⟩, 7, 1, true, by decide +kernel⟩,
   ⟨⟨⟨60, 4⟩, .w1c, false, 0, .atOnce⟩, 7, 1, true, 59, by decide +kernel⟩,
   ⟨up, a_WPU_LINE_CNT, 9, a_WPU_SPEED, by decide +kernel⟩⟩

/-- The hypotheses of ShadowedWrites are met together, clause by clause. -/
theorem test_hyps_ShadowedWrites :
    (∃ (x : FieldRow) (old a b : W64) (first : Bool), x.eff ≠ .atOnce ∧ (x.acc = .rw ∨ x.acc = .lk) ∧ 0 < x.fld.w ∧ x.fld.lo + x.fld.w ≤ 64) :=
  ⟨⟨⟨60, 4⟩, .lk, false, 0, .course⟩, 7, -1, 1, true, by decide +kernel⟩

/-- The hypotheses of RoundHalfEven are met together, clause by clause. -/
theorem test_hyps_RoundHalfEven :
    (∃ (x : Int) (k : Nat), 2 * (rhe x k * 2 ^ k - x).natAbs = 2 ^ k ∧ 0 < k) :=
  ⟨3, 1, by decide +kernel⟩

/-- The hypotheses of StampOrder are met together, clause by clause. -/
theorem test_hyps_StampOrder :
    (∃ x y : Stamp, x.sameKey y = true) ∧
    (∃ x y : Stamp, x.sameKey y = false) :=
  ⟨⟨stamp0, { stamp0 with late := true }, by decide +kernel⟩,
   ⟨stamp0, { stamp0 with seq := 0xFFFF }, by decide +kernel⟩⟩

/-- The hypotheses of SeqPerOrigin are met together, clause by clause. -/
theorem test_hyps_SeqPerOrigin :
    (∃ (d : Dev) (o : Nat) (t : W64), o < d.seqs.length) ∧
    (∃ (d : Dev) (o : Nat) (t : W64), ∃ p, o < d.seqs.length ∧ p ≠ o) :=
  ⟨⟨up, 63, 0, by decide +kernel⟩,
   ⟨up, 63, 0, 0, by decide +kernel⟩⟩

/-- The hypotheses of ErrorsReported are met together, clause by clause. -/
theorem test_hyps_ErrorsReported :
    (∃ (d : Dev) (e : ErrEntry), d.err.queue.length ≤ 64) ∧
    (∃ (d : Dev) (e : ErrEntry), d.err.queue.length ≤ 64 ∧ d.err.queue.any (fun x => x.code = e.code) = true) ∧
    (∃ (d : Dev) (e : ErrEntry), d.err.queue.length ≤ 64 ∧ d.err.queue.any (fun x => x.code = e.code) = false ∧ d.err.queue.length < 64) ∧
    (∃ (d : Dev) (code origin info : Nat), d.plainErr code = true ∧ code ∉ [0x01, 0x02, 0x03, 0x43]) :=
  ⟨⟨up, ⟨stamp0, 0, 9, 1, false, false, false, 0, 0⟩, by decide +kernel⟩,
   ⟨{ up with err := { up.err with queue := [⟨stamp0, 0, 9, 1, false, false, false, 0, 0⟩] } },
    ⟨stamp0, 0, 9, 1, false, false, false, 0, 5⟩, by decide +kernel⟩,
   ⟨{ up with err := { up.err with queue := List.replicate 63 ⟨stamp0, 0, 8, 1, false, false, false, 0, 0⟩ } },
    ⟨stamp0, 0, 9, 1, false, false, false, 0, 5⟩, by decide +kernel⟩,
   ⟨up, 0x45, 44, 0, by decide +kernel⟩⟩

/-- The hypotheses of EnvelopeRoundTrip are met together, clause by clause. -/
theorem test_hyps_EnvelopeRoundTrip :
    (∃ (c : Cmd) (h : EnvHdr), (envBytes c h).length ≤ 4064 ∧ (∀ ls, c = .fuseProgram ls → ls.length = 16)) :=
  ⟨.fuseProgram (List.replicate 16 4), ⟨3, 7, true, false, true, false, 9⟩, by decide +kernel, by intro ls h; cases h; decide⟩

/-- The hypotheses of PowerAndClocks are met together, clause by clause. -/
theorem test_hyps_PowerAndClocks :
    (∃ (s : State) (dt : Nat), ∃ primary : Bool, s.dev.rst.pinLow = true ∧ s.dev.rst.por = false) :=
  ⟨State.reset, 0, true, by decide +kernel⟩

/-- The hypotheses of KeelLockstepResets are met together, clause by clause. -/
theorem test_hyps_KeelLockstepResets :
    (∃ (s : State) (dt : Nat), ∃ l : Nat, s.dev.levelOf .keelLockstep = l ∧ 2 ≤ l ∧ l < 4 ∧ s.dev.resetWaits = false) :=
  ⟨st up, 0, 2, by decide +kernel⟩

/-- The hypotheses of ResetsTake are met together, clause by clause. -/
theorem test_hyps_ResetsTake :
    (∃ (s : State) (dt : Nat), ∃ (src : ResetSrc) (l : Nat), s.dev.levelOf src = l ∧ 2 ≤ l ∧ l < 4 ∧ s.dev.resetWaits = false) ∧
    (∃ (s : State) (dt : Nat), ∃ (io : Bool) (l : Nat), s.dev.levelOf (if io then .ioSupply else .corePg) = l ∧ 2 ≤ l ∧ l < 4 ∧
    s.dev.resetWaits = false) ∧
    (∃ (s : State) (dt : Nat), ∃ l : Nat, s.dev.levelOf .smbus = l ∧ 2 ≤ l ∧ l < 4 ∧ s.dev.resetWaits = false) ∧
    (∃ (s : State) (dt : Nat), ∃ l : Nat, s.dev.levelOf .jtag = l ∧ 2 ≤ l ∧ l < 4 ∧ s.dev.resetWaits = false) ∧
    (∃ (s : State) (dt : Nat), ∃ src : ResetSrc, s.dev.resetWaits = true ∧ 2 ≤ s.dev.levelOf src ∧ s.dev.levelOf src < 4 ∧ s.dev.levelOf src
    ≤ s.dev.rst.level) ∧
    (∃ (s : State) (dt : Nat) (u : RUnit) (q : IdleReq), q ∈ s.dev.rst.idle ∧ q.unit = u ∧ q.deadline ≤ (s.dev.elapse dt).el) :=
  ⟨⟨st up, 0, .refclkLoss, 3, by decide +kernel⟩,
   ⟨st up, 0, true, 3, by decide +kernel⟩,
   ⟨st up, 0, 3, by decide +kernel⟩,
   ⟨st up, 0, 3, by decide +kernel⟩,
   ⟨State.reset, 0, .resetN, by decide +kernel⟩,
   ⟨st { up with rst := { up.rst with idle := [⟨.seg, 10⟩] } }, 10, .seg, ⟨.seg, 10⟩, by decide +kernel⟩⟩

/-- The hypotheses of ReleaseAndTimeout are met together, clause by clause. -/
theorem test_hyps_ReleaseAndTimeout :
    (∃ (s : State) (dt : Nat), ∃ (u v : RUnit) (senses : List Bool), (s.dev.elapse dt).releasable u = true) ∧
    (∃ (s : State) (dt : Nat), ∃ (i : Fin 40) (u : RUnit) (t : Nat), (u, some t) ∈ s.dev.rst.held ∧ u.islands.contains i.val = true ∧ t +
    10000000 ≤ (s.dev.elapse dt).el ∧ s.dev.clockGood i = false ∧ (s.dev.rdF a_RST_CLK_TIMEOUT f_RST_CLK_TIMEOUT_TIMEOUT).testBit i = false
    ∧ s.dev.plainErr 0x13 = true) :=
  ⟨⟨st { up with regs := boot.regs, rst := { up.rst with held := [(.seg, some 0)] } }, 0, .seg, .cls, [], by decide +kernel⟩,
   ⟨st { up with rst := { up.rst with held := [(.seg, some 0)], clkGood := 1 } }, 10000000, 34, .seg, 0, by decide +kernel⟩⟩

/-- The hypotheses of StartupEnds are met together, clause by clause. -/
theorem test_hyps_StartupEnds :
    (∃ (s : State) (dt : Nat), s.dev.mode.starting = true ∧ s.dev.rdB a_CFG_OPT_STAT f_CFG_OPT_STAT_DONE = true ∧ s.dev.rst.fwDone = true ∧
    s.dev.rst.hbmDone.all id = true) ∧
    (∃ (s : State) (dt : Nat), ∃ b : FwBoot,
    let first := fwCheck ((if b.bootB then b.imgB else b.imgA).take (512 + leAt (if b.bootB then b.imgB else b.imgA) 16 4));
    let second := fwCheck ((if b.bootB then b.imgA else b.imgB).take (512 + leAt (if b.bootB then b.imgA else b.imgB) 16 4));
    s.dev.mode.starting = true ∧ s.dev.rdB a_CFG_OPT_STAT f_CFG_OPT_STAT_DONE = true ∧ s.dev.rst.fwDone = false) :=
  ⟨⟨st { boot with rst := { boot.rst with fwDone := true, hbmDone := [true, true] } }, 0, by decide +kernel⟩,
   ⟨st boot, 0, ⟨false, [], []⟩, by decide +kernel⟩⟩

/-- The hypotheses of SafeHoldEntered are met together, clause by clause. -/
theorem test_hyps_SafeHoldEntered :
    (∃ (s : State) (dt : Nat), s.dev.mode.starting = false ∧ s.dev.mode.ripcord = true) ∧
    (∃ (s : State) (dt : Nat), ∃ data : W32, s.dev.mode.starting = false ∧ data.getLsbD 0 = true) ∧
    (∃ (s : State) (dt : Nat), s.dev.mode.starting = false) :=
  ⟨⟨st insp, 0, by decide +kernel⟩,
   ⟨st insp, 0, 1, by decide +kernel⟩,
   ⟨st up, 0, by decide +kernel⟩⟩

/-- The hypotheses of ModeEntered are met together, clause by clause. -/
theorem test_hyps_ModeEntered :
    (∃ (s : State) (dt : Nat) (p : ModePend), s.dev.mode.pend = some p ∧ p.line = none ∧ s.dev.mode.starting = false ∧ s.dev.mode.cur =
    .safeHold ∧ p.target = .standby ∧ s.dev.safeClear = true) ∧
    (∃ (s : State) (dt : Nat) (p : ModePend), s.dev.mode.pend = some p ∧ p.line = none ∧ s.dev.mode.starting = false ∧ s.dev.mode.cur =
    .standby) :=
  ⟨⟨st { up with mode := { up.mode with cur := .safeHold, pend := some ⟨.standby, none, none⟩ } }, 0, ⟨.standby, none, none⟩,
    by decide +kernel⟩,
   ⟨st { up with mode := { up.mode with pend := some ⟨.calibrate, none, none⟩ } }, 0, ⟨.calibrate, none, none⟩, by decide +kernel⟩⟩

/-- The hypotheses of WindowsAndJunctions are met together, clause by clause. -/
theorem test_hyps_WindowsAndJunctions :
    (∃ (s : State) (dt : Nat), ∃ w : List Demand, s.dev.isHeld .bal = false ∧ (s.dev.mode.starting = true ∨ s.dev.mode.cur.acquiring = true)
    ∧ w.length = 24 ∧ s.dev.bal.used = [] ∧ s.dev.bal.short = [] ∧ (∀ e < 16, (s.dev.engine e).job = none) ∧ s.dev.cls.crops = [] ∧
    s.dev.cls.exp = none ∧ s.dev.cls.rec_.unread = [] ∧ s.dev.views = [] ∧ (∀ c < 11, let x := lget w c ⟨0, 0, 0, 0, 0⟩; 2 * x.hbm0 ≤
    s.dev.rdF (a_BAL_ACTIVE c) f_BAL_PROFILE_HBM + 1 ∧ 2 * x.hbm1 ≤ s.dev.rdF (a_BAL_ACTIVE c) f_BAL_PROFILE_HBM ∧ x.tha ≤ s.dev.rdF
    (a_BAL_ACTIVE c) f_BAL_PROFILE_THA ∧ x.keel ≤ s.dev.rdF (a_BAL_ACTIVE c) f_BAL_PROFILE_KEEL ∧ x.dma ≤ s.dev.rdF (a_BAL_ACTIVE c)
    f_BAL_PROFILE_DMA) ∧ (∀ c, 11 ≤ c → lget w c ⟨0, 0, 0, 0, 0⟩ = ⟨0, 0, 0, 0, 0⟩)) ∧
    (∃ (s : State) (dt : Nat), ∃ i : Fin 40, (s.dev.rdF a_DEV_JCT_STALL f_DEV_JCT_STALL_STALLED).testBit i = false ∧ s.dev.plainErr 0x11 =
    true) ∧
    (∃ (s : State) (dt : Nat), ∃ i : Fin 40, (s.dev.rdF a_DEV_JCT_STALL f_DEV_JCT_STALL_STALLED).testBit i = true) :=
  ⟨⟨st { boot with regs := [] }, 0, List.replicate 24 ⟨0, 0, 0, 0, 0⟩,
    by refine ⟨?_, ?_, ?_, ?_, ?_, ?_, ?_, ?_, ?_, ?_, ?_, (by intro c _; show (List.replicate 24 (⟨0, 0, 0, 0, 0⟩ : Demand)).getD c ⟨0, 0, 0, 0, 0⟩ = _; rw [List.getD_eq_getElem?_getD, List.getElem?_replicate]; split <;> rfl)⟩ <;> decide +kernel⟩,
   ⟨st up, 0, 39, by decide +kernel⟩,
   ⟨st (wv up a_DEV_JCT_STALL (fset 0 f_DEV_JCT_STALL_STALLED (2 ^ 39))), 0, 39, by decide +kernel⟩⟩

/-- The hypotheses of TemperaturesAndSmbus are met together, clause by clause. -/
theorem test_hyps_TemperaturesAndSmbus :
    (∃ (s : State) (dt : Nat), ∃ t : BitVec 16, s.dev.isHeld .thm = false ∧ -5120 ≤ t.toInt ∧ (∀ k < 3, t.toInt < lget s.dev.thresholds k 0)
    ∧ s.dev.thm.read = false) ∧
    (∃ (s : State) (dt : Nat), s.dev.isHeld .thm = false) ∧
    (∃ s : State, s.dev.rst.por = false) :=
  ⟨⟨st up, 0, BitVec.ofInt 16 (-5120), by decide +kernel⟩,
   ⟨st up, 0, by decide +kernel⟩,
   ⟨st up, by decide +kernel⟩⟩

/-- The hypotheses of EventPins are met together, clause by clause. -/
theorem test_hyps_EventPins :
    (∃ (s : State) (dt : Nat) (n : Fin 32), ∃ (level : Bool) (k : Nat), s.dev.evt.evio.length = 32 ∧ s.dev.isHeld .evt = false ∧
    s.dev.evioOut n = false ∧ (s.dev.evioSt n).level ≠ level ∧ s.dev.inF (a_EVT_EVIO_CFG n) f_EVT_EVIO_CFG_FILT < k) ∧
    (∃ (s : State) (dt : Nat) (n : Fin 32), ∃ e : Nat, s.dev.evt.evio.length = 32 ∧ (s.dev.evioSt n).until_ = some e ∧ e ≤ (s.dev.elapse
    dt).el) :=
  ⟨⟨st up, 0, 31, true, 1000, by decide +kernel⟩,
   ⟨st { up with evt := { up.evt with evio := List.replicate 31 ⟨false, false, none⟩ ++ [⟨false, true, some 10⟩] } }, 10, 31, 10,
    by decide +kernel⟩⟩

/-- The hypotheses of ChannelFires are met together, clause by clause. -/
theorem test_hyps_ChannelFires :
    (∃ (s : State) (dt : Nat) (c : Fin 256) (e : DueEvt), s.dev.evt.due.find? (fun x => x.chan = c.val) = some e ∧ (s.dev.elapse dt).el <
    s.dev.evt.winAt + 100000 ∧ s.dev.rdF (a_EVT_CH_CTRL c) f_EVT_CH_CTRL_LIMIT = 0 ∧ (∀ i ∈ s.dev.conInputs, selects (s.dev.inForce
    (a_EVT_CON_SEL i)) c = false)) ∧
    (∃ (s : State) (dt : Nat) (c : Fin 256) (e : DueEvt), ∃ k : Fin 32, s.dev.evt.due.find? (fun x => x.chan = c.val) = some e ∧
    (s.dev.elapse dt).el < s.dev.evt.winAt + 100000 ∧ s.dev.rdF (a_EVT_CH_CTRL c) f_EVT_CH_CTRL_LIMIT = 0 ∧ s.dev.conInputs = [64 + k.val] ∧
    selects (s.dev.inForce (a_EVT_CON_SEL (64 + k.val))) c = true ∧ s.dev.evt.fired = [] ∧ (s.dev.rdF a_EVT_IRQ_PEND
    f_EVT_IRQ_PEND_PEND).testBit k = false) :=
  ⟨⟨st { wv up (a_EVT_CH_CTRL 255) 0 with evt := { up.evt with due := [⟨255, none, 0, 0, 0⟩] } }, 0, 255, ⟨255, none, 0, 0, 0⟩,
    by decide +kernel⟩,
   
    ⟨st { up with regs := [(a_EVT_CH_CTRL 255, 0)], force := [(a_EVT_CON_SEL 95, fset (fset 0 f_EVT_CON_SEL_ENA 1) f_EVT_CON_SEL_CHA 255)], evt := { up.evt with due := [⟨255, none, 0, 0, 0⟩] } },
    0, 255, ⟨255, none, 0, 0, 0⟩, 31, by decide +kernel⟩⟩

/-- The hypotheses of RouterControl are met together, clause by clause. -/
theorem test_hyps_RouterControl :
    (∃ s : State, ∃ (data : W32) (c : Nat), s.dev.takesWrites .evt = true ∧ fget (data.setWidth 64) f_EVT_SW_FIRE_CHANNEL = c ∧ s.dev.inB
    (a_EVT_CH_SRC c) f_EVT_CH_SRC_SW_OK = true ∧ s.dev.rdB (a_EVT_CH_SRC c) f_EVT_CH_SRC_OWNER = false ∧ s.dev.rdB (a_EVT_CH_CTRL c)
    f_EVT_CH_CTRL_EN = true) ∧
    (∃ s : State, ∃ (c : Fin 256) (data : W32), s.dev.takesWrites .evt = true ∧ c.val < 240 ∧ s.dev.rdB (a_EVT_CH_CTRL c)
    f_EVT_CH_CTRL_STORM = false) ∧
    (∃ (s : State) (dt : Nat), s.dev.evt.winAt + 100000 ≤ (s.dev.elapse dt).el ∧ s.dev.evt.rate = []) ∧
    (∃ (s : State) (dt : Nat), ∃ (c : Fin 256) (x : RateSt), s.dev.evt.winAt + 100000 ≤ (s.dev.elapse dt).el ∧ s.dev.evt.rate = [(c.val, x)]
    ∧ x.dropped = true ∧ s.dev.rdF (a_EVT_CH_CTRL c) f_EVT_CH_CTRL_LIMIT ≠ 0 ∧ max 1 (s.dev.rdF (a_EVT_CH_CTRL c) f_EVT_CH_CTRL_STORM_WIN) ≤
    x.run + 1 ∧ s.dev.plainErr 0x24 = true) :=
  ⟨⟨st (wv (wv up (a_EVT_CH_SRC 239) (fset 0 f_EVT_CH_SRC_SW_OK 1)) (a_EVT_CH_CTRL 239) (fset 0 f_EVT_CH_CTRL_EN 1)),
    (fset 0 f_EVT_SW_FIRE_CHANNEL 239).setWidth 32, 239, by decide +kernel⟩,
   ⟨st up, 239, 0xFFFFFFFF, by decide +kernel⟩,
   ⟨st up, 100000, by decide +kernel⟩,
   
    ⟨st { up with regs := [(a_EVT_CH_CTRL 255, fset (fset 0 f_EVT_CH_CTRL_LIMIT 1) f_EVT_CH_CTRL_STORM_WIN 10)], evt := { up.evt with rate := [(255, ⟨0, true, 9⟩)] } },
    100000, 255, ⟨0, true, 9⟩, by decide +kernel⟩⟩

/-- The hypotheses of MergePoints are met together, clause by clause. -/
theorem test_hyps_MergePoints :
    (∃ (s : State) (dt : Nat) (m : MergeId), ∃ (x : Item) (rest : List Item), s.dev.isHeld (mergeUnit m) = false ∧ (s.dev.mrg.get m).fly = x
    :: rest ∧ x.epoch = s.dev.clk.epoch ∧ (s.dev.mrg.get m).held.any (fun p => p.1.stamp.sameKey x.stamp) = false ∧ (s.dev.mrg.get
    m).gone.any (fun st => st.sameKey x.stamp) = false ∧ (∀ st, (s.dev.mrg.get m).last = some st → x.stamp.precedes st = false) ∧
    s.dev.clk.step = none ∧ releaseDue (holdSorted (x, (s.dev.elapse dt).el) (s.dev.mrg.get m).held) (s.dev.elapse dt).el = false) ∧
    (∃ (s : State) (dt : Nat) (m : MergeId), ∃ (x : Item) (r : RingItem) (rest : List Item), s.dev.isHeld (mergeUnit m) = false ∧
    (s.dev.mrg.get m).fly = x :: rest ∧ x.payload = .ring r ∧ x.epoch = s.dev.clk.epoch ∧ s.dev.clk.step.isSome = true ∧ (s.dev.mrg.get
    m).held = [] ∧ (s.dev.mrg.get m).gone.any (fun st => st.sameKey x.stamp) = false ∧ (∀ st, (s.dev.mrg.get m).last = some st →
    x.stamp.precedes st = false)) ∧
    (∃ (s : State) (dt : Nat) (m : MergeId), ∃ (x : Item) (r : RingItem) (rest : List Item) (st : Stamp), s.dev.isHeld (mergeUnit m) = false
    ∧ (s.dev.mrg.get m).fly = x :: rest ∧ x.payload = .ring r ∧ (s.dev.mrg.get m).last = some st ∧ x.stamp.precedes st = true ∧
    (s.dev.mrg.get m).held.any (fun p => p.1.stamp.sameKey x.stamp) = false ∧ (s.dev.mrg.get m).gone.any (fun st => st.sameKey x.stamp) =
    false) ∧
    (∃ (s : State) (dt : Nat) (m : MergeId), ∃ rs : List RingItem, (s.dev.mrg.get m).held.map (fun p => p.1.payload) = rs.map .ring) :=
  ⟨⟨st { up with mrg := up.mrg.set .evt { up.mrg.get .evt with fly := [item0] } }, 0, .evt, item0, [],
    by refine ⟨?_, ?_, ?_, ?_, ?_, ((by intro a b; exact nomatch (show none = some a from b))), ?_⟩ <;> decide +kernel⟩,
   ⟨st { up with mrg := up.mrg.set .record { up.mrg.get .record with fly := [item0] }, clk := { up.clk with step := some (7, 1) } }, 0,
    .record, item0, .whole 3 7 [], [],
    by refine ⟨?_, ?_, ?_, ?_, ?_, ?_, ?_, ((by intro a b; exact nomatch (show none = some a from b)))⟩ <;> decide +kernel⟩,
   ⟨st { up with mrg := up.mrg.set .record { up.mrg.get .record with fly := [item0], last := some { stamp0 with time := 6 } } }, 0,
    .record, item0, .whole 3 7 [], [], { stamp0 with time := 6 }, by decide +kernel⟩,
   ⟨st { up with mrg := up.mrg.set .evt { up.mrg.get .evt with held := [(item0, 0)] } }, 100000, .evt, [.whole 3 7 []], by decide +kernel⟩⟩

/-- The hypotheses of ConfigurationSweep are met together, clause by clause. -/
theorem test_hyps_ConfigurationSweep :
    (∃ (s : State) (dt : Nat), s.dev.reachable .cfg = true ∧ s.dev.coveredReachable = true ∧ s.dev.err.sweepAt + 1000000 ≤ (s.dev.elapse
    dt).el ∧ s.dev.plainErr 0x05 = true) ∧
    (∃ (s : State) (dt : Nat), ∃ t : Nat, s.dev.err.winOpen = some t ∧ s.dev.rdF a_CFG_CRC_CTRL f_CFG_CRC_CTRL_WIN_MAX_S ≠ 0 ∧
    s.dev.err.winLong = false ∧ t + s.dev.rdF a_CFG_CRC_CTRL f_CFG_CRC_CTRL_WIN_MAX_S * 1000000000 < (s.dev.elapse dt).el ∧ s.dev.plainErr
    0x2E = true) :=
  ⟨⟨st up, 1000000, by decide +kernel⟩,
   ⟨st { wv up a_CFG_CRC_CTRL (fset 0 f_CFG_CRC_CTRL_WIN_MAX_S 1) with err := { up.err with winOpen := some 0 } }, 1000000001, 0,
    by decide +kernel⟩⟩

/-- The hypotheses of SramPatrolAndRepair are met together, clause by clause. -/
theorem test_hyps_SramPatrolAndRepair :
    (∃ (s : State) (dt : Nat), ∃ (u : RUnit) (a : BitVec 36) (st : SramStore), s.dev.isHeld u = false) ∧
    (∃ (s : State) (dt : Nat), ∃ (u : RUnit) (a : BitVec 36) (st : SramStore), s.dev.isHeld u = false ∧ (u, a.toNat) ∉ s.dev.cal.ues ∧ st ≠
    .fwBankInForce ∧ st ≠ .other ∧ s.dev.plainErr 0x06 = true) ∧
    (∃ (s : State) (dt : Nat), ∃ (r : SramRepair) (p : RUnit × SramStore × W32), s.dev.cal.pendRep.find? (fun p => p.1 = r.unit && p.2.1 =
    r.store) = some p ∧ r.store ≠ .fwBankInForce ∧ s.dev.cal.repairs.length < (storeKind r.store).2) :=
  ⟨⟨st up, 0, .seg, 0xFFFFFFFFF, .fwBankInForce, by decide +kernel⟩,
   ⟨st up, 0, .seg, 0xFFFFFFFFF, .neighbourhood, by decide +kernel⟩,
   ⟨st { up with cal := { up.cal with repairs := [0, 0, 0, 0, 0], pendRep := [(.seg, .neighbourhood, 7)] } }, 0, ⟨.seg, .neighbourhood, 7⟩,
    (.seg, .neighbourhood, 7), by decide +kernel⟩⟩

/-- The hypotheses of ErrorAcknowledged are met together, clause by clause. -/
theorem test_hyps_ErrorAcknowledged :
    (∃ s : State, ∃ data : W64, s.dev.takesWrites .err = true ∧ s.dev.plainErr 0x0D = true ∧ fbit data f_ERR_STAT_ACK = true ∧ fbit data
    f_ERR_STAT_FATAL_PEND = false) ∧
    (∃ s : State, ∃ data : W64, s.dev.takesWrites .err = true ∧ s.dev.plainErr 0x0D = true ∧ fbit data f_ERR_STAT_ACK = false ∧ fbit data
    f_ERR_STAT_FATAL_PEND = true ∧ s.dev.rdB a_ERR_STAT f_ERR_STAT_FATAL_PEND = true) :=
  ⟨⟨st up, fset 0 f_ERR_STAT_ACK 1, by decide +kernel⟩,
   ⟨st (wv up a_ERR_STAT (fset 0 f_ERR_STAT_FATAL_PEND 1)), fset 0 f_ERR_STAT_FATAL_PEND 1, by decide +kernel⟩⟩

/-- The hypotheses of RegisterAccesses are met together, clause by clause. -/
theorem test_hyps_RegisterAccesses :
    (∃ (s : State) (a n : Nat) (data : List Byte), ∃ p : Part, sizeOk a n = true ∧ inTbl a = false ∧ inRng a = false ∧ inAon a = false ∧
    accessParts a n = some [p] ∧ p.unit ∈ [RUnit.bal, .cal, .mos, .tha, .eth, .pcx] ∧ s.dev.takesWrites p.unit = true ∧ s.dev.plainErr 0x0D
    = true) ∧
    (∃ (s : State) (a n : Nat) (data : List Byte), ∃ p : Part, sizeOk a n = true ∧ inTbl a = false ∧ inRng a = false ∧ inAon a = false ∧
    accessParts a n = some [p] ∧ p.unit ∈ [RUnit.bal, .cal, .tha, .eth, .pcx, .wpu, .dsp, .time, .mbx] ∧ s.dev.reachable p.unit = true ∧ p.n
    = p.reg.bytes ∧ (p.unit = .tha → ∀ e < 16, (s.dev.engine e).job = none)) ∧
    (∃ (s : State) (a n : Nat) (data : List Byte), ∃ (p : Part) (x : FieldRow) (r : Raised), sizeOk a n = true ∧ inTbl a = false ∧ inRng a =
    false ∧ inAon a = false ∧ accessParts a n = some [p] ∧ p.n = p.reg.bytes ∧ x ∈ p.reg.fields ∧ x.acc = .rc ∧ (x.fld = ⟨r.lsb, r.w⟩) ∧
    s.dev.cycle.raised.filter p.counts = [r] ∧ r.lsb + r.w ≤ 64) ∧
    (∃ (s : State) (a n : Nat) (data : List Byte), sizeOk a n = true ∧ inTbl a = false ∧ inRng a = false ∧ inAon a = false ∧ accessParts a n
    = none ∧ s.dev.plainErr 0x0E = true) :=
  ⟨⟨st up, a_BAL_PROFILE 5 23, 8, [1, 2, 3, 4, 5, 6, 7, 8], part (a_BAL_PROFILE 5 23) 8, by decide +kernel⟩,
   ⟨st up, a_MBX_MB_STAT 15, 8, [], part (a_MBX_MB_STAT 15) 8, by decide +kernel⟩,
   ⟨st { up with cycle := { up.cycle with raised := [⟨a_MBX_STAT, f_MBX_STAT_RESP_DROP.lo, f_MBX_STAT_RESP_DROP.w, 3, 2⟩] } }, a_MBX_STAT,
    8, [], part a_MBX_STAT 8,
    ((part a_MBX_STAT 8).reg.fields.find? (fun x => x.fld = f_MBX_STAT_RESP_DROP)).getD ⟨⟨0, 0⟩, .rw, false, 0, .atOnce⟩,
    ⟨a_MBX_STAT, f_MBX_STAT_RESP_DROP.lo, f_MBX_STAT_RESP_DROP.w, 3, 2⟩, by decide +kernel⟩,
   ⟨st up, 0x7FFFF8, 8, [], by decide +kernel⟩⟩

/-- The hypotheses of ResetAndLockWrites are met together, clause by clause. -/
theorem test_hyps_ResetAndLockWrites :
    (∃ s : State, ∃ u : RUnit, s.dev.established = false ∧ u ∈
    [RUnit.dev, .cfg, .err, .mbx, .evt, .wpu, .dsp, .time, .bal, .cal, .thm, .mos, .seg, .cls, .rdg, .pcx, .eth, .tha] ∧ s.dev.reachable u =
    true) ∧
    (∃ s : State, ∃ u : RUnit, s.dev.established = false ∧ u ∈
    [RUnit.cfg, .evt, .wpu, .dsp, .time, .bal, .cal, .thm, .mos, .seg, .cls, .eth] ∧ s.dev.levelOf (.swBlock u false) = 0 ∧ s.dev.rst.level
    = 0 ∧ s.dev.junctionItems u = 0 ∧ s.dev.isHeld u = false) ∧
    (∃ s : State, ∃ l : Nat, s.dev.established = false ∧ s.dev.levelOf .swDevice = l ∧ 2 ≤ l ∧ l < 4 ∧ s.dev.resetWaits = false) ∧
    (∃ s : State, ∃ data : W32, s.dev.established = false ∧ fget (data.setWidth 64) f_RST_DEV_RST_KEY ≠ 0x5253 ∧ s.dev.plainErr 0x0D = true) ∧
    (∃ s : State, ∃ (i : Fin 40) (data : W64), s.dev.established = false ∧ data = BitVec.ofNat 64 (2 ^ i.val)) :=
  ⟨⟨st up, .tha, by decide +kernel⟩,
   ⟨st { up with rst := { up.rst with level := 0 } }, .seg, by decide +kernel⟩,
   ⟨st up, 3, by decide +kernel⟩,
   ⟨st up, 0x5254, by decide +kernel⟩,
   ⟨st up, 39, 0x8000000000, by decide +kernel⟩⟩

/-- The hypotheses of TableWindow are met together, clause by clause. -/
theorem test_hyps_TableWindow :
    (∃ (s : State) (a : Nat) (data : List Byte) (t i b page : Nat), inTbl a = true ∧ s.dev.tblSel = (t, i, b, page) ∧ s.dev.reachable
    (tabUnit t i) = true ∧ tblSizeOk a data.length = true ∧ page + (a - tblBase) + data.length ≤ s.dev.tabSize t i b ∧ s.dev.tabLocked t i b
    = false ∧ s.dev.tabTwins t i = [i]) ∧
    (∃ (s : State) (a : Nat) (data : List Byte) (t i b page : Nat), inTbl a = true ∧ s.dev.tblSel = (t, i, b, page) ∧ s.dev.reachable
    (tabUnit t i) = true ∧ tblSizeOk a data.length = true ∧ page + (a - tblBase) + data.length ≤ s.dev.tabSize t i b ∧ s.dev.tabLocked t i b
    = true ∧ s.dev.plainErr 0x0D = true) ∧
    (∃ (s : State) (a : Nat) (data : List Byte) (t i b page : Nat), ∃ n : Nat, inTbl a = true ∧ s.dev.tblSel = (t, i, b, page) ∧
    s.dev.reachable (tabUnit t i) = true ∧ sizeOk a n = true ∧ t ≠ 0x10 ∧ page + (a - tblBase) + n ≤ s.dev.tabSize t i b) :=
  ⟨⟨st (wv up a_PCX_TBL_SEL (fset (fset 0 f_PCX_TBL_SEL_TABLE 0x20) f_PCX_TBL_SEL_BANK 1)), 0xC1FFC0, List.replicate 64 7, 0x20, 0, 1, 0,
    by decide +kernel⟩,
   ⟨st (wv (wv up a_PCX_TBL_SEL (fset (fset 0 f_PCX_TBL_SEL_TABLE 0x20) f_PCX_TBL_SEL_BANK 1)) (lockAddr .cls) 1), 0xC1FFC0,
    List.replicate 64 7, 0x20, 0, 1, 0, by decide +kernel⟩,
   ⟨st (wv up a_PCX_TBL_SEL (fset (fset 0 f_PCX_TBL_SEL_TABLE 0x20) f_PCX_TBL_SEL_BANK 1)), 0xC1FFF8, [], 0x20, 0, 1, 0, 8,
    by decide +kernel⟩⟩

/-- The hypotheses of TableTransfers are met together, clause by clause. -/
theorem test_hyps_TableTransfers :
    (∃ (s : State) (dt : Nat) (p : PendCmd) (t : TableXfer), ∃ src : List Byte, s.dev.pendingCmd
    (fun c => match c with | .tableLoad _ => true | _ => false) = some p ∧ p.cmd = .tableLoad t ∧ t.loc = false ∧ t.thatch = false ∧ t.part
    = true ∧ t.srcLen = t.len ∧ t.len ≠ 0 ∧ s.dev.outboundOk = true ∧ s.dev.tabRefusal t true = 0 ∧ s.dev.tabTwins t.table.toNat
    t.inst.toNat = [t.inst.toNat]) ∧
    (∃ (s : State) (dt : Nat) (p : PendCmd) (t : TableXfer), s.dev.pendingCmd (fun c => match c with | .tableRead _ => true | _ => false) =
    some p ∧ p.cmd = .tableRead t ∧ t.loc = false ∧ s.dev.outboundOk = true) ∧
    (∃ (s : State) (dt : Nat) (p : PendCmd) (t : TableXfer), s.dev.pendingCmd (fun c => match c with | .tableRead _ => true | _ => false) =
    some p ∧ p.cmd = .tableRead t ∧ t.loc = true ∧ t.addr.toNat + (s.dev.tabBytes t.table.toNat t.inst.toNat t.bank.toNat t.offset.toNat
    t.len.toNat).length ≤ hbmBytes ∧ s.dev.repLocked t.addr.toNat (s.dev.tabBytes t.table.toNat t.inst.toNat t.bank.toNat t.offset.toNat
    t.len.toNat).length = false) ∧
    (∃ (s : State) (dt : Nat) (p : PendCmd) (t : TableXfer), s.dev.pendingCmd (fun c => match c with | .tableRead _ => true | _ => false) =
    some p ∧ p.cmd = .tableRead t ∧ t.loc = true ∧ t.addr.toNat + (s.dev.tabBytes t.table.toNat t.inst.toNat t.bank.toNat t.offset.toNat
    t.len.toNat).length ≤ hbmBytes ∧ s.dev.repLocked t.addr.toNat (s.dev.tabBytes t.table.toNat t.inst.toNat t.bank.toNat t.offset.toNat
    t.len.toNat).length = true ∧ s.dev.plainErr 0x0D = true) :=
  ⟨
    ⟨st { pending up (.tableLoad ⟨0x20, 0, 1, false, false, true, 131068, 4, 4, 0⟩) with host := { up.host with busMaster := true, linkUp := true } },
    0, pends (.tableLoad ⟨0x20, 0, 1, false, false, true, 131068, 4, 4, 0⟩), ⟨0x20, 0, 1, false, false, true, 131068, 4, 4, 0⟩,
    [1, 2, 3, 4], by decide +kernel⟩,
   
    ⟨st { pending up (.tableRead ⟨0x20, 0, 1, false, false, false, 131068, 4, 0, 0⟩) with host := { up.host with busMaster := true, linkUp := true } },
    0, pends (.tableRead ⟨0x20, 0, 1, false, false, false, 131068, 4, 0, 0⟩), ⟨0x20, 0, 1, false, false, false, 131068, 4, 0, 0⟩,
    by decide +kernel⟩,
   ⟨st (pending up (.tableRead ⟨0x20, 0, 1, true, false, false, 131068, 4, 0, 0xBFFFFFFFC⟩)), 0,
    pends (.tableRead ⟨0x20, 0, 1, true, false, false, 131068, 4, 0, 0xBFFFFFFFC⟩),
    ⟨0x20, 0, 1, true, false, false, 131068, 4, 0, 0xBFFFFFFFC⟩, by decide +kernel⟩,
   
    ⟨st (pending { insp with wpu := { up.wpu with ctx := under [(a_SEG_REP_CFG, fset 0 f_SEG_REP_CFG_R_LINES 1)] } } (.tableRead ⟨0x20, 0, 1, true, false, false, 131068, 4, 0, 0⟩)),
    0, pends (.tableRead ⟨0x20, 0, 1, true, false, false, 131068, 4, 0, 0⟩), ⟨0x20, 0, 1, true, false, false, 131068, 4, 0, 0⟩,
    by decide +kernel⟩⟩

/-- The hypotheses of RingsEnabled are met together, clause by clause. -/
theorem test_hyps_RingsEnabled :
    (∃ (s : State) (r : Fin 4096), ∃ bs : List Byte, s.dev.reachable .rng = true ∧ bs.length = 8 ∧ (bs.headD 0).getLsbD 7 = true ∧
    (s.dev.ring r).en = false ∧ s.dev.ringErr r ((s.dev.ring r).take ((s.dev.ring r).bytes.take 8 ++ bs ++ (s.dev.ring r).bytes.drop 16)) =
    0) ∧
    (∃ (s : State) (r : Fin 4096), s.dev.reachable .rng = true ∧ r.val ≠ 15 ∧ (s.dev.ring r).en = true ∧ (s.dev.ringRun r).frags = 0 ∧
    s.dev.plainErr 0x0D = true) ∧
    (∃ (s : State) (r : Fin 4096), ∃ (data : W32) (descs : List W64), s.dev.reachable .rng = true ∧ (s.dev.ring r).en = true ∧
    (s.dev.ringRun r).unrep = 0 ∧ ((data.setWidth 16 : BitVec 16) - (s.dev.ring r).head).toNat ≤ (s.dev.ring r).size) ∧
    (∃ (s : State) (r : Fin 4096), ∃ (data : W32) (descs : List W64), s.dev.reachable .rng = true ∧ (s.dev.ring r).en = true ∧ (s.dev.ring
    r).size < ((data.setWidth 16 : BitVec 16) - (s.dev.ring r).head).toNat ∧ s.dev.plainErr 0x21 = true) :=
  ⟨⟨st up, 4095, [0x81, 3, 12, 0, 0xFF, 0xFF, 0, 0], by decide +kernel⟩,
   ⟨st (ringed 4095 (ring 1 0) run0), 4095, by decide +kernel⟩,
   ⟨st (ringed 4095 (ring 1 0) run0), 4095, 8, [0], by decide +kernel⟩,
   ⟨st (ringed 4095 (ring 1 0) run0), 4095, 9, [0], by decide +kernel⟩⟩

/-- The hypotheses of RingsDeliver are met together, clause by clause. -/
theorem test_hyps_RingsDeliver :
    (∃ (s : State) (dt : Nat) (r : Fin 4096), ∃ (i : Nat) (x : RingItem), (s.dev.ring r).en = true ∧ (s.dev.ring r).typ = 1 ∧ (s.dev.ring
    r).loc = false ∧ s.dev.outboundOk = true ∧ (s.dev.ring r).posted ≠ 0 ∧ (s.dev.ring r).flushLast = false ∧ (s.dev.ringRun r).stage = [] ∧
    (s.dev.ringRun r).frags = 0 ∧ (s.dev.ringRun r).buf = [] ∧ s.dev.mem.bad = [] ∧ ((s.dev.ringRun r).posted.headD 0).toNat % 64 = 0 ∧
    nextItem r s.dev.host.queue = some i ∧ s.dev.host.queue[i]? = some x ∧ x.isObject = false ∧ 32 + (padMul x.body 8).length ≤ 2 ^
    (s.dev.ring r).log2Buf.toNat ∧ (s.dev.elapse dt).exhausted (contentClient x.content) .dma = false) ∧
    (∃ (s : State) (dt : Nat) (r : Fin 4096), (s.dev.ring r).en = true ∧ (s.dev.ring r).typ = 1 ∧ (s.dev.ring r).loc = false ∧
    s.dev.outboundOk = true ∧ (s.dev.ringRun r).frags ≠ 0 ∧ (s.dev.ringRun r).buf ≠ [] ∧ (s.dev.ringRun r).bufAt + max 1 (s.dev.ring
    r).flushUs.toNat * 1000 ≤ (s.dev.elapse dt).el) ∧
    (∃ (s : State) (dt : Nat) (r : Fin 4096), ∃ v : Fin 2048, (s.dev.ring r).en = true ∧ (s.dev.ring r).typ = 1 ∧ (s.dev.ring r).loc = false
    ∧ s.dev.outboundOk = true ∧ (s.dev.ring r).vector = BitVec.ofNat 16 v.val ∧ (s.dev.ring r).armed = true ∧ (s.dev.ring r).coalUs ≠ 0 ∧
    (s.dev.ringRun r).unrep ≠ 0 ∧ (s.dev.ringRun r).unrepAt + (s.dev.ring r).coalUs.toNat * 1000 ≤ (s.dev.elapse dt).el ∧ s.dev.msixOpen
    v.val = true) :=
  ⟨⟨st { ringed 4095 (ring 1 1) run0 with host := { (ringed 4095 (ring 1 1) run0).host with queue := [.whole 4095 8 (zeros 4064)] } }, 0,
    4095, 0, .whole 4095 8 (zeros 4064), by decide +kernel⟩,
   ⟨st (ringed 4095 (ring 1 1) { run0 with frags := 1, buf := [0] }), 1000, 4095, by decide +kernel⟩,
   
    ⟨st { ringed 4095 { ring 1 1 with armed := true, vector := 2047, coalUs := 1 } { run0 with unrep := 1 } with host := { (ringed 4095 { ring 1 1 with armed := true, vector := 2047, coalUs := 1 } { run0 with unrep := 1 }).host with unmasked := [2047] } },
    1000, 4095, 2047, by decide +kernel⟩⟩

/-- The hypotheses of CopiesAndMessages are met together, clause by clause. -/
theorem test_hyps_CopiesAndMessages :
    (∃ (s : State) (dt : Nat), ∃ (r : Fin 4096) (desc data : List Byte) (host hbm n : Nat), (s.dev.ring r).en = true ∧ (s.dev.ring r).typ =
    3 ∧ (s.dev.ring r).posted ≠ 0 ∧ (s.dev.ring r).loc = false ∧ s.dev.outboundOk = true ∧ leAt desc 0 8 = host ∧ leAt desc 8 8 = hbm ∧ leAt
    desc 16 4 = n ∧ host % 64 = 0 ∧ hbm % 64 = 0 ∧ n % 64 = 0 ∧ 64 ≤ n ∧ n ≤ 16777216 ∧ s.dev.outside hbm n = false ∧ (∀ k ∈
    [BalRes.dma, .hbm 0, .hbm 1], (s.dev.elapse dt).exhausted 20 k = false) ∧ (leAt desc 20 1).testBit 0 = false ∧ s.dev.copyLocked hbm n =
    false) ∧
    (∃ (s : State) (dt : Nat), ∃ (r : Fin 4096) (desc data : List Byte) (host hbm n : Nat), (s.dev.ring r).en = true ∧ (s.dev.ring r).typ =
    3 ∧ (s.dev.ring r).posted ≠ 0 ∧ (s.dev.ring r).loc = false ∧ s.dev.outboundOk = true ∧ leAt desc 0 8 = host ∧ leAt desc 8 8 = hbm ∧ leAt
    desc 16 4 = n ∧ host % 64 = 0 ∧ hbm % 64 = 0 ∧ n % 64 = 0 ∧ 64 ≤ n ∧ n ≤ 16777216 ∧ s.dev.outside hbm n = false ∧ (∀ k ∈
    [BalRes.dma, .hbm 0, .hbm 1], (s.dev.elapse dt).exhausted 20 k = false) ∧ (leAt desc 20 1).testBit 0 = true ∧ s.dev.mem.bad = []) ∧
    (∃ (s : State) (dt : Nat), ∃ ctl : PcieCtl, s.dev.host.d0 = true ∧ s.dev.host.linkUp = true ∧ ctl.msixOn = true ∧ ctl.masked = false) ∧
    (∃ (s : State) (dt : Nat), ∃ v : Fin 2048, s.dev.outboundOk = true ∧ s.dev.host.ctl.msixOn = true ∧ s.dev.host.ctl.masked = false ∧
    v.val ∈ s.dev.host.msixPend) :=
  ⟨⟨st (fed (ringed 4095 (ring 3 1) run0) 20), 0, 4095, leBytes 8 64 ++ leBytes 8 0xBFFFFFFC0 ++ leBytes 4 64 ++ [0], zeros 64, 64,
    0xBFFFFFFC0, 64, by decide +kernel⟩,
   ⟨st (fed (ringed 4095 (ring 3 1) run0) 20), 0, 4095, leBytes 8 64 ++ leBytes 8 0xBFFFFFFC0 ++ leBytes 4 64 ++ [1], zeros 64, 64,
    0xBFFFFFFC0, 64, by decide +kernel⟩,
   ⟨st (ringed 4095 (ring 3 1) run0), 0, { up.host.ctl with msixOn := true }, by decide +kernel⟩,
   ⟨st { ringed 4095 (ring 3 1) run0 with host := { (ringed 4095 (ring 3 1) run0).host with msixPend := [2047] } }, 0, 2047,
    by decide +kernel⟩⟩

/-- The hypotheses of MotionStrobes are met together, clause by clause. -/
theorem test_hyps_MotionStrobes :
    (∃ s : State, ∃ data : W32, s.dev.takesWrites .wpu = true ∧ s.dev.takesWrites .dsp = true ∧ s.dev.plainErr 0x0D = true ∧ fbit
    (data.setWidth 64) f_WPU_COMMIT_GO = true ∧ s.dev.wpuErr = 0) ∧
    (∃ s : State, ∃ data : W32, s.dev.takesWrites .wpu = true ∧ s.dev.takesWrites .dsp = true ∧ s.dev.plainErr 0x0D = true ∧ fbit
    (data.setWidth 64) f_WPU_COMMIT_GO = true ∧ s.dev.wpuErr ≠ 0) ∧
    (∃ s : State, ∃ data : W32, s.dev.takesWrites .wpu = true ∧ s.dev.takesWrites .dsp = true ∧ s.dev.plainErr 0x0D = true) ∧
    (∃ s : State, ∃ (u : Fin 32) (v : W64), s.dev.takesWrites .wpu = true ∧ s.dev.takesWrites .dsp = true ∧ s.dev.plainErr 0x0D = true ∧
    s.dev.wpu.rev ≠ s.dev.cmpRev u ∧ (s.dev.cmpQueue u).length < 64) ∧
    (∃ s : State, ∃ (u : Fin 32) (v : W64), s.dev.takesWrites .wpu = true ∧ s.dev.takesWrites .dsp = true ∧ s.dev.plainErr 0x0D = true ∧
    s.dev.wpu.rev = false ∧ s.dev.cmpRev u = false ∧ v.toInt ≤ s.dev.tpos ∧ s.dev.inSafe = false ∧ (s.dev.tpos - v.toInt).natAbs * 2 ^ 32 ≤
    s.dev.rdF (a_WPU_CMP_CFG u) f_WPU_CMP_CFG_LATE_WINDOW * s.dev.scaleOf s.dev.master) ∧
    (∃ s : State, ∃ (u : Fin 32) (data : W64), s.dev.takesWrites .wpu = true ∧ s.dev.takesWrites .dsp = true ∧ s.dev.plainErr 0x0D = true ∧
    fbit data f_WPU_CMP_STAT_CLEAR = true) ∧
    (∃ s : State, ∃ data : W32, s.dev.takesWrites .wpu = true ∧ s.dev.takesWrites .dsp = true ∧ s.dev.plainErr 0x0D = true ∧ fbit
    (data.setWidth 64) f_DSP_COMMIT_GO = true ∧ s.dev.dspErr = 0) ∧
    (∃ s : State, ∃ data : W32, s.dev.takesWrites .wpu = true ∧ s.dev.takesWrites .dsp = true ∧ s.dev.plainErr 0x0D = true ∧ fbit
    (data.setWidth 64) f_DSP_COMMIT_GO = true ∧ s.dev.dspErr ≠ 0) :=
  ⟨⟨st (enc up 0 1), 1, by decide +kernel⟩,
   ⟨st up, 1, by decide +kernel⟩,
   ⟨st up, 1, by decide +kernel⟩,
   ⟨st { up with wpu := { up.wpu with rev := true } }, 31, -1, by decide +kernel⟩,
   ⟨st (wv (wv up (a_WPU_CMP_CFG 31) (fset 0 f_WPU_CMP_CFG_LATE_WINDOW 1)) (a_WPU_ENC_SCALE 0) 0x100000000), 31, -1, by decide +kernel⟩,
   ⟨st { up with wpu := { up.wpu with cmp := [(31, [7])] } }, 31, fset 0 f_WPU_CMP_STAT_CLEAR 1, by decide +kernel⟩,
   ⟨st (List.foldl (fun d f => wv d (a_DSP_FLT_CFG f) (fset (staticReg (a_DSP_FLT_CFG f)) f_DSP_FLT_CFG_SLOT (f % 4))) up (List.range 8)),
    1, by decide +kernel⟩,
   ⟨st (wv up (a_DSP_FLT_CFG 7) (fset 0 f_DSP_FLT_CFG_PRESET 5)), 1, by decide +kernel⟩⟩

/-- The hypotheses of CourseStrobes are met together, clause by clause. -/
theorem test_hyps_CourseStrobes :
    (∃ s : State, ∃ (n : Fin 17) (data : W32), s.dev.plainErr 0x0D = true ∧ s.dev.takesWrites .seg = true ∧ s.dev.takesWrites .cls = true ∧
    s.dev.takesWrites (.pipe n) = true ∧ s.dev.pipeTwins n = [n.val] ∧ s.dev.inB (a_PIPE_COEF_CTRL n) f_PIPE_COEF_CTRL_WIDE = false ∧ fbit
    (data.setWidth 64) f_PIPE_COEF_CTRL_MARK = true ∧ fbit (data.setWidth 64) f_PIPE_COEF_CTRL_SWAP = false) ∧
    (∃ s : State, ∃ (n : Fin 17) (data : W32), s.dev.plainErr 0x0D = true ∧ s.dev.takesWrites .seg = true ∧ s.dev.takesWrites .cls = true ∧
    s.dev.takesWrites (.pipe n) = true ∧ s.dev.pipeTwins n = [n.val] ∧ s.dev.inB (a_PIPE_COEF_CTRL n) f_PIPE_COEF_CTRL_WIDE = false ∧ fbit
    (data.setWidth 64) f_PIPE_COEF_CTRL_MARK = false ∧ fbit (data.setWidth 64) f_PIPE_COEF_CTRL_SWAP = true) ∧
    (∃ s : State, ∃ data : W32, s.dev.plainErr 0x0D = true ∧ s.dev.takesWrites .seg = true ∧ s.dev.takesWrites .cls = true) ∧
    (∃ s : State, ∃ data : W64, s.dev.plainErr 0x0D = true ∧ s.dev.takesWrites .seg = true ∧ s.dev.takesWrites .cls = true ∧ fbit data
    f_SEG_REP_CAPTURE_GO = true ∧ s.dev.mode.starting = false ∧ s.dev.mode.cur = .calibrate) ∧
    (∃ s : State, ∃ data : W64, s.dev.plainErr 0x0D = true ∧ s.dev.takesWrites .seg = true ∧ s.dev.takesWrites .cls = true ∧ fbit data
    f_SEG_REP_CAPTURE_GO = true ∧ s.dev.mode.cur ≠ .calibrate) ∧
    (∃ s : State, ∃ data : W32, s.dev.plainErr 0x0D = true ∧ s.dev.takesWrites .seg = true ∧ s.dev.takesWrites .cls = true ∧ fbit
    (data.setWidth 64) f_CLS_BANK_CTRL_MARK = true ∧ fbit (data.setWidth 64) f_CLS_BANK_CTRL_SWAP = false) ∧
    (∃ s : State, ∃ data : W32, s.dev.plainErr 0x0D = true ∧ s.dev.takesWrites .seg = true ∧ s.dev.takesWrites .cls = true ∧ fbit
    (data.setWidth 64) f_CLS_BANK_CTRL_MARK = false ∧ fbit (data.setWidth 64) f_CLS_BANK_CTRL_SWAP = true ∧ (s.dev.rdF a_CLS_BANK_CTRL
    f_CLS_BANK_CTRL_LOADED).testBit (1 - s.dev.bankNow) = true ∧ s.dev.bankWide (1 - s.dev.bankNow) = false) ∧
    (∃ s : State, ∃ data : W32, s.dev.plainErr 0x0D = true ∧ s.dev.takesWrites .seg = true ∧ s.dev.takesWrites .cls = true ∧ fbit
    (data.setWidth 64) f_CLS_BANK_CTRL_MARK = false ∧ fbit (data.setWidth 64) f_CLS_BANK_CTRL_SWAP = true ∧ (s.dev.rdF a_CLS_BANK_CTRL
    f_CLS_BANK_CTRL_LOADED).testBit (1 - s.dev.bankNow) = false) ∧
    (∃ s : State, ∃ data : W64, s.dev.plainErr 0x0D = true ∧ s.dev.takesWrites .seg = true ∧ s.dev.takesWrites .cls = true ∧ fbit data
    f_CLS_ROLL_CTRL_NOW = true) ∧
    (∃ s : State, ∃ data : W64, s.dev.plainErr 0x0D = true ∧ s.dev.takesWrites .seg = true ∧ s.dev.takesWrites .cls = true ∧ fbit data
    f_CLS_LOFT_CTRL_FREEZE = true ∧ fbit data f_CLS_LOFT_CTRL_RESUME = false ∧ s.dev.cls.frozen = false ∧ s.dev.cls.freeze = none ∧
    s.dev.rdF a_CLS_LOFT_CFG f_CLS_LOFT_CFG_FREEZE_DELAY ≠ 0) ∧
    (∃ s : State, ∃ data : W64, s.dev.plainErr 0x0D = true ∧ s.dev.takesWrites .seg = true ∧ s.dev.takesWrites .cls = true ∧ fbit data
    f_CLS_LOFT_CTRL_FREEZE = false ∧ fbit data f_CLS_LOFT_CTRL_RESUME = true) :=
  ⟨⟨st up, 16, fset (0 : W64) f_PIPE_COEF_CTRL_MARK 1 |>.setWidth 32, by decide +kernel⟩,
   ⟨st up, 16, fset (0 : W64) f_PIPE_COEF_CTRL_SWAP 1 |>.setWidth 32, by decide +kernel⟩,
   ⟨st up, 1, by decide +kernel⟩,
   ⟨st { up with mode := { up.mode with cur := .calibrate } }, 1, by decide +kernel⟩,
   ⟨st up, 1, by decide +kernel⟩,
   ⟨st up, fset (0 : W64) f_CLS_BANK_CTRL_MARK 1 |>.setWidth 32, by decide +kernel⟩,
   ⟨st (wv up a_CLS_BANK_CTRL (fset 0 f_CLS_BANK_CTRL_LOADED 2)), fset (0 : W64) f_CLS_BANK_CTRL_SWAP 1 |>.setWidth 32, by decide +kernel⟩,
   ⟨st (wv up a_CLS_BANK_CTRL 0), fset (0 : W64) f_CLS_BANK_CTRL_SWAP 1 |>.setWidth 32, by decide +kernel⟩,
   ⟨st up, fset 0 f_CLS_ROLL_CTRL_NOW 1, by decide +kernel⟩,
   ⟨st (wv up a_CLS_LOFT_CFG (fset 0 f_CLS_LOFT_CFG_FREEZE_DELAY 1)), fset 0 f_CLS_LOFT_CTRL_FREEZE 1, by decide +kernel⟩,
   ⟨st { up with cls := { up.cls with frozen := true } }, fset 0 f_CLS_LOFT_CTRL_RESUME 1, by decide +kernel⟩⟩

/-- The hypotheses of EdgeStrobes are met together, clause by clause. -/
theorem test_hyps_EdgeStrobes :
    (∃ s : State, ∃ p : Fin 16, s.dev.plainErr 0x0D = true ∧ s.dev.takesWrites (.tpt p) = true ∧ s.dev.laneInUse p 0 = true ∧ 1 ≤
    (s.dev.lane (2 * p)).step ∧ (s.dev.lane (2 * p)).step < 6 ∧ (s.dev.lane (2 * p + 1)).step = 6 ∧ s.dev.quadUp (2 * p) = true ∧ s.dev.rd
    (a_TPT_CFG p) = s.dev.inForce (a_TPT_CFG p)) ∧
    (∃ s : State, ∃ (k : Fin 8) (data : W64), s.dev.plainErr 0x0D = true ∧ s.dev.takesWrites .time = true ∧ s.dev.rdB (a_TIME_TT_CFG k)
    f_TIME_TT_CFG_EN = false ∧ fbit data f_TIME_TT_CFG_EN = true ∧ s.dev.now.toNat < (s.dev.rd (a_TIME_TT_START k)).toNat) ∧
    (∃ s : State, ∃ (k : Fin 8) (data : W64), s.dev.plainErr 0x0D = true ∧ s.dev.takesWrites .time = true ∧ s.dev.rdB (a_TIME_TT_CFG k)
    f_TIME_TT_CFG_EN = false ∧ fbit data f_TIME_TT_CFG_EN = true ∧ (s.dev.rd (a_TIME_TT_START k)).toNat ≤ s.dev.now.toNat) ∧
    (∃ s : State, ∃ (st : Fin 2) (data : W64), s.dev.plainErr 0x0D = true ∧ s.dev.takesWrites (.hbm st) = true ∧ fbit data f_HBM_PR_CTRL_GO
    = true ∧ fbit data f_HBM_PR_CTRL_EXIT = false ∧ s.dev.mode.starting = false ∧ s.dev.mode.cur = .standby ∧ s.dev.plainErr 0x0B = true) ∧
    (∃ s : State, ∃ (st : Fin 2) (data : W64), s.dev.plainErr 0x0D = true ∧ s.dev.takesWrites (.hbm st) = true ∧ fbit data f_HBM_PR_CTRL_GO
    = true ∧ fbit data f_HBM_PR_CTRL_EXIT = false ∧ s.dev.mode.cur ≠ .standby) ∧
    (∃ s : State, ∃ (st : Fin 2) (data : W64), s.dev.plainErr 0x0D = true ∧ s.dev.takesWrites (.hbm st) = true ∧ fbit data f_HBM_PR_CTRL_GO
    = false ∧ fbit data f_HBM_PR_CTRL_EXIT = true) ∧
    (∃ s : State, ∃ (q : Fin 13) (k : Fin 4) (data : W32), s.dev.plainErr 0x0D = true ∧ s.dev.takesWrites (.lq q) = true ∧ fbit
    (data.setWidth 64) f_LQ_EYE_CTRL_GO = true ∧ s.dev.rdB (a_LQ_EYE_CTRL q k) f_LQ_EYE_CTRL_GO = false ∧ s.dev.laneActive (q * 4 + k) =
    true) ∧
    (∃ s : State, ∃ (q : Fin 13) (k : Fin 4) (data : W32), s.dev.plainErr 0x0D = true ∧ s.dev.takesWrites (.lq q) = true ∧ fbit
    (data.setWidth 64) f_LQ_EYE_CTRL_GO = true ∧ s.dev.rdB (a_LQ_EYE_CTRL q k) f_LQ_EYE_CTRL_GO = false ∧ s.dev.laneActive (q * 4 + k) =
    false) :=
  ⟨
    ⟨st { wv (wv up (a_TPT_CFG 15) 3) (a_LQ_QUAD_STAT 7) (fset 0 f_LQ_QUAD_STAT_PLL_LOCK 1) with lanes := (List.replicate 30 LaneSt.reset ++ [{ LaneSt.reset with step := 5 }, { LaneSt.reset with step := 6 }]) },
    15, by decide +kernel⟩,
   ⟨st (wv up (a_TIME_TT_START 7) 1), 7, fset 0 f_TIME_TT_CFG_EN 1, by decide +kernel⟩,
   ⟨st up, 7, fset 0 f_TIME_TT_CFG_EN 1, by decide +kernel⟩,
   ⟨st up, 1, fset 0 f_HBM_PR_CTRL_GO 1, by decide +kernel⟩,
   ⟨st insp, 1, fset 0 f_HBM_PR_CTRL_GO 1, by decide +kernel⟩,
   ⟨st up, 1, fset 0 f_HBM_PR_CTRL_EXIT 1, by decide +kernel⟩,
   ⟨st { up with lanes := List.replicate 51 LaneSt.reset ++ [{ LaneSt.reset with step := 6 }] }, 12, 3,
    fset (0 : W64) f_LQ_EYE_CTRL_GO 1 |>.setWidth 32, by decide +kernel⟩,
   ⟨st up, 12, 3, fset (0 : W64) f_LQ_EYE_CTRL_GO 1 |>.setWidth 32, by decide +kernel⟩⟩

/-- The hypotheses of EncoderEvents are met together, clause by clause. -/
theorem test_hyps_EncoderEvents :
    (∃ (s : State) (dt : Nat) (n : Fin 4), ∃ (a b : Bool) (j k : Nat), s.dev.isHeld .wpu = false ∧ s.dev.encType n = 1 ∧ ((s.dev.enc n).a =
    a ∨ s.dev.accepts n j = true) ∧ ((s.dev.enc n).b = b ∨ s.dev.accepts n k = true) ∧ (((s.dev.enc n).a ≠ a ∧ (s.dev.enc n).b = b) ∨
    ((s.dev.enc n).a = a ∧ (s.dev.enc n).b ≠ b)) ∧ (n.val ≠ s.dev.master ∨ (s.dev.acquiring = false ∧ s.dev.wpu.cmp = []))) ∧
    (∃ (s : State) (dt : Nat) (n : Fin 4), ∃ (a b : Bool) (j k : Nat), s.dev.isHeld .wpu = false ∧ s.dev.accepts n j = false ∧ s.dev.accepts
    n k = false) ∧
    (∃ (s : State) (dt : Nat) (n : Fin 4), ∃ k : Nat, s.dev.isHeld .wpu = false ∧ s.dev.encType n = 1 ∧ s.dev.accepts n k = true) ∧
    (∃ (s : State) (dt : Nat) (n : Fin 4), ∃ k : Nat, s.dev.isHeld .wpu = false ∧ (s.dev.encType n = 1 ∨ s.dev.encType n = 2) ∧ s.dev.inB
    (a_WPU_ENC_CFG n) f_WPU_ENC_CFG_IDX_EN = true ∧ s.dev.accepts n k = true) ∧
    (∃ (s : State) (dt : Nat) (n : Fin 4), ∃ (old k : Nat) (uvw : Fin 8), s.dev.isHeld .wpu = false ∧ s.dev.encType n = 4 ∧ s.dev.accepts n
    k = true ∧ n.val ≠ s.dev.master ∧ (s.dev.enc n).hall = some old ∧ uvw ≠ 0 ∧ uvw ≠ 7 ∧ (hallPlace uvw + 6 - hallPlace old) % 6 = 1 ∧
    s.dev.inB (a_WPU_ENC_CFG n) f_WPU_ENC_CFG_DIR_INV = false) ∧
    (∃ (s : State) (dt : Nat) (n : Fin 4), ∃ bits : List Bool, s.dev.isHeld .wpu = false ∧ s.dev.encType n = 3 ∧ n.val ≠ s.dev.master ∧
    (s.dev.enc n).ssi = none ∧ (s.dev.enc n).frameAt = none ∧ lget bits 0 false = true ∧ s.dev.inF a_WPU_SSI_CFG f_WPU_SSI_CFG_PARITY = 0 ∧
    s.dev.inB a_WPU_SSI_CFG f_WPU_SSI_CFG_GRAY = false ∧ bits.length = 1 + s.dev.inF a_WPU_SSI_CFG f_WPU_SSI_CFG_BITS) :=
  ⟨⟨st (enc up 0 1), 1, 0, true, false, 1000, 0, by decide +kernel⟩,
   ⟨st (enc up 0 1), 1, 3, true, false, 0, 7, by decide +kernel⟩,
   ⟨st (enc up 3 1), 1, 3, 1000, by decide +kernel⟩,
   ⟨st (wv up (a_WPU_ENC_CFG 3) (fset (fset 0 f_WPU_ENC_CFG_TYPE 2) f_WPU_ENC_CFG_IDX_EN 1)), 1, 3, 1000, by decide +kernel⟩,
   ⟨st { enc up 3 4 with wpu := { up.wpu with enc := lset up.wpu.enc 3 { EncSt.reset with hall := some 5 } } }, 1, 3, 5, 1000, 1,
    by decide +kernel⟩,
   ⟨st (wv (enc up 3 3) a_WPU_SSI_CFG (fset 0 f_WPU_SSI_CFG_BITS 2)), 1, 3, [true, true, false], by decide +kernel⟩⟩

/-- The hypotheses of PulsesAndStandstill are met together, clause by clause. -/
theorem test_hyps_PulsesAndStandstill :
    (∃ (s : State) (dt : Nat), ∃ (nm at_ : Int) (period : Nat), s.dev.isHeld .wpu = false ∧ s.dev.wpu.sample = some (nm, at_, period) ∧
    (s.dev.encType s.dev.master = 2 ∨ s.dev.encType s.dev.master = 3) ∧ s.dev.scaleOf s.dev.master ≠ 0 ∧ s.dev.rdB a_WPU_MOTION
    f_WPU_MOTION_SPEED_VALID = true ∧ s.dev.acquiring = false ∧ s.dev.wpu.cmp = [] ∧ s.dev.wpu.rev = false) ∧
    (∃ (s : State) (dt : Nat), s.dev.isHeld .wpu = false ∧ s.dev.wpu.still = false ∧ s.dev.wpu.edgeAt + s.dev.standNs ≤ (s.dev.elapse
    dt).el) ∧
    (∃ (s : State) (dt : Nat), ∃ (n : Fin 16) (p : Pulse), s.dev.wpu.marks.find? (fun p => p.pin = n.val && p.start ≤ (s.dev.elapse dt).el)
    = some p ∧ lget s.dev.wpu.mko n none = none ∧ s.dev.drives p.fired = true ∧ s.dev.mkoDriven = true) ∧
    (∃ (s : State) (dt : Nat), ∃ (n : Fin 16) (e : Nat), lget s.dev.wpu.mko n none = some e ∧ e ≤ (s.dev.elapse dt).el) ∧
    (∃ (s : State) (dt : Nat), ∃ (n : Fin 8) (p : Pulse), (s.dev.strobe n).sched.find? (fun p => p.start ≤ (s.dev.elapse dt).el) = some p ∧
    (s.dev.strobe n).active = none ∧ (s.dev.strobe n).past = [] ∧ s.dev.dutyNs n ≠ 0 ∧ s.dev.drives p.fired = true ∧ s.dev.pinsHeld = false) ∧
    (∃ (s : State) (dt : Nat), ∃ (n : Fin 8) (b e : Nat), (s.dev.strobe n).active = some (b, e) ∧ e ≤ (s.dev.elapse dt).el) :=
  ⟨
    ⟨st { wv (wv (enc up 0 3) (a_WPU_ENC_SCALE 0) 0x100000000) a_WPU_MOTION (fset 0 f_WPU_MOTION_SPEED_VALID 1) with wpu := { up.wpu with sample := some (0, 0, 1000) } },
    1000, 0, 0, 1000, by decide +kernel⟩,
   ⟨st { up with wpu := { up.wpu with still := false, edgeBack := some false, edgeAt := 0 } }, 1000000000, by decide +kernel⟩,
   ⟨st { insp with wpu := { up.wpu with marks := [⟨31, 15, 0, 7, 5⟩] } }, 7, 15, ⟨31, 15, 0, 7, 5⟩, by decide +kernel⟩,
   ⟨st { up with wpu := { up.wpu with mko := List.replicate 15 none ++ [some 7] } }, 7, 15, 7, by decide +kernel⟩,
   
    ⟨st { (wv up (a_WPU_STB_LIM 7) (fset 0 f_WPU_STB_LIM_DUTY_PPT 1)) with wpu := { up.wpu with strobes := List.replicate 7 ⟨[], none, []⟩ ++ [⟨[⟨31, 15, 0, 7, 5⟩], none, []⟩] } },
    7, 7, ⟨31, 15, 0, 7, 5⟩, by decide +kernel⟩,
   ⟨st { up with wpu := { up.wpu with strobes := List.replicate 7 ⟨[], none, []⟩ ++ [⟨[], some (3, 7), []⟩] } }, 7, 7, 3, 7,
    by decide +kernel⟩⟩

/-- The hypotheses of FilterEvents are met together, clause by clause. -/
theorem test_hyps_FilterEvents :
    (∃ (s : State) (dt : Nat) (f : Fin 8) (bits : List Bool) (e : BitEvents) (before : List BitEvents), ∃ (v : Int) (c sat : Bool),
    s.dev.isHeld .dsp = false ∧ (s.dev.fltIn f).clkOn = true ∧ (s.dev.fltIn f).use ≠ 1 ∧ bits.length = (s.dev.elapse dt).bitsDue f ∧
    ((s.dev.filter f).bits (s.dev.fltIn f) (s.dev.tap f) bits).2.reverse = e :: before ∧ before.all (fun x => !x.any) = true ∧ e.sample =
    some (v, c, sat) ∧ e.stuck = false) ∧
    (∃ (s : State) (dt : Nat) (f : Fin 8) (bits : List Bool) (e : BitEvents) (before : List BitEvents), s.dev.isHeld .dsp = false ∧
    (s.dev.fltIn f).clkOn = true ∧ (s.dev.fltIn f).use ≠ 1 ∧ bits.length = (s.dev.elapse dt).bitsDue f ∧ ((s.dev.filter f).bits (s.dev.fltIn
    f) (s.dev.tap f) bits).2.reverse = e :: before ∧ before.all (fun x => !x.any) = true ∧ e.sample = none ∧ e.stuck = false ∧ e.coarse =
    true) ∧
    (∃ (s : State) (dt : Nat) (f : Fin 8) (bits : List Bool) (e : BitEvents) (before : List BitEvents), s.dev.isHeld .dsp = false ∧
    (s.dev.fltIn f).clkOn = true ∧ (s.dev.fltIn f).use ≠ 1 ∧ bits.length = (s.dev.elapse dt).bitsDue f ∧ ((s.dev.filter f).bits (s.dev.fltIn
    f) (s.dev.tap f) bits).2.reverse = e :: before ∧ before.all (fun x => !x.any) = true ∧ e.sample = none ∧ e.stuck = false ∧ e.settled =
    true) ∧
    (∃ (s : State) (dt : Nat) (f : Fin 8) (bits : List Bool) (e : BitEvents) (before : List BitEvents), s.dev.isHeld .dsp = false ∧
    (s.dev.fltIn f).clkOn = true ∧ (s.dev.fltIn f).use ≠ 1 ∧ bits.length = (s.dev.elapse dt).bitsDue f ∧ ((s.dev.filter f).bits (s.dev.fltIn
    f) (s.dev.tap f) bits).2.reverse = e :: before ∧ before.all (fun x => !x.any) = true ∧ e.stuck = true ∧ e.sample = none ∧ s.dev.plainErr
    0x17 = true) :=
  ⟨⟨st (flt { FltSt.start 0 with phase := 7 }), 56, 7, [true], ⟨some (0, false, false), false, false, false, false, false⟩, [], 0, false,
    false, by decide +kernel⟩,
   ⟨st (flt { FltSt.start 0 with grp := 7 }), 56, 7, [true], ⟨none, true, false, false, false, false⟩, [], by decide +kernel⟩,
   ⟨st (flt { FltSt.start 1 with phase := 7 }), 56, 7, [true], ⟨none, false, true, false, false, false⟩, [], by decide +kernel⟩,
   ⟨st (flt { FltSt.start 0 with level := true, held := 1023 }), 56, 7, [true], ⟨none, false, false, true, false, false⟩, [],
    by decide +kernel⟩⟩

/-- The hypotheses of LaneBringUp are met together, clause by clause. -/
theorem test_hyps_LaneBringUp :
    (∃ (s : State) (dt : Nat), ∃ l : Fin 52, (s.dev.lane l).step = 1 ∧ (s.dev.lane l).pause = none ∧ laneUse l ≠ .eth ∧ (laneUse l = .tether
    → ∃ t, (s.dev.port (l / 2)).clockAt = some t ∧ t + 1000000 ≤ (s.dev.elapse dt).refNs)) ∧
    (∃ (s : State) (dt : Nat), ∃ (l : Fin 40) (f : TrainFrame), (s.dev.lane l).step = 2 ∧ (s.dev.lane l).extra = some 7 ∧ f.control = 0 ∧
    f.controlN = ~~~ f.control ∧ f.statusN = ~~~ f.status) ∧
    (∃ (s : State) (dt : Nat), ∃ (l : Fin 40) (blocks : List (List Byte)), (s.dev.lane l).step = 3 ∧ 3 ≤ blocks.length ∧ blocks.all isAlign
    = true) ∧
    (∃ (s : State) (dt : Nat), ∃ (l : Fin 40) (missed : Nat), 3 ≤ (s.dev.lane l).step ∧ (s.dev.lane l).step < 6 ∧ 4 ≤ missed) ∧
    (∃ (s : State) (dt : Nat), ∃ (l : Fin 40) (missed : Nat), 3 ≤ (s.dev.lane l).step ∧ (s.dev.lane l).step < 6 ∧ missed < 4) ∧
    (∃ (s : State) (dt : Nat), ∃ l : Fin 52, (s.dev.lane l).step = 6 ∧ s.dev.plainErr 0x1B = true ∧ (s.dev.port (l / 2)).reqs = []) ∧
    (∃ (s : State) (dt : Nat), ∃ (l : Fin 40) (n : Nat), s.dev.stepLimit l = some n ∧ (s.dev.lane l).since + n ≤ (s.dev.elapse dt).refNs ∧
    (s.dev.lane l).returns < 2 ∧ (laneUse l = .tether → s.dev.laneModeKept (l / 2) = true)) ∧
    (∃ (s : State) (dt : Nat), ∃ (l : Fin 40) (t : Nat), (s.dev.lane l).pause = some t ∧ t ≤ (s.dev.elapse dt).refNs ∧ (s.dev.lane l).step ≤
    1) ∧
    (∃ (s : State) (dt : Nat), ∃ k : Fin 4, s.dev.ethUsed k = true ∧ (s.dev.lane (48 + k)).step = 1) ∧
    (∃ (s : State) (dt : Nat), ∃ k : Fin 4, (s.dev.lane (48 + k)).step = 3 ∧ s.dev.keel.pending = []) ∧
    (∃ (s : State) (dt : Nat), ∃ q : Fin 13, s.dev.rdB (a_LQ_QUAD_STAT q) f_LQ_QUAD_STAT_PLL_LOCK = true ∧ (∀ l ∈ quadLanes q, (s.dev.lane
    l).step ≠ 6) ∧ s.dev.plainErr 0x25 = true) :=
  ⟨⟨st (prt (lan up 31 (atStep 1)) 15 { PortSt.reset with clockAt := some 0 }), 1000000, 31,
    by refine ⟨?_, ?_, ?_, ((fun _ => ⟨0, by decide +kernel⟩))⟩ <;> decide +kernel⟩,
   ⟨st (lan up 39 { atStep 2 with extra := some 7 }), 1, 39, ⟨0, 0xFFFF, 0, 0xFFFF, false, true, 0⟩, by decide +kernel⟩,
   ⟨st (lan up 39 (atStep 3)), 1, 39, List.replicate 3 (leBytes 32 0x3C), by decide +kernel⟩,
   ⟨st (lan up 39 (atStep 5)), 1, 39, 4, by decide +kernel⟩,
   ⟨st (lan up 39 (atStep 5)), 1, 39, 3, by decide +kernel⟩,
   ⟨st (lan up 51 (atStep 6)), 1, 51, by decide +kernel⟩,
   ⟨st (lan up 31 (atStep 4)), 20000000, 31, 20000000, by decide +kernel⟩,
   ⟨st (lan up 39 { atStep 1 with pause := some 7 }), 7, 39, 7, by decide +kernel⟩,
   ⟨st (lan up 48 (atStep 1)), 1, 0, by decide +kernel⟩,
   ⟨st (lan up 51 (atStep 3)), 1, 3, by decide +kernel⟩,
   ⟨st (wv up (a_LQ_QUAD_STAT 12) (fset 0 f_LQ_QUAD_STAT_PLL_LOCK 1)), 1, 12, by decide +kernel⟩⟩

/-- The hypotheses of LaneUpkeep are met together, clause by clause. -/
theorem test_hyps_LaneUpkeep :
    (∃ (s : State) (dt : Nat), ∃ l : Fin 40, 3 ≤ (s.dev.lane l).step ∧ s.dev.cal.run = none ∧ (s.dev.lane l).burstAt + 950000 ≤
    (s.dev.elapse dt).refNs) ∧
    (∃ (s : State) (dt : Nat), ∃ l : Fin 40, 3 ≤ (s.dev.lane l).step ∧ s.dev.cal.run = none) ∧
    (∃ (s : State) (dt : Nat), ∃ l : Fin 40, (s.dev.lane l).step = 6 ∧ (s.dev.lane l).missed = false ∧ (s.dev.lane l).heardAt + 2000000 ≤
    (s.dev.elapse dt).refNs ∧ s.dev.plainErr 0x26 = true) ∧
    (∃ (s : State) (dt : Nat), ∃ l : Fin 52, s.dev.laneActive l = true) ∧
    (∃ (s : State) (dt : Nat), ∃ (l : Fin 52) (errors : Nat), s.dev.rdB (eyeCtrl l) f_LQ_EYE_CTRL_GO = true) ∧
    (∃ (s : State) (dt : Nat), ∃ l : Fin 40, l.val < 32) ∧
    (∃ (s : State) (dt : Nat), ∃ l : Fin 40, ∃ cw : List (BitVec 10), l.val < 32 ∧ rsCorrect (cw.map BitVec.toNat) = none) ∧
    (∃ (s : State) (dt : Nat), ∃ l : Fin 40, ∃ cw : List (BitVec 10), ∃ n : Nat, l.val < 32 ∧ rsCorrect (cw.map BitVec.toNat) = some n) ∧
    (∃ (s : State) (dt : Nat), ∃ (l : Fin 40) (cw : List (BitVec 10)), 32 ≤ l.val) :=
  ⟨⟨st (lan up 39 (atStep 3)), 950000, 39, by decide +kernel⟩,
   ⟨st (lan up 39 (atStep 3)), 1, 39, by decide +kernel⟩,
   ⟨st (lan up 39 (atStep 6)), 2000000, 39, by decide +kernel⟩,
   ⟨st (lan up 51 (atStep 6)), 1, 51, by decide +kernel⟩,
   ⟨st (wv up (eyeCtrl 51) (fset 0 f_LQ_EYE_CTRL_GO 1)), 1, 51, 7, by decide +kernel⟩,
   ⟨st up, 1, 31, by decide +kernel⟩,
   ⟨st up, 1, 31, List.replicate 32 1, by decide +kernel⟩,
   ⟨st up, 1, 31, List.replicate 544 0, 0, by decide +kernel⟩,
   ⟨st up, 1, 32, List.replicate 544 0, by decide +kernel⟩⟩

/-- The hypotheses of CameraPackets are met together, clause by clause. -/
theorem test_hyps_CameraPackets :
    (∃ (s : State) (dt : Nat), ∃ (l : Fin 32) (pkt : List Byte), 3 ≤ (s.dev.lane l).step ∧ pktType pkt = 0x10 ∧ pktFormOk pkt = true ∧
    pktCrcOk pkt = false) ∧
    (∃ (s : State) (dt : Nat), ∃ (l : Fin 32) (pkt : List Byte), ∃ (i : Nat) (x : Slot), 3 ≤ (s.dev.lane l).step ∧ pktType pkt = 0x10 ∧
    pktFormOk pkt = true ∧ pktCrcOk pkt = true ∧ s.dev.rdF a_RDG_XFWD f_RDG_XFWD_DONATED = 0 ∧ (s.dev.port (l / 2)).slots.findIdx? (fun s =>
    s.desc.line % 2 ^ 32 = leAt (slice pkt 0 16) 4 4) = some i ∧ (s.dev.port (l / 2)).slots[i]? = some x ∧ x.segs ≠ [] ∧ s.dev.vcUse
    x.desc.ctx (l / 2) (pktVc (slice pkt 0 16)) = .pixel ∧ leAt (slice pkt 0 16) 14 1 = s.dev.cF x.desc.ctx (a_TPT_CFG (l / 2))
    f_TPT_CFG_PIX_DT ∧ leAt (slice pkt 0 16) 8 4 + (pktPayload pkt).length ≤ s.dev.lineBytes x.desc.ctx (l / 2) ∧ covered x.segs (leAt
    (slice pkt 0 16) 8 4) (pktPayload pkt).length = false) ∧
    (∃ (s : State) (dt : Nat), ∃ (l : Fin 32) (pkt : List Byte), (s.dev.lane l).step = 4 ∧ pktType pkt = 0x20 ∧ pktFormOk pkt = true ∧
    pktCrcOk pkt = true ∧ (s.dev.port (l / 2)).reqs = [] ∧ s.dev.rdF (a_TPT_LINK (l / 2)) f_TPT_LINK_CAP_ERR = 0 ∧ s.dev.capErr (l / 2)
    (pktPayload pkt) = 0) ∧
    (∃ (s : State) (dt : Nat), ∃ (l : Fin 32) (pkt : List Byte) (r : CamReq), 3 ≤ (s.dev.lane l).step ∧ pktFormOk pkt = true ∧ pktCrcOk pkt
    = true ∧ pktType pkt = 0x23 ∧ r.typ = 1 ∧ pktStatus pkt ≠ 4 ∧ ((s.dev.port (l / 2)).reqs.take 16).find? (fun r => r.tag = pktTag pkt &&
    (r.typ = 4 || r.typ = 1) && r.typ = leAt pkt 13 1) = some r) ∧
    (∃ (s : State) (dt : Nat), ∃ (l : Fin 32) (pkt : List Byte) (r : CamReq), ∃ id : Nat, 3 ≤ (s.dev.lane l).step ∧ pktFormOk pkt = true ∧
    pktCrcOk pkt = true ∧ pktType pkt = 0x21 ∧ r.cmd = some id ∧ pktLen pkt = (if r.typ = 3 then 4 * leAt pkt 8 2 else 0) ∧ ((s.dev.port (l
    / 2)).reqs.take 16).find? (fun r => r.tag = pktTag pkt && (r.typ = 2 || r.typ = 3) && slice r.packet 4 6 = slice pkt 4 6) = some r) ∧
    (∃ (s : State) (dt : Nat), ∃ (l : Fin 32) (pkt : List Byte) (r : CamReq), 3 ≤ (s.dev.lane l).step ∧ pktFormOk pkt = true ∧ pktCrcOk pkt
    = true ∧ pktType pkt = 0x21 ∧ pktLen pkt ≠ (if r.typ = 3 then 4 * leAt pkt 8 2 else 0) ∧ ((s.dev.port (l / 2)).reqs.take 16).find? (fun
    r => r.tag = pktTag pkt && (r.typ = 2 || r.typ = 3) && slice r.packet 4 6 = slice pkt 4 6) = some r) ∧
    (∃ (s : State) (dt : Nat), ∃ (l : Fin 32) (pkt : List Byte), 3 ≤ (s.dev.lane l).step ∧ pktType pkt = 0x22 ∧ pktFormOk pkt = true ∧
    pktCrcOk pkt = true) ∧
    (∃ (s : State) (dt : Nat), ∃ (l : Fin 32) (blk : List Byte) (rtt : Nat), (s.dev.lane l).step = 6 ∧ leAt blk 0 1 = 0x67 ∧ crc32c (slice
    blk 0 28) = leAt blk 28 4 ∧ BitVec.ofNat 16 (leAt blk 1 2) ∈ (s.dev.lane l).echoes) ∧
    (∃ (s : State) (dt : Nat), ∃ (p : Fin 16) (i : Nat) (r : CamReq), ((s.dev.port p).reqs.take 16).findIdx? (fun r => r.sentAt + 1000000 ≤
    (s.dev.elapse dt).refNs) = some i ∧ (s.dev.port p).reqs[i]? = some r ∧ r.resends < 2) ∧
    (∃ (s : State) (dt : Nat), ∃ (p : Fin 16) (i : Nat) (r : CamReq), ((s.dev.port p).reqs.take 16).findIdx? (fun r => r.sentAt + 1000000 ≤
    (s.dev.elapse dt).refNs) = some i ∧ (s.dev.port p).reqs[i]? = some r ∧ 2 ≤ r.resends ∧ r.cmd = none ∧ s.dev.plainErr 0x18 = true) ∧
    (∃ (s : State) (dt : Nat), ∃ (p : Fin 16) (i : Nat) (x : Slot), (s.dev.port p).slots.findIdx? (fun x => x.closeAt ≤ (s.dev.elapse
    dt).refNs) = some i ∧ (s.dev.port p).slots[i]? = some x) :=
  ⟨⟨st (lan up 31 (atStep 3)), 1, 31, [0x10, 0, 1, 0, 8, 0, 0, 0, 1, 0, 0, 0, 0, 0, 0, 0, 9] ++ [0, 0, 0, 0], by decide +kernel⟩,
   ⟨st (prt (lan up 31 (atStep 3)) 15 { PortSt.reset with slots := [{ slot0 with desc := lineOf pix0 }] }), 1, 31,
    crcd ([0x10, 0, 1, 0, 8, 0, 0, 0, 1, 0, 0, 0, 0, 0, 0, 0, 9]), 0, { slot0 with desc := lineOf pix0 }, by decide +kernel⟩,
   ⟨st (lan up 31 (atStep 4)), 1, 31,
    crcd ([0x20, 0, 64, 0] ++ zeros 12 ++ (zeros 12 ++ [0x10, 0, 3, 0, 0, 0xFF, 0, 0] ++ List.replicate 8 0xFF ++ zeros 36)),
    by decide +kernel⟩,
   ⟨st (prt (lan up 31 (atStep 6)) 15 { PortSt.reset with reqs := [⟨1, 9, 31, zeros 16, 0, 0, none⟩] }), 1, 31,
    crcd [0x23, 0, 0, 0, 0, 0, 0, 0, 0, 0, 9, 0, 5, 1, 0, 0], ⟨1, 9, 31, zeros 16, 0, 0, none⟩, by decide +kernel⟩,
   ⟨st (prt (lan up 31 (atStep 6)) 15 { PortSt.reset with reqs := [⟨2, 9, 31, zeros 16, 0, 0, some 5⟩] }), 1, 31,
    crcd [0x21, 0, 0, 0, 0, 0, 0, 0, 0, 0, 9, 0, 0, 0, 0, 0], ⟨2, 9, 31, zeros 16, 0, 0, some 5⟩, 5, by decide +kernel⟩,
   ⟨st (prt (lan up 31 (atStep 6)) 15 { PortSt.reset with reqs := [⟨2, 9, 31, zeros 8 ++ [1, 0] ++ zeros 6, 0, 0, none⟩] }), 1, 31,
    crcd [0x21, 0, 4, 0, 0, 0, 0, 0, 1, 0, 9, 0, 0, 0, 0, 0, 1, 2, 3, 4], ⟨2, 9, 31, zeros 8 ++ [1, 0] ++ zeros 6, 0, 0, none⟩,
    by decide +kernel⟩,
   ⟨st (lan up 31 (atStep 6)), 1, 31, crcd ([0x22, 0, 1, 0, 0, 0, 0, 0, 0, 0, 9, 0, 0, 0, 0, 0] ++ [7]), by decide +kernel⟩,
   ⟨st (lan up 31 { atStep 6 with echoes := [5] }), 1, 31, crcd ([0x67, 5, 0] ++ zeros 25), 1000, by decide +kernel⟩,
   ⟨st (prt up 15 { PortSt.reset with reqs := [⟨2, 9, 31, zeros 16, 0, 1, none⟩] }), 1000000, 15, 0, ⟨2, 9, 31, zeros 16, 0, 1, none⟩,
    by decide +kernel⟩,
   ⟨st (prt up 15 { PortSt.reset with reqs := [⟨2, 9, 31, zeros 16, 0, 2, none⟩] }), 1000000, 15, 0, ⟨2, 9, 31, zeros 16, 0, 2, none⟩,
    by decide +kernel⟩,
   ⟨st (prt up 15 { PortSt.reset with slots := [slot0] }), 5, 15, 0, slot0, by decide +kernel⟩⟩

/-- The hypotheses of LineStages are met together, clause by clause. -/
theorem test_hyps_LineStages :
    (∃ (s : State) (dt : Nat), ∃ (n : Fin 17) (i : InLine) (rest : List InLine), (s.dev.pipe n).input = i :: rest ∧ (s.dev.pipe n).hist = []
    ∧ (s.dev.pipe n).done = none ∧ (s.dev.pipe n).stats = none ∧ (s.dev.pipe n).ready = [] ∧ s.dev.spare.comps = [] ∧ s.dev.cal.run = none ∧
    s.dev.pipeRole i.desc.ctx n = 0 ∧ s.dev.cF i.desc.ctx (a_PIPE_ALIGN_CFG n) f_PIPE_ALIGN_CFG_ALIGN_LAG = 0 ∧ s.dev.cB i.desc.ctx
    (a_PIPE_STAT_CFG n) f_PIPE_STAT_CFG_EN = false ∧ (∀ x ∈ (s.dev.port (s.dev.pipePort i.desc.ctx n)).slots, i.desc.line ≤ x.desc.line)) ∧
    (∃ (s : State) (dt : Nat), ∃ (x : LineDesc) (rest : List LineDesc), s.dev.mos.todo = x :: rest ∧ s.dev.mosaicDue x = true ∧ x.ctx.mode ≠
    5 ∧ s.dev.cls.rec_.enc = none ∧ s.dev.cls.rec_.waiting = false ∧ s.dev.cls.rec_.unread = []) ∧
    (∃ (s : State) (dt : Nat), s.dev.cls.freeze = some 0) ∧
    (∃ (s : State) (dt : Nat), ∃ (k : MosCourse) (rest : List MosCourse), s.dev.mos.closed = k :: rest ∧ s.dev.established = false ∧
    s.dev.cal.run = none ∧ k.ctx.run = s.dev.wpu.ctx.run) ∧
    (∃ (s : State) (dt : Nat), ∃ (m : MosLine) (rest : List MosLine), s.dev.seg.arrived = m :: rest ∧ (s.dev.segOver = false ∨
    s.dev.seg.nextLabel = none) ∧ s.dev.mem.bad = [] ∧ s.dev.plainErr 0x1E = true) ∧
    (∃ (s : State) (dt : Nat), ∃ (tm : W64) (j : LineDesc) (rest : List LineDesc), s.dev.seg.mark = some tm ∧ s.dev.seg.marked = false ∧
    s.dev.wpu.issued.filter (fun l => decide ((l.time.toNat : Int) ≤ (tm.toNat : Int)) && l.epoch = s.dev.clk.epoch) = j :: rest ∧
    s.dev.wpu.issued.find? (fun l => l.line = j.line + 1) = none ∧ j.speedValid = false) :=
  ⟨
    ⟨st { up with pipes := List.replicate 16 .reset ++ [{ PipeSt.reset with input := [⟨lineOf pipe16, 0, 0, true, false, false, false, [], []⟩] }] },
    1, 16, ⟨lineOf pipe16, 0, 0, true, false, false, false, [], []⟩, [], by decide +kernel⟩,
   ⟨st { up with mos := { up.mos with todo := [line0] } }, 1, line0, [], by decide +kernel⟩,
   ⟨st { up with cls := { up.cls with freeze := some 0 } }, 1, by decide +kernel⟩,
   ⟨st { up with mos := { up.mos with closed := [⟨.none_, 0, 0, 0, 0, none, none, 0, 0, 0, [], false⟩] } }, 1,
    ⟨.none_, 0, 0, 0, 0, none, none, 0, 0, 0, [], false⟩, [], by decide +kernel⟩,
   ⟨st { up with seg := { up.seg with arrived := [mos0] } }, 1, mos0, [], by decide +kernel⟩,
   ⟨st { up with seg := { up.seg with mark := some 100 }, wpu := { up.wpu with issued := [line0] } }, 1, 100, line0, [], by decide +kernel⟩⟩

/-- The hypotheses of BlobsAndCrops are met together, clause by clause. -/
theorem test_hyps_BlobsAndCrops :
    (∃ (s : State) (dt : Nat), ∃ (b : BlobDesc) (rest : List BlobDesc), (∀ (c : CourseCtx) (k : Nat), k < 65536 → leAt (s.dev.tab.readBytes
    tabDefault (tabAddr 0x21 0 (s.dev.bankOf c) (32 * k)) 32) 1 1 = 0) ∧ s.dev.cls.queue = b :: rest ∧ s.dev.cls.rolls = [] ∧
    ((s.dev.firstPass b).2 = false ∨ b.ctx.mode ≠ 4)) ∧
    (∃ (s : State) (dt : Nat), ∃ (b : BlobDesc) (rest : List BlobDesc), (∀ (c : CourseCtx) (k : Nat), k < 65536 → leAt (s.dev.tab.readBytes
    tabDefault (tabAddr 0x21 0 (s.dev.bankOf c) (32 * k)) 32) 1 1 = 0) ∧ s.dev.cls.queue = b :: rest ∧ s.dev.cls.rolls = [] ∧
    (s.dev.firstPass b).2 = true ∧ b.ctx.mode = 4 ∧ s.dev.cB b.ctx a_CLS_CFG f_CLS_CFG_PASS2_EN = true) ∧
    (∃ (s : State) (dt : Nat), ∃ (x : Pass2) (rest : List Pass2), (∀ (c : CourseCtx) (k : Nat), k < 65536 → leAt (s.dev.tab.readBytes
    tabDefault (tabAddr 0x21 0 (s.dev.bankOf c) (32 * k)) 32) 1 1 = 0) ∧ s.dev.cls.pass2 = x :: rest ∧ x.at_ + 2000000 ≤ (s.dev.elapse
    dt).el) ∧
    (∃ (s : State) (dt : Nat), ∃ (x : Pass2) (rest : List Pass2), ∃ (inner : Int × Int × Int × Int) (xa xb ya yb : Int) (e : Nat), (∀ (c :
    CourseCtx) (k : Nat), k < 65536 → leAt (s.dev.tab.readBytes tabDefault (tabAddr 0x21 0 (s.dev.bankOf c) (32 * k)) 32) 1 1 = 0) ∧
    s.dev.cls.pass2 = x :: rest ∧ s.dev.p2Boxes x.blob = (inner, xa, xb, ya, yb) ∧ (s.dev.elapse dt).el ≤ x.at_ + 2000000 ∧
    s.dev.cls.emitted = some e ∧ yb ≤ e ∧ s.dev.mem.bad = [] ∧ (∀ k < (yb - ya + 1).toNat, s.dev.inLoft (ya + k).toNat = true) ∧ (winSums
    inner (xa, xb, ya, yb) (fun gx gy => unpack12 (lget ((List.range (yb - ya + 1).toNat).map (fun k : Nat => s.hbmRead (s.dev.loftAddr
    x.blob.ctx (ya + k).toNat + 64) (s.dev.loftSlot x.blob.ctx - 64))) (gy - ya).toNat []) gx.toNat)).features ≠ none) ∧
    (∃ (s : State) (dt : Nat), (∀ (c : CourseCtx) (k : Nat), k < 65536 → leAt (s.dev.tab.readBytes tabDefault (tabAddr 0x21 0 (s.dev.bankOf
    c) (32 * k)) 32) 1 1 = 0) ∧ (∀ r ∈ s.dev.cls.rolls, r.ends = none)) ∧
    (∃ (s : State) (dt : Nat), ∃ c : ClsCourse, (∀ (c : CourseCtx) (k : Nat), k < 65536 → leAt (s.dev.tab.readBytes tabDefault (tabAddr 0x21
    0 (s.dev.bankOf c) (32 * k)) 32) 1 1 = 0) ∧ s.dev.cls.courses.find? s.dev.courseReady = some c ∧ s.dev.cB c.ctx a_CLS_CFG
    f_CLS_CFG_COURSE_EN = true ∧ s.dev.isPartner = false) ∧
    (∃ (s : State) (dt : Nat) (c : Crop) (rest : List Crop), ∃ e : Nat, s.dev.cls.crops = c :: rest ∧ c.started = none ∧ c.closed = none ∧
    s.dev.cls.emitted = some e ∧ c.y0 + c.h ≤ e + 1 ∧ s.dev.mem.bad = [] ∧ s.dev.freeEngine ≠ none) ∧
    (∃ (s : State) (dt : Nat) (c : Crop) (rest : List Crop), ∃ t : Nat, s.dev.cls.crops = c :: rest ∧ c.started = some t ∧ c.closed = none ∧
    c.lines < c.h ∧ t + max 1 (s.dev.rdF a_CLS_CROP_CFG f_CLS_CROP_CFG_PIN_MS) * 1000000 ≤ (s.dev.elapse dt).el) ∧
    (∃ (s : State) (dt : Nat) (c : Crop) (rest : List Crop), ∃ t : Nat, s.dev.cls.crops = c :: rest ∧ c.started = some t ∧ c.closed = some
    1) ∧
    (∃ (s : State) (dt : Nat) (c : Crop) (rest : List Crop), ∃ t : Nat, s.dev.cls.crops = c :: rest ∧ c.started = some t ∧ c.closed = none ∧
    c.lines = c.h) :=
  ⟨⟨st { up with cls := { up.cls with queue := [blob0], rolls := [] } }, 1, blob0, [], (noAction _ (Or.inl rfl)), by decide +kernel⟩,
   ⟨st { up with cls := { up.cls with queue := [blob0], rolls := [] }, tab := [(tabAddr 0x20 0 0 10, 1)] }, 1, blob0, [],
    (noAction _ (Or.inr rfl)), by decide +kernel⟩,
   ⟨st { up with cls := { up.cls with pass2 := [⟨blob0, 0, 0⟩] } }, 2000000, ⟨blob0, 0, 0⟩, [], (noAction _ (Or.inl rfl)),
    by decide +kernel⟩,
   
    ⟨⟨{ up with cls := { up.cls with pass2 := [⟨blob0, 0, 0⟩], emitted := some 8, written := List.range 9 } }, [(up.loftAddr deep0 0 + 64, 1), (up.loftAddr deep0 0 + 65, 0x10)], []⟩,
    2000000, ⟨blob0, 0, 0⟩, [], (0, 0, 0, 0), 0, 1, 0, 8, 8,
    by refine ⟨((noAction _ (Or.inl rfl))), ?_, ?_, ?_, ?_, ?_, ?_, ((by decide +kernel)), ?_⟩ <;> decide +kernel⟩,
   ⟨st { up with cls := { up.cls with courses := [⟨deep0, 0, 0, .empty, [], false, some (0, 0, 0), false, none, []⟩] } }, 2200000,
    (noAction _ (Or.inl rfl)), (by decide +kernel)⟩,
   
    ⟨st { up with cls := { up.cls with courses := [⟨{ CourseCtx.none_ with cfg := [(a_CLS_CFG, fset 0 f_CLS_CFG_COURSE_EN 1)] }, 0, 0, .empty, [], true, some (0, 0, 0), false, some [], []⟩] } },
    1,
    ⟨{ CourseCtx.none_ with cfg := [(a_CLS_CFG, fset 0 f_CLS_CFG_COURSE_EN 1)] }, 0, 0, .empty, [], true, some (0, 0, 0), false, some [], []⟩,
    (noAction _ (Or.inl rfl)), by decide +kernel⟩,
   ⟨st { up with cls := { up.cls with crops := [crop0], emitted := some 7 } }, 1, crop0, [], 7, by decide +kernel⟩,
   
    ⟨st { (wv up a_CLS_CROP_CFG (fset 0 f_CLS_CROP_CFG_PIN_MS 1)) with cls := { up.cls with crops := [{ crop0 with started := some 0 }] } },
    1000000, { crop0 with started := some 0 }, [], 0, by decide +kernel⟩,
   ⟨st { up with cls := { up.cls with crops := [{ crop0 with started := some 0, closed := some 1 }] } }, 1,
    { crop0 with started := some 0, closed := some 1 }, [], 0, by decide +kernel⟩,
   ⟨st { up with cls := { up.cls with crops := [{ crop0 with started := some 0, lines := 1 }] } }, 1,
    { crop0 with started := some 0, lines := 1 }, [], 0, by decide +kernel⟩⟩

/-- The hypotheses of DeviceTime are met together, clause by clause. -/
theorem test_hyps_DeviceTime :
    (∃ (s : State) (dt : Nat), ∃ f : Fin 8, s.dev.isHeld .time = false ∧ s.dev.clk.ppsLast = none ∧ s.dev.rdF a_TIME_CTRL f_TIME_CTRL_SRC ≠
    2) ∧
    (∃ (s : State) (dt : Nat), ∃ f : Fin 8, s.dev.isHeld .time = false ∧ s.dev.clk.ppsLast = none ∧ s.dev.rdF a_TIME_CTRL f_TIME_CTRL_SRC =
    2 ∧ s.dev.rdB a_TIME_STAT f_TIME_STAT_SET = true ∧ s.dev.plainErr 0x23 = true) ∧
    (∃ (s : State) (dt : Nat), ∃ e : Nat, s.dev.isHeld .time = false ∧ (s.dev.elapse dt).ppsInstant = some e ∧ s.dev.clk.ppsDone ≠ some e ∧
    s.dev.clk.ppsOutEnd = none ∧ s.dev.rdB a_TIME_STAT f_TIME_STAT_LOCKED = true) ∧
    (∃ (s : State) (dt : Nat), ∃ x : Nat, s.dev.isHeld .time = false ∧ s.dev.clk.ppsOutEnd = some x ∧ x ≤ (s.dev.elapse dt).el) ∧
    (∃ (s : State) (dt : Nat), ∃ (k : Fin 8) (at_ start : Nat), s.dev.isHeld .time = false ∧ lget s.dev.clk.ttNext k none = some (at_,
    start) ∧ at_ ≤ (s.dev.elapse dt).now.toNat ∧ s.dev.rdB (a_TIME_TT_CFG k) f_TIME_TT_CFG_ACTION = false) ∧
    (∃ (s : State) (dt : Nat), s.dev.isHeld .time = false ∧ (∀ t : Nat, s.dev.clk.savedAt = some t → t + 1000000 ≤ (s.dev.elapse dt).el)) ∧
    (∃ (s : State) (dt : Nat), s.dev.isHeld .time = false ∧ s.dev.rdB a_TIME_STAT f_TIME_STAT_SET = true ∧ s.dev.clk.lastOffset + 4000000000
    ≤ (s.dev.elapse dt).el) ∧
    (∃ (s : State) (dt : Nat), ∃ (id : Nat) (amount : Int), s.dev.isHeld .time = false ∧ s.dev.clk.step = some (id, amount) ∧ (∀ k, lget
    s.dev.clk.ttNext k none = none)) :=
  ⟨⟨st up, 1, 7, by decide +kernel⟩,
   ⟨st (wv (wv up a_TIME_CTRL (fset 0 f_TIME_CTRL_SRC 2)) a_TIME_STAT (fset 0 f_TIME_STAT_SET 1)), 1, 7, by decide +kernel⟩,
   ⟨st (wv up a_TIME_STAT (fset 0 f_TIME_STAT_LOCKED 1)), 1, 0, by decide +kernel⟩,
   ⟨st { up with clk := { up.clk with ppsOutEnd := some 7 } }, 7, 7, by decide +kernel⟩,
   ⟨st { up with clk := { up.clk with ttNext := List.replicate 7 none ++ [some (7, 5)] } }, 7, 7, 7, 5, by decide +kernel⟩,
   ⟨st up, 1, by decide +kernel⟩,
   ⟨st (wv up a_TIME_STAT (fset 0 f_TIME_STAT_SET 1)), 4000000000, by decide +kernel⟩,
   ⟨st { up with clk := { up.clk with step := some (7, -1) } }, 1, 7, -1, by decide +kernel, by decide +kernel, (fun k => lgetNones 8 k)⟩⟩

/-- The hypotheses of PtpPort are met together, clause by clause. -/
theorem test_hyps_PtpPort :
    (∃ (s : State) (dt : Nat), ∃ m : PtpMsg, s.dev.fromMaster m = true ∧ m.twoStep = true) ∧
    (∃ (s : State) (dt : Nat), ∃ m : PtpMsg, s.dev.fromMaster m = true ∧ m.twoStep = false) ∧
    (∃ (s : State) (dt : Nat), ∃ m : PtpMsg, ∃ t2 c : Int, s.dev.fromMaster m = true ∧ s.dev.clk.ptpSync = some (m.seqId, t2, c)) ∧
    (∃ (s : State) (dt : Nat), ∃ m : PtpMsg, ∃ t1 t2 t3 cs : Int, s.dev.fromMaster m = true ∧ s.dev.clk.ptpReq = some (m.seqId, t3) ∧
    s.dev.clk.ptpPair = some (t1, t2, cs) ∧ m.reqId = s.dev.portId ∧ s.dev.plainErr 0x23 = true ∧ s.dev.rdB a_TIME_STAT f_TIME_STAT_SET =
    true) ∧
    (∃ (s : State) (dt : Nat), ∃ m : PtpMsg, s.dev.ptpMine m = true ∧ m.srcId ≠ s.dev.portId ∧ m.gmId.toNat ≠ s.dev.clockId ∧
    m.stepsRemoved.toNat < 255) ∧
    (∃ (s : State) (dt : Nat), ∃ m : PtpMsg, s.dev.ptpMine m = true ∧ s.dev.ptpState = 6) ∧
    (∃ (s : State) (dt : Nat), ∃ f : Fin 8, s.dev.ptpOn = true ∧ (s.dev.ptpState = 8 ∨ s.dev.ptpState = 9)) ∧
    (∃ (s : State) (dt : Nat), ∃ f : Fin 8, s.dev.ptpOn = true ∧ s.dev.ptpState = 6) ∧
    (∃ (s : State) (dt : Nat), s.dev.ptpOn = true ∧ s.dev.ptpState = 6) ∧
    (∃ (s : State) (dt : Nat), s.dev.ptpOn = true ∧ s.dev.ptpState ≠ 6 ∧ s.dev.clk.ptpAnnAt + 3 * s.dev.announceNs ≤ (s.dev.elapse dt).el) :=
  ⟨⟨st (slave 9), 1, { msg0 with twoStep := true }, by decide +kernel⟩,
   ⟨st (slave 9), 1, msg0, by decide +kernel⟩,
   ⟨st { slave 9 with clk := { (slave 9).clk with ptpSync := some (9, 5, 6) } }, 1, msg0, 5, 6, by decide +kernel⟩,
   
    ⟨st { wv (slave 9) a_TIME_STAT (fset 0 f_TIME_STAT_SET 1) with clk := { (slave 9).clk with ptpReq := some (9, 8), ptpPair := some (1, 2, 3) } },
    1, { msg0 with reqId := (ptp 9).portId }, 1, 2, 8, 3, by decide +kernel⟩,
   ⟨st (ptp 4), 1, msg0, by decide +kernel⟩,
   ⟨st (ptp 6), 1, msg0, by decide +kernel⟩,
   ⟨st (slave 9), 1, 7, by decide +kernel⟩,
   ⟨st (ptp 6), 1, 7, by decide +kernel⟩,
   ⟨st (ptp 6), 1, by decide +kernel⟩,
   ⟨st (slave 9), 3000000000000, by decide +kernel⟩⟩

/-- The hypotheses of EthernetPorts are met together, clause by clause. -/
theorem test_hyps_EthernetPorts :
    (∃ (s : State) (dt : Nat), ∃ (f : UdpFrame) (k : Nat), s.dev.isHeld .eth = false ∧ isViewMsg f 2 22 = true ∧ f.dstIp.toNat =
    s.dev.portIp f.port ∧ s.dev.ethMbps f.port ≠ 0 ∧ (List.range 32).find? (fun k => !(s.dev.rdF a_ETH_VIEW_RSV f_ETH_VIEW_RSV_RSV).testBit
    k && (s.dev.viewAt k).isNone) = some k ∧ s.dev.aclOk f.srcIp = true ∧ s.dev.viewStatus (leAt f.payload 4 4) (leAt f.payload 8 4) (leAt
    f.payload 12 1) (leAt f.payload 13 1) (leAt f.payload 14 2) = 0) ∧
    (∃ (s : State) (dt : Nat), ∃ (f : UdpFrame) (k : Nat), s.dev.isHeld .eth = false ∧ isViewMsg f 2 22 = true ∧ f.dstIp.toNat =
    s.dev.portIp f.port ∧ s.dev.ethMbps f.port ≠ 0 ∧ (List.range 32).find? (fun k => !(s.dev.rdF a_ETH_VIEW_RSV f_ETH_VIEW_RSV_RSV).testBit
    k && (s.dev.viewAt k).isNone) = some k ∧ s.dev.aclOk f.srcIp = false) ∧
    (∃ (s : State) (dt : Nat), ∃ (f : UdpFrame) (v : View), s.dev.isHeld .eth = false ∧ f.dstIp.toNat = s.dev.portIp f.port ∧ s.dev.ethMbps
    f.port ≠ 0 ∧ s.dev.aclOk f.srcIp = true ∧ s.dev.viewAt (leAt f.payload 4 1) = some v ∧ v.dest = none ∧ isViewMsg f 3 5 = true) ∧
    (∃ (s : State) (dt : Nat), ∃ (f : UdpFrame) (v : View), s.dev.isHeld .eth = false ∧ f.dstIp.toNat = s.dev.portIp f.port ∧ s.dev.ethMbps
    f.port ≠ 0 ∧ s.dev.aclOk f.srcIp = true ∧ s.dev.viewAt (leAt f.payload 4 1) = some v ∧ v.dest = none ∧ isViewMsg f 4 5 = true) ∧
    (∃ (s : State) (dt : Nat), ∃ (k : Fin 32) (v : View), s.dev.isHeld .eth = false ∧ s.dev.viewAt k = some v ∧ v.dest = none ∧ v.lease +
    5000000000 ≤ (s.dev.elapse dt).el) ∧
    (∃ (s : State) (dt : Nat), ∃ (k : Fin 32) (v : View), ∃ n : Nat, s.dev.isHeld .eth = false ∧ s.dev.viewAt k = some v ∧ (s.dev.elapse
    dt).now.toNat / framePeriod v.rate ≠ v.last ∧ s.dev.cls.newest = some n ∧ v.busyUntil ≤ (s.dev.elapse dt).el ∧ s.dev.ethMbps
    (s.dev.viewPort v) ≠ 0 ∧ s.dev.mem.bad = [] ∧ s.dev.freeEngine ≠ none ∧ (s.dev.elapse dt).exhausted 5 (.hbm 0) = false ∧ (s.dev.elapse
    dt).exhausted 5 (.hbm 1) = false ∧ (s.dev.elapse dt).exhausted 5 .tha = false) ∧
    (∃ (s : State) (dt : Nat), ∃ (p : Fin 4) (target sender : W32) (mac : BitVec 48), s.dev.isHeld .eth = false ∧ s.dev.ethMbps p ≠ 0 ∧
    target.toNat = s.dev.portIp p) ∧
    (∃ (s : State) (dt : Nat), ∃ (p : Fin 4) (target sender : W32) (mac : BitVec 48), s.dev.isHeld .eth = false ∧ s.dev.ethMbps p ≠ 0 ∧
    target.toNat ≠ s.dev.portIp p) ∧
    (∃ (s : State) (dt : Nat), ∃ (p : Fin 4) (f : UdpFrame), s.dev.isHeld .eth = false ∧ s.dev.ethMbps p ≠ 0 ∧ f.dstIp.toNat = s.dev.portIp
    p) ∧
    (∃ (s : State) (dt : Nat), ∃ p : Fin 4, s.dev.isHeld .eth = false) :=
  ⟨⟨st (lan (wv up a_ETH_CFG (fset 0 f_ETH_CFG_PORT_MODE 1)) 51 (atStep 6)), 1,
    frame0 (viewHead 2 ++ leBytes 4 0 ++ leBytes 4 0 ++ [1, 60] ++ leBytes 2 16 ++ zeros 6), 0, by decide +kernel⟩,
   
    ⟨st (lan (wv (wv up a_ETH_VIEW_ACL (fset (fset 0 f_ETH_VIEW_ACL_PREFIX 32) f_ETH_VIEW_ACL_IPV4 2)) a_ETH_CFG (fset 0 f_ETH_CFG_PORT_MODE 1)) 51 (atStep 6)),
    1, frame0 (viewHead 2 ++ leBytes 4 0 ++ leBytes 4 0 ++ [1, 60] ++ leBytes 2 16 ++ zeros 6), 0, by decide +kernel⟩,
   ⟨st (lan (wv viewing a_ETH_CFG (fset 0 f_ETH_CFG_PORT_MODE 1)) 51 (atStep 6)), 1, frame0 (viewHead 3 ++ [31]), view0, by decide +kernel⟩,
   ⟨st (lan (wv viewing a_ETH_CFG (fset 0 f_ETH_CFG_PORT_MODE 1)) 51 (atStep 6)), 1, frame0 (viewHead 4 ++ [31]), view0, by decide +kernel⟩,
   ⟨st viewing, 5000000000, 31, view0, by decide +kernel⟩,
   ⟨st { lan (wv viewing a_ETH_CFG (fset 0 f_ETH_CFG_PORT_MODE 1)) 48 (atStep 6) with cls := { up.cls with newest := some 100 } },
    1000000000, 31, view0, 100, by decide +kernel⟩,
   ⟨st (lan (wv (wv up (a_ETH_PORT_IP 3) (fset 0 f_ETH_PORT_IP_IPV4 7)) a_ETH_CFG (fset 0 f_ETH_CFG_PORT_MODE 1)) 51 (atStep 6)), 1, 3, 7,
    8, 9, by decide +kernel⟩,
   ⟨st (lan (wv (wv up (a_ETH_PORT_IP 3) (fset 0 f_ETH_PORT_IP_IPV4 7)) a_ETH_CFG (fset 0 f_ETH_CFG_PORT_MODE 1)) 51 (atStep 6)), 1, 3, 6,
    8, 9, by decide +kernel⟩,
   ⟨st (lan (wv up a_ETH_CFG (fset 0 f_ETH_CFG_PORT_MODE 1)) 51 (atStep 6)), 1, 3, frame0 [], by decide +kernel⟩,
   ⟨st up, 1, 3, by decide +kernel⟩⟩

/-- The hypotheses of ThatchJobs are met together, clause by clause. -/
theorem test_hyps_ThatchJobs :
    (∃ (s : State) (dt : Nat) (e : Fin 16), let el := (s.dev.elapse dt).el; ∃ (j : ThaJob) (first : List Byte), s.dev.tha.engines.length =
    16 ∧ (s.dev.engine e).job = none ∧ (s.dev.engine e).own = none ∧ s.dev.reachable .tha = true ∧ (j.compress = false ∨ j.bounded = false ∨
    1024 ≤ j.outLimit) ∧ first = (if j.compress then streamHeader j.level j.kind j.input.length ++ (if j.input = [] then (StreamSt.start
    j.level).endBlock else []) else (thatchDecode (if s.dev.rdF a_THA_CFG f_THA_CFG_RATIO = 0 then 64 else min (s.dev.rdF a_THA_CFG
    f_THA_CFG_RATIO) 4096) j.outMax j.input).out)) ∧
    (∃ (s : State) (dt : Nat) (e : Fin 16), let el := (s.dev.elapse dt).el; ∃ (j : ThaJob) (room : Nat) (x : EngSt),
    s.dev.tha.engines.length = 16 ∧ s.dev.engine e = x ∧ x.job = some j ∧ x.busy = false ∧ x.save = none ∧ x.todo ≠ [] ∧ x.room = x.wrote ∧
    (x.ends = true ∨ (j.input ≠ [] ∧ x.got < 100 * x.need j))) ∧
    (∃ (s : State) (dt : Nat) (e : Fin 16), let el := (s.dev.elapse dt).el; ∃ (j : ThaJob) (pos addr : Nat) (d0 : Dev) (x y : EngSt),
    s.dev.tha.engines.length = 16 ∧ d0 = (s.dev.elapse dt).engRun e ∧ x = d0.engine e ∧ x.job = some j ∧ j.compress = true ∧ x.busy = false
    ∧ x.ends = false ∧ x.save = none ∧ x.todo = [] ∧ y = (if min (max (x.got / 100) pos) (x.need j) = 0 then x else x.codeBlock j (min (max
    (x.got / 100) pos) (x.need j))) ∧ x.wrote + y.todo.length ≤ x.room ∧ j.dst + x.wrote + y.todo.length ≤ hbmBytes ∧ addr + 256 + 2 ^
    levelWindow j.level ≤ hbmBytes ∧ ((d0.mem.closed || d0.mem.retire.isSome) && hitsRefuge d0.mapOrder addr (256 + 2 ^ levelWindow
    j.level)) = false) ∧
    (∃ (s : State) (dt : Nat) (e : Fin 16), let el := (s.dev.elapse dt).el; ∃ j : ThaJob, s.dev.tha.engines.length = 16 ∧ (s.dev.engine
    e).job = some j ∧ (s.dev.engine e).busy = true ∧ (s.dev.engine e).leaving = true ∧ (s.dev.elapse dt).exhausted j.client (.hbm 0) = false
    ∧ (s.dev.elapse dt).exhausted j.client (.hbm 1) = false) ∧
    (∃ (s : State) (dt : Nat) (e : Fin 16), let el := (s.dev.elapse dt).el; ∃ (addr : Nat) (p : Nat × EngSt) (j : ThaJob),
    s.dev.tha.engines.length = 16 ∧ s.dev.tha.saved.find? (fun p => p.1 = addr) = some p ∧ p.2.job = some j ∧ (s.dev.engine e).job = none ∧
    (s.dev.engine e).own = none ∧ s.dev.reachable .tha = true ∧ s.dev.mem.bad = []) ∧
    (∃ (s : State) (dt : Nat) (e : Fin 16), let el := (s.dev.elapse dt).el; ∃ (j : ThaJob) (d0 : Dev) (x y : EngSt) (left : Nat) (w : List
    Byte) (r : DecResult), let taken := if j.compress then y.coded else r.consumed; s.dev.tha.engines.length = 16 ∧ d0 = (s.dev.elapse
    dt).engRun e ∧ x = d0.engine e ∧ x.job = some j ∧ x.busy = false ∧ d0.exhausted j.client .tha = false ∧ x.work (jobSteps j) (100 *
    j.input.length) [] = (y, left, w) ∧ y.todo = [] ∧ y.ends = true ∧ r = thatchDecode x.ratio j.outMax j.input ∧ (j.compress = true ∨
    r.status = 0)) ∧
    (∃ (s : State) (dt : Nat) (e : Fin 16), let el := (s.dev.elapse dt).el; ∃ (j : ThaJob) (d0 : Dev) (x y : EngSt) (left : Nat) (w : List
    Byte) (r : DecResult), let taken := if j.compress then y.coded else r.consumed; s.dev.tha.engines.length = 16 ∧ d0 = (s.dev.elapse
    dt).engRun e ∧ x = d0.engine e ∧ x.job = some j ∧ x.busy = false ∧ d0.exhausted j.client .tha = false ∧ x.work (jobSteps j) (100 *
    j.input.length) [] = (y, left, w) ∧ y.todo = [] ∧ y.ends = true ∧ r = thatchDecode x.ratio j.outMax j.input ∧ j.compress = false ∧
    r.status ≠ 0 ∧ s.dev.plainErr 0x1F = true) :=
  ⟨⟨st up, 1, 15, job0 true, streamHeader 0 0 1, by decide +kernel⟩,
   ⟨st (working { EngSt.reset with job := some (job0 true), todo := [1, 2, 3] }), 1, 15, job0 true, 2,
    { EngSt.reset with job := some (job0 true), todo := [1, 2, 3] }, by decide +kernel⟩,
   ⟨st (working coding), 0, 15, { job0 true with input := [9, 8] }, 0, 0, worked coding, (worked coding).engine 15,
    ((worked coding).engine 15).codeBlock { job0 true with input := [9, 8] } 1,
    by refine ⟨?_, (rfl), (rfl), ?_, ?_, ?_, ?_, ?_, ?_, (rfl), ?_⟩ <;> decide +kernel⟩,
   ⟨st (working { EngSt.reset with job := some (job0 true), busy := true, leaving := true }), 1, 15, job0 true, by decide +kernel⟩,
   ⟨st { fed up 17 with tha := { up.tha with saved := [(0, coding)] } }, 1, 15, 0, (0, coding), { job0 true with input := [9, 8] },
    by decide +kernel⟩,
   ⟨st (working coding), 0, 15, { job0 true with input := [9, 8] }, worked coding, (worked coding).engine 15,
    (((worked coding).engine 15).work (jobSteps ({ job0 true with input := [9, 8] })) (100 * 2) []).1,
    (((worked coding).engine 15).work (jobSteps ({ job0 true with input := [9, 8] })) (100 * 2) []).2.1,
    (((worked coding).engine 15).work (jobSteps ({ job0 true with input := [9, 8] })) (100 * 2) []).2.2, thatchDecode 64 1 [9, 8],
    by refine ⟨?_, (rfl), (rfl), ?_, ?_, ?_, (rfl), ?_⟩ <;> decide +kernel⟩,
   ⟨st (working decoding), 0, 15, job0 false, worked decoding, (worked decoding).engine 15,
    (((worked decoding).engine 15).work (jobSteps (job0 false)) (100 * 1) []).1,
    (((worked decoding).engine 15).work (jobSteps (job0 false)) (100 * 1) []).2.1,
    (((worked decoding).engine 15).work (jobSteps (job0 false)) (100 * 1) []).2.2, thatchDecode 64 1 [9],
    by refine ⟨?_, (rfl), (rfl), ?_, ?_, ?_, (rfl), ?_⟩ <;> decide +kernel⟩⟩

/-- The hypotheses of MemoryUpkeep are met together, clause by clause. -/
theorem test_hyps_MemoryUpkeep :
    (∃ (s : State) (dt : Nat) (st : Fin 2) (pc : Fin 32), let x := s.dev.stack st; let p := s.dev.pc st pc; ∃ b : Fin 48,
    let k := s.dev.bank st pc b; (p.mode = .active ∨ p.mode = .powerDown ∨ p.mode = .draining)) ∧
    (∃ (s : State) (dt : Nat) (st : Fin 2) (pc : Fin 32), let x := s.dev.stack st; let p := s.dev.pc st pc; ∃ b : Fin 48,
    let k := s.dev.bank st pc b; x.raaimt ≠ 0 ∧ x.raaimt ≤ k.raa) ∧
    (∃ (s : State) (dt : Nat) (st : Fin 2) (pc : Fin 32), let x := s.dev.stack st; let p := s.dev.pc st pc; ∃ b : Fin 48,
    let k := s.dev.bank st pc b; k.row ≠ none ∧ k.at_ + s.dev.memNs st (s.dev.rdF (a_HBM_PAGE_PWR st) f_HBM_PAGE_PWR_PAGE_IDLE) ≤
    (s.dev.elapse dt).el) ∧
    (∃ (s : State) (dt : Nat) (st : Fin 2) (pc : Fin 32), let x := s.dev.stack st; let p := s.dev.pc st pc; p.mode = .active ∧ p.at_ +
    s.dev.memNs st (max 1 (s.dev.rdF (a_HBM_PAGE_PWR st) f_HBM_PAGE_PWR_PD_IDLE)) ≤ (s.dev.elapse dt).el) ∧
    (∃ (s : State) (dt : Nat) (st : Fin 2) (pc : Fin 32), let x := s.dev.stack st; let p := s.dev.pc st pc; (p.mode = .active ∨ p.mode =
    .powerDown) ∧ s.dev.rdF (a_HBM_PAGE_PWR st) f_HBM_PAGE_PWR_SR_IDLE ≠ 0 ∧ p.at_ + s.dev.rdF (a_HBM_PAGE_PWR st) f_HBM_PAGE_PWR_SR_IDLE *
    1000 ≤ (s.dev.elapse dt).el) ∧
    (∃ (s : State) (dt : Nat) (st : Fin 2) (pc : Fin 32), let x := s.dev.stack st; let p := s.dev.pc st pc; p.mode = .draining) ∧
    (∃ (s : State) (dt : Nat) (st : Fin 2) (pc : Fin 32), let x := s.dev.stack st; let p := s.dev.pc st pc; p.mode = .selfRefresh ∧ p.wants
    = true ∧ x.retained = false ∧ p.since + 900 ≤ (s.dev.elapse dt).el) ∧
    (∃ (s : State) (dt : Nat) (st : Fin 2) (pc : Fin 32), let x := s.dev.stack st; let p := s.dev.pc st pc; p.mode = .zeroing) ∧
    (∃ (s : State) (dt : Nat) (st : Fin 2) (pc : Fin 32), let x := s.dev.stack st; let p := s.dev.pc st pc; s.dev.mem.setp = none ∧ x.stepP
    = none ∧ p.mode ≠ .off ∧ (s.dev.retired st).testBit pc = false ∧ p.track + 100000000 ≤ (s.dev.elapse dt).el) ∧
    (∃ (s : State) (dt : Nat) (st : Fin 2) (pc : Fin 32), let x := s.dev.stack st; let p := s.dev.pc st pc; s.dev.mem.setp = none ∧ x.stepP
    = some pc.val) ∧
    (∃ (s : State) (dt : Nat) (st : Fin 2), let x := s.dev.stack st; ∃ temp : Byte, s.dev.plainErr 0x45 = true) ∧
    (∃ (s : State) (dt : Nat) (st : Fin 2), let x := s.dev.stack st; ∃ kind : Fin 4, s.dev.rdB (a_HBM_SCRUB_CFG st) f_HBM_SCRUB_CFG_EN =
    true ∧ s.dev.scrubPc st (x.scrub % 32) = some (x.scrub % 32) ∧ x.scrub < 32 * (pcBytes / 256) ∧ s.dev.plainErr 0x08 = true ∧
    s.dev.plainErr 0x09 = true ∧ s.dev.plainErr 0x0A = true) ∧
    (∃ (s : State) (dt : Nat), ∃ (id mask sp : Nat), s.dev.mem.setp = some (id, mask, sp, true)) ∧
    (∃ (s : State) (dt : Nat), ∃ r : Retire, s.dev.mem.retire = some r ∧ r.started = true ∧ r.stack < 2) :=
  ⟨⟨st (pcOf .reset .reset .reset), 1, 1, 31, 47, by decide +kernel⟩,
   ⟨st (pcOf .reset { BankSt.reset with raa := 5 } { StackSt.reset with raaimt := 5 }), 1, 1, 31, 47, by decide +kernel⟩,
   ⟨st (pcOf .reset { BankSt.reset with row := some 7 } .reset), 1000000, 1, 31, 47, by decide +kernel⟩,
   ⟨st (pcOf .reset .reset .reset), 1000000, 1, 31, by decide +kernel⟩,
   ⟨st (wv (pcOf .reset .reset .reset) (a_HBM_PAGE_PWR 1) (fset 0 f_HBM_PAGE_PWR_SR_IDLE 1)), 1000, 1, 31, by decide +kernel⟩,
   ⟨st (pcOf { PcSt.reset with mode := .draining } .reset .reset), 1, 1, 31, by decide +kernel⟩,
   ⟨st (pcOf { PcSt.reset with mode := .selfRefresh, wants := true } .reset .reset), 900, 1, 31, by decide +kernel⟩,
   ⟨st (pcOf { PcSt.reset with mode := .zeroing } .reset .reset), 1, 1, 31, by decide +kernel⟩,
   ⟨st (pcOf .reset .reset .reset), 100000000, 1, 31, by decide +kernel⟩,
   ⟨st (pcOf .reset .reset { StackSt.reset with stepP := some 31 }), 1, 1, 31, by decide +kernel⟩,
   ⟨st up, 1, 1, 95, by decide +kernel⟩,
   
    ⟨st (wv (pcOf .reset .reset { StackSt.reset with scrub := 32 * (pcBytes / 256) - 1 }) (a_HBM_SCRUB_CFG 1) (fset 0 f_HBM_SCRUB_CFG_EN 1)),
    1, 1, 3, by decide +kernel⟩,
   ⟨st { up with mem := { up.mem with setp := some (7, 3, 1, true) } }, 1, 7, 3, 1, by decide +kernel⟩,
   ⟨st { up with mem := { up.mem with retire := some ⟨some 7, 1, 31, true⟩ } }, 1, ⟨some 7, 1, 31, true⟩, by decide +kernel⟩⟩

/-- The hypotheses of PairLink are met together, clause by clause. -/
theorem test_hyps_PairLink :
    (∃ (s : State) (dt : Nat), let el := (s.dev.elapse dt).el; s.dev.pairOn = true ∧ s.dev.ridgeLanes false ≠ 0 ∧ s.dev.pair.got = false ∧
    s.dev.ridgeUp = false ∧ s.dev.pair.step ≠ 3 ∧ (s.dev.pair.sent = false ∨ s.dev.pair.sentAt + 1000000 ≤ el)) ∧
    (∃ (s : State) (dt : Nat), let el := (s.dev.elapse dt).el; ∃ pkt : List Byte, s.dev.pairOn = true ∧ ridgeOk 0x80 pkt = true ∧
    s.dev.pair.early = [] ∧ (s.dev.ridgeUp = true → ridgeSeq pkt = s.dev.pair.rxCtl)) ∧
    (∃ (s : State) (dt : Nat), let el := (s.dev.elapse dt).el; ∃ l : Fin 40, s.dev.pairOn = true ∧ (l.val = 32 ∨ l.val = 36) ∧
    s.dev.laneActive l = true) ∧
    (∃ (s : State) (dt : Nat), let el := (s.dev.elapse dt).el; ∃ (l : Fin 40) (pkt : List Byte), s.dev.awaits 0x81 pkt = true) ∧
    (∃ (s : State) (dt : Nat), let el := (s.dev.elapse dt).el; ∃ (pkt : List Byte) (n : Nat), s.dev.awaits 0x82 pkt = true ∧ s.dev.isPartner
    = true ∧ s.dev.split = false ∧ s.dev.acquiring = true ∧ s.dev.pair.adopt = false ∧ s.dev.mode.pend = none ∧ s.dev.pair.points = [] ∧
    leAt (pktPayload pkt) 0 8 = n ∧ n ≠ s.dev.wpu.ctx.first ∧ (s.dev.rd a_WPU_LINE_CNT).toNat = n ∧ n + 1 < s.dev.nextFirst ∧ n + 16 ≠
    s.dev.nextFirst ∧ s.dev.plainErr 0x1C = true) ∧
    (∃ (s : State) (dt : Nat), let el := (s.dev.elapse dt).el; ∃ (pkt : List Byte) (a n : Nat) (p : Part), s.dev.awaits 0x84 pkt = true ∧
    s.dev.isPartner = true ∧ (pktPayload pkt).length = 16 ∧ leAt (pktPayload pkt) 0 4 = a ∧ leAt (pktPayload pkt) 4 1 = n ∧ sizeOk a n =
    true ∧ inAon a = false ∧ accessParts a n = some [p] ∧ p.unit = .bal ∧ s.dev.reachable .bal = true ∧ s.dev.isLocked .bal = false ∧
    s.dev.plainErr 0x0D = true) ∧
    (∃ (s : State) (dt : Nat), let el := (s.dev.elapse dt).el; ∃ (pkt : List Byte) (f8 : Fin 8),
    let t := leBytes 8 ((s.dev.elapse dt).now.toNat * 8 + f8); s.dev.awaits 0x83 pkt = true ∧ leAt (pktPayload pkt) 8 8 = 0 ∧
    s.dev.authority = true ∧ s.dev.ridgeLanes false ≠ 0) ∧
    (∃ (s : State) (dt : Nat), let el := (s.dev.elapse dt).el; ∃ (pkt : List Byte) (t : W64), s.dev.awaits 0x87 pkt = true ∧ s.dev.authority
    = false ∧ s.dev.pair.step = 4 ∧ t.toNat = leAt (pktPayload pkt) 0 8 ∧ s.dev.pair.tL ≠ some t) ∧
    (∃ (s : State) (dt : Nat), let el := (s.dev.elapse dt).el; ∃ t : W64, s.dev.pairOn = true ∧ s.dev.pair.tL = some t ∧ s.dev.pair.mine =
    none ∧ t.toNat ≤ (s.dev.elapse dt).now.toNat ∧ s.dev.authority = false ∧ s.dev.pair.theirs = none) ∧
    (∃ (s : State) (dt : Nat), let el := (s.dev.elapse dt).el; ∃ t : W64, s.dev.pairOn = true ∧ s.dev.pair.tL = some t ∧ s.dev.pair.mine =
    none ∧ t.toNat ≤ (s.dev.elapse dt).now.toNat ∧ s.dev.authority = true ∧ s.dev.pair.rejoin = none ∧ s.dev.plainErr 0x28 = true) ∧
    (∃ (s : State) (dt : Nat), let el := (s.dev.elapse dt).el; ∃ pkt : List Byte, s.dev.awaits 0x92 pkt = true ∧ s.dev.mayJoin = true ∧ leAt
    (pktPayload pkt) 0 1 = 8 ∧ leAt (pktPayload pkt) 8 1 = 0) ∧
    (∃ (s : State) (dt : Nat), let el := (s.dev.elapse dt).el; ∃ pkt : List Byte, s.dev.awaits 0x92 pkt = true ∧ s.dev.mayJoin = true ∧ leAt
    (pktPayload pkt) 0 1 = 2 ∧ s.dev.pair.step = 2) :=
  ⟨⟨st (pr []), 1000000, by decide +kernel⟩,
   ⟨st (pr []), 1, rp 0x80 (zeros 64), by decide +kernel⟩,
   ⟨st (lan (pr []) 36 (atStep 6)), 1, 36, by decide +kernel⟩,
   ⟨st (pr [f_RDG_STAT_RIDGE_UP]), 1, 39, rp 0x81 [], by decide +kernel⟩,
   ⟨st { (wv partner0 a_WPU_LINE_CNT 1022) with mode := insp.mode }, 1, rp 0x82 (leBytes 8 1022 ++ zeros 56), 1022, by decide +kernel⟩,
   ⟨st partner0, 1, rp 0x84 (leBytes 4 (a_BAL_PROFILE 5 23) ++ [8, 0, 0, 0, 1, 2, 3, 4, 5, 6, 7, 8]), a_BAL_PROFILE 5 23, 8,
    part (a_BAL_PROFILE 5 23) 8, by decide +kernel⟩,
   ⟨st auth0, 1, rp 0x83 (zeros 32), 7, by decide +kernel⟩,
   ⟨st { pr [f_RDG_STAT_RIDGE_UP] with pair := { up.pair with step := 4 } }, 1, rp 0x87 (leBytes 8 5 ++ zeros 24), 5, by decide +kernel⟩,
   ⟨st { pr [f_RDG_STAT_RIDGE_UP] with pair := { up.pair with tL := some 5 } }, 5, 5, by decide +kernel⟩,
   ⟨st { pr [f_RDG_STAT_RIDGE_UP, f_RDG_STAT_AUTHORITY] with pair := { up.pair with tL := some 5 } }, 5, 5, by decide +kernel⟩,
   ⟨st (pr [f_RDG_STAT_RIDGE_UP]), 1, rp 0x92 (8 :: zeros 15), by decide +kernel⟩,
   ⟨st { pr [f_RDG_STAT_RIDGE_UP] with pair := { up.pair with step := 2 } }, 1,
    rp 0x92 ([2, 0, 0, 0, 0, 0, 0, 0] ++ leBytes 8 (tabAddr 0x20 0 1 0) ++ [7]), by decide +kernel⟩⟩

/-- The hypotheses of PairPackets are met together, clause by clause. -/
theorem test_hyps_PairPackets :
    (∃ (s : State) (dt : Nat) (pkt : List Byte), let b := pktPayload pkt; let el := (s.dev.elapse dt).el; s.dev.awaits 0x85 pkt = true ∧
    s.dev.established = true ∧ (∀ x ∈ slice b 12 20, x = 0) ∧ s.dev.pair.box.length < 64 ∧ (s.dev.ring 15).en = true) ∧
    (∃ (s : State) (dt : Nat) (pkt : List Byte), let b := pktPayload pkt; let el := (s.dev.elapse dt).el; ∃ f : Fwd, s.dev.awaits 0x85 pkt =
    true ∧ s.dev.established = true ∧ (∃ x ∈ slice b 12 20, x ≠ 0) ∧ leAt b 23 1 = 0 ∧ s.dev.keel.fwd.find? (fun f => f.id = leAt b 16 4) =
    some f ∧ f.mine = none ∧ leAt b 20 2 = 0) ∧
    (∃ (s : State) (dt : Nat) (pkt : List Byte), let b := pktPayload pkt; let el := (s.dev.elapse dt).el; s.dev.awaits 0x90 pkt = true ∧
    s.dev.established = true ∧ s.dev.authority = true) ∧
    (∃ (s : State) (dt : Nat) (pkt : List Byte), let b := pktPayload pkt; let el := (s.dev.elapse dt).el; ∃ (p : Fin 16) (i : Nat) (x :
    Slot), s.dev.awaits 0x91 pkt = true ∧ s.dev.established = true ∧ leAt b 0 4 = p.val ∧ (s.dev.port p).slots.findIdx? (fun s =>
    s.desc.line % 2 ^ 32 = leAt (slice b 4 16) 4 4) = some i ∧ (s.dev.port p).slots[i]? = some x ∧ x.segs ≠ [] ∧ s.dev.vcUse x.desc.ctx p
    (pktVc (slice b 4 16)) = .pixel ∧ leAt (slice b 4 16) 14 1 = s.dev.cF x.desc.ctx (a_TPT_CFG p) f_TPT_CFG_PIX_DT ∧ leAt (slice b 4 16) 8
    4 + (b.drop 32).length ≤ s.dev.lineBytes x.desc.ctx p ∧ covered x.segs (leAt (slice b 4 16) 8 4) (b.drop 32).length = false) ∧
    (∃ (s : State) (dt : Nat) (pkt : List Byte), let b := pktPayload pkt; let el := (s.dev.elapse dt).el; s.dev.awaits 0x86 pkt = true ∧
    leAt b 0 1 = 1 ∧ s.dev.isPartner = true ∧ s.dev.split = false ∧ s.dev.ridgeLanes false ≠ 0) ∧
    (∃ (s : State) (dt : Nat) (pkt : List Byte), let b := pktPayload pkt; let el := (s.dev.elapse dt).el; ∃ id : Nat, s.dev.awaits 0x86 pkt
    = true ∧ leAt b 0 1 = 2 ∧ s.dev.authority = true ∧ s.dev.pair.hand = some (id, true, none)) ∧
    (∃ (s : State) (dt : Nat) (pkt : List Byte), let b := pktPayload pkt; let el := (s.dev.elapse dt).el; ∃ id : Nat, s.dev.awaits 0x86 pkt
    = true ∧ leAt b 0 1 = 2 ∧ s.dev.authority = true ∧ s.dev.pair.hand = some (id, false, none)) ∧
    (∃ (s : State) (dt : Nat) (pkt : List Byte), let b := pktPayload pkt; let el := (s.dev.elapse dt).el; s.dev.awaits 0x86 pkt = true ∧
    leAt b 0 1 = 3 ∧ s.dev.isPartner = true ∧ s.dev.plainErr 0x2B = true) ∧
    (∃ (s : State) (dt : Nat) (pkt : List Byte), let b := pktPayload pkt; let el := (s.dev.elapse dt).el; s.dev.awaits 0x86 pkt = true ∧
    leAt b 0 1 = 4 ∧ s.dev.isPartner = true ∧ s.dev.mode.starting = false) :=
  ⟨⟨st { partner0 with host := { up.host with rings := [(15, { ring 2 0 with loc := true })], runs := [(15, run0)] } }, 1,
    rp 0x85 ([1, 0, 32, 0, 9, 0, 0, 0, 1, 0, 0, 0] ++ zeros 20), by decide +kernel⟩,
   ⟨st { auth0 with keel := { up.keel with fwd := [⟨5, .rollNext, hdr 0, none, none⟩] } }, 1,
    rp 0x85 (zeros 16 ++ [5, 0, 0, 0] ++ zeros 12), ⟨5, .rollNext, hdr 0, none, none⟩, by decide +kernel⟩,
   ⟨st auth0, 1, rp 0x90 (zeros 128), by decide +kernel⟩,
   ⟨st { partner0 with ports := List.replicate 15 .reset ++ [{ PortSt.reset with slots := [{ slot0 with desc := lineOf pix0 }] }] }, 1,
    rp 0x91 ([15, 0, 0, 0, 0x10, 0, 1, 0, 8, 0, 0, 0, 1, 0, 0, 0, 0, 0, 0, 0] ++ zeros 12 ++ [9]), 15, 0,
    { slot0 with desc := lineOf pix0 }, by decide +kernel⟩,
   ⟨st partner0, 1, rp 0x86 (1 :: zeros 15), by decide +kernel⟩,
   ⟨st { auth0 with pair := { up.pair with hand := some (7, true, none) } }, 1, rp 0x86 (2 :: zeros 15), 7, by decide +kernel⟩,
   ⟨st { auth0 with pair := { up.pair with hand := some (7, false, none) } }, 1, rp 0x86 (2 :: zeros 15), 7, by decide +kernel⟩,
   ⟨st partner0, 1, rp 0x86 (3 :: zeros 15), by decide +kernel⟩,
   ⟨st partner0, 1, rp 0x86 (4 :: 2 :: zeros 14), by decide +kernel⟩⟩

/-- The hypotheses of PairEvents are met together, clause by clause. -/
theorem test_hyps_PairEvents :
    (∃ (s : State) (dt : Nat), let el := (s.dev.elapse dt).el; ∃ (bulk : Bool) (seq : W32) (t : Nat) (pkt : List Byte), s.dev.pairOn = true
    ∧ s.dev.pair.early = [(bulk, seq, t, pkt)] ∧ pktType pkt = 0x81 ∧ t + 50000 ≤ el ∧ s.dev.plainErr 0x27 = true) ∧
    (∃ (s : State) (dt : Nat), let el := (s.dev.elapse dt).el; s.dev.pairOn = true ∧ s.dev.ridgeUp = true ∧ s.dev.pair.heard + 10000 ≤ el ∧
    s.dev.established = false) ∧
    (∃ (s : State) (dt : Nat), let el := (s.dev.elapse dt).el; s.dev.pairOn = true ∧ s.dev.ridgeUp = true ∧ s.dev.pair.heard + 10000 ≤ el ∧
    s.dev.isPartner = true ∧ s.dev.pair.points = []) ∧
    (∃ (s : State) (dt : Nat), let el := (s.dev.elapse dt).el; ∃ t : Nat, s.dev.pair.lostAt = some t ∧ s.dev.pairOn = true ∧ t + 110000 ≤ el
    ∧ s.dev.established = true ∧ s.dev.ridgeUp = false ∧ s.dev.authority = false ∧ s.dev.split = false ∧ s.dev.plainErr 0x29 = true ∧
    s.dev.plainErr 0x2B = true) ∧
    (∃ (s : State) (dt : Nat), let el := (s.dev.elapse dt).el; s.dev.inB a_RDG_CFG f_RDG_CFG_EN = true ∧ s.dev.rdB a_TIME_STAT
    f_TIME_STAT_SET = true ∧ (∀ t, s.dev.pair.drove = some t → t + 1000 ≤ el) ∧ ((s.dev.elapse dt).now.toNat + 20000 - (if s.dev.rst.primary
    then 0 else 10000)) % 20000 < 2) ∧
    (∃ (s : State) (dt : Nat), let el := (s.dev.elapse dt).el; s.dev.inB a_RDG_CFG f_RDG_CFG_EN = true ∧ (∀ t, s.dev.pair.drove = some t → t
    + 1500 ≤ el)) ∧
    (∃ (s : State) (dt : Nat), let el := (s.dev.elapse dt).el; s.dev.inB a_RDG_CFG f_RDG_CFG_EN = true ∧ s.dev.established = true ∧
    s.dev.plainErr 0x2B = true) ∧
    (∃ (s : State) (dt : Nat), let el := (s.dev.elapse dt).el; s.dev.rdg f_RDG_STAT_FENCE_OK = true ∧ (∀ t, s.dev.pair.pulse = some t → t +
    100000 ≤ el) ∧ s.dev.established = false) ∧
    (∃ (s : State) (dt : Nat), let el := (s.dev.elapse dt).el; s.dev.rdg f_RDG_STAT_FENCE_OK = true ∧ (∀ t, s.dev.pair.pulse = some t → t +
    100000 ≤ el) ∧ s.dev.established = true ∧ s.dev.ridgeUp = true ∧ s.dev.plainErr 0x2C = true) ∧
    (∃ (s : State) (dt : Nat), let el := (s.dev.elapse dt).el; ∃ h : Nat, s.dev.pair.moved = some (h, true, false) ∧ h + 1200000 ≤ el) ∧
    (∃ (s : State) (dt : Nat), let el := (s.dev.elapse dt).el; let late (t : Nat) : Bool := decide (t ≠ 0 ∧ t + 5000 < el); s.dev.isPartner
    = true ∧ s.dev.ridgeUp = true) ∧
    (∃ (s : State) (dt : Nat), let el := (s.dev.elapse dt).el; ∃ id t : Nat, t + 60000000000 ≤ el ∧ s.dev.pair.rejoin = some (id, t) ∧
    s.dev.pair.step < 4) ∧
    (∃ (s : State) (dt : Nat), let el := (s.dev.elapse dt).el; ∃ id t : Nat, t + 60000000000 ≤ el ∧ s.dev.pair.rejoin = none ∧
    s.dev.pair.joinAt = some t ∧ s.dev.rdB a_TIME_STAT f_TIME_STAT_LOCKED = false) :=
  ⟨⟨st { pr [] with pair := { up.pair with early := [(true, 9, 0, rp 0x81 [])] } }, 50000, true, 9, 0, rp 0x81 [], by decide +kernel⟩,
   ⟨st (pr [f_RDG_STAT_RIDGE_UP]), 10000, by decide +kernel⟩,
   ⟨st partner0, 10000, by decide +kernel⟩,
   ⟨st { pr [f_RDG_STAT_ESTABLISHED] with pair := { up.pair with lostAt := some 0 } }, 110000, 0, by decide +kernel⟩,
   
    ⟨st { wv (pr []) a_TIME_STAT (fset 0 f_TIME_STAT_SET 1) with rst := { up.rst with primary := true }, pair := { up.pair with drove := some 0 } },
    20001, by refine ⟨?_, ?_, ((by intro t h; cases (show some 0 = some t from h); decide +kernel)), ?_⟩ <;> decide +kernel⟩,
   ⟨st { pr [] with pair := { up.pair with drove := some 0 } }, 1500, by decide +kernel,
    (by intro t h; cases (show some 0 = some t from h); decide +kernel)⟩,
   ⟨st partner0, 1, by decide +kernel⟩,
   ⟨st { pr [f_RDG_STAT_FENCE_OK] with pair := { up.pair with pulse := some 0 } }, 100000, by decide +kernel,
    (by intro t h; cases (show some 0 = some t from h); decide +kernel), by decide +kernel⟩,
   ⟨st { pr [f_RDG_STAT_FENCE_OK, f_RDG_STAT_ESTABLISHED, f_RDG_STAT_RIDGE_UP] with pair := { up.pair with pulse := some 0 } }, 100000,
    by decide +kernel, (by intro t h; cases (show some 0 = some t from h); decide +kernel), by decide +kernel⟩,
   ⟨st { pr [] with pair := { up.pair with moved := some (0, true, false) } }, 1200000, 0, by decide +kernel⟩,
   ⟨st { partner0 with pair := { up.pair with points := [(line0, 1)], descs := [(7, 2)] } }, 5002, by decide +kernel⟩,
   ⟨st { pr [] with pair := { up.pair with rejoin := some (7, 0) } }, 60000000000, 7, 0, by decide +kernel⟩,
   ⟨st { pr [] with pair := { up.pair with joinAt := some 0 } }, 60000000000, 7, 0, by decide +kernel⟩⟩

/-- The hypotheses of ServiceSteps are met together, clause by clause. -/
theorem test_hyps_ServiceSteps :
    (∃ (s : State) (dt : Nat), let el := (s.dev.elapse dt).el; ∃ f : FlashRead, s.dev.rst.optRun = true ∧ s.dev.resetWaits = false) ∧
    (∃ (s : State) (dt : Nat), let el := (s.dev.elapse dt).el; ∃ (st : Fin 2) (r : TrainResult), s.dev.mode.starting = true ∧ s.dev.rdB
    a_CFG_OPT_STAT f_CFG_OPT_STAT_DONE = true ∧ lget s.dev.rst.hbmDone st false = false ∧ r.failed = 0 ∧ r.temp.toNat < 95) ∧
    (∃ (s : State) (dt : Nat), let el := (s.dev.elapse dt).el; ∃ p : PendCmd, let k := s.dev.keel; s.dev.swapCmd = some p ∧ k.paused = false
    ∧ (∀ q ∈ k.pending, q.id = p.id) ∧ k.fwd = [] ∧ el < p.at_ + p.h.timeoutNs ∧ (k.recovery = true ∨ (k.idle.hoMin ≤ k.now.hoFmt ∧
    k.now.hoFmt ≤ k.idle.hoMax))) ∧
    (∃ (s : State) (dt : Nat), let el := (s.dev.elapse dt).el; ∃ p : PendCmd, let k := s.dev.keel; ∃ t : Nat, s.dev.swapCmd = some p ∧
    k.pauseAt = some t ∧ t + 1500000 ≤ el) ∧
    (∃ (s : State) (dt : Nat), let el := (s.dev.elapse dt).el; ∃ t : TakeSt, s.dev.spare.take = some t ∧ t.copied = false ∧ t.spare < 17 ∧
    t.target < 17) ∧
    (∃ (s : State) (dt : Nat), let el := (s.dev.elapse dt).el; ∃ x : CalRun, ∃ coefs : List W32, s.dev.cal.run = some x ∧ x.pend = none ∧
    (calKind x.item).1 ≤ 1 ∧ coefs.length = calFactoryCoefs x.item) ∧
    (∃ (s : State) (dt : Nat), let el := (s.dev.elapse dt).el; ∃ x : CalRun, ∃ (cs : List W32) (t : W64) (n : Nat), s.dev.cal.run = some x ∧
    x.pend = some (cs, t, n) ∧ x.item = 1 ∧ nextHalfSecond t.toNat ≤ (s.dev.elapse dt).now.toNat) ∧
    (∃ (s : State) (dt : Nat), let el := (s.dev.elapse dt).el; ∃ (src : List Byte) (p : PendCmd), s.dev.pendingCmd writesFlash = some p ∧
    p.cmd = .calStore) ∧
    (∃ (s : State) (dt : Nat), let el := (s.dev.elapse dt).el; ∃ (p : PendCmd) (levels : List Byte), s.dev.pendingCmd
    (fun c => match c with | .fuseProgram _ => true | _ => false) = some p ∧ p.cmd = .fuseProgram levels) :=
  ⟨⟨st { up with rst := { up.rst with optRun := true } }, 1, ⟨[], [], [], []⟩, by decide +kernel⟩,
   ⟨st { boot with rst := { boot.rst with hbmDone := [true, false] } }, 1, 1, ⟨0, true, 40, 80, 94⟩, by decide +kernel⟩,
   ⟨st { pending up .fwSwap with keel := { (pending up .fwSwap).keel with recovery := true } }, 1, pends .fwSwap, by decide +kernel⟩,
   ⟨st { pending up .fwSwap with keel := { (pending up .fwSwap).keel with pauseAt := some 0 } }, 1500000, pends .fwSwap, 0,
    by decide +kernel⟩,
   ⟨st { up with spare := { up.spare with take := some ⟨7, 15, 16, false, none, none⟩ } }, 1, ⟨7, 15, 16, false, none, none⟩,
    by decide +kernel⟩,
   ⟨st { up with cal := { up.cal with run := some run1 } }, 1, run1, List.replicate 97 7, by decide +kernel⟩,
   ⟨st { up with cal := { up.cal with run := some { run1 with pend := some ([9], 0, 1) } } }, 500000000,
    { run1 with pend := some ([9], 0, 1) }, [9], 0, 1, by decide +kernel⟩,
   ⟨st (pending up .calStore), 1, [], pends .calStore, by decide +kernel⟩,
   ⟨st (pending up (.fuseProgram [4, 4])), 1, pends (.fuseProgram [4, 4]), [4, 4], by decide +kernel⟩⟩

/-- The hypotheses of EnvelopesAnswered are met together, clause by clause. -/
theorem test_hyps_EnvelopesAnswered :
    (∃ (s : State) (h : EnvHdr), let o := s.dev; o.starts h .nop = true) ∧
    (∃ (s : State) (h : EnvHdr), let o := s.dev; o.starts h .info = true ∧ o.established = false) ∧
    (∃ (s : State) (h : EnvHdr), let o := s.dev; ∃ (m : Byte) (tag : W32), o.starts h (.cmdQuery m tag) = true ∧ o.queryHits m.toNat tag =
    []) ∧
    (∃ (s : State) (h : EnvHdr), let o := s.dev; ∃ (m : Byte) (tag : W32), ∃ x : QueryHit, o.starts h (.cmdQuery m tag) = true ∧ o.queryHits
    m.toNat tag = [x]) ∧
    (∃ (s : State) (h : EnvHdr), let o := s.dev; ∃ (item : BitVec 16) (x : CalItem), o.starts h (.calRead item) = true ∧ item.toNat < 0x600
    ∧ o.calFind item.toNat = some x ∧ x.coefs.length ≤ 1000) ∧
    (∃ (s : State) (h : EnvHdr), let o := s.dev; ∃ (a n : Nat) (p : Part), ∃ e : RegSel, sizeOk a n = true ∧ inTbl a = false ∧ inRng a =
    false ∧ inAon a = false ∧ accessParts a n = some [p] ∧ e.addr.toNat = a ∧ e.size.toNat = n ∧ o.starts h (.regRead [e]) = true ∧
    o.reachable p.unit = true ∧ p.n = p.reg.bytes ∧ p.unit ∈ [RUnit.bal, .cal, .tha, .eth, .pcx, .wpu, .dsp, .time] ∧ (p.unit = .tha → ∀ k <
    16, (o.engine k).job = none)) ∧
    (∃ (s : State) (h : EnvHdr), let o := s.dev; ∃ (a n : Nat) (p : Part), ∃ e : RegPut, sizeOk a n = true ∧ inTbl a = false ∧ inRng a =
    false ∧ inAon a = false ∧ accessParts a n = some [p] ∧ e.addr.toNat = a ∧ e.size.toNat = n ∧ o.starts h (.regWrite [e]) = true ∧
    o.takesWrites p.unit = true ∧ o.plainErr 0x0D = true ∧ p.unit ∈ [RUnit.bal, .cal, .mos, .tha, .eth, .pcx]) ∧
    (∃ (s : State) (h : EnvHdr), let o := s.dev; o.starts h .rollNext = true ∧ o.reachable .cls = true ∧ o.cls.rolls.length < 2 ∧
    o.acquiring = true) ∧
    (∃ (s : State) (h : EnvHdr), let o := s.dev; o.starts h .rollNext = true ∧ o.reachable .cls = true ∧ o.cls.rolls.length < 2 ∧
    o.acquiring = false) ∧
    (∃ (s : State) (h : EnvHdr), let o := s.dev; o.starts h .rollNext = true ∧ o.reachable .cls = true ∧ 2 ≤ o.cls.rolls.length) ∧
    (∃ (s : State) (h : EnvHdr), let o := s.dev; ∃ v : ViewArgs, o.starts h (.viewReserve v) = true ∧ o.reachable .eth = true ∧ o.rdF
    (a_ETH_DEST v.dest.toNat) f_ETH_DEST_IPV4 ≠ 0 ∧ o.viewStatus v.x0.toNat v.x1.toNat v.zoom.toNat v.rate.toNat v.hOut.toNat = 0 ∧ o.viewAt
    v.slot.toNat = none) ∧
    (∃ (s : State) (h : EnvHdr), let o := s.dev; ∃ k : Byte, o.starts h (.viewRelease k) = true ∧ o.reachable .eth = true ∧ (o.rdF
    a_ETH_VIEW_RSV f_ETH_VIEW_RSV_RSV).testBit k.toNat = true) ∧
    (∃ (s : State) (h : EnvHdr), let o := s.dev; ∃ k : Byte, o.starts h (.viewRelease k) = true ∧ o.reachable .eth = true ∧ (o.rdF
    a_ETH_VIEW_RSV f_ETH_VIEW_RSV_RSV).testBit k.toNat = false) ∧
    (∃ (s : State) (h : EnvHdr), let o := s.dev; o.starts h .serviceAbort = true ∧ o.serviceOp = none) ∧
    (∃ (s : State) (h : EnvHdr), let o := s.dev; ∃ c : Cmd, o.starts h .serviceAbort = true ∧ o.serviceOp = some c) ∧
    (∃ (s : State) (h : EnvHdr), let o := s.dev; o.windowReachable = true ∧ o.starts h .cfgOpen = true) ∧
    (∃ (s : State) (h : EnvHdr), let o := s.dev; o.windowReachable = true ∧ o.coveredReachable = true ∧ o.starts h .cfgCommit = true) ∧
    (∃ (s : State) (h : EnvHdr), let o := s.dev; o.starts h .evtCommit = true ∧ o.reachable .evt = true ∧ o.evtLoop = none) ∧
    (∃ (s : State) (h : EnvHdr), let o := s.dev; ∃ l : List Nat, o.starts h .evtCommit = true ∧ o.reachable .evt = true ∧ o.evtLoop = some
    l) :=
  ⟨⟨st up, hdr 14, by decide +kernel⟩,
   ⟨st up, hdr 14, by decide +kernel⟩,
   ⟨st up, hdr 14, 15, 7, by decide +kernel⟩,
   ⟨st { up with keel := { up.keel with kept := [⟨15, 7, 1, 0, 0, 3⟩] } }, hdr 14, 15, 7, ⟨3, 1, 0, 3, 0⟩, by decide +kernel, rfl⟩,
   ⟨st { up with cal := { up.cal with items := [⟨0x133, [1, 2], 0, 0⟩] } }, hdr 14, 0x133, ⟨0x133, [1, 2], 0, 0⟩, by decide +kernel⟩,
   ⟨st up, hdr 14, a_BAL_PROFILE 5 23, 8, part (a_BAL_PROFILE 5 23) 8, ⟨BitVec.ofNat 32 (a_BAL_PROFILE 5 23), 8⟩, by decide +kernel⟩,
   ⟨st up, hdr 14, a_BAL_PROFILE 5 23, 8, part (a_BAL_PROFILE 5 23) 8, ⟨BitVec.ofNat 32 (a_BAL_PROFILE 5 23), 8, 5⟩, by decide +kernel⟩,
   ⟨st insp, hdr 14, by decide +kernel⟩,
   ⟨st up, hdr 14, by decide +kernel⟩,
   ⟨st { up with cls := { up.cls with rolls := up.cls.rolls ++ up.cls.rolls } }, hdr 14, by decide +kernel⟩,
   ⟨st (wv up (a_ETH_DEST 63) (fset 0 f_ETH_DEST_IPV4 7)), hdr 14, ⟨31, 1, 60, 63, 0, 0, 16⟩, by decide +kernel⟩,
   ⟨st (wv up a_ETH_VIEW_RSV (fset 0 f_ETH_VIEW_RSV_RSV 0x80000000)), hdr 14, 31, by decide +kernel⟩,
   ⟨st up, hdr 14, 31, by decide +kernel⟩,
   ⟨st up, hdr 14, by decide +kernel⟩,
   ⟨st { pending up (.laneRetrain 5) with mode := { up.mode with service := some 0 } }, hdr 14, .laneRetrain 5, by decide +kernel⟩,
   ⟨st up, hdr 14, by decide +kernel⟩,
   ⟨st up, hdr 14, by decide +kernel⟩,
   ⟨st up, hdr 14, by decide +kernel⟩,
   
    ⟨st (wv (wv up (a_EVT_CH_SRC 255) (fset 0 f_EVT_CH_SRC_SRC0 168)) (a_EVT_CON_SEL 44) (fset (fset 0 f_EVT_CON_SEL_ENA 1) f_EVT_CON_SEL_CHA 255)),
    hdr 14, [255], by decide +kernel⟩⟩

/-- The hypotheses of EnvelopesPending are met together, clause by clause. -/
theorem test_hyps_EnvelopesPending :
    (∃ (s : State) (h : EnvHdr), let o := s.dev; let id := o.keel.nextId; ∃ (m : Byte) (t : Mode), modeOf m.toNat = some t ∧ o.starts h
    (.modeSet m) = true ∧ o.mode.starting = false ∧ t = .safeHold) ∧
    (∃ (s : State) (h : EnvHdr), let o := s.dev; let id := o.keel.nextId; ∃ (m : Byte) (t : Mode), modeOf m.toNat = some t ∧ o.starts h
    (.modeSet m) = true ∧ o.mode.starting = false ∧ t ≠ .safeHold ∧ (((o.elapse 0).countTaken h.mailbox).1.modeChecks h t).2.1 = 0 ∧
    o.mode.pend = none) ∧
    (∃ (s : State) (h : EnvHdr), let o := s.dev; let id := o.keel.nextId; ∃ t : TableXfer, o.starts h (.tableLoad t) = true ∧ o.tabRefusal t
    true = 0) ∧
    (∃ (s : State) (h : EnvHdr), let o := s.dev; let id := o.keel.nextId; ∃ t : TableXfer, o.starts h (.tableRead t) = true ∧ o.tabRefusal t
    false = 0) ∧
    (∃ (s : State) (h : EnvHdr), let o := s.dev; let id := o.keel.nextId; ∃ (first last : W64) (ring : BitVec 16), o.starts h (.loftExport
    first last ring) = true ∧ o.reachable .cls = true ∧ o.cls.frozen = true ∧ first.toNat ≤ last.toNat ∧ last.toNat - first.toNat <
    o.loftLines ∧ (o.cls.written.filter (fun l => first.toNat ≤ l && l ≤ last.toNat)).length = last.toNat + 1 - first.toNat ∧ (o.ring
    ring.toNat).en = true ∧ (o.ring ring.toNat).typ = 1) ∧
    (∃ (s : State) (h : EnvHdr), let o := s.dev; let id := o.keel.nextId; ∃ (p : Byte) (a : W32) (l : Nat), ∃ n : BitVec 16, o.trigLane
    p.toNat = some l ∧ o.starts h (.camRegRead p n a) = true) ∧
    (∃ (s : State) (h : EnvHdr), let o := s.dev; let id := o.keel.nextId; ∃ (p : Byte) (a : W32) (l : Nat), ∃ ws : List W32, o.trigLane
    p.toNat = some l ∧ o.starts h (.camRegWrite p a ws) = true) ∧
    (∃ (s : State) (h : EnvHdr), let o := s.dev; let id := o.keel.nextId; ∃ mask sp : Byte, o.starts h (.hbmSetpoint mask sp) = true ∧
    o.setpCheck h mask.toNat sp.toNat = 0 ∧ o.reachable (.hbm 0) = true ∧ o.reachable (.hbm 1) = true) ∧
    (∃ (s : State) (h : EnvHdr), let o := s.dev; let id := o.keel.nextId; ∃ cmd : Cmd, ∃ x : ImageSrc, o.starts h cmd = true ∧ cmd =
    .fwStage x) ∧
    (∃ (s : State) (h : EnvHdr), let o := s.dev; let id := o.keel.nextId; ∃ cmd : Cmd, ∃ x : ImageSrc, o.starts h cmd = true ∧ cmd =
    .nvWrite x) ∧
    (∃ (s : State) (h : EnvHdr), let o := s.dev; let id := o.keel.nextId; ∃ cmd : Cmd, o.starts h cmd = true ∧ cmd = .calStore) ∧
    (∃ (s : State) (h : EnvHdr), let o := s.dev; let id := o.keel.nextId; ∃ cmd : Cmd, ∃ ls : List Byte, o.starts h cmd = true ∧ cmd =
    .fuseProgram ls ∧ o.rst.otpProg = false ∧ (ls.zip minLevels).any (fun p => p.1.toNat < p.2) = false) ∧
    (∃ (s : State) (h : EnvHdr), let o := s.dev; let id := o.keel.nextId; ∃ cmd : Cmd, ∃ (item : BitVec 16) (arg : W64), o.starts h cmd =
    true ∧ cmd = .calRun item arg ∧ (calNeedsMode item.toNat = true → o.mode.starting = false ∧ o.mode.cur = .calibrate)) ∧
    (∃ (s : State) (h : EnvHdr), let o := s.dev; let id := o.keel.nextId; ∃ cmd : Cmd, ∃ x : W64, o.starts h cmd = true ∧ cmd = .timeStep x
    ∧ o.reachable .time = true ∧ (o.established = true → o.ridgeUp = true)) ∧
    (∃ (s : State) (h : EnvHdr), let o := s.dev; let id := o.keel.nextId; ∃ cmd : Cmd, o.starts h cmd = true ∧ cmd = .pairHandover ∧
    o.established = true ∧ o.ridgeUp = true) ∧
    (∃ (s : State) (h : EnvHdr), let o := s.dev; let id := o.keel.nextId; ∃ st pc : Byte, o.svcCheck = 0 ∧ o.starts h (.hbmRetire st pc) =
    true ∧ o.reachable (if st.toNat = 0 then .hbm 0 else .hbm 1) = true ∧
    (({ (o.elapse 0).countTaken h.mailbox |>.1 with mode := { o.mode with service := some id } } : Dev).retireCheck st.toNat pc.toNat = 0)) ∧
    (∃ (s : State) (h : EnvHdr), let o := s.dev; let id := o.keel.nextId; o.svcCheck = 0 ∧ o.starts h .fwSwap = true ∧ o.keel.idle.verified
    = true) ∧
    (∃ (s : State) (h : EnvHdr), let o := s.dev; let id := o.keel.nextId; ∃ (t : Byte) (n : Nat), o.svcCheck = 0 ∧ o.starts h (.pipeTakeover
    t) = true ∧ o.mode.cur ∈ [Mode.inspectWide, .inspectPaired, .record] ∧ o.spareOf = some n ∧ o.roleNow t.toNat = 0 ∧ o.inF (a_TPT_CFG
    (o.rdF (a_PIPE_ROLE t.toNat) f_PIPE_ROLE_PORT)) f_TPT_CFG_LANE_MODE ≠ 0) ∧
    (∃ (s : State) (h : EnvHdr), let o := s.dev; let id := o.keel.nextId; ∃ (l : Byte) (q : Fin 13), o.svcCheck = 0 ∧ o.starts h
    (.laneRetrain l) = true ∧ q.val = l.toNat / 4 ∧ o.reachable (.lq q) = true ∧ (o.port (l.toNat / 2)).reqs = [] ∧ o.plainErr 0x1B = true) ∧
    (∃ (s : State) (h : EnvHdr), let o := s.dev; let id := o.keel.nextId; o.svcCheck = 0 ∧ o.starts h .partnerRejoin = true ∧ o.isPartner =
    false ∧ o.ridgeUp = true ∧ o.partnerJoinable = true ∧ o.authority = true) ∧
    (∃ (s : State) (dt : Nat) (m : Fin 16), let o := s.dev; let el := (o.elapse dt).el; ∃ (desc env : List Byte), ∃ st : Nat,
    s.dev.keelServes = true ∧ o.nextMailbox = some m ∧ m.val ≠ 15 ∧ (o.ring m).loc = false ∧ desc.length = 16 ∧ leAt desc 0 8 % 8 = 0 ∧ leAt
    desc 8 2 = env.length ∧ env.length % 8 = 0 ∧ 32 ≤ env.length ∧ env.length ≤ 4064 ∧ (o.elapse dt).exhausted 8 .keel = false ∧ (o.elapse
    dt).ringShort (o.ring m) 3 = false ∧ readEnvelope env.length env = .error st ∧ o.keel.recovery = false) ∧
    (∃ (s : State) (dt : Nat) (m : Fin 16), let o := s.dev; let el := (o.elapse dt).el; ∃ (desc env : List Byte), ∃ cmd : Cmd,
    s.dev.keelServes = true ∧ o.nextMailbox = some m ∧ m.val ≠ 15 ∧ (o.ring m).loc = false ∧ desc.length = 16 ∧ leAt desc 0 8 % 8 = 0 ∧ leAt
    desc 8 2 = env.length ∧ env.length % 8 = 0 ∧ 32 ≤ env.length ∧ env.length ≤ 4064 ∧ (o.elapse dt).exhausted 8 .keel = false ∧ (o.elapse
    dt).ringShort (o.ring m) 3 = false ∧ readEnvelope env.length env = .ok cmd ∧ o.keel.recovery = false ∧ o.argsOk cmd = true ∧ o.mayStart
    ⟨o.keel.nextId, envHeader m env, cmd, el, none⟩ = false) ∧
    (∃ (s : State) (dt : Nat) (m : Fin 16), let o := s.dev; let el := (o.elapse dt).el; ∃ t : Taken, s.dev.keelServes = true ∧
    o.keel.waiting.find? (fun t => t.h.mailbox = m) = some t ∧ o.keel.fwd = [] ∧ el < t.at_ + t.h.timeoutNs ∧ o.mayStart t = true ∧ t.cmd =
    .nop) ∧
    (∃ (s : State) (dt : Nat) (m : Fin 16), let o := s.dev; let el := (o.elapse dt).el; ∃ t : Taken, s.dev.keelServes = true ∧
    o.keel.waiting.find? (fun t => t.h.mailbox = m) = some t ∧ o.keel.fwd = [] ∧ el < t.at_ + t.h.timeoutNs ∧ o.mayStart t = true ∧ t.cmd =
    .calStore) ∧
    (∃ (s : State) (dt : Nat) (m : Fin 16), let o := s.dev; let el := (o.elapse dt).el; ∃ t : Taken, s.dev.keelServes = true ∧
    o.keel.waiting.find? (fun t => t.h.mailbox = m && t.at_ + t.h.timeoutNs ≤ el) = some t ∧ o.keel.fwd = []) :=
  ⟨⟨st up, hdr 14, 7, .safeHold, by decide +kernel⟩,
   ⟨st (wv up a_CLS_LOFT_CFG (fset 0 f_CLS_LOFT_CFG_LINES 8192)), hdr 14, 1, .calibrate, by decide +kernel⟩,
   ⟨st up, hdr 14, xfer true 4, by decide +kernel⟩,
   ⟨st up, hdr 14, xfer false 0, by decide +kernel⟩,
   
    ⟨st { wv (ringed 4095 (ring 1 1) run0) a_CLS_LOFT_CFG (fset 0 f_CLS_LOFT_CFG_LINES 2) with cls := { up.cls with frozen := true, written := [8, 7] } },
    hdr 14, 7, 8, 4095, by decide +kernel⟩,
   ⟨st (lan up 31 (atStep 6)), hdr 14, 15, 5, 31, 64, by decide +kernel⟩,
   ⟨st (lan up 31 (atStep 6)), hdr 14, 15, 5, 31, List.replicate 64 7, by decide +kernel⟩,
   ⟨st up, hdr 14, 3, 0, by decide +kernel⟩,
   ⟨st up, hdr 14, .fwStage ⟨true, false, 0x800000, 0⟩, ⟨true, false, 0x800000, 0⟩, by decide +kernel⟩,
   ⟨st up, hdr 14, .nvWrite ⟨true, false, 0x800000, 0⟩, ⟨true, false, 0x800000, 0⟩, by decide +kernel⟩,
   ⟨st up, hdr 14, .calStore, by decide +kernel⟩,
   ⟨st up, hdr 14, .fuseProgram [4, 3, 2, 1, 1, 0, 2, 2, 2, 2, 3, 2, 2, 3, 0, 3], [4, 3, 2, 1, 1, 0, 2, 2, 2, 2, 3, 2, 2, 3, 0, 3],
    by decide +kernel⟩,
   ⟨st up, hdr 14, .calRun 1 0, 1, 0, by decide +kernel⟩,
   ⟨st up, hdr 14, .timeStep (-1), -1, by decide +kernel⟩,
   ⟨st auth0, hdr 14, .pairHandover, by decide +kernel⟩,
   ⟨st up, hdr 14, 1, 31, by decide +kernel⟩,
   ⟨st { up with keel := { up.keel with bankB := ⟨1, true, 1, 1, 1⟩ } }, hdr 14, by decide +kernel⟩,
   
    ⟨st { (wv (wv (wv (wv up (a_PIPE_ROLE 15) (fset 0 f_PIPE_ROLE_PORT 15)) (a_PIPE_ROLE 16) (fset 0 f_PIPE_ROLE_ROLE 1)) (a_TPT_CFG 15) (fset 0 f_TPT_CFG_LANE_MODE 3)) (a_PIPE_ROLE 14) 0) with mode := insp.mode },
    hdr 14, 15, 16, by decide +kernel⟩,
   ⟨st (lan up 51 (atStep 6)), hdr 14, 51, 12, by decide +kernel⟩,
   ⟨st { pr [f_RDG_STAT_RIDGE_UP, f_RDG_STAT_AUTHORITY] with pair := { up.pair with hello := some (zeros 64) } }, hdr 14,
    by decide +kernel⟩,
   ⟨st posted14, 1, 14, desc0, zeros 32, 0x13, by refine ⟨?_, ?_, ?_, ?_, ?_, ?_, ?_, ?_, ?_, ?_, (rfl), ?_⟩ <;> decide +kernel⟩,
   ⟨st { posted14 with keel := (waits 14 .calStore).keel }, 1, 14, desc0, nop0, .nop,
    by refine ⟨?_, ?_, ?_, ?_, ?_, ?_, ?_, ?_, ?_, ?_, (rfl), ?_⟩ <;> decide +kernel⟩,
   ⟨st (waits 15 .nop), 1, 15, ⟨0, hdr 15, .nop, 0, none⟩, by decide +kernel⟩,
   ⟨st (waits 15 .calStore), 1, 15, ⟨0, hdr 15, .calStore, 0, none⟩, by decide +kernel⟩,
   ⟨st (waits 15 .calStore), 100000000, 15, ⟨0, hdr 15, .calStore, 0, none⟩, by decide +kernel⟩⟩

end Sys2Proof.Tests
end

section
/-! Registers as R9, R10, R14 and R43 have them: what a write makes of a field and of a register, what a read leaves, and the host's accesses
over the bus that come to these. -/

namespace Sys2Proof.Machine

/-! ### The register store -/

/-- Of two values listed for one address the later one is left. -/
theorem RegStore.put_put (m : RegStore) (a : Nat) (v w : W64) : (m.put a v).put a w = m.put a w := by
  induction m with
  | nil => simp [RegStore.put]
  | cons p m ih =>
    by_cases hp : p.1 = a
    · simp [RegStore.put, hp]
    · by_cases hlt : a < p.1
      · simp [RegStore.put, hp, hlt]
      · simp [RegStore.put, hp, hlt, ih]

theorem Dev.wr_wr (d : Dev) (a : Nat) (v w : W64) : (d.wr a v).wr a w = d.wr a w := by
  simp [Dev.wr, RegStore.put_put]

@[simp] theorem Dev.inForce_wr (d : Dev) (a b : Nat) (v : W64) : (d.wr a v).inForce b = d.inForce b := rfl

/-- The block e holds v in register a, and in every other register what d holds. -/
def Dev.SetsOnly (d e : Dev) (a : Nat) (v : W64) : Prop := e.rd a = v ∧ ∀ b, b ≠ a → e.rd b = d.rd b

theorem Dev.setsOnly_wr (d : Dev) (a : Nat) (v : W64) : d.SetsOnly (d.wr a v) a v :=
  ⟨d.rd_wr_self a v, fun _ hb => d.rd_wr_ne v hb⟩

theorem Dev.setsOnly_refl (d : Dev) (a : Nat) : d.SetsOnly d a (d.rd a) := ⟨rfl, fun _ _ => rfl⟩

/-- What a block holds depends on the values written and the defaults alone. -/
theorem Dev.SetsOnly.congr {d e f : Dev} {a : Nat} {v : W64} (h : d.SetsOnly e a v) (hr : f.regs = e.regs) (hn : f.nv = e.nv) :
    d.SetsOnly f a v :=
  ⟨(Dev.rd_congr hr hn a).trans h.1, fun b hb => (Dev.rd_congr hr hn b).trans (h.2 b hb)⟩

/-! ### One field written (R9) -/

theorem fget_lt (v : W64) (f : Fld) : fget v f < 2 ^ f.w := Nat.mod_lt _ (Nat.two_pow_pos _)

theorem fset_fget (v : W64) (f : Fld) : fset v f (fget v f) = v := by
  apply BitVec.eq_of_getLsbD_eq
  intro i hi
  rw [getLsbD_fset v f _ i hi, testBit_fget]
  split
  · have hlo : f.lo + (i - f.lo) = i := by omega
    have hw : i - f.lo < f.w := by omega
    simp [hlo, hw]
  · rfl

theorem fset_fset (v : W64) (f : Fld) (m n : Nat) : fset (fset v f m) f n = fset v f n := by
  apply BitVec.eq_of_getLsbD_eq
  intro i hi
  simp only [getLsbD_fset _ f _ i hi]
  split <;> rfl

theorem Fld.mask_ne_zero (f : Fld) (hw : 0 < f.w) (h : f.lo + f.w ≤ 64) : f.mask ≠ 0 := by
  intro h0
  have hbit := f.testBit_mask f.lo (by omega)
  simp [h0, hw] at hbit

theorem blend_allOnes (a b : W64) : blend (BitVec.allOnes 64) a b = a := by
  simp only [blend, BitVec.and_allOnes, BitVec.not_allOnes, BitVec.and_zero, BitVec.or_zero]

/-- What R9 gives a field that is not locked, of the value o it holds and the value n written. -/
def FieldRow.written (x : FieldRow) (first : Bool) (o n : Nat) : Nat :=
  match x.acc with
  | .rw | .lk | .wo => n
  | .ro | .rc => o
  | .w1c => o &&& (2 ^ x.fld.w - 1 - n)
  | .w1s => o ||| n
  | .wot => if first then n else o

theorem FieldRow.written_lt (x : FieldRow) (first : Bool) {o n : Nat} (ho : o < 2 ^ x.fld.w) (hn : n < 2 ^ x.fld.w) :
    x.written first o n < 2 ^ x.fld.w := by
  cases hc : x.acc <;> simp only [FieldRow.written, hc]
  case w1c => exact Nat.and_lt_two_pow _ (by omega)
  case w1s => exact Nat.or_lt_two_pow ho hn
  case wot => split <;> assumption
  all_goals assumption

/-- A write of all bits sets an unlocked field to what R9 gives it, and touches nothing else. -/
theorem writeField_unlocked (x : FieldRow) (first : Bool) (old new : W64) (hw : 0 < x.fld.w) (h : x.fld.lo + x.fld.w ≤ 64) :
    (writeField x (BitVec.allOnes 64) false first old new).1 = fset old x.fld (x.written first (fget old x.fld) (fget new x.fld)) := by
  have hm := x.fld.mask_ne_zero hw h
  simp only [writeField, FieldRow.written, BitVec.allOnes_and, BitVec.and_allOnes, if_neg hm, blend_allOnes]
  cases x.acc <;> cases first <;> simp [fset_fget]

/-- The field then reads as R9 gives it. -/
theorem fget_writeField_self (x : FieldRow) (first : Bool) (old new : W64) (hw : 0 < x.fld.w) (h : x.fld.lo + x.fld.w ≤ 64) :
    fget (writeField x (BitVec.allOnes 64) false first old new).1 x.fld = x.written first (fget old x.fld) (fget new x.fld) := by
  rw [writeField_unlocked x first old new hw h, fget_fset_self _ _ _ h,
    Nat.mod_eq_of_lt (x.written_lt first (fget_lt old x.fld) (fget_lt new x.fld))]

/-- Bits of other fields never change. -/
theorem getLsbD_writeField_other (x : FieldRow) (first : Bool) (old new : W64) (hw : 0 < x.fld.w) (h : x.fld.lo + x.fld.w ≤ 64) {i : Nat}
    (hi : i < 64) (ho : i < x.fld.lo ∨ x.fld.lo + x.fld.w ≤ i) :
    (writeField x (BitVec.allOnes 64) false first old new).1.getLsbD i = old.getLsbD i := by
  rw [writeField_unlocked x first old new hw h, getLsbD_fset _ _ _ i hi, if_neg (by omega)]

/-- Of two writes to a field that takes the value written, the later one is left. -/
theorem writeField_writeField (x : FieldRow) (first : Bool) (old a b : W64) (hc : x.acc = .rw ∨ x.acc = .lk) (hw : 0 < x.fld.w)
    (h : x.fld.lo + x.fld.w ≤ 64) :
    (writeField x (BitVec.allOnes 64) false first (writeField x (BitVec.allOnes 64) false first old a).1 b).1 =
      (writeField x (BitVec.allOnes 64) false first old b).1 := by
  have takes (o n : Nat) : x.written first o n = n := by
    rcases hc with hc | hc <;> simp [FieldRow.written, hc]
  simp only [writeField_unlocked _ _ _ _ hw h, takes, fset_fset]

/-! ### What a write and a read leave of a register -/

/-- One field of a fold of writes: the value so far, whether something was discarded, whether a writable field took its bits. -/
def storeStep (r : Reg) (wm : W64) (locked : Bool) (skip : Fld → Bool) (new : W64) (s : W64 × Bool × Bool) (x : FieldRow) : W64 × Bool × Bool :=
  if skip x.fld then (s.1, true, s.2.2)
  else
    let w := writeField x wm (locked && locksField r x) false s.1 new
    (w.1, s.2.1 || w.2, s.2.2 || (wm &&& x.fld.mask ≠ 0 && !w.2 && !(x.acc = .ro || x.acc = .rc)))

theorem storeFields_eq_foldl (r : Reg) (wm : W64) (locked : Bool) (skip : Fld → Bool) (old new : W64) :
    storeFields r wm locked skip old new = r.fields.foldl (storeStep r wm locked skip new) (old, false, false) := rfl

/-- A field whose bits are not written, that discards them, or that cannot be written keeps its value. -/
theorem writeField_untaken (x : FieldRow) (wm : W64) (locked : Bool) (old new : W64)
    (h : (wm &&& x.fld.mask ≠ 0 && !(writeField x wm locked false old new).2 && !(x.acc = .ro || x.acc = .rc)) = false) :
    (writeField x wm locked false old new).1 = old := by
  by_cases hm : wm &&& x.fld.mask = 0
  · simp only [writeField, if_pos hm]
  · simp only [writeField, if_neg hm] at h ⊢
    cases hc : x.acc <;> cases locked <;> simp_all

/-- Where no writable field took its bits, the value stays. -/
theorem storeFields_untaken (r : Reg) (wm : W64) (locked : Bool) (skip : Fld → Bool) (old new : W64)
    (h : (storeFields r wm locked skip old new).2.2 = false) : (storeFields r wm locked skip old new).1 = old := by
  have fold : ∀ (l : List FieldRow) (s : W64 × Bool × Bool), (l.foldl (storeStep r wm locked skip new) s).2.2 = false →
      (l.foldl (storeStep r wm locked skip new) s).1 = s.1 ∧ s.2.2 = false := by
    intro l
    induction l with
    | nil => exact fun s hs => ⟨rfl, hs⟩
    | cons x l ih =>
      intro s hs
      obtain ⟨hv, ht⟩ := ih _ hs
      rw [List.foldl_cons, hv]
      unfold storeStep at ht ⊢
      split at ht
      · exact ⟨by simp [*], ht⟩
      · obtain ⟨ht, hx⟩ := Bool.or_eq_false_iff.mp ht
        exact ⟨by simpa [*] using writeField_untaken x wm _ s.1 new hx, ht⟩
  rw [storeFields_eq_foldl] at h ⊢
  exact (fold r.fields _ h).1

/-- A read of the whole register clears its RC fields where it has any (R43). -/
theorem Part.clears_of_whole (p : Part) (h : p.n = p.reg.bytes) : p.clears = p.reg.hasRC := by
  cases hw : p.reg.wide <;> simp [Part.clears, h, Reg.bytes, hw]

theorem Reg.hasRC_of_mem (r : Reg) {x : FieldRow} (hx : x ∈ r.fields) (hc : x.acc = .rc) : r.hasRC = true :=
  List.any_eq_true.mpr ⟨x, hx, by simp [hc]⟩

theorem Dev.leftBy_of_uncleared (d : Dev) (p : Part) (h : p.clears = false) : d.leftBy p = d.rd p.addr := by
  simp [Dev.leftBy, h]

/-- Where the cycle has raised no counter of the register, a read that clears leaves its RC fields 0 (R43). -/
theorem Dev.leftBy_of_unraised (d : Dev) (p : Part) (h : p.clears = true) (hr : d.cycle.raised.filter p.counts = []) :
    d.leftBy p = clearRC p.reg (d.rd p.addr) := by
  simp [Dev.leftBy, h, hr]

/-- A counter that the cycle has raised is left holding what the cycle added (R10). -/
theorem Dev.fget_leftBy_raised (d : Dev) (p : Part) (r : Raised) (h : p.clears = true) (hr : d.cycle.raised.filter p.counts = [r])
    (hw : r.lsb + r.w ≤ 64) : fget (d.leftBy p) ⟨r.lsb, r.w⟩ = min r.times (2 ^ r.w - 1) := by
  have hlt : min r.times (2 ^ r.w - 1) < 2 ^ r.w := by have := Nat.two_pow_pos r.w; omega
  simp [Dev.leftBy, h, hr, fget_fset_self _ ⟨r.lsb, r.w⟩ _ hw, Nat.mod_eq_of_lt hlt]

/-! ### Errors that are reported and nothing more (R494) -/

/-- The entry that a plain error of an origin makes. -/
def Dev.plainEntry (d : Dev) (code origin info : Nat) : ErrEntry :=
  ⟨(d.mkStamp origin d.now).1, d.clk.epoch, BitVec.ofNat 16 code, BitVec.ofNat 8 (errClass code), false, false, false, 0, BitVec.ofNat 64 info⟩

/-- A plain error takes a stamp, and its entry sets out for the error merge point. -/
theorem Dev.reportErr_of_plain (d : Dev) (code origin info : Nat) (h : d.plainErr code = true) (hc : code ∉ [0x01, 0x02, 0x03, 0x43]) :
    d.reportErr code origin info =
      (d.mkStamp origin d.now).2.fly .err ⟨(d.mkStamp origin d.now).1, d.clk.epoch, .err (d.plainEntry code origin info)⟩ := by
  simp only [Dev.plainErr, Bool.and_eq_true, decide_eq_true_eq, Bool.not_eq_true'] at h
  obtain ⟨⟨hcls, hsafe⟩, hrst⟩ := h
  simp only [List.mem_cons, List.not_mem_nil, or_false, not_or] at hc
  obtain ⟨h1, h2, h3, h43⟩ := hc
  simp [Dev.reportErr, Dev.reportAs, Dev.plainEntry, hcls, hsafe, hrst, h1, h2, h3, h43]

/-- An address error that is plain touches no register and shows nothing outside; one entry more is on its way. -/
theorem Dev.addrErr_of_plain (d : Dev) (code a : Nat) (src : AccSrc) (h : d.plainErr code = true) (hc : code ∉ [0x01, 0x02, 0x03, 0x43]) :
    (d.addrErr code a src).regs = d.regs ∧ (d.addrErr code a src).nv = d.nv ∧ (d.addrErr code a src).out = d.out ∧
      (d.addrErr code a src).mrg.err.fly.length = d.mrg.err.fly.length + 1 := by
  rw [Dev.addrErr, d.reportErr_of_plain code _ _ h hc]
  refine ⟨rfl, rfl, rfl, ?_⟩
  simp [Dev.fly, Merges.get, Merges.set]

/-! ### Registers that do no more than R9 says -/

/-- An aligned access finds each register at its own address. -/
theorem regAt_of_part4 {a o : Nat} {p : Part} (h : part4 a o = some p) : regAt p.addr = some (p.unit, p.reg, p.index) := by
  unfold part4 at h
  split at h
  case h_1 hr => cases h; exact hr
  case h_2 =>
    split at h
    · split at h
      case h_1 hr =>
        split at h
        · cases h; exact hr
        · cases h
      case h_2 => cases h
    · cases h

/-- An access within one register is to a register of the unit named. -/
theorem unitAt_of_accessParts {a n : Nat} {p : Part} (h : accessParts a n = some [p]) : unitAt p.addr = some p.unit := by
  have hr : regAt p.addr = some (p.unit, p.reg, p.index) := by
    unfold accessParts at h
    split at h
    · obtain ⟨q, hq, hp⟩ := Option.map_eq_some_iff.mp h
      cases hp
      exact regAt_of_part4 hq
    · split at h
      case h_1 hr =>
        split at h
        · cases h; exact hr
        · obtain ⟨q, -, hp⟩ := Option.map_eq_some_iff.mp h
          cases hp
      case h_2 => cases h
  obtain ⟨u, hu, hf⟩ := Option.bind_eq_some_iff.mp hr
  obtain ⟨q, -, hq⟩ := Option.map_eq_some_iff.mp hf
  exact hu.trans (congrArg (fun t => some t.1) hq)

/-- A register of some units does not lie in the window of another unit. -/
theorem addr_ne_of_unitAt {a n b : Nat} {p : Part} {v : RUnit} {us : List RUnit} (h : accessParts a n = some [p]) (hu : p.unit ∈ us)
    (hb : unitAt b = some v) (hv : v ∉ us) : b ≠ p.addr := by
  rintro rfl
  rw [unitAt_of_accessParts h] at hb
  cases hb
  exact hv hu

/-- The units of O32 whose registers a write sets as R9 says, and nothing more. -/
abbrev storingUnits : List RUnit := [.bal, .cal, .mos, .tha, .eth, .pcx]

theorem eq_of_mem_storingUnits {u : RUnit} (h : u ∈ storingUnits) : u = .bal ∨ u = .cal ∨ u = .mos ∨ u = .tha ∨ u = .eth ∨ u = .pcx := by
  simpa using h

theorem Dev.writeRefused_of_storing (d : Dev) (p : Part) (src : AccSrc) (hu : p.unit ∈ storingUnits) (he : d.established = false) :
    d.writeRefused p src = false := by
  rcases eq_of_mem_storingUnits hu with hu | hu | hu | hu | hu | hu <;> simp [Dev.writeRefused, hu, he]

theorem Dev.partRefused_of_storing (d : Dev) (p : Part) (data : W64) (src : AccSrc) (hu : p.unit ∈ storingUnits) :
    d.partRefused p data src = false := by
  rcases eq_of_mem_storingUnits hu with hu | hu | hu | hu | hu | hu <;> simp [Dev.partRefused, hu]

theorem Dev.writeEffect_of_storing (d : Dev) {u : RUnit} (a i : Nat) (wm data old : W64) (src : AccSrc) (hu : u ∈ storingUnits) :
    d.writeEffect u a i wm data old src = d := by
  rcases eq_of_mem_storingUnits hu with rfl | rfl | rfl | rfl | rfl | rfl <;> rfl

theorem Dev.writeTwins_of_storing (d : Dev) (p : Part) (data : W64) (src : AccSrc) (hu : p.unit ∈ storingUnits) :
    d.writeTwins p data src = d := by
  rcases eq_of_mem_storingUnits hu with hu | hu | hu | hu | hu | hu <;> simp [Dev.writeTwins, hu]

/-- A write within one register of such a unit, not locked and not refused, sets it to its fields as R9 gives them. -/
theorem Dev.setsOnly_writePart (d : Dev) (p : Part) (data : W64) (src : AccSrc) (hu : p.unit ∈ storingUnits)
    (he : d.established = false) (hl : d.isLocked p.unit = false) :
    d.SetsOnly (d.writePart p data src).1 p.addr
      (storeFields p.reg p.mask false (fun _ => false) (d.rd p.addr) (d.reaches p data)).1 := by
  have untaken := storeFields_untaken p.reg p.mask false (fun _ => false) (d.rd p.addr) (d.reaches p data)
  simp only [Dev.writePart, d.writeRefused_of_storing p src hu he, d.partRefused_of_storing p _ src hu, hl, Bool.false_and,
    Bool.false_eq_true, if_false, Dev.writeEffect_of_storing _ _ _ _ _ _ _ hu]
  split
  next h =>
    rw [untaken (by simpa using h)]
    exact d.setsOnly_refl p.addr
  next =>
    refine (d.setsOnly_wr p.addr _).congr ?_ ?_ <;> split <;> rfl

/-- A block that differs in one register alone, which is not that of the pair's state, is as it was about the pair. -/
theorem Dev.SetsOnly.established {d e : Dev} {a : Nat} {v : W64} (h : d.SetsOnly e a v) (ha : a_RDG_STAT ≠ a) : e.established = d.established := by
  simp [Dev.established, Dev.rdB, h.2 _ ha]

theorem Dev.SetsOnly.plainErr {d e : Dev} {a : Nat} {v : W64} (h : d.SetsOnly e a v) {code : Nat} (ha : a_ERR_MAP code ≠ a) :
    e.plainErr code = d.plainErr code := by
  simp [Dev.plainErr, h.2 _ ha]

theorem Dev.mirrorWrite_of_alone (d : Dev) (p : Part) (data : W64) (src : AccSrc) (he : d.established = false) : d.mirrorWrite p data src = d := by
  simp [Dev.mirrorWrite, he]

/-- A write within one reachable register comes to the write of that part, and LOCK_VIOLATION where something was discarded. -/
theorem Dev.endWrite_regWrite_single (d : Dev) {a n : Nat} (data : W64) (src : AccSrc) {p : Part} (hon : inAon a = false)
    (hp : accessParts a n = some [p]) (hr : d.reachable p.unit = true) :
    ∃ e, (e = (d.writePart p data src).1 ∨ e = ((d.writePart p data src).1.writeTwins p data src).mirrorWrite p data src) ∧
      (Dev.endWrite (d.regWrite a n data src) = e ∨ Dev.endWrite (d.regWrite a n data src) = e.lockViolation a src) := by
  refine ⟨if (d.writePart p data src).2.2 then ((d.writePart p data src).1.writeTwins p data src).mirrorWrite p data src
    else (d.writePart p data src).1, ?_, ?_⟩
  · split <;> simp
  · have hend (r : Dev) (b : Bool) : Dev.endWrite (r, if b then .locked else .ok) = r := by cases b <;> rfl
    have hor (b : Bool) (x y : Dev) : (if b then y else x) = x ∨ (if b then y else x) = y := by cases b <;> simp
    simp only [Dev.regWrite, hon, hp, hr, List.any_cons, List.any_nil, Bool.not_true, Bool.or_false, Bool.false_eq_true, if_false,
      List.foldl_cons, List.foldl_nil, Bool.false_or, hend]
    exact hor _ _ _

/-! ### Reads of registers (R43) -/

/-- The units of O32 none of whose registers keeps the largest number held. -/
abbrev readUnits : List RUnit := [.bal, .cal, .tha, .eth, .pcx, .wpu, .dsp, .time, .mbx]

/-- A read of a part of such a unit leaves `leftBy` in its register and shows nothing outside. -/
theorem Dev.setsOnly_clearPart (d : Dev) {a n : Nat} {p : Part} (hp : accessParts a n = some [p]) (hu : p.unit ∈ readUnits) :
    d.SetsOnly (d.clearPart p) p.addr (d.leftBy p) ∧ (d.clearPart p).out = d.out := by
  have hoff : p.unit ∉ [RUnit.mos, .seg, .cls, .evt, .err, .rdg] := by
    simp only [List.mem_cons, List.not_mem_nil, or_false] at hu
    rcases hu with hu | hu | hu | hu | hu | hu | hu | hu | hu <;> simp [hu]
  have hseg : a_SEG_LBL_STAT ≠ p.addr := addr_ne_of_unitAt hp hu (v := .seg) rfl (by decide)
  cases hc : p.clears with
  | false => simpa [Dev.clearPart, hc, d.leftBy_of_uncleared p hc] using d.setsOnly_refl p.addr
  | true =>
    simp only [Dev.clearPart, hc, if_true, Dev.clearPart.peak, hoff, hseg.symm, decide_false, Bool.and_false, Bool.false_eq_true, if_false]
    exact ⟨(d.setsOnly_wr p.addr _).congr rfl rfl, rfl⟩

theorem Dev.engRun_of_no_job (d : Dev) (e : Nat) (h : (d.engine e).job = none) : d.engRun e = d := by simp [Dev.engRun, h]

/-- Where no Thatch engine has a job, letting them run changes nothing. -/
theorem Dev.enginesRun_of_no_jobs (d : Dev) (h : ∀ e < 16, (d.engine e).job = none) : d.enginesRun = d := by
  have fold : ∀ l : List Nat, (∀ e ∈ l, e < 16) → l.foldl (fun d e => d.engRun e) d = d := by
    intro l
    induction l with
    | nil => exact fun _ => rfl
    | cons e l ih =>
      intro hl
      obtain ⟨he, hl⟩ := List.forall_mem_cons.mp hl
      rw [List.foldl_cons, d.engRun_of_no_job e (h e he), ih hl]
  exact fold (List.range 16) (fun _ => List.mem_range.mp)

/-- A read within one reachable register answers its part, and leaves it cleared. -/
theorem Dev.regRead_single (d : Dev) {a n : Nat} (src : AccSrc) {p : Part} (hon : inAon a = false)
    (hp : accessParts a n = some [p]) (hr : d.reachable p.unit = true) (hj : p.unit = .tha → ∀ e < 16, (d.engine e).job = none) :
    d.regRead a n src = (d.clearPart p, d.readPart p, .ok) := by
  have hrun : (if p.unit = .tha then d.enginesRun else d) = d := by
    split
    next h => exact d.enginesRun_of_no_jobs (hj h)
    next => rfl
  simp [Dev.regRead, hon, hp, hrun, hr]

/-! ### Accesses of the host -/

/-- No time passes in a bus access. -/
theorem Dev.elapse_zero (d : Dev) : d.elapse 0 = d := by
  simp [Dev.elapse]

/-- An access of the host makes the block that the access itself makes. -/
theorem makes_of_access {c : Instr} {s : State} {x : BusAccess} {P : Dev → Prop} (hc : exec c s = .next (s.access x))
    (h : P (s.dev.busAccess x [])) : Makes c s P :=
  ⟨s.dev.busAccess x [], by rw [hc, State.access, State.after, Dev.elapse_zero], h⟩

/-- A write outside the windows is a write of a register. -/
theorem Dev.busAccess_write (d : Dev) {a n : Nat} (data : List Byte) (hs : sizeOk a n = true) (ht : inTbl a = false) (hr : inRng a = false) :
    d.busAccess ⟨false, true, a, n, data⟩ [] =
      Dev.endWrite (d.regWrite a n (BitVec.ofNat 64 (leNat (padTo (data.take n) n))) .host) := by
  simp [Dev.busAccess, Dev.bar0Write, hs, ht, hr]

/-- A read outside the windows is a read of a register. -/
theorem Dev.busAccess_read (d : Dev) {a n : Nat} (data : List Byte) (hs : sizeOk a n = true) (ht : inTbl a = false) (hr : inRng a = false) :
    d.busAccess ⟨false, false, a, n, data⟩ [] = Dev.endRead (d.regRead a n .host) := by
  simp [Dev.busAccess, Dev.bar0Read, hs, ht, hr]

/-- A host write within one register of a storing unit that takes writes sets that register alone, whatever is discarded and logged. -/
theorem Dev.setsOnly_endWrite (d : Dev) {a n : Nat} (data : W64) {p : Part} (hon : inAon a = false) (hp : accessParts a n = some [p])
    (hu : p.unit ∈ storingUnits) (ht : d.takesWrites p.unit = true) (hplain : d.plainErr 0x0D = true) :
    d.SetsOnly (Dev.endWrite (d.regWrite a n data .host)) p.addr
      (storeFields p.reg p.mask false (fun _ => false) (d.rd p.addr) (d.reaches p data)).1 := by
  simp only [Dev.takesWrites, Bool.and_eq_true, Bool.not_eq_true'] at ht
  obtain ⟨⟨hr, hl⟩, he⟩ := ht
  have hset := d.setsOnly_writePart p data .host hu he hl
  have hrdg : a_RDG_STAT ≠ p.addr := addr_ne_of_unitAt hp hu (v := .rdg) rfl (by decide)
  have hmap : a_ERR_MAP 0x0D ≠ p.addr := addr_ne_of_unitAt hp hu (v := .err) rfl (by decide)
  have he' : (d.writePart p data .host).1.established = false := (hset.established hrdg).trans he
  have hplain' : (d.writePart p data .host).1.plainErr 0x0D = true := (hset.plainErr hmap).trans hplain
  obtain ⟨e, hwrite, hend⟩ := d.endWrite_regWrite_single data .host hon hp hr
  rw [Dev.writeTwins_of_storing _ p data .host hu, Dev.mirrorWrite_of_alone _ p data .host he', or_self] at hwrite
  subst hwrite
  rcases hend with hend | hend <;> rw [hend]
  · exact hset
  · obtain ⟨hregs, hnv, -, -⟩ := Dev.addrErr_of_plain _ 0x0D a .host hplain' (by decide)
    exact hset.congr hregs hnv

/-! ### The statements -/

/-- Settles O8: an unlocked field is set to `FieldRow.written`, and a register that is set is read back. -/
theorem fieldsAndRegisters : Obligations.FieldsAndRegisters := by
  refine ⟨fun x old new first hw h => ⟨?_, fun i hi ho => getLsbD_writeField_other x first old new hw h hi ho⟩,
    fun d a v => ⟨d.rd_wr_self a v, fun b hb => d.rd_wr_ne v hb, fun b => d.inForce_wr a b v⟩⟩
  rw [fget_writeField_self x first old new hw h]
  cases hc : x.acc <;> simp only [FieldRow.written, hc]

/-- Settles O9: setting a field twice leaves the later value, and so does setting a register twice. -/
theorem shadowedWrites : Obligations.ShadowedWrites :=
  ⟨fun x old a b first _ hc hw h => writeField_writeField x first old a b hc hw h,
    fun d a v w => ⟨d.wr_wr a v w, d.rd_wr_self a w, fun b => ((d.wr a v).inForce_wr a b w).trans (d.inForce_wr a b v)⟩⟩

/-- Settles O32, clause by clause: the write by `Dev.setsOnly_endWrite`, the clearing read by `Dev.regRead_single`, the counter raised in the
cycle by `Dev.fget_leftBy_raised`, the reserved location by `Dev.addrErr_of_plain`. -/
theorem registerAccesses : Obligations.RegisterAccesses := by
  intro s a n data hs ht hr hon
  refine ⟨?write, ?read, ?raised, ?reserved⟩
  case write =>
    intro p hp hu htakes hplain
    refine makes_of_access rfl ?_
    rw [s.dev.busAccess_write data hs ht hr]
    exact s.dev.setsOnly_endWrite _ hon hp hu htakes hplain
  case read =>
    intro p hp hu hreach hwhole hjobs
    refine makes_of_access rfl ?_
    obtain ⟨⟨hleft, hother⟩, hout⟩ := s.dev.setsOnly_clearPart hp hu
    have hclears := p.clears_of_whole hwhole
    rw [s.dev.busAccess_read data hs ht hr, s.dev.regRead_single .host hon hp hreach hjobs, s.dev.elapse_zero]
    refine ⟨by simp [Dev.endRead, hout], hleft, fun hnone hrc => ?_, fun hrc => ?_, hother⟩
    · exact hleft.trans (s.dev.leftBy_of_unraised p (hclears.trans hrc) hnone)
    · exact hleft.trans (s.dev.leftBy_of_uncleared p (hclears.trans hrc))
  case raised =>
    intro p x r _ hwhole hx hrc hfld hraised hw
    rw [hfld]
    exact s.dev.fget_leftBy_raised p r ((p.clears_of_whole hwhole).trans (p.reg.hasRC_of_mem hx hrc)) hraised hw
  case reserved =>
    intro hnone hplain
    refine makes_of_access rfl ?_
    obtain ⟨hregs, -, hout, hfly⟩ := s.dev.addrErr_of_plain 0x0E a .host hplain (by decide)
    rw [s.dev.busAccess_read data hs ht hr]
    simpa [Dev.regRead, hon, hnone, Dev.endRead, hout] using ⟨hregs, hfly⟩

end Sys2Proof.Machine
end

section
/-! Stamps as R37 and R38 have them: the order of their keys, and the SEQ that an origin's next stamp takes. -/

namespace Sys2Proof.Machine

/-! ### Serial order of SEQ -/

/-- Serial order over 2^16 by the distance from the one SEQ to the other; half the range apart, the smaller value comes first. -/
theorem serialBefore_eq_distance (x y : BitVec 16) :
    serialBefore 16 x.toNat y.toNat =
      if (y - x).toNat = 32768 then decide (x.toNat < y.toNat) else decide (1 ≤ (y - x).toNat ∧ (y - x).toNat ≤ 32767) := by
  have hd : (y.toNat + 2 ^ 16 - x.toNat % 2 ^ 16) % 2 ^ 16 = (y - x).toNat := by
    rw [BitVec.toNat_sub, Nat.mod_eq_of_lt x.isLt]
    omega
  have hle : (decide (1 ≤ (y - x).toNat) && decide ((y - x).toNat < 2 ^ 15)) = decide (1 ≤ (y - x).toNat ∧ (y - x).toNat ≤ 32767) := by
    rw [← Bool.decide_and, decide_eq_decide]
    omega
  rw [serialBefore, hd, ← hle]
  rfl

/-- The two distances between different SEQs add up to 2^16. -/
theorem toNat_sub_swap {x y : BitVec 16} (h : x ≠ y) : (x - y).toNat = 65536 - (y - x).toNat ∧ 0 < (y - x).toNat := by
  have hne : x.toNat ≠ y.toNat := fun he => h (BitVec.eq_of_toNat_eq he)
  rw [BitVec.toNat_sub, BitVec.toNat_sub]
  omega

/-- Of two different SEQs exactly one comes before the other. -/
theorem serialBefore_swap {x y : BitVec 16} (h : x ≠ y) : serialBefore 16 x.toNat y.toNat = !serialBefore 16 y.toNat x.toNat := by
  have hne : x.toNat ≠ y.toNat := fun he => h (BitVec.eq_of_toNat_eq he)
  obtain ⟨hswap, hpos⟩ := toNat_sub_swap h
  rw [serialBefore_eq_distance, serialBefore_eq_distance, hswap]
  have hlt := (y - x).isLt
  generalize (y - x).toNat = n at hpos hlt ⊢
  by_cases hn : n = 32768
  · rw [if_pos hn, if_pos (by omega), ← decide_not, decide_eq_decide]
    omega
  · rw [if_neg hn, if_neg (by omega), ← decide_not, decide_eq_decide]
    omega

/-! ### The order of stamps -/

/-- Keys are equal where their four parts are. -/
theorem Stamp.sameKey_iff (x y : Stamp) : x.sameKey y = true ↔ x.time = y.time ∧ x.pair = y.pair ∧ x.origin = y.origin ∧ x.seq = y.seq := by
  simp [Stamp.sameKey, and_assoc]

/-- Of two different numbers exactly one is the smaller. -/
theorem decide_toNat_lt_swap {w : Nat} {a b : BitVec w} (h : a ≠ b) : decide (a.toNat < b.toNat) = !decide (b.toNat < a.toNat) := by
  have hne : a.toNat ≠ b.toNat := fun he => h (BitVec.eq_of_toNat_eq he)
  rw [← decide_not, decide_eq_decide]
  omega

/-- No stamp precedes one of its own key. -/
theorem Stamp.not_precedes_of_sameKey {x y : Stamp} (h : x.sameKey y = true) : x.precedes y = false := by
  obtain ⟨ht, hp, ho, hs⟩ := (x.sameKey_iff y).mp h
  simp [Stamp.precedes, ht, hp, ho, hs]

theorem Stamp.sameKey_comm (x y : Stamp) : x.sameKey y = y.sameKey x := by
  simp [Stamp.sameKey, Bool.beq_comm]

/-- Of two stamps with different keys exactly one precedes the other: the first part in which the keys differ decides. -/
theorem Stamp.precedes_swap {x y : Stamp} (h : x.sameKey y = false) : x.precedes y = !y.precedes x := by
  by_cases ht : x.time = y.time
  · by_cases hp : x.pair = y.pair
    · by_cases ho : x.origin = y.origin
      · have hs : x.seq ≠ y.seq := fun hs => by simp [(x.sameKey_iff y).mpr ⟨ht, hp, ho, hs⟩] at h
        simpa [Stamp.precedes, ht, hp, ho, hs, hs.symm] using serialBefore_swap hs
      · simpa [Stamp.precedes, ht, hp, ho, Ne.symm ho] using decide_toNat_lt_swap ho
    · cases hx : x.pair <;> cases hy : y.pair <;> simp_all [Stamp.precedes]
  · simpa [Stamp.precedes, ht, Ne.symm ht] using decide_toNat_lt_swap ht

/-- The PAIR bits, where they differ, compare as unsigned integers. -/
theorem not_eq_decide_toNat_lt {a b : Bool} (h : a ≠ b) : (!a) = decide (a.toNat < b.toNat) := by
  cases a <;> cases b <;> simp_all

/-- Serial order is irreflexive. -/
theorem serialBefore_self (x : BitVec 16) : serialBefore 16 x.toNat x.toNat = false := by
  simp [serialBefore_eq_distance]

/-- Settles O11: part by part of the key, serial order of SEQ by `serialBefore_eq_distance`. -/
theorem stampOrder : Obligations.StampOrder := by
  intro x y
  refine ⟨?_, fun h => ⟨Stamp.not_precedes_of_sameKey h, Stamp.not_precedes_of_sameKey (x.sameKey_comm y ▸ h)⟩, Stamp.precedes_swap⟩
  have hseq : (if x.seq = y.seq then false else serialBefore 16 x.seq.toNat y.seq.toNat) = serialBefore 16 x.seq.toNat y.seq.toNat := by
    split
    next h => rw [h, serialBefore_self]
    next => rfl
  rw [Stamp.precedes, hseq, serialBefore_eq_distance]
  by_cases hp : x.pair = y.pair
  · simp only [hp, ne_eq, not_true_eq_false, if_false]
  · simp only [ne_eq, hp, not_false_eq_true, if_true, not_eq_decide_toNat_lt hp]

/-! ### SEQ of an origin -/

theorem lget_lset_self {α : Type} (l : List α) {i : Nat} (x d : α) (h : i < l.length) : lget (lset l i x) i d = x := by
  simp [lget, lset, h]

theorem lget_lset_ne {α : Type} (l : List α) {i j : Nat} (x d : α) (h : j ≠ i) : lget (lset l i x) j d = lget l j d := by
  simp [lget, lset, List.getD_eq_getElem?_getD, List.getElem?_set_ne (Ne.symm h)]

/-- Settles O12: `Dev.mkStamp` sets the SEQ of one origin in the list of SEQs. -/
theorem seqPerOrigin : Obligations.SeqPerOrigin := by
  intro d o t ho
  refine ⟨rfl, rfl, ?_, fun p hp => ?_⟩
  · rw [Dev.mkStamp_seqs, lget_lset_self _ _ _ ho]
  · rw [Dev.mkStamp_seqs, lget_lset_ne _ _ _ hp]

end Sys2Proof.Machine
end

section
/-! Merge points as R39 to R42 have them: what the window releases, what an arriving item does, and the ring items that a merge point delivers. -/

namespace Sys2Proof.Machine

/-- A command makes the block that its meaning makes after the time that passes. -/
theorem makes_of_after {c : Instr} {s : State} {dt : Nat} {f : Dev → Dev} {P : Dev → Prop} (hc : exec c s = .next (s.after dt f))
    (h : P (f (s.dev.elapse dt))) : Makes c s P :=
  ⟨f (s.dev.elapse dt), hc, h⟩

/-! ### The merge points of the block -/

@[simp] theorem Merges.get_set_self (m : Merges) (i : MergeId) (x : MergePt Item) : (m.set i x).get i = x := by
  cases i <;> rfl

/-- Storing a merge point sets it, and no register but the one that holds its PEAK. -/
theorem Dev.setMerge_eq (d : Dev) (i : MergeId) (m : MergePt Item) (peak : Nat) :
    ∃ r, d.setMerge i m peak = { d with mrg := d.mrg.set i m, regs := r } := by
  simp only [Dev.setMerge]
  split
  · exact ⟨_, rfl⟩
  · exact ⟨_, rfl⟩

@[simp] theorem Dev.setMerge_mrg (d : Dev) (i : MergeId) (m : MergePt Item) (peak : Nat) : (d.setMerge i m peak).mrg = d.mrg.set i m := by
  obtain ⟨r, h⟩ := d.setMerge_eq i m peak
  rw [h]

@[simp] theorem Dev.setMerge_host (d : Dev) (i : MergeId) (m : MergePt Item) (peak : Nat) : (d.setMerge i m peak).host = d.host := by
  obtain ⟨r, h⟩ := d.setMerge_eq i m peak
  rw [h]

/-- PEAK is never below 0. -/
theorem Dev.setMerge_zero (d : Dev) (i : MergeId) (m : MergePt Item) : d.setMerge i m 0 = { d with mrg := d.mrg.set i m } := by
  simp [Dev.setMerge]

@[simp] theorem MergePt.released_held (m : MergePt Item) (out : List Item) (rest : List (Item × Nat)) : (m.released out rest).held = rest := rfl
@[simp] theorem MergePt.released_fly (m : MergePt Item) (out : List Item) (rest : List (Item × Nat)) : (m.released out rest).fly = m.fly := rfl
@[simp] theorem MergePt.released_last_nil (m : MergePt Item) (rest : List (Item × Nat)) : (m.released [] rest).last = m.last := rfl
@[simp] theorem MergePt.released_last_one (m : MergePt Item) (x : Item) (rest : List (Item × Nat)) :
    (m.released [x] rest).last = some x.stamp := rfl

/-! ### Delivery of ring items -/

theorem Dev.deliver_ring (d : Dev) {x : Item} {r : RingItem} (h : x.payload = .ring r) : d.deliver x = d.toRing r := by
  simp [Dev.deliver, h]

/-- An item for a ring stays one where its bytes are marked LATE_ORDER. -/
theorem Item.markLate_ring {x : Item} {r : RingItem} (h : x.payload = .ring r) : ∃ r', x.markLate.payload = .ring r' := by
  simp only [Item.markLate, h]
  split
  · exact ⟨_, rfl⟩
  · exact ⟨r, rfl⟩

/-- Ring items go to their rings in the order in which they are released, and nothing else changes. -/
theorem Dev.deliverAll_rings {xs : List Item} {rs : List RingItem} (h : xs.map (·.payload) = rs.map .ring) (d : Dev) :
    d.deliverAll xs = { d with host := { d.host with queue := d.host.queue ++ rs } } := by
  induction xs generalizing rs d with
  | nil =>
    obtain rfl : rs = [] := by simpa using h.symm
    simp [Dev.deliverAll]
  | cons x xs ih =>
    cases rs with
    | nil => simp at h
    | cons r rs =>
      obtain ⟨hx, hxs⟩ : x.payload = .ring r ∧ xs.map (·.payload) = rs.map .ring := by simpa using h
      have hrest := ih hxs (d.deliver x)
      rw [d.deliver_ring hx] at hrest
      simpa [Dev.deliverAll, d.deliver_ring hx, Dev.toRing] using hrest

/-! ### What the window releases -/

/-- While release is not due, nothing leaves. -/
theorem releaseLoop_of_not_due {now : Nat} {held : List (Item × Nat)} (h : releaseDue held now = false) : releaseLoop now held = ([], held) := by
  cases held with
  | nil => rfl
  | cons p l => simp [releaseLoop, h]

/-- What leaves and what stays are the window, in its order. -/
theorem releaseLoop_append (now : Nat) (held : List (Item × Nat)) :
    (releaseLoop now held).1 ++ (releaseLoop now held).2.map (·.1) = held.map (·.1) := by
  induction held with
  | nil => rfl
  | cons p l ih =>
    by_cases hdue : releaseDue (p :: l) now = true
    · simp [releaseLoop, hdue, ih]
    · simp [releaseLoop, hdue]

/-- What leaves is the front of the window. -/
theorem releaseLoop_fst_eq_take (now : Nat) (held : List (Item × Nat)) :
    (releaseLoop now held).1 = (held.map (·.1)).take (releaseLoop now held).1.length := by
  rw [← releaseLoop_append now held, List.take_left]

/-- Of a window of ring items the first leave. -/
theorem releaseLoop_rings (now : Nat) {held : List (Item × Nat)} {rs : List RingItem} (h : held.map (fun p => p.1.payload) = rs.map .ring) :
    (releaseLoop now held).1.map (·.payload) = (rs.take (releaseLoop now held).1.length).map .ring := by
  calc (releaseLoop now held).1.map (·.payload)
      = ((held.map (·.1)).take (releaseLoop now held).1.length).map (·.payload) :=
        congrArg (List.map Item.payload) (releaseLoop_fst_eq_take now held)
    _ = (held.map (fun p => p.1.payload)).take (releaseLoop now held).1.length := by rw [List.map_take, List.map_map]; rfl
    _ = (rs.take (releaseLoop now held).1.length).map .ring := by rw [h, List.map_take]

/-! ### Arrival (R40, R41) -/

/-- An item precedes what the merge point released last. -/
def MergePt.passed (m : MergePt Item) (x : Item) : Bool := match m.last with | some st => x.stamp.precedes st | none => false

/-- A merge point holds an item of the same key, or has released one. -/
def MergePt.knows (m : MergePt Item) (x : Item) : Bool :=
  m.held.any (fun p => p.1.stamp.sameKey x.stamp) || m.gone.any (fun st => st.sameKey x.stamp)

theorem MergePt.passed_eq_false {m : MergePt Item} {x : Item} (h : ∀ st, m.last = some st → x.stamp.precedes st = false) :
    m.passed x = false := by
  unfold MergePt.passed
  split
  next st hst => exact h st hst
  next => rfl

theorem MergePt.knows_eq_false {m : MergePt Item} {x : Item} (hheld : m.held.any (fun p => p.1.stamp.sameKey x.stamp) = false)
    (hgone : m.gone.any (fun st => st.sameKey x.stamp) = false) : m.knows x = false := by
  rw [MergePt.knows, hheld, hgone, Bool.or_false]

/-- What an arriving item does: it is passed on as late, it is passed on while a time step is awaited, or it is held and what is due leaves. -/
theorem Dev.arrive_cons (d : Dev) {i : MergeId} {x : Item} {rest : List Item} (hfly : (d.mrg.get i).fly = x :: rest) :
    d.arrive i =
      let m := { d.mrg.get i with fly := rest }
      if (d.mrg.get i).knows x || x.epoch ≠ d.clk.epoch || (d.mrg.get i).passed x then
        let e := (d.setMerge i m 0).inc (mrgStat i) f_MOS_MRG_STAT_LATE_CNT
        (if (d.mrg.get i).knows x then e.reportErr 0x14 (originOf (mergeUnit i)) x.stamp.origin.toNat else e).deliver x.markLate
      else if d.clk.step.isSome then (d.setMerge i (m.released [x] m.held) 0).deliver x
      else
        let held := holdSorted (x, d.el) m.held
        (d.setMerge i (m.released (releaseLoop d.el held).1 (releaseLoop d.el held).2) held.length).deliverAll (releaseLoop d.el held).1 := by
  simp only [Dev.arrive, hfly]
  rfl

/-- An item in order, with no time step awaited, joins the window; while release is not due none leaves. -/
theorem Dev.arrive_held (d : Dev) {i : MergeId} {x : Item} {rest : List Item} (hfly : (d.mrg.get i).fly = x :: rest)
    (hknows : (d.mrg.get i).knows x = false) (hepoch : x.epoch = d.clk.epoch) (hpassed : (d.mrg.get i).passed x = false)
    (hstep : d.clk.step = none) (hdue : releaseDue (holdSorted (x, d.el) (d.mrg.get i).held) d.el = false) :
    d.arrive i = d.setMerge i (({ d.mrg.get i with fly := rest } : MergePt Item).released [] (holdSorted (x, d.el) (d.mrg.get i).held))
      (holdSorted (x, d.el) (d.mrg.get i).held).length := by
  rw [d.arrive_cons hfly]
  simp [hknows, hpassed, hepoch, hstep, releaseLoop_of_not_due hdue, Dev.deliverAll]

/-- An item in order is passed on at once while a time step is awaited. -/
theorem Dev.arrive_awaiting (d : Dev) {i : MergeId} {x : Item} {rest : List Item} (hfly : (d.mrg.get i).fly = x :: rest)
    (hknows : (d.mrg.get i).knows x = false) (hepoch : x.epoch = d.clk.epoch) (hpassed : (d.mrg.get i).passed x = false)
    (hstep : d.clk.step.isSome = true) :
    d.arrive i = (d.setMerge i (({ d.mrg.get i with fly := rest } : MergePt Item).released [x] (d.mrg.get i).held) 0).deliver x := by
  rw [d.arrive_cons hfly]
  simp [hknows, hpassed, hepoch, hstep]

/-- An item that precedes what was released last is counted and passed on as late. -/
theorem Dev.arrive_late (d : Dev) {i : MergeId} {x : Item} {rest : List Item} (hfly : (d.mrg.get i).fly = x :: rest)
    (hknows : (d.mrg.get i).knows x = false) (hpassed : (d.mrg.get i).passed x = true) :
    d.arrive i = ((d.setMerge i { d.mrg.get i with fly := rest } 0).inc (mrgStat i) f_MOS_MRG_STAT_LATE_CNT).deliver x.markLate := by
  rw [d.arrive_cons hfly]
  simp [hknows, hpassed]

/-- MERGE_ARRIVAL makes what the arrival makes, where the merge point's block is out of reset. -/
theorem makes_mergeArrival {s : State} {dt : Nat} {m : MergeId} {P : Dev → Prop} (hheld : s.dev.isHeld (mergeUnit m) = false)
    (h : P ((s.dev.elapse dt).arrive m)) : Makes (.mergeArrival dt m) s P := by
  refine makes_of_after rfl ?_
  rwa [if_neg (by rw [Dev.elapse_isHeld, hheld]; exact Bool.false_ne_true)]

/-- Settles O28, clause by clause: `Dev.arrive_held`, `Dev.arrive_awaiting` and `Dev.arrive_late` say what the arrival makes, and
`releaseLoop_rings` what the release delivers. -/
theorem mergePoints : Obligations.MergePoints := by
  intro s dt m
  refine ⟨?held, ?awaiting, ?late, ?release⟩
  case held =>
    intro x rest hout hfly hepoch hheld hgone hlast hstep hdue
    refine makes_mergeArrival hout ?_
    rw [(s.dev.elapse dt).arrive_held hfly (MergePt.knows_eq_false hheld hgone) hepoch (MergePt.passed_eq_false hlast) hstep hdue]
    simp
  case awaiting =>
    intro x r rest hout hfly hring hepoch hstep hheld hgone hlast
    have hknows := MergePt.knows_eq_false (m := s.dev.mrg.get m) (x := x) (by rw [hheld]; rfl) hgone
    refine makes_mergeArrival hout ?_
    rw [(s.dev.elapse dt).arrive_awaiting hfly hknows hepoch (MergePt.passed_eq_false hlast) hstep, Dev.deliver_ring _ hring, Dev.setMerge_zero]
    simp [hheld]
  case late =>
    intro x r rest st hout hfly hring hlast hprec hheld hgone
    have hpassed : (s.dev.mrg.get m).passed x = true := by rw [MergePt.passed, hlast]; exact hprec
    obtain ⟨r', hr'⟩ := Item.markLate_ring hring
    refine makes_mergeArrival hout ?_
    rw [(s.dev.elapse dt).arrive_late hfly (MergePt.knows_eq_false hheld hgone) hpassed, Dev.deliver_ring _ hr', Dev.setMerge_zero]
    exact ⟨by simp, by simpa using hlast, Dev.rdF_inc_self _ _ _ 1 (by decide)⟩
  case release =>
    intro rs hrings
    refine makes_of_after rfl ?_
    simp only [Dev.releaseMerge, Dev.elapse_mrg]
    rw [Dev.deliverAll_rings (releaseLoop_rings _ hrings)]
    simp

end Sys2Proof.Machine
end

section
/-! Why CLOCK_GOOD may leave an island without clock-good. The lanes of a quad that had lost its PLL restart with it (R429); an Ethernet lane that
restarts brings PORT_MODE into force, and where that changes the design rate of quad 12 the quad's clock-good is false again until its PLL has
relocked (R416, R436). What falls due in the same step cannot hide that, as it would leave a unit in reset or an error on its way. -/

namespace Sys2Proof.Machine

/-! ### What falls due either shows or leaves clock-good alone -/

theorem Dev.alertFrom_rst (d : Dev) (was : Bool) : (d.alertFrom was).rst = d.rst := by
  unfold Dev.alertFrom
  split
  · rfl
  · rfl

theorem Dev.ownChange_rst (d : Dev) (f : Dev → Dev) : (d.ownChange f).rst = (f d).rst := by
  simp only [Dev.ownChange]
  split
  · rfl
  · rfl

/-- A unit that is reset is held. -/
theorem Dev.resetUnit_held_ne_nil (d : Dev) (alone : Bool) (u : RUnit) : (d.resetUnit alone u).rst.held ≠ [] :=
  List.append_ne_nil_of_right_ne_nil _ (List.cons_ne_nil _ _)

theorem Dev.resetNow_held_ne_nil (d : Dev) (u : RUnit) : (d.resetNow u).rst.held ≠ [] := by
  have halert := ((d.takePending u).roleBack u).resetUnit_held_ne_nil true u
  rw [← Dev.alertFrom_rst _ d.smbAlert] at halert
  rw [Dev.resetNow, Dev.ownChange_rst]
  dsimp only
  split
  · exact halert
  · exact halert

/-- The resets that waited either have not come, or leave a unit held. -/
theorem Dev.idleResets_eq_or_held (d : Dev) : d.idleResets = d ∨ d.idleResets.rst.held ≠ [] := by
  unfold Dev.idleResets
  generalize d.rst.idle = waiting
  induction waiting generalizing d with
  | nil => exact .inl rfl
  | cons q waiting ih =>
    rw [List.foldl_cons]
    by_cases hidle : d.junctionItems q.unit = 0
    · rw [if_pos hidle]
      obtain heq | hheld := ih (d.resetNow q.unit)
      · exact .inr (by rw [heq]; exact d.resetNow_held_ne_nil q.unit)
      · exact .inr hheld
    · rw [if_neg hidle]
      exact ih d

/-- A reset of L2 or L3 leaves units held. -/
theorem Dev.resetWide_held_ne_nil (d : Dev) (level : Nat) (src : ResetSrc) : (d.resetWide level src).rst.held ≠ [] := by
  have hscope : wideScope level ≠ [] := by
    unfold wideScope
    split
    · decide
    · decide
  have hfold (d : Dev) : ((wideScope level).foldl (fun d u => d.resetUnit false u) d).rst.held ≠ [] := by
    obtain hnil | ⟨us, u, hus⟩ := (wideScope level).eq_nil_or_concat
    · exact absurd hnil hscope
    · rw [hus, List.concat_eq_append, List.foldl_concat]
      exact Dev.resetUnit_held_ne_nil _ _ _
  simp only [Dev.resetWide, Dev.emit_rst, Dev.alertFrom_rst]
  exact hfold _

/-- FATAL_ERR either leaves a unit held, or leaves clock-good and the merge points alone. -/
theorem Dev.assertReset_fatalErr (d : Dev) :
    (d.assertReset .fatalErr).rst.held ≠ [] ∨
      ((d.assertReset .fatalErr).rst.clkGood = d.rst.clkGood ∧ (d.assertReset .fatalErr).mrg = d.mrg) := by
  simp only [Dev.assertReset]
  split
  next => exact .inl (by simp [Dev.resetAll, ResetSt.reset, allUnits])
  next =>
    split
    next =>
      split
      next => exact .inr ⟨rfl, rfl⟩
      next => exact .inl (Dev.resetWide_held_ne_nil _ _ _)
    next =>
      split
      next => exact .inr ⟨rfl, rfl⟩
      next => exact .inr ⟨rfl, rfl⟩

/-- An error reported is on its way to the error merge point. -/
theorem Dev.reportErr_fly_ne_nil (d : Dev) (code origin info : Nat) : (d.reportErr code origin info).mrg.err.fly ≠ [] := by
  simp [Dev.reportErr, Dev.reportAs, Dev.fly, Merges.get, Merges.set]

/-- The report of a profile found over, where it is due (R67). -/
def Dev.profileReported (d : Dev) : Dev :=
  if d.err.profileDue then ({ d with err := { d.err with profileDue := false } } : Dev).reportErr 0x15 43 d.mode.cur.code else d

/-- The reset of an error mapped to RESET, where it is due (R494). -/
def Dev.fatalAsserted (d : Dev) : Dev :=
  if d.err.resetDue then ({ d with err := { d.err with resetDue := false } } : Dev).assertReset .fatalErr else d

theorem Dev.settle_eq (d : Dev) : d.settle = d.profileReported.fatalAsserted.idleResets := rfl

theorem Dev.profileReported_eq_or_fly (d : Dev) : d.profileReported = d ∨ d.profileReported.mrg.err.fly ≠ [] := by
  unfold Dev.profileReported
  split
  · exact .inr (Dev.reportErr_fly_ne_nil _ _ _ _)
  · exact .inl rfl

theorem Dev.fatalAsserted_held_or_same (d : Dev) :
    d.fatalAsserted.rst.held ≠ [] ∨ (d.fatalAsserted.rst.clkGood = d.rst.clkGood ∧ d.fatalAsserted.mrg = d.mrg) := by
  unfold Dev.fatalAsserted
  split
  · exact Dev.assertReset_fatalErr _
  · exact .inr ⟨rfl, rfl⟩

/-- Where no unit is held and no error is on its way after what falls due, that has left clock-good alone. -/
theorem Dev.settle_clkGood (d : Dev) (hheld : d.settle.rst.held = []) (hfly : d.settle.mrg.err.fly = []) :
    d.settle.rst.clkGood = d.rst.clkGood := by
  rw [d.settle_eq] at hheld hfly ⊢
  have hidle := (Dev.idleResets_eq_or_held d.profileReported.fatalAsserted).resolve_right (not_not_intro hheld)
  rw [hidle] at hheld hfly ⊢
  obtain ⟨hclk, hmrg⟩ := (Dev.fatalAsserted_held_or_same d.profileReported).resolve_left (not_not_intro hheld)
  rw [hmrg] at hfly
  rw [hclk, d.profileReported_eq_or_fly.resolve_right (not_not_intro hfly)]

theorem State.put_rst (s : State) (d : Dev) : (s.put d).dev.rst = d.rst := by
  obtain ⟨m, hm⟩ := s.put_dev d
  rw [hm]

theorem State.put_mrg (s : State) (d : Dev) : (s.put d).dev.mrg = d.mrg := by
  obtain ⟨m, hm⟩ := s.put_dev d
  rw [hm]

/-- A command that leaves no unit held, no error on its way and an island without clock-good makes no block in which that island has it. -/
theorem not_makes_clockGood {c : Instr} {s : State} {e : Dev} {i : Nat} (hexec : exec c s = .next (s.put e)) (hheld : e.rst.held = [])
    (hfly : e.mrg.err.fly = []) (hclk : e.clockGood i = false) : ¬ Makes c s (fun d => d.clockGood i = true) := by
  rintro ⟨d, hd, hgood⟩
  have hput : s.put d.settle = s.put e := Host.Outcome.next.inj (hd.symm.trans hexec)
  have hrst : d.settle.rst = e.rst := by rw [← s.put_rst, hput, s.put_rst]
  have hmrg : d.settle.mrg = e.mrg := by rw [← s.put_mrg, hput, s.put_mrg]
  have hsame := d.settle_clkGood (by rw [hrst, hheld]) (by rw [hmrg, hfly])
  rw [Dev.clockGood, ← hsame, hrst] at hgood
  exact Bool.false_ne_true (hclk.symm.trans hgood)

/-! ### The counterexample -/

/-- Quad 12 has lost its PLL, with lane 48 up; then the host has written PORT_MODE 1, where 0 is in force. -/
def portModeChanged : Dev := { Dev.reset with
  rst := { ResetSt.reset with held := [], pinLow := false, clkGood := ~~~ BitVec.ofNat 40 (2 ^ 15), fwDone := true }
  mode := { ModeSt.reset with starting := false }
  regs := RegStore.put [] a_ETH_CFG (fset 0 f_ETH_CFG_PORT_MODE 1)
  lanes := List.replicate 48 .reset ++ [{ LaneSt.reset with unlocked := true }] }

/-- The block that CLOCK_GOOD of quad 12's island makes of it. -/
def portModeRelocks : Dev := ({ portModeChanged with rst := { portModeChanged.rst with clkGood := BitVec.allOnes 40 } } : Dev).pllLocked 12

theorem portModeRelocks_facts : portModeRelocks.calm = true ∧ portModeRelocks.rst.held = [] ∧ portModeRelocks.mrg.err.fly = [] ∧
    portModeRelocks.clockGood 15 = false := by
  decide +kernel

/-- The PLL locks, the lane restarts and brings PORT_MODE into force, and the quad waits for its PLL at the new rate. -/
theorem exec_clockGood_portModeChanged :
    exec (.clockGood 0 15) ⟨portModeChanged, [], []⟩ = .next (State.put ⟨portModeChanged, [], []⟩ portModeRelocks) := by
  rw [← portModeRelocks.settle_of_calm portModeRelocks_facts.1]
  rfl

/-- Refutes O16, in its clause about CLOCK_GOOD: after CLOCK_GOOD of quad 12's island (15) with a new PORT_MODE written, that island is without
clock-good, as its PLL has to relock at the new rate (R416, R436). -/
theorem not_powerAndClocks : ¬ Obligations.PowerAndClocks := by
  intro h
  obtain ⟨-, -, -, hclock⟩ := h ⟨portModeChanged, [], []⟩ 0
  obtain ⟨⟨d, hd, hgood⟩, -⟩ := hclock 15 15
  obtain ⟨-, hheld, hfly, hclk⟩ := portModeRelocks_facts
  exact not_makes_clockGood exec_clockGood_portModeChanged hheld hfly hclk ⟨d, hd, by simpa using hgood⟩

end Sys2Proof.Machine
end

section
namespace Sys2Proof.Machine

/-! ### Loops -/

/-- What every step of a loop leaves alone, the loop leaves alone. -/
theorem foldl_leaves {α β : Type} {π : Dev → β} {f : Dev → α → Dev} (h : ∀ d x, π (f d x) = π d) (l : List α) (d : Dev) :
    π (l.foldl f d) = π d :=
  List.foldlRecOn l f (motive := fun e => π e = π d) rfl (fun e he x _ => (h e x).trans he)

theorem iter_leaves {β : Type} {π : Dev → β} {f : Nat → Dev → Dev} (h : ∀ i d, π (f i d) = π d) (n : Nat) (d : Dev) :
    π (iter n f d) = π d :=
  foldl_leaves (fun d i => h i d) _ d

/-! ### What housekeeping leaves alone -/

/-- What reports, responses, pins, engines, profiles and the end of an acquisition leave alone: the mode in force with its cause, start-up and the
ripcord, the numbering of commands, the item rings, where the mailboxes other than 15 respond, and the windows of merge points that are empty. -/
structure Dev.Keeps (d e : Dev) : Prop where
  starting : e.mode.starting = d.mode.starting
  cur : e.mode.cur = d.mode.cur
  safeCause : e.mode.safeCause = d.mode.safeCause
  ripcord : e.mode.ripcord = d.mode.ripcord
  nextId : e.keel.nextId = d.keel.nextId
  fwd : d.keel.fwd = [] → e.keel.fwd = []
  ring : ∀ r, 16 ≤ r → e.ring r = d.ring r
  mbxCfg : ∀ a, 0x50000 ≤ a → a < 0x50078 → e.rd a = d.rd a
  held : ∀ i, (d.mrg.get i).held = [] → (e.mrg.get i).held = []

theorem Dev.Keeps.refl (d : Dev) : d.Keeps d :=
  ⟨rfl, rfl, rfl, rfl, rfl, id, fun _ _ => rfl, fun _ _ _ => rfl, fun _ => id⟩

theorem Dev.Keeps.trans {d e f : Dev} (h : d.Keeps e) (k : e.Keeps f) : d.Keeps f where
  starting := k.starting.trans h.starting
  cur := k.cur.trans h.cur
  safeCause := k.safeCause.trans h.safeCause
  ripcord := k.ripcord.trans h.ripcord
  nextId := k.nextId.trans h.nextId
  fwd hd := k.fwd (h.fwd hd)
  ring r hr := (k.ring r hr).trans (h.ring r hr)
  mbxCfg a hlo hhi := (k.mbxCfg a hlo hhi).trans (h.mbxCfg a hlo hhi)
  held i hi := k.held i (h.held i hi)

theorem Dev.Keeps.foldl {α : Type} {f : Dev → α → Dev} (h : ∀ (d : Dev) x, d.Keeps (f d x)) (l : List α) (d : Dev) : d.Keeps (l.foldl f d) :=
  List.foldlRecOn l f (motive := fun e => d.Keeps e) (.refl d) (fun e he x _ => he.trans (h e x))

theorem Dev.Keeps.iter {f : Nat → Dev → Dev} (h : ∀ i (d : Dev), d.Keeps (f i d)) (n : Nat) (d : Dev) : d.Keeps (Sys2Proof.Machine.iter n f d) :=
  .foldl (fun d i => h i d) _ d

/-- A change elsewhere in the block. -/
theorem Dev.Keeps.of_same {d e : Dev} (hmode : e.mode = d.mode) (hkeel : e.keel = d.keel) (hrings : e.host.rings = d.host.rings)
    (hregs : e.regs = d.regs) (hnv : e.nv = d.nv) (hmrg : e.mrg = d.mrg) : d.Keeps e where
  starting := by rw [hmode]
  cur := by rw [hmode]
  safeCause := by rw [hmode]
  ripcord := by rw [hmode]
  nextId := by rw [hkeel]
  fwd := by rw [hkeel]; exact id
  ring r _ := by rw [Dev.ring, Dev.ring, hrings]
  mbxCfg a _ _ := Dev.rd_congr hregs hnv a
  held i := by rw [hmrg]; exact id

/-- A register other than MBX.CFG of mailboxes 0 to 14 is set. -/
theorem Dev.keeps_wr (d : Dev) {a : Nat} (v : W64) (h : a < 0x50000 ∨ 0x50078 ≤ a) : d.Keeps (d.wr a v) :=
  ⟨rfl, rfl, rfl, rfl, rfl, id, fun _ _ => rfl, fun _ _ _ => d.rd_wr_ne v (by omega), fun _ => id⟩

theorem Dev.keeps_wrF (d : Dev) {a : Nat} (f : Fld) (n : Nat) (h : a < 0x50000 ∨ 0x50078 ≤ a) : d.Keeps (d.wrF a f n) := d.keeps_wr _ h

theorem Dev.keeps_wrB (d : Dev) {a : Nat} (f : Fld) (b : Bool) (h : a < 0x50000 ∨ 0x50078 ≤ a) : d.Keeps (d.wrB a f b) := d.keeps_wr _ h

theorem Dev.keeps_inc (d : Dev) {a : Nat} (f : Fld) (n : Nat) (h : a < 0x50000 ∨ 0x50078 ≤ a) : d.Keeps (d.inc a f n) :=
  (d.keeps_wr _ h).trans (.of_same rfl rfl rfl rfl rfl rfl)

theorem Dev.keeps_flag (d : Dev) {a : Nat} (f : Fld) (n : Nat) (h : a < 0x50000 ∨ 0x50078 ≤ a) : d.Keeps (d.flag a f n) :=
  (d.keeps_wrF f _ h).trans (.of_same rfl rfl rfl rfl rfl rfl)

theorem Dev.keeps_wrForce (d : Dev) {a : Nat} (f : Fld) (n : Nat) (h : a < 0x50000 ∨ 0x50078 ≤ a) : d.Keeps (d.wrForce a f n) :=
  (d.keeps_wr (fset (d.rd a) f n) h).trans (.of_same rfl rfl rfl rfl rfl rfl)

theorem Dev.keeps_emit (d : Dev) (o : Out) : d.Keeps (d.emit o) := .of_same rfl rfl rfl rfl rfl rfl

theorem Dev.keeps_toRing (d : Dev) (x : RingItem) : d.Keeps (d.toRing x) := .of_same rfl rfl rfl rfl rfl rfl

theorem Dev.keeps_mkStamp (d : Dev) (o : Nat) (t : W64) : d.Keeps (d.mkStamp o t).2 := .of_same rfl rfl rfl rfl rfl rfl

theorem Dev.keeps_charge (d : Dev) (c : Nat) (x : Demand) : d.Keeps (d.charge c x) := .of_same rfl rfl rfl rfl rfl rfl

theorem alGet_alSet_ne {α : Type} (l : List (Nat × α)) {k j : Nat} (v d : α) (h : j ≠ k) : alGet (alSet l k v) j d = alGet l j d := by
  induction l with
  | nil => simp [alSet, alGet, Ne.symm h]
  | cons p l ih =>
    unfold alSet
    split
    next hp => simp [alGet, Ne.symm h, hp]
    next hp =>
      split
      · simp [alGet, Ne.symm h]
      · by_cases hj : p.1 = j
        · simp [alGet, hj]
        · simpa [alGet, hj] using ih

theorem Merges.get_set_ne (m : Merges) {i j : MergeId} (x : MergePt Item) (h : j ≠ i) : (m.set i x).get j = m.get j := by
  cases i <;> cases j <;> simp [Merges.get, Merges.set] at h ⊢

/-- A merge point is stored whose window is empty where it was. -/
theorem Dev.keeps_setMrg (d : Dev) (i : MergeId) (x : MergePt Item) (h : (d.mrg.get i).held = [] → x.held = []) :
    d.Keeps { d with mrg := d.mrg.set i x } := by
  refine ⟨rfl, rfl, rfl, rfl, rfl, id, fun _ _ => rfl, fun _ _ _ => rfl, fun j hj => ?_⟩
  by_cases hij : j = i
  · subst hij
    rw [Merges.get_set_self]
    exact h hj
  · rwa [Merges.get_set_ne _ _ hij]

theorem Dev.keeps_fly (d : Dev) (i : MergeId) (x : Item) : d.Keeps (d.fly i x) := d.keeps_setMrg i _ id

/-! ### Responses and ends of commands -/

theorem Dev.keeps_ridge (d : Dev) (typ : Nat) (body : List Byte) : d.Keeps (d.ridge typ body) := by
  simp only [Dev.ridge]
  split
  · exact .refl d
  · exact .of_same rfl rfl rfl rfl rfl rfl

theorem Dev.keeps_respond (d : Dev) (opcode : Nat) (h : EnvHdr) (status : Nat) (interim : Bool) (line : W64) (body : List Byte) :
    d.Keeps (d.respond opcode h status interim line body) := by
  refine (d.keeps_mkStamp 63 d.now).trans ?_
  simp only [Dev.respond]
  split
  · exact Dev.keeps_ridge _ _ _
  · split
    · exact Dev.keeps_toRing _ _
    · exact Dev.keeps_inc _ _ _ (by unfold a_MBX_STAT; omega)

/-- What the Keel holds of commands changes, but for their numbering and those the partner runs. -/
theorem Dev.keeps_keel (d : Dev) (k : Keel) (hid : k.nextId = d.keel.nextId) (hfwd : d.keel.fwd = [] → k.fwd = []) :
    d.Keeps { d with keel := k } :=
  ⟨rfl, rfl, rfl, rfl, hid, hfwd, fun _ _ => rfl, fun _ _ _ => rfl, fun _ => id⟩

/-- What the mode keeps besides the mode in force changes. -/
theorem Dev.keeps_mode (d : Dev) (m : ModeSt) (hs : m.starting = d.mode.starting) (hc : m.cur = d.mode.cur) (ha : m.safeCause = d.mode.safeCause)
    (hr : m.ripcord = d.mode.ripcord) : d.Keeps { d with mode := m } :=
  ⟨hs, hc, ha, hr, rfl, id, fun _ _ => rfl, fun _ _ _ => rfl, fun _ => id⟩

theorem Dev.keeps_answer (d : Dev) (id : Nat) (cmd : Cmd) (h : EnvHdr) (status : Nat) (line : W64) (body : List Byte) :
    d.Keeps (d.answer id cmd h status line body) := by
  unfold Dev.answer
  refine .trans ?_ (Dev.keeps_keel _ _ rfl fun h => h)
  split
  · exact .refl d
  · exact d.keeps_respond _ _ _ _ _ _

theorem Dev.keeps_finalResp (d : Dev) (id : Nat) (cmd : Cmd) (h : EnvHdr) (status : Nat) (line : W64) (body : List Byte) :
    d.Keeps (d.finalResp id cmd h status line body) := by
  unfold Dev.finalResp
  split
  · exact d.keeps_answer _ _ _ _ _ _
  · split
    · exact .trans (d.keeps_keel { d.keel with fwd := d.keel.fwd.filter (fun g => g.id ≠ id) } rfl (fun hf => by simp [hf]))
        (Dev.keeps_answer _ _ _ _ _ _ _)
    · exact d.keeps_keel _ rfl (fun hf => by simp [hf])

theorem Dev.keeps_finish (d : Dev) (id status : Nat) (line : W64) (body : List Byte) : d.Keeps (d.finish id status line body) := by
  unfold Dev.finish
  split
  · exact .refl d
  · refine .trans ?_ (Dev.keeps_finalResp _ _ _ _ _ _ _)
    exact d.keeps_keel _ rfl fun h => h

theorem Dev.keeps_cancelWaiting (d : Dev) (m : Fin 16) : d.Keeps (d.cancelWaiting m) := by
  unfold Dev.cancelWaiting
  refine .trans ?_ (.foldl (fun d _ => d.keeps_answer _ _ _ _ _ _) _ _)
  exact d.keeps_keel _ rfl fun h => h

/-! ### Profiles -/

theorem Dev.keeps_loadProfile (d : Dev) (m : Nat) : d.Keeps (d.loadProfile m) := by
  unfold Dev.loadProfile
  split
  · refine .trans ?_ (.iter (fun c d => d.keeps_wr _ (by unfold a_BAL_ACTIVE; omega)) _ _)
    exact .of_same rfl rfl rfl rfl rfl rfl
  · exact .of_same rfl rfl rfl rfl rfl rfl

theorem Dev.keeps_endService (d : Dev) (id status : Nat) (line : W64) (body : List Byte) : d.Keeps (d.endService id status line body) := by
  unfold Dev.endService
  refine .trans ?_ (Dev.keeps_finish _ _ _ _ _)
  split
  · refine .trans ?_ (Dev.keeps_loadProfile _ _)
    exact d.keeps_mode _ rfl rfl rfl rfl
  · exact .refl d

/-! ### Pins -/

theorem Dev.keeps_mkoPinsSafe (d : Dev) : d.Keeps d.mkoPinsSafe := by
  unfold Dev.mkoPinsSafe
  refine .trans ?_ (.iter (fun _ d => d.keeps_emit _) _ _)
  exact .of_same rfl rfl rfl rfl rfl rfl

theorem Dev.keeps_wpuPinsSafe (d : Dev) : d.Keeps d.wpuPinsSafe := by
  unfold Dev.wpuPinsSafe
  refine .trans (.trans ?_ (Dev.keeps_mkoPinsSafe _)) (.iter (fun _ d => d.keeps_emit _) _ _)
  exact .of_same rfl rfl rfl rfl rfl rfl

theorem Dev.keeps_evioPinsSafe (d : Dev) : d.Keeps d.evioPinsSafe := by
  unfold Dev.evioPinsSafe
  refine .trans ?_ (.iter (fun n d => ?_) _ _)
  · exact .of_same rfl rfl rfl rfl rfl rfl
  · split
    · exact d.keeps_emit _
    · exact .refl d

theorem Dev.keeps_outputsIdle (d : Dev) : d.Keeps d.outputsIdle := by
  unfold Dev.outputsIdle
  refine .trans (.trans (.iter (fun n d => ?_) _ _) (.iter (fun n d => ?_) _ _)) (.iter (fun n d => ?_) _ _)
  · split
    · exact .refl d
    · exact d.keeps_emit _
  · split
    · split
      · exact .refl d
      · exact d.keeps_emit _
    · exact .refl d
  · extract_lets busy high
    split
    · exact d.keeps_emit _
    · exact .refl d

theorem Dev.keeps_alertFrom (d : Dev) (was : Bool) : d.Keeps (d.alertFrom was) := by
  unfold Dev.alertFrom
  split
  · exact .refl d
  · exact d.keeps_emit _

/-! ### The end of an acquisition -/

theorem Dev.keeps_hbmPut (d : Dev) (a : Nat) (bs : List Byte) : d.Keeps (d.hbmPut a bs) := by
  unfold Dev.hbmPut
  split
  · exact .of_same rfl rfl rfl rfl rfl rfl
  · exact .refl d

theorem Dev.keeps_setEngine (d : Dev) (e : Nat) (x : EngSt) (state : Nat) : d.Keeps (d.setEngine e x state) := by
  have haddr : a_THA_ENG_STAT e < 0x50000 ∨ 0x50078 ≤ a_THA_ENG_STAT e := by unfold a_THA_ENG_STAT; omega
  unfold Dev.setEngine
  refine .trans (.trans (.trans (.trans ?_ (Dev.keeps_wrF _ _ _ haddr)) (Dev.keeps_wrF _ _ _ haddr)) (Dev.keeps_wrB _ _ _ haddr))
    (Dev.keeps_wrF _ _ _ haddr)
  exact .of_same rfl rfl rfl rfl rfl rfl

theorem Dev.keeps_freeOwn (d : Dev) (c : Nat) : d.Keeps (d.freeOwn c) := by
  refine .iter (fun e d => ?_) _ _
  split
  · split
    · exact d.keeps_setEngine _ _ _
    · exact .refl d
  · exact .refl d

theorem Dev.keeps_noteShort (d : Dev) (c : Nat) : d.Keeps (d.noteShort c) := by
  unfold Dev.noteShort
  split
  · exact .refl d
  · exact .of_same rfl rfl rfl rfl rfl rfl

theorem Dev.keeps_engWrote (d : Dev) (e : Nat) (j : ThaJob) (x y : EngSt) (w : List Byte) (cycles : Nat) :
    d.Keeps (d.engWrote e j x y w cycles) := by
  have haddr : a_THA_ENG_CNT e < 0x50000 ∨ 0x50078 ≤ a_THA_ENG_CNT e := by unfold a_THA_ENG_CNT; omega
  unfold Dev.engWrote
  refine .trans (.trans ?_ (Dev.keeps_inc _ _ _ haddr)) (Dev.keeps_inc _ _ _ haddr)
  split
  · exact d.keeps_charge _ _
  · exact .trans (d.keeps_charge _ _) (Dev.keeps_hbmPut _ _ _)

theorem Dev.keeps_engRun (d : Dev) (e : Nat) : d.Keeps (d.engRun e) := by
  unfold Dev.engRun
  extract_lets x
  split
  · exact .refl d
  · extract_lets c n
    split
    · split
      · exact .trans (d.keeps_noteShort _) (Dev.keeps_setEngine _ _ _ _)
      · split
        · exact d.keeps_setEngine _ _ _
        · exact d.keeps_setEngine _ _ _
    · split
      extract_lets short e
      refine .trans ?_ (Dev.keeps_setEngine _ _ _ _)
      split
      · exact .trans (d.keeps_engWrote _ _ _ _ _ _) (Dev.keeps_noteShort _ _)
      · exact d.keeps_engWrote _ _ _ _ _ _

theorem Dev.keeps_jobDone (d : Dev) (e : Nat) : d.Keeps (d.jobDone e).1 := by
  unfold Dev.jobDone
  extract_lets x
  split
  · exact .refl d
  · split
    · exact .refl d
    · split
      split
      · exact .trans (d.keeps_engWrote _ _ _ _ _ _) (Dev.keeps_setEngine _ _ _ _)
      · extract_lets r
        split
        exact .trans (.trans (d.keeps_engWrote _ _ _ _ _ _) (Dev.keeps_setEngine _ _ _ _)) (Dev.keeps_emit _ _)

theorem Dev.keeps_engineStops (d : Dev) : d.Keeps d.engineStops := by
  unfold Dev.engineStops
  refine .iter (fun e d => ?_) _ _
  split
  · exact .refl d
  · split
    · exact .refl d
    · extract_lets d' x
      refine (d.keeps_engRun e).trans ?_
      split
      · exact .refl _
      · exact .trans (Dev.keeps_setEngine _ _ _ _) (Dev.keeps_jobDone _ _)

theorem Dev.keeps_growObject (d : Dev) (content obj : Nat) (bs : List Byte) (complete trunc : Bool) :
    d.Keeps (d.growObject content obj bs complete trunc) := by
  unfold Dev.growObject
  extract_lets f g m
  refine .trans (d.keeps_setMrg .record { m with fly := m.fly.map g, held := m.held.map (fun p => (g p.1, p.2)) } fun h => ?_)
    (.of_same rfl rfl rfl rfl rfl rfl)
  simpa [Merges.get] using h

theorem Dev.keeps_growObject_rec (d : Dev) (r : RecSt) (content obj : Nat) (bs : List Byte) (complete trunc : Bool) :
    d.Keeps (({ d with cls := { d.cls with rec_ := r } } : Dev).growObject content obj bs complete trunc) := by
  refine .trans ?_ (Dev.keeps_growObject _ _ _ _ _ _)
  exact .of_same rfl rfl rfl rfl rfl rfl

theorem Dev.keeps_stagePut (d : Dev) (bs : List Byte) (complete trunc : Bool) : d.Keeps (d.stagePut bs complete trunc) :=
  .trans (.trans (d.keeps_hbmPut _ _) (Dev.keeps_hbmPut _ _ _)) (Dev.keeps_growObject_rec _ _ _ _ _ _ _)

theorem Dev.keeps_closeSegment (d : Dev) (trunc : Bool) : d.Keeps (d.closeSegment trunc) := by
  unfold Dev.closeSegment
  split
  · exact .refl d
  · refine .trans (.trans ?_ (Dev.keeps_freeOwn _ _)) (Dev.keeps_stagePut _ _ _ _)
    exact .of_same rfl rfl rfl rfl rfl rfl

theorem Dev.keeps_stopJobs (d : Dev) : d.Keeps d.stopJobs := by
  unfold Dev.stopJobs
  refine .trans (.trans ?_ (Dev.keeps_closeSegment _ _)) (Dev.keeps_engineStops _)
  exact .of_same rfl rfl rfl rfl rfl rfl

theorem Dev.keeps_captureAbort (d : Dev) : d.Keeps d.captureAbort := by
  have haddr : a_SEG_REP_CAPTURE < 0x50000 ∨ 0x50078 ≤ a_SEG_REP_CAPTURE := by unfold a_SEG_REP_CAPTURE; omega
  unfold Dev.captureAbort
  split
  · refine .trans (.trans ?_ (Dev.keeps_wrF _ _ _ haddr)) (Dev.keeps_wrB _ _ _ haddr)
    exact .of_same rfl rfl rfl rfl rfl rfl
  · exact .refl d

theorem Dev.keeps_acqStops (d : Dev) : d.Keeps d.acqStops := by
  unfold Dev.acqStops
  refine .trans (.trans (.trans ?_ (Dev.keeps_stopJobs _)) (Dev.keeps_captureAbort _)) (.iter (fun n d => ?_) _ _)
  · exact .of_same rfl rfl rfl rfl rfl rfl
  · split
    · exact d.keeps_wrForce _ _ (by unfold a_PIPE_ROLE; omega)
    · exact .refl d

theorem Dev.keeps_closeAfterLast (d : Dev) (bit : Nat) : d.Keeps (d.closeAfterLast bit) := by
  unfold Dev.closeAfterLast
  split
  · exact .of_same rfl rfl rfl rfl rfl rfl
  · exact .refl d

end Sys2Proof.Machine
end

section
namespace Sys2Proof.Machine

/-! ### The pair -/

theorem Dev.keeps_setRing15 (d : Dev) (c : RingCtx) : d.Keeps (d.setRing 15 c) := by
  refine ⟨rfl, rfl, rfl, rfl, rfl, id, fun r hr => ?_, fun _ _ _ => rfl, fun _ => id⟩
  simp only [Dev.ring, Dev.setRing, alGet_alSet_ne _ _ _ (show r ≠ 15 by omega)]

theorem Dev.keeps_fwdAlone (d : Dev) : d.Keeps d.fwdAlone := by
  unfold Dev.fwdAlone
  refine .trans (e := { d with keel := { d.keel with fwd := [] } }) (d.keeps_keel _ rfl fun _ => rfl) (.foldl (fun d f => ?_) _ _)
  split
  · exact d.keeps_answer _ _ _ _ _ _
  · exact .refl d

theorem Dev.keeps_pairClosed (d : Dev) : d.Keeps d.pairClosed := by
  unfold Dev.pairClosed
  extract_lets d1 d2
  have h1 : d.Keeps d1 := by
    unfold d1
    split
    · exact d.keeps_wrB _ _ (by unfold a_MBX_CFG; omega)
    · exact .refl d
  have h2 : d1.Keeps d2 := by
    unfold d2
    split
    · exact d1.keeps_setRing15 _
    · exact .refl d1
  refine .trans (.trans ?_ (Dev.keeps_cancelWaiting _ _)) (Dev.keeps_fwdAlone _)
  exact (h1.trans h2).trans (.of_same rfl rfl rfl rfl rfl rfl)

theorem Dev.keeps_cancelOwned (d : Dev) : d.Keeps d.cancelOwned := by
  unfold Dev.cancelOwned
  extract_lets gone k d1 d2 l m c p d3
  have h1 : d.Keeps d1 := d.keeps_keel _ rfl fun hf => by simp [hf]
  have h2 : d1.Keeps d2 := by
    refine .foldl (fun d f => ?_) _ _
    split
    · exact d.keeps_answer _ _ _ _ _ _
    · exact .refl d
  have h3 : d2.Keeps d3 := .trans (d2.keeps_mode d3.mode rfl rfl rfl rfl) (.of_same rfl rfl rfl rfl rfl rfl)
  exact ((h1.trans h2).trans h3).trans (.foldl (fun d p => d.keeps_endService _ _ _ _) _ _)

theorem Dev.keeps_leavePair (d : Dev) : d.Keeps d.leavePair := by
  have hstat : a_RDG_STAT < 0x50000 ∨ 0x50078 ≤ a_RDG_STAT := by unfold a_RDG_STAT; omega
  have hofs : a_RDG_POS_OFS < 0x50000 ∨ 0x50078 ≤ a_RDG_POS_OFS := by unfold a_RDG_POS_OFS; omega
  unfold Dev.leavePair
  split
  · exact .refl d
  · extract_lets ofs d1 hand d2 p d3 d4
    have h1 : d.Keeps d1 := by
      unfold d1
      split
      · exact .refl d
      · exact d.keeps_cancelOwned
    have h2 : d1.Keeps d2 :=
      .trans (.trans (.trans (d1.keeps_wrB _ _ hstat) (Dev.keeps_wrB _ _ _ hstat)) (Dev.keeps_wrB _ _ _ hstat)) (Dev.keeps_wr _ _ hofs)
    have h3 : d2.Keeps d3 := .of_same rfl rfl rfl rfl rfl rfl
    have h4 : d3.Keeps d4 := by
      unfold d4
      clear_value hand
      split
      · exact d3.keeps_finish _ _ _ _
      · exact .refl d3
    exact .trans (.trans (((h1.trans h2).trans h3).trans h4) (Dev.keeps_pairClosed _)) (Dev.keeps_outputsIdle _)

/-! ### SAFE_HOLD -/

theorem Dev.keeps_dropService (d : Dev) : d.Keeps d.dropService := by
  unfold Dev.dropService
  extract_lets sp d0 d1 keep
  have h1 : d.Keeps d1 := by
    unfold d1
    split
    · exact .refl d
    · split
      · exact .of_same rfl rfl rfl rfl rfl rfl
      · refine .trans ?_ (Dev.keeps_wrForce _ _ _ (by unfold a_PIPE_ROLE; omega))
        exact .of_same rfl rfl rfl rfl rfl rfl
  have h2 : d1.Keeps { d1 with keel := { d1.keel with pauseAt := none, paused := false } } := d1.keeps_keel _ rfl fun h => h
  exact (h1.trans h2).trans (.of_same rfl rfl rfl rfl rfl rfl)

theorem Dev.keeps_abortService (d : Dev) : d.Keeps d.abortService := by
  unfold Dev.abortService
  split
  · exact .refl d
  · refine .trans (.trans ?_ (Dev.keeps_dropService _)) (Dev.keeps_finish _ _ _ _ _)
    exact d.keeps_mode _ rfl rfl rfl rfl

theorem Dev.keeps_cancelMode (d : Dev) : d.Keeps d.cancelMode := by
  unfold Dev.cancelMode
  split
  · exact .refl d
  · extract_lets m d1
    have h1 : d.Keeps d1 := d.keeps_mode _ rfl rfl rfl rfl
    split
    · exact h1
    · exact h1.trans (Dev.keeps_finish _ _ _ _ _)

/-- The block with SAFE_HOLD in force and a cause. -/
def Dev.heldSafe (d : Dev) (cause : BitVec 4) : Dev := { d with mode := { d.mode with cur := .safeHold, safeCause := cause } }

theorem Dev.Keeps.heldSafe {d e : Dev} (h : d.Keeps e) (cause : BitVec 4) : (d.heldSafe cause).Keeps (e.heldSafe cause) :=
  ⟨h.starting, rfl, rfl, h.ripcord, h.nextId, h.fwd, h.ring, h.mbxCfg, h.held⟩

/-- In SAFE_HOLD another cause changes nothing of what is kept. -/
theorem Dev.keeps_enterSafe_of_safe (d : Dev) (cause : Nat) (hs : d.mode.starting = false) (hc : d.mode.cur = .safeHold) :
    d.Keeps (d.enterSafe cause) := by
  simp only [Dev.enterSafe, hs, hc, Bool.false_eq_true, if_false, beq_self_eq_true, if_true]
  exact .trans d.keeps_wpuPinsSafe (Dev.keeps_evioPinsSafe _)

/-- Before start-up has ended a cause is kept for its end. -/
theorem Dev.keeps_enterSafe_of_starting (d : Dev) (cause : Nat) (hs : d.mode.starting = true) : d.Keeps (d.enterSafe cause) := by
  simp only [Dev.enterSafe, hs, if_true]
  exact d.keeps_mode _ hs.symm rfl rfl rfl

/-- SAFE_HOLD is entered with a cause. -/
theorem Dev.keeps_enterSafe_of_other (d : Dev) (cause : Nat) (hs : d.mode.starting = false) (hc : d.mode.cur ≠ .safeHold) :
    (d.heldSafe (BitVec.ofNat 4 cause)).Keeps (d.enterSafe cause) := by
  unfold Dev.enterSafe
  extract_lets m was d1 d2 d3 m3 d4 d5 d6
  have h3 : d.Keeps d3 :=
    .trans (.trans (.trans d.keeps_wpuPinsSafe (Dev.keeps_evioPinsSafe _)) (Dev.keeps_cancelMode _)) (Dev.keeps_abortService _)
  have h4 : (d.heldSafe (BitVec.ofNat 4 cause)).Keeps d4 := .trans (h3.heldSafe _) (Dev.keeps_alertFrom _ _)
  have h5 : d4.Keeps d5 := by
    unfold d5
    split
    · exact .trans d4.keeps_acqStops (Dev.keeps_closeAfterLast _ _)
    · exact .refl d4
  have h6 := (h4.trans h5).trans (d5.keeps_loadProfile 7)
  rw [if_neg (by simp [hs]), if_neg (by simpa [was] using hc)]
  split
  · exact h6.trans (Dev.keeps_ridge _ _ _)
  · exact h6

/-- SAFE_HOLD entered or kept, as R63 and R64 have it, and nothing else that is kept changed. -/
theorem Dev.keeps_enterSafe (d : Dev) (cause : Nat) (hs : d.mode.starting = false) :
    (d.heldSafe (if d.mode.cur = .safeHold then d.mode.safeCause else BitVec.ofNat 4 cause)).Keeps (d.enterSafe cause) := by
  by_cases hc : d.mode.cur = .safeHold
  · have hsame : d.heldSafe d.mode.safeCause = d := by simp only [Dev.heldSafe, ← hc]
    rw [if_pos hc, hsame]
    exact d.keeps_enterSafe_of_safe cause hs hc
  · rw [if_neg hc]
    exact d.keeps_enterSafe_of_other cause hs hc

/-! ### Errors -/

/-- What a report does: its entry sets out, and where the error asks for it SAFE_HOLD is entered; else nothing that is kept changes. -/
theorem Dev.reportErr_cases (d : Dev) (code origin info : Nat) :
    ∃ (e : Dev) (x : Item), d.Keeps e ∧ (d.reportErr code origin info = e.fly .err x ∨ d.reportErr code origin info = (e.enterSafe 2).fly .err x) := by
  unfold Dev.reportErr Dev.reportAs
  extract_lets m own mapSafe mapRst fatal rst safe
  split
  next st d1 hstamp =>
  extract_lets entry err d2 d3 err' d4
  have hstat : a_ERR_STAT < 0x50000 ∨ 0x50078 ≤ a_ERR_STAT := by unfold a_ERR_STAT; omega
  have h1 : d.Keeps d1 := by
    have hkeep := d.keeps_mkStamp origin d.now
    rwa [hstamp] at hkeep
  have h2 : d1.Keeps d2 := by
    unfold d2
    split
    · refine .trans ?_ (Dev.keeps_flag _ _ _ hstat)
      exact .of_same rfl rfl rfl rfl rfl rfl
    · exact .refl d1
  have h3 : d2.Keeps d3 := by
    unfold d3
    split
    · exact .trans (d2.keeps_emit _) (Dev.keeps_leavePair _)
    · exact .refl d2
  have hkeep := (h1.trans h2).trans h3
  unfold d4
  split
  · refine ⟨_, _, hkeep.trans ?_, .inl rfl⟩
    exact .of_same rfl rfl rfl rfl rfl rfl
  · split
    · exact ⟨_, _, hkeep, .inr rfl⟩
    · exact ⟨_, _, hkeep, .inl rfl⟩

/-- In SAFE_HOLD an error changes nothing of what is kept. -/
theorem Dev.keeps_reportErr_of_safe (d : Dev) (code origin info : Nat) (hs : d.mode.starting = false) (hc : d.mode.cur = .safeHold) :
    d.Keeps (d.reportErr code origin info) := by
  obtain ⟨e, x, hkeep, h | h⟩ := d.reportErr_cases code origin info
  · rw [h]
    exact hkeep.trans (e.keeps_fly _ _)
  · rw [h]
    exact (hkeep.trans (e.keeps_enterSafe_of_safe 2 (hkeep.starting.trans hs) (hkeep.cur.trans hc))).trans (Dev.keeps_fly _ _ _)

end Sys2Proof.Machine
end

section
namespace Sys2Proof.Machine

/-! ### The ripcord and SAFE_REQ (O21) -/

/-- An assertion of the ripcord that is accepted after start-up enters SAFE_HOLD with cause 1 and reports RIPCORD. -/
theorem Dev.ripcordLow_eq (d : Dev) (hr : d.mode.ripcord = true) (hs : d.mode.starting = false) :
    d.ripcordLow = (({ d with mode := { d.mode with ripcord := false } } : Dev).enterSafe 1).reportErr 0x01 43 0 := by
  simp [Dev.ripcordLow, hr, hs]

/-- The part of an access to DEV.SAFE_REQ. -/
def safeReqPart : Part := ⟨a_DEV_SAFE_REQ, .dev, r_DEV_SAFE_REQ, [], 0, 4, 0⟩

theorem accessParts_safeReq : accessParts a_DEV_SAFE_REQ 4 = some [safeReqPart] := by decide

theorem Dev.writeRefused_safeReq (d : Dev) (src : AccSrc) : d.writeRefused safeReqPart src = false := by
  simp [Dev.writeRefused, safeReqPart, r_DEV_SAFE_REQ]

/-- REQ takes any write, and no W1C bit stands beside it. -/
theorem safeReqPart_facts : safeReqPart.mask &&& f_DEV_SAFE_REQ_REQ.mask ≠ 0 ∧ safeReqPart.mask.getLsbD 0 = true ∧
    safeReqPart.reg.accMask .w1c = 0 ∧ safeReqPart.pends = false := by
  decide

theorem Dev.reaches_safeReq (d : Dev) (data : W64) : fbit (d.reaches safeReqPart data) f_DEV_SAFE_REQ_REQ = data.getLsbD 0 := by
  obtain ⟨-, hmask, hclear, -⟩ := safeReqPart_facts
  have hlay : (safeReqPart.lay data).getLsbD 0 = data.getLsbD 0 := by
    have hsame : safeReqPart.lay data = data &&& safeReqPart.mask := by simp [Part.lay, safeReqPart]
    rw [hsame, BitVec.getLsbD_and, hmask, Bool.and_true]
  have hodd (v : W64) : fbit v f_DEV_SAFE_REQ_REQ = v.getLsbD 0 := by
    simp [fbit, fget, BitVec.getLsbD, Nat.testBit_zero]
    rcases Nat.mod_two_eq_zero_or_one v.toNat with h | h <;> simp [h]
  rw [hodd, Dev.reaches, hclear]
  simpa using hlay

theorem storeFields_safeReq (locked : Bool) (skip : Fld → Bool) (hskip : skip f_DEV_SAFE_REQ_REQ = false) (old new : W64) :
    (storeFields safeReqPart.reg safeReqPart.mask locked skip old new).2.2 = true := by
  obtain ⟨hmask, -⟩ := safeReqPart_facts
  generalize safeReqPart.mask = wm at hmask
  have hmask' : ¬ wm &&& f_DEV_SAFE_REQ_REQ.mask = 0#64 := hmask
  simp [storeFields, safeReqPart, r_DEV_SAFE_REQ, writeField, hskip, hmask']

/-- The write stores REQ and leaves the register as it was: SAFE_REQ itself acts. -/
theorem Dev.writePart_safeReq (d : Dev) (data : W64) (src : AccSrc) (hbit : data.getLsbD 0 = true) (hs : d.mode.starting = false) :
    ∃ e : Dev, d.Keeps e ∧ (d.writePart safeReqPart data src).1 = e.enterSafe 3 := by
  obtain ⟨-, -, -, hpends⟩ := safeReqPart_facts
  have haddr : a_DEV_SAFE_REQ < 0x50000 ∨ 0x50078 ≤ a_DEV_SAFE_REQ := by unfold a_DEV_SAFE_REQ; omega
  have hreq := (d.reaches_safeReq data).trans hbit
  unfold Dev.writePart
  rw [d.writeRefused_safeReq src, if_neg Bool.false_ne_true]
  extract_lets a wm new old part dirKept
  split
  rename_i v bad took hstore
  obtain rfl : took = true := (congrArg (·.2.2) hstore).symm.trans (storeFields_safeReq _ _ rfl _ _)
  extract_lets bad' d1 d2 d3
  have hkeep : d.Keeps d3 := by
    have hsame : d3 = d2 := by simp only [d3, hpends, Bool.false_eq_true, if_false]
    rw [hsame]
    exact .trans (d.keeps_wr v haddr) (.of_same rfl rfl rfl rfl rfl rfl)
  have hstart : d3.mode.starting = false := hkeep.starting.trans hs
  refine ⟨d3.wr a_DEV_SAFE_REQ old, hkeep.trans (d3.keeps_wr old haddr), ?_⟩
  show (d3.wr a_DEV_SAFE_REQ old).safeReqWrite new = _
  simp [Dev.safeReqWrite, show fbit new f_DEV_SAFE_REQ_REQ = true from hreq, hstart]

/-- The low bit of a number comes through the four bytes that carry it. -/
theorem getLsbD_leNat_leBytes (n : Nat) : (BitVec.ofNat 64 (leNat (padTo ((leBytes 4 n).take 4) 4))).getLsbD 0 = n.testBit 0 := by
  have hbytes : padTo ((leBytes 4 n).take 4) 4 = leBytes 4 n := rfl
  rw [hbytes, BitVec.getLsbD_ofNat]
  simp only [leBytes, leNat, Nat.testBit_zero, BitVec.toNat_ofNat]
  simp
  omega

/-- A host write that sets REQ enters SAFE_HOLD with cause 3, whatever else it reports. -/
theorem Dev.hostWrite_safeReq (d : Dev) (data : W32) (hbit : data.getLsbD 0 = true) (hs : d.mode.starting = false) :
    ∃ e : Dev, d.Keeps e ∧ (e.enterSafe 3).Keeps (d.busAccess ⟨false, true, a_DEV_SAFE_REQ, 4, leBytes 4 data.toNat⟩ []) := by
  rw [d.busAccess_write _ (by decide) (by decide) (by decide)]
  generalize hv : BitVec.ofNat 64 (leNat (padTo ((leBytes 4 data.toNat).take 4) 4)) = v
  have hv0 : v.getLsbD 0 = true := by rw [← hv, getLsbD_leNat_leBytes]; exact hbit
  obtain ⟨e, hkeep, heq⟩ := d.writePart_safeReq v .host hv0 hs
  obtain ⟨f, hf, hend⟩ := d.endWrite_regWrite_single v .host (by decide) accessParts_safeReq rfl
  have hplain (x : Dev) : (x.writeTwins safeReqPart v .host).mirrorWrite safeReqPart v .host = x := by
    simp [Dev.writeTwins, Dev.mirrorWrite, safeReqPart, r_DEV_SAFE_REQ]
  rw [hplain, or_self, heq] at hf
  have henter := e.keeps_enterSafe 3 (hkeep.starting.trans hs)
  refine ⟨e, hkeep, ?_⟩
  rcases hend with h | h
  · rw [h, hf]
    exact .refl _
  · rw [h, hf]
    exact Dev.keeps_reportErr_of_safe _ _ _ _ (henter.starting.trans (hkeep.starting.trans hs)) henter.cur

/-- Settles O21: `Dev.keeps_enterSafe` says what entering SAFE_HOLD leaves of the mode, and an error reported in it leaves that alone. -/
theorem safeHoldEntered : Obligations.SafeHoldEntered := by
  intro s dt hs
  refine ⟨?assert, ?request, ?release⟩
  case assert =>
    intro hr
    refine makes_of_after rfl ?_
    let d : Dev := { s.dev.elapse dt with mode := { s.dev.mode with ripcord := false } }
    have henter := d.keeps_enterSafe 1 hs
    have hreport := (d.enterSafe 1).keeps_reportErr_of_safe 1 43 0 (henter.starting.trans hs) henter.cur
    have hkeep := henter.trans hreport
    rw [(s.dev.elapse dt).ripcordLow_eq hr hs]
    exact ⟨hkeep.ripcord, hkeep.cur, hkeep.safeCause⟩
  case request =>
    intro data hbit
    refine makes_of_access rfl ?_
    obtain ⟨e, hkeep, hwrite⟩ := s.dev.hostWrite_safeReq data hbit hs
    have hsafe := (e.keeps_enterSafe 3 (hkeep.starting.trans hs)).trans hwrite
    refine ⟨hsafe.cur, hsafe.ripcord.trans hkeep.ripcord, ?_⟩
    rw [hsafe.safeCause, ← hkeep.cur, ← hkeep.safeCause]
    rfl
  case release => exact makes_of_after rfl rfl

end Sys2Proof.Machine
end

section
namespace Sys2Proof.Machine

/-! ### Ballast windows and stalled junctions (O23) -/

theorem iter_of_idle {f : Nat → Dev → Dev} (h : ∀ i d, f i d = d) (n : Nat) (d : Dev) : iter n f d = d :=
  iter_leaves (π := id) h n d

theorem lget_map_range {α : Type} (n : Nat) (f : Nat → α) (c : Nat) (x : α) :
    lget ((List.range n).map f) c x = if c < n then f c else x := by
  by_cases h : c < n <;> simp [lget, h]

/-- A reserved client that asks for no more than its budget is served. -/
theorem reserved_served (b w : Nat → Nat) (l : List Nat) (h : ∀ c ∈ l, w c ≤ b c) (acc : Nat × List Bool) :
    l.foldl (fun (acc : Nat × List Bool) c =>
      (acc.1 - min (w c - b c) acc.1, acc.2 ++ [decide (min (w c - b c) acc.1 < w c - b c)])) acc =
    (acc.1, acc.2 ++ l.map fun _ => false) := by
  induction l generalizing acc with
  | nil => simp
  | cons c l ih =>
    obtain ⟨hc, hl⟩ := List.forall_mem_cons.mp h
    rw [List.foldl_cons, ih hl]
    simp [Nat.sub_eq_zero_of_le hc]

/-- Where no reserved client asks for more than its budget and no best-effort client asks for anything, none stalls. -/
theorem lget_ballastResource_of_calm (start total : Nat) (budgets demands : List Nat) (hres : ∀ c < 11, lget demands c 0 ≤ lget budgets c 0)
    (hbest : ∀ c, 11 ≤ c → lget demands c 0 = 0) (c : Nat) : lget (ballastResource start total budgets demands) c false = false := by
  have hserved := reserved_served (fun c => lget budgets c 0) (fun c => lget demands c 0) (List.range 11)
    (fun c hc => hres c (List.mem_range.mp hc)) (total - ((List.range 11).map fun c => lget budgets c 0).foldl (· + ·) 0, [])
  have hall : ∀ x ∈ ballastResource start total budgets demands, x = false := by
    intro x hx
    simp only [ballastResource, hserved, List.mem_append, List.mem_map] at hx
    obtain (hx | ⟨c, -, rfl⟩) | ⟨i, -, rfl⟩ := hx
    · cases hx
    · rfl
    · simp [hbest (11 + i) (by omega)]
  simp only [lget, List.getD_eq_getElem?_getD]
  cases hget : (ballastResource start total budgets demands)[c]? with
  | none => rfl
  | some x => exact hall x (List.mem_of_getElem? hget)

/-- The demand asks of reserved clients for no more than their budgets, half of an HBM budget from each stack, and of best-effort clients for nothing
(R66, R69, R70). -/
structure Dev.WithinBudget (d : Dev) (w : List Demand) : Prop where
  reserved : ∀ c < 11, let x := lget w c ⟨0, 0, 0, 0, 0⟩
    2 * x.hbm0 ≤ d.rdF (a_BAL_ACTIVE c) f_BAL_PROFILE_HBM + 1 ∧ 2 * x.hbm1 ≤ d.rdF (a_BAL_ACTIVE c) f_BAL_PROFILE_HBM ∧
    x.tha ≤ d.rdF (a_BAL_ACTIVE c) f_BAL_PROFILE_THA ∧
    x.keel ≤ d.rdF (a_BAL_ACTIVE c) f_BAL_PROFILE_KEEL ∧ x.dma ≤ d.rdF (a_BAL_ACTIVE c) f_BAL_PROFILE_DMA
  bestEffort : ∀ c, 11 ≤ c → lget w c ⟨0, 0, 0, 0, 0⟩ = ⟨0, 0, 0, 0, 0⟩

theorem Dev.WithinBudget.le_budgetOf {d : Dev} {w : List Demand} (h : d.WithinBudget w) {c : Nat} (hc : c < 11) (r : BalRes) :
    Demand.of (lget w c ⟨0, 0, 0, 0, 0⟩) r ≤ d.budgetOf c r := by
  obtain ⟨hbm0, hbm1, htha, hkeel, hdma⟩ := h.reserved c hc
  have hfull : ¬ 11 ≤ c := by omega
  cases r with
  | hbm s =>
    by_cases hs : s = 0
    · simp [Demand.of, Dev.budgetOf, hfull, hs]; omega
    · simp [Demand.of, Dev.budgetOf, hfull, hs]; omega
  | tha => simpa [Demand.of, Dev.budgetOf, hfull] using htha
  | keel => simpa [Demand.of, Dev.budgetOf, hfull] using hkeel
  | dma => simpa [Demand.of, Dev.budgetOf, hfull] using hdma

theorem Dev.usedBy_of_unused (d : Dev) (h : d.bal.used = []) (c : Nat) : d.usedBy c = ⟨0, 0, 0, 0, 0⟩ := by
  simp [Dev.usedBy, h, Demand.of]

/-- A window within budget renews the budgets and moves the start of the round on by one client, and nothing else. -/
theorem Dev.ballastWindow_of_calm (d : Dev) (w : List Demand) (hheld : d.isHeld .bal = false)
    (hmode : d.mode.starting = true ∨ d.mode.cur.acquiring = true) (hused : d.bal.used = []) (hshort : d.bal.short = []) (hw : d.WithinBudget w) :
    d.ballastWindow w = { d with
      bal := { d.bal with rr := if d.bal.rr = 23 then 11 else d.bal.rr + 1, window := d.el / 1024, used := [], short := [] } } := by
  have hasked (c : Nat) :
      Demand.plus (if d.el / 1024 ≤ d.bal.window + 1 then (([] : List Demand)[c]?).getD ⟨0, 0, 0, 0, 0⟩ else d.usedBy c) (lget w c ⟨0, 0, 0, 0, 0⟩) =
        lget w c ⟨0, 0, 0, 0, 0⟩ := by
    rw [d.usedBy_of_unused hused c]
    simp [Demand.plus]
  have hserved (r : BalRes) (c : Nat) :
      lget (ballastResource d.bal.rr (d.schedulable r) ((List.range 24).map fun c => d.budgetOf c r)
        (((List.range 24).map fun c => lget w c ⟨0, 0, 0, 0, 0⟩).map fun x => Demand.of x r)) c false = false := by
    refine lget_ballastResource_of_calm _ _ _ _ (fun c hc => ?_) (fun c hc => ?_) c
    · rw [List.map_map, lget_map_range, lget_map_range, if_pos (by omega), if_pos (by omega)]
      exact hw.le_budgetOf hc r
    · rw [List.map_map, lget_map_range]
      split
      · cases r <;> simp [hw.bestEffort c hc, Demand.of]
      · rfl
  have hrun : (d.mode.starting || d.mode.cur.acquiring) = true := by simpa using hmode
  simp only [Dev.ballastWindow, hheld, hrun, hasked, hused, hshort, if_true, Bool.false_eq_true, if_false]
  rw [iter_of_idle (fun c e => by simp [hserved, -List.map_map])]
  rfl

/-- Between events of its clients a block without engine jobs, crops, exports and views does no work as a window ends. -/
theorem Dev.windowWork_of_idle (d : Dev) (rd : Nat → Nat → List Byte) (hjobs : ∀ e < 16, (d.engine e).job = none) (hcrops : d.cls.crops = [])
    (hexp : d.cls.exp = none) (hunread : d.cls.rec_.unread = []) (hviews : d.views = []) : d.windowWork rd = d := by
  have hrec : d.recPump rd = d := by simp [Dev.recPump, hunread, iter]
  simp [Dev.windowWork, d.enginesRun_of_no_jobs hjobs, Dev.feedSources, Dev.cropGo, hcrops, Dev.exportPump, hexp, hrec, Dev.exportCheck,
    Dev.viewsFlush, hviews]

/-- A junction that stalls sets its island's bit and reports JCT_STALL, which is no more than an error logged where that error is plain. -/
theorem Dev.jctStall_of_plain (d : Dev) (i : Fin 40) (hbit : (d.rdF a_DEV_JCT_STALL f_DEV_JCT_STALL_STALLED).testBit i = false)
    (hplain : d.plainErr 0x11 = true) :
    ((d.jctStall i).rdF a_DEV_JCT_STALL f_DEV_JCT_STALL_STALLED).testBit i = true ∧
      (d.jctStall i).mrg.err.fly.length = d.mrg.err.fly.length + 1 ∧ (d.jctStall i).mode = d.mode := by
  generalize hv : d.rdF a_DEV_JCT_STALL f_DEV_JCT_STALL_STALLED = v at hbit
  let e := d.flag a_DEV_JCT_STALL f_DEV_JCT_STALL_STALLED (2 ^ i.val)
  have hmap : a_ERR_MAP 0x11 ≠ a_DEV_JCT_STALL := by decide
  have hplain' : e.plainErr 0x11 = true := by
    rw [← hplain, Dev.plainErr, Dev.plainErr, show e.rd (a_ERR_MAP 0x11) = d.rd (a_ERR_MAP 0x11) from d.rd_wr_ne _ hmap]
  have hstall : d.jctStall i = e.reportErr 0x11 43 i := by
    rw [Dev.jctStall, hv, hbit]
    rfl
  have hset : (e.rdF a_DEV_JCT_STALL f_DEV_JCT_STALL_STALLED).testBit i = true := by
    have hrd : e.rd a_DEV_JCT_STALL = _ := d.rd_wr_self _ _
    rw [Dev.rdF, hrd, hv, fget_fset_self _ _ _ (by decide), Nat.testBit_mod_two_pow, Nat.testBit_or, Nat.testBit_two_pow_self]
    simp
  rw [hstall, e.reportErr_of_plain 0x11 43 i hplain' (by decide)]
  exact ⟨hset, by simp [Dev.fly, Merges.get, Merges.set, e, Dev.flag], rfl⟩

/-- Settles O23: a window within budget stalls nobody, and JCT_STALL is flagged before it is reported. -/
theorem windowsAndJunctions : Obligations.WindowsAndJunctions := by
  intro s dt
  refine ⟨?window, ?stall, ?again⟩
  case window =>
    intro w hheld hmode _ hused hshort hjobs hcrops hexp hunread hviews hres hbest
    refine makes_of_after rfl ?_
    show (((s.dev.elapse dt).enginesRun.ballastWindow w).windowWork s.hbmRead) = _
    rw [(s.dev.elapse dt).enginesRun_of_no_jobs hjobs, (s.dev.elapse dt).ballastWindow_of_calm w hheld hmode hused hshort ⟨hres, hbest⟩]
    exact Dev.windowWork_of_idle _ _ hjobs hcrops hexp hunread hviews
  case stall =>
    intro i hbit hplain
    refine makes_of_after rfl ?_
    exact (s.dev.elapse dt).jctStall_of_plain i hbit hplain
  case again =>
    intro i hbit
    exact makes_of_after rfl (if_pos hbit)

end Sys2Proof.Machine
end

section
namespace Sys2Proof.Machine

/-! ### A change of mode comes into force (O22) -/

/-- Of the mode, what a change brings: the mode in force, the change pending and SAFE_CAUSE. -/
def Dev.standing (d : Dev) : Mode × Option ModePend × BitVec 4 := (d.mode.cur, d.mode.pend, d.mode.safeCause)

section
variable (d : Dev)

@[simp] theorem Dev.standing_setCmp (u : Nat) (q : List Int) : (d.setCmp u q).standing = d.standing := rfl
@[simp] theorem Dev.standing_segEnter (c : CourseCtx) : (d.segEnter c).standing = d.standing := rfl

end

/-! Ends of commands. -/

@[simp] theorem Dev.standing_respond (d : Dev) (opcode : Nat) (h : EnvHdr) (status : Nat) (interim : Bool) (line : W64) (body : List Byte) :
    (d.respond opcode h status interim line body).standing = d.standing := by
  simp only [Dev.respond, Dev.ridge]
  split
  · split <;> rfl
  · split <;> rfl

@[simp] theorem Dev.standing_answer (d : Dev) (id : Nat) (cmd : Cmd) (h : EnvHdr) (status : Nat) (line : W64) (body : List Byte) :
    (d.answer id cmd h status line body).standing = d.standing := by
  unfold Dev.answer
  split
  · rfl
  · exact d.standing_respond _ _ _ _ _ _

@[simp] theorem Dev.standing_finalResp (d : Dev) (id : Nat) (cmd : Cmd) (h : EnvHdr) (status : Nat) (line : W64) (body : List Byte) :
    (d.finalResp id cmd h status line body).standing = d.standing := by
  unfold Dev.finalResp
  split
  · exact d.standing_answer _ _ _ _ _ _
  · split
    · exact Dev.standing_answer _ _ _ _ _ _ _
    · rfl

@[simp] theorem Dev.standing_finish (d : Dev) (id status : Nat) (line : W64) (body : List Byte) :
    (d.finish id status line body).standing = d.standing := by
  unfold Dev.finish
  split
  · rfl
  · exact Dev.standing_finalResp _ _ _ _ _ _ _

/-! What is brought into force as a mode is entered. -/

@[simp] theorem Dev.standing_loadProfile (d : Dev) (m : Nat) : (d.loadProfile m).standing = d.standing := by
  unfold Dev.loadProfile
  split
  · refine (iter_leaves (π := Dev.standing) (fun c e => ?_) _ _).trans ?_ <;> rfl
  · rfl

@[simp] theorem Dev.standing_alertFrom (d : Dev) (was : Bool) : (d.alertFrom was).standing = d.standing := by
  unfold Dev.alertFrom
  split <;> rfl

@[simp] theorem Dev.standing_cmpClearAll (d : Dev) : d.cmpClearAll.standing = d.standing :=
  foldl_leaves (π := Dev.standing) (fun e u => e.standing_setCmp u []) _ _

/-- In STANDBY no geometry is checked as the settings of a course are brought into force. -/
@[simp] theorem Dev.standing_bringCourse (d : Dev) (src : RegStore) (mode : Nat) : (d.bringCourse src mode false false).standing = d.standing := by
  unfold Dev.bringCourse
  extract_lets d1 d2
  have h2 : d2.standing = d.standing := by
    unfold d2
    split <;> rfl
  rw [← h2]
  refine iter_leaves (π := Dev.standing) (fun r e => ?_) _ _
  simp only [Bool.false_and, Bool.false_eq_true, if_false]
  rfl

@[simp] theorem Dev.standing_pipesEnter (d : Dev) : d.pipesEnter.standing = d.standing := by
  refine iter_leaves (π := Dev.standing) (fun n e => ?_) _ _
  rfl

theorem Dev.standing_ownChange (d : Dev) {f : Dev → Dev} (h : (f d).standing = d.standing) : (d.ownChange f).standing = d.standing := by
  simp only [Dev.ownChange]
  split <;> exact h

@[simp] theorem Dev.standing_clsEnter (d : Dev) (moved : Bool) : (d.clsEnter moved).standing = d.standing := by
  unfold Dev.clsEnter
  split <;> rfl

@[simp] theorem Dev.standing_enterMode (d : Dev) (m : Mode) : (d.enterMode m false).standing = d.standing := by
  unfold Dev.enterMode
  extract_lets loft d1 d2 d3 mode d4 d5
  have h3 : d3.standing = d.standing := by
    unfold d3
    split <;> rfl
  rw [Dev.standing_clsEnter, d5.standing_ownChange d5.standing_pipesEnter]
  exact h3

@[simp] theorem Dev.standing_coefBoundary (d : Dev) (n : Nat) : (d.coefBoundary n).standing = d.standing := by
  simp only [Dev.coefBoundary]
  split <;> rfl

@[simp] theorem Dev.standing_bankBoundary (d : Dev) : d.bankBoundary.standing = d.standing := by
  simp only [Dev.bankBoundary]
  split
  · split <;> rfl
  · rfl

@[simp] theorem Dev.standing_swapsDue (d : Dev) (src : RegStore) : (d.swapsDue src).standing = d.standing := by
  unfold Dev.swapsDue
  extract_lets was d1 d2
  have h1 : d1.standing = d.standing := by
    refine iter_leaves (π := Dev.standing) (fun n e => ?_) _ _
    split
    · exact e.standing_coefBoundary n
    · rfl
  split
  · exact d2.standing_bankBoundary.trans h1
  · exact h1

@[simp] theorem Dev.standing_spareBoundary (d : Dev) (first len mode : Nat) : (d.spareBoundary first len mode).standing = d.standing := by
  simp only [Dev.spareBoundary]
  split
  · split
    · rfl
    · split <;> rfl
  · split
    · rfl
    · split
      · rfl
      · split
        · split <;> rfl
        · rfl

@[simp] theorem Dev.standing_showGeometry (d : Dev) (c : CourseCtx) : (d.showGeometry c).standing = d.standing := by
  unfold Dev.showGeometry
  extract_lets d1
  have h1 : d1.standing = d.standing := by
    refine iter_leaves (π := Dev.standing) (fun s e => ?_) _ _
    rfl
  rw [← h1]
  refine iter_leaves (π := Dev.standing) (fun p e => ?_) _ _
  split <;> rfl

@[simp] theorem Dev.standing_lineStart (d : Dev) (first : Nat) (anew : Bool) : (d.lineStart first anew).standing = d.standing :=
  Dev.standing_showGeometry _ _

/-- The target of a change from STANDBY is the mode in force, and nothing else of its standing changes. -/
theorem Dev.standing_enterFromStandby (d : Dev) (m : Mode) : (d.enterFromStandby m).standing = (m, d.mode.pend, d.mode.safeCause) := by
  unfold Dev.enterFromStandby
  extract_lets joins mode bal spare d1 d2 d3 len first d4 d5 mos d6 d7
  have hcourse : d2.standing = d1.standing := d1.standing_bringCourse _ _
  have hmode : d3.standing = d2.standing := d2.standing_enterMode m
  have hswaps : d5.standing = d3.standing := Dev.standing_swapsDue d4 _
  have hline : d7.standing = d6.standing := (Dev.standing_lineStart _ _ _).trans (d6.standing_spareBoundary _ _ _)
  have hmos : d6.standing = d5.standing := by
    clear_value d5
    rfl
  have hrest : d6.standing = d1.standing := hmos.trans (hswaps.trans (hmode.trans hcourse))
  calc _ = (d7.segEnter d7.wpu.ctx).standing := Dev.standing_loadProfile _ _
    _ = d7.standing := d7.standing_segEnter _
    _ = _ := hline.trans hrest

/-- What stands after a change that no course boundary carries, accepted in SAFE_HOLD with its conditions still met, or in STANDBY. -/
theorem Dev.standing_modeEntry (d : Dev) {p : ModePend} (hpend : d.mode.pend = some p) (hline : p.line = none) (hstart : d.mode.starting = false) :
    (d.mode.cur = .safeHold → p.target = .standby → d.safeClear = true → d.modeEntry.standing = (.standby, none, 0)) ∧
      (d.mode.cur = .standby → d.modeEntry.standing = (p.target, none, d.mode.safeCause)) := by
  unfold Dev.modeEntry
  split
  next hnone => simp [hnone] at hpend
  next q hq =>
    obtain rfl : p = q := Option.some.inj (hpend.symm.trans hq)
    rw [if_neg (by simp [hline, hstart])]
    extract_lets mode e answer
    have hanswer (x : Dev) (status : Nat) (line : W64) : (answer x status line).standing = x.standing := by
      unfold answer
      split
      · exact x.standing_finish _ _ _ _
      · rfl
    clear_value answer
    constructor
    · intro hcur htarget hclear
      have hmay : (decide (p.target ≠ .standby) || !e.safeClear) = false := by
        rw [show e.safeClear = true from hclear]
        simp [htarget]
      have hcur' : e.mode.cur = .safeHold := hcur
      simp only [hcur', hmay, Bool.false_eq_true, if_false]
      rw [hanswer, Dev.standing_loadProfile, Dev.standing_cmpClearAll, Dev.standing_alertFrom]
      rfl
    · intro hcur
      have hcur' : e.mode.cur = .standby := hcur
      simp only [hcur']
      rw [hanswer, e.standing_enterFromStandby]

/-- Settles O22: each step of an entry leaves the mode as the change has set it. -/
theorem modeEntered : Obligations.ModeEntered := by
  intro s dt p hpend hline hstart
  obtain ⟨hsafe, hstandby⟩ := (s.dev.elapse dt).standing_modeEntry hpend hline hstart
  refine ⟨fun hcur htarget hclear => makes_of_after rfl ?_, fun hcur => makes_of_after rfl ?_⟩
  · have hstand := hsafe hcur htarget hclear
    exact ⟨congrArg (·.1) hstand, congrArg (·.2.1) hstand, congrArg (·.2.2) hstand⟩
  · have hstand := hstandby hcur
    exact ⟨congrArg (·.1) hstand, congrArg (·.2.1) hstand, congrArg (·.2.2) hstand⟩

end Sys2Proof.Machine
end

section
namespace Sys2Proof.Machine

/-! ### An envelope taken and its command started (O60; R335, R338) -/

/-- The address of a mailbox's counts. -/
abbrev isBoxStat (a : Nat) : Prop := 0x50200 ≤ a ∧ a < 0x50280

theorem isBoxStat_mbStat (m : Fin 16) : isBoxStat (a_MBX_MB_STAT m) := by
  unfold a_MBX_MB_STAT isBoxStat
  omega

/-- The two blocks agree in all that the checks of a command read, but for its number. -/
structure Dev.ChecksAlike (d e : Dev) : Prop where
  rd : ∀ a, ¬ isBoxStat a → e.rd a = d.rd a
  force : e.force = d.force
  nv : e.nv = d.nv
  mem : e.mem = d.mem
  mode : e.mode = d.mode
  cal : e.cal = d.cal
  rst : e.rst = d.rst
  wpu : e.wpu = d.wpu
  waiting : e.keel.waiting = d.keel.waiting
  pending : e.keel.pending = d.keel.pending
  fwd : e.keel.fwd = d.keel.fwd

section
variable {d e : Dev} (h : d.ChecksAlike e)
include h

theorem Dev.ChecksAlike.rdF {a : Nat} (ha : ¬ isBoxStat a) (f : Fld) : e.rdF a f = d.rdF a f := by
  rw [Dev.rdF, Dev.rdF, h.rd a ha]

theorem Dev.ChecksAlike.role (n : Nat) (f : Fld) : e.rdF (a_PIPE_ROLE n) f = d.rdF (a_PIPE_ROLE n) f :=
  h.rdF (by unfold a_PIPE_ROLE isBoxStat; omega) f

theorem Dev.ChecksAlike.dflt (a : Nat) : e.dflt a = d.dflt a := by
  rw [Dev.dflt, Dev.dflt, h.nv]

theorem Dev.ChecksAlike.inB (a : Nat) (f : Fld) : e.inB a f = d.inB a f := by
  simp only [Dev.inB, Dev.inForce, h.dflt, h.force]

theorem Dev.ChecksAlike.spareOf : e.spareOf = d.spareOf := by
  have hrole : e.roleNow = d.roleNow := funext fun n => h.role n _
  rw [Dev.spareOf, Dev.spareOf, hrole]

theorem Dev.ChecksAlike.servingPipe (p : Nat) : e.servingPipe p = d.servingPipe p := by
  unfold Dev.servingPipe Dev.roleNow
  congr 1
  funext n
  rw [h.role, h.role]

theorem Dev.ChecksAlike.outside (a n : Nat) : e.outside a n = d.outside a n := by
  have horder : e.mapOrder = d.mapOrder := by rw [Dev.mapOrder, Dev.mapOrder, h.dflt]
  rw [Dev.outside, Dev.outside, horder, h.mem]

theorem Dev.ChecksAlike.tabSize (table inst bank : Nat) : e.tabSize table inst bank = d.tabSize table inst bank := by
  unfold Dev.tabSize
  rw [h.inB]

theorem Dev.ChecksAlike.calArgOk (item arg : Nat) : e.calArgOk item arg = d.calArgOk item arg := by
  have hserving : e.servingPipe = d.servingPipe := funext h.servingPipe
  have hbanks : Dev.calArgOk.banks e = Dev.calArgOk.banks d := by
    funext p
    unfold Dev.calArgOk.banks
    rw [hserving]
    split
    · rw [h.inB]
    · rfl
  rw [Dev.calArgOk, Dev.calArgOk, hbanks, hserving]

theorem Dev.ChecksAlike.argsOk (c : Cmd) : e.argsOk c = d.argsOk c := by
  cases c with
  | tableLoad t => rw [Dev.argsOk, Dev.argsOk, Dev.loadArgsOk, Dev.loadArgsOk, h.tabSize]
  | tableRead t => rw [Dev.argsOk, Dev.argsOk, Dev.readArgsOk, Dev.readArgsOk, h.tabSize]
  | fwStage x => rw [Dev.argsOk, Dev.argsOk, Dev.sourceInRange, Dev.sourceInRange, h.outside]
  | nvWrite x => rw [Dev.argsOk, Dev.argsOk, Dev.sourceInRange, Dev.sourceInRange, h.outside]
  | calRun item arg => exact h.calArgOk _ _
  | _ => rfl

theorem Dev.ChecksAlike.objectsOf : e.objectsOf = d.objectsOf := by
  funext c
  cases c with
  | pipeTakeover t => rw [Dev.objectsOf, Dev.objectsOf, h.spareOf]
  | _ => rfl

theorem Dev.ChecksAlike.objectHeld : e.objectHeld = d.objectHeld := by
  funext o
  have hholders : e.holders = d.holders := by rw [Dev.holders, Dev.holders, h.pending, h.fwd]
  unfold Dev.objectHeld
  rw [hholders, h.objectsOf, h.mode, h.cal]

theorem Dev.ChecksAlike.mayStart (t : Taken) : e.mayStart t = d.mayStart t := by
  unfold Dev.mayStart
  rw [h.objectsOf, h.objectHeld, h.waiting, h.pending, h.fwd]

theorem Dev.ChecksAlike.isLocked (u : RUnit) : e.isLocked u = d.isLocked u := by
  have haddr : ¬ isBoxStat (lockAddr u) := by
    unfold isBoxStat
    cases u <;> simp only [lockAddr, RUnit.base] <;> omega
  rw [Dev.isLocked, Dev.isLocked, h.rd _ haddr]

theorem Dev.ChecksAlike.under : e.under = d.under := by
  funext c a
  rw [Dev.under, Dev.under, h.dflt]

theorem Dev.ChecksAlike.acquiring : e.acquiring = d.acquiring := by
  rw [Dev.acquiring, Dev.acquiring, h.mode]

theorem Dev.ChecksAlike.bankBusy (table inst bank : Nat) : e.bankBusy table inst bank = d.bankBusy table inst bank := by
  have hcoef : ¬ isBoxStat (a_PIPE_COEF_CTRL inst) := by unfold isBoxStat a_PIPE_COEF_CTRL; omega
  have hbank : ¬ isBoxStat a_CLS_BANK_CTRL := by unfold isBoxStat a_CLS_BANK_CTRL; omega
  unfold Dev.bankBusy Dev.bankNow
  rw [h.acquiring, h.inB, h.rdF hcoef, h.rdF hbank]

theorem Dev.ChecksAlike.repLocked (a n : Nat) : e.repLocked a n = d.repLocked a n := by
  unfold Dev.repLocked Dev.repBank Dev.repAddr Dev.repWidth Dev.cB Dev.cF
  rw [h.under, h.wpu, h.acquiring]

theorem Dev.ChecksAlike.reachable (u : RUnit) : e.reachable u = d.reachable u := by
  cases u <;> simp only [Dev.reachable, Dev.clockGood, Dev.islandHeld, h.rst]

theorem Dev.ChecksAlike.tabRefusal (t : TableXfer) (write : Bool) : e.tabRefusal t write = d.tabRefusal t write := by
  unfold Dev.tabRefusal Dev.tabLocked
  simp only [h.tabSize, h.outside, h.reachable, h.isLocked, h.bankBusy, h.repLocked]

theorem Dev.ChecksAlike.setpCheck (x : EnvHdr) (mask sp : Nat) : e.setpCheck x mask sp = d.setpCheck x mask sp := by
  have htrn (s : Nat) (f : Fld) : e.rdB (a_HBM_TRN_STAT s) f = d.rdB (a_HBM_TRN_STAT s) f := by
    rw [Dev.rdB, Dev.rdB, h.rd _ (by unfold isBoxStat a_HBM_TRN_STAT; omega)]
  unfold Dev.setpCheck Dev.stack
  simp only [h.acquiring, h.mem, htrn]

theorem Dev.ChecksAlike.admitted (m : Nat) (extra : Nat × Nat) : e.admitted m extra = d.admitted m extra := by
  have htrn (s : Nat) (f : Fld) : e.rdB (a_HBM_TRN_STAT s) f = d.rdB (a_HBM_TRN_STAT s) f := by
    rw [Dev.rdB, Dev.rdB, h.rd _ (by unfold isBoxStat a_HBM_TRN_STAT; omega)]
  have hprofile (m c : Nat) : e.profile m c = d.profile m c := by
    have haddr (m : Nat) : ¬ isBoxStat (a_BAL_PROFILE m c) := by unfold isBoxStat a_BAL_PROFILE; omega
    rw [Dev.profile, Dev.profile, h.rd _ (haddr _), h.rd _ (haddr _), h.mode]
  have hunits : e.hbmSchedulable extra = d.hbmSchedulable extra := by
    simp only [Dev.hbmSchedulable, Dev.retired, h.mem, htrn]
  simp only [Dev.admitted, hprofile, hunits]

/-- What the checks read stays alike as both modes change alike. -/
theorem Dev.ChecksAlike.withMode (m : ModeSt) : Dev.ChecksAlike { d with mode := m } { e with mode := m } :=
  ⟨h.rd, h.force, h.nv, h.mem, rfl, h.cal, h.rst, h.wpu, h.waiting, h.pending, h.fwd⟩

theorem Dev.ChecksAlike.svcCheck : e.svcCheck = d.svcCheck := by
  rw [Dev.svcCheck, Dev.svcCheck, h.mode, (h.withMode _).admitted]

theorem Dev.ChecksAlike.rdgStat (f : Fld) : e.rdB a_RDG_STAT f = d.rdB a_RDG_STAT f := by
  rw [Dev.rdB, Dev.rdB, h.rd _ (by unfold isBoxStat a_RDG_STAT; omega)]

theorem Dev.ChecksAlike.established : e.established = d.established := h.rdgStat _

theorem Dev.ChecksAlike.authority : e.authority = d.authority := h.rdgStat _

theorem Dev.ChecksAlike.ridgeUp : e.ridgeUp = d.ridgeUp := h.rdgStat _

theorem Dev.ChecksAlike.isPartner : e.isPartner = d.isPartner := by
  rw [Dev.isPartner, Dev.isPartner, h.established, h.rdgStat]

theorem Dev.ChecksAlike.sendsOn (x : EnvHdr) : e.sendsOn x = d.sendsOn x := by
  rw [Dev.sendsOn, Dev.sendsOn, h.established, h.authority, h.ridgeUp]

end

/-- The block once it has taken an envelope with this header and command: numbered, counted and its Keel time charged. -/
def Dev.taken (d : Dev) (h : EnvHdr) (cmd : Cmd) : Dev := (d.countTaken h.mailbox).1.charge 8 ⟨0, 0, 0, Config.keelCycles cmd.opcode, 0⟩

/-- The command taken. -/
def Dev.takenCmd (d : Dev) (h : EnvHdr) (cmd : Cmd) : Taken := ⟨d.keel.nextId, h, cmd, d.el, none⟩

section
variable (d : Dev) (h : EnvHdr) (cmd : Cmd)

theorem Dev.rd_taken {a : Nat} (ha : a ≠ a_MBX_MB_STAT h.mailbox) : (d.taken h cmd).rd a = d.rd a :=
  Dev.rd_inc_ne { d with keel := { d.keel with nextId := d.keel.nextId + 1 } } _ _ ha

theorem Dev.checksAlike_taken : d.ChecksAlike (d.taken h cmd) := by
  refine ⟨fun a ha => d.rd_taken h cmd fun hm => ha ?_, rfl, rfl, rfl, rfl, rfl, rfl, rfl, rfl, rfl, rfl⟩
  rw [hm]
  exact isBoxStat_mbStat _

/-- A command that starts at once runs in the block that has taken its envelope. -/
theorem Dev.submit_of_starts (hs : d.starts h cmd = true) : d.submit h cmd = (d.taken h cmd).run (d.takenCmd h cmd) := by
  simp only [Dev.starts, Bool.and_eq_true, Bool.not_eq_true', Bool.and_eq_false_iff, List.isEmpty_iff] at hs
  obtain ⟨⟨⟨⟨⟨⟨hserves, hrec⟩, hargs⟩, hmay⟩, -⟩, hauth⟩, hforward⟩ := hs
  have halike := d.checksAlike_taken h cmd
  have hargs' := (halike.argsOk cmd).trans hargs
  have hmay' := (halike.mayStart (d.takenCmd h cmd)).trans hmay
  have hrec' : (d.taken h cmd).keel.recovery = false := hrec
  have hsend := halike.sendsOn h
  have htake : d.submit h cmd = (d.taken h cmd).start (d.takenCmd h cmd) := by
    rw [Dev.submit, if_neg (by simp [hserves])]
    show (if (d.taken h cmd).keel.recovery && !cmd.inRecovery then _ else if !(d.taken h cmd).argsOk cmd then _ else
      if (d.taken h cmd).mayStart (d.takenCmd h cmd) then (d.taken h cmd).start (d.takenCmd h cmd) else _) = _
    rw [if_neg (by simp [hrec']), if_neg (by simp [hargs']), if_pos hmay']
  rw [htake, Dev.start, if_neg ?noAuthority, if_neg ?notSent]
  case noAuthority =>
    rw [halike.isPartner]
    rcases hauth with hn | hn <;> simp [Dev.takenCmd, hn]
  case notSent =>
    show ¬ (cmd.forwarded && (d.taken h cmd).sendsOn h) = true
    rw [hsend]
    rcases hforward with hn | hn <;> simp [hn]

end

end Sys2Proof.Machine
end

section
namespace Sys2Proof.Machine

/-! ### What accepting a command leaves alone -/

/-- What neither responses nor the Keel's own bookkeeping touch is as it was, but for the registers at some addresses. -/
structure Dev.Rests (S : Nat → Prop) (d e : Dev) : Prop where
  rd : ∀ a, ¬ S a → e.rd a = d.rd a
  mode : e.mode = d.mode
  clk : e.clk = d.clk
  tab : e.tab = d.tab
  ports : e.ports = d.ports
  lanes : e.lanes = d.lanes
  mem : e.mem = d.mem
  flash : e.flash = d.flash
  cal : e.cal = d.cal
  rst : e.rst = d.rst
  cls : e.cls = d.cls
  wpu : e.wpu = d.wpu
  spare : e.spare = d.spare
  mrg : e.mrg = d.mrg
  force : e.force = d.force
  nv : e.nv = d.nv

theorem Dev.Rests.refl (S : Nat → Prop) (d : Dev) : d.Rests S d :=
  ⟨fun _ _ => rfl, rfl, rfl, rfl, rfl, rfl, rfl, rfl, rfl, rfl, rfl, rfl, rfl, rfl, rfl, rfl⟩

theorem Dev.Rests.trans {S : Nat → Prop} {d e f : Dev} (h : d.Rests S e) (k : e.Rests S f) : d.Rests S f where
  rd a ha := (k.rd a ha).trans (h.rd a ha)
  mode := k.mode.trans h.mode
  clk := k.clk.trans h.clk
  tab := k.tab.trans h.tab
  ports := k.ports.trans h.ports
  lanes := k.lanes.trans h.lanes
  mem := k.mem.trans h.mem
  flash := k.flash.trans h.flash
  cal := k.cal.trans h.cal
  rst := k.rst.trans h.rst
  cls := k.cls.trans h.cls
  wpu := k.wpu.trans h.wpu
  spare := k.spare.trans h.spare
  mrg := k.mrg.trans h.mrg
  force := k.force.trans h.force
  nv := k.nv.trans h.nv

/-- The counts of envelopes of mailbox m and of responses, which every command may move (R328, R331). -/
def commandCounts (m : Fin 16) (a : Nat) : Prop := a = a_MBX_MB_STAT m ∨ a = a_MBX_STAT

theorem Dev.Rests.sameRegs {d e : Dev} {h : EnvHdr} (hrest : d.Rests (commandCounts h.mailbox) e) : SameRegs d e h :=
  fun b hb hs => hrest.rd b fun hc => hc.elim hb hs

theorem Dev.rests_ridge (S : Nat → Prop) (d : Dev) (typ : Nat) (body : List Byte) : d.Rests S (d.ridge typ body) := by
  simp only [Dev.ridge]
  split
  · exact .refl S d
  · exact ⟨fun _ _ => rfl, rfl, rfl, rfl, rfl, rfl, rfl, rfl, rfl, rfl, rfl, rfl, rfl, rfl, rfl, rfl⟩

theorem Dev.rests_respond (S : Nat → Prop) (hS : S a_MBX_STAT) (d : Dev) (opcode : Nat) (h : EnvHdr) (status : Nat) (interim : Bool) (line : W64)
    (body : List Byte) : d.Rests S (d.respond opcode h status interim line body) := by
  have hstamp : d.Rests S (d.mkStamp 63 d.now).2 :=
    ⟨fun _ _ => rfl, rfl, rfl, rfl, rfl, rfl, rfl, rfl, rfl, rfl, rfl, rfl, rfl, rfl, rfl, rfl⟩
  refine hstamp.trans ?_
  simp only [Dev.respond]
  split
  · exact Dev.rests_ridge S _ _ _
  · split
    · exact ⟨fun _ _ => rfl, rfl, rfl, rfl, rfl, rfl, rfl, rfl, rfl, rfl, rfl, rfl, rfl, rfl, rfl, rfl⟩
    · exact ⟨fun a ha => Dev.rd_inc_ne _ _ _ fun he => ha (he ▸ hS), rfl, rfl, rfl, rfl, rfl, rfl, rfl, rfl, rfl, rfl, rfl, rfl, rfl, rfl, rfl⟩

theorem Dev.keel_ridge (d : Dev) (typ : Nat) (body : List Byte) : (d.ridge typ body).keel = d.keel := by
  simp only [Dev.ridge]
  split <;> rfl

theorem Dev.keel_respond (d : Dev) (opcode : Nat) (h : EnvHdr) (status : Nat) (interim : Bool) (line : W64) (body : List Byte) :
    (d.respond opcode h status interim line body).keel = d.keel := by
  simp only [Dev.respond]
  split
  · exact Dev.keel_ridge _ _ _
  · split <;> rfl

/-- A command accepted is pending, and that is all the Keel notes of it. -/
theorem Dev.keel_accept (d : Dev) (t : Taken) (line : W64) :
    (d.accept t line).keel = { d.keel with pending := d.keel.pending ++ [⟨t.id, t.h, t.cmd, line, t.at_⟩] } := by
  simp only [Dev.accept]
  split
  · rfl
  · rw [Dev.keel_respond]

theorem Dev.rests_keel (S : Nat → Prop) (d : Dev) (k : Keel) : d.Rests S { d with keel := k } :=
  ⟨fun _ _ => rfl, rfl, rfl, rfl, rfl, rfl, rfl, rfl, rfl, rfl, rfl, rfl, rfl, rfl, rfl, rfl⟩

theorem Dev.rests_accept (S : Nat → Prop) (hS : S a_MBX_STAT) (d : Dev) (t : Taken) (line : W64) : d.Rests S (d.accept t line) := by
  simp only [Dev.accept]
  split
  · exact d.rests_keel S _
  · exact (d.rests_keel S _).trans (Dev.rests_respond S hS _ _ _ _ _ _ _)

theorem Dev.rests_taken (d : Dev) (h : EnvHdr) (cmd : Cmd) : d.Rests (commandCounts h.mailbox) (d.taken h cmd) :=
  ⟨fun _ ha => d.rd_taken h cmd fun he => ha (.inl he), rfl, rfl, rfl, rfl, rfl, rfl, rfl, rfl, rfl, rfl, rfl, rfl, rfl, rfl, rfl⟩

/-- A command taken and accepted. -/
def Dev.accepted (d : Dev) (h : EnvHdr) (cmd : Cmd) (line : W64) : Dev := (d.taken h cmd).accept (d.takenCmd h cmd) line

theorem Dev.rests_accepted (d : Dev) (h : EnvHdr) (cmd : Cmd) (line : W64) : d.Rests (commandCounts h.mailbox) (d.accepted h cmd line) :=
  (d.rests_taken h cmd).trans (Dev.rests_accept _ (.inr rfl) _ _ _)

theorem pends_of_accept {o d : Dev} {h : EnvHdr} {cmd : Cmd} {line : W64} (hid : d.keel.nextId = o.keel.nextId + 1) :
    Pends o (d.accept (o.takenCmd h cmd) line) h cmd line := by
  rw [Pends, Dev.keel_accept]
  exact ⟨hid, List.mem_append_right _ (List.mem_singleton.mpr rfl)⟩

theorem Dev.pends_accepted (d : Dev) (h : EnvHdr) (cmd : Cmd) (line : W64) : Pends d (d.accepted h cmd line) h cmd line := pends_of_accept rfl

/-- Taking an envelope makes the block that submitting its command makes. -/
theorem makes_of_submit {c : Instr} {s : State} {h : EnvHdr} {cmd : Cmd} {P : Dev → Prop} (hc : exec c s = s.envelope h cmd)
    (hp : P (s.dev.submit h cmd)) : Makes c s P :=
  makes_of_after hc (by rw [Dev.elapse_zero]; exact hp)

/-! ### Commands that are accepted and no more -/

section
variable {o : Dev} {h : EnvHdr}

theorem Dev.submit_tableLoad {t : TableXfer} (hs : o.starts h (.tableLoad t) = true) (hr : o.tabRefusal t true = 0) :
    o.submit h (.tableLoad t) = o.accepted h (.tableLoad t) noLine := by
  have hr' := ((o.checksAlike_taken h (.tableLoad t)).tabRefusal t true).trans hr
  rw [Dev.submit_of_starts o h _ hs]
  exact if_neg (by simp [hr'])

theorem Dev.submit_tableRead {t : TableXfer} (hs : o.starts h (.tableRead t) = true) (hr : o.tabRefusal t false = 0) :
    o.submit h (.tableRead t) = o.accepted h (.tableRead t) noLine := by
  have hr' := ((o.checksAlike_taken h (.tableRead t)).tabRefusal t false).trans hr
  rw [Dev.submit_of_starts o h _ hs]
  exact if_neg (by simp [hr'])

theorem Dev.submit_fuseProgram {ls : List Byte} (hs : o.starts h (.fuseProgram ls) = true) (hotp : o.rst.otpProg = false)
    (hmin : (ls.zip minLevels).any (fun p => p.1.toNat < p.2) = false) :
    o.submit h (.fuseProgram ls) = o.accepted h (.fuseProgram ls) noLine := by
  rw [Dev.submit_of_starts o h _ hs]
  refine if_neg ?_
  rw [hmin, Bool.or_false]
  exact Bool.not_eq_true _ ▸ hotp

end

end Sys2Proof.Machine
end

section
namespace Sys2Proof.Machine

/-! ### Commands that are accepted and act as well -/

section
variable {o : Dev} {h : EnvHdr}

/-! The loft. -/

theorem Dev.submit_loftExport {first last : W64} {ring : BitVec 16} (hs : o.starts h (.loftExport first last ring) = true)
    (hreach : o.reachable .cls = true) (hfrozen : o.cls.frozen = true) (hle : first.toNat ≤ last.toNat)
    (hloft : last.toNat - first.toNat < o.loftLines)
    (hwritten : (o.cls.written.filter (fun l => first.toNat ≤ l && l ≤ last.toNat)).length = last.toNat + 1 - first.toNat)
    (hen : (o.ring ring.toNat).en = true) (htyp : (o.ring ring.toNat).typ = 1) :
    Pends o (o.submit h (.loftExport first last ring)) h (.loftExport first last ring) noLine ∧
      (o.submit h (.loftExport first last ring)).cls = { o.cls with
        objects := (o.cls.objects + 1) % 2 ^ 32
        exp := some ⟨o.keel.nextId, ring.toNat, (o.cls.objects + 1) % 2 ^ 32, first.toNat, last.toNat, first.toNat, o.loftSlot o.wpu.ctx, 0, false⟩ } := by
  have hrange : (decide (last.toNat < first.toNat) || decide (o.loftLines ≤ last.toNat - first.toNat) ||
      decide ((o.cls.written.filter (fun l => first.toNat ≤ l && l ≤ last.toNat)).length ≠ last.toNat + 1 - first.toNat) ||
      !(o.ring ring.toNat).en || decide ((o.ring ring.toNat).typ ≠ 1)) = false := by
    simp [hen, htyp, hwritten]
    omega
  have hrest := o.rests_accepted h (.loftExport first last ring) noLine
  have hpend := o.pends_accepted h (.loftExport first last ring) noLine
  have hslot : (o.accepted h (.loftExport first last ring) noLine).loftSlot (o.accepted h (.loftExport first last ring) noLine).wpu.ctx =
      o.loftSlot o.wpu.ctx := by
    rw [hrest.wpu]
    simp only [Dev.loftSlot, Dev.wm, Dev.gridWidth, Dev.cF, Dev.under, Dev.dflt, hrest.nv]
  rw [Dev.submit_of_starts o h _ hs]
  show Pends o (Dev.runLoftExport (o.taken h _) (o.takenCmd h _) first.toNat last.toNat ring.toNat) h _ noLine ∧
    (Dev.runLoftExport (o.taken h _) (o.takenCmd h _) first.toNat last.toNat ring.toNat).cls = _
  unfold Dev.runLoftExport
  extract_lets c obj d cls d'
  rw [if_neg ?reach, if_neg ?frozen, if_neg ?range]
  case reach => exact fun hn => by simpa [hreach] using (show (!o.reachable .cls) = true from hn)
  case frozen => exact fun hn => by simpa [hfrozen] using (show (!o.cls.frozen) = true from hn)
  case range => exact fun hn => Bool.noConfusion (hrange.symm.trans hn)
  have hcls : d.cls = o.cls := hrest.cls
  have hslot' : d.loftSlot d.wpu.ctx = o.loftSlot o.wpu.ctx := hslot
  refine ⟨hpend, ?_⟩
  clear_value d
  show ({ d.cls with objects := obj, exp := some ⟨_, _, _, _, _, _, d.loftSlot d.wpu.ctx, _, _⟩ } : ClsSt) = _
  rw [hcls, hslot']
  rfl

/-! Cameras. -/

/-- Sending on a lane is seen in the lanes and outside alone. -/
theorem Dev.laneSend_eq (d : Dev) (l : Nat) (bytes : List Byte) : ∃ ls out, d.laneSend l bytes = { d with lanes := ls, out := out } := by
  have haligns : ∃ ls out, d.sendAligns l = { d with lanes := ls, out := out } := by
    unfold Dev.sendAligns
    extract_lets x n k
    split
    · exact ⟨_, _, rfl⟩
    · exact ⟨_, _, rfl⟩
  obtain ⟨ls, out, heq⟩ := haligns
  rw [Dev.laneSend, heq]
  exact ⟨_, _, rfl⟩

theorem Dev.camRequest_eq (d : Dev) (p l typ : Nat) (mk : BitVec 16 → List Byte) (cmd : Option Nat) :
    ∃ ls out, d.camRequest p l typ mk cmd = { d with
      ports := lset d.ports p { d.port p with
        nextTag := (d.port p).nextTag + 1
        reqs := (d.port p).reqs ++ [⟨typ, (d.port p).nextTag, l, mk (d.port p).nextTag, d.refNs, 0, cmd⟩] }
      lanes := ls, out := out } := by
  simp only [Dev.camRequest, Dev.toCamera]
  split
  · obtain ⟨ls, out, heq⟩ := Dev.laneSend_eq (d.setPort p _) l _
    exact ⟨ls, out, heq⟩
  · exact ⟨_, _, rfl⟩

/-- A camera command that the port can take is pending with its request (R151, R354). -/
theorem Dev.runCam_accepted {p l typ count addr : Nat} {words : List W32} {cmd : Cmd} (hl : o.trigLane p = some l) :
    let d := Dev.runCam (o.taken h cmd) (o.takenCmd h cmd) p typ count addr words
    Pends o d h cmd noLine ∧ SameRegs o d h ∧ ∃ r : CamReq, r.typ = typ ∧ r.lane = l ∧ r.cmd = some o.keel.nextId ∧ r.tag = (o.port p).nextTag ∧
      d.ports = lset o.ports p { o.port p with nextTag := r.tag + 1, reqs := (o.port p).reqs ++ [r] } := by
  have hl' : (o.taken h cmd).trigLane p = some l := hl
  have hrest := o.rests_accepted h cmd noLine
  have hport : (o.accepted h cmd noLine).port p = o.port p := by rw [Dev.port, Dev.port, hrest.ports]
  intro d
  have hd : d = (o.accepted h cmd noLine).camRequest p l typ
      (fun tag => packet typ 0 (leBytes 4 addr ++ leBytes 2 count ++ leBytes 2 tag.toNat) (words.flatMap (fun w => leBytes 4 w.toNat)))
      (some o.keel.nextId) := by
    simp only [d, Dev.runCam, hl']
    rfl
  obtain ⟨ls, out, heq⟩ := Dev.camRequest_eq (o.accepted h cmd noLine) p l typ _ _
  rw [hd, heq, hport, hrest.ports]
  exact ⟨o.pends_accepted h cmd noLine, hrest.sameRegs, _, rfl, rfl, rfl, rfl, rfl⟩

/-! Memory. -/

/-- What a setpoint change shows at once of the Keel, the registers and the change itself. -/
def Dev.setpView (d : Dev) : Keel × RegStore × RegStore × Option (Nat × Nat × Nat × Bool) := (d.keel, d.regs, d.nv, d.mem.setp)

theorem Dev.setpView_setpStart (d : Dev) {id mask sp : Nat} (hp : d.mem.setp = some (id, mask, sp, false)) :
    ∃ b : Bool, d.setpStart.setpView = (d.keel, d.regs, d.nv, some (id, mask, sp, b)) := by
  unfold Dev.setpStart
  split
  next id' mask' sp' heq =>
    obtain ⟨rfl, rfl, rfl⟩ : id = id' ∧ mask = mask' ∧ sp = sp' := by simpa using hp.symm.trans heq
    split
    · exact ⟨false, by rw [Dev.setpView, hp]⟩
    · refine ⟨true, (iter_leaves (π := Dev.setpView) (fun s e => ?_) _ _).trans rfl⟩
      split <;> rfl
  next hnone => exact absurd hp (hnone _ _ _)

theorem Dev.setpView_setpAccept (d : Dev) (id mask sp : Nat) :
    ∃ b : Bool, (d.setpAccept id mask sp).setpView = (d.keel, d.regs, d.nv, some (id, mask, sp, b)) := by
  have hexit : (iter 2 (fun s d => if mask.testBit s then d.prExit s else d) d).setpView = d.setpView := by
    refine iter_leaves (π := Dev.setpView) (fun s e => ?_) _ _
    split <;> rfl
  unfold Dev.setpAccept
  extract_lets d1 mem
  have hkeel : d1.keel = d.keel := congrArg (·.1) hexit
  have hregs : d1.regs = d.regs := congrArg (·.2.1) hexit
  have hnv : d1.nv = d.nv := congrArg (·.2.2.1) hexit
  rw [← hkeel, ← hregs, ← hnv]
  exact Dev.setpView_setpStart { d1 with mem := { mem with setp := some (id, mask, sp, false) } } rfl

theorem Dev.submit_hbmSetpoint {mask sp : Byte} (hs : o.starts h (.hbmSetpoint mask sp) = true) (hcheck : o.setpCheck h mask.toNat sp.toNat = 0)
    (hon0 : o.reachable (.hbm 0) = true) (hon1 : o.reachable (.hbm 1) = true) :
    o.submit h (.hbmSetpoint mask sp) = (o.accepted h (.hbmSetpoint mask sp) noLine).setpAccept o.keel.nextId mask.toNat sp.toNat := by
  have halike := o.checksAlike_taken h (.hbmSetpoint mask sp)
  have hcheck' := (halike.setpCheck h mask.toNat sp.toNat).trans hcheck
  have hon0' := (halike.reachable (.hbm 0)).trans hon0
  have hon1' := (halike.reachable (.hbm 1)).trans hon1
  rw [Dev.submit_of_starts o h _ hs]
  show Dev.runSetpoint (o.taken h _) (o.takenCmd h _) mask.toNat sp.toNat = _
  simp only [Dev.runSetpoint, hon0', hon1']
  rw [if_neg (by simp), if_neg ?accepted]
  case accepted => exact fun hn => hn hcheck'
  rfl

/-- Pending with nothing else changed but the setpoint change itself. -/
theorem Dev.hbmSetpoint_pends {mask sp : Byte} (hs : o.starts h (.hbmSetpoint mask sp) = true) (hcheck : o.setpCheck h mask.toNat sp.toNat = 0)
    (hon0 : o.reachable (.hbm 0) = true) (hon1 : o.reachable (.hbm 1) = true) :
    let d := o.submit h (.hbmSetpoint mask sp)
    Pends o d h (.hbmSetpoint mask sp) noLine ∧ SameRegs o d h ∧ ∃ b : Bool, d.mem.setp = some (o.keel.nextId, mask.toNat, sp.toNat, b) := by
  have hpend := o.pends_accepted h (.hbmSetpoint mask sp) noLine
  have hrest := o.rests_accepted h (.hbmSetpoint mask sp) noLine
  rw [Dev.submit_hbmSetpoint hs hcheck hon0 hon1]
  generalize o.accepted h (.hbmSetpoint mask sp) noLine = e at hpend hrest
  obtain ⟨b, hview⟩ := e.setpView_setpAccept o.keel.nextId mask.toNat sp.toNat
  generalize e.setpAccept o.keel.nextId mask.toNat sp.toNat = d at hview
  have hkeel : d.keel = e.keel := congrArg (·.1) hview
  have hregs : d.regs = e.regs := congrArg (·.2.1) hview
  have hnv : d.nv = e.nv := congrArg (·.2.2.1) hview
  refine ⟨by rwa [Pends, hkeel], fun a ha ha' => ?_, b, congrArg (·.2.2.2) hview⟩
  exact (Dev.rd_congr hregs hnv a).trans (hrest.sameRegs a ha ha')

/-! Calibration. -/

theorem Dev.calRun_pends {item : BitVec 16} {arg : W64} (hs : o.starts h (.calRun item arg) = true)
    (hmode : calNeedsMode item.toNat = true → o.mode.starting = false ∧ o.mode.cur = .calibrate) :
    let d := o.submit h (.calRun item arg)
    Pends o d h (.calRun item arg) (o.calLine item.toNat arg) ∧ SameRegs o d h ∧ ∃ first : Nat, d.cal = { o.cal with
      run := some ⟨o.keel.nextId, item.toNat, arg, if o.acquiring then some first else none, 0, [], none, none, false, false⟩ } := by
  have hrun : (calNeedsMode item.toNat && (o.mode.starting || decide (o.mode.cur ≠ .calibrate))) = false := by
    cases hn : calNeedsMode item.toNat with
    | false => rfl
    | true => simp [hmode hn]
  have hsubmit : o.submit h (.calRun item arg) =
      (o.accepted h (.calRun item arg) (o.calLine item.toNat arg)).calStart o.keel.nextId item.toNat arg := by
    rw [Dev.submit_of_starts o h _ hs]
    exact if_neg fun hn => Bool.noConfusion (hrun.symm.trans hn)
  have hpend := o.pends_accepted h (.calRun item arg) (o.calLine item.toNat arg)
  have hrest := o.rests_accepted h (.calRun item arg) (o.calLine item.toNat arg)
  rw [hsubmit]
  generalize o.accepted h (.calRun item arg) (o.calLine item.toNat arg) = e at hpend hrest
  have hacq : e.acquiring = o.acquiring := by rw [Dev.acquiring, Dev.acquiring, hrest.mode]
  refine ⟨hpend, hrest.sameRegs, if e.wpu.fresh then e.wpu.ctx.first else e.nextFirst, ?_⟩
  rw [← hrest.cal, ← hacq]
  rfl

/-! The pair. -/

theorem Dev.hand_ridge (d : Dev) (typ : Nat) (body : List Byte) : (d.ridge typ body).pair.hand = d.pair.hand := by
  simp only [Dev.ridge]
  split
  · rfl
  · show (if _ then _ else _ : PairSt).hand = _
    split <;> rfl

/-- The block with a handover noted. -/
def Dev.handed (d : Dev) (id : Nat) (acq : Bool) : Dev := { d with pair := { d.pair with hand := some (id, acq, none) } }

theorem Dev.submit_pairHandover (hs : o.starts h .pairHandover = true) (hest : o.established = true) (hup : o.ridgeUp = true) :
    let e := (o.accepted h .pairHandover (if o.acquiring then BitVec.ofNat 64 o.effectFirst else noLine)).handed o.keel.nextId o.acquiring
    o.submit h .pairHandover = if o.acquiring then e else e.ridge 0x86 (padTo [1] 16) := by
  have halike := o.checksAlike_taken h .pairHandover
  have hoffer : (!(o.taken h .pairHandover).established || !(o.taken h .pairHandover).ridgeUp) = false := by
    rw [halike.established, halike.ridgeUp, hest, hup]
    rfl
  rw [Dev.submit_of_starts o h _ hs]
  exact if_neg fun hn => Bool.noConfusion (hoffer.symm.trans hn)

theorem Dev.pairHandover_pends (hs : o.starts h .pairHandover = true) (hest : o.established = true) (hup : o.ridgeUp = true) :
    let d := o.submit h .pairHandover
    Pends o d h .pairHandover (if o.acquiring then BitVec.ofNat 64 o.effectFirst else noLine) ∧ SameRegs o d h ∧
      d.pair.hand = some (o.keel.nextId, o.acquiring, none) := by
  have hpend := o.pends_accepted h .pairHandover (if o.acquiring then BitVec.ofNat 64 o.effectFirst else noLine)
  have hrest := o.rests_accepted h .pairHandover (if o.acquiring then BitVec.ofNat 64 o.effectFirst else noLine)
  rw [Dev.submit_pairHandover hs hest hup]
  generalize (if o.acquiring then BitVec.ofNat 64 o.effectFirst else noLine) = line at hpend hrest ⊢
  generalize o.accepted h .pairHandover line = e at hpend hrest
  have hregs : SameRegs o (e.handed o.keel.nextId o.acquiring) h := hrest.sameRegs
  split
  · exact ⟨hpend, hregs, rfl⟩
  · refine ⟨by rwa [Pends, Dev.keel_ridge], fun a ha ha' => ?_, by rw [Dev.hand_ridge]; rfl⟩
    rw [(Dev.rests_ridge (fun _ => False) _ _ _).rd a id, hregs a ha ha']

end

end Sys2Proof.Machine
end

section
namespace Sys2Proof.Machine

/-! ### MODE_SET (R50 to R55, R63) -/

theorem Dev.fwd_of_starts {o : Dev} {h : EnvHdr} {cmd : Cmd} (hs : o.starts h cmd = true) : o.keel.fwd = [] := by
  simp only [Dev.starts, Bool.and_eq_true, List.isEmpty_iff] at hs
  obtain ⟨⟨⟨-, hfwd⟩, -⟩, -⟩ := hs
  exact hfwd

theorem Dev.isPartner_of_starts {o : Dev} {h : EnvHdr} {cmd : Cmd} (hs : o.starts h cmd = true) (hn : cmd.needsAuthority = true) :
    o.isPartner = false := by
  simp only [Dev.starts, Bool.and_eq_true, hn, Bool.true_and, Bool.not_eq_true'] at hs
  obtain ⟨⟨-, hpartner⟩, -⟩ := hs
  exact hpartner

theorem Keel.head_keep (k : Keel) (x : Kept) : (k.keep x).kept.head? = some x := by
  simp [Keel.keep]

/-- Where nothing of it is sent on, the last word on a command is its answer. -/
theorem Dev.finalResp_of_alone (d : Dev) (hf : d.keel.fwd = []) (id : Nat) (cmd : Cmd) (h : EnvHdr) (status : Nat) (line : W64) (body : List Byte) :
    d.finalResp id cmd h status line body = d.answer id cmd h status line body := by
  simp [Dev.finalResp, hf]

/-- A response goes to the mailbox's ring where that is an enabled item ring. -/
theorem Dev.respond_queue (d : Dev) (opcode : Nat) (h : EnvHdr) (status : Nat) (interim : Bool) (line : W64) (body : List Byte)
    (hbox : h.mailbox.val ≠ 15) (hr : 16 ≤ d.rdF (a_MBX_CFG h.mailbox) f_MBX_CFG_RESP_RING)
    (hen : (d.ring (d.rdF (a_MBX_CFG h.mailbox) f_MBX_CFG_RESP_RING)).en = true)
    (htyp : (d.ring (d.rdF (a_MBX_CFG h.mailbox) f_MBX_CFG_RESP_RING)).typ = 1) :
    ∃ st : Stamp, { RingItem.whole (d.rdF (a_MBX_CFG h.mailbox) f_MBX_CFG_RESP_RING) 8 (respBytes st opcode h status interim line body) with
      mailbox := some h.mailbox } ∈ (d.respond opcode h status interim line body).host.queue := by
  refine ⟨(d.mkStamp 63 d.now).1, ?_⟩
  have hgo : (decide (16 ≤ d.rdF (a_MBX_CFG h.mailbox) f_MBX_CFG_RESP_RING) && (d.ring (d.rdF (a_MBX_CFG h.mailbox) f_MBX_CFG_RESP_RING)).en &&
      decide ((d.ring (d.rdF (a_MBX_CFG h.mailbox) f_MBX_CFG_RESP_RING)).typ = 1)) = true := by simp [hr, hen, htyp]
  have heq : d.respond opcode h status interim line body = (d.mkStamp 63 d.now).2.toRing { RingItem.whole
      (d.rdF (a_MBX_CFG h.mailbox) f_MBX_CFG_RESP_RING) 8 (respBytes (d.mkStamp 63 d.now).1 opcode h status interim line body) with
      mailbox := some h.mailbox } := (if_neg hbox).trans (if_pos hgo)
  rw [heq]
  exact List.mem_append_right _ (List.mem_singleton.mpr rfl)

/-- A command answered by a block that still numbers commands and responds as the one that took it. -/
theorem answered_of_answer {o d : Dev} {h : EnvHdr} {cmd : Cmd} (status : Nat) (line : W64) (body : List Byte)
    (hid : d.keel.nextId = o.keel.nextId + 1) (hring : ∀ r, 16 ≤ r → d.ring r = o.ring r)
    (hcfg : ∀ a, 0x50000 ≤ a → a < 0x50078 → d.rd a = o.rd a) :
    Answered o (d.answer o.keel.nextId cmd h status line body) h cmd status line body := by
  have hnext : (d.answer o.keel.nextId cmd h status line body).keel.nextId = d.keel.nextId := (d.keeps_answer _ _ _ _ _ _).nextId
  refine ⟨hnext.trans hid, Keel.head_keep _ _, fun hquiet hbox hr hen htyp => ?_⟩
  have hrd : d.rdF (a_MBX_CFG h.mailbox) f_MBX_CFG_RESP_RING = o.rdF (a_MBX_CFG h.mailbox) f_MBX_CFG_RESP_RING := by
    rw [Dev.rdF, Dev.rdF, hcfg _ (by unfold a_MBX_CFG; omega) (by unfold a_MBX_CFG; omega)]
  have hsame := hring _ hr
  rw [← hrd] at hr hen htyp hsame ⊢
  rw [← hsame] at hen htyp
  have hsend : (h.quiet && decide (status = 0)) = false := by
    rcases hquiet with hq | hq <;> simp [hq]
  have hans : (d.answer o.keel.nextId cmd h status line body).host = (d.respond cmd.opcode h status false line body).host := by
    unfold Dev.answer
    rw [hsend]
    rfl
  rw [hans]
  exact d.respond_queue _ _ _ _ _ _ hbox hr hen htyp

/-! MODE_SET to SAFE_HOLD. -/

theorem Dev.keeps_of_inSafe (d : Dev) (h : d.inSafe = true) : (d.heldSafe (if d.mode.cur = .safeHold then d.mode.safeCause else 4)).Keeps d := by
  have hc : d.mode.cur = .safeHold := by
    simp only [Dev.inSafe, Bool.and_eq_true, beq_iff_eq] at h
    exact h.2
  have hsame : d.heldSafe d.mode.safeCause = d := by simp only [Dev.heldSafe, ← hc]
  rw [if_pos hc, hsame]
  exact .refl d

/-- A MODE_SET whose checks all pass is accepted. -/
theorem Dev.runModeSet_of_checks (d : Dev) (t : Taken) {code : Nat} {m : Mode} {mask : Nat} (hm : modeOf code = some m)
    (hc : d.modeChecks t.h m = (d, 0, mask)) : d.runModeSet t code = d.modeAccept t m := by
  unfold Dev.runModeSet
  simp only [hm, hc, if_true]

section
variable {o : Dev} {h : EnvHdr} {m : Byte}

/-- No check ends a MODE_SET to SAFE_HOLD of a device that is no partner. -/
theorem Dev.modeChecks_safeHold (d : Dev) (hp : d.isPartner = false) : d.modeChecks h .safeHold = (d, 0, 0) := by
  simp [Dev.modeChecks, Dev.transition, hp]

theorem Dev.submit_modeSet_safe (hm : modeOf m.toNat = some .safeHold) (hs : o.starts h (.modeSet m) = true) :
    let d := o.taken h (.modeSet m)
    o.submit h (.modeSet m) = (if d.inSafe then d else d.enterSafe 4).done (o.takenCmd h (.modeSet m)) [] := by
  have hpartner := (o.checksAlike_taken h (.modeSet m)).isPartner.trans (Dev.isPartner_of_starts hs rfl)
  rw [Dev.submit_of_starts o h _ hs]
  exact Dev.runModeSet_of_checks _ _ hm (Dev.modeChecks_safeHold _ hpartner)

theorem Dev.modeSet_safeHold (hm : modeOf m.toNat = some .safeHold) (hs : o.starts h (.modeSet m) = true) (hstart : o.mode.starting = false) :
    let d := o.submit h (.modeSet m)
    d.mode.cur = .safeHold ∧ Answered o d h (.modeSet m) 0 noLine [] ∧
      d.mode.safeCause = (if o.mode.cur = .safeHold then o.mode.safeCause else 4) := by
  rw [Dev.submit_modeSet_safe hm hs]
  generalize he : (if (o.taken h (.modeSet m)).inSafe then o.taken h (.modeSet m) else (o.taken h (.modeSet m)).enterSafe 4) = e
  have hkeep : ((o.taken h (.modeSet m)).heldSafe (if o.mode.cur = .safeHold then o.mode.safeCause else 4)).Keeps e := by
    rw [← he]
    by_cases hsafe : (o.taken h (.modeSet m)).inSafe = true
    · rw [if_pos hsafe]
      exact (o.taken h (.modeSet m)).keeps_of_inSafe hsafe
    · rw [if_neg hsafe]
      exact (o.taken h (.modeSet m)).keeps_enterSafe 4 hstart
  have hfwd : e.keel.fwd = [] := hkeep.fwd (show o.keel.fwd = [] from Dev.fwd_of_starts hs)
  have hdone := e.keeps_finalResp o.keel.nextId (.modeSet m) h 0 noLine []
  have hcfg (a : Nat) (hlo : 0x50000 ≤ a) (hhi : a < 0x50078) : e.rd a = o.rd a :=
    (hkeep.mbxCfg a hlo hhi).trans (o.rd_taken h (.modeSet m) (by unfold a_MBX_MB_STAT; omega))
  intro d
  refine ⟨hdone.cur.trans hkeep.cur, ?_, hdone.safeCause.trans hkeep.safeCause⟩
  show Answered o (e.finalResp o.keel.nextId (.modeSet m) h 0 noLine []) h (.modeSet m) 0 noLine []
  rw [Dev.finalResp_of_alone _ hfwd]
  exact answered_of_answer _ _ _ hkeep.nextId hkeep.ring hcfg

end

/-! The checks of a MODE_SET do not ask what the clients have used. -/

/-- The block with other budgets. -/
def Dev.withBal (d : Dev) (b : BalSt) : Dev := { d with bal := b }

/-- A loop whose steps commute with a change of the budgets commutes with it. -/
theorem iter_withBal {f : Nat → Dev → Dev} (b : BalSt) (h : ∀ i d, f i (Dev.withBal d b) = (f i d).withBal b) (n : Nat) (d : Dev) :
    iter n f (d.withBal b) = (iter n f d).withBal b := by
  unfold iter
  induction List.range n generalizing d with
  | nil => rfl
  | cons i l ih => rw [List.foldl_cons, List.foldl_cons, h, ih]

theorem Dev.bringCourse_withBal (d : Dev) (b : BalSt) (src : RegStore) (mode : Nat) :
    (d.withBal b).bringCourse src mode false false = (d.bringCourse src mode false false).withBal b := by
  unfold Dev.bringCourse
  extract_lets c1 c2 d1 d2
  have h2 : c2 = d2.withBal b := by
    unfold c2 d2
    rw [show c1.lanesOk src = d1.lanesOk src from rfl]
    split <;> rfl
  rw [h2]
  refine iter_withBal b (fun r e => ?_) _ _
  simp only [Bool.false_and, Bool.false_eq_true, if_false]
  rfl

section
variable (d : Dev) (b : BalSt)

theorem Dev.commit_withBal (k : CommitKind) : (d.withBal b).commit k = (d.commit k).withBal b := rfl
theorem Dev.cF_withBal : (d.withBal b).cF = d.cF := rfl
theorem Dev.cB_withBal : (d.withBal b).cB = d.cB := rfl
theorem Dev.gridWidth_withBal : (d.withBal b).gridWidth = d.gridWidth := rfl
theorem Dev.bankWide_withBal : (d.withBal b).bankWide = d.bankWide := rfl
theorem Dev.bankCommitted_withBal : (d.withBal b).bankCommitted = d.bankCommitted := rfl
theorem Dev.admitted_withBal : (d.withBal b).admitted = d.admitted := rfl
theorem Dev.segEntry_withBal : (d.withBal b).segEntry = d.segEntry := rfl
theorem Dev.coefSizeOk_withBal : (d.withBal b).coefSizeOk = d.coefSizeOk := rfl
theorem Dev.battenOk_withBal : (d.withBal b).battenOk = d.battenOk := rfl
theorem Dev.camsOf_withBal : (d.withBal b).camsOf = d.camsOf := rfl

end

theorem Dev.modeMask_withBal (d : Dev) (b : BalSt) (m : Mode) : (d.withBal b).modeMask m = d.modeMask m := by
  have hmode : (d.withBal b).mode = d.mode := rfl
  unfold Dev.modeMask
  extract_lets c1 c2 c3 c4 c bit chi clo isRec cfast calways d1 d2 d3 d4 e dhi dlo dfast dalways
  have h1 : c1 = d1.withBal b := d.bringCourse_withBal b _ _
  clear_value c1 d1
  subst h1
  have h2 : c2 = d2.withBal b := by
    unfold c2 d2
    rw [hmode]
    split
    · rfl
    · exact d1.commit_withBal b _
  clear_value c2 d2
  subst h2
  have h3 : c3 = d3.withBal b := rfl
  clear_value c3 d3
  subst h3
  have h4 : c4 = d4.withBal b := by
    unfold c4 d4
    split
    · exact d3.commit_withBal b _
    · rfl
  clear_value c4 d4
  subst h4
  have hctx : c = e := rfl
  clear_value c e
  subst hctx
  have hhi : chi = dhi := rfl
  have hlo : clo = dlo := rfl
  have hfast : cfast = dfast := rfl
  clear_value chi clo cfast dhi dlo dfast
  subst hhi hlo hfast
  have halways : calways = dalways := by
    unfold calways dalways
    rw [d4.gridWidth_withBal b, d.bankWide_withBal b, d.bankCommitted_withBal b, d.admitted_withBal b]
  clear_value calways dalways
  subst halways
  rw [d4.segEntry_withBal b, d4.coefSizeOk_withBal b, d4.battenOk_withBal b, d4.gridWidth_withBal b, d4.camsOf_withBal b, d4.cB_withBal b,
    d4.cF_withBal b]

theorem Dev.modeChecks_withBal (d : Dev) (b : BalSt) (h : EnvHdr) (m : Mode) :
    (d.withBal b).modeChecks h m = ((d.modeChecks h m).1.withBal b, (d.modeChecks h m).2) := by
  have hmode : (d.withBal b).mode = d.mode := rfl
  have hpartner : (d.withBal b).isPartner = d.isPartner := rfl
  have htransition : (d.withBal b).transition m = d.transition m := rfl
  have hest : (d.withBal b).established = d.established := rfl
  have hup : (d.withBal b).ridgeUp = d.ridgeUp := rfl
  have hports : (d.withBal b).pairPortsOk = d.pairPortsOk := rfl
  have htheirs : (d.withBal b).partnerPortsOk = d.partnerPortsOk := rfl
  unfold Dev.modeChecks
  simp only [hmode, hpartner, htransition, hest, hup, hports, htheirs, Dev.modeMask_withBal]
  split
  · rfl
  split
  · rfl
  split
  · rfl
  split
  · rfl
  split
  · rfl
  split
  · rfl
  split <;> rfl

/-- Checks that all pass change nothing. -/
theorem Dev.modeChecks_fst (d : Dev) (h : EnvHdr) (m : Mode) (hok : (d.modeChecks h m).2.1 = 0) : (d.modeChecks h m).1 = d := by
  revert hok
  unfold Dev.modeChecks
  extract_lets tr mask
  split
  · exact fun _ => rfl
  split
  · exact fun _ => rfl
  split
  · exact fun _ => rfl
  split
  · exact fun _ => rfl
  split
  · exact fun _ => rfl
  split
  · exact fun hn => absurd hn (show (0x1B : Nat) ≠ 0 by decide)
  split <;> exact fun _ => rfl

section
variable {o : Dev} {h : EnvHdr} {m : Byte} {t : Mode}

theorem Dev.submit_modeSet (hm : modeOf m.toNat = some t) (hs : o.starts h (.modeSet m) = true)
    (hok : (((o.elapse 0).countTaken h.mailbox).1.modeChecks h t).2.1 = 0) :
    o.submit h (.modeSet m) = (o.taken h (.modeSet m)).modeAccept (o.takenCmd h (.modeSet m)) t := by
  rw [Dev.elapse_zero] at hok
  have hbal : o.taken h (.modeSet m) = (o.countTaken h.mailbox).1.withBal (o.taken h (.modeSet m)).bal := rfl
  have hchecks : (o.taken h (.modeSet m)).modeChecks h t = (o.taken h (.modeSet m), 0, ((o.countTaken h.mailbox).1.modeChecks h t).2.2) := by
    rw [hbal, Dev.modeChecks_withBal, Dev.modeChecks_fst _ _ _ hok, ← hok]
  rw [Dev.submit_of_starts o h _ hs]
  exact Dev.runModeSet_of_checks _ _ hm hchecks

/-- A change of mode that passes its checks pends, with the line of its boundary where an acquiring mode is in force (R52, R54). -/
theorem Dev.modeSet_pends (hm : modeOf m.toNat = some t) (hs : o.starts h (.modeSet m) = true) (ht : t ≠ .safeHold)
    (hok : (((o.elapse 0).countTaken h.mailbox).1.modeChecks h t).2.1 = 0) (hpend : o.mode.pend = none) :
    let d := o.submit h (.modeSet m)
    d.mode.cur = o.mode.cur ∧ SameRegs o d h ∧
      d.mode.pend = some ⟨t, some o.keel.nextId, if o.mode.cur.acquiring then some o.effectFirst else none⟩ ∧
      Pends o d h (.modeSet m) (if o.mode.cur.acquiring then BitVec.ofNat 64 o.effectFirst else noLine) := by
  have hsafe : (t == Mode.safeHold) = false := by simpa using ht
  have hnone : (o.taken h (.modeSet m)).mode.pend = none := hpend
  rw [Dev.submit_modeSet hm hs hok, Dev.modeAccept, hsafe, if_neg Bool.false_ne_true]
  simp only [hnone]
  have hregs := (o.rests_taken h (.modeSet m)).sameRegs
  by_cases hacq : o.mode.cur.acquiring = true
  · have hacq' : (o.taken h (.modeSet m)).mode.cur.acquiring = true := hacq
    rw [if_pos hacq', if_pos hacq, if_pos hacq]
    have hrest := Dev.rests_accept (commandCounts h.mailbox) (.inr rfl)
      ({ o.taken h (.modeSet m) with mode := { o.mode with pend := some ⟨t, some o.keel.nextId, some o.effectFirst⟩ } } : Dev)
      (o.takenCmd h (.modeSet m)) (BitVec.ofNat 64 o.effectFirst)
    refine ⟨congrArg (·.cur) hrest.mode, fun a ha ha' => ?_, congrArg (·.pend) hrest.mode, pends_of_accept rfl⟩
    exact (hrest.sameRegs a ha ha').trans (hregs a ha ha')
  · have hacq' : ¬ (o.taken h (.modeSet m)).mode.cur.acquiring = true := hacq
    rw [if_neg hacq', if_neg hacq, if_neg hacq]
    exact ⟨rfl, hregs, rfl, rfl, List.mem_append_right _ (List.mem_singleton.mpr rfl)⟩

end

end Sys2Proof.Machine
end

section
namespace Sys2Proof.Machine

/-! ### Service operations (R59, R355) -/

/-- The registers that a service operation accepted may move: the counts of its command, and the profile in force. -/
def serviceRegs (m : Fin 16) (a : Nat) : Prop := commandCounts m a ∨ ∃ c, a = a_BAL_ACTIVE c

theorem Dev.rests_loadProfile (S : Nat → Prop) (hS : ∀ c, S (a_BAL_ACTIVE c)) (d : Dev) (m : Nat) : d.Rests S (d.loadProfile m) := by
  unfold Dev.loadProfile
  split
  · refine List.foldlRecOn (motive := fun e => d.Rests S e) _ _ ?_ fun e he c _ => he.trans ?_
    · exact ⟨fun _ _ => rfl, rfl, rfl, rfl, rfl, rfl, rfl, rfl, rfl, rfl, rfl, rfl, rfl, rfl, rfl, rfl⟩
    · exact ⟨fun a ha => Dev.rd_wr_ne _ _ fun heq => ha (heq ▸ hS c), rfl, rfl, rfl, rfl, rfl, rfl, rfl, rfl, rfl, rfl, rfl, rfl, rfl, rfl, rfl⟩
  · exact ⟨fun _ _ => rfl, rfl, rfl, rfl, rfl, rfl, rfl, rfl, rfl, rfl, rfl, rfl, rfl, rfl, rfl, rfl⟩

theorem Dev.keel_loadProfile (d : Dev) (m : Nat) : (d.loadProfile m).keel = d.keel := by
  unfold Dev.loadProfile
  split
  · refine (iter_leaves (π := Dev.keel) (fun c e => ?_) _ _).trans ?_ <;> rfl
  · rfl

/-- The block that has taken an envelope, its command the service operation that runs. -/
def Dev.serving (d : Dev) (h : EnvHdr) (cmd : Cmd) : Dev :=
  { d.taken h cmd with mode := { d.mode with service := some d.keel.nextId } }

/-- A service operation taken and accepted. -/
def Dev.served (d : Dev) (h : EnvHdr) (cmd : Cmd) (line : W64) : Dev := (d.taken h cmd).svcStart (d.takenCmd h cmd) line

section
variable (o : Dev) (h : EnvHdr) (cmd : Cmd) (line : W64)

theorem Dev.rests_served : (o.serving h cmd).Rests (serviceRegs h.mailbox) (o.served h cmd line) :=
  (Dev.rests_loadProfile (serviceRegs h.mailbox) (fun c => .inr ⟨c, rfl⟩) (o.serving h cmd) o.mode.cur.code).trans
    (Dev.rests_accept (serviceRegs h.mailbox) (.inl (.inr rfl)) _ (o.takenCmd h cmd) line)

theorem Dev.keel_served : (o.served h cmd line).keel = { o.keel with
    nextId := o.keel.nextId + 1, pending := o.keel.pending ++ [⟨o.keel.nextId, h, cmd, line, o.el⟩] } := by
  have hserved : o.served h cmd line = ((o.serving h cmd).loadProfile o.mode.cur.code).accept (o.takenCmd h cmd) line := rfl
  rw [hserved, Dev.keel_accept, Dev.keel_loadProfile]
  rfl

theorem Dev.pends_served : Pends o (o.served h cmd line) h cmd line := by
  rw [Pends, Dev.keel_served]
  exact ⟨rfl, List.mem_append_right _ (List.mem_singleton.mpr rfl)⟩

theorem Dev.service_served : (o.served h cmd line).mode.service = some o.keel.nextId :=
  congrArg (·.service) (o.rests_served h cmd line).mode

end

section
variable {o : Dev} {h : EnvHdr}

/-- A service operation may start only after start-up and while none runs. -/
theorem Dev.free_of_svcCheck {d : Dev} (hsvc : d.svcCheck = 0) : d.mode.starting = false ∧ d.mode.service = none := by
  unfold Dev.svcCheck at hsvc
  split at hsvc
  · exact absurd hsvc (by decide)
  next hmode =>
    split at hsvc
    · exact absurd hsvc (by decide)
    next hservice =>
      simp only [Bool.not_eq_true, Bool.or_eq_false_iff] at hmode
      exact ⟨hmode.1.1, by simpa using hservice⟩

/-! FW_SWAP (R508). -/

theorem Dev.recovery_of_starts {cmd : Cmd} (hs : o.starts h cmd = true) : o.keel.recovery = false := by
  simp only [Dev.starts, Bool.and_eq_true, Bool.not_eq_true'] at hs
  obtain ⟨⟨⟨⟨⟨⟨-, hrec⟩, -⟩, -⟩, -⟩, -⟩, -⟩ := hs
  exact hrec

theorem Dev.submit_fwSwap (hs : o.starts h .fwSwap = true) (hsvc : o.svcCheck = 0) (hver : o.keel.idle.verified = true) :
    o.submit h .fwSwap = o.served h .fwSwap noLine := by
  have hrec : (o.taken h .fwSwap).keel.recovery = false := show o.keel.recovery = false from Dev.recovery_of_starts hs
  have hsvc' := (o.checksAlike_taken h .fwSwap).svcCheck.trans hsvc
  have hver' : (o.taken h .fwSwap).keel.idle.verified = true := hver
  rw [Dev.submit_of_starts o h _ hs]
  show Dev.runFwSwap _ _ = _
  simp only [Dev.runFwSwap, hrec, hsvc', hver']
  rfl

/-! PARTNER_REJOIN (R458). -/

theorem Dev.submit_partnerRejoin (hs : o.starts h .partnerRejoin = true) (hsvc : o.svcCheck = 0) (hp : o.isPartner = false)
    (hup : o.ridgeUp = true) (hjoin : o.partnerJoinable = true) (hauth : o.authority = true) :
    let d := o.served h .partnerRejoin noLine
    o.submit h .partnerRejoin =
      { d with pair := { d.pair with rejoin := some (o.keel.nextId, d.el), step := 2, tL := none, mine := none, theirs := none } } := by
  have halike := o.checksAlike_taken h .partnerRejoin
  have hsvc' := halike.svcCheck.trans hsvc
  have hp' := halike.isPartner.trans hp
  have hup' := halike.ridgeUp.trans hup
  have hauth' := halike.authority.trans hauth
  have hjoin' : (o.taken h .partnerRejoin).partnerJoinable = true := hjoin
  rw [Dev.submit_of_starts o h _ hs]
  show Dev.runRejoin _ _ = _
  simp only [Dev.runRejoin, hsvc', hp', hup', hauth', hjoin']
  rfl

/-! PIPE_TAKEOVER (R511). -/

theorem Dev.submit_pipeTakeover {t : Byte} {n : Nat} (hs : o.starts h (.pipeTakeover t) = true) (hsvc : o.svcCheck = 0)
    (hmode : o.mode.cur ∈ [Mode.inspectWide, .inspectPaired, .record]) (hspare : o.spareOf = some n) (hrole : o.roleNow t.toNat = 0)
    (hlane : o.inF (a_TPT_CFG (o.rdF (a_PIPE_ROLE t.toNat) f_PIPE_ROLE_PORT)) f_TPT_CFG_LANE_MODE ≠ 0) :
    let d := (o.served h (.pipeTakeover t) (BitVec.ofNat 64 (o.effectFirst + 2 * o.wpu.ctx.len))).wrForce (a_PIPE_ROLE n) f_PIPE_ROLE_ROLE 1
    o.submit h (.pipeTakeover t) =
      { d with spare := { d.spare with comps := d.spare.comps.filter (fun c => c.shadow), take := some ⟨o.keel.nextId, t.toNat, n, false, none, none⟩ } } := by
  have halike := o.checksAlike_taken h (.pipeTakeover t)
  obtain ⟨hstart, hfree⟩ := Dev.free_of_svcCheck hsvc
  have hin : (!decide (o.mode.cur ∈ [Mode.inspectWide, .inspectPaired, .inspectDeep, .record]) || o.mode.starting) = false := by
    rw [hstart]
    revert hmode
    cases o.mode.cur <;> decide
  have hbusy : (o.mode.service.isSome || o.mode.cur == .inspectDeep) = false := by
    rw [hfree]
    revert hmode
    cases o.mode.cur <;> decide
  have hsvc' := halike.svcCheck.trans hsvc
  have hspare' := halike.spareOf.trans hspare
  have hrole' : (o.taken h (.pipeTakeover t)).roleNow t.toNat = 0 := (halike.role _ _).trans hrole
  have hport : (o.taken h (.pipeTakeover t)).rdF (a_PIPE_ROLE t.toNat) f_PIPE_ROLE_PORT = o.rdF (a_PIPE_ROLE t.toNat) f_PIPE_ROLE_PORT :=
    halike.role _ _
  have hused : (decide ((o.taken h (.pipeTakeover t)).roleNow t.toNat ≠ 0) || decide ((o.taken h (.pipeTakeover t)).inF (a_TPT_CFG
      ((o.taken h (.pipeTakeover t)).rdF (a_PIPE_ROLE t.toNat) f_PIPE_ROLE_PORT)) f_TPT_CFG_LANE_MODE = 0)) = false := by
    rw [hrole', hport, show (o.taken h (.pipeTakeover t)).inF = o.inF from rfl]
    simpa using hlane
  rw [Dev.submit_of_starts o h _ hs]
  show Dev.runTakeover _ _ _ = _
  unfold Dev.runTakeover
  refine (if_neg fun hn => Bool.noConfusion (hin.symm.trans hn)).trans ((if_neg fun hn => Bool.noConfusion (hbusy.symm.trans hn)).trans ?_)
  rw [hspare']
  exact (if_neg fun hn => Bool.noConfusion (hused.symm.trans hn)).trans (if_neg (not_not.mpr hsvc'))

/-! HBM_RETIRE (R411, R412). -/

theorem Dev.submit_hbmRetire {st pc : Byte} (hs : o.starts h (.hbmRetire st pc) = true) (hsvc : o.svcCheck = 0)
    (hon : o.reachable (if st.toNat = 0 then .hbm 0 else .hbm 1) = true)
    (hcheck : ({ (o.elapse 0).countTaken h.mailbox |>.1 with mode := { o.mode with service := some o.keel.nextId } } : Dev).retireCheck st.toNat
      pc.toNat = 0) :
    o.submit h (.hbmRetire st pc) = (o.served h (.hbmRetire st pc) noLine).retireAccept o.keel.nextId st.toNat pc.toNat := by
  have halike := o.checksAlike_taken h (.hbmRetire st pc)
  have hsvc' := halike.svcCheck.trans hsvc
  have hon' := (halike.reachable (if st.toNat = 0 then .hbm 0 else .hbm 1)).trans hon
  have hcheck' : (o.serving h (.hbmRetire st pc)).retireCheck st.toNat pc.toNat = 0 := by
    rw [Dev.elapse_zero] at hcheck
    exact hcheck
  rw [Dev.submit_of_starts o h _ hs]
  show Dev.runRetire _ _ _ _ = _
  unfold Dev.runRetire
  exact (if_neg (not_not.mpr hsvc')).trans ((if_neg (by simp [hon'])).trans (if_neg (not_not.mpr hcheck')))

/-- A retirement accepted leaves the Keel and the mode, and its point is reached at once where nothing is acquired. -/
theorem Dev.retireAccept_leaves (d : Dev) (id s p : Nat) :
    (d.retireAccept id s p).keel = d.keel ∧ (d.retireAccept id s p).mode = d.mode ∧
      (d.retireAccept id s p).mem.retire = some ⟨some id, s, p, !d.acquiring⟩ := by
  unfold Dev.retireAccept
  extract_lets d1 mem d2
  have hacq : d2.acquiring = d.acquiring := rfl
  split
  next hn =>
    rw [← hacq, hn]
    exact ⟨rfl, rfl, rfl⟩
  next hn =>
    rw [← hacq, Bool.not_eq_true _ |>.mp hn]
    exact ⟨rfl, rfl, rfl⟩

end

end Sys2Proof.Machine
end

section
namespace Sys2Proof.Machine

/-! ### Lanes brought down and to receiver detect (R154, R429, R434) -/

/-- What bringing lanes of port p down and to receiver detect leaves alone: the mode, the Keel, the action of TETHER_DOWN, requests that are none,
and lanes that are down stay down. -/
structure Dev.LaneWork (p : Nat) (d e : Dev) : Prop where
  mode : e.mode = d.mode
  keel : e.keel = d.keel
  errMap : e.rd (a_ERR_MAP 0x1B) = d.rd (a_ERR_MAP 0x1B)
  reqs : (d.port p).reqs = [] → (e.port p).reqs = []
  low : ∀ l, (d.lane l).step ≤ 1 → (e.lane l).step ≤ 1

theorem Dev.LaneWork.refl (p : Nat) (d : Dev) : d.LaneWork p d := ⟨rfl, rfl, rfl, id, fun _ => id⟩

theorem Dev.LaneWork.trans {p : Nat} {d e f : Dev} (h : d.LaneWork p e) (k : e.LaneWork p f) : d.LaneWork p f :=
  ⟨k.mode.trans h.mode, k.keel.trans h.keel, k.errMap.trans h.errMap, fun hr => k.reqs (h.reqs hr), fun l hl => k.low l (h.low l hl)⟩

/-- Work on lanes of a port that has no requests, whose TETHER_DOWN is no more than logged. -/
structure Dev.Quiet (d : Dev) (p : Nat) : Prop where
  plain : d.plainErr 0x1B = true
  reqs : (d.port p).reqs = []

theorem Dev.Quiet.of_work {d e : Dev} {p : Nat} (hq : d.Quiet p) (h : d.LaneWork p e) : e.Quiet p :=
  ⟨by rw [Dev.plainErr, h.errMap]; exact hq.plain, h.reqs hq.reqs⟩

section
variable (p : Nat) (d : Dev)

/-- A change elsewhere in the block. -/
theorem Dev.laneWork_of_same {d e : Dev} (hmode : e.mode = d.mode) (hkeel : e.keel = d.keel) (hregs : e.regs = d.regs) (hnv : e.nv = d.nv)
    (hports : e.ports = d.ports) (hlanes : e.lanes = d.lanes) : d.LaneWork p e :=
  ⟨hmode, hkeel, Dev.rd_congr hregs hnv _, by rw [Dev.port, Dev.port, hports]; exact id, fun l => by rw [Dev.lane, Dev.lane, hlanes]; exact id⟩

theorem Dev.laneWork_wr {a : Nat} (v : W64) (h : 0x400000 ≤ a) : d.LaneWork p (d.wr a v) :=
  ⟨rfl, rfl, d.rd_wr_ne v (by unfold a_ERR_MAP; omega), id, fun _ => id⟩

theorem Dev.laneWork_wrF {a : Nat} (f : Fld) (n : Nat) (h : 0x400000 ≤ a) : d.LaneWork p (d.wrF a f n) := d.laneWork_wr p _ h

theorem Dev.laneWork_wrB {a : Nat} (f : Fld) (b : Bool) (h : 0x400000 ≤ a) : d.LaneWork p (d.wrB a f b) := d.laneWork_wr p _ h

theorem Dev.laneWork_inc {a : Nat} (f : Fld) (h : 0x400000 ≤ a) : d.LaneWork p (d.inc a f) :=
  (d.laneWork_wr p _ h).trans (Dev.laneWork_of_same p rfl rfl rfl rfl rfl rfl)

theorem Dev.laneWork_flag {a : Nat} (f : Fld) (h : 0x400000 ≤ a) : d.LaneWork p (d.flag a f) :=
  (d.laneWork_wr p _ h).trans (Dev.laneWork_of_same p rfl rfl rfl rfl rfl rfl)

theorem Dev.laneWork_emit (x : Out) : d.LaneWork p (d.emit x) := Dev.laneWork_of_same p rfl rfl rfl rfl rfl rfl

theorem Dev.laneWork_bringFrom (src : RegStore) (e : Eff) (q : Nat → Bool) : d.LaneWork p (d.bringFrom src e q) :=
  Dev.laneWork_of_same p rfl rfl rfl rfl rfl rfl

theorem lget_lset {α : Type} (l : List α) (i j : Nat) (x a : α) : lget (lset l i x) j a = if j = i ∧ i < l.length then x else lget l j a := by
  by_cases hj : j = i
  · subst hj
    by_cases hlt : j < l.length
    · rw [lget_lset_self l x a hlt, if_pos ⟨rfl, hlt⟩]
    · simp [lget, lset, hlt]
  · rw [lget_lset_ne l x a hj, if_neg fun hn => hj hn.1]

theorem Dev.laneWork_setLane (l : Nat) (x : LaneSt) (h : (d.lane l).step ≤ 1 → x.step ≤ 1) : d.LaneWork p (d.setLane l x) := by
  refine ⟨rfl, rfl, rfl, id, fun k hk => ?_⟩
  rw [Dev.lane, Dev.setLane, lget_lset]
  split
  next heq => exact h (heq.1 ▸ hk)
  next => exact hk

/-- A lane stored at a low step is at one, or there is no such lane. -/
theorem Dev.low_setLane (l : Nat) (x : LaneSt) (h : x.step ≤ 1) : ((d.setLane l x).lane l).step ≤ 1 := by
  rw [Dev.lane, Dev.setLane, lget_lset]
  split
  · exact h
  next hn =>
    have hnone : lget d.lanes l .reset = .reset := by
      have hle : d.lanes.length ≤ l := by simpa using hn
      simp [lget, hle]
    rw [hnone]
    decide

theorem Dev.laneWork_setPort (q : Nat) (x : PortSt) (h : (d.port q).reqs = [] → x.reqs = []) : d.LaneWork p (d.setPort q x) := by
  refine ⟨rfl, rfl, rfl, fun hp => ?_, fun _ => id⟩
  rw [Dev.port, Dev.setPort, lget_lset]
  split
  next heq => exact h (heq.1 ▸ hp)
  next => exact hp

theorem Dev.laneWork_sendAligns (l : Nat) : d.LaneWork p (d.sendAligns l) := by
  unfold Dev.sendAligns
  extract_lets x n k
  split
  · exact .refl p d
  · refine .trans ?_ (Dev.laneWork_emit p _ _)
    exact d.laneWork_setLane p l _ id

theorem lq_le (l : Nat) : 0x400000 ≤ lnStat l ∧ 0x400000 ≤ lnCnt l ∧ 0x400000 ≤ eyeCtrl l ∧ 0x400000 ≤ a_TPT_LINK l := by
  unfold lnStat lnCnt eyeCtrl a_LQ_LN_STAT a_LQ_LN_CNT a_LQ_EYE_CTRL a_TPT_LINK
  omega

theorem Dev.laneWork_abortEye (l : Nat) : d.LaneWork p (d.abortEye l) := by
  obtain ⟨-, -, heye, -⟩ := lq_le l
  unfold Dev.abortEye
  extract_lets a
  split
  · exact ((d.laneWork_wrB p _ _ heye).trans (Dev.laneWork_wrF p _ _ _ heye)).trans (Dev.laneWork_flag p _ _ heye)
  · exact .refl p d

theorem Dev.laneWork_showLink (q : Nat) : d.LaneWork p (d.showLink q) := by
  obtain ⟨-, -, -, hlink⟩ := lq_le q
  unfold Dev.showLink
  extract_lets a l0 l1 d1 d2 d3
  have h3 : d.LaneWork p d3 :=
    .trans (.trans (.trans (d.laneWork_wrF p _ _ hlink) (Dev.laneWork_wrF p _ _ _ hlink))
      (.trans (Dev.laneWork_wrF p _ _ _ hlink) (Dev.laneWork_wrF p _ _ _ hlink))) (Dev.laneWork_wrB p _ _ _ hlink)
  split
  · exact h3.trans (.trans (Dev.laneWork_wrF p _ _ _ hlink) (Dev.laneWork_wrF p _ _ _ hlink))
  · exact h3

theorem Dev.laneWork_setTaps (l pre post : Nat) : d.LaneWork p (d.setTaps l pre post) := by
  obtain ⟨hstat, -, -, -⟩ := lq_le l
  exact ((d.laneWork_wrF p _ _ hstat).trans (Dev.laneWork_wrF p _ _ _ hstat)).trans (Dev.laneWork_wrF p _ _ _ hstat)

theorem Dev.laneWork_bridle (q : Nat) : d.LaneWork p (d.bridle q) := by
  unfold Dev.bridle
  extract_lets x
  split
  · split
    · refine .trans ?_ (Dev.laneWork_emit p _ _)
      exact d.laneWork_setPort p q _ id
    · exact .refl p d
  · split
    · refine .trans ?_ (Dev.laneWork_emit p _ _)
      exact d.laneWork_setPort p q _ id
    · exact .refl p d

theorem Dev.laneWork_portConfig (q : Nat) : d.LaneWork p (d.portConfig q) := by
  refine .trans ?_ (Dev.laneWork_bridle p _ q)
  exact d.laneWork_bringFrom p _ _ _

end

/-- A port without requests has none to fail. -/
theorem Dev.laneWork_portDown (d : Dev) (p : Nat) (hr : (d.port p).reqs = []) : d.LaneWork p (d.portDown p) := by
  unfold Dev.portDown
  simp only [hr, List.foldl_nil]
  exact d.laneWork_setPort p p _ fun _ => rfl

theorem Dev.laneWork_leaveActive (d : Dev) (p l : Nat) (hl : laneUse l = .tether → l / 2 = p) (hq : d.Quiet p) : d.LaneWork p (d.leaveActive l) := by
  obtain ⟨hstat, hcnt, -, -⟩ := lq_le l
  unfold Dev.leaveActive
  extract_lets d1 d2 d3
  have h2 : d.LaneWork p d2 :=
    .trans (.trans (d.laneWork_inc p _ hcnt) (Dev.laneWork_abortEye p _ l)) (Dev.laneWork_wrB p _ _ _ hstat)
  split
  next huse =>
    have hq2 := hq.of_work h2
    have h3 : d2.LaneWork p d3 := by
      unfold d3
      rw [d2.reportErr_of_plain 0x1B _ _ hq2.plain (by decide)]
      exact Dev.laneWork_of_same p rfl rfl rfl rfl rfl rfl
    split
    · exact h2.trans h3
    · rw [hl huse]
      exact (h2.trans h3).trans (d3.laneWork_portDown p (h3.reqs hq2.reqs))
  next => exact h2

/-- A lane that moves to step 0 or 1 is there, and the work on it leaves the rest alone. -/
theorem Dev.laneStep_work (d : Dev) (p l step : Nat) (hs : step ≤ 1) (hl : laneUse l = .tether → l / 2 = p) (hq : d.Quiet p) :
    d.LaneWork p (d.laneStep l step) ∧ ((d.laneStep l step).lane l).step ≤ 1 := by
  obtain ⟨hstat, -, -, -⟩ := lq_le l
  unfold Dev.laneStep
  extract_lets d1 x d2 back d3 d4 up shown d5 d6 d7 d8
  have h1 : d.LaneWork p d1 := by
    unfold d1
    split
    · exact d.laneWork_sendAligns p l
    · exact .refl p d
  have h2 : d1.LaneWork p d2 := d1.laneWork_setLane p l _ fun _ => hs
  have hlow : (d2.lane l).step ≤ 1 := d1.low_setLane l _ hs
  have h3 : d3 = d2 := if_neg fun hn => by omega
  have hq3 : d3.Quiet p := by
    rw [h3]
    exact (hq.of_work h1).of_work h2
  have h4 : d3.LaneWork p d4 := by
    unfold d4
    split
    · exact d3.laneWork_leaveActive p l hl hq3
    · exact .refl p d3
  have h5 : d5 = d4 := if_neg (by omega)
  have h6 : d5.LaneWork p d6 := (d5.laneWork_wrF p _ _ hstat).trans (Dev.laneWork_wrB p _ _ _ hstat)
  have h7 : d6.LaneWork p d7 := by
    unfold d7
    split
    · exact d6.laneWork_showLink p _
    · exact .refl p d6
  have h8 : d8 = d7 := if_neg (by simp; omega)
  have hrest : d2.LaneWork p d8 := by
    rw [h8]
    rw [h3] at h4
    rw [h5] at h6
    exact (h4.trans h6).trans h7
  rw [if_neg (by omega)]
  exact ⟨(h1.trans h2).trans hrest, hrest.low l hlow⟩

theorem Dev.laneWork_laneStep (d : Dev) (p l step : Nat) (hs : step ≤ 1) (hl : laneUse l = .tether → l / 2 = p) (hq : d.Quiet p) :
    d.LaneWork p (d.laneStep l step) := (d.laneStep_work p l step hs hl hq).1

theorem Dev.laneWork_detect (d : Dev) (p l rate : Nat) (final : Bool) (hl : laneUse l = .tether → l / 2 = p) (hq : d.Quiet p) :
    d.LaneWork p (d.detect l rate final) := by
  obtain ⟨hstat, -, -, -⟩ := lq_le l
  obtain ⟨-, -, -, hlink⟩ := lq_le (l / 2)
  unfold Dev.detect
  extract_lets d1 d2 x d3 d4 d5 d6 t
  have h1 : d.LaneWork p d1 := d.laneWork_bringFrom p _ _ _
  have h2 : d1.LaneWork p d2 := d1.laneWork_laneStep p l 1 (by omega) hl (hq.of_work h1)
  have h3 : d2.LaneWork p d3 := d2.laneWork_setLane p l _ id
  have h4 : d3.LaneWork p d4 := by
    unfold d4
    split
    · exact .refl p d3
    · exact d3.laneWork_wrF p _ _ hstat
  have h5 : d4.LaneWork p d5 := by
    unfold d5
    split
    · exact d4.laneWork_wrF p _ _ hlink
    · exact .refl p d4
  have h6 : d5.LaneWork p d6 := by
    unfold d6
    split
    · exact d5.laneWork_wrF p _ _ hlink
    · exact .refl p d5
  exact (((h1.trans h2).trans (h3.trans h4)).trans (h5.trans h6)).trans (d6.laneWork_setTaps p l _ _)

theorem Dev.laneWork_followMode (d : Dev) (p k : Nat) (hk : k ≤ 1) (hq : d.Quiet p) : d.LaneWork p (d.followMode p k) := by
  have hl : laneUse (2 * p + k) = .tether → (2 * p + k) / 2 = p := fun _ => by omega
  unfold Dev.followMode
  extract_lets l x
  split
  · split
    · exact d.laneWork_detect p l 0 false hl hq
    · exact .refl p d
  · split
    · exact d.laneWork_laneStep p l 0 (by omega) hl hq
    · exact .refl p d

theorem Dev.laneWork_restartEth (d : Dev) (p l : Nat) (hl : laneUse l = .eth) (hq : d.Quiet p) : d.LaneWork p (d.restartEth l) := by
  have hno : laneUse l = .tether → l / 2 = p := fun hn => by simp [hl] at hn
  unfold Dev.restartEth
  extract_lets was d1 rst d2 d3
  have h1 : d.LaneWork p d1 := d.laneWork_bringFrom p _ _ _
  split
  · split
    · exact h1.trans (d1.laneWork_detect p l was false hno (hq.of_work h1))
    · exact h1
  · have h3 : d.LaneWork p d3 := by
      have hquad : 0x400000 ≤ a_LQ_QUAD_STAT 12 := by decide
      refine .trans ?_ (Dev.laneWork_wrB p _ _ _ hquad)
      exact h1.trans (Dev.laneWork_of_same p rfl rfl rfl rfl rfl rfl)
    refine List.foldlRecOn (motive := fun e => d.LaneWork p e) _ _ h3 fun e he k hk => ?_
    have huse : laneUse k = .tether → k / 2 = p := by
      have heth : laneUse k = .eth := by
        revert hk k
        decide
      simp [heth]
    have hstep := e.laneWork_laneStep p k 0 (by omega) huse (hq.of_work he)
    exact (he.trans hstep).trans (Dev.laneWork_setLane p _ k _ id)

/-- A lane that is restarted is down or in receiver detect. -/
theorem Dev.restartLane_work (d : Dev) (l rate : Nat) (final : Bool) (hq : d.Quiet (l / 2)) :
    d.LaneWork (l / 2) (d.restartLane l rate final) ∧ ((d.restartLane l rate final).lane l).step ≤ 1 := by
  unfold Dev.restartLane
  extract_lets d1 p same kept d2 d3
  obtain ⟨h1, hlow⟩ := d.laneStep_work (l / 2) l 0 (by omega) (fun _ => rfl) hq
  have hq1 := hq.of_work h1
  have hown : laneUse l = .tether → l / 2 = l / 2 := fun _ => rfl
  have hend {e : Dev} (he : d1.LaneWork (l / 2) e) : d.LaneWork (l / 2) e ∧ (e.lane l).step ≤ 1 := ⟨h1.trans he, he.low l hlow⟩
  split
  · have h2 : d1.LaneWork (l / 2) d2 := d1.laneWork_portConfig (l / 2) _
    have h3 : d2.LaneWork (l / 2) d3 := by
      unfold d3
      split
      · exact .refl _ d2
      · exact d2.laneWork_followMode (l / 2) _ (by omega) (hq1.of_work h2)
    have hq3 := hq1.of_work (h2.trans h3)
    split
    · split
      · exact hend ((h2.trans h3).trans (d3.laneWork_detect _ l rate final hown hq3))
      · exact hend ((h2.trans h3).trans (d3.laneWork_detect _ l 0 false hown hq3))
    · exact hend (h2.trans h3)
  · split
    next heth => exact hend (d1.laneWork_restartEth _ l heth hq1)
    next =>
      split
      · exact hend (d1.laneWork_detect _ l rate final hown hq1)
      · exact hend (.refl _ d1)

theorem Dev.retrain_work (d : Dev) (l : Nat) (hq : d.Quiet (l / 2)) :
    d.LaneWork (l / 2) (d.retrain l) ∧ ((d.retrain l).lane l).step ≤ 1 := by
  obtain ⟨-, hcnt, -, -⟩ := lq_le l
  unfold Dev.retrain
  extract_lets x d1
  have h1 : d.LaneWork (l / 2) d1 := by
    unfold d1
    split
    · exact d.laneWork_inc _ _ hcnt
    · exact .refl _ d
  obtain ⟨h2, hlow⟩ := d1.restartLane_work l x.rate x.final (hq.of_work h1)
  exact ⟨h1.trans h2, hlow⟩

/-- LANE_RETRAIN accepted: the service operation runs, and its lane is down or in receiver detect (R355, R434). -/
theorem Dev.laneRetrain_pends {o : Dev} {h : EnvHdr} {l : Byte} {q : Fin 13} (hs : o.starts h (.laneRetrain l) = true) (hsvc : o.svcCheck = 0)
    (hq : q.val = l.toNat / 4) (hon : o.reachable (.lq q) = true) (hreqs : (o.port (l.toNat / 2)).reqs = []) (hplain : o.plainErr 0x1B = true) :
    let d := o.submit h (.laneRetrain l)
    Pends o d h (.laneRetrain l) noLine ∧ d.mode.service = some o.keel.nextId ∧ (d.lane l.toNat).step ≤ 1 := by
  have halike := o.checksAlike_taken h (.laneRetrain l)
  have hsvc' := halike.svcCheck.trans hsvc
  have hlt : l.toNat / 4 < 13 := hq ▸ q.isLt
  have hon' : (o.taken h (.laneRetrain l)).reachable (.lq ⟨l.toNat / 4, hlt⟩) = true := by
    rw [halike.reachable]
    exact (congrArg (fun x => o.reachable (.lq x)) (Fin.ext hq.symm)).trans hon
  have hsubmit : o.submit h (.laneRetrain l) = (o.served h (.laneRetrain l) noLine).retrain l.toNat := by
    rw [Dev.submit_of_starts o h _ hs]
    show Dev.runRetrain _ _ _ = _
    unfold Dev.runRetrain
    refine (if_neg (not_not.mpr hsvc')).trans (if_neg ?_)
    simp [hlt, hon']
  have hrest := o.rests_served h (.laneRetrain l) noLine
  have hquiet : (o.served h (.laneRetrain l) noLine).Quiet (l.toNat / 2) := by
    have hmap : ¬ serviceRegs h.mailbox (a_ERR_MAP 0x1B) := by
      rintro ((hn | hn) | ⟨c, hn⟩)
      · unfold a_ERR_MAP a_MBX_MB_STAT at hn; omega
      · unfold a_ERR_MAP a_MBX_STAT at hn; omega
      · unfold a_ERR_MAP a_BAL_ACTIVE at hn; omega
    have htaken : (o.serving h (.laneRetrain l)).rd (a_ERR_MAP 0x1B) = o.rd (a_ERR_MAP 0x1B) :=
      o.rd_taken h (.laneRetrain l) (by unfold a_ERR_MAP a_MBX_MB_STAT; omega)
    refine ⟨?_, ?_⟩
    · rw [Dev.plainErr, hrest.rd _ hmap, htaken]
      exact hplain
    · rw [Dev.port, hrest.ports]
      exact hreqs
  obtain ⟨hwork, hlow⟩ := Dev.retrain_work _ l.toNat hquiet
  rw [hsubmit]
  refine ⟨?_, ?_, hlow⟩
  · rw [Pends, hwork.keel]
    exact o.pends_served h (.laneRetrain l) noLine
  · rw [hwork.mode]
    exact o.service_served h (.laneRetrain l) noLine

end Sys2Proof.Machine
end

section
namespace Sys2Proof.Machine

/-! ### Merge points drained (R41, R374) -/

/-- A window that was empty stays so. -/
def Dev.FillsNone (d e : Dev) : Prop := ∀ i, (d.mrg.get i).held = [] → (e.mrg.get i).held = []

theorem Dev.FillsNone.trans {d e f : Dev} (h : d.FillsNone e) (k : e.FillsNone f) : d.FillsNone f := fun i hi => k i (h i hi)

theorem Dev.fillsNone_of_same {d e : Dev} (h : e.mrg = d.mrg) : d.FillsNone e := fun i hi => by rwa [h]

theorem Dev.Keeps.fillsNone {d e : Dev} (h : d.Keeps e) : d.FillsNone e := h.held

theorem Dev.fillsNone_enterSafe (d : Dev) (cause : Nat) : d.FillsNone (d.enterSafe cause) := by
  cases hs : d.mode.starting with
  | true => exact (d.keeps_enterSafe_of_starting cause hs).fillsNone
  | false => exact fun i hi => (d.keeps_enterSafe cause hs).held i hi

theorem Dev.fillsNone_reportErr (d : Dev) (code origin info : Nat) : d.FillsNone (d.reportErr code origin info) := by
  obtain ⟨e, x, hkeep, h | h⟩ := d.reportErr_cases code origin info
  · rw [h]
    exact (hkeep.trans (e.keeps_fly _ _)).fillsNone
  · rw [h]
    exact (hkeep.fillsNone.trans (e.fillsNone_enterSafe 2)).trans (Dev.keeps_fly _ _ _).fillsNone

theorem Dev.fillsNone_currentIrq (d : Dev) : d.FillsNone d.currentIrq := by
  unfold Dev.currentIrq
  split
  · exact Dev.fillsNone_of_same rfl
  · split
    · unfold Dev.msix
      split
      · exact Dev.fillsNone_of_same rfl
      · split <;> exact Dev.fillsNone_of_same rfl
    · exact Dev.fillsNone_of_same rfl

theorem Dev.fillsNone_queueErr (d : Dev) (e : ErrEntry) : d.FillsNone (d.queueErr e) := by
  unfold Dev.queueErr
  extract_lets first err d1 d2
  have h2 : d.FillsNone d2 := by
    unfold d2
    split <;> exact Dev.fillsNone_of_same rfl
  split
  · exact h2.trans d2.fillsNone_currentIrq
  · exact h2

theorem Dev.fillsNone_joinErrors (d : Dev) (e : ErrEntry) : d.FillsNone (d.joinErrors e) := by
  unfold Dev.joinErrors
  split
  · exact Dev.fillsNone_of_same rfl
  · split
    · exact d.fillsNone_queueErr e
    · extract_lets d1 err
      split
      · exact Dev.fillsNone_of_same rfl
      · split
        · exact Dev.fillsNone_of_same rfl
        · refine .trans ?_ (Dev.fillsNone_queueErr _ _)
          exact Dev.fillsNone_of_same rfl

theorem Dev.fillsNone_reconCompare (d : Dev) (bytes : List Byte) : d.FillsNone (d.reconCompare bytes) := by
  unfold Dev.reconCompare Dev.toDiffRing
  extract_lets k
  split
  · exact Dev.fillsNone_of_same rfl
  · split
    · exact (d.keeps_fly _ _).fillsNone
    · exact Dev.fillsNone_of_same rfl

theorem Dev.fillsNone_compared (d : Dev) (same : Bool) : d.FillsNone (d.compared same) := by
  unfold Dev.compared
  split
  · exact Dev.fillsNone_of_same rfl
  · extract_lets d1 pair
    split
    · exact Dev.fillsNone_of_same rfl
    · refine .trans ?_ (Dev.fillsNone_reportErr _ _ _ _)
      exact Dev.fillsNone_of_same rfl

theorem Dev.fillsNone_pairCompare (d : Dev) (at_ : Nat) (bytes : List Byte) : d.FillsNone (d.pairCompare at_ bytes) := by
  unfold Dev.pairCompare
  extract_lets k
  split
  · refine .trans ?_ (Dev.fillsNone_compared _ _)
    exact Dev.fillsNone_of_same rfl
  · exact Dev.fillsNone_of_same rfl

theorem Dev.fillsNone_deliver (d : Dev) (x : Item) : d.FillsNone (d.deliver x) := by
  unfold Dev.deliver
  split
  · exact d.fillsNone_joinErrors _
  · exact Dev.fillsNone_of_same rfl
  · exact Dev.fillsNone_of_same rfl
  · exact Dev.fillsNone_of_same rfl
  · split
    · exact d.fillsNone_reconCompare _
    · exact d.fillsNone_pairCompare _ _

theorem Dev.fillsNone_deliverAll (d : Dev) (xs : List Item) : d.FillsNone (d.deliverAll xs) :=
  List.foldlRecOn (motive := fun e => d.FillsNone e) xs _ (Dev.fillsNone_of_same rfl) fun e he x _ => he.trans (e.fillsNone_deliver x)

/-- A merge point drained holds nothing, and none that was empty fills. -/
theorem Dev.drainMerge_empties (d : Dev) (i : MergeId) : d.FillsNone (d.drainMerge i) ∧ ((d.drainMerge i).mrg.get i).held = [] := by
  unfold Dev.drainMerge
  extract_lets m d1
  have h1 : d1 = { d with mrg := d.mrg.set i (m.released (m.held.map (·.1)) []) } := d.setMerge_zero i _
  have hall := d1.fillsNone_deliverAll (m.held.map (·.1))
  rw [h1] at hall ⊢
  refine ⟨.trans (d.keeps_setMrg i _ fun _ => rfl).fillsNone hall, hall i ?_⟩
  show ((d.mrg.set i _).get i).held = []
  rw [Merges.get_set_self]
  rfl

theorem Dev.foldl_drainMerge_empties (l : List MergeId) (d : Dev) (i : MergeId) (h : i ∈ l ∨ (d.mrg.get i).held = []) :
    ((l.foldl (fun d i => d.drainMerge i) d).mrg.get i).held = [] := by
  induction l generalizing d with
  | nil => simpa using h
  | cons j l ih =>
    obtain ⟨hfill, hdrained⟩ := d.drainMerge_empties j
    refine ih _ ?_
    rcases h with hmem | hnone
    · rcases List.mem_cons.mp hmem with rfl | hmem
      · exact .inr hdrained
      · exact .inl hmem
    · exact .inr (hfill i hnone)

theorem mem_allMerges (i : MergeId) : i ∈ allMerges := by
  cases i <;> decide

/-- A merge point that holds nothing drains to what it is. -/
theorem Dev.drainMerge_of_none (d : Dev) (i : MergeId) (h : (d.mrg.get i).held = []) : d.drainMerge i = d := by
  have hset : d.mrg.set i ((d.mrg.get i).released [] []) = d.mrg := by
    have hsame : (d.mrg.get i).released [] [] = d.mrg.get i := by
      unfold MergePt.released
      rw [← h]
      rfl
    rw [hsame]
    cases i <;> rfl
  simp only [Dev.drainMerge, h, List.map_nil, Dev.setMerge_zero, hset]
  rfl

theorem Dev.foldl_drainMerge_of_none (l : List MergeId) (d : Dev) (h : ∀ i, (d.mrg.get i).held = []) :
    l.foldl (fun d i => d.drainMerge i) d = d := by
  induction l with
  | nil => rfl
  | cons j l ih => rw [List.foldl_cons, d.drainMerge_of_none j (h j), ih]

/-- The block with every merge point drained. -/
def Dev.drained (d : Dev) : Dev := allMerges.foldl (fun d i => d.drainMerge i) d

theorem Dev.held_drained (d : Dev) (i : MergeId) : (d.drained.mrg.get i).held = [] :=
  Dev.foldl_drainMerge_empties allMerges d i (.inl (mem_allMerges i))

theorem Dev.drained_of_none (d : Dev) (h : ∀ i, (d.mrg.get i).held = []) : d.drained = d := Dev.foldl_drainMerge_of_none _ d h

/-- The block with a time step to apply. -/
def Dev.stepping (d : Dev) (x : Nat × Int) : Dev := { d with clk := { d.clk with step := some x } }

theorem Dev.runTimeStep_accepted (d : Dev) (t : Taken) (amount : W64) (hon : d.reachable .time = true)
    (hlink : (d.established && !d.ridgeUp) = false) : d.runTimeStep t amount = (d.accept t noLine).drained.stepping (t.id, amount.toInt) := by
  unfold Dev.runTimeStep
  rw [if_neg (by simp [hon]), if_neg (by simp [hlink])]
  extract_lets d1 d2 clk
  have hdrained : d2 = (d.accept t noLine).drained := rfl
  rw [← hdrained]
  clear_value d2
  rfl

/-- TIME_STEP accepted: every merge point drains, and the step pends (R374). -/
theorem Dev.timeStep_pends {o : Dev} {h : EnvHdr} {x : W64} (hs : o.starts h (.timeStep x) = true) (hon : o.reachable .time = true)
    (hlink : o.established = true → o.ridgeUp = true) :
    let d := o.submit h (.timeStep x)
    d.clk.step = some (o.keel.nextId, x.toInt) ∧ (∀ m, (d.mrg.get m).held = []) ∧
      ((∀ m, (o.mrg.get m).held = []) → Pends o d h (.timeStep x) noLine ∧ SameRegs o d h) := by
  have halike := o.checksAlike_taken h (.timeStep x)
  have hon' := (halike.reachable .time).trans hon
  have hlink' : ((o.taken h (.timeStep x)).established && !(o.taken h (.timeStep x)).ridgeUp) = false := by
    rw [halike.established, halike.ridgeUp]
    cases hest : o.established with
    | false => rfl
    | true => simp [hlink hest]
  have hsubmit : o.submit h (.timeStep x) = (o.accepted h (.timeStep x) noLine).drained.stepping (o.keel.nextId, x.toInt) := by
    rw [Dev.submit_of_starts o h _ hs]
    exact Dev.runTimeStep_accepted _ _ x hon' hlink'
  have hrest := o.rests_accepted h (.timeStep x) noLine
  have hpend := o.pends_accepted h (.timeStep x) noLine
  rw [hsubmit]
  generalize o.accepted h (.timeStep x) noLine = e at hrest hpend
  have hheld := e.held_drained
  have hsame (hnone : ∀ m, (o.mrg.get m).held = []) : e.drained = e := e.drained_of_none fun i => by rw [hrest.mrg]; exact hnone i
  generalize e.drained = f at hheld hsame
  refine ⟨rfl, hheld, fun hnone => ?_⟩
  rw [hsame hnone]
  exact ⟨hpend, hrest.sameRegs⟩

end Sys2Proof.Machine
end

section
namespace Sys2Proof.Machine

/-! ### Envelopes taken from a ring (R331, R335) -/

theorem alGet_alSet_self {α : Type} (l : List (Nat × α)) (k : Nat) (v d : α) : alGet (alSet l k v) k d = v := by
  induction l with
  | nil => simp [alSet, alGet]
  | cons p l ih =>
    unfold alSet
    split
    next => simp [alGet]
    next hp =>
      split
      · simp [alGet]
      · simpa [alGet, hp] using ih

theorem Dev.ring_setRing (d : Dev) (r k : Nat) (c : RingCtx) : (d.setRing r c).ring k = if k = r then c else d.ring k := by
  rw [Dev.ring, Dev.setRing]
  split
  next hk => rw [hk, alGet_alSet_self]
  next hk => rw [alGet_alSet_ne _ _ _ hk, Dev.ring]

/-- What reading ahead, moving bytes of the host and messages leave alone. -/
structure Dev.HostWork (d e : Dev) : Prop where
  regs : e.regs = d.regs
  force : e.force = d.force
  nv : e.nv = d.nv
  mem : e.mem = d.mem
  mode : e.mode = d.mode
  cal : e.cal = d.cal
  rst : e.rst = d.rst
  wpu : e.wpu = d.wpu
  keel : e.keel = d.keel
  clk : e.clk = d.clk
  head : ∀ r, (e.ring r).head = (d.ring r).head
  loc : ∀ r, (e.ring r).loc = (d.ring r).loc

theorem Dev.HostWork.refl (d : Dev) : d.HostWork d := ⟨rfl, rfl, rfl, rfl, rfl, rfl, rfl, rfl, rfl, rfl, fun _ => rfl, fun _ => rfl⟩

theorem Dev.HostWork.trans {d e f : Dev} (h : d.HostWork e) (k : e.HostWork f) : d.HostWork f :=
  ⟨k.regs.trans h.regs, k.force.trans h.force, k.nv.trans h.nv, k.mem.trans h.mem, k.mode.trans h.mode, k.cal.trans h.cal, k.rst.trans h.rst,
    k.wpu.trans h.wpu, k.keel.trans h.keel, k.clk.trans h.clk, fun r => (k.head r).trans (h.head r), fun r => (k.loc r).trans (h.loc r)⟩

section
variable (d : Dev)

theorem Dev.hostWork_setRing (r : Nat) (c : RingCtx) (hhead : c.head = (d.ring r).head) (hloc : c.loc = (d.ring r).loc) :
    d.HostWork (d.setRing r c) := by
  refine ⟨rfl, rfl, rfl, rfl, rfl, rfl, rfl, rfl, rfl, rfl, fun k => ?_, fun k => ?_⟩
  · rw [Dev.ring_setRing]
    split
    next hk => rw [hk, hhead]
    next => rfl
  · rw [Dev.ring_setRing]
    split
    next hk => rw [hk, hloc]
    next => rfl

theorem Dev.hostWork_setRun (r : Nat) (x : RingRun) : d.HostWork (d.setRun r x) :=
  ⟨rfl, rfl, rfl, rfl, rfl, rfl, rfl, rfl, rfl, rfl, fun _ => rfl, fun _ => rfl⟩

theorem Dev.hostWork_hostGet (a : Nat) (best : Bool) (n : Nat) : d.HostWork (d.hostGet a best n) :=
  ⟨rfl, rfl, rfl, rfl, rfl, rfl, rfl, rfl, rfl, rfl, fun _ => rfl, fun _ => rfl⟩

theorem Dev.hostWork_hostPut (a : Nat) (ro best : Bool) (bs : List Byte) : d.HostWork (d.hostPut a ro best bs) :=
  ⟨rfl, rfl, rfl, rfl, rfl, rfl, rfl, rfl, rfl, rfl, fun _ => rfl, fun _ => rfl⟩

theorem Dev.hostWork_chargeRing (c : RingCtx) (client n : Nat) : d.HostWork (d.chargeRing c client n) := by
  unfold Dev.chargeRing
  split
  · exact .refl d
  · exact ⟨rfl, rfl, rfl, rfl, rfl, rfl, rfl, rfl, rfl, rfl, fun _ => rfl, fun _ => rfl⟩

theorem Dev.hostWork_msix (v : Nat) : d.HostWork (d.msix v) := by
  unfold Dev.msix
  split
  · exact ⟨rfl, rfl, rfl, rfl, rfl, rfl, rfl, rfl, rfl, rfl, fun _ => rfl, fun _ => rfl⟩
  · split
    · exact .refl d
    · exact ⟨rfl, rfl, rfl, rfl, rfl, rfl, rfl, rfl, rfl, rfl, fun _ => rfl, fun _ => rfl⟩

theorem Dev.hostWork_ringIrq (r : Nat) : d.HostWork (d.ringIrq r) := by
  unfold Dev.ringIrq Dev.ringMessage
  extract_lets c d1
  split
  · split
    · exact .refl d
    · refine .trans ?_ (Dev.hostWork_setRun _ _ _)
      refine .trans ?_ (Dev.hostWork_msix _ _)
      exact d.hostWork_setRing r _ rfl rfl
  · exact .refl d

theorem Dev.hostWork_prefetch (r : Nat) : d.HostWork (d.prefetch r) := by
  unfold Dev.prefetch
  extract_lets c x want client d1
  split
  · exact .refl d
  · have h1 : d.HostWork d1 :=
      List.foldlRecOn (motive := fun e => d.HostWork e) _ _ (.refl d) fun e he k _ => he.trans (e.hostWork_hostGet _ _ _)
    refine .trans ?_ (Dev.hostWork_setRun _ _ _)
    exact h1.trans (d1.hostWork_chargeRing _ _ _)

/-- A descriptor used: HEAD of its ring moves on. -/
theorem Dev.descDone_head (r : Nat) : (d.setRing r { d.ring r with head := (d.ring r).head + 1 }).HostWork (d.descDone r) := by
  unfold Dev.descDone
  extract_lets c d1 x
  refine .trans ?_ (Dev.hostWork_prefetch _ _)
  refine .trans ?_ (Dev.hostWork_ringIrq _ _)
  exact d1.hostWork_setRun r _

end

/-- The block that has read the next envelope of a mailbox's ring in host memory, n bytes at a. -/
def Dev.boxRead (d : Dev) (m : Fin 16) (a n : Nat) : Dev :=
  (((({ d with keel := { d.keel with nextBox := (m.val + 1) % 16 } } : Dev).prefetch m).hostGet a false n).chargeRing (d.ring m) 3 n).descBack m false

theorem Dev.envelopeTake_eq (d : Dev) (rd : Nat → Nat → List Byte) {m : Fin 16} {desc env : List Byte} (hserves : d.keelServes = true)
    (hnext : d.nextMailbox = some m) (hbox : m.val ≠ 15) (hloc : (d.ring m).loc = false) (hdesc : desc.length = 16)
    (haddr : leAt desc 0 8 % 8 = 0) (hlen : leAt desc 8 2 = env.length) (hmul : env.length % 8 = 0) (hmin : 32 ≤ env.length)
    (hmax : env.length ≤ 4064) (hkeel : d.exhausted 8 .keel = false) (hring : d.ringShort (d.ring m) 3 = false) :
    d.envelopeTake rd desc env = (d.boxRead m (leAt desc 0 8) env.length).takeEnvelope m env.length env none := by
  have hpad : padTo (desc.take 16) 16 = desc := by simp [padTo, zeros, hdesc, List.take_of_length_le]
  have hpadEnv : padTo (env.take env.length) env.length = env := by simp [padTo, zeros]
  unfold Dev.envelopeTake
  rw [if_neg (by simp [hserves])]
  split
  next hnone => simp [hnone] at hnext
  next m' hm' =>
    obtain rfl : m' = m := Option.some.inj (hm'.symm.trans hnext)
    rw [hkeel, if_neg Bool.false_ne_true, hring, if_neg Bool.false_ne_true]
    extract_lets keel d1 line pair d2 c d3 b a n i hd d4
    have h2 : d2 = d1 := if_neg hbox
    have hc : c = d.ring m' := by
      unfold c
      rw [h2]
      rfl
    have hcl : c.loc = false := by rw [hc, hloc]
    have hb : b = desc := by
      unfold b
      rw [hcl, if_neg Bool.false_ne_true, hpad]
    have ha : a = leAt desc 0 8 := by rw [← hb]
    have hn : n = env.length := by rw [← hlen, ← hb]
    have hline : line = none := if_neg hbox
    have h4 : d4.descBack m' false = d.boxRead m' (leAt desc 0 8) env.length := by
      unfold d4 d3
      rw [hcl, if_neg Bool.false_ne_true, if_neg Bool.false_ne_true, h2, hc, ha, hn]
      rfl
    have hgood : (decide (a % 8 ≠ 0) || decide (n % 8 ≠ 0) || decide (n < 32) || decide (4064 < n) || c.loc && d3.outside a n) = false := by
      rw [hcl, ha, hn]
      simp
      omega
    rw [hgood, if_neg Bool.false_ne_true, hcl, if_neg Bool.false_ne_true, h4, hn, hpadEnv, hline]

/-- What reading an envelope leaves of the block. -/
theorem Dev.boxRead_leaves (d : Dev) (m : Fin 16) (a n : Nat) (hloc : (d.ring m).loc = false) :
    d.ChecksAlike (d.boxRead m a n) ∧ (d.boxRead m a n).keel = { d.keel with nextBox := (m.val + 1) % 16 } ∧
      (d.boxRead m a n).clk = d.clk ∧ ((d.boxRead m a n).ring m).head = (d.ring m).head + 1 := by
  let e : Dev := { d with keel := { d.keel with nextBox := (m.val + 1) % 16 } }
  let f : Dev := ((e.prefetch m).hostGet a false n).chargeRing (d.ring m) 3 n
  have hef : e.HostWork f := ((e.hostWork_prefetch m).trans (Dev.hostWork_hostGet _ _ _ _)).trans (Dev.hostWork_chargeRing _ _ _ _)
  have hboxed : d.boxRead m a n = f.descBack m false := rfl
  have hlocf : (f.ring m).loc = false := (hef.loc m).trans hloc
  obtain ⟨g, hfg, hback⟩ : ∃ g, f.HostWork g ∧ f.descBack m false = g.descDone m := by
    refine ⟨_, ?_, rfl⟩
    refine .trans ?_ (Dev.hostWork_chargeRing _ _ _ _)
    simp only [Dev.ringWriteMem, hlocf]
    exact f.hostWork_hostPut _ _ _ _
  have heg := hef.trans hfg
  have hdone := g.descDone_head m
  rw [hboxed, hback]
  generalize g.descDone m = x at hdone
  refine ⟨?_, hdone.keel.trans heg.keel, hdone.clk.trans heg.clk, ?_⟩
  · exact ⟨fun a _ => Dev.rd_congr (hdone.regs.trans heg.regs) (hdone.nv.trans heg.nv) a, hdone.force.trans heg.force, hdone.nv.trans heg.nv,
      hdone.mem.trans heg.mem, hdone.mode.trans heg.mode, hdone.cal.trans heg.cal, hdone.rst.trans heg.rst, hdone.wpu.trans heg.wpu,
      congrArg (·.waiting) (hdone.keel.trans heg.keel), congrArg (·.pending) (hdone.keel.trans heg.keel),
      congrArg (·.fwd) (hdone.keel.trans heg.keel)⟩
  · rw [hdone.head, Dev.ring_setRing, if_pos rfl]
    show (g.ring m).head + 1 = _
    rw [heg.head]
    rfl

theorem Dev.rings_respond (d : Dev) (opcode : Nat) (h : EnvHdr) (status : Nat) (interim : Bool) (line : W64) (body : List Byte) :
    (d.respond opcode h status interim line body).host.rings = d.host.rings := by
  simp only [Dev.respond, Dev.ridge]
  split
  · split <;> rfl
  · split <;> rfl

theorem Dev.ring_respond (d : Dev) (opcode : Nat) (h : EnvHdr) (status : Nat) (interim : Bool) (line : W64) (body : List Byte) (r : Nat) :
    (d.respond opcode h status interim line body).ring r = d.ring r := by
  rw [Dev.ring, Dev.ring, Dev.rings_respond]

/-- An envelope rejected: answered, and its outcome kept (R335, R346). -/
theorem Dev.reject_leaves (d : Dev) (id opcode : Nat) (h : EnvHdr) (status : Nat) :
    (∀ r, (d.reject id opcode h status).ring r = d.ring r) ∧ (d.reject id opcode h status).keel.nextBox = d.keel.nextBox ∧
      (d.reject id opcode h status).keel.nextId = d.keel.nextId ∧ (d.reject id opcode h status).keel.kept.head? =
        some ⟨h.mailbox, h.tag, BitVec.ofNat 16 opcode, BitVec.ofNat 16 status, noLine, id⟩ := by
  have hkeel := d.keel_respond opcode h status false noLine []
  refine ⟨fun r => d.ring_respond _ _ _ _ _ _ r, ?_, ?_, Keel.head_keep _ _⟩
  · exact congrArg (·.nextBox) hkeel
  · exact congrArg (·.nextId) hkeel

/-- Outside recovery an envelope that fails a check is rejected with the status of that check. -/
theorem Dev.takeEnvelope_error (d : Dev) (m : Fin 16) (n : Nat) (env : List Byte) {st : Nat} (hrec : d.keel.recovery = false)
    (herr : readEnvelope n env = .error st) :
    d.takeEnvelope m n env none = (d.countTaken m).1.reject d.keel.nextId (leAt env 0 2) (envHeader m env) st := by
  have hrec' : (d.countTaken m).1.keel.recovery = false := hrec
  unfold Dev.takeEnvelope
  simp only [herr]
  rw [hrec']
  rfl

/-- An envelope whose command may not start waits (R338). -/
theorem Dev.takeEnvelope_waits (d : Dev) (m : Fin 16) (n : Nat) (env : List Byte) {cmd : Cmd} (hrec : d.keel.recovery = false)
    (hok : readEnvelope n env = .ok cmd) (hargs : d.argsOk cmd = true)
    (hmay : d.mayStart (d.takenCmd (envHeader m env) cmd) = false) :
    (∀ r, (d.takeEnvelope m n env none).ring r = d.ring r) ∧ (d.takeEnvelope m n env none).keel = { d.keel with
      nextId := d.keel.nextId + 1, waiting := d.keel.waiting ++ [d.takenCmd (envHeader m env) cmd] } := by
  have halike := d.checksAlike_taken (envHeader m env) cmd
  have hargs' := (halike.argsOk cmd).trans hargs
  have hmay' := (halike.mayStart (d.takenCmd (envHeader m env) cmd)).trans hmay
  have hserves : ¬ ((d.taken (envHeader m env) cmd).keel.recovery && !cmd.inRecovery) = true := by
    rw [show (d.taken (envHeader m env) cmd).keel.recovery = false from hrec]
    exact Bool.false_ne_true
  have hrange : ¬ (!(d.taken (envHeader m env) cmd).argsOk cmd) = true := by simp [hargs']
  have hwait : d.takeEnvelope m n env none = { d.taken (envHeader m env) cmd with keel := { (d.taken (envHeader m env) cmd).keel with
      waiting := (d.taken (envHeader m env) cmd).keel.waiting ++ [d.takenCmd (envHeader m env) cmd] } } := by
    unfold Dev.takeEnvelope
    simp only [hok]
    exact (if_neg hserves).trans ((if_neg hrange).trans (if_neg (Bool.not_eq_true _ |>.mpr hmay')))
  rw [hwait]
  exact ⟨fun _ => rfl, rfl⟩

/-! ### Commands that wait (R338) -/

/-- Where nothing is sent on, a command started by a command's rules of its own class runs at once. -/
theorem Dev.start_of_local (d : Dev) (t : Taken) (hauth : t.cmd.needsAuthority = false) (hforward : t.cmd.forwarded = false) :
    d.start t = d.run t := by
  simp [Dev.start, hauth, hforward]

theorem Dev.waitStart_eq (d : Dev) (m : Fin 16) {t : Taken} (hserves : d.keelServes = true)
    (hfind : d.keel.waiting.find? (fun t => t.h.mailbox = m) = some t) (htime : d.el < t.at_ + t.h.timeoutNs) (hmay : d.mayStart t = true) :
    d.waitStart m = ({ d with keel := { d.keel with waiting := d.keel.waiting.filter (fun w => w.id ≠ t.id) } } : Dev).start t := by
  unfold Dev.waitStart
  simp only [hfind]
  rw [if_neg (by simp [hserves]), if_neg (by omega), if_neg (by simp [hmay])]

theorem Dev.keel_answer (d : Dev) (id : Nat) (cmd : Cmd) (h : EnvHdr) (status : Nat) (line : W64) (body : List Byte) :
    (d.answer id cmd h status line body).keel =
      d.keel.keep ⟨h.mailbox, h.tag, BitVec.ofNat 16 cmd.opcode, BitVec.ofNat 16 status, line, id⟩ := by
  unfold Dev.answer
  split
  · rfl
  · show Keel.keep (d.respond _ _ _ _ _ _).keel _ = _
    rw [Dev.keel_respond]

/-- A response that is dropped is counted beside the timeouts. -/
theorem Dev.timeouts_respond (d : Dev) (opcode : Nat) (h : EnvHdr) (status : Nat) (interim : Bool) (line : W64) (body : List Byte) :
    (d.respond opcode h status interim line body).rdF a_MBX_STAT f_MBX_STAT_TIMEOUT_CNT = d.rdF a_MBX_STAT f_MBX_STAT_TIMEOUT_CNT := by
  simp only [Dev.respond]
  split
  · exact congrArg (fget · _) ((Dev.rests_ridge (fun _ => False) _ _ _).rd a_MBX_STAT id)
  · split
    · rfl
    · rw [Dev.rdF, Dev.rd_inc_self, fincSat, fget_fset_ne _ _ _ _ (by decide) (by decide)]
      rfl

theorem Dev.timeouts_answer (d : Dev) (id : Nat) (cmd : Cmd) (h : EnvHdr) (status : Nat) (line : W64) (body : List Byte) :
    (d.answer id cmd h status line body).rdF a_MBX_STAT f_MBX_STAT_TIMEOUT_CNT = d.rdF a_MBX_STAT f_MBX_STAT_TIMEOUT_CNT := by
  unfold Dev.answer
  split
  · rfl
  · exact d.timeouts_respond _ _ _ _ _ _

/-- A command that has waited too long ends with E_TIMEOUT, which is counted (R338). -/
theorem Dev.waitedOut_leaves (d : Dev) (t : Taken) (hfwd : d.keel.fwd = []) :
    (d.waitedOut t).keel.waiting = d.keel.waiting.filter (fun w => w.id ≠ t.id) ∧
      (d.waitedOut t).rdF a_MBX_STAT f_MBX_STAT_TIMEOUT_CNT =
        min (d.rdF a_MBX_STAT f_MBX_STAT_TIMEOUT_CNT + 1) (2 ^ f_MBX_STAT_TIMEOUT_CNT.w - 1) ∧
      (d.waitedOut t).keel.kept.head? = some ⟨t.h.mailbox, t.h.tag, BitVec.ofNat 16 t.cmd.opcode, 0x18, noLine, t.id⟩ := by
  let e : Dev := ({ d with keel := { d.keel with waiting := d.keel.waiting.filter (fun w => w.id ≠ t.id) } } : Dev).inc a_MBX_STAT
    f_MBX_STAT_TIMEOUT_CNT
  have hout : d.waitedOut t = e.answer t.id t.cmd t.h 0x18 noLine [] := e.finalResp_of_alone hfwd _ _ _ _ _ _
  rw [hout, Dev.keel_answer]
  refine ⟨rfl, ?_, Keel.head_keep _ _⟩
  rw [Dev.timeouts_answer]
  exact Dev.rdF_inc_self _ _ _ 1 (by decide)

end Sys2Proof.Machine
end

section
namespace Sys2Proof.Machine

/-! ### The envelopes pending (O60) -/

section
variable {o : Dev} {h : EnvHdr}

theorem Dev.submit_fwStage {x : ImageSrc} (hs : o.starts h (.fwStage x) = true) :
    o.submit h (.fwStage x) = o.accepted h (.fwStage x) noLine := Dev.submit_of_starts o h _ hs

theorem Dev.submit_nvWrite {x : ImageSrc} (hs : o.starts h (.nvWrite x) = true) :
    o.submit h (.nvWrite x) = o.accepted h (.nvWrite x) noLine := Dev.submit_of_starts o h _ hs

theorem Dev.submit_calStore (hs : o.starts h .calStore = true) :
    o.submit h .calStore = o.accepted h .calStore noLine := Dev.submit_of_starts o h _ hs

theorem Dev.submit_camRegRead {p : Byte} {n : BitVec 16} {a : W32} (hs : o.starts h (.camRegRead p n a) = true) :
    o.submit h (.camRegRead p n a) =
      Dev.runCam (o.taken h (.camRegRead p n a)) (o.takenCmd h (.camRegRead p n a)) p.toNat 3 n.toNat a.toNat [] :=
  Dev.submit_of_starts o h _ hs

theorem Dev.submit_camRegWrite {p : Byte} {a : W32} {ws : List W32} (hs : o.starts h (.camRegWrite p a ws) = true) :
    o.submit h (.camRegWrite p a ws) =
      Dev.runCam (o.taken h (.camRegWrite p a ws)) (o.takenCmd h (.camRegWrite p a ws)) p.toNat 2 ws.length a.toNat ws :=
  Dev.submit_of_starts o h _ hs

/-! The service operations (R355, R411, R434, R458, R508, R511). -/

theorem Dev.acquiring_served (o : Dev) (h : EnvHdr) (cmd : Cmd) (line : W64) : (o.served h cmd line).acquiring = o.acquiring := by
  rw [Dev.acquiring, (o.rests_served h cmd line).mode]
  rfl

theorem Dev.hbmRetire_pends {st pc : Byte} (hs : o.starts h (.hbmRetire st pc) = true) (hsvc : o.svcCheck = 0)
    (hon : o.reachable (if st.toNat = 0 then .hbm 0 else .hbm 1) = true)
    (hcheck : ({ (o.elapse 0).countTaken h.mailbox |>.1 with mode := { o.mode with service := some o.keel.nextId } } : Dev).retireCheck st.toNat
      pc.toNat = 0) :
    let d := o.submit h (.hbmRetire st pc)
    Pends o d h (.hbmRetire st pc) noLine ∧ d.mode.service = some o.keel.nextId ∧
      d.mem.retire = some ⟨some o.keel.nextId, st.toNat, pc.toNat, !o.acquiring⟩ := by
  intro d
  obtain ⟨hkeel, hmode, hretire⟩ := (o.served h (.hbmRetire st pc) noLine).retireAccept_leaves o.keel.nextId st.toNat pc.toNat
  rw [← Dev.submit_hbmRetire hs hsvc hon hcheck, Dev.acquiring_served] at hretire
  rw [← Dev.submit_hbmRetire hs hsvc hon hcheck] at hkeel hmode
  refine ⟨?_, ?_, hretire⟩
  · have hserved := o.pends_served h (.hbmRetire st pc) noLine
    rwa [Pends, ← hkeel] at hserved
  · rw [hmode]
    exact o.service_served h _ noLine

theorem Dev.fwSwap_pends (hs : o.starts h .fwSwap = true) (hsvc : o.svcCheck = 0) (hver : o.keel.idle.verified = true) :
    let d := o.submit h .fwSwap
    Pends o d h .fwSwap noLine ∧ d.mode.service = some o.keel.nextId ∧ d.keel.paused = o.keel.paused ∧ d.keel.bankInB = o.keel.bankInB := by
  rw [Dev.submit_fwSwap hs hsvc hver]
  have hkeel := o.keel_served h .fwSwap noLine
  exact ⟨o.pends_served h .fwSwap noLine, o.service_served h .fwSwap noLine, congrArg (·.paused) hkeel, congrArg (·.bankInB) hkeel⟩

theorem Dev.rdF_wrForce_self (d : Dev) (a : Nat) (f : Fld) (n : Nat) (hf : f.lo + f.w ≤ 64) : (d.wrForce a f n).rdF a f = n % 2 ^ f.w :=
  d.rdF_wrF_self a f n hf

theorem Dev.pipeTakeover_pends {t : Byte} {n : Nat} (hs : o.starts h (.pipeTakeover t) = true) (hsvc : o.svcCheck = 0)
    (hmode : o.mode.cur ∈ [Mode.inspectWide, .inspectPaired, .record]) (hspare : o.spareOf = some n) (hrole : o.roleNow t.toNat = 0)
    (hlane : o.inF (a_TPT_CFG (o.rdF (a_PIPE_ROLE t.toNat) f_PIPE_ROLE_PORT)) f_TPT_CFG_LANE_MODE ≠ 0) :
    let d := o.submit h (.pipeTakeover t)
    Pends o d h (.pipeTakeover t) (BitVec.ofNat 64 (o.effectFirst + 2 * o.wpu.ctx.len)) ∧ d.mode.service = some o.keel.nextId ∧
      d.rdF (a_PIPE_ROLE n) f_PIPE_ROLE_ROLE = 1 ∧ d.spare.take = some ⟨o.keel.nextId, t.toNat, n, false, none, none⟩ := by
  rw [Dev.submit_pipeTakeover hs hsvc hmode hspare hrole hlane]
  exact ⟨o.pends_served h _ _, o.service_served h _ _, Dev.rdF_wrForce_self _ _ _ 1 (by decide), rfl⟩

theorem Dev.partnerRejoin_pends (hs : o.starts h .partnerRejoin = true) (hsvc : o.svcCheck = 0) (hp : o.isPartner = false)
    (hup : o.ridgeUp = true) (hjoin : o.partnerJoinable = true) (hauth : o.authority = true) :
    let d := o.submit h .partnerRejoin
    Pends o d h .partnerRejoin noLine ∧ d.mode.service = some o.keel.nextId ∧ d.pair.rejoin = some (o.keel.nextId, o.el) ∧ d.pair.step = 2 := by
  rw [Dev.submit_partnerRejoin hs hsvc hp hup hjoin hauth]
  have hclk : (o.served h .partnerRejoin noLine).clk = o.clk := (o.rests_served h .partnerRejoin noLine).clk
  have hel : (o.served h .partnerRejoin noLine).el = o.el := by rw [Dev.el, hclk, Dev.el]
  exact ⟨o.pends_served h _ _, o.service_served h _ _, congrArg (fun e => some (o.keel.nextId, e)) hel, rfl⟩

end

/-! Envelopes taken from a ring (R331, R335, R338). -/

section
variable (d : Dev) (m : Fin 16) (a : Nat) (env : List Byte) (hloc : (d.ring m).loc = false)
include hloc

theorem Dev.boxRead_rejected {st : Nat} (herr : readEnvelope env.length env = .error st) (hrec : d.keel.recovery = false) :
    let e := (d.boxRead m a env.length).takeEnvelope m env.length env none
    (e.ring m).head = (d.ring m).head + 1 ∧ e.keel.nextBox = (m.val + 1) % 16 ∧ e.keel.nextId = d.keel.nextId + 1 ∧
      e.keel.kept.head? = some ⟨m, (envHeader m env).tag, BitVec.ofNat 16 (leAt env 0 2), BitVec.ofNat 16 st, noLine, d.keel.nextId⟩ := by
  obtain ⟨-, hkeel, -, hhead⟩ := d.boxRead_leaves m a env.length hloc
  generalize d.boxRead m a env.length = f at hkeel hhead
  have hrec' : f.keel.recovery = false := (congrArg (·.recovery) hkeel).trans hrec
  rw [f.takeEnvelope_error m _ env hrec' herr]
  obtain ⟨hring, hbox, hid, hkept⟩ := (f.countTaken m).1.reject_leaves f.keel.nextId (leAt env 0 2) (envHeader m env) st
  have hbox' : (f.countTaken m).1.keel.nextBox = (m.val + 1) % 16 := congrArg (·.nextBox) hkeel
  have hnext : f.keel.nextId = d.keel.nextId := congrArg (·.nextId) hkeel
  refine ⟨(congrArg (·.head) (hring m)).trans hhead, hbox.trans hbox', hid.trans (congrArg (· + 1) hnext), hkept.trans ?_⟩
  rw [hnext]
  rfl

theorem Dev.boxRead_waits {cmd : Cmd} (hok : readEnvelope env.length env = .ok cmd) (hrec : d.keel.recovery = false)
    (hargs : d.argsOk cmd = true) (hmay : d.mayStart (d.takenCmd (envHeader m env) cmd) = false) :
    let e := (d.boxRead m a env.length).takeEnvelope m env.length env none
    (e.ring m).head = (d.ring m).head + 1 ∧ e.keel = { d.keel with
      nextBox := (m.val + 1) % 16, nextId := d.keel.nextId + 1, waiting := d.keel.waiting ++ [d.takenCmd (envHeader m env) cmd] } := by
  obtain ⟨halike, hkeel, hclk, hhead⟩ := d.boxRead_leaves m a env.length hloc
  have hcmd : (d.boxRead m a env.length).takenCmd (envHeader m env) cmd = d.takenCmd (envHeader m env) cmd := by
    simp only [Dev.takenCmd, Dev.el, hkeel, hclk]
  have hwaits := (d.boxRead m a env.length).takeEnvelope_waits m env.length env ((congrArg (·.recovery) hkeel).trans hrec) hok
    ((halike.argsOk cmd).trans hargs) (by rw [hcmd, halike.mayStart]; exact hmay)
  rw [hcmd, hkeel] at hwaits
  obtain ⟨hring, hwaiting⟩ := hwaits
  exact ⟨(congrArg (·.head) (hring m)).trans hhead, hwaiting⟩

end

/-! Commands that wait (R338). -/

section
variable (d : Dev) (m : Fin 16) {t : Taken} (hserves : d.keelServes = true)
include hserves

theorem Dev.waitStart_nop (hfind : d.keel.waiting.find? (fun t => t.h.mailbox = m) = some t) (hfwd : d.keel.fwd = [])
    (htime : d.el < t.at_ + t.h.timeoutNs) (hmay : d.mayStart t = true) (hcmd : t.cmd = .nop) :
    (d.waitStart m).keel.waiting = d.keel.waiting.filter (fun w => w.id ≠ t.id) ∧
      (d.waitStart m).keel.kept.head? = some ⟨t.h.mailbox, t.h.tag, 1, 0, noLine, t.id⟩ := by
  let e : Dev := { d with keel := { d.keel with waiting := d.keel.waiting.filter (fun w => w.id ≠ t.id) } }
  have hrun : d.waitStart m = e.answer t.id t.cmd t.h 0 noLine [] := by
    rw [d.waitStart_eq m hserves hfind htime hmay, Dev.start_of_local _ t (by rw [hcmd]; rfl) (by rw [hcmd]; rfl)]
    refine .trans ?_ (e.finalResp_of_alone hfwd t.id t.cmd t.h 0 noLine [])
    simp only [Dev.run, hcmd]
    rw [Dev.runNop, Dev.done, hcmd]
  rw [hrun, Dev.keel_answer]
  refine ⟨rfl, ?_⟩
  rw [hcmd]
  exact Keel.head_keep _ _

theorem Dev.waitStart_calStore (hfind : d.keel.waiting.find? (fun t => t.h.mailbox = m) = some t)
    (htime : d.el < t.at_ + t.h.timeoutNs) (hmay : d.mayStart t = true) (hcmd : t.cmd = .calStore) :
    (d.waitStart m).keel.waiting = d.keel.waiting.filter (fun w => w.id ≠ t.id) ∧
      (d.waitStart m).keel.pending = d.keel.pending ++ [⟨t.id, t.h, .calStore, noLine, t.at_⟩] := by
  let e : Dev := { d with keel := { d.keel with waiting := d.keel.waiting.filter (fun w => w.id ≠ t.id) } }
  have hrun : d.waitStart m = e.accept t noLine := by
    rw [d.waitStart_eq m hserves hfind htime hmay, Dev.start_of_local _ t (by rw [hcmd]; rfl) (by rw [hcmd]; rfl)]
    simp only [Dev.run, hcmd]
    rfl
  rw [hrun, Dev.keel_accept, hcmd]
  exact ⟨rfl, rfl⟩

theorem Dev.cmdTimeout_eq (hfind : d.keel.waiting.find? (fun t => t.h.mailbox = m && t.at_ + t.h.timeoutNs ≤ d.el) = some t) :
    d.cmdTimeout m = d.waitedOut t := by
  unfold Dev.cmdTimeout
  simp only [hfind]
  rw [if_neg (by simp [hserves])]

end

/-- An instruction makes of the block what its function has been shown equal to. -/
theorem makes_of_after_eq {c : Instr} {s : State} {dt : Nat} {f : Dev → Dev} {d : Dev} {P : Dev → Prop} (hc : exec c s = .next (s.after dt f))
    (hd : f (s.dev.elapse dt) = d) (hp : P d) : Makes c s P :=
  makes_of_after hc (hd ▸ hp)

/-- Settles O60: each command of class D is taken, passes its checks and pends; envelopes taken from a ring go by R335 and R338. -/
theorem envelopesPending : Obligations.EnvelopesPending := by
  refine ⟨fun s h => ⟨?mode, ?table, ?exported, ?camera, ?setpoint, ?plain, ?service⟩, fun s dt m hserves => ⟨?take, ?wait, ?timeout⟩⟩
  case mode =>
    intro m t hm hs hstart
    refine ⟨?_, fun ht hok hpend => makes_of_submit rfl (Dev.modeSet_pends hm hs ht hok hpend)⟩
    rintro rfl
    exact makes_of_submit rfl (Dev.modeSet_safeHold hm hs hstart)
  case table =>
    intro t
    refine ⟨fun hs hr => makes_of_submit rfl ?_, fun hs hr => makes_of_submit rfl ?_⟩
    · rw [Dev.submit_tableLoad hs hr]
      have hrest := s.dev.rests_accepted h (.tableLoad t) noLine
      exact ⟨hrest.sameRegs, hrest.tab, s.dev.pends_accepted h _ _⟩
    · rw [Dev.submit_tableRead hs hr]
      have hrest := s.dev.rests_accepted h (.tableRead t) noLine
      exact ⟨hrest.sameRegs, hrest.tab, s.dev.pends_accepted h _ _⟩
  case exported =>
    intro first last ring hs hreach hfrozen hle hloft hwritten hen htyp
    exact makes_of_submit rfl (Dev.submit_loftExport hs hreach hfrozen hle hloft hwritten hen htyp)
  case camera =>
    intro p a l hl
    refine ⟨fun n hs => makes_of_submit rfl ?_, fun ws hs => makes_of_submit rfl ?_⟩
    · rw [Dev.submit_camRegRead hs]
      exact Dev.runCam_accepted hl
    · rw [Dev.submit_camRegWrite hs]
      exact Dev.runCam_accepted hl
  case setpoint =>
    intro mask sp hs hcheck hon0 hon1
    exact makes_of_submit rfl (Dev.hbmSetpoint_pends hs hcheck hon0 hon1)
  case plain =>
    intro cmd hs
    refine ⟨?_, ?_, ?_, ?_, ?_, ?_, ?_⟩
    · rintro x rfl
      refine makes_of_submit rfl ?_
      rw [Dev.submit_fwStage hs]
      exact ⟨s.dev.pends_accepted h _ _, (s.dev.rests_accepted h _ _).sameRegs, (s.dev.rests_accepted h _ _).flash⟩
    · rintro x rfl
      refine makes_of_submit rfl ?_
      rw [Dev.submit_nvWrite hs]
      exact ⟨s.dev.pends_accepted h _ _, (s.dev.rests_accepted h _ _).sameRegs, (s.dev.rests_accepted h _ _).flash⟩
    · rintro rfl
      refine makes_of_submit rfl ?_
      rw [Dev.submit_calStore hs]
      exact ⟨s.dev.pends_accepted h _ _, (s.dev.rests_accepted h _ _).sameRegs, (s.dev.rests_accepted h _ _).cal⟩
    · rintro ls rfl hotp hmin
      refine makes_of_submit rfl ?_
      rw [Dev.submit_fuseProgram hs hotp hmin]
      exact ⟨s.dev.pends_accepted h _ _, (s.dev.rests_accepted h _ _).sameRegs, (s.dev.rests_accepted h _ _).rst⟩
    · rintro item arg rfl hmode
      exact makes_of_submit rfl (Dev.calRun_pends hs hmode)
    · rintro x rfl hon hlink
      exact makes_of_submit rfl (Dev.timeStep_pends hs hon hlink)
    · rintro rfl hest hup
      exact makes_of_submit rfl (Dev.pairHandover_pends hs hest hup)
  case service =>
    intro hsvc
    refine ⟨?_, ?_, ?_, ?_, ?_⟩
    · intro st pc hs hon hcheck
      exact makes_of_submit rfl (Dev.hbmRetire_pends hs hsvc hon hcheck)
    · intro hs hver
      exact makes_of_submit rfl (Dev.fwSwap_pends hs hsvc hver)
    · intro t n hs hmode hspare hrole hlane
      exact makes_of_submit rfl (Dev.pipeTakeover_pends hs hsvc hmode hspare hrole hlane)
    · intro l q hs hq hon hreqs hplain
      exact makes_of_submit rfl (Dev.laneRetrain_pends hs hsvc hq hon hreqs hplain)
    · intro hs hp hup hjoin hauth
      exact makes_of_submit rfl (Dev.partnerRejoin_pends hs hsvc hp hup hjoin hauth)
  case take =>
    intro desc env hnext hbox hloc hdesc haddr hlen hmul hmin hmax hkeel hring
    have htaken := (s.dev.elapse dt).envelopeTake_eq s.hbmRead hserves hnext hbox hloc hdesc haddr hlen hmul hmin hmax hkeel hring
    refine ⟨fun st herr hrec => ?_, fun cmd hok hrec hargs hmay => ?_⟩
    · exact makes_of_after_eq rfl htaken ((s.dev.elapse dt).boxRead_rejected m _ env hloc herr hrec)
    · exact makes_of_after_eq rfl htaken ((s.dev.elapse dt).boxRead_waits m _ env hloc hok hrec hargs hmay)
  case wait =>
    intro t hfind hfwd htime hmay
    refine ⟨fun hcmd => makes_of_after rfl ?_, fun hcmd => makes_of_after rfl ?_⟩
    · exact (s.dev.elapse dt).waitStart_nop m hserves hfind hfwd htime hmay hcmd
    · exact (s.dev.elapse dt).waitStart_calStore m hserves hfind htime hmay hcmd
  case timeout =>
    intro t hfind hfwd
    exact makes_of_after_eq rfl ((s.dev.elapse dt).cmdTimeout_eq m hserves hfind) ((s.dev.elapse dt).waitedOut_leaves t hfwd)

end Sys2Proof.Machine
end

section
/-! Rounding as R84 has it. -/

namespace Sys2Proof.Machine

/-- What the floor of x / 2^k leaves of x. -/
theorem fshr_rest (x : Int) (k : Nat) : 0 ≤ x - fshr x k * 2 ^ k ∧ x - fshr x k * 2 ^ k < 2 ^ k := by
  have hpos : (0 : Int) < 2 ^ k := by positivity
  have hrest : x - fshr x k * 2 ^ k = x % 2 ^ k := by
    rw [fshr, Int.fdiv_eq_ediv_of_nonneg _ hpos.le, mul_comm, Int.emod_def]
  rw [hrest]
  exact ⟨Int.emod_nonneg _ hpos.ne', Int.emod_lt_of_pos _ hpos⟩

/-- Settles O10: the floor leaves 0 … 2^k − 1, and rhe goes up exactly from above half of 2^k, or from half where the floor is odd. -/
theorem roundHalfEven : Obligations.RoundHalfEven := by
  intro x k
  cases k with
  | zero => simp [rhe]
  | succ k =>
    obtain ⟨hlo, hhi⟩ := fshr_rest x (k + 1)
    have hpow : (2 : Int) ^ (k + 1) = 2 * 2 ^ k := pow_succ' 2 k
    have hcast : ((2 ^ (k + 1) : Nat) : Int) = 2 ^ (k + 1) := by push_cast; rfl
    simp only [rhe, Nat.succ_ne_zero, if_false, Nat.add_sub_cancel]
    split
    · rw [add_one_mul]
      omega
    · omega

end Sys2Proof.Machine
end

section
/-! What the web position unit leaves alone as it counts, latches, compares and reports (R76 to R106). -/

namespace Sys2Proof.Machine

/-! ### Events -/

/-- An event changes what the router holds, and nothing else (R377). -/
theorem Dev.raiseEvt_eq (d : Dev) (p : Nat) : ∃ v, d.raiseEvt p = { d with evt := v } := by
  unfold Dev.raiseEvt
  split
  · exact ⟨d.evt, rfl⟩
  · refine List.foldlRecOn d.routed _ (motive := fun e : Dev => ∃ v, e = { d with evt := v }) ⟨d.evt, rfl⟩ ?_
    rintro _ ⟨v, rfl⟩ a -
    dsimp only
    split
    · unfold Dev.reach
      split
      · exact ⟨_, rfl⟩
      · exact ⟨v, rfl⟩
    · exact ⟨v, rfl⟩

@[simp] theorem Dev.raiseEvt_wpu (d : Dev) (p : Nat) : (d.raiseEvt p).wpu = d.wpu := by
  obtain ⟨v, h⟩ := d.raiseEvt_eq p
  rw [h]

@[simp] theorem Dev.raiseEvt_rd (d : Dev) (p a : Nat) : (d.raiseEvt p).rd a = d.rd a := by
  obtain ⟨v, h⟩ := d.raiseEvt_eq p
  rw [h]
  rfl

@[simp] theorem Dev.raiseEvt_rdF (d : Dev) (p a : Nat) (f : Fld) : (d.raiseEvt p).rdF a f = d.rdF a f := by simp [Dev.rdF]

@[simp] theorem Dev.raiseEvt_rdB (d : Dev) (p a : Nat) (f : Fld) : (d.raiseEvt p).rdB a f = d.rdB a f := by simp [Dev.rdB]

/-! ### Encoder channels -/

section
variable (d : Dev) (n : Nat) (e : EncSt)

@[simp] theorem Dev.setEnc_rd (a : Nat) : (d.setEnc n e).rd a = d.rd a := rfl
@[simp] theorem Dev.setEnc_inB (a : Nat) (f : Fld) : (d.setEnc n e).inB a f = d.inB a f := rfl
@[simp] theorem Dev.setEnc_isHeld (u : RUnit) : (d.setEnc n e).isHeld u = d.isHeld u := rfl
@[simp] theorem Dev.setEnc_accepts (m k : Nat) : (d.setEnc n e).accepts m k = d.accepts m k := rfl
@[simp] theorem Dev.setEnc_encType (m : Nat) : (d.setEnc n e).encType m = d.encType m := rfl

/-- A channel that is stored is read back, where there is one. -/
theorem Dev.enc_setEnc : (d.setEnc n e).enc n = if n < d.wpu.enc.length then e else .reset := by
  simp only [Dev.enc, Dev.setEnc, lget, lset, List.getD_eq_getElem?_getD, List.getElem?_set_self']
  split
  next h => simp [h]
  next h => simp [h]

/-- Storing a channel as it is changes nothing. -/
theorem Dev.setEnc_enc : d.setEnc n (d.enc n) = d := by
  have hset : lset d.wpu.enc n (d.enc n) = d.wpu.enc := by
    by_cases h : n < d.wpu.enc.length
    · simp [lset, Dev.enc, lget, h]
    · simp [lset, List.set_eq_of_length_le (Nat.le_of_not_lt h)]
  rw [Dev.setEnc, hset]

/-- Out of reset, levels at the balls are kept beside the accepted ones. -/
theorem Dev.atBalls_free (l : Nat) (hfree : d.isHeld .wpu = false) : d.atBalls n l = d.setEnc n { d.enc n with ball := l } := by
  simp [Dev.atBalls, hfree]

/-- Levels at the balls change nothing else of their channel. -/
theorem Dev.enc_setBall (l : Nat) : ∃ b, (d.setEnc n { d.enc n with ball := l }).enc n = { d.enc n with ball := b } := by
  rw [Dev.enc_setEnc]
  split
  next => exact ⟨l, rfl⟩
  next h =>
    have hreset : d.enc n = .reset := by simp [Dev.enc, lget, List.getElem?_eq_none (Nat.le_of_not_lt h)]
    exact ⟨0, by rw [hreset]; rfl⟩

end

/-! ### What counting and reporting leave alone -/

/-- A step of the position unit that writes no register but those in p: it leaves the others alone, and the trigger position, the compare queues,
the mode and the settings in force. -/
structure Dev.WritesIn (p : Nat → Prop) (d e : Dev) : Prop where
  rd : ∀ a, ¬ p a → e.rd a = d.rd a
  t : e.wpu.t = d.wpu.t
  cmp : e.wpu.cmp = d.wpu.cmp
  mode : e.mode = d.mode
  force : e.force = d.force
  nv : e.nv = d.nv

section
variable {p q : Nat → Prop} {d e f : Dev} {a : Nat}

theorem Dev.WritesIn.refl (d : Dev) : d.WritesIn p d := ⟨fun _ _ => rfl, rfl, rfl, rfl, rfl, rfl⟩

theorem Dev.WritesIn.trans (h : d.WritesIn p e) (k : e.WritesIn p f) : d.WritesIn p f where
  rd a ha := (k.rd a ha).trans (h.rd a ha)
  t := k.t.trans h.t
  cmp := k.cmp.trans h.cmp
  mode := k.mode.trans h.mode
  force := k.force.trans h.force
  nv := k.nv.trans h.nv

theorem Dev.WritesIn.mono (hpq : ∀ a, p a → q a) (h : d.WritesIn p e) : d.WritesIn q e :=
  ⟨fun a ha => h.rd a (fun hp => ha (hpq a hp)), h.t, h.cmp, h.mode, h.force, h.nv⟩

/-- A change elsewhere in the block. -/
theorem Dev.WritesIn.of_same (hregs : e.regs = d.regs) (ht : e.wpu.t = d.wpu.t) (hcmp : e.wpu.cmp = d.wpu.cmp)
    (hmode : e.mode = d.mode) (hforce : e.force = d.force) (hnv : e.nv = d.nv) : d.WritesIn p e :=
  ⟨fun a _ => Dev.rd_congr hregs hnv a, ht, hcmp, hmode, hforce, hnv⟩

theorem Dev.WritesIn.wr {v : W64} (ha : p a) (h : d.WritesIn p e) : d.WritesIn p (e.wr a v) :=
  h.trans ⟨fun _ hb => e.rd_wr_ne v (fun hab => hb (hab ▸ ha)), rfl, rfl, rfl, rfl, rfl⟩

theorem Dev.WritesIn.wrF {f : Fld} {n : Nat} (ha : p a) (h : d.WritesIn p e) : d.WritesIn p (e.wrF a f n) := h.wr ha

theorem Dev.WritesIn.wrB {f : Fld} {b : Bool} (ha : p a) (h : d.WritesIn p e) : d.WritesIn p (e.wrB a f b) := h.wr ha

theorem Dev.WritesIn.inc {f : Fld} {n : Nat} (ha : p a) (h : d.WritesIn p e) : d.WritesIn p (e.inc a f n) :=
  (h.wr ha).trans (.of_same rfl rfl rfl rfl rfl rfl)

theorem Dev.WritesIn.flag {f : Fld} {n : Nat} (ha : p a) (h : d.WritesIn p e) : d.WritesIn p (e.flag a f n) :=
  (h.wrF ha).trans (.of_same rfl rfl rfl rfl rfl rfl)

theorem Dev.WritesIn.raiseEvt {k : Nat} (h : d.WritesIn p e) : d.WritesIn p (e.raiseEvt k) := by
  obtain ⟨v, hv⟩ := e.raiseEvt_eq k
  rw [hv]
  exact h.trans (.of_same rfl rfl rfl rfl rfl rfl)

/-- The rest of what the unit keeps may change. -/
theorem Dev.WritesIn.setWpu {w : WpuSt} (ht : w.t = e.wpu.t) (hcmp : w.cmp = e.wpu.cmp) (h : d.WritesIn p e) :
    d.WritesIn p { e with wpu := w } :=
  h.trans (.of_same rfl ht hcmp rfl rfl rfl)

theorem Dev.WritesIn.setEnc {n : Nat} {x : EncSt} (h : d.WritesIn p e) : d.WritesIn p (e.setEnc n x) := h.setWpu rfl rfl

theorem Dev.WritesIn.noteSat {x : Int} {s : Nat} (ha : p a_WPU_MOTION) (h : d.WritesIn p e) : d.WritesIn p (e.noteSat x s) := by
  unfold Dev.noteSat
  dsimp only
  split
  · exact h.flag ha
  · exact h

theorem Dev.WritesIn.master (h : d.WritesIn p e) : e.master = d.master := by
  simp only [Dev.master, Dev.inF, Dev.inForce, Dev.dflt, h.force, h.nv]

theorem Dev.WritesIn.acquiring (h : d.WritesIn p e) : e.acquiring = d.acquiring := by rw [Dev.acquiring, h.mode, Dev.acquiring]

end

/-- Raw position words are the registers at 16 modulo 64; every other register of the unit may be written as one of them counts. -/
abbrev notRaw (a : Nat) : Prop := a % 64 ≠ 16

theorem Dev.WritesIn.encPos {d e : Dev} (h : d.WritesIn notRaw e) (n : Nat) : e.rd (a_WPU_ENC_POS n) = d.rd (a_WPU_ENC_POS n) :=
  h.rd _ (by unfold notRaw a_WPU_ENC_POS; omega)

theorem notRaw_motion : notRaw a_WPU_MOTION := by decide

theorem notRaw_speed : notRaw a_WPU_SPEED := by decide

theorem notRaw_slipStat : notRaw a_WPU_SLIP_STAT := by decide

theorem notRaw_tpos : notRaw a_WPU_TPOS := by decide

/-! ### Speed, slip and TPOS (R85 to R91, R106) -/

section
variable {d e : Dev}

theorem Dev.WritesIn.edgeSpeed {nm at_ : Int} {back turned : Bool} (h : d.WritesIn notRaw e) :
    d.WritesIn notRaw (e.edgeSpeed nm at_ back turned) := by
  unfold Dev.edgeSpeed
  dsimp only
  split
  · exact .wrB notRaw_motion (.wr notRaw_speed (.setWpu rfl rfl h))
  · split
    · exact .setWpu rfl rfl h
    · exact .wrB notRaw_motion (.wrB notRaw_motion (.wr notRaw_speed (.setWpu rfl rfl h)))

theorem Dev.WritesIn.slipEdge (h : d.WritesIn notRaw e) : d.WritesIn notRaw e.slipEdge := by
  have hsat {x y : Int} {s t : Nat} : d.WritesIn notRaw ((e.noteSat x s).noteSat y t) := .noteSat notRaw_motion (.noteSat notRaw_motion h)
  unfold Dev.slipEdge
  dsimp only
  split
  · exact h
  · split
    · exact .setWpu rfl rfl hsat
    · split
      · exact hsat
      · split
        · exact .raiseEvt (.inc notRaw_slipStat (.wrF notRaw_slipStat (.setWpu rfl rfl hsat)))
        · exact .wrF notRaw_slipStat (.setWpu rfl rfl hsat)

theorem Dev.WritesIn.showTpos (h : d.WritesIn notRaw e) : d.WritesIn notRaw e.showTpos :=
  .noteSat notRaw_motion (.wrB notRaw_motion (.wr notRaw_tpos h))

/-- While no mode acquires and no compare value waits, the trigger position is shown and no more. -/
theorem Dev.WritesIn.evaluate (hacq : d.acquiring = false) (hcmp : d.wpu.cmp = []) (h : d.WritesIn notRaw e) : d.WritesIn notRaw e.evaluate := by
  have hshow := h.showTpos
  have hnone : e.showTpos.cmpEvalAll = e.showTpos := by simp [Dev.cmpEvalAll, hshow.cmp, hcmp]
  have hidle : e.showTpos.acquiring = false := hshow.acquiring.trans hacq
  have hpoints : e.showTpos.evalPoints = { e.showTpos with wpu := { e.showTpos.wpu with evalNm := e.showTpos.tpos } } :=
    if_pos (congrArg (!·) hidle)
  rw [Dev.evaluate, hnone, hpoints]
  exact .setWpu rfl rfl hshow

end

/-- An edge of the master leaves the raw words as they are while no mode acquires and no compare value waits. -/
theorem Dev.masterEdge_encPos (d : Dev) (at_ : Int) (back : Bool) (hacq : d.acquiring = false) (hcmp : d.wpu.cmp = []) (n : Nat) :
    (d.masterEdge at_ back).rd (a_WPU_ENC_POS n) = d.rd (a_WPU_ENC_POS n) := by
  unfold Dev.masterEdge
  dsimp only
  generalize follow d.wpu.t (d.rawOf d.master) d.wpu.rev = x
  refine Dev.WritesIn.encPos (d := { d with wpu := { d.wpu with
    t := x.1, rev := x.2.1, edgeAt := d.el, still := false, dirChange := d.wpu.dirChange || x.2.2, extrap := false } })
    (.evaluate hacq hcmp ?_) n
  split
  · exact .raiseEvt (.setWpu rfl rfl (.edgeSpeed (.noteSat notRaw_motion (.refl _))))
  · exact .slipEdge (.edgeSpeed (.noteSat notRaw_motion (.refl _)))

/-! ### The index (R77) -/

/-- The index takes the word in force; where there is an index before, IDX_ERR is all that is written besides. -/
theorem Dev.indexTake_writesIn (d : Dev) (n : Nat) (last : Option Int) (told : Bool) :
    (d.wr (a_WPU_IDX_POS n) (d.rd (a_WPU_ENC_POS n))).WritesIn (· = a_WPU_IDX_ERR n) (d.indexTake n last told) := by
  unfold Dev.indexTake
  dsimp only
  split
  · exact .setEnc (.refl _)
  · split
    · split
      · exact .inc rfl (.wrF rfl (.setEnc (.refl _)))
      · exact .raiseEvt (.inc rfl (.wrF rfl (.setEnc (.refl _))))
    · exact .wrF rfl (.setEnc (.refl _))

theorem Dev.indexTake_idxPos (d : Dev) (n : Nat) (last : Option Int) (told : Bool) :
    (d.indexTake n last told).rd (a_WPU_IDX_POS n) = d.rd (a_WPU_ENC_POS n) := by
  rw [(d.indexTake_writesIn n last told).rd _ (by unfold a_WPU_IDX_POS a_WPU_IDX_ERR; omega), Dev.rd_wr_self]

theorem Dev.indexTake_rd_ne (d : Dev) {n a : Nat} (last : Option Int) (told : Bool) (hpos : a ≠ a_WPU_IDX_POS n) (herr : a ≠ a_WPU_IDX_ERR n) :
    (d.indexTake n last told).rd a = d.rd a := by
  rw [(d.indexTake_writesIn n last told).rd a herr, Dev.rd_wr_ne _ _ hpos]

theorem notRaw_idxPos (n : Nat) : notRaw (a_WPU_IDX_POS n) := by unfold notRaw a_WPU_IDX_POS; omega

theorem notRaw_idxErr (n : Nat) : notRaw (a_WPU_IDX_ERR n) := by unfold notRaw a_WPU_IDX_ERR; omega

theorem Dev.WritesIn.indexTake {d e : Dev} {n : Nat} {last : Option Int} {told : Bool} (h : d.WritesIn notRaw e) :
    d.WritesIn notRaw (e.indexTake n last told) :=
  (h.wr (notRaw_idxPos n)).trans ((e.indexTake_writesIn n last told).mono (fun _ ha => by rw [ha]; exact notRaw_idxErr n))

theorem Dev.WritesIn.indexAgain {d e : Dev} {n : Nat} {fresh : Bool} (h : d.WritesIn notRaw e) : d.WritesIn notRaw (e.indexAgain n fresh) := by
  unfold Dev.indexAgain
  split
  · exact h
  · exact .indexTake (.wr (notRaw_idxErr n) h)

/-- Where no index has latched in the cycle, a count step takes none. -/
theorem Dev.indexAgain_none {d : Dev} (n : Nat) (fresh : Bool) (h : d.cycle.idx = []) : d.indexAgain n fresh = d := by
  simp [Dev.indexAgain, h]

/-- An index edge latches the word and the time, and leaves the word alone. -/
theorem Dev.indexEdge_latches (d : Dev) (n : Nat) (htype : d.encType n = 1 ∨ d.encType n = 2)
    (hen : d.inB (a_WPU_ENC_CFG n) f_WPU_ENC_CFG_IDX_EN = true) :
    (d.indexEdge n).rd (a_WPU_IDX_POS n) = d.rd (a_WPU_ENC_POS n) ∧ (d.indexEdge n).rd (a_WPU_IDX_TIME n) = d.now ∧
      (d.indexEdge n).rd (a_WPU_ENC_POS n) = d.rd (a_WPU_ENC_POS n) := by
  have hlive : (!(decide (d.encType n = 1) || decide (d.encType n = 2)) || !d.inB (a_WPU_ENC_CFG n) f_WPU_ENC_CFG_IDX_EN) = false := by
    rcases htype with h | h <;> simp [h, hen]
  have hraw : a_WPU_ENC_POS n ≠ a_WPU_IDX_TIME n ∧ a_WPU_ENC_POS n ≠ a_WPU_IDX_POS n ∧ a_WPU_ENC_POS n ≠ a_WPU_IDX_ERR n ∧
      a_WPU_IDX_TIME n ≠ a_WPU_IDX_POS n ∧ a_WPU_IDX_TIME n ≠ a_WPU_IDX_ERR n := by
    unfold a_WPU_ENC_POS a_WPU_IDX_TIME a_WPU_IDX_POS a_WPU_IDX_ERR
    omega
  obtain ⟨hraw_time, hraw_pos, hraw_err, htime_pos, htime_err⟩ := hraw
  unfold Dev.indexEdge
  dsimp only
  rw [Dev.setEnc_encType, Dev.setEnc_inB, hlive, if_neg Bool.false_ne_true, Dev.indexTake_idxPos, Dev.indexTake_rd_ne _ _ _ htime_pos htime_err,
    Dev.indexTake_rd_ne _ _ _ hraw_pos hraw_err, Dev.raiseEvt_rd, Dev.raiseEvt_rd, Dev.rd_wr_self, Dev.rd_wr_ne _ _ hraw_time]
  exact ⟨rfl, rfl, rfl⟩

/-! ### Counting (R76, R78, R82, R83) -/

/-- The word of channel n becomes v; where n is not the master, neither the trigger position moves nor, but for an index latched before in the cycle,
the router. -/
structure Dev.MovesTo (d e : Dev) (n : Nat) (v : W64) : Prop where
  word : e.rd (a_WPU_ENC_POS n) = v
  t : n ≠ d.master → e.wpu.t = d.wpu.t
  evt : n ≠ d.master → d.cycle.idx = [] → e.evt = d.evt
  master : n ≠ d.master → e.master = d.master

/-- What came before the count changed nothing that it speaks of. -/
theorem Dev.MovesTo.of_start {c d e : Dev} {n : Nat} {v w : W64} (h : d.MovesTo e n v) (hv : v = w) (ht : d.wpu.t = c.wpu.t)
    (hevt : d.evt = c.evt) (hidx : c.cycle.idx = [] → d.cycle.idx = []) (hmaster : d.master = c.master) : c.MovesTo e n w where
  word := h.word.trans hv
  t hn := (h.t (hmaster ▸ hn)).trans ht
  evt hn hnone := (h.evt (hmaster ▸ hn) (hidx hnone)).trans hevt
  master hn := (h.master (hmaster ▸ hn)).trans hmaster

/-- A count step sets the word of its channel, and the index that has latched in the cycle takes it. -/
theorem Dev.movesTo_indexAgain (d : Dev) (n : Nat) (e : EncSt) (v : W64) (fresh : Bool) :
    d.MovesTo (((d.setEnc n e).wr (a_WPU_ENC_POS n) v).indexAgain n fresh) n v where
  word := by rw [(Dev.WritesIn.indexAgain (.refl _)).encPos, Dev.rd_wr_self]
  t _ := (Dev.WritesIn.indexAgain (.refl _)).t
  evt _ hidx := by rw [Dev.indexAgain_none (d := (d.setEnc n e).wr _ v) n fresh hidx]; rfl
  master _ := (Dev.WritesIn.indexAgain (.refl _)).master

/-- A change of delta adds it to the word, modulo 2^64; where the channel is the master, its edge follows. -/
theorem Dev.encMove_step (d : Dev) (n : Nat) {delta : Int} (at_ : Int) (hdelta : delta ≠ 0) :
    ∃ m : Dev, d.MovesTo m n (d.rd (a_WPU_ENC_POS n) + BitVec.ofInt 64 delta) ∧ d.WritesIn (fun _ => True) m ∧
      d.encMove n delta at_ = if n = d.master then m.masterEdge at_ (decide (delta < 0)) else m := by
  have hsum : BitVec.ofInt 64 (BitVec.ofInt 64 (d.rawOf n + delta)).toInt = d.rd (a_WPU_ENC_POS n) + BitVec.ofInt 64 delta := by
    rw [BitVec.ofInt_toInt, BitVec.ofInt_add, Dev.rawOf, BitVec.ofInt_toInt]
  have hfree {e : EncSt} {fresh : Bool} {v : W64} :
      d.WritesIn (fun _ => True) (((d.setEnc n e).wr (a_WPU_ENC_POS n) v).indexAgain n fresh) :=
    .trans (.wr trivial (.setEnc (.refl d))) (.mono (fun _ _ => trivial) (.indexAgain (.refl _)))
  unfold Dev.encMove
  dsimp only
  rw [hsum, if_neg hdelta, hfree.master]
  exact ⟨_, d.movesTo_indexAgain n _ _ _, hfree, rfl⟩

/-- A count moves the word by its change: on a channel that is not the master, or while no mode acquires and no compare value waits. -/
theorem Dev.encMove_movesTo (d : Dev) (n : Nat) (delta at_ : Int) (h : n ≠ d.master ∨ (d.acquiring = false ∧ d.wpu.cmp = [])) :
    d.MovesTo (d.encMove n delta at_) n (d.rd (a_WPU_ENC_POS n) + BitVec.ofInt 64 delta) := by
  by_cases hdelta : delta = 0
  · simp only [Dev.encMove, hdelta, if_true]
    exact ⟨by simp, fun _ => rfl, fun _ _ => rfl, fun _ => rfl⟩
  · obtain ⟨m, hmove, hsame, heq⟩ := d.encMove_step n at_ hdelta
    rw [heq]
    split
    next hn =>
      obtain hne | ⟨hacq, hcmp⟩ := h
      · exact absurd hn hne
      · exact ⟨(m.masterEdge_encPos _ _ (hsame.acquiring.trans hacq) (hsame.cmp.trans hcmp) n).trans hmove.word, absurd hn, absurd hn, absurd hn⟩
    next => exact hmove

/-- A step of 4,096 forward or back moves the word in the direction that DIR_INV leaves (R83). -/
theorem Dev.encStep_movesTo (d : Dev) (n : Nat) (forward : Bool) (at_ : Int) (h : n ≠ d.master ∨ (d.acquiring = false ∧ d.wpu.cmp = [])) :
    d.MovesTo (d.encStep n (if forward then 4096 else -4096) at_) n
      (if forward ≠ d.inB (a_WPU_ENC_CFG n) f_WPU_ENC_CFG_DIR_INV then d.rd (a_WPU_ENC_POS n) + 4096 else d.rd (a_WPU_ENC_POS n) - 4096) := by
  have hdelta (inv : Bool) : (if inv then -(if forward then (4096 : Int) else -4096) else if forward then 4096 else -4096) =
      if forward ≠ inv then 4096 else -4096 := by
    cases forward <;> cases inv <;> rfl
  rw [Dev.encStep, hdelta]
  refine .of_start (Dev.encMove_movesTo _ n _ _ h) ?_ rfl rfl id rfl
  split
  · rfl
  · rw [BitVec.sub_eq_add_neg]
    rfl

/-! ### Quadrature (R76, R78) -/

/-- A fault is counted and leaves the word alone. -/
theorem Dev.encFault_encPos (d : Dev) (n : Nat) (f : Fld) (evt : Nat) : (d.encFault n f evt).rd (a_WPU_ENC_POS n) = d.rd (a_WPU_ENC_POS n) := by
  rw [Dev.encFault, Dev.raiseEvt_rd, Dev.rd_inc_ne _ _ _ (by unfold a_WPU_ENC_POS a_WPU_ENC_STAT; omega)]

theorem Dev.rdF_encFault_self (d : Dev) (n : Nat) {f : Fld} (evt : Nat) (h : f.lo + f.w ≤ 64) :
    (d.encFault n f evt).rdF (a_WPU_ENC_STAT n) f = min (d.rdF (a_WPU_ENC_STAT n) f + 1) (2 ^ f.w - 1) := by
  rw [Dev.encFault, Dev.raiseEvt_rdF, Dev.rdF_inc_self _ _ _ _ h]

/-- Levels that are the accepted ones already change nothing. -/
theorem Dev.quadState_same (d : Dev) (n : Nat) : d.quadState n (d.enc n).a (d.enc n).b = d := by
  simpa [Dev.quadState] using d.setEnc_enc n

/-- Two inputs that change at once are an error (R78). -/
theorem Dev.quadState_both (d : Dev) (n : Nat) (htype : d.encType n = 1) :
    d.quadState n (!(d.enc n).a) (!(d.enc n).b) =
      (d.setEnc n { d.enc n with a := !(d.enc n).a, b := !(d.enc n).b }).encFault n f_WPU_ENC_STAT_QUAD_ERR_CNT 111 := by
  simp [Dev.quadState, htype]

/-- One input that changes is a count, forward or back by which of them leads (R78). -/
theorem Dev.quadState_movesTo (d : Dev) (n : Nat) (a b : Bool) (htype : d.encType n = 1)
    (hone : ((d.enc n).a ≠ a ∧ (d.enc n).b = b) ∨ ((d.enc n).a = a ∧ (d.enc n).b ≠ b))
    (h : n ≠ d.master ∨ (d.acquiring = false ∧ d.wpu.cmp = [])) :
    d.MovesTo (d.quadState n a b) n (
      let lead := if (d.enc n).a ≠ a then a ≠ b else a = b
      if (lead == Config.quadForward) ≠ d.inB (a_WPU_ENC_CFG n) f_WPU_ENC_CFG_DIR_INV then d.rd (a_WPU_ENC_POS n) + 4096
      else d.rd (a_WPU_ENC_POS n) - 4096) := by
  have hboth : ((d.enc n).a ≠ a && (d.enc n).b ≠ b) = false := by rcases hone with ⟨ha, hb⟩ | ⟨ha, hb⟩ <;> simp [ha, hb]
  have hnone : ((d.enc n).a = a && (d.enc n).b = b) = false := by rcases hone with ⟨ha, hb⟩ | ⟨ha, hb⟩ <;> simp [ha, hb]
  unfold Dev.quadState
  dsimp only
  rw [Dev.setEnc_encType, if_neg (not_not.mpr htype), hboth, hnone, if_neg Bool.false_ne_true, if_neg Bool.false_ne_true]
  exact .of_start (Dev.encStep_movesTo _ n _ _ h) rfl rfl rfl id rfl

/-! ### Hall inputs (R82) -/

/-- A valid state one place forward of the last is a count forward. -/
theorem Dev.hallState_movesTo (d : Dev) {n uvw old : Nat} (htype : d.encType n = 4) (hold : (d.enc n).hall = some old) (hlow : uvw ≠ 0)
    (hhigh : uvw ≠ 7) (hplace : (hallPlace uvw + 6 - hallPlace old) % 6 = 1) (hinv : d.inB (a_WPU_ENC_CFG n) f_WPU_ENC_CFG_DIR_INV = false)
    (h : n ≠ d.master ∨ (d.acquiring = false ∧ d.wpu.cmp = [])) :
    d.MovesTo (d.hallState n uvw) n (d.rd (a_WPU_ENC_POS n) + 4096) := by
  have hvalid : (uvw = 0 || uvw = 7) = false := by simp [hlow, hhigh]
  unfold Dev.hallState
  dsimp only
  rw [if_neg (not_not.mpr htype), hvalid, if_neg Bool.false_ne_true, hold]
  dsimp only
  rw [hplace]
  exact .of_start (Dev.encStep_movesTo _ n true _ h) (by simp [hinv]) rfl rfl id rfl

/-! ### SSI (R81) -/

/-- The data bits of a frame are those after its level at the start. -/
theorem ssiData_eq {bits : List Bool} {w : Nat} (h : bits.length = 1 + w) : (List.range w).map (fun k => lget bits (1 + k) false) = bits.drop 1 := by
  refine List.ext_getElem (by simp [h]) fun k hk _ => ?_
  have hk' : k + 1 < bits.length := by simp at hk; omega
  simp [lget, Nat.add_comm 1, hk']

/-- A sample of another channel than the master is no sample of the master. -/
theorem Dev.MovesTo.masterSample {d e : Dev} {n : Nat} {v : W64} {at_ : Int} {period : Nat} (hn : n ≠ d.master) (h : d.MovesTo e n v) :
    d.MovesTo (e.masterSample n at_ period) n v := by
  rwa [Dev.masterSample, h.master hn, if_pos hn]

/-- The first valid frame sets the word to its value times 4,096; it is not compared with one before. -/
theorem Dev.ssiFrame_first (d : Dev) {n : Nat} {bits : List Bool} (htype : d.encType n = 3) (hmaster : n ≠ d.master) (hssi : (d.enc n).ssi = none)
    (hframe : (d.enc n).frameAt = none) (hstart : lget bits 0 false = true) (hparity : d.inF a_WPU_SSI_CFG f_WPU_SSI_CFG_PARITY = 0)
    (hgray : d.inB a_WPU_SSI_CFG f_WPU_SSI_CFG_GRAY = false) (hlen : bits.length = 1 + d.inF a_WPU_SSI_CFG f_WPU_SSI_CFG_BITS) :
    d.MovesTo (d.ssiFrame n bits) n (BitVec.ofNat 64 (msbFirst (bits.drop 1) * 4096)) := by
  have hdue : d.ssiDue n = true := by simp [Dev.ssiDue, hframe]
  have hword : d.rd (a_WPU_ENC_POS n) + BitVec.ofInt 64 ((msbFirst (bits.drop 1) : Int) * 4096 - d.rawOf n) =
      BitVec.ofNat 64 (msbFirst (bits.drop 1) * 4096) := by
    rw [Dev.rawOf, sub_eq_add_neg, BitVec.ofInt_add, BitVec.ofInt_neg, BitVec.ofInt_toInt, add_left_comm, add_neg_cancel, add_zero]
    exact_mod_cast BitVec.ofInt_natCast 64 (msbFirst (bits.drop 1) * 4096)
  simp only [Dev.ssiFrame, htype, hdue, hssi, hstart, hparity, hgray, ssiData_eq hlen]
  exact .masterSample hmaster (.of_start (Dev.encMove_movesTo _ n _ _ (.inl hmaster)) hword rfl rfl id rfl)

/-! ### Counts, index edges and frames as commands -/

theorem Dev.elapse_idx (d : Dev) (dt : Nat) (h : d.cycle.idx = []) : (d.elapse dt).cycle.idx = [] := by
  unfold Dev.elapse
  dsimp only
  split
  · exact h
  · rfl

/-- Out of reset, what the filter accepts is seen. -/
theorem Dev.setEnc_seen (d : Dev) (n k : Nat) (e : EncSt) (hfree : d.isHeld .wpu = false) (hk : d.accepts n k = true) :
    ((d.setEnc n e).isHeld .wpu || !(d.setEnc n e).accepts n k) = false := by
  simp [hfree, hk]

/-- Out of reset, QUAD_STATE_CHANGE accepts of each input its level where the filter does, and else the level accepted before (R76). -/
theorem makes_quadStateChange {s : State} {dt : Nat} {n : Fin 4} {a b : Held Bool} {x y : Bool} {P : Dev → Prop} (hfree : s.dev.isHeld .wpu = false)
    (ha : (if s.dev.accepts n a.stable then a.level else (s.dev.enc n).a) = x)
    (hb : (if s.dev.accepts n b.stable then b.level else (s.dev.enc n).b) = y)
    (h : ∀ e l, (((s.dev.elapse dt).setEnc n e).enc n) = { s.dev.enc n with ball := l } → P (((s.dev.elapse dt).setEnc n e).quadState n x y)) :
    Makes (.quadStateChange dt n a b) s P := by
  refine makes_of_after rfl ?_
  dsimp only
  rw [(s.dev.elapse dt).atBalls_free _ _ hfree]
  generalize bitN a.level 2 + bitN b.level 1 + _ = l
  obtain ⟨m, hm⟩ := (s.dev.elapse dt).enc_setBall n l
  rw [Dev.setEnc_isHeld, (s.dev.elapse_isHeld dt .wpu).trans hfree, if_neg Bool.false_ne_true, Dev.setEnc_accepts, Dev.setEnc_accepts]
  subst ha hb
  have hquad := h _ m hm
  rw [hm]
  exact hquad

/-- Out of reset, INDEX_EDGE is an edge of the index where the filter accepts its level (R76, R77). -/
theorem makes_indexEdge {s : State} {dt k : Nat} {n : Fin 4} {P : Dev → Prop} (hfree : s.dev.isHeld .wpu = false) (hk : s.dev.accepts n k = true)
    (h : ∀ e, P (((s.dev.elapse dt).setEnc n e).indexEdge n)) : Makes (.indexEdge dt ⟨n, k⟩) s P := by
  refine makes_of_after rfl ?_
  dsimp only
  rw [(s.dev.elapse dt).atBalls_free _ _ hfree, (s.dev.elapse dt).setEnc_seen _ _ _ hfree hk, if_neg Bool.false_ne_true]
  exact h _

/-- Out of reset, HALL_STATE_CHANGE is a state of the Hall inputs where the filter accepts it (R76, R82). -/
theorem makes_hallStateChange {s : State} {dt k : Nat} {n : Fin 4} {uvw : Fin 8} {P : Dev → Prop} (hfree : s.dev.isHeld .wpu = false)
    (hk : s.dev.accepts n k = true)
    (h : ∀ e l, (((s.dev.elapse dt).setEnc n e).enc n) = { s.dev.enc n with ball := l } → P (((s.dev.elapse dt).setEnc n e).hallState n uvw)) :
    Makes (.hallStateChange dt n ⟨uvw, k⟩) s P := by
  refine makes_of_after rfl ?_
  dsimp only
  rw [(s.dev.elapse dt).atBalls_free _ _ hfree, (s.dev.elapse dt).setEnc_seen _ _ _ hfree hk, if_neg Bool.false_ne_true]
  obtain ⟨m, hm⟩ := (s.dev.elapse dt).enc_setBall n uvw
  exact h _ m hm

/-- Settles O42: each command comes to one count of its channel (`Dev.MovesTo`), to a fault or an index latched, or to nothing. -/
theorem encoderEvents : Obligations.EncoderEvents := by
  intro s dt n hfree
  refine ⟨?count, ?filtered, ?both, ?index, ?hall, ?ssi⟩
  case count =>
    intro a b j k htype ha hb hone hquiet
    refine makes_quadStateChange hfree (x := a) (y := b) ?_ ?_ fun e l he => ?_
    · rcases ha with h | h <;> simp [h]
    · rcases hb with h | h <;> simp [h]
    · have hmove : s.dev.MovesTo (((s.dev.elapse dt).setEnc n e).quadState n a b) n _ :=
        .of_start (Dev.quadState_movesTo _ n a b htype (by rwa [he]) hquiet) rfl rfl rfl (s.dev.elapse_idx dt) rfl
      rw [he] at hmove
      exact ⟨hmove.word, fun hmaster => ⟨hmove.t hmaster, hmove.evt hmaster⟩⟩
  case filtered =>
    intro a b j k ha hb
    refine makes_quadStateChange hfree (if_neg (by simp [ha])) (if_neg (by simp [hb])) fun e l he => ?_
    have hsame := ((s.dev.elapse dt).setEnc n e).quadState_same n
    rw [he] at hsame
    rw [hsame, he]
    exact ⟨rfl, rfl, rfl, rfl, rfl, rfl⟩
  case both =>
    intro k htype hk
    refine makes_quadStateChange hfree (if_pos hk) (if_pos hk) fun e l he => ?_
    have hboth := ((s.dev.elapse dt).setEnc n e).quadState_both n htype
    rw [he] at hboth
    rw [hboth]
    exact ⟨Dev.encFault_encPos _ n _ _, Dev.rdF_encFault_self _ n _ (by decide)⟩
  case index =>
    intro k htype hen hk
    exact makes_indexEdge hfree hk fun e => Dev.indexEdge_latches _ n htype hen
  case hall =>
    intro old k uvw htype hk hmaster hold hlow hhigh hplace hinv
    refine makes_hallStateChange hfree hk fun e l he => ?_
    have hmove : s.dev.MovesTo (((s.dev.elapse dt).setEnc n e).hallState n uvw) n _ :=
      .of_start (Dev.hallState_movesTo _ htype (by rw [he]; exact hold) (Fin.val_ne_of_ne hlow) (Fin.val_ne_of_ne hhigh) hplace hinv (.inl hmaster))
        rfl rfl rfl (s.dev.elapse_idx dt) rfl
    exact ⟨hmove.word, hmove.t hmaster, hmove.evt hmaster⟩
  case ssi =>
    intro bits htype hmaster hssi hframe hstart hparity hgray hlen
    refine makes_of_after rfl ?_
    rw [Dev.elapse_isHeld, hfree, if_neg Bool.false_ne_true]
    have hmove := (s.dev.elapse dt).ssiFrame_first htype hmaster hssi hframe hstart hparity hgray hlen
    exact ⟨hmove.word, hmove.t hmaster, fun hidx => hmove.evt hmaster (s.dev.elapse_idx dt hidx)⟩

end Sys2Proof.Machine
end

section
/-! The trigger position between samples and at standstill, and the pulses on marker and strobe pins (R89, R92, R98 to R101). -/

namespace Sys2Proof.Machine

/-! ### Extrapolation and standstill (R89, R92) -/

/-- With a valid speed forward, while no mode acquires and no compare value waits, the trigger position advances to the extrapolated one where that
lies ahead, and the raw words stay. -/
theorem Dev.extrapolate_forward (d : Dev) {nm at_ : Int} {period : Nat} (hsample : d.wpu.sample = some (nm, at_, period))
    (htype : d.encType d.master = 2 ∨ d.encType d.master = 3) (hscale : d.scaleOf d.master ≠ 0)
    (hvalid : d.rdB a_WPU_MOTION f_WPU_MOTION_SPEED_VALID = true) (hacq : d.acquiring = false) (hcmp : d.wpu.cmp = []) (hrev : d.wpu.rev = false) :
    (∀ n, d.extrapolate.rd (a_WPU_ENC_POS n) = d.rd (a_WPU_ENC_POS n)) ∧
      d.extrapolate.wpu.t = max d.wpu.t
        (rdiv (extrapNm (min (d.el : Int) (at_ + period)) nm at_ (d.rd a_WPU_SPEED).toInt true * 2 ^ 44) (d.scaleOf d.master)) := by
  have hlive : (!(decide (d.encType d.master = 2) || decide (d.encType d.master = 3)) || decide (d.scaleOf d.master = 0) ||
      !d.rdB a_WPU_MOTION f_WPU_MOTION_SPEED_VALID) = false := by
    rcases htype with h | h <;> simp [h, hscale, hvalid]
  unfold Dev.extrapolate
  rw [hsample, hrev]
  dsimp only
  rw [hlive, if_neg Bool.false_ne_true, if_neg Bool.false_ne_true]
  simp only [decide_eq_true_eq]
  generalize rdiv _ _ = t
  split
  next hahead =>
    have hsame := Dev.WritesIn.evaluate (d := { d with wpu := { d.wpu with t := t, extrap := true } }) hacq hcmp (.refl _)
    exact ⟨hsame.encPos, hsame.t.trans (max_eq_right hahead.le).symm⟩
  next hbehind => exact ⟨fun _ => rfl, (max_eq_left (not_lt.mp hbehind)).symm⟩

/-- A one-bit field set leaves a field of other bits alone. -/
theorem Dev.rdB_wrB_ne (d : Dev) (a : Nat) {f g : Fld} (b : Bool) (h : g.lo + g.w ≤ f.lo ∨ f.lo + f.w ≤ g.lo) (hg : g.lo + g.w ≤ 64) :
    (d.wrB a f b).rdB a g = d.rdB a g := by
  rw [Dev.rdB, Dev.wrB, Dev.wrF, Dev.rd_wr_self, fbit, fget_fset_ne _ _ _ _ h hg, Dev.rdB, fbit]

/-- Speed that is lost reads 0, is not valid, and shows standstill. -/
theorem Dev.speedLost_reads (d : Dev) : d.speedLost.rd a_WPU_SPEED = 0 ∧ d.speedLost.rdB a_WPU_MOTION f_WPU_MOTION_SPEED_VALID = false ∧
    d.speedLost.rdB a_WPU_MOTION f_WPU_MOTION_STANDSTILL = true := by
  have hother : a_WPU_SPEED ≠ a_WPU_MOTION := by decide
  refine ⟨?speed, ?valid, ?standstill⟩
  case speed => exact (Dev.rd_wr_ne _ _ hother).trans ((Dev.rd_wr_ne _ _ hother).trans (Dev.rd_wr_self _ _ _))
  case valid => exact (Dev.rdB_wrB_ne _ _ _ (.inl (by decide)) (by decide)).trans (Dev.rdB_wrB_self _ _ _ _ (by decide) (by decide))
  case standstill => exact Dev.rdB_wrB_self _ _ _ _ (by decide) (by decide)

/-! ### Marker pulses (R101) -/

/-- Where markers are driven and no pulse is on the pin, the oldest pulse due begins. -/
theorem Dev.markerStart_begins (d : Dev) {n : Nat} {p : Pulse} (hdue : d.wpu.marks.find? (fun p => p.pin = n && p.start ≤ d.el) = some p)
    (hnone : lget d.wpu.mko n none = none) (hdrives : d.drives p.fired = true) (hdriven : d.mkoDriven = true) :
    d.markerStart n = ({ d with wpu := { d.wpu with marks := d.wpu.marks.erase p, mko := lset d.wpu.mko n (some (p.start + p.width)) } } : Dev).emit
      (.pin (.mko n) (d.drive (d.mkoSafe n) true)) := by
  simp only [Dev.markerStart, hdue, hdriven, hnone, Bool.not_true, Bool.false_eq_true, if_false]
  exact if_pos hdrives

/-! ### Strobe pulses (R98, R99) -/

/-- Where the pins are free, no pulse is on the strobe, none lies in the 100 µs before, and its limit is not 0, the oldest pulse due begins. -/
theorem Dev.strobeBegin_begins (d : Dev) {n : Nat} {p : Pulse} (hdue : (d.strobe n).sched.find? (fun p => p.start ≤ d.el) = some p)
    (hnone : (d.strobe n).active = none) (hpast : (d.strobe n).past = []) (hduty : d.dutyNs n ≠ 0) (hdrives : d.drives p.fired = true)
    (hfree : d.pinsHeld = false) :
    d.strobeBegin n = (d.setStrobe n ⟨(d.strobe n).sched.erase p, some (d.el, p.start + p.width), []⟩).emit
      (.pin (.stb n) (d.drive (d.stbSafe n) true)) := by
  have hunder : ¬ d.dutyNs n ≤ activeIn d.el [] := by simpa [activeIn] using hduty
  simp only [Dev.strobeBegin, hdue, hfree, hnone, hpast, List.filter_nil, if_neg hunder, Bool.false_eq_true, if_false]
  exact if_pos hdrives

@[simp] theorem Dev.setStrobe_el (d : Dev) (n : Nat) (x : StrobeSt) : (d.setStrobe n x).el = d.el := rfl

/-- A pulse whose end has come ends, and counts no limit. -/
theorem Dev.strobeEnd_due (d : Dev) {n b e : Nat} (hactive : (d.strobe n).active = some (b, e)) (hend : e ≤ d.el) :
    d.strobeEnd n = (d.setStrobe n { d.strobe n with
        active := none, past := (b, d.el) :: (d.strobe n).past.filter (fun q => d.el < q.2 + 100000) }).emit
      (.pin (.stb n) (d.restLevel true (d.stbSafe n))) := by
  simp only [Dev.strobeEnd, hactive, hend, Dev.setStrobe_el, Nat.not_lt.mpr hend, decide_true, Bool.true_or, if_true, if_false]
  rfl

/-- Settles O43: forward extrapolation is a maximum, and of each pulse that begins or ends the block made is written out. -/
theorem pulsesAndStandstill : Obligations.PulsesAndStandstill := by
  intro s dt
  refine ⟨?extrapolate, ?standstill, ?markerStart, ?markerEnd, ?strobeStart, ?strobeEnd⟩
  case extrapolate =>
    intro nm at_ period hfree hsample htype hscale hvalid hacq hcmp hrev
    refine makes_of_after rfl ?_
    rw [Dev.elapse_isHeld, hfree, if_neg Bool.false_ne_true]
    obtain ⟨hraw, ht⟩ := (s.dev.elapse dt).extrapolate_forward hsample htype hscale hvalid hacq hcmp hrev
    exact ⟨hraw _, ht⟩
  case standstill =>
    intro hfree hmoving htimeout
    refine makes_of_after rfl ?_
    have hdue : ((s.dev.elapse dt).isHeld .wpu || (s.dev.elapse dt).wpu.still ||
        decide ((s.dev.elapse dt).el < (s.dev.elapse dt).wpu.edgeAt + (s.dev.elapse dt).standNs)) = false := by
      rw [Dev.elapse_isHeld, hfree, Dev.elapse_wpu, hmoving]
      exact decide_eq_false (Nat.not_lt.mpr htimeout)
    rw [hdue, if_neg Bool.false_ne_true, Dev.raiseEvt_rd, Dev.raiseEvt_rdB, Dev.raiseEvt_rdB, Dev.raiseEvt_wpu]
    obtain ⟨hspeed, hvalid, hstill⟩ := Dev.speedLost_reads { s.dev.elapse dt with wpu := { (s.dev.elapse dt).wpu with still := true } }
    exact ⟨hspeed, hvalid, hstill, rfl, rfl⟩
  case markerStart =>
    intro n p hdue hnone hdrives hdriven
    refine makes_of_after rfl ?_
    rw [(s.dev.elapse dt).markerStart_begins hdue hnone hdrives hdriven]
    exact ⟨rfl, rfl, rfl⟩
  case markerEnd =>
    intro n e hactive hend
    refine makes_of_after rfl ?_
    rw [Dev.elapse_wpu, hactive]
    dsimp only
    rw [if_pos hend]
    exact ⟨rfl, rfl, rfl⟩
  case strobeStart =>
    intro n p hdue hnone hpast hduty hdrives hfree
    refine makes_of_after rfl ?_
    rw [(s.dev.elapse dt).strobeBegin_begins hdue hnone hpast hduty hdrives hfree]
    exact ⟨rfl, rfl, rfl⟩
  case strobeEnd =>
    intro n b e hactive hend
    refine makes_of_after rfl ?_
    rw [(s.dev.elapse dt).strobeEnd_due hactive hend]
    exact ⟨rfl, rfl, rfl⟩

end Sys2Proof.Machine
end

section
/-! Filters as R110 to R118 have them: a command's modulator bits, and what the last of them brings about in the block. -/

namespace Sys2Proof.Machine

/-! ### Modulator bits and the cycle of a filter's last command (R108) -/

section
variable (s : FltSt) (g : FltCfg) (tap : Nat → Int) (t : Nat)

/-- The filter has taken its modulator bits up to cycle t. -/
abbrev FltSt.takenBy : FltSt := { s with at_ := t }

theorem FltSt.bitLevel_takenBy (b : Bool) : (s.takenBy t).bitLevel g b = ((s.bitLevel g b).1.takenBy t, (s.bitLevel g b).2) := by
  simp only [FltSt.bitLevel, FltSt.takenBy]
  split_ifs <;> rfl

theorem FltSt.bitCoarse_takenBy (b : Bool) : (s.takenBy t).bitCoarse g b = ((s.bitCoarse g b).1.takenBy t, (s.bitCoarse g b).2) := by
  simp only [FltSt.bitCoarse, FltSt.takenBy]
  split_ifs <;> rfl

theorem FltSt.bitMain_takenBy (b : Bool) : (s.takenBy t).bitMain g tap b = ((s.bitMain g tap b).1.takenBy t, (s.bitMain g tap b).2) := by
  simp only [FltSt.bitMain, FltSt.takenBy]
  split_ifs <;> rfl

theorem FltSt.bitStep_takenBy (on : Bool) : (s.takenBy t).bitStep g on = ((s.bitStep g on).1.takenBy t, (s.bitStep g on).2) := by
  simp only [FltSt.bitStep, FltSt.takenBy]
  split
  · split <;> rfl
  · rfl

theorem FltSt.bit_takenBy (b : Bool) : (s.takenBy t).bit g tap b = ((s.bit g tap b).1.takenBy t, (s.bit g tap b).2) := by
  simp only [FltSt.bit, FltSt.bitLevel_takenBy, FltSt.bitCoarse_takenBy, FltSt.bitMain_takenBy]
  split
  · rw [FltSt.bitStep_takenBy]
  · rfl

/-- The paths do not ask up to which cycle bits were taken. -/
theorem FltSt.bits_takenBy (bs : List Bool) : (s.takenBy t).bits g tap bs = ((s.bits g tap bs).1.takenBy t, (s.bits g tap bs).2) := by
  induction bs generalizing s with
  | nil => rfl
  | cons b bs ih => simp only [FltSt.bits, FltSt.bit_takenBy, ih]

end

/-! ### What raising an event leaves alone (R377) -/

@[simp] theorem Dev.raiseEvt_flt (d : Dev) (p : Nat) : (d.raiseEvt p).flt = d.flt := by
  obtain ⟨v, h⟩ := d.raiseEvt_eq p
  rw [h]

@[simp] theorem Dev.raiseEvt_mrg (d : Dev) (p : Nat) : (d.raiseEvt p).mrg = d.mrg := by
  obtain ⟨v, h⟩ := d.raiseEvt_eq p
  rw [h]

@[simp] theorem Dev.raiseEvt_inForce (d : Dev) (p : Nat) : (d.raiseEvt p).inForce = d.inForce := by
  obtain ⟨v, h⟩ := d.raiseEvt_eq p
  rw [h]
  rfl

/-! ### Clamps and steps counted (R111, R117) -/

/-- The block e has counted clamps and steps of filter f beyond d: no register differs but FLT_STAT, that in its upper half alone, and the
filters, the position unit, the merge points and the settings in force are the same. -/
structure Dev.CountsFor (d e : Dev) (f : Nat) : Prop where
  inForce : e.inForce = d.inForce
  wpu : e.wpu = d.wpu
  flt : e.flt = d.flt
  mrg : e.mrg = d.mrg
  rd : ∀ a, a ≠ a_DSP_FLT_STAT f → e.rd a = d.rd a
  low : ∀ x : Fld, x.lo + x.w ≤ 32 → e.rdF (a_DSP_FLT_STAT f) x = d.rdF (a_DSP_FLT_STAT f) x

theorem Dev.CountsFor.refl (d : Dev) (f : Nat) : d.CountsFor d f := ⟨rfl, rfl, rfl, rfl, fun _ _ => rfl, fun _ _ => rfl⟩

theorem Dev.CountsFor.trans {d e k : Dev} {f : Nat} (h : d.CountsFor e f) (l : e.CountsFor k f) : d.CountsFor k f where
  inForce := l.inForce.trans h.inForce
  wpu := l.wpu.trans h.wpu
  flt := l.flt.trans h.flt
  mrg := l.mrg.trans h.mrg
  rd a ha := (l.rd a ha).trans (h.rd a ha)
  low x hx := (l.low x hx).trans (h.low x hx)

theorem Dev.countsFor_inc (d : Dev) (f : Nat) {c : Fld} (hc : 32 ≤ c.lo) : d.CountsFor (d.inc (a_DSP_FLT_STAT f) c) f where
  inForce := rfl
  wpu := rfl
  flt := rfl
  mrg := rfl
  rd _ ha := d.rd_inc_ne c 1 ha
  low x hx := by
    rw [Dev.rdF, Dev.rd_inc_self, fincSat, fget_fset_ne _ _ _ _ (.inl (by omega)) (by omega), Dev.rdF]

theorem Dev.countsFor_raiseEvt (d : Dev) (f p : Nat) : d.CountsFor (d.raiseEvt p) f :=
  ⟨d.raiseEvt_inForce p, d.raiseEvt_wpu p, d.raiseEvt_flt p, d.raiseEvt_mrg p, fun a _ => d.raiseEvt_rd p a, fun x _ => d.raiseEvt_rdF p _ x⟩

theorem Dev.CountsFor.rdB_low {d e : Dev} {f : Nat} (h : d.CountsFor e f) {x : Fld} (hx : x.lo + x.w ≤ 32) :
    e.rdB (a_DSP_FLT_STAT f) x = d.rdB (a_DSP_FLT_STAT f) x :=
  congrArg (· != 0) (h.low x hx)

/-- A clamp that is counted. -/
theorem Dev.countsFor_clamp (d : Dev) (f : Nat) (clamps : Bool) :
    d.CountsFor (if clamps then d.inc (a_DSP_FLT_STAT f) f_DSP_FLT_STAT_SAT_CNT else d) f := by
  cases clamps with
  | false => exact .refl d f
  | true => exact d.countsFor_inc f (by decide)

/-- A step that is counted and raises its event. -/
theorem Dev.countsFor_step (d : Dev) (f : Nat) (steps : Bool) :
    d.CountsFor (if steps then (d.inc (a_DSP_FLT_STAT f) f_DSP_FLT_STAT_STEP_CNT).raiseEvt (128 + f) else d) f := by
  cases steps with
  | false => exact .refl d f
  | true => exact (d.countsFor_inc f (by decide)).trans (Dev.countsFor_raiseEvt _ f _)

/-! ### A sample delivered (R112, R119, R122) -/

/-- What FLT_OUT shows of a delivered sample. -/
def outWord (v : Int) (coarse sat stuck : Bool) : W64 :=
  fset (fset (fset (fset (fset 0 f_DSP_FLT_OUT_VALUE (uwrap v 40)) f_DSP_FLT_OUT_VALID 1)
    f_DSP_FLT_OUT_COARSE (if coarse then 1 else 0)) f_DSP_FLT_OUT_SAT (if sat then 1 else 0)) f_DSP_FLT_OUT_STUCK (if stuck then 1 else 0)

theorem uwrap_lt (x : Int) (w : Nat) : uwrap x w < 2 ^ w := by
  have hpos : (0 : Int) < 2 ^ w := by positivity
  have hlt := Int.emod_lt_of_pos x hpos
  rw [uwrap, Int.toNat_lt (Int.emod_nonneg x hpos.ne')]
  exact_mod_cast hlt

/-- Each field of FLT_OUT shows its part of the sample. -/
theorem outWord_fields (v : Int) (coarse sat stuck : Bool) :
    fget (outWord v coarse sat stuck) f_DSP_FLT_OUT_VALUE = uwrap v 40 ∧ fget (outWord v coarse sat stuck) f_DSP_FLT_OUT_VALID = 1 ∧
      fbit (outWord v coarse sat stuck) f_DSP_FLT_OUT_COARSE = coarse ∧ fbit (outWord v coarse sat stuck) f_DSP_FLT_OUT_SAT = sat := by
  refine ⟨?value, ?valid, ?coarse, ?sat⟩
  case value => simp (disch := decide) only [outWord, fget_fset_ne, fget_fset_self, Nat.mod_eq_of_lt (uwrap_lt v 40)]
  case valid =>
    simp (disch := decide) only [outWord, fget_fset_ne, fget_fset_self]
    rfl
  case coarse =>
    simp (disch := decide) only [outWord, fbit, fget_fset_ne]
    exact fbit_fset_self _ f_DSP_FLT_OUT_COARSE coarse (by decide) (by decide)
  case sat =>
    simp (disch := decide) only [outWord, fbit, fget_fset_ne]
    exact fbit_fset_self _ f_DSP_FLT_OUT_SAT sat (by decide) (by decide)

/-- An auxiliary item counts in its filter, takes a stamp and sets out for its merge point. -/
theorem Dev.auxItem_eq (d : Dev) (f : Nat) (g : FltCfg) (x : Sample) :
    ∃ flt seqs mrg, d.auxItem f g x = { d with flt := flt, seqs := seqs, mrg := mrg } := by
  unfold Dev.auxItem
  split
  next => exact ⟨d.flt, d.seqs, d.mrg, rfl⟩
  next =>
    dsimp only
    split
    next => exact ⟨_, _, _, rfl⟩
    next => exact ⟨_, d.seqs, d.mrg, rfl⟩

/-- A monitor's sample reaches what the ports capture of the line. -/
theorem Dev.monitorAgain_eq (d : Dev) (g : FltCfg) (x : Sample) : ∃ ports, d.monitorAgain g x = { d with ports := ports } := by
  unfold Dev.monitorAgain
  split
  next => exact ⟨d.ports, rfl⟩
  next =>
    split
    next => exact ⟨d.ports, rfl⟩
    next => exact ⟨_, rfl⟩

/-- A delivered sample shows in FLT_OUT, and neither the settings in force nor the position unit changes. -/
theorem Dev.deliverSample_shows (d : Dev) (f : Nat) (g : FltCfg) (v : Int) (coarse sat : Bool) :
    (d.deliverSample f g v coarse sat).rd (a_DSP_FLT_OUT f) = outWord v coarse sat (d.filter f).stuck ∧
      (d.deliverSample f g v coarse sat).inForce = d.inForce ∧ (d.deliverSample f g v coarse sat).wpu = d.wpu := by
  have htime : a_DSP_FLT_OUT f ≠ a_DSP_FLT_TIME f := by unfold a_DSP_FLT_OUT a_DSP_FLT_TIME; omega
  unfold Dev.deliverSample
  dsimp only
  generalize (⟨v, coarse, sat, (d.filter f).stuck, (d.instantBefore g.gd).1, (d.instantBefore g.gd).2⟩ : Sample) = x
  generalize he : Dev.wr (Dev.wr _ (a_DSP_FLT_OUT f) _) (a_DSP_FLT_TIME f) _ = e
  obtain ⟨flt, seqs, mrg, haux⟩ := e.auxItem_eq f g x
  obtain ⟨ports, hmon⟩ := (e.auxItem f g x).monitorAgain_eq g x
  rw [hmon, haux, ← he]
  exact ⟨(Dev.rd_wr_ne _ _ htime).trans (Dev.rd_wr_self _ _ _), rfl, rfl⟩

/-! ### A stuck input reported (R118) -/

theorem Dev.plainErr_congr {d e : Dev} {code : Nat} (h : e.rd (a_ERR_MAP code) = d.rd (a_ERR_MAP code)) : e.plainErr code = d.plainErr code := by
  simp only [Dev.plainErr, h]

theorem errMap_ne_fltStat (f : Nat) : a_ERR_MAP 0x17 ≠ a_DSP_FLT_STAT f := by unfold a_ERR_MAP a_DSP_FLT_STAT; omega

/-- A stuck input of filter f: counted, its event raised, the error reported. -/
def Dev.reportStuck (d : Dev) (f : Nat) : Dev :=
  ((d.inc (a_DSP_FLT_STAT f) f_DSP_FLT_STAT_STUCK_CNT).raiseEvt (136 + f)).reportErr 0x17 21 f

/-- Where the error is a plain one, the count rises and one entry more is on its way; the filters and the settings in force stay. -/
theorem Dev.reportStuck_of_plain (d : Dev) (f : Nat) (h : d.plainErr 0x17 = true) :
    (d.reportStuck f).rdF (a_DSP_FLT_STAT f) f_DSP_FLT_STAT_STUCK_CNT =
        min (d.rdF (a_DSP_FLT_STAT f) f_DSP_FLT_STAT_STUCK_CNT + 1) (2 ^ f_DSP_FLT_STAT_STUCK_CNT.w - 1) ∧
      (d.reportStuck f).mrg.err.fly.length = d.mrg.err.fly.length + 1 ∧ (d.reportStuck f).flt = d.flt ∧
      (d.reportStuck f).inForce = d.inForce := by
  unfold Dev.reportStuck
  generalize he : (d.inc (a_DSP_FLT_STAT f) f_DSP_FLT_STAT_STUCK_CNT).raiseEvt (136 + f) = e
  have hmap : e.rd (a_ERR_MAP 0x17) = d.rd (a_ERR_MAP 0x17) := by rw [← he, Dev.raiseEvt_rd, d.rd_inc_ne _ _ (errMap_ne_fltStat f)]
  rw [e.reportErr_of_plain 0x17 21 f ((Dev.plainErr_congr hmap).trans h) (by decide)]
  refine ⟨?count, ?entry, ?filters, ?settings⟩
  case count =>
    calc e.rdF (a_DSP_FLT_STAT f) f_DSP_FLT_STAT_STUCK_CNT
      _ = (d.inc (a_DSP_FLT_STAT f) f_DSP_FLT_STAT_STUCK_CNT).rdF (a_DSP_FLT_STAT f) f_DSP_FLT_STAT_STUCK_CNT := by rw [← he, Dev.raiseEvt_rdF]
      _ = _ := d.rdF_inc_self _ _ 1 (by decide)
  case entry =>
    have hmrg : e.mrg = d.mrg := by rw [← he, Dev.raiseEvt_mrg, Dev.inc_mrg]
    simp [Dev.fly, Merges.get, Merges.set, hmrg]
  case filters => rw [Dev.fly_flt, Dev.mkStamp_flt, ← he, Dev.raiseEvt_flt, Dev.inc_flt]
  case settings =>
    calc e.inForce
      _ = (d.inc (a_DSP_FLT_STAT f) f_DSP_FLT_STAT_STUCK_CNT).inForce := by rw [← he, Dev.raiseEvt_inForce]
      _ = d.inForce := rfl

/-! ### What one bit brings about -/

section
variable (d : Dev) (f : Nat) (g : FltCfg) {e : BitEvents}

/-- Without a sample or a stuck input, clamps and steps are counted and nothing else happens. -/
theorem Dev.bitEffects_quiet (hsample : e.sample = none) (hstuck : e.stuck = false) : d.CountsFor (d.bitEffects f g e) f := by
  unfold Dev.bitEffects
  rw [hsample, hstuck]
  exact (d.countsFor_clamp f e.satY).trans (Dev.countsFor_step _ f e.step)

/-- A stuck input is reported, and what else the bit does is to count. -/
theorem Dev.bitEffects_stuck (hsample : e.sample = none) (hstuck : e.stuck = true) : (d.reportStuck f).CountsFor (d.bitEffects f g e) f := by
  unfold Dev.bitEffects
  rw [hsample, hstuck]
  exact ((d.reportStuck f).countsFor_clamp f e.satY).trans (Dev.countsFor_step _ f e.step)

/-- A sample that comes of the bit shows in FLT_OUT, and neither the settings in force nor the position unit changes. -/
theorem Dev.bitEffects_sample {v : Int} {coarse sat : Bool} (hsample : e.sample = some (v, coarse, sat)) (hstuck : e.stuck = false) :
    ∃ stuck, (d.bitEffects f g e).rd (a_DSP_FLT_OUT f) = outWord v coarse sat stuck ∧ (d.bitEffects f g e).inForce = d.inForce ∧
      (d.bitEffects f g e).wpu = d.wpu := by
  have hout : a_DSP_FLT_OUT f ≠ a_DSP_FLT_STAT f := by unfold a_DSP_FLT_OUT a_DSP_FLT_STAT; omega
  have hclamp := d.countsFor_clamp f e.satY
  unfold Dev.bitEffects
  simp only [hsample, hstuck, Bool.false_eq_true, if_false]
  generalize hc : (if e.satY then _ else _ : Dev) = c at hclamp ⊢
  obtain ⟨hshown, hin, hwpu⟩ := c.deliverSample_shows f g v coarse sat
  have hstep := (c.deliverSample f g v coarse sat).countsFor_step f e.step
  exact ⟨_, (hstep.rd _ hout).trans hshown, hstep.inForce.trans (hin.trans hclamp.inForce), hstep.wpu.trans (hwpu.trans hclamp.wpu)⟩

end

/-! ### A command's bits -/

/-- The block as it stands when the bits have run through filter f, before their effects. -/
def Dev.bitsRun (d : Dev) (f : Nat) (bits : List Bool) : Dev :=
  d.setFilter f (((d.filter f).bits (d.fltIn f) (d.tap f) bits).1.takenBy d.clk.cyc)

section
variable (d : Dev) (f : Nat) (bits : List Bool)

theorem Dev.bitsRun_settling : (d.bitsRun f bits).rdB (a_DSP_FLT_STAT f) f_DSP_FLT_STAT_SETTLING =
    decide (((d.filter f).bits (d.fltIn f) (d.tap f) bits).1.settle ≠ 0) :=
  Dev.rdB_wrB_self _ _ _ _ (by decide) (by decide)

/-- Settling shows in a bit of FLT_STAT below the counters. -/
theorem Dev.bitsRun_stuckCnt : (d.bitsRun f bits).rdF (a_DSP_FLT_STAT f) f_DSP_FLT_STAT_STUCK_CNT =
    d.rdF (a_DSP_FLT_STAT f) f_DSP_FLT_STAT_STUCK_CNT := by
  rw [Dev.rdF, Dev.bitsRun, Dev.setFilter, Dev.wrB, Dev.wrF, Dev.rd_wr_self, fget_fset_ne _ _ _ _ (.inr (by decide)) (by decide)]
  rfl

theorem Dev.bitsRun_plainErr : (d.bitsRun f bits).plainErr 0x17 = d.plainErr 0x17 :=
  Dev.plainErr_congr (Dev.rd_wr_ne _ _ (errMap_ne_fltStat f))

end

section
variable {d : Dev} {f : Nat} {bits : List Bool} {e : BitEvents} {before : List BitEvents}

/-- As many bits as the filter's clock has sampled run through its paths, and the last of them has its effects (log entry 6). -/
theorem Dev.filterBits_due {due : BitEvents → Bool} (hfree : d.isHeld .dsp = false) (hclk : (d.fltIn f).clkOn = true)
    (hlen : bits.length = d.bitsDue f) (hlast : ((d.filter f).bits (d.fltIn f) (d.tap f) bits).2.reverse = e :: before)
    (hbefore : before.all (fun x => !x.any) = true) (hdue : due e = true) :
    d.filterBits f bits due = (d.bitsRun f bits).bitEffects f (d.fltIn f) e := by
  have hruns : (d.isHeld .dsp || !(d.fltIn f).clkOn || decide (bits.length ≠ d.bitsDue f)) = false := by simp [hfree, hclk, hlen]
  have hbits := (d.filter f).bits_takenBy (d.fltIn f) (d.tap f) d.clk.cyc bits
  rw [FltSt.takenBy] at hbits
  simp only [Dev.filterBits, hruns, hbits, hlast, hdue, hbefore, Bool.and_self, Bool.false_eq_true, if_false, if_true]
  rfl

/-- A filter that is not one of a sine and cosine pair hands the position unit nothing (R120). -/
theorem Dev.filterCommand_of_alone {due : BitEvents → Bool} (huse : (d.fltIn f).use ≠ 1) (hin : (d.filterBits f bits due).inForce = d.inForce) :
    d.filterCommand f bits due = d.filterBits f bits due := by
  have halone : ((d.filterBits f bits due).fltIn f).use ≠ 1 := by rwa [Dev.fltIn, hin]
  have hpair : (d.filterBits f bits due).scPair f = d.filterBits f bits due := by simp [Dev.scPair, halone]
  simp only [Dev.filterCommand, hpair, ite_self]

/-- A command of a filter that is not one of a pair comes to the effects of the last of its bits, where they keep the settings in force. -/
theorem Dev.filterCommand_due {due : BitEvents → Bool} (hfree : d.isHeld .dsp = false) (hclk : (d.fltIn f).clkOn = true)
    (huse : (d.fltIn f).use ≠ 1) (hlen : bits.length = d.bitsDue f)
    (hlast : ((d.filter f).bits (d.fltIn f) (d.tap f) bits).2.reverse = e :: before) (hbefore : before.all (fun x => !x.any) = true)
    (hdue : due e = true) (hin : ((d.bitsRun f bits).bitEffects f (d.fltIn f) e).inForce = d.inForce) :
    d.filterCommand f bits due = (d.bitsRun f bits).bitEffects f (d.fltIn f) e := by
  have hbits := Dev.filterBits_due hfree hclk hlen hlast hbefore hdue
  rw [Dev.filterCommand_of_alone huse (by rw [hbits, hin]), hbits]

end

/-- Settles O44: each command comes to the effects of its last bit, which deliver a sample, report a stuck input, or only count. -/
theorem filterEvents : Obligations.FilterEvents := by
  intro s dt f bits e before hfree hclk huse hlen hlast hbefore
  have hcommand {due : BitEvents → Bool} (hdue : due e = true)
      (hin : (((s.dev.elapse dt).bitsRun f bits).bitEffects f (s.dev.fltIn f) e).inForce = (s.dev.elapse dt).inForce) :
      (s.dev.elapse dt).filterCommand f bits due = ((s.dev.elapse dt).bitsRun f bits).bitEffects f (s.dev.fltIn f) e :=
    Dev.filterCommand_due hfree hclk huse hlen hlast hbefore hdue hin
  refine ⟨?output, ?quiet, ?stuck⟩
  case output =>
    intro v c sat hsample hstuck
    obtain ⟨stuck, hword, hin, hwpu⟩ := ((s.dev.elapse dt).bitsRun f bits).bitEffects_sample f (s.dev.fltIn f) hsample hstuck
    refine makes_of_after_eq rfl (hcommand (by rw [hsample, Option.isSome_some]) hin) ?_
    obtain ⟨hvalue, hvalid, hcoarse, hsat⟩ := outWord_fields v c sat stuck
    simp only [Dev.rdF, Dev.rdB, hword]
    exact ⟨hvalue, hvalid, hcoarse, hsat, hwpu⟩
  case quiet =>
    intro hsample hstuck
    have hquiet := ((s.dev.elapse dt).bitsRun f bits).bitEffects_quiet f (s.dev.fltIn f) hsample hstuck
    refine ⟨?coarse, ?settled⟩
    case coarse =>
      intro hcoarse
      exact makes_of_after_eq rfl (hcommand hcoarse hquiet.inForce) ⟨hquiet.flt, hquiet.wpu⟩
    case settled =>
      intro hsettled
      have hsettling := (hquiet.rdB_low (x := f_DSP_FLT_STAT_SETTLING) (by decide)).trans ((s.dev.elapse dt).bitsRun_settling f bits)
      exact makes_of_after_eq rfl (hcommand hsettled hquiet.inForce)
        ⟨hquiet.flt, hquiet.wpu, by rw [hsettling, decide_eq_true_eq]; rfl⟩
  case stuck =>
    intro hstuck hsample hplain
    have hcounts := ((s.dev.elapse dt).bitsRun f bits).bitEffects_stuck f (s.dev.fltIn f) hsample hstuck
    obtain ⟨hcnt, hentry, hflt, hin⟩ := ((s.dev.elapse dt).bitsRun f bits).reportStuck_of_plain f
      (((s.dev.elapse dt).bitsRun_plainErr f bits).trans hplain)
    refine makes_of_after_eq rfl (hcommand hstuck (hcounts.inForce.trans hin)) ⟨?count, ?entry, hcounts.flt.trans hflt⟩
    case count =>
      rw [hcounts.low _ (by decide), hcnt, Dev.bitsRun_stuckCnt, Dev.elapse_rdF]
    case entry =>
      rw [hcounts.mrg, hentry]
      rfl

end Sys2Proof.Machine
end

section
/-! The rules of the state of lanes and ports that the statements of the camera link go by: what is read after a store, what sending on a lane changes,
what an error reported in passing leaves alone (R130 to R157, R415 to R436). -/

namespace Sys2Proof.Machine

/-! ### Lanes and ports stored -/

section
variable (d : Dev) (l : Nat)

theorem lget_of_length_le {α : Type} {xs : List α} {i : Nat} (a : α) (h : xs.length ≤ i) : lget xs i a = a := by
  simp [lget, h]

/-- A lane that is not as after reset is one of the part's. -/
theorem Dev.lt_lanes_of_ne_reset {d : Dev} {l : Nat} (h : d.lane l ≠ .reset) : l < d.lanes.length := by
  by_contra hn
  exact h (lget_of_length_le _ (Nat.le_of_not_lt hn))

theorem Dev.lt_lanes_of_step {d : Dev} {l : Nat} (h : (d.lane l).step ≠ 0) : l < d.lanes.length :=
  Dev.lt_lanes_of_ne_reset fun hn => h (by rw [hn]; rfl)

/-- A port that is not as after reset is one of the part's. -/
theorem Dev.lt_ports_of_ne_reset {d : Dev} {p : Nat} (h : d.port p ≠ .reset) : p < d.ports.length := by
  by_contra hn
  exact h (lget_of_length_le _ (Nat.le_of_not_lt hn))

theorem lset_lget {α : Type} (xs : List α) (i : Nat) (a : α) : lset xs i (lget xs i a) = xs := by
  by_cases h : i < xs.length
  · simp [lset, lget, h]
  · exact List.set_eq_of_length_le (Nat.le_of_not_lt h)

theorem lset_lset {α : Type} (xs : List α) (i : Nat) (x y : α) : lset (lset xs i x) i y = lset xs i y := List.set_set ..

theorem Dev.lane_setLane_self (x : LaneSt) (h : l < d.lanes.length) : (d.setLane l x).lane l = x := lget_lset_self _ _ _ h

theorem Dev.lane_setLane_ne (x : LaneSt) {k : Nat} (h : k ≠ l) : (d.setLane l x).lane k = d.lane k := lget_lset_ne _ _ _ h

theorem Dev.lane_setLane_out (x : LaneSt) (h : d.lanes.length ≤ l) : (d.setLane l x).lane l = .reset :=
  lget_of_length_le _ (by simpa [Dev.setLane, lset] using h)

theorem Dev.lane_eq_of_lanes {d e : Dev} {l : Nat} {x : LaneSt} (he : e.lanes = lset d.lanes l x) (hl : l < d.lanes.length) : e.lane l = x := by
  rw [Dev.lane, he, lget_lset_self _ _ _ hl]

theorem Dev.lane_ne_of_lanes {d e : Dev} {l k : Nat} {x : LaneSt} (he : e.lanes = lset d.lanes l x) (hk : k ≠ l) : e.lane k = d.lane k := by
  rw [Dev.lane, he, lget_lset_ne _ _ _ hk, Dev.lane]

theorem Dev.setLane_setLane (x y : LaneSt) : (d.setLane l x).setLane l y = d.setLane l y := by
  simp [Dev.setLane, lset_lset]

theorem Dev.setLane_lane : d.setLane l (d.lane l) = d := by
  simp [Dev.setLane, Dev.lane, lset_lget]

@[simp] theorem Dev.setLane_length (x : LaneSt) : (d.setLane l x).lanes.length = d.lanes.length := List.length_set

theorem Dev.port_setPort_self (p : Nat) (x : PortSt) (h : p < d.ports.length) : (d.setPort p x).port p = x := lget_lset_self _ _ _ h

/-! ### What a lane sends (R131 to R134) -/

/-- The lane with the count of its ALIGN blocks moved on, and what has been given to it ending at another instant. -/
def LaneSt.sent (x : LaneSt) (aligns : Nat) (next : BitVec 16) (txEnd : Nat) : LaneSt :=
  { x with aligns := aligns, alignNext := next, txEnd := txEnd }

/-- The ALIGN blocks of lane l that have not been said yet. -/
def Dev.alignsDue : List Out :=
  let x := d.lane l
  let n := if x.step < 3 then 0 else (d.refNs - x.txFrom) * 1000 / (4096 * codewordPs x.rate) + 1
  if n ≤ x.aligns then [] else [.align l x.alignNext (n - x.aligns)]

/-- Saying them changes the lane's count of them alone. -/
theorem Dev.sendAligns_eq : ∃ n a, d.sendAligns l =
      { d with lanes := lset d.lanes l ((d.lane l).sent n a (d.lane l).txEnd), out := d.out ++ d.alignsDue l } ∧
    (d.sendAligns l).lane l = (d.lane l).sent n a (d.lane l).txEnd := by
  have hsame : (d.lane l).sent (d.lane l).aligns (d.lane l).alignNext (d.lane l).txEnd = d.lane l := rfl
  unfold Dev.sendAligns Dev.alignsDue
  extract_lets x n k
  split
  · refine ⟨x.aligns, x.alignNext, ?_, rfl⟩
    rw [List.append_nil, hsame]
    exact (d.setLane_lane l).symm
  · by_cases hl : l < d.lanes.length
    · exact ⟨n, _, rfl, d.lane_setLane_self l _ hl⟩
    · have hle := Nat.le_of_not_lt hl
      refine ⟨x.aligns, x.alignNext, ?_, ?_⟩
      · rw [hsame]
        simp only [Dev.setLane, Dev.emit, lset, List.set_eq_of_length_le hle]
        rfl
      · rw [hsame]
        exact (d.lane_setLane_out l _ hle).trans (lget_of_length_le _ hle).symm

theorem Dev.sendAligns_out : (d.sendAligns l).out = d.out ++ d.alignsDue l := by
  obtain ⟨n, a, h, -⟩ := d.sendAligns_eq l
  rw [h]

/-- A packet sent on a lane is seen outside behind the ALIGN blocks due, in the slots that the lane gives it, and else in the lane's transmitter alone. -/
theorem Dev.laneSend_sends (bytes : List Byte) : ∃ n a t, d.laneSend l bytes =
    { d with
      lanes := lset d.lanes l ((d.lane l).sent n a t)
      out := (d.sendAligns l).out ++
        [.tether (l / 2) (l % 2) ((d.lane l).slots (max (1000 * d.refNs) (d.lane l).txEnd) (ceilDiv bytes.length 32)).1 bytes] } := by
  obtain ⟨n, a, h, hlane⟩ := d.sendAligns_eq l
  refine ⟨n, a, ((d.lane l).slots (max (1000 * d.refNs) (d.lane l).txEnd) (ceilDiv bytes.length 32)).2, ?_⟩
  unfold Dev.laneSend
  simp only [hlane]
  simp only [h, Dev.setLane, Dev.emit, lset_lset]
  rfl

/-- A calibration burst is seen outside behind the ALIGN blocks due, and else in the lane's transmitter alone. -/
theorem Dev.laneBurst_sends (bytes : List Byte) : ∃ n a t, d.laneBurst l bytes =
    { d with lanes := lset d.lanes l ((d.lane l).sent n a t), out := (d.sendAligns l).out ++ [.lane l 3 bytes] } := by
  obtain ⟨n, a, h, hlane⟩ := d.sendAligns_eq l
  unfold Dev.laneBurst
  extract_lets e x now t
  refine ⟨n, a, if x.txEnd ≤ now + 20000000 then t else x.txEnd + (t - now), ?_⟩
  have hx : x = (d.lane l).sent n a (d.lane l).txEnd := hlane
  clear_value x t now
  subst hx
  simp only [e, h, Dev.setLane, Dev.emit, lset_lset]
  rfl

end

/-! ### Fields of registers -/

section
variable (d : Dev)

/-- A field set leaves the other registers alone. -/
theorem Dev.rd_wrF_ne {a b : Nat} (f : Fld) (n : Nat) (h : b ≠ a) : (d.wrF a f n).rd b = d.rd b := d.rd_wr_ne _ h

theorem Dev.rd_wrB_ne {a b : Nat} (f : Fld) (x : Bool) (h : b ≠ a) : (d.wrB a f x).rd b = d.rd b := d.rd_wr_ne _ h

theorem Dev.rd_flag_ne {a b : Nat} (f : Fld) (n : Nat) (h : b ≠ a) : (d.flag a f n).rd b = d.rd b := d.rd_wr_ne _ h

/-- Of one register a field set leaves the fields of other bits alone. -/
theorem Dev.rdF_wrF_disjoint (a : Nat) {f g : Fld} (n : Nat) (h : g.lo + g.w ≤ f.lo ∨ f.lo + f.w ≤ g.lo) (hg : g.lo + g.w ≤ 64) :
    (d.wrF a f n).rdF a g = d.rdF a g := by
  simp only [Dev.rdF, Dev.wrF, Dev.rd_wr_self, fget_fset_ne _ _ _ _ h hg]

theorem Dev.rdB_wrF_disjoint (a : Nat) {f g : Fld} (n : Nat) (h : g.lo + g.w ≤ f.lo ∨ f.lo + f.w ≤ g.lo) (hg : g.lo + g.w ≤ 64) :
    (d.wrF a f n).rdB a g = d.rdB a g := by
  simp only [Dev.rdB, fbit, Dev.wrF, Dev.rd_wr_self, fget_fset_ne _ _ _ _ h hg]

/-- A bit flagged is set. -/
theorem Dev.rdB_flag_self (a : Nat) (f : Fld) (h : f.lo + f.w ≤ 64) (hw : f.w = 1) : (d.flag a f).rdB a f = true := by
  have hflag : (d.flag a f).rd a = fset (d.rd a) f (d.rdF a f ||| 1) := d.rd_wr_self a _
  rw [Dev.rdB, hflag, fbit, fget_fset_self _ _ _ h, hw]
  simp [(Nat.or_mod_two_eq_one (a := d.rdF a f) (b := 1)).mpr (.inr rfl)]

end

/-- A plain error reported leaves lanes and registers as they are; its entry is one more on its way. -/
theorem Dev.reportErr_leaves {d : Dev} {code : Nat} (origin info : Nat) (h : d.plainErr code = true) (hc : code ∉ [0x01, 0x02, 0x03, 0x43]) :
    (d.reportErr code origin info).lanes = d.lanes ∧ (∀ b, (d.reportErr code origin info).rd b = d.rd b) ∧
      (d.reportErr code origin info).mrg.err.fly.length = d.mrg.err.fly.length + 1 := by
  rw [d.reportErr_of_plain code origin info h hc]
  exact ⟨rfl, fun b => rfl, by simp [Dev.fly, Merges.get, Merges.set]⟩

end Sys2Proof.Machine
end

section
/-! The upkeep of lanes in use (R132, R135, R155, R430 to R435). -/

namespace Sys2Proof.Machine

/-! ### Calibration bursts (R431, R432) -/

/-- Where no calibration runs, a burst brings none into force. -/
theorem Dev.calBurst_of_idle (d : Dev) (l : Nat) (tx : Bool) (h : d.cal.run = none) : d.calBurst l tx = d := by
  simp [Dev.calBurst, h]

/-- A burst due is numbered and leaves behind the ALIGN blocks due; of the lane its count, its instant and the transmitter change. -/
theorem Dev.burstSend_due (d : Dev) (l : Nat) (hstep : 3 ≤ (d.lane l).step) (hcal : d.cal.run = none) (hdue : (d.lane l).burstAt + 950000 ≤ d.refNs) :
    ∃ n a t, d.burstSend l = { d with
      lanes := lset d.lanes l ({ d.lane l with burst := (d.lane l).burst + 1, burstAt := d.refNs }.sent n a t)
      out := (d.sendAligns l).out ++ [.lane l 3 (burstBytes (d.lane l).burst)] } := by
  have hl : l < d.lanes.length := Dev.lt_lanes_of_step (by omega)
  unfold Dev.burstSend
  extract_lets x e
  have hx : e.lane l = { x with burst := x.burst + 1, burstAt := d.refNs } := d.lane_setLane_self l _ hl
  obtain ⟨n, a, t, h⟩ := e.laneBurst_sends l (burstBytes x.burst)
  have hout : (e.sendAligns l).out = (d.sendAligns l).out := by
    rw [Dev.sendAligns_out, Dev.sendAligns_out, Dev.alignsDue, Dev.alignsDue, hx]
    rfl
  have hready : (x.step < 3 || decide (d.refNs < x.burstAt + 950000)) = false := by
    simp only [x, Bool.or_eq_false_iff, decide_eq_false_iff_not]
    omega
  have hidle := Dev.calBurst_of_idle (e.laneBurst l (burstBytes x.burst)) l true (by rw [h]; exact hcal)
  rw [if_neg (by simpa using hready), hidle, h, hx, hout]
  refine ⟨n, a, t, ?_⟩
  simp only [e, Dev.setLane, lset_lset]
  rfl

/-- A lane that is heard from is no longer missed. -/
theorem Dev.burstReceive_heard (d : Dev) (l : Nat) (hstep : 3 ≤ (d.lane l).step) (hcal : d.cal.run = none) :
    d.burstReceive l = d.setLane l { d.lane l with heardAt := d.refNs, missed := false } := by
  have hup : ¬ (d.lane l).step < 3 := by omega
  simp only [Dev.burstReceive, hup, if_false]
  exact Dev.calBurst_of_idle _ _ _ hcal

/-! ### Eye scans (R435) -/

theorem Dev.dwell_le (d : Dev) (l : Nat) : d.dwell l ≤ 31 := by
  have hw : d.rdF (eyeCtrl l) f_LQ_EYE_CTRL_DWELL < 2 ^ 5 := fget_lt _ _
  unfold Dev.dwell
  omega

theorem eyeRes_ne_eyeCtrl (l : Nat) : a_LQ_EYE_RES (l / 4) (l % 4) ≠ eyeCtrl l := by
  unfold a_LQ_EYE_RES eyeCtrl a_LQ_EYE_CTRL
  omega

/-- What a scan leaves that ends: its bits and errors in EYE_RES, DONE in EYE_CTRL. -/
def Dev.eyeEnd (d : Dev) (l errors : Nat) : Dev :=
  let r := a_LQ_EYE_RES (l / 4) (l % 4)
  let d := (d.wrF r f_LQ_EYE_RES_BITS (2 ^ d.dwell l)).wrF r f_LQ_EYE_RES_ERRORS (min errors (2 ^ 32 - 1))
  (d.wrB (eyeCtrl l) f_LQ_EYE_CTRL_GO false).flag (eyeCtrl l) f_LQ_EYE_CTRL_DONE

theorem Dev.eyeEnd_ctrl (d : Dev) (l errors : Nat) :
    (d.eyeEnd l errors).rdB (eyeCtrl l) f_LQ_EYE_CTRL_GO = false ∧ (d.eyeEnd l errors).rdB (eyeCtrl l) f_LQ_EYE_CTRL_DONE = true :=
  ⟨(Dev.rdB_wrF_disjoint _ _ _ (.inr (by decide)) (by decide)).trans (Dev.rdB_wrB_self _ _ _ _ (by decide) (by decide)),
    Dev.rdB_flag_self _ _ _ (by decide) rfl⟩

theorem Dev.eyeEnd_res (d : Dev) (l errors : Nat) :
    (d.eyeEnd l errors).rdF (a_LQ_EYE_RES (l / 4) (l % 4)) f_LQ_EYE_RES_BITS = 2 ^ d.dwell l ∧
      (d.eyeEnd l errors).rdF (a_LQ_EYE_RES (l / 4) (l % 4)) f_LQ_EYE_RES_ERRORS = min errors (2 ^ 32 - 1) := by
  have hctrl (f : Fld) : (d.eyeEnd l errors).rdF (a_LQ_EYE_RES (l / 4) (l % 4)) f =
      ((d.wrF (a_LQ_EYE_RES (l / 4) (l % 4)) f_LQ_EYE_RES_BITS (2 ^ d.dwell l)).wrF (a_LQ_EYE_RES (l / 4) (l % 4)) f_LQ_EYE_RES_ERRORS
        (min errors (2 ^ 32 - 1))).rdF (a_LQ_EYE_RES (l / 4) (l % 4)) f :=
    congrArg (fget · f) ((Dev.rd_flag_ne _ _ _ (eyeRes_ne_eyeCtrl l)).trans (Dev.rd_wrB_ne _ _ _ (eyeRes_ne_eyeCtrl l)))
  have hbits : 2 ^ d.dwell l < 2 ^ 32 := Nat.pow_lt_pow_right (by decide) (by have := d.dwell_le l; omega)
  refine ⟨?bits, ?errors⟩
  case bits =>
    rw [hctrl, Dev.rdF_wrF_disjoint _ _ _ (.inl (by decide)) (by decide), Dev.rdF_wrF_self _ _ _ _ (by decide)]
    exact Nat.mod_eq_of_lt hbits
  case errors =>
    rw [hctrl, Dev.rdF_wrF_self _ _ _ _ (by decide)]
    exact Nat.mod_eq_of_lt (by show min errors (2 ^ 32 - 1) < 2 ^ 32; omega)

/-! ### What is missed and what is discarded (R131, R155, R432) -/

theorem errMap_ne_lnCnt (l : Nat) : a_ERR_MAP 0x26 ≠ lnCnt l := by
  unfold a_ERR_MAP lnCnt a_LQ_LN_CNT
  omega

/-- A lane in stage 5 that has not been heard for 2 ms is missed from then on; that is counted and reported. -/
def Dev.burstMissed (d : Dev) (l : Nat) : Dev :=
  (d.setLane l { d.lane l with missed := true }).inc (lnCnt l) f_LQ_LN_CNT_BURST_MISS_CNT

theorem Dev.burstMissed_plain (d : Dev) (l : Nat) : (d.burstMissed l).plainErr 0x26 = d.plainErr 0x26 :=
  Dev.plainErr_congr (Dev.rd_inc_ne _ _ _ (errMap_ne_lnCnt l))

/-- A codeword that cannot be corrected is counted. -/
theorem Dev.codeword_lost (d : Dev) {l : Nat} (cw : List Nat) (hl : l < 32) (h : rsCorrect cw = none) :
    d.codeword l cw = d.inc (a_TPT_STAT0 (l / 2)) f_TPT_STAT0_FEC_UNCORR := by
  simp [Dev.codeword, hl, h]

/-- The symbols corrected are counted; where there is none, the count is as it was. -/
theorem Dev.codeword_mended (d : Dev) {l n : Nat} (cw : List Nat) (hl : l < 32) (h : rsCorrect cw = some n) :
    (d.codeword l cw).rdF (a_TPT_FEC_CORR (l / 2)) f_TPT_FEC_CORR_SYMBOLS =
        min (d.rdF (a_TPT_FEC_CORR (l / 2)) f_TPT_FEC_CORR_SYMBOLS + n) (2 ^ 32 - 1) ∧
      ∀ b, b ≠ a_TPT_FEC_CORR (l / 2) → (d.codeword l cw).rd b = d.rd b := by
  by_cases hn : n = 0
  · have hlt : d.rdF (a_TPT_FEC_CORR (l / 2)) f_TPT_FEC_CORR_SYMBOLS < 2 ^ 32 := fget_lt _ _
    have hsame : d.codeword l cw = d := by simp [Dev.codeword, hl, h, hn]
    rw [hsame]
    exact ⟨by omega, fun b _ => rfl⟩
  · have hinc : d.codeword l cw = d.inc (a_TPT_FEC_CORR (l / 2)) f_TPT_FEC_CORR_SYMBOLS n := by simp [Dev.codeword, hl, h, hn]
    rw [hinc]
    exact ⟨Dev.rdF_inc_self _ _ _ _ (by decide), fun b hb => Dev.rd_inc_ne _ _ _ hb⟩

/-! ### The statement -/

/-- Settles O46: each command is written out as the lane's record, the counter or the field that it changes. -/
theorem laneUpkeep : Obligations.LaneUpkeep := by
  intro s dt
  refine ⟨?send, ?receive, ?miss, ?adapt, ?eye, ?tether, ?ridge⟩
  case send =>
    intro l hstep hcal hdue
    obtain ⟨n, a, t, hsend⟩ := (s.dev.elapse dt).burstSend_due l hstep hcal hdue
    refine makes_of_after_eq rfl hsend ?_
    have hself := Dev.lane_eq_of_lanes (d := s.dev) (congrArg Dev.lanes hsend) (Dev.lt_lanes_of_step (by omega))
    rw [← hsend]
    refine ⟨by rw [hself]; rfl, by rw [hself]; rfl, by rw [hself]; rfl, fun k hk => ?_, by rw [hsend]; rfl, by rw [hsend]; rfl⟩
    exact Dev.lane_ne_of_lanes (d := s.dev) (congrArg Dev.lanes hsend) hk
  case receive =>
    intro l hstep hcal
    exact makes_of_after_eq rfl ((s.dev.elapse dt).burstReceive_heard l hstep hcal) ⟨rfl, rfl⟩
  case miss =>
    intro l hstep hmissed hheard hplain
    have hdue : ((s.dev.elapse dt).lane l).step = 6 ∧ ((s.dev.elapse dt).lane l).missed = false ∧
        ((s.dev.elapse dt).lane l).heardAt + 2000000 ≤ (s.dev.elapse dt).refNs := ⟨hstep, hmissed, hheard⟩
    have hplain' : ((s.dev.elapse dt).burstMissed l).plainErr 0x26 = true := ((s.dev.elapse dt).burstMissed_plain l).trans hplain
    obtain ⟨hlanes, hrd, hfly⟩ := Dev.reportErr_leaves (laneOrigin l) l hplain' (by decide)
    refine makes_of_after_eq rfl (if_pos (by simpa [and_assoc] using hdue)) ⟨hlanes, ?count, hfly⟩
    exact (congrArg (fget · _) (hrd _)).trans (Dev.rdF_inc_self _ _ _ _ (by decide))
  case adapt =>
    intro l hactive
    have hactive' : (s.dev.elapse dt).laneActive l = true := hactive
    refine ⟨makes_of_after rfl ?_, makes_of_after rfl ?_⟩
    · rw [if_pos hactive']
      exact ⟨Dev.rdB_wrB_self _ _ _ _ (by decide) (by decide), rfl, fun b hb => Dev.rd_wrB_ne _ _ _ hb⟩
    · rw [hactive', Bool.true_and, Dev.elapse_rdB]
      cases s.dev.rdB (lnCfg l) f_LQ_LN_CFG_FREEZE_HOLD with
      | true => exact ⟨(Bool.and_true _).symm, rfl, fun b _ => rfl⟩
      | false =>
        rw [Bool.and_false]
        exact ⟨Dev.rdB_wrB_self _ _ _ _ (by decide) (by decide), rfl, fun b hb => Dev.rd_wrB_ne _ _ _ hb⟩
  case eye =>
    intro l errors hgo
    have hend : (if (s.dev.elapse dt).rdB (eyeCtrl l) f_LQ_EYE_CTRL_GO then (s.dev.elapse dt).eyeEnd l errors else s.dev.elapse dt) =
        (s.dev.elapse dt).eyeEnd l errors := if_pos hgo
    obtain ⟨hdone, hgone⟩ := (s.dev.elapse dt).eyeEnd_ctrl l errors
    obtain ⟨hbits, herrors⟩ := (s.dev.elapse dt).eyeEnd_res l errors
    exact makes_of_after_eq rfl hend ⟨hdone, hgone, hbits, herrors⟩
  case tether =>
    intro l hl
    have hstat2 : (s.dev.elapse dt).malformed (l / 2) = (s.dev.elapse dt).inc (a_TPT_STAT2 (l / 2)) f_TPT_STAT2_MALFORMED := rfl
    refine ⟨?shape, fun cw => ⟨?lost, ?mended⟩⟩
    case shape =>
      exact makes_of_after_eq rfl ((if_pos hl).trans hstat2) ⟨Dev.rdF_inc_self _ _ _ _ (by decide), fun b hb => Dev.rd_inc_ne _ _ _ hb⟩
    case lost =>
      intro hcw
      exact makes_of_after_eq rfl ((s.dev.elapse dt).codeword_lost _ hl hcw)
        ⟨Dev.rdF_inc_self _ _ _ _ (by decide), fun b hb => Dev.rd_inc_ne _ _ _ hb⟩
    case mended =>
      intro n hcw
      obtain ⟨hself, hne⟩ := (s.dev.elapse dt).codeword_mended _ hl hcw
      exact makes_of_after rfl ⟨hself, hne⟩
  case ridge =>
    intro l cw hl
    have hl' : ¬ l.val < 32 := by omega
    exact ⟨makes_of_after_eq rfl (if_neg hl') rfl, makes_of_after_eq rfl (if_neg hl') rfl⟩

end Sys2Proof.Machine
end

section
/-! What the cameras send, what answers it, and the instants of requests and line slots (R134 to R157). -/

namespace Sys2Proof.Machine

/-! ### Ports stored, packets sent -/

/-- What a port's new record keeps of a part is kept, whether or not the port exists. -/
theorem Dev.port_setPort_part {β : Type} (d : Dev) (p : Nat) {x : PortSt} (f : PortSt → β) (h : f x = f (d.port p)) :
    f ((d.setPort p x).port p) = f (d.port p) := by
  by_cases hp : p < d.ports.length
  · rw [d.port_setPort_self p x hp, h]
  · have hout : lset d.ports p x = d.ports := List.set_eq_of_length_le (Nat.le_of_not_lt hp)
    simp only [Dev.port, Dev.setPort, hout]

/-- The ALIGN blocks due follow from the lanes and the time. -/
theorem Dev.sendAligns_out_congr {d e : Dev} (l : Nat) (hlanes : e.lanes = d.lanes) (hclk : e.clk = d.clk) (hout : e.out = d.out) :
    (e.sendAligns l).out = (d.sendAligns l).out := by
  have hlane : e.lane l = d.lane l := by rw [Dev.lane, hlanes, Dev.lane]
  have hnow : e.refNs = d.refNs := by rw [Dev.refNs, hclk, Dev.refNs]
  rw [Dev.sendAligns_out, Dev.sendAligns_out, hout, Dev.alignsDue, Dev.alignsDue, hlane, hnow]

theorem Dev.laneSend_out (d : Dev) (l : Nat) (bytes : List Byte) : (d.laneSend l bytes).out = (d.sendAligns l).out ++
    [.tether (l / 2) (l % 2) ((d.lane l).slots (max (1000 * d.refNs) (d.lane l).txEnd) (ceilDiv bytes.length 32)).1 bytes] := by
  obtain ⟨n, a, t, h⟩ := d.laneSend_sends l bytes
  rw [h]

@[simp] theorem Dev.laneSend_rd (d : Dev) (l : Nat) (bytes : List Byte) (b : Nat) : (d.laneSend l bytes).rd b = d.rd b := by
  obtain ⟨n, a, t, h⟩ := d.laneSend_sends l bytes
  rw [h]
  rfl

@[simp] theorem Dev.laneSend_ports (d : Dev) (l : Nat) (bytes : List Byte) : (d.laneSend l bytes).ports = d.ports := by
  obtain ⟨n, a, t, h⟩ := d.laneSend_sends l bytes
  rw [h]

@[simp] theorem Dev.laneSend_host (d : Dev) (l : Nat) (bytes : List Byte) : (d.laneSend l bytes).host = d.host := by
  obtain ⟨n, a, t, h⟩ := d.laneSend_sends l bytes
  rw [h]

@[simp] theorem Dev.laneSend_mrg (d : Dev) (l : Nat) (bytes : List Byte) : (d.laneSend l bytes).mrg = d.mrg := by
  obtain ⟨n, a, t, h⟩ := d.laneSend_sends l bytes
  rw [h]

@[simp] theorem Dev.laneSend_inForce (d : Dev) (l : Nat) (bytes : List Byte) (b : Nat) : (d.laneSend l bytes).inForce b = d.inForce b := by
  obtain ⟨n, a, t, h⟩ := d.laneSend_sends l bytes
  rw [h]
  rfl

/-! ### Numbers in packets -/

theorem leNat_lt (bs : List Byte) : leNat bs < 256 ^ bs.length := by
  induction bs with
  | nil => decide
  | cons b bs ih =>
    have hb : b.toNat < 256 := b.isLt
    simp only [leNat, List.length_cons, pow_succ]
    omega

theorem leAt_lt (bs : List Byte) (o n : Nat) : leAt bs o n < 256 ^ n :=
  (leNat_lt _).trans_le (Nat.pow_le_pow_right (by decide) (by simp [slice]))

/-! ### Segments (R155, R156) -/

/-- A segment of another CRC is counted and no more. -/
theorem Dev.lineSeg_crc (d : Dev) {l : Nat} {pkt : List Byte} (hstep : 3 ≤ (d.lane l).step) (htype : pktType pkt = 0x10)
    (hform : pktFormOk pkt = true) (hcrc : pktCrcOk pkt = false) : d.lineSeg l pkt = d.inc (a_TPT_STAT0 (l / 2)) f_TPT_STAT0_SEG_CRC := by
  have hup : ¬ (d.lane l).step < 3 := by omega
  simp [Dev.lineSeg, hup, htype, hform, hcrc]

/-- The slot of a line with one more segment in it. -/
def Slot.withSeg (x : Slot) (h data : List Byte) : Slot :=
  { x with
    epoch := some (x.epoch.getD (BitVec.ofNat 16 (leAt h 12 2)))
    last := if pktLast h then some (leAt h 8 4 + data.length) else x.last
    segs := x.segs ++ [(leAt h 8 4, data)] }

/-- A further pixel segment that fits its line and has not been received joins the slot. -/
theorem Dev.pixelSeg_joins (d : Dev) {p i : Nat} {x : Slot} {h data : List Byte} (hsegs : x.segs ≠ [])
    (hdt : leAt h 14 1 = d.cF x.desc.ctx (a_TPT_CFG p) f_TPT_CFG_PIX_DT) (hfit : leAt h 8 4 + data.length ≤ d.lineBytes x.desc.ctx p)
    (hnew : covered x.segs (leAt h 8 4) data.length = false) :
    d.pixelSeg p i x h data = d.setPort p { d.port p with slots := (d.port p).slots.set i (x.withSeg h data) } := by
  have hdesc : d.slotDesc p x = x.desc := by simp [Dev.slotDesc, hsegs]
  have hkept : data.take (d.lineBytes x.desc.ctx p - leAt h 8 4) = data := List.take_of_length_le (by omega)
  have hshort : ¬ d.lineBytes x.desc.ctx p < leAt h 8 4 + data.length := by omega
  simp [Dev.pixelSeg, hdesc, hdt, hkept, hshort, hnew, hsegs, Slot.withSeg]

/-- A segment of a line whose slot is open goes to it by the use of its VC. -/
theorem Dev.takeSeg_pixel (d : Dev) {p i : Nat} {x : Slot} {h : List Byte} (data : List Byte)
    (hi : (d.port p).slots.findIdx? (fun s => s.desc.line % 2 ^ 32 = leAt h 4 4) = some i) (hx : (d.port p).slots[i]? = some x)
    (hsegs : x.segs ≠ []) (huse : d.vcUse x.desc.ctx p (pktVc h) = .pixel) : d.takeSeg p h data = d.pixelSeg p i x h data := by
  have hdesc : d.slotDesc p x = x.desc := by simp [Dev.slotDesc, hsegs]
  simp only [Dev.takeSeg]
  rw [hi]
  simp only [hx, hdesc, huse]

/-- Where no port has been donated, a segment in order is taken and not forwarded. -/
theorem Dev.lineSeg_taken (d : Dev) {l : Nat} {pkt : List Byte} (hstep : 3 ≤ (d.lane l).step) (htype : pktType pkt = 0x10)
    (hform : pktFormOk pkt = true) (hcrc : pktCrcOk pkt = true)
    (hown : (d.takeSeg (l / 2) (slice pkt 0 16) (pktPayload pkt)).rdF a_RDG_XFWD f_RDG_XFWD_DONATED = 0) :
    d.lineSeg l pkt = d.takeSeg (l / 2) (slice pkt 0 16) (pktPayload pkt) := by
  have hup : ¬ (d.lane l).step < 3 := by omega
  simp [Dev.lineSeg, hup, htype, hform, hcrc, hown]

/-! ### Capability (R140, R153) -/

/-- Registers of one kind written one after the other hold what was written to each. -/
theorem Dev.rd_iter_wr (a : Nat → Nat) (v : Nat → W64) (ha : ∀ i j, a i = a j → i = j) (d : Dev) {i n : Nat} (hi : i < n) :
    (iter n (fun k d => d.wr (a k) (v k)) d).rd (a i) = v i := by
  induction n with
  | zero => omega
  | succ n ih =>
    rw [iter, List.range_succ, List.foldl_append, List.foldl_cons, List.foldl_nil]
    by_cases h : i = n
    · rw [h]
      exact Dev.rd_wr_self _ _ _
    · rw [Dev.rd_wr_ne _ _ fun he => h (ha _ _ he)]
      exact ih (by omega)

/-- What a valid CAP leaves before its GRANT is built: its payload in CAP, and the port has been granted. -/
def Dev.capStored (d : Dev) (p : Nat) (c : List Byte) : Dev :=
  let d := iter 8 (fun i d => d.wr (a_TPT_CAP p i) (BitVec.ofNat 64 (leAt c (8 * i) 8))) d
  d.setPort p { d.port p with granted := true }

/-- The epoch that a GRANT shows is the port's, whose exposure time is the camera's nearest. -/
def Dev.epochShown (d : Dev) (p : Nat) (pay : List Byte) : Dev :=
  let (e, clamped) := d.expoClamped d.inForce p
  let d := d.noteClamp p clamped
  let d := if (d.port p).epochs.isEmpty then d.setPort p { d.port p with epochs := [(0, 0, e)] } else d
  d.wrF (a_TPT_EPOCH p) f_TPT_EPOCH_EPOCH (leAt pay 6 2)

/-- A CAP in order is kept and answered. -/
theorem Dev.cap_valid (d : Dev) {l : Nat} {pkt : List Byte} (hstep : (d.lane l).step = 4) (htype : pktType pkt = 0x20)
    (hform : pktFormOk pkt = true) (hcrc : pktCrcOk pkt = true) (hreqs : (d.port (l / 2)).reqs = [])
    (hlink : d.rdF (a_TPT_LINK (l / 2)) f_TPT_LINK_CAP_ERR = 0) (hvalid : d.capErr (l / 2) (pktPayload pkt) = 0) :
    let k := d.capStored (l / 2) (pktPayload pkt)
    let pay := k.grantPayload (l / 2)
    d.cap l pkt = (k.epochShown (l / 2) pay).camRequest (l / 2) l 4 (fun tag => packet 4 0 (zeros 6 ++ leBytes 2 tag.toNat) pay) none := by
  intro k pay
  unfold Dev.cap
  extract_lets p c e kept granted pay'
  have hbox : (d.port p).reqs = [] := hreqs
  have hbad : e = 0 := hvalid
  rw [if_neg (by simp [hstep]), if_neg (by simp [htype, hform]), if_neg (by simp [hcrc, hbox, p, hlink]), if_neg (by simp [hbad])]
  rfl

@[simp] theorem Dev.noteClamp_ports (d : Dev) (p : Nat) (c : Bool) : (d.noteClamp p c).ports = d.ports := by cases c <;> rfl

section
variable (d : Dev) (p : Nat) (c : List Byte)

theorem Dev.capStored_leaves : (d.capStored p c).lanes = d.lanes ∧ (d.capStored p c).clk = d.clk ∧ (d.capStored p c).out = d.out :=
  ⟨iter_leaves (π := Dev.lanes) (fun _ _ => rfl) 8 d, iter_leaves (π := Dev.clk) (fun _ _ => rfl) 8 d,
    iter_leaves (π := Dev.out) (fun _ _ => rfl) 8 d⟩

theorem Dev.capStored_port {β : Type} (f : PortSt → β) (hf : ∀ x : PortSt, f { x with granted := true } = f x) :
    f ((d.capStored p c).port p) = f (d.port p) := by
  unfold Dev.capStored
  extract_lets e
  have hports : e.port p = d.port p := congrArg (lget · p _) (iter_leaves (π := Dev.ports) (fun _ _ => rfl) 8 d)
  rw [← hports]
  exact e.port_setPort_part p f (hf _)

theorem Dev.capStored_cap (i : Fin 8) : (d.capStored p c).rd (a_TPT_CAP p i) = BitVec.ofNat 64 (leAt c (8 * i) 8) :=
  Dev.rd_iter_wr (a_TPT_CAP p) _ (fun i j h => by unfold a_TPT_CAP at h; omega) d i.isLt

/-- Showing the epoch leaves what is sent and what the port has to ask for as they are. -/
theorem Dev.epochShown_leaves : (d.epochShown p c).lanes = d.lanes ∧ (d.epochShown p c).clk = d.clk ∧ (d.epochShown p c).out = d.out ∧
    ((d.epochShown p c).port p).reqs = (d.port p).reqs ∧ ((d.epochShown p c).port p).nextTag = (d.port p).nextTag ∧
    ∀ b, b ≠ a_TPT_EPOCH p → (d.epochShown p c).rd b = d.rd b := by
  have hclamp (x : Bool) : ∀ b, b ≠ a_TPT_EPOCH p → (d.noteClamp p x).rd b = d.rd b := by
    intro b hb
    cases x with
    | true => exact Dev.rd_flag_ne _ _ _ hb
    | false => rfl
  have hsame (x : Bool) : (d.noteClamp p x).lanes = d.lanes ∧ (d.noteClamp p x).clk = d.clk ∧ (d.noteClamp p x).out = d.out := by
    cases x <;> exact ⟨rfl, rfl, rfl⟩
  have hport (x : Bool) : (d.noteClamp p x).port p = d.port p := congrArg (lget · p _) (d.noteClamp_ports p x)
  unfold Dev.epochShown
  split
  next e x _ =>
  obtain ⟨hlanes, hclk, hout⟩ := hsame x
  dsimp only
  split
  · refine ⟨hlanes, hclk, hout, ?_, ?_, fun b hb => (Dev.rd_wrF_ne _ _ _ hb).trans (hclamp x b hb)⟩
    · exact ((d.noteClamp p x).port_setPort_part p (x := { (d.noteClamp p x).port p with epochs := [(0, 0, e)] }) PortSt.reqs rfl).trans
        (congrArg PortSt.reqs (hport x))
    · exact ((d.noteClamp p x).port_setPort_part p (x := { (d.noteClamp p x).port p with epochs := [(0, 0, e)] }) PortSt.nextTag rfl).trans
        (congrArg PortSt.nextTag (hport x))
  · exact ⟨hlanes, hclk, hout, congrArg PortSt.reqs (hport x), congrArg PortSt.nextTag (hport x),
      fun b hb => (Dev.rd_wrF_ne _ _ _ hb).trans (hclamp x b hb)⟩

/-- A request of a port that waits for no answer goes out at once, with the port's next TAG. -/
theorem Dev.camRequest_sends (l typ : Nat) (mk : BitVec 16 → List Byte) (cmd : Option Nat) (h : (d.port p).reqs = []) :
    ∃ t, (d.camRequest p l typ mk cmd).out = (d.sendAligns l).out ++ [.tether (l / 2) (l % 2) t (mk (d.port p).nextTag)] := by
  simp only [Dev.camRequest, Dev.toCamera, h, List.length_nil, show (0 : Nat) < 16 by decide, if_true, Dev.laneSend_out]
  exact ⟨_, congrArg (· ++ _) (Dev.sendAligns_out_congr l rfl rfl rfl)⟩

theorem Dev.camRequest_rd (l typ : Nat) (mk : BitVec 16 → List Byte) (cmd : Option Nat) (b : Nat) :
    (d.camRequest p l typ mk cmd).rd b = d.rd b := by
  obtain ⟨ls, out, h⟩ := d.camRequest_eq p l typ mk cmd
  rw [h]
  rfl

end

theorem cap_ne_epoch (p i : Nat) (hi : i < 8) : a_TPT_CAP p i ≠ a_TPT_EPOCH p := by
  unfold a_TPT_CAP a_TPT_EPOCH
  omega

/-! ### Requests answered (R151) -/

/-- A request done is seen in the port's requests, the lanes and outside alone. -/
theorem Dev.camDone_eq (d : Dev) (p : Nat) (tag : BitVec 16) : ∃ reqs ls out,
    d.camDone p tag = { d with ports := lset d.ports p { d.port p with reqs := reqs }, lanes := ls, out := out } ∧ ∀ q ∈ reqs, q.tag ≠ tag := by
  have hrest : ∀ q ∈ (d.port p).reqs.filter (fun r => r.tag ≠ tag), q.tag ≠ tag := fun q hq => by simpa using (List.mem_filter.mp hq).2
  simp only [Dev.camDone, Dev.toCamera]
  split
  next r hr =>
    have hmem : r ∈ (d.port p).reqs.filter (fun r => r.tag ≠ tag) := by
      split at hr
      · exact List.mem_of_getElem? hr
      · cases hr
    obtain ⟨ls, out, h⟩ := Dev.laneSend_eq (d.setPort p { d.port p with
      reqs := ((d.port p).reqs.filter (fun r => r.tag ≠ tag)).set 15 { r with sentAt := d.refNs } }) r.lane r.packet
    refine ⟨_, ls, out, h, fun q hq => ?_⟩
    rcases List.mem_or_eq_of_mem_set hq with hq | rfl
    · exact hrest q hq
    · exact hrest r hmem
  next => exact ⟨_, d.lanes, d.out, rfl, hrest⟩

/-- No request of the tag is left. -/
theorem Dev.reqs_of_ports {d e : Dev} {p : Nat} {reqs : List CamReq} {tag : BitVec 16}
    (he : e.ports = lset d.ports p { d.port p with reqs := reqs }) (h : ∀ q ∈ reqs, q.tag ≠ tag) : ∀ q ∈ (e.port p).reqs, q.tag ≠ tag := by
  rw [Dev.port, he]
  by_cases hp : p < d.ports.length
  · rw [lget_lset_self _ _ _ hp]
    exact h
  · rw [lget_of_length_le _ (by simpa [lset] using hp)]
    simp [PortSt.reset]

/-- The ACK that a GRANT or SET waits for. -/
def CamReq.ackedBy (pkt : List Byte) (r : CamReq) : Bool := r.tag = pktTag pkt && (r.typ = 4 || r.typ = 1) && r.typ = leAt pkt 13 1

/-- The register response that a request waits for. -/
def CamReq.readBy (pkt : List Byte) (r : CamReq) : Bool := r.tag = pktTag pkt && (r.typ = 2 || r.typ = 3) && slice r.packet 4 6 = slice pkt 4 6

/-- The ACK of a SET in order shows the line that it took effect on. -/
theorem Dev.ack_set (d : Dev) {l : Nat} {pkt : List Byte} {r : CamReq} (hstep : 3 ≤ (d.lane l).step) (htype : pktType pkt = 0x23)
    (hform : pktFormOk pkt = true) (hcrc : pktCrcOk pkt = true) (hset : r.typ = 1) (hlate : pktStatus pkt ≠ 4)
    (hr : ((d.port (l / 2)).reqs.take 16).find? (CamReq.ackedBy pkt) = some r) :
    d.ack l pkt = (d.camDone (l / 2) r.tag).wrF (a_TPT_EPOCH (l / 2)) f_TPT_EPOCH_APPLIED_LINE (leAt pkt 4 4) := by
  have hup : ¬ (d.lane l).step < 3 := by omega
  unfold CamReq.ackedBy at hr
  simp [Dev.ack, hup, htype, hform, hcrc, hr, hset, hlate]

/-- A REG_RSP in order to a command's request ends the command. -/
theorem Dev.regRsp_finishes (d : Dev) {l : Nat} {pkt : List Byte} {r : CamReq} {id : Nat} (hstep : 3 ≤ (d.lane l).step)
    (htype : pktType pkt = 0x21) (hform : pktFormOk pkt = true) (hcrc : pktCrcOk pkt = true) (hcmd : r.cmd = some id)
    (hlen : pktLen pkt = (if r.typ = 3 then 4 * leAt pkt 8 2 else 0))
    (hr : ((d.port (l / 2)).reqs.take 16).find? (CamReq.readBy pkt) = some r) :
    ∃ status body, d.regRsp l pkt = (d.camDone (l / 2) r.tag).finish id status noLine body := by
  have hup : ¬ (d.lane l).step < 3 := by omega
  unfold CamReq.readBy at hr
  simp only [Dev.regRsp, hup, htype, hform, hcrc, hr, hcmd, if_neg (not_not.mpr hlen)]
  exact ⟨_, _, rfl⟩

/-- One of another length is counted and ends nothing. -/
theorem Dev.regRsp_malformed (d : Dev) {l : Nat} {pkt : List Byte} {r : CamReq} (hstep : 3 ≤ (d.lane l).step)
    (htype : pktType pkt = 0x21) (hform : pktFormOk pkt = true) (hcrc : pktCrcOk pkt = true)
    (hlen : pktLen pkt ≠ (if r.typ = 3 then 4 * leAt pkt 8 2 else 0))
    (hr : ((d.port (l / 2)).reqs.take 16).find? (CamReq.readBy pkt) = some r) :
    d.regRsp l pkt = d.inc (a_TPT_STAT2 (l / 2)) f_TPT_STAT2_MALFORMED := by
  have hup : ¬ (d.lane l).step < 3 := by omega
  unfold CamReq.readBy at hr
  simp only [Dev.regRsp, hup, htype, hform, hcrc, hr, if_pos hlen]
  rfl

theorem Dev.respond_ports (d : Dev) (opcode : Nat) (h : EnvHdr) (status : Nat) (interim : Bool) (line : W64) (body : List Byte) :
    (d.respond opcode h status interim line body).ports = d.ports :=
  (d.rests_respond (fun _ => True) trivial opcode h status interim line body).ports

theorem Dev.answer_ports (d : Dev) (id : Nat) (cmd : Cmd) (h : EnvHdr) (status : Nat) (line : W64) (body : List Byte) :
    (d.answer id cmd h status line body).ports = d.ports := by
  unfold Dev.answer
  split
  · rfl
  · exact d.respond_ports ..

theorem Dev.answer_pending (d : Dev) (id : Nat) (cmd : Cmd) (h : EnvHdr) (status : Nat) (line : W64) (body : List Byte) :
    (d.answer id cmd h status line body).keel.pending = d.keel.pending := by
  rw [Dev.keel_answer]
  rfl

/-- A final response leaves ports and pending commands as they are, whether it goes out or waits for the partner's (R336, R342). -/
theorem Dev.finalResp_leaves (d : Dev) (id : Nat) (cmd : Cmd) (h : EnvHdr) (status : Nat) (line : W64) (body : List Byte) :
    (d.finalResp id cmd h status line body).ports = d.ports ∧ (d.finalResp id cmd h status line body).keel.pending = d.keel.pending := by
  unfold Dev.finalResp
  split
  · exact ⟨d.answer_ports .., d.answer_pending ..⟩
  · split
    · exact ⟨Dev.answer_ports .., Dev.answer_pending ..⟩
    · exact ⟨rfl, rfl⟩

/-- A command ended is pending no more. -/
theorem Dev.finish_leaves (d : Dev) (id status : Nat) (line : W64) (body : List Byte) :
    (d.finish id status line body).ports = d.ports ∧
      (d.finish id status line body).keel.pending = d.keel.pending.filter (fun q => q.id ≠ id) := by
  unfold Dev.finish
  split
  next hnone =>
    have hall : d.keel.pending.filter (fun q => q.id ≠ id) = d.keel.pending :=
      List.filter_eq_self.mpr fun q hq => by simpa using List.find?_eq_none.mp hnone q hq
    exact ⟨rfl, hall.symm⟩
  next => exact Dev.finalResp_leaves ..

/-! ### Events of cameras (R152) -/

/-- The acknowledgement of an event is one block. -/
theorem length_ackPacket (n : Nat) : ceilDiv (packet 5 0 (zeros 6 ++ leBytes 2 n ++ [0, 0x22]) []).length 32 = 1 := by
  have h (c : Nat) : (padMul (([BitVec.ofNat 8 5, BitVec.ofNat 8 0] ++ leBytes 2 0 ++ padTo (zeros 6 ++ leBytes 2 n ++ [0, 0x22]) 12 ++ []) ++
      leBytes 4 c) 32).length = 32 := rfl
  exact congrArg (ceilDiv · 32) (h _)

/-- An event not seen before is noted, stamped, raised and delivered. -/
def Dev.deliverEvent (d : Dev) (p : Nat) (pkt : List Byte) : Dev :=
  let d := d.setPort p { d.port p with evTags := (pktTag pkt :: (d.port p).evTags).take 16 }
  let (st, d) := d.mkStamp (24 + p) d.now
  let d := d.raiseEvt (144 + p)
  d.toRing (.whole (d.inF (a_TPT_VC_ROUTE p) f_TPT_VC_ROUTE_META_RING) 9 (st.bytes ++ slice pkt 0 16 ++ pktPayload pkt))

@[simp] theorem Dev.raiseEvt_out (d : Dev) (p : Nat) : (d.raiseEvt p).out = d.out := by
  obtain ⟨v, h⟩ := d.raiseEvt_eq p
  rw [h]

@[simp] theorem Dev.raiseEvt_host (d : Dev) (p : Nat) : (d.raiseEvt p).host = d.host := by
  obtain ⟨v, h⟩ := d.raiseEvt_eq p
  rw [h]

/-- The delivery is an item of the metadata ring and shows nothing outside. -/
theorem Dev.deliverEvent_item (d : Dev) (p : Nat) (pkt : List Byte) : (d.deliverEvent p pkt).out = d.out ∧
    ∃ body, (d.deliverEvent p pkt).host.queue = d.host.queue ++
      [.whole (d.inF (a_TPT_VC_ROUTE p) f_TPT_VC_ROUTE_META_RING) 9 (body ++ slice pkt 0 16 ++ pktPayload pkt)] := by
  refine ⟨by simp [Dev.deliverEvent, Dev.setPort],
    ((d.setPort p { d.port p with evTags := (pktTag pkt :: (d.port p).evTags).take 16 }).mkStamp (24 + p) d.now).1.bytes, ?_⟩
  simp only [Dev.deliverEvent, Dev.toRing_host, Dev.raiseEvt_host, Dev.inF, Dev.raiseEvt_inForce]
  rfl

theorem Dev.camEvent_eq (d : Dev) {l : Nat} {pkt : List Byte} (hstep : 3 ≤ (d.lane l).step) (htype : pktType pkt = 0x22)
    (hform : pktFormOk pkt = true) (hcrc : pktCrcOk pkt = true) :
    d.camEvent l pkt =
      let e := d.laneSend l (packet 5 0 (zeros 6 ++ leBytes 2 (pktTag pkt).toNat ++ [0, 0x22]) [])
      if pktTag pkt ∈ (d.port (l / 2)).evTags then e else e.deliverEvent (l / 2) pkt := by
  have hup : ¬ (d.lane l).step < 3 := by omega
  simp only [Dev.camEvent, Dev.deliverEvent, hup, htype, hform, hcrc, Dev.toCamera, List.contains_iff_mem, if_false]
  rfl

/-! ### Delays (R144) -/

theorem clampI_le (x lo hi : Int) (h : lo ≤ hi) : lo ≤ clampI x lo hi ∧ clampI x lo hi ≤ hi := by
  unfold clampI
  split <;> [skip; split] <;> omega

@[simp] theorem Dev.showLink_lanes (d : Dev) (p : Nat) : (d.showLink p).lanes = d.lanes := by
  unfold Dev.showLink
  extract_lets a l0 l1 d1 d2 d3
  split <;> rfl

/-- A round trip of an ACTIVE lane joins its trips and moves the delay. -/
theorem Dev.echoRsp_active (d : Dev) {l : Nat} {blk : List Byte} (rtt : Nat) (hstep : (d.lane l).step = 6) (htype : leAt blk 0 1 = 0x67)
    (hcrc : crc32c (slice blk 0 28) = leAt blk 28 4) (htag : BitVec.ofNat 16 (leAt blk 1 2) ∈ (d.lane l).echoes) :
    ∃ m count echoes, (d.echoRsp l blk rtt).lanes = lset d.lanes l { d.lane l with
      dly := (d.lane l).dly + clampI m (-50) 50
      trips := (((rtt : Int) - 125 * (leAt blk 3 4 : Nat)) :: (d.lane l).trips).take 64
      count := count, echoes := echoes } := by
  simp [Dev.echoRsp, hstep, htype, hcrc, htag, Dev.setLane]
  exact ⟨_, _, _, rfl⟩

/-- Work that goes through the lanes one by one, each step at its own lane alone, does to each lane what its step does. -/
theorem iter_lane {f : Nat → Dev → Dev} {P : Nat → LaneSt → LaneSt → Prop} (d : Dev)
    (hne : ∀ i e k, k ≠ i → (f i e).lane k = e.lane k)
    (hself : ∀ i e, e.clk = d.clk → e.regs = d.regs → (f i e).clk = d.clk ∧ (f i e).regs = d.regs ∧ P i (e.lane i) ((f i e).lane i))
    (n : Nat) :
    (iter n f d).clk = d.clk ∧ (iter n f d).regs = d.regs ∧ (∀ l, l < n → P l (d.lane l) ((iter n f d).lane l)) ∧
      ∀ l, n ≤ l → (iter n f d).lane l = d.lane l := by
  induction n with
  | zero => exact ⟨rfl, rfl, fun l hl => by omega, fun l _ => rfl⟩
  | succ n ih =>
    obtain ⟨hclk, hregs, hdone, htodo⟩ := ih
    have hstep : iter (n + 1) f d = f n (iter n f d) := by simp [iter, List.range_succ]
    obtain ⟨hclk', hregs', hn⟩ := hself n _ hclk hregs
    rw [hstep]
    refine ⟨hclk', hregs', fun l hl => ?_, fun l hl => (hne n _ l (by omega)).trans (htodo l (by omega))⟩
    by_cases h : l = n
    · rw [h, ← htodo n le_rfl]
      exact hn
    · rw [hne n _ l h]
      exact hdone l (by omega)

/-- One more ECHO_REQ of a lane. -/
theorem Dev.sendEcho_lane (d : Dev) (l : Nat) : (d.sendEcho l).clk = d.clk ∧ (d.sendEcho l).regs = d.regs ∧
    (∀ k, k ≠ l → (d.sendEcho l).lane k = d.lane k) ∧
    (l < d.lanes.length → ((d.sendEcho l).lane l).step = (d.lane l).step ∧ ((d.sendEcho l).lane l).echoAt = (d.lane l).echoAt) := by
  unfold Dev.sendEcho
  extract_lets p x e1 e2
  obtain ⟨n, a, t, h⟩ := e2.laneSend_sends l (echoReq p.echoTag)
  refine ⟨by rw [h]; rfl, by rw [h]; rfl, fun k hk => ?_, fun hl => ?_⟩
  · exact (Dev.lane_ne_of_lanes (congrArg Dev.lanes h) hk).trans (e1.lane_setLane_ne l _ hk)
  · have hself : e2.lane l = _ := e1.lane_setLane_self l _ hl
    rw [Dev.lane_eq_of_lanes (congrArg Dev.lanes h) ((e1.setLane_length l _).symm ▸ hl : l < e2.lanes.length), hself]
    exact ⟨rfl, rfl⟩

/-- An ACTIVE lane whose last exchange began 100 ms ago begins another. -/
def Dev.echoDue (l : Nat) (d : Dev) : Dev :=
  let x := d.lane l
  if x.step = 6 && decide (x.echoAt + 100000000 ≤ d.refNs) then (d.setLane l { x with echoAt := d.refNs }).sendEcho l else d

/-- What such an exchange at an instant leaves of a lane. -/
def EchoedAt (now : Nat) (_ : Nat) (x y : LaneSt) : Prop :=
  (if x.step = 6 ∧ x.echoAt + 100000000 ≤ now then y.echoAt = now else y = x) ∧ y.step = x.step

theorem Dev.echoDue_ne (l : Nat) (d : Dev) (k : Nat) (hk : k ≠ l) : (Dev.echoDue l d).lane k = d.lane k := by
  unfold Dev.echoDue
  extract_lets x
  split
  · exact ((Dev.sendEcho_lane _ l).2.2.1 k hk).trans (d.lane_setLane_ne l _ hk)
  · rfl

theorem Dev.echoDue_self {d e : Dev} {l : Nat} (hclk : e.clk = d.clk) (hregs : e.regs = d.regs) :
    (Dev.echoDue l e).clk = d.clk ∧ (Dev.echoDue l e).regs = d.regs ∧ EchoedAt d.refNs l (e.lane l) ((Dev.echoDue l e).lane l) := by
  have hnow : e.refNs = d.refNs := congrArg Clock.cyc hclk
  unfold Dev.echoDue EchoedAt
  extract_lets x
  rw [hnow]
  by_cases h : x.step = 6 ∧ x.echoAt + 100000000 ≤ d.refNs
  · have hl : l < e.lanes.length := Dev.lt_lanes_of_step (by rw [h.1]; decide)
    obtain ⟨hclk', hregs', -, hself⟩ := (e.setLane l { x with echoAt := d.refNs }).sendEcho_lane l
    obtain ⟨hstep, hecho⟩ := hself (by rw [Dev.setLane_length]; exact hl)
    rw [Dev.lane_setLane_self _ _ _ hl] at hstep hecho
    rw [if_pos (by simpa using h), if_pos h]
    exact ⟨hclk'.trans hclk, hregs'.trans hregs, hecho, hstep⟩
  · rw [if_neg (by simpa using h), if_neg h]
    exact ⟨hclk, hregs, rfl, rfl⟩

/-! ### Requests not answered (R151) -/

theorem Dev.requestTimeout_resends (d : Dev) {p i : Nat} {r : CamReq}
    (hi : ((d.port p).reqs.take 16).findIdx? (fun r => r.sentAt + 1000000 ≤ d.refNs) = some i) (hr : (d.port p).reqs[i]? = some r)
    (hleft : r.resends < 2) : ∃ x, d.requestTimeout p =
      ((d.setPort p x).inc (a_TPT_STAT2 p) f_TPT_STAT2_REQ_RETRY).laneSend r.lane r.packet := by
  simp only [Dev.requestTimeout, hi, hr, if_pos hleft]
  exact ⟨_, rfl⟩

theorem Dev.requestTimeout_fails (d : Dev) {p i : Nat} {r : CamReq}
    (hi : ((d.port p).reqs.take 16).findIdx? (fun r => r.sentAt + 1000000 ≤ d.refNs) = some i) (hr : (d.port p).reqs[i]? = some r)
    (hout : 2 ≤ r.resends) (hcmd : r.cmd = none) : d.requestTimeout p = (d.camDone p r.tag).reportErr 0x18 (24 + p) p := by
  simp only [Dev.requestTimeout, hi, hr, if_neg (Nat.not_lt.mpr hout), hcmd]

/-! ### Line slots that close (R155) -/

@[simp] theorem Dev.toPipe_ports (d : Dev) (n : Nat) (s : Slot) (short : Bool) : (d.toPipe n s short).ports = d.ports := by
  unfold Dev.toPipe
  split
  · split <;> rfl
  · rfl

@[simp] theorem Dev.toPipe_rd (d : Dev) (n : Nat) (s : Slot) (short : Bool) (b : Nat) : (d.toPipe n s short).rd b = d.rd b := by
  unfold Dev.toPipe
  split
  · split <;> rfl
  · rfl

/-- What a slot that closes counts on its port. -/
def Dev.slotCounted (d : Dev) (p : Nat) (s : Slot) (short : Bool) : Dev :=
  let d := if s.segs.isEmpty then d.inc (a_TPT_STAT1 p) f_TPT_STAT1_MISSING else d
  let d := if short then d.inc (a_TPT_STAT0 p) f_TPT_STAT0_SHORT_LINE else d
  if s.long then d.inc (a_TPT_STAT0 p) f_TPT_STAT0_LONG_LINE else d

theorem stat1_ne_stat0 (p : Nat) : a_TPT_STAT1 p ≠ a_TPT_STAT0 p := by
  unfold a_TPT_STAT1 a_TPT_STAT0
  omega

/-- Only a line of which nothing came is counted as missing. -/
theorem Dev.slotCounted_missing (d : Dev) (p : Nat) (s : Slot) (short : Bool) : (d.slotCounted p s short).ports = d.ports ∧
    (d.slotCounted p s short).rdF (a_TPT_STAT1 p) f_TPT_STAT1_MISSING =
      (if s.segs = [] then min (d.rdF (a_TPT_STAT1 p) f_TPT_STAT1_MISSING + 1) 65535 else d.rdF (a_TPT_STAT1 p) f_TPT_STAT1_MISSING) := by
  have hother (e : Dev) (c : Bool) (f : Fld) : (if c then e.inc (a_TPT_STAT0 p) f else e).ports = e.ports ∧
      (if c then e.inc (a_TPT_STAT0 p) f else e).rdF (a_TPT_STAT1 p) f_TPT_STAT1_MISSING = e.rdF (a_TPT_STAT1 p) f_TPT_STAT1_MISSING := by
    cases c with
    | true => exact ⟨rfl, Dev.rdF_inc_ne _ _ _ _ (stat1_ne_stat0 p)⟩
    | false => exact ⟨rfl, rfl⟩
  unfold Dev.slotCounted
  extract_lets e1 e2
  obtain ⟨hports, hlong⟩ := hother e2 s.long f_TPT_STAT0_LONG_LINE
  obtain ⟨hports', hshort⟩ := hother e1 short f_TPT_STAT0_SHORT_LINE
  rw [hports, hlong, hports', hshort]
  by_cases hs : s.segs = []
  · have he1 : e1 = d.inc (a_TPT_STAT1 p) f_TPT_STAT1_MISSING := if_pos (by simp [hs])
    rw [he1, if_pos hs]
    exact ⟨rfl, Dev.rdF_inc_self _ _ _ _ (by decide)⟩
  · have he1 : e1 = d := if_neg (by simp [hs])
    rw [he1, if_neg hs]
    exact ⟨rfl, rfl⟩

/-- The slot leaves its port, whatever the pipelines and the host take of it. -/
theorem Dev.closeSlot_leaves (d : Dev) (p : Nat) (s : Slot) (rest : List Slot) :
    (d.closeSlot p s rest).ports = lset d.ports p { d.port p with slots := rest, closedTo := some (max s.desc.line ((d.port p).closedTo.getD 0)) } ∧
    (d.closeSlot p s rest).rdF (a_TPT_STAT1 p) f_TPT_STAT1_MISSING =
      (if s.segs = [] then min (d.rdF (a_TPT_STAT1 p) f_TPT_STAT1_MISSING + 1) 65535 else d.rdF (a_TPT_STAT1 p) f_TPT_STAT1_MISSING) := by
  have hring (e : Dev) (x : RingItem) (c : Bool) (b : Nat) :
      (if c then e else e.toRing x).ports = e.ports ∧ (if c then e else e.toRing x).rd b = e.rd b := by
    cases c <;> exact ⟨rfl, rfl⟩
  unfold Dev.closeSlot
  extract_lets c size missing short d1 d2 d3 y d4 d5 ring x
  obtain ⟨hports, hcount⟩ := d.slotCounted_missing p s short
  have hd3 : d3 = d.slotCounted p s short := rfl
  have hport3 : d3.port p = d.port p := congrArg (lget · p _) (hd3 ▸ hports)
  have hpipe : d5.ports = d4.ports := foldl_leaves (π := Dev.ports) (fun _ _ => Dev.toPipe_ports ..) _ _
  constructor
  · refine (foldl_leaves (π := Dev.ports) (fun e vc => (hring e _ _ 0).1) _ _).trans ?_
    rw [hpipe]
    show lset d3.ports p { d3.port p with slots := rest, closedTo := some (max s.desc.line ((d3.port p).closedTo.getD 0)) } = _
    rw [hport3, hd3, hports]
  · refine Eq.trans (congrArg (fget · _) ?_) hcount
    exact (foldl_leaves (π := (·.rd (a_TPT_STAT1 p))) (fun e vc => (hring e _ _ _).2) _ _).trans
      (foldl_leaves (π := (·.rd (a_TPT_STAT1 p))) (fun _ _ => Dev.toPipe_rd ..) _ _)

/-! ### The statement -/

/-- Settles O47: each packet in order is written out as what it leaves of lane, port and registers and what goes out for it. -/
theorem cameraPackets : Obligations.CameraPackets := by
  intro s dt
  refine ⟨?lineSeg, ?cap, ?answers, ?camEvent, ?echoRsp, ?echoPeriodic, ?timeout, ?close⟩
  case lineSeg =>
    intro l pkt hstep htype hform
    constructor
    · intro hcrc
      exact makes_of_after_eq rfl ((s.dev.elapse dt).lineSeg_crc hstep htype hform hcrc) ⟨rfl, Dev.rdF_inc_self _ _ _ _ (by decide)⟩
    · intro i x hcrc hown hi hx hsegs huse hdt hfit hnew
      have hp : l.val / 2 < s.dev.ports.length := Dev.lt_ports_of_ne_reset fun h => by simp [h, PortSt.reset] at hx
      have htake := ((s.dev.elapse dt).takeSeg_pixel (pktPayload pkt) hi hx hsegs huse).trans
        ((s.dev.elapse dt).pixelSeg_joins hsegs hdt hfit hnew)
      have hline := (s.dev.elapse dt).lineSeg_taken hstep htype hform hcrc (by rw [htake]; exact hown)
      refine makes_of_after_eq rfl (hline.trans htake) ⟨?_, rfl⟩
      have hi' : i < (s.dev.port (l / 2)).slots.length := (List.getElem?_eq_some_iff.mp hx).1
      rw [Dev.port_setPort_self (s.dev.elapse dt) _ _ hp]
      show Option.map _ (((s.dev.port (l / 2)).slots.set i _)[i]?) = _
      rw [List.getElem?_set_self hi']
      rfl
  case cap =>
    intro l pkt hstep htype hform hcrc hreqs hlink hvalid
    have hcap := (s.dev.elapse dt).cap_valid hstep htype hform hcrc hreqs hlink hvalid
    extract_lets k pay at hcap
    obtain ⟨hlanes, hclk, hout⟩ := (s.dev.elapse dt).capStored_leaves (l / 2) (pktPayload pkt)
    obtain ⟨hlanes', hclk', hout', hreqs', htag', hrd'⟩ := k.epochShown_leaves (l / 2) pay
    have hnone : ((k.epochShown (l / 2) pay).port (l / 2)).reqs = [] :=
      hreqs'.trans (((s.dev.elapse dt).capStored_port _ _ PortSt.reqs fun _ => rfl).trans hreqs)
    have htag : ((k.epochShown (l / 2) pay).port (l / 2)).nextTag = (s.dev.port (l / 2)).nextTag :=
      htag'.trans ((s.dev.elapse dt).capStored_port _ _ PortSt.nextTag fun _ => rfl)
    obtain ⟨t, hsend⟩ := (k.epochShown (l / 2) pay).camRequest_sends (l / 2) l 4
      (fun tag => packet 4 0 (zeros 6 ++ leBytes 2 tag.toNat) pay) none hnone
    refine makes_of_after_eq rfl hcap ⟨fun i => ?_, pay, t, ?_⟩
    · rw [Dev.camRequest_rd, hrd' _ (cap_ne_epoch _ _ i.isLt)]
      exact Dev.capStored_cap _ _ _ i
    · rw [hsend, htag, Dev.sendAligns_out_congr l (hlanes'.trans hlanes) (hclk'.trans hclk) (hout'.trans hout)]
  case answers =>
    intro l pkt r hstep hform hcrc
    obtain ⟨reqs, ls, out, hdone, hreqs⟩ := (s.dev.elapse dt).camDone_eq (l / 2) r.tag
    refine ⟨?ack, ?finish, ?malformed⟩
    case ack =>
      intro htype hset hlate hr
      refine makes_of_after_eq rfl ((s.dev.elapse dt).ack_set hstep htype hform hcrc hset hlate hr) ⟨?_, ?_, fun b hb => ?_⟩
      · rw [Dev.rdF_wrF_self _ _ _ _ (by decide)]
        exact Nat.mod_eq_of_lt (leAt_lt pkt 4 4)
      · exact Dev.reqs_of_ports (d := s.dev) (congrArg Dev.ports hdone) hreqs
      · rw [Dev.rd_wrF_ne _ _ _ hb, hdone]
        rfl
    case finish =>
      intro id htype hcmd hlen hr
      obtain ⟨status, body, hrsp⟩ := (s.dev.elapse dt).regRsp_finishes hstep htype hform hcrc hcmd hlen hr
      obtain ⟨hports, hpending⟩ := ((s.dev.elapse dt).camDone (l / 2) r.tag).finish_leaves id status noLine body
      refine makes_of_after_eq rfl hrsp ⟨?_, ?_⟩
      · exact Dev.reqs_of_ports (d := s.dev) (hports.trans (congrArg Dev.ports hdone)) hreqs
      · rw [hpending, hdone]
        rfl
    case malformed =>
      intro htype hlen hr
      exact makes_of_after_eq rfl ((s.dev.elapse dt).regRsp_malformed hstep htype hform hcrc hlen hr)
        ⟨rfl, rfl, Dev.rdF_inc_self _ _ _ _ (by decide)⟩
  case camEvent =>
    intro l pkt hstep htype hform hcrc
    have hevent := (s.dev.elapse dt).camEvent_eq hstep htype hform hcrc
    extract_lets e at hevent
    obtain ⟨hout, body, hqueue⟩ := e.deliverEvent_item (l / 2) pkt
    have hsent := (s.dev.elapse dt).laneSend_out l (packet 5 0 (zeros 6 ++ leBytes 2 (pktTag pkt).toNat ++ [0, 0x22]) [])
    rw [length_ackPacket] at hsent
    refine makes_of_after_eq rfl hevent ?_
    by_cases hseen : pktTag pkt ∈ (s.dev.port (l / 2)).evTags
    · rw [if_pos hseen, if_pos (show pktTag pkt ∈ ((s.dev.elapse dt).port (l / 2)).evTags from hseen)]
      exact ⟨hsent, Dev.laneSend_host _ _ _, Dev.laneSend_ports _ _ _⟩
    · rw [if_neg hseen, if_neg (show ¬ pktTag pkt ∈ ((s.dev.elapse dt).port (l / 2)).evTags from hseen)]
      refine ⟨hout.trans hsent, body, hqueue.trans ?_⟩
      simp only [e, Dev.laneSend_host, Dev.inF, Dev.laneSend_inForce]
      rfl
  case echoRsp =>
    intro l blk rtt hstep htype hcrc htag
    have hl : l.val < s.dev.lanes.length := Dev.lt_lanes_of_step (by omega)
    obtain ⟨m, count, echoes, hlanes⟩ := (s.dev.elapse dt).echoRsp_active rtt hstep htype hcrc htag
    obtain ⟨hlow, hhigh⟩ := clampI_le m (-50) 50 (by decide)
    refine makes_of_after rfl ?_
    rw [Dev.lane_eq_of_lanes (d := s.dev) hlanes hl]
    refine ⟨?_, ?_, rfl, hstep, fun k hk => Dev.lane_ne_of_lanes (d := s.dev) hlanes hk⟩
    · show (s.dev.lane l).dly + _ ≤ _
      omega
    · show _ ≤ (s.dev.lane l).dly + _ + 50
      omega
  case echoPeriodic =>
    obtain ⟨-, hregs, hlane, -⟩ := iter_lane (P := EchoedAt (s.dev.elapse dt).refNs) (s.dev.elapse dt) Dev.echoDue_ne
      (fun i e hclk hregs => Dev.echoDue_self hclk hregs) 32
    refine makes_of_after rfl ⟨hregs, fun l => ?_⟩
    obtain ⟨hecho, hstep⟩ := hlane l l.isLt
    exact ⟨hecho, hstep⟩
  case timeout =>
    intro p i r hi hr
    constructor
    · intro hleft
      obtain ⟨x, hresend⟩ := (s.dev.elapse dt).requestTimeout_resends hi hr hleft
      refine makes_of_after_eq rfl hresend ⟨?_, ?_, ?_⟩
      · refine ⟨((s.dev.lane r.lane).slots (max (1000 * (s.dev.elapse dt).refNs) (s.dev.lane r.lane).txEnd) (ceilDiv r.packet.length 32)).1, ?_⟩
        rw [Dev.laneSend_out]
        exact congrArg (· ++ _) (Dev.sendAligns_out_congr r.lane rfl rfl rfl)
      · rw [Dev.rdF, Dev.laneSend_rd]
        exact Dev.rdF_inc_self _ _ _ _ (by decide)
      · rw [Dev.laneSend_mrg]
        rfl
    · intro hout hcmd hplain
      obtain ⟨reqs, ls, out, hdone, hreqs⟩ := (s.dev.elapse dt).camDone_eq p r.tag
      have hplain' : ((s.dev.elapse dt).camDone p r.tag).plainErr 0x18 = true := by rw [hdone]; exact hplain
      refine makes_of_after_eq rfl ((s.dev.elapse dt).requestTimeout_fails hi hr hout hcmd) ⟨?_, ?_⟩
      · rw [Dev.reportErr_of_plain _ _ _ _ hplain' (by decide)]
        exact Dev.reqs_of_ports (d := s.dev) (congrArg Dev.ports hdone) hreqs
      · rw [(Dev.reportErr_leaves _ _ hplain' (by decide)).2.2, hdone]
        rfl
  case close =>
    intro p i x hi hx
    have hp : p.val < s.dev.ports.length := Dev.lt_ports_of_ne_reset fun h => by simp [h, PortSt.reset] at hx
    obtain ⟨hports, hmissing⟩ := (s.dev.elapse dt).closeSlot_leaves p x ((s.dev.port p).slots.eraseIdx i)
    have hport := (congrArg (lget · p.val PortSt.reset) hports).trans (lget_lset_self (s.dev.elapse dt).ports _ _ hp)
    refine makes_of_after_eq (d := (s.dev.elapse dt).closeSlot p x ((s.dev.port p).slots.eraseIdx i)) rfl ?_ ⟨?_, ?_, hmissing⟩
    · simp only [show ((s.dev.elapse dt).port p).slots.findIdx? (fun x => x.closeAt ≤ (s.dev.elapse dt).refNs) = some i from hi,
        show ((s.dev.elapse dt).port p).slots[i]? = some x from hx]
      rfl
    · exact congrArg PortSt.slots hport
    · exact congrArg PortSt.closedTo hport

end Sys2Proof.Machine
end

section
/-! What responses, the end of an acquisition, SAFE_HOLD and reports leave alone of a lane: the lane itself and what is counted for it (R154, R429). -/

namespace Sys2Proof.Machine

/-! ### Lanes that work elsewhere leaves alone -/

/-- Lane l and its counters are as they were. -/
structure Dev.LaneStays (l : Fin 52) (d e : Dev) : Prop where
  lane : e.lane l = d.lane l
  count : e.rd (lnCnt l) = d.rd (lnCnt l)

/-- LN_CNT of a lane is not a register outside the lane quads. -/
theorem lnCnt_ne (l : Fin 52) {a : Nat} (h : a < 0x400000 ∨ 0x4d0000 ≤ a) : lnCnt l ≠ a := by
  have hl := l.isLt
  unfold lnCnt a_LQ_LN_CNT
  omega

section
variable {l : Fin 52} (d : Dev)

theorem Dev.LaneStays.refl : d.LaneStays l d := ⟨rfl, rfl⟩

variable {d} in
theorem Dev.LaneStays.trans {e f : Dev} (h : d.LaneStays l e) (k : e.LaneStays l f) : d.LaneStays l f :=
  ⟨k.lane.trans h.lane, k.count.trans h.count⟩

/-- A change elsewhere in the block. -/
theorem Dev.LaneStays.of_same {d e : Dev} (hlanes : e.lanes = d.lanes) (hregs : e.regs = d.regs) (hnv : e.nv = d.nv) : d.LaneStays l e :=
  ⟨by rw [Dev.lane, hlanes, Dev.lane], Dev.rd_congr hregs hnv _⟩

theorem Dev.LaneStays.foldl {α : Type} {f : Dev → α → Dev} (h : ∀ (d : Dev) x, d.LaneStays l (f d x)) (xs : List α) (d : Dev) :
    d.LaneStays l (xs.foldl f d) :=
  List.foldlRecOn xs f (motive := fun e => d.LaneStays l e) (.refl d) (fun e he x _ => he.trans (h e x))

theorem Dev.LaneStays.iter {n : Nat} {f : Nat → Dev → Dev} (h : ∀ i, i < n → ∀ d : Dev, d.LaneStays l (f i d)) (d : Dev) :
    d.LaneStays l (Sys2Proof.Machine.iter n f d) :=
  List.foldlRecOn (List.range n) _ (motive := fun e => d.LaneStays l e) (.refl d) (fun e he i hi => he.trans (h i (List.mem_range.mp hi) e))

/-- A register written that is not the lane's count. -/
theorem Dev.laneStays_wr {a : Nat} (v : W64) (h : lnCnt l ≠ a) : d.LaneStays l (d.wr a v) := ⟨rfl, d.rd_wr_ne v h⟩

theorem Dev.laneStays_wrF {a : Nat} (f : Fld) (n : Nat) (h : lnCnt l ≠ a) : d.LaneStays l (d.wrF a f n) := d.laneStays_wr _ h

theorem Dev.laneStays_wrB {a : Nat} (f : Fld) (b : Bool) (h : lnCnt l ≠ a) : d.LaneStays l (d.wrB a f b) := d.laneStays_wr _ h

theorem Dev.laneStays_inc {a : Nat} (f : Fld) (n : Nat) (h : lnCnt l ≠ a) : d.LaneStays l (d.inc a f n) := ⟨rfl, d.rd_inc_ne f n h⟩

theorem Dev.laneStays_flag {a : Nat} (f : Fld) (n : Nat) (h : lnCnt l ≠ a) : d.LaneStays l (d.flag a f n) := ⟨rfl, d.rd_flag_ne f n h⟩

theorem Dev.laneStays_wrForce {a : Nat} (f : Fld) (n : Nat) (h : lnCnt l ≠ a) : d.LaneStays l (d.wrForce a f n) := ⟨rfl, d.rd_wr_ne _ h⟩

theorem Dev.laneStays_emit (x : Out) : d.LaneStays l (d.emit x) := ⟨rfl, rfl⟩

theorem lnCnt_ne_pipeRole (l : Fin 52) (n : Nat) : lnCnt l ≠ a_PIPE_ROLE n := by
  unfold lnCnt a_LQ_LN_CNT a_PIPE_ROLE
  omega

/-! ### Responses and ends of commands -/

theorem Dev.laneStays_ridge (typ : Nat) (body : List Byte) : d.LaneStays l (d.ridge typ body) := by
  have h := d.rests_ridge (fun _ => False) typ body
  exact ⟨by rw [Dev.lane, h.lanes, Dev.lane], h.rd _ id⟩

theorem Dev.laneStays_answer (id : Nat) (cmd : Cmd) (h : EnvHdr) (status : Nat) (line : W64) (body : List Byte) :
    d.LaneStays l (d.answer id cmd h status line body) := by
  have hrsp := d.rests_respond (fun a => a = a_MBX_STAT) rfl cmd.opcode h status false line body
  unfold Dev.answer
  split
  · exact .of_same rfl rfl rfl
  · exact ⟨congrArg (lget · l.val _) hrsp.lanes, hrsp.rd _ (lnCnt_ne l (.inl (by unfold a_MBX_STAT; omega)))⟩

theorem Dev.laneStays_finalResp (id : Nat) (cmd : Cmd) (h : EnvHdr) (status : Nat) (line : W64) (body : List Byte) :
    d.LaneStays l (d.finalResp id cmd h status line body) := by
  unfold Dev.finalResp
  split
  · exact d.laneStays_answer ..
  · split
    · refine .trans ?_ (Dev.laneStays_answer ..)
      exact .of_same rfl rfl rfl
    · exact .of_same rfl rfl rfl

theorem Dev.laneStays_finish (id status : Nat) (line : W64) (body : List Byte) : d.LaneStays l (d.finish id status line body) := by
  unfold Dev.finish
  split
  · exact .refl d
  · refine .trans ?_ (Dev.laneStays_finalResp ..)
    exact .of_same rfl rfl rfl

theorem Dev.laneStays_loadProfile (m : Nat) : d.LaneStays l (d.loadProfile m) := by
  unfold Dev.loadProfile
  split
  · refine .trans ?_ (.iter (fun c hc d => d.laneStays_wr _ (lnCnt_ne l (.inl (by unfold a_BAL_ACTIVE; omega)))) _)
    exact .of_same rfl rfl rfl
  · exact .of_same rfl rfl rfl

theorem Dev.laneStays_endService (id status : Nat) (line : W64) (body : List Byte) : d.LaneStays l (d.endService id status line body) := by
  unfold Dev.endService
  refine .trans ?_ (Dev.laneStays_finish ..)
  split
  · refine .trans ?_ (Dev.laneStays_loadProfile _ _)
    exact .of_same rfl rfl rfl
  · exact .refl d

/-! ### Pins -/

theorem Dev.laneStays_mkoPinsSafe : d.LaneStays l d.mkoPinsSafe := by
  unfold Dev.mkoPinsSafe
  refine .trans ?_ (.iter (fun _ _ d => d.laneStays_emit _) _)
  exact .of_same rfl rfl rfl

theorem Dev.laneStays_wpuPinsSafe : d.LaneStays l d.wpuPinsSafe := by
  unfold Dev.wpuPinsSafe
  refine .trans (.trans ?_ (Dev.laneStays_mkoPinsSafe _)) (.iter (fun _ _ d => d.laneStays_emit _) _)
  exact .of_same rfl rfl rfl

theorem Dev.laneStays_evioPinsSafe : d.LaneStays l d.evioPinsSafe := by
  unfold Dev.evioPinsSafe
  refine .trans ?_ (.iter (fun n _ d => ?_) _)
  · exact .of_same rfl rfl rfl
  · split
    · exact d.laneStays_emit _
    · exact .refl d

theorem Dev.laneStays_outputsIdle : d.LaneStays l d.outputsIdle := by
  unfold Dev.outputsIdle
  refine .trans (.trans (.iter (fun n _ d => ?_) _) (.iter (fun n _ d => ?_) _)) (.iter (fun n _ d => ?_) _)
  · split
    · exact .refl d
    · exact d.laneStays_emit _
  · split
    · split
      · exact .refl d
      · exact d.laneStays_emit _
    · exact .refl d
  · extract_lets busy high
    split
    · exact d.laneStays_emit _
    · exact .refl d

theorem Dev.laneStays_alertFrom (was : Bool) : d.LaneStays l (d.alertFrom was) := by
  unfold Dev.alertFrom
  split
  · exact .refl d
  · exact d.laneStays_emit _

/-! ### The end of an acquisition -/

theorem Dev.laneStays_hbmPut (a : Nat) (bs : List Byte) : d.LaneStays l (d.hbmPut a bs) := by
  unfold Dev.hbmPut
  split
  · exact .of_same rfl rfl rfl
  · exact .refl d

theorem Dev.laneStays_setEngine (e : Nat) (x : EngSt) (state : Nat) : d.LaneStays l (d.setEngine e x state) := by
  have haddr : lnCnt l ≠ a_THA_ENG_STAT e := lnCnt_ne l (.inr (by unfold a_THA_ENG_STAT; omega))
  unfold Dev.setEngine
  refine .trans (.trans (.trans (.trans ?_ (Dev.laneStays_wrF _ _ _ haddr)) (Dev.laneStays_wrF _ _ _ haddr)) (Dev.laneStays_wrB _ _ _ haddr))
    (Dev.laneStays_wrF _ _ _ haddr)
  exact .of_same rfl rfl rfl

theorem Dev.laneStays_freeOwn (c : Nat) : d.LaneStays l (d.freeOwn c) := by
  refine .iter (fun e _ d => ?_) _
  split
  · split
    · exact d.laneStays_setEngine ..
    · exact .refl d
  · exact .refl d

theorem Dev.laneStays_noteShort (c : Nat) : d.LaneStays l (d.noteShort c) := by
  unfold Dev.noteShort
  split
  · exact .refl d
  · exact .of_same rfl rfl rfl

theorem Dev.laneStays_engWrote (e : Nat) (j : ThaJob) (x y : EngSt) (w : List Byte) (cycles : Nat) :
    d.LaneStays l (d.engWrote e j x y w cycles) := by
  have haddr : lnCnt l ≠ a_THA_ENG_CNT e := lnCnt_ne l (.inr (by unfold a_THA_ENG_CNT; omega))
  unfold Dev.engWrote
  refine .trans (.trans ?_ (Dev.laneStays_inc _ _ _ haddr)) (Dev.laneStays_inc _ _ _ haddr)
  split
  · exact .of_same rfl rfl rfl
  · refine .trans ?_ (Dev.laneStays_hbmPut ..)
    exact .of_same rfl rfl rfl

theorem Dev.laneStays_engRun (e : Nat) : d.LaneStays l (d.engRun e) := by
  unfold Dev.engRun
  extract_lets x
  split
  · exact .refl d
  · extract_lets c n
    split
    · split
      · exact .trans (d.laneStays_noteShort _) (Dev.laneStays_setEngine ..)
      · split
        · exact d.laneStays_setEngine ..
        · exact d.laneStays_setEngine ..
    · split
      extract_lets short e
      refine .trans ?_ (Dev.laneStays_setEngine ..)
      split
      · exact .trans (d.laneStays_engWrote ..) (Dev.laneStays_noteShort ..)
      · exact d.laneStays_engWrote ..

theorem Dev.laneStays_jobDone (e : Nat) : d.LaneStays l (d.jobDone e).1 := by
  unfold Dev.jobDone
  extract_lets x
  split
  · exact .refl d
  · split
    · exact .refl d
    · split
      split
      · exact .trans (d.laneStays_engWrote ..) (Dev.laneStays_setEngine ..)
      · extract_lets r
        split
        exact .trans (.trans (d.laneStays_engWrote ..) (Dev.laneStays_setEngine ..)) (Dev.laneStays_emit ..)

theorem Dev.laneStays_engineStops : d.LaneStays l d.engineStops := by
  unfold Dev.engineStops
  refine .iter (fun e _ d => ?_) _
  split
  · exact .refl d
  · split
    · exact .refl d
    · extract_lets d' x
      refine (d.laneStays_engRun e).trans ?_
      split
      · exact .refl _
      · exact .trans (Dev.laneStays_setEngine ..) (Dev.laneStays_jobDone ..)

theorem Dev.laneStays_growObject (content obj : Nat) (bs : List Byte) (complete trunc : Bool) :
    d.LaneStays l (d.growObject content obj bs complete trunc) := .of_same rfl rfl rfl

theorem Dev.laneStays_growObject_rec (r : RecSt) (content obj : Nat) (bs : List Byte) (complete trunc : Bool) :
    d.LaneStays l (({ d with cls := { d.cls with rec_ := r } } : Dev).growObject content obj bs complete trunc) := by
  refine .trans ?_ (Dev.laneStays_growObject ..)
  exact .of_same rfl rfl rfl

theorem Dev.laneStays_stagePut (bs : List Byte) (complete trunc : Bool) : d.LaneStays l (d.stagePut bs complete trunc) :=
  .trans (.trans (d.laneStays_hbmPut _ _) (Dev.laneStays_hbmPut _ _ _)) (Dev.laneStays_growObject_rec _ _ _ _ _ _ _)

theorem Dev.laneStays_closeSegment (trunc : Bool) : d.LaneStays l (d.closeSegment trunc) := by
  unfold Dev.closeSegment
  split
  · exact .refl d
  · refine .trans (.trans ?_ (Dev.laneStays_freeOwn ..)) (Dev.laneStays_stagePut ..)
    exact .of_same rfl rfl rfl

theorem Dev.laneStays_stopJobs : d.LaneStays l d.stopJobs := by
  unfold Dev.stopJobs
  refine .trans (.trans ?_ (Dev.laneStays_closeSegment ..)) (Dev.laneStays_engineStops _)
  exact .of_same rfl rfl rfl

theorem Dev.laneStays_captureAbort : d.LaneStays l d.captureAbort := by
  have haddr : lnCnt l ≠ a_SEG_REP_CAPTURE := lnCnt_ne l (.inl (by unfold a_SEG_REP_CAPTURE; omega))
  unfold Dev.captureAbort
  split
  · refine .trans (.trans ?_ (Dev.laneStays_wrF _ _ _ haddr)) (Dev.laneStays_wrB _ _ _ haddr)
    exact .of_same rfl rfl rfl
  · exact .refl d

theorem Dev.laneStays_acqStops : d.LaneStays l d.acqStops := by
  unfold Dev.acqStops
  refine .trans (.trans (.trans ?_ (Dev.laneStays_stopJobs _)) (Dev.laneStays_captureAbort _)) (.iter (fun n _ d => ?_) _)
  · exact .of_same rfl rfl rfl
  · split
    · exact d.laneStays_wrForce _ _ (lnCnt_ne_pipeRole l n)
    · exact .refl d

theorem Dev.laneStays_closeAfterLast (bit : Nat) : d.LaneStays l (d.closeAfterLast bit) := by
  unfold Dev.closeAfterLast
  split
  · exact .of_same rfl rfl rfl
  · exact .refl d

/-! ### The pair -/

theorem Dev.laneStays_cancelWaiting (m : Fin 16) : d.LaneStays l (d.cancelWaiting m) := by
  unfold Dev.cancelWaiting
  refine .trans ?_ (.foldl (fun d _ => d.laneStays_answer ..) _ _)
  exact .of_same rfl rfl rfl

theorem Dev.laneStays_fwdAlone : d.LaneStays l d.fwdAlone := by
  unfold Dev.fwdAlone
  refine .trans ?_ (.foldl (fun d f => ?_) _ _)
  · exact .of_same rfl rfl rfl
  · split
    · exact d.laneStays_answer ..
    · exact .refl d

theorem Dev.laneStays_pairClosed : d.LaneStays l d.pairClosed := by
  unfold Dev.pairClosed
  extract_lets d1 d2
  have h1 : d.LaneStays l d1 := by
    unfold d1
    split
    · exact d.laneStays_wrB _ _ (lnCnt_ne l (.inl (by unfold a_MBX_CFG; omega)))
    · exact .refl d
  have h2 : d1.LaneStays l d2 := by
    unfold d2
    split
    · exact .of_same rfl rfl rfl
    · exact .refl d1
  refine .trans (.trans ?_ (Dev.laneStays_cancelWaiting ..)) (Dev.laneStays_fwdAlone _)
  exact (h1.trans h2).trans (.of_same rfl rfl rfl)

theorem Dev.laneStays_cancelOwned : d.LaneStays l d.cancelOwned := by
  unfold Dev.cancelOwned
  extract_lets gone k d1 d2 cmds m c p d3
  have h1 : d.LaneStays l d1 := .of_same rfl rfl rfl
  have h2 : d1.LaneStays l d2 := by
    refine .foldl (fun d f => ?_) _ _
    split
    · exact d.laneStays_answer ..
    · exact .refl d
  have h3 : d2.LaneStays l d3 := .of_same rfl rfl rfl
  exact ((h1.trans h2).trans h3).trans (.foldl (fun d p => d.laneStays_endService ..) _ _)

theorem Dev.laneStays_leavePair : d.LaneStays l d.leavePair := by
  have hstat : lnCnt l ≠ a_RDG_STAT := lnCnt_ne l (.inr (by unfold a_RDG_STAT; omega))
  have hofs : lnCnt l ≠ a_RDG_POS_OFS := lnCnt_ne l (.inr (by unfold a_RDG_POS_OFS; omega))
  unfold Dev.leavePair
  split
  · exact .refl d
  · extract_lets ofs d1 hand d2 p d3 d4
    have h1 : d.LaneStays l d1 := by
      unfold d1
      split
      · exact .refl d
      · exact d.laneStays_cancelOwned
    have h2 : d1.LaneStays l d2 :=
      .trans (.trans (.trans (d1.laneStays_wrB _ _ hstat) (Dev.laneStays_wrB _ _ _ hstat)) (Dev.laneStays_wrB _ _ _ hstat))
        (Dev.laneStays_wr _ _ hofs)
    have h3 : d2.LaneStays l d3 := .of_same rfl rfl rfl
    have h4 : d3.LaneStays l d4 := by
      unfold d4
      clear_value hand
      split
      · exact d3.laneStays_finish ..
      · exact .refl d3
    exact .trans (.trans (((h1.trans h2).trans h3).trans h4) (Dev.laneStays_pairClosed _)) (Dev.laneStays_outputsIdle _)

/-! ### SAFE_HOLD and reports -/

theorem Dev.laneStays_dropService : d.LaneStays l d.dropService := by
  unfold Dev.dropService
  extract_lets sp d0 d1 keep
  have h1 : d.LaneStays l d1 := by
    unfold d1
    split
    · exact .refl d
    · split
      · exact .of_same rfl rfl rfl
      · refine .trans ?_ (Dev.laneStays_wrForce _ _ _ (lnCnt_ne_pipeRole l _))
        exact .of_same rfl rfl rfl
  exact h1.trans (.of_same rfl rfl rfl)

theorem Dev.laneStays_abortService : d.LaneStays l d.abortService := by
  unfold Dev.abortService
  split
  · exact .refl d
  · refine .trans (.trans ?_ (Dev.laneStays_dropService _)) (Dev.laneStays_finish ..)
    exact .of_same rfl rfl rfl

theorem Dev.laneStays_cancelMode : d.LaneStays l d.cancelMode := by
  unfold Dev.cancelMode
  split
  · exact .refl d
  · extract_lets m d1
    have h1 : d.LaneStays l d1 := .of_same rfl rfl rfl
    split
    · exact h1
    · exact h1.trans (Dev.laneStays_finish ..)

theorem Dev.laneStays_enterSafe (cause : Nat) : d.LaneStays l (d.enterSafe cause) := by
  unfold Dev.enterSafe
  extract_lets m was d1 d2 d3 m3 d4 d5 d6
  have h1 : d.LaneStays l d1 := d.laneStays_wpuPinsSafe.trans (Dev.laneStays_evioPinsSafe _)
  have h3 : d1.LaneStays l d3 := .trans (Dev.laneStays_cancelMode _) (Dev.laneStays_abortService _)
  have h4 : d3.LaneStays l d4 := by
    unfold d4
    clear_value d3
    refine .trans ?_ (Dev.laneStays_alertFrom ..)
    exact .of_same rfl rfl rfl
  have h5 : d4.LaneStays l d5 := by
    unfold d5
    split
    · exact .trans d4.laneStays_acqStops (Dev.laneStays_closeAfterLast ..)
    · exact .refl d4
  have h6 := ((h1.trans h3).trans (h4.trans h5)).trans (d5.laneStays_loadProfile 7)
  split
  · exact .of_same rfl rfl rfl
  · split
    · exact h1
    · split
      · exact h6.trans (Dev.laneStays_ridge ..)
      · exact h6

/-- A report, whatever it entails, leaves the lanes and what is counted for them alone. -/
theorem Dev.laneStays_reportErr (code origin info : Nat) : d.LaneStays l (d.reportErr code origin info) := by
  unfold Dev.reportErr Dev.reportAs
  extract_lets m own mapSafe mapRst fatal rst safe
  split
  next st d1 hstamp =>
  extract_lets entry err d2 d3 err' d4
  have hstat : lnCnt l ≠ a_ERR_STAT := lnCnt_ne l (.inl (by unfold a_ERR_STAT; omega))
  have h1 : d.LaneStays l d1 := by
    have hd1 : d1 = (d.mkStamp origin d.now).2 := congrArg Prod.snd hstamp.symm
    rw [hd1]
    exact .of_same rfl rfl rfl
  have h2 : d1.LaneStays l d2 := by
    unfold d2
    split
    · refine .trans ?_ (Dev.laneStays_flag _ _ _ hstat)
      exact .of_same rfl rfl rfl
    · exact .refl d1
  have h3 : d2.LaneStays l d3 := by
    unfold d3
    split
    · exact .trans (d2.laneStays_emit _) (Dev.laneStays_leavePair _)
    · exact .refl d2
  have h4 : d3.LaneStays l d4 := by
    unfold d4
    split
    · exact .of_same rfl rfl rfl
    · split
      · exact d3.laneStays_enterSafe 2
      · exact .refl d3
  exact ((h1.trans h2).trans (h3.trans h4)).trans (.of_same rfl rfl rfl)

end

end Sys2Proof.Machine
end

section
/-! A lane that moves from one step of its bring-up to another, and one that is restarted (R153, R154, R423 to R429, R434). -/

namespace Sys2Proof.Machine

/-! ### Work on one lane -/

/-- Work on lane l outside stage 5: of the lanes it alone changes, of the registers its LN_STAT and the LINK of its port. -/
structure Dev.OnLane (l : Nat) (d e : Dev) : Prop where
  rest : ∃ ls rs out fs ps, e = { d with lanes := ls, regs := rs, out := out, force := fs, ports := ps }
  lanes : ∀ k, k ≠ l → e.lane k = d.lane k
  length : e.lanes.length = d.lanes.length
  rd : ∀ a, a ≠ lnStat l → a ≠ a_TPT_LINK (l / 2) → e.rd a = d.rd a

theorem lnCnt_ne_lnStat (l k : Nat) : lnCnt l ≠ lnStat k := by
  unfold lnCnt a_LQ_LN_CNT lnStat a_LQ_LN_STAT
  omega

theorem lnCnt_ne_link (l p : Nat) : lnCnt l ≠ a_TPT_LINK p := by
  unfold lnCnt a_LQ_LN_CNT a_TPT_LINK
  omega

theorem lnStat_ne_link (l p : Nat) : lnStat l ≠ a_TPT_LINK p := by
  unfold lnStat a_LQ_LN_STAT a_TPT_LINK
  omega

section
variable {l : Nat} (d : Dev)

theorem Dev.OnLane.refl : d.OnLane l d := ⟨⟨_, _, _, _, _, rfl⟩, fun _ _ => rfl, rfl, fun _ _ _ => rfl⟩

variable {d} in
theorem Dev.OnLane.trans {e f : Dev} (h : d.OnLane l e) (k : e.OnLane l f) : d.OnLane l f := by
  obtain ⟨ls, rs, out, fs, ps, he⟩ := h.rest
  obtain ⟨ls', rs', out', fs', ps', hf⟩ := k.rest
  exact ⟨⟨ls', rs', out', fs', ps', by rw [hf, he]⟩, fun j hj => (k.lanes j hj).trans (h.lanes j hj), k.length.trans h.length,
    fun a ha hb => (k.rd a ha hb).trans (h.rd a ha hb)⟩

theorem Dev.onLane_setLane (x : LaneSt) : d.OnLane l (d.setLane l x) :=
  ⟨⟨_, _, _, _, _, rfl⟩, fun _ hk => d.lane_setLane_ne l x hk, d.setLane_length l x, fun _ _ _ => rfl⟩

theorem Dev.onLane_emit (x : Out) : d.OnLane l (d.emit x) := ⟨⟨_, _, _, _, _, rfl⟩, fun _ _ => rfl, rfl, fun _ _ _ => rfl⟩

theorem Dev.onLane_sendAligns : d.OnLane l (d.sendAligns l) := by
  unfold Dev.sendAligns
  extract_lets x n k
  split
  · exact .refl d
  · exact (d.onLane_setLane _).trans (Dev.onLane_emit _ _)

/-- A register written that goes with the lane. -/
theorem Dev.onLane_wr {a : Nat} (v : W64) (h : a = lnStat l ∨ a = a_TPT_LINK (l / 2)) : d.OnLane l (d.wr a v) :=
  ⟨⟨_, _, _, _, _, rfl⟩, fun _ _ => rfl, rfl, fun b hb hb' => d.rd_wr_ne v (by rintro rfl; exact h.elim hb hb')⟩

theorem Dev.onLane_stat (f : Fld) (n : Nat) : d.OnLane l (d.wrF (lnStat l) f n) := d.onLane_wr _ (.inl rfl)

theorem Dev.onLane_statB (f : Fld) (b : Bool) : d.OnLane l (d.wrB (lnStat l) f b) := d.onLane_wr _ (.inl rfl)

theorem Dev.onLane_link (f : Fld) (n : Nat) : d.OnLane l (d.wrF (a_TPT_LINK (l / 2)) f n) := d.onLane_wr _ (.inr rfl)

/-- LINK of a port follows its lanes: of the registers it alone changes. -/
theorem Dev.showLink_eq (p : Nat) : ∃ v, d.showLink p = d.wr (a_TPT_LINK p) v := by
  have hwr (e : Dev) (f : Fld) (n : Nat) (h : ∃ v, e = d.wr (a_TPT_LINK p) v) : ∃ v, e.wrF (a_TPT_LINK p) f n = d.wr (a_TPT_LINK p) v := by
    obtain ⟨v, rfl⟩ := h
    exact ⟨_, d.wr_wr (a_TPT_LINK p) v _⟩
  unfold Dev.showLink
  extract_lets a l0 l1 d1 d2 d3
  have h3 : ∃ v, d3 = d.wr (a_TPT_LINK p) v := hwr _ _ _ (hwr _ _ _ (hwr _ _ _ (hwr _ _ _ ⟨_, rfl⟩)))
  split
  · exact hwr _ _ _ (hwr _ _ _ h3)
  · exact h3

theorem Dev.onLane_showLink : d.OnLane l (d.showLink (l / 2)) := by
  unfold Dev.showLink
  extract_lets a l0 l1 d1 d2 d3
  have h3 : d.OnLane l d3 :=
    .trans (.trans (.trans (d.onLane_link _ _) (Dev.onLane_link _ _ _)) (.trans (Dev.onLane_link _ _ _) (Dev.onLane_link _ _ _)))
      (Dev.onLane_wr _ _ (.inr rfl))
  split
  · exact h3.trans (.trans (Dev.onLane_link _ _ _) (Dev.onLane_link _ _ _))
  · exact h3

theorem Dev.onLane_setTaps (pre post : Nat) : d.OnLane l (d.setTaps l pre post) :=
  .trans (.trans (d.onLane_stat _ _) (Dev.onLane_stat _ _ _)) (Dev.onLane_stat _ _ _)

theorem Dev.onLane_bringFrom (src : RegStore) (e : Eff) (q : Nat → Bool) : d.OnLane l (d.bringFrom src e q) :=
  ⟨⟨_, _, _, _, _, rfl⟩, fun _ _ => rfl, rfl, fun _ _ _ => rfl⟩

theorem Dev.onLane_portConfig (p : Nat) : d.OnLane l (d.portConfig p) := by
  refine .trans (d.onLane_bringFrom d.regs .bringUp (fun a => a = a_TPT_CFG p)) ?_
  unfold Dev.portConfig Dev.bridle
  extract_lets x
  split
  · split
    · exact ⟨⟨_, _, _, _, _, rfl⟩, fun _ _ => rfl, rfl, fun _ _ _ => rfl⟩
    · exact .refl _
  · split
    · exact ⟨⟨_, _, _, _, _, rfl⟩, fun _ _ => rfl, rfl, fun _ _ _ => rfl⟩
    · exact .refl _

end

/-- Work on another lane leaves a lane and its counters alone. -/
theorem Dev.OnLane.stays {l : Fin 52} {k : Nat} {d e : Dev} (h : d.OnLane k e) (hk : l.val ≠ k) : d.LaneStays l e :=
  ⟨h.lanes l hk, h.rd _ (lnCnt_ne_lnStat _ _) (lnCnt_ne_link _ _)⟩

/-! ### A lane at another step -/

/-- A lane at a step from now on; at step 3 its transmitter starts anew (R133). -/
def Dev.laneMoved (d : Dev) (l step : Nat) : Dev :=
  let d := if step < 3 then d.sendAligns l else d
  let x := d.lane l
  let d := d.setLane l { x with step := step, since := d.refNs }
  if x.step < 3 ∧ 3 ≤ step then d.setLane l { d.lane l with txFrom := d.refNs, aligns := 0, txEnd := 0, trigAt := 0 } else d

/-- The registers show the step. -/
def Dev.stageShown (d : Dev) (l step : Nat) : Dev :=
  let d := (d.wrF (lnStat l) f_LQ_LN_STAT_STAGE (stageOf step)).wrB (lnStat l) f_LQ_LN_STAT_CDR_LOCK (3 ≤ step)
  if laneUse l = .tether then d.showLink (l / 2) else d

/-- The lane at another step. -/
def LaneSt.moved (x : LaneSt) (step since txFrom aligns : Nat) (next : BitVec 16) (txEnd trigAt : Nat) : LaneSt :=
  { x with step := step, since := since, txFrom := txFrom, aligns := aligns, alignNext := next, txEnd := txEnd, trigAt := trigAt }

section
variable (d : Dev) (l step : Nat)

theorem Dev.lane_sendAligns : ∃ n a, (d.sendAligns l).lane l = (d.lane l).sent n a (d.lane l).txEnd := by
  obtain ⟨n, a, -, h⟩ := d.sendAligns_eq l
  exact ⟨n, a, h⟩

theorem Dev.onLane_laneMoved : d.OnLane l (d.laneMoved l step) := by
  unfold Dev.laneMoved
  extract_lets d1 x d2
  have h1 : d.OnLane l d1 := by
    unfold d1
    split
    · exact d.onLane_sendAligns
    · exact .refl d
  have h2 : d.OnLane l d2 := h1.trans (d1.onLane_setLane _)
  split
  · exact h2.trans (d2.onLane_setLane _)
  · exact h2

theorem Dev.lane_laneMoved (hl : l < d.lanes.length) :
    ∃ since f n a t g, (d.laneMoved l step).lane l = (d.lane l).moved step since f n a t g := by
  unfold Dev.laneMoved
  extract_lets d1 x d2 y
  have h1 : d.OnLane l d1 ∧ ∃ n a t, x = (d.lane l).sent n a t := by
    unfold x d1
    split
    · obtain ⟨n, a, h⟩ := d.lane_sendAligns l
      exact ⟨d.onLane_sendAligns, n, a, _, h⟩
    · exact ⟨.refl d, _, _, _, rfl⟩
  obtain ⟨hon, n, a, t, hx⟩ := h1
  have hl1 : l < d1.lanes.length := hon.length ▸ hl
  have h2 : d2.lane l = { x with step := step, since := d1.refNs } := d1.lane_setLane_self l _ hl1
  split
  · rw [d2.lane_setLane_self l _ (by rw [Dev.setLane_length]; exact hl1), show y = _ from h2, hx]
    exact ⟨_, _, _, _, _, _, rfl⟩
  · rw [h2, hx]
    exact ⟨_, _, _, _, _, _, rfl⟩

theorem Dev.onLane_stageShown : d.OnLane l (d.stageShown l step) := by
  unfold Dev.stageShown
  extract_lets d1
  have h1 : d.OnLane l d1 := (d.onLane_stat _ _).trans (Dev.onLane_statB _ _ _)
  split
  · exact h1.trans d1.onLane_showLink
  · exact h1

/-- STAGE and CDR_LOCK show the step; the lanes and the other fields of LN_STAT are as they were. -/
theorem Dev.stageShown_shows : (d.stageShown l step).lanes = d.lanes ∧ (d.stageShown l step).force = d.force ∧
    (d.stageShown l step).rd (lnStat l) =
      ((d.wrF (lnStat l) f_LQ_LN_STAT_STAGE (stageOf step)).wrB (lnStat l) f_LQ_LN_STAT_CDR_LOCK (3 ≤ step)).rd (lnStat l) := by
  unfold Dev.stageShown
  extract_lets d1
  split
  · obtain ⟨v, hv⟩ := d1.showLink_eq (l / 2)
    exact ⟨Dev.showLink_lanes _ _, by rw [hv]; rfl, by rw [hv]; exact Dev.rd_wr_ne _ _ (lnStat_ne_link _ _)⟩
  · exact ⟨rfl, rfl, rfl⟩

/-- A lane that moves to a step before stage 5. -/
theorem Dev.laneStep_of_below (hs : step ≠ 6) : d.laneStep l step =
    (if (d.lane l).step = 6 then (d.laneMoved l step).leaveActive l else d.laneMoved l step).stageShown l step := by
  have hwas : ((if step < 3 then d.sendAligns l else d).lane l).step = (d.lane l).step := by
    obtain ⟨n, a, h⟩ := d.lane_sendAligns l
    split
    · rw [h]; rfl
    · rfl
  unfold Dev.laneStep
  extract_lets d1 x d2 back d3 d4 up shown d5 d6 d7 d8
  have h8 : d8 = d7 := if_neg (by simp [hs])
  have h5 : d5 = d4 := if_neg hs
  have h4 : d4 = if (d.lane l).step = 6 then (d.laneMoved l step).leaveActive l else d.laneMoved l step := by
    have hcond : (x.step = 6 ∧ step ≠ 6) = ((d.lane l).step = 6) := by simp [x, d1, hwas, hs]
    simp only [d4, hcond]
    rfl
  rw [if_neg hs, h8, ← h4, ← h5]
  rfl

/-- One that is not in stage 5 goes without a report. -/
theorem Dev.laneStep_of_idle (h : (d.lane l).step ≠ 6) (hs : step ≠ 6) : d.laneStep l step = (d.laneMoved l step).stageShown l step := by
  rw [d.laneStep_of_below l step hs, if_neg h]

theorem Dev.onLane_laneStep (h : (d.lane l).step ≠ 6) (hs : step ≠ 6) : d.OnLane l (d.laneStep l step) := by
  rw [d.laneStep_of_idle l step h hs]
  exact (d.onLane_laneMoved l step).trans (Dev.onLane_stageShown _ l step)

theorem Dev.lane_laneStep (h : (d.lane l).step ≠ 6) (hs : step ≠ 6) (hl : l < d.lanes.length) :
    ∃ since f n a t g, (d.laneStep l step).lane l = (d.lane l).moved step since f n a t g := by
  obtain ⟨hlanes, -, -⟩ := (d.laneMoved l step).stageShown_shows l step
  rw [d.laneStep_of_idle l step h hs, Dev.lane, hlanes]
  exact d.lane_laneMoved l step hl

theorem Dev.laneMoved_eq : ∃ ls out, d.laneMoved l step = { d with lanes := ls, out := out } := by
  have hsend : ∃ ls out, (if step < 3 then d.sendAligns l else d) = { d with lanes := ls, out := out } := by
    obtain ⟨n, a, h, -⟩ := d.sendAligns_eq l
    split
    · exact ⟨_, _, h⟩
    · exact ⟨_, _, rfl⟩
  obtain ⟨ls, out, h⟩ := hsend
  unfold Dev.laneMoved
  rw [h]
  extract_lets e x e2 y
  split <;> exact ⟨_, _, rfl⟩

theorem Dev.laneMoved_rd (b : Nat) : (d.laneMoved l step).rd b = d.rd b := by
  obtain ⟨ls, out, h⟩ := d.laneMoved_eq l step
  rw [h]
  rfl

theorem Dev.laneStep_force (h : (d.lane l).step ≠ 6) (hs : step ≠ 6) : (d.laneStep l step).force = d.force := by
  rw [d.laneStep_of_idle l step h hs, ((d.laneMoved l step).stageShown_shows l step).2.1]
  obtain ⟨ls, out, heq⟩ := d.laneMoved_eq l step
  rw [heq]

theorem stageOf_lt : stageOf step < 8 := by
  unfold stageOf
  split <;> decide

/-- LN_STAT shows a step's stage, and CDR lock from step 3 on; PRE and what else it has are as they were. -/
theorem Dev.stageShown_stat : (d.stageShown l step).rdF (lnStat l) f_LQ_LN_STAT_STAGE = stageOf step ∧
    (d.stageShown l step).rdB (lnStat l) f_LQ_LN_STAT_CDR_LOCK = decide (3 ≤ step) ∧
    (d.stageShown l step).rdF (lnStat l) f_LQ_LN_STAT_PRE = d.rdF (lnStat l) f_LQ_LN_STAT_PRE := by
  obtain ⟨-, -, hrd⟩ := d.stageShown_shows l step
  have hF (f : Fld) := congrArg (fget · f) hrd
  refine ⟨(hF _).trans ?stage, (congrArg (fbit · _) hrd).trans ?lock, (hF _).trans ?pre⟩
  case stage =>
    refine (Dev.rdF_wrF_disjoint _ _ _ (.inl (by decide)) (by decide)).trans ((d.rdF_wrF_self _ _ _ (by decide)).trans ?_)
    exact Nat.mod_eq_of_lt (stageOf_lt step)
  case lock => exact Dev.rdB_wrB_self _ _ _ _ (by decide) (by decide)
  case pre =>
    exact (Dev.rdF_wrF_disjoint _ _ _ (.inr (by decide)) (by decide)).trans (d.rdF_wrF_disjoint _ _ (.inr (by decide)) (by decide))

/-- So a lane's move shows. -/
theorem Dev.laneStep_stat (h : (d.lane l).step ≠ 6) (hs : step ≠ 6) :
    (d.laneStep l step).rdF (lnStat l) f_LQ_LN_STAT_STAGE = stageOf step ∧
      (d.laneStep l step).rdB (lnStat l) f_LQ_LN_STAT_CDR_LOCK = decide (3 ≤ step) ∧
      (d.laneStep l step).rdF (lnStat l) f_LQ_LN_STAT_PRE = d.rdF (lnStat l) f_LQ_LN_STAT_PRE := by
  obtain ⟨hstage, hlock, hpre⟩ := (d.laneMoved l step).stageShown_stat l step
  rw [d.laneStep_of_idle l step h hs]
  refine ⟨hstage, hlock, hpre.trans ?_⟩
  rw [Dev.rdF, d.laneMoved_rd, Dev.rdF]

end

/-! ### Receiver detect (R424) -/

/-- A lane enters receiver detect at a rate; what else it remembers is kept. -/
theorem Dev.detect_lane (d : Dev) (l rate : Nat) (final : Bool) (h : (d.lane l).step ≠ 6) :
    d.OnLane l (d.detect l rate final) ∧ (l < d.lanes.length → ((d.detect l rate final).lane l).step = 1 ∧
      ((d.detect l rate final).lane l).rate = rate ∧ ((d.detect l rate final).lane l).pause = (d.lane l).pause ∧
      ((d.detect l rate final).lane l).returns = (d.lane l).returns) := by
  unfold Dev.detect
  extract_lets d1 d2 x d3 d4 d5 d6 t
  have h1 : d.OnLane l d1 := d.onLane_bringFrom _ _ _
  have hidle : (d1.lane l).step ≠ 6 := h
  have h2 : d1.OnLane l d2 := d1.onLane_laneStep l 1 hidle (by decide)
  have h3 : d2.OnLane l d3 := d2.onLane_setLane _
  have h4 : d3.OnLane l d4 ∧ d4.lanes = d3.lanes := by
    unfold d4
    split
    · exact ⟨.refl d3, rfl⟩
    · exact ⟨d3.onLane_stat _ _, rfl⟩
  have h5 : d4.OnLane l d5 ∧ d5.lanes = d4.lanes := by
    unfold d5
    split
    · exact ⟨d4.onLane_link _ _, rfl⟩
    · exact ⟨.refl d4, rfl⟩
  have h6 : d5.OnLane l d6 ∧ d6.lanes = d5.lanes := by
    unfold d6
    split
    · exact ⟨d5.onLane_link _ _, rfl⟩
    · exact ⟨.refl d5, rfl⟩
  refine ⟨((h1.trans h2).trans (h3.trans h4.1)).trans ((h5.1.trans h6.1).trans (d6.onLane_setTaps _ _)), fun hl => ?_⟩
  have hlanes : (d6.setTaps l t.1 t.2).lanes = d3.lanes := (h6.2.trans h5.2).trans h4.2
  have hl2 : l < d2.lanes.length := by rw [h2.length]; exact hl
  obtain ⟨since, f, n, a, tx, g, hx⟩ := d1.lane_laneStep l 1 hidle (by decide) hl
  have hlane : (d6.setTaps l t.1 t.2).lane l = _ := (congrArg (lget · l _) hlanes).trans (d2.lane_setLane_self l _ hl2)
  rw [hlane]
  exact ⟨congrArg LaneSt.step hx, rfl, (congrArg LaneSt.pause hx :), (congrArg LaneSt.returns hx :)⟩

/-! ### Lanes that are down -/

/-- Lane l is down or in receiver detect, with the pause, the returns and the counts it had. -/
structure Dev.Low (l : Fin 52) (d e : Dev) : Prop where
  step : (e.lane l).step ≤ 1
  pause : (e.lane l).pause = (d.lane l).pause
  returns : (e.lane l).returns = (d.lane l).returns
  count : e.rd (lnCnt l) = d.rd (lnCnt l)

theorem Dev.Low.trans {l : Fin 52} {d e f : Dev} (h : d.Low l e) (k : e.Low l f) : d.Low l f :=
  ⟨k.step, k.pause.trans h.pause, k.returns.trans h.returns, k.count.trans h.count⟩

theorem Dev.LaneStays.low {l : Fin 52} {d e : Dev} (h : d.LaneStays l e) (hd : (d.lane l).step ≤ 1) : d.Low l e :=
  ⟨by rw [h.lane]; exact hd, by rw [h.lane], by rw [h.lane], h.count⟩

/-- Work on the lane leaves it low where the lane, if there is one, is low after it. -/
theorem Dev.OnLane.low {l : Fin 52} {d e : Dev} (h : d.OnLane l e)
    (hlane : l < d.lanes.length → (e.lane l).step ≤ 1 ∧ (e.lane l).pause = (d.lane l).pause ∧ (e.lane l).returns = (d.lane l).returns) :
    d.Low l e := by
  have hcount := h.rd _ (lnCnt_ne_lnStat l l) (lnCnt_ne_link l _)
  by_cases hl : l < d.lanes.length
  · obtain ⟨hstep, hpause, hreturns⟩ := hlane hl
    exact ⟨hstep, hpause, hreturns, hcount⟩
  · have hle := Nat.le_of_not_lt hl
    have hd : d.lane l = .reset := lget_of_length_le _ hle
    have he : e.lane l = .reset := lget_of_length_le _ (by rw [h.length]; exact hle)
    exact ⟨by rw [he]; decide, by rw [he, hd], by rw [he, hd], hcount⟩

theorem Dev.low_laneStep (d : Dev) (l : Fin 52) {step : Nat} (h : (d.lane l).step ≠ 6) (hs : step ≤ 1) : d.Low l (d.laneStep l step) := by
  refine (d.onLane_laneStep l step h (by omega)).low fun hl => ?_
  obtain ⟨since, f, n, a, t, g, hx⟩ := d.lane_laneStep l step h (by omega) hl
  rw [hx]
  exact ⟨hs, rfl, rfl⟩

theorem Dev.low_detect (d : Dev) (l : Fin 52) (rate : Nat) (final : Bool) (h : (d.lane l).step ≠ 6) : d.Low l (d.detect l rate final) := by
  obtain ⟨hon, hlane⟩ := d.detect_lane l rate final h
  refine hon.low fun hl => ?_
  obtain ⟨hstep, -, hpause, hreturns⟩ := hlane hl
  exact ⟨hstep.le, hpause, hreturns⟩

/-! ### Other lanes that leave stage 5 -/

theorem lnCnt_ne_eyeCtrl (l k : Nat) : lnCnt l ≠ eyeCtrl k := by
  unfold lnCnt a_LQ_LN_CNT eyeCtrl a_LQ_EYE_CTRL
  omega

section
variable {l : Fin 52} (d : Dev)

theorem Dev.laneStays_abortEye (k : Nat) : d.LaneStays l (d.abortEye k) := by
  unfold Dev.abortEye
  extract_lets a
  have ha : lnCnt l ≠ a := lnCnt_ne_eyeCtrl l k
  split
  · exact ((d.laneStays_wrB _ _ ha).trans (Dev.laneStays_wrF _ _ _ ha)).trans (Dev.laneStays_flag _ _ _ ha)
  · exact .refl d

theorem Dev.laneStays_portDown (p : Nat) : d.LaneStays l (d.portDown p) := by
  unfold Dev.portDown
  extract_lets reqs x e
  have he : d.LaneStays l e := .of_same rfl rfl rfl
  refine he.trans (.foldl (fun d r => ?_) _ _)
  split
  · exact d.laneStays_finish ..
  · exact .refl d

/-- Leaving stage 5 counts it; what else it entails leaves lanes and counts alone. -/
theorem Dev.laneStays_leaveActive (k : Nat) : (d.inc (lnCnt k) f_LQ_LN_CNT_DOWN_CNT).LaneStays l (d.leaveActive k) := by
  unfold Dev.leaveActive
  extract_lets d1 d2 d3
  have h2 : (d.inc (lnCnt k) f_LQ_LN_CNT_DOWN_CNT).LaneStays l d2 :=
    (Dev.laneStays_abortEye _ k).trans (Dev.laneStays_wrB _ _ _ (lnCnt_ne_lnStat _ _))
  split
  · have h3 : d2.LaneStays l d3 := d2.laneStays_reportErr ..
    split
    · exact h2.trans h3
    · exact (h2.trans h3).trans (d3.laneStays_portDown _)
  · exact h2

/-- Another lane that moves leaves a lane alone. -/
theorem Dev.laneStays_laneStep {k step : Nat} (hk : l.val ≠ k) (hs : step ≠ 6) : d.LaneStays l (d.laneStep k step) := by
  have hmoved : d.LaneStays l (d.laneMoved k step) := (d.onLane_laneMoved k step).stays hk
  have hcnt : lnCnt l ≠ lnCnt k := by
    unfold lnCnt a_LQ_LN_CNT
    omega
  rw [d.laneStep_of_below k step hs]
  refine .trans ?_ ((Dev.onLane_stageShown _ k step).stays hk)
  split
  · exact (hmoved.trans (Dev.laneStays_inc _ _ _ hcnt)).trans (Dev.laneStays_leaveActive _ k)
  · exact hmoved

end

/-! ### Restart (R154, R429) -/

/-- A restart after its lane has gone down: what comes into force, who follows, and receiver detect. -/
def Dev.restartRest (d : Dev) (l rate : Nat) (final : Bool) : Dev :=
  if laneUse l = .tether then
    let p := l / 2
    let same := d.rd (a_TPT_CFG p) = d.inForce (a_TPT_CFG p)
    let kept := d.laneModeKept p
    let d := d.portConfig p
    let d := if kept then d else d.followMode p (1 - l % 2)
    if d.laneInUse p (l % 2) then (if same then d.detect l rate final else d.detect l 0 false) else d
  else if laneUse l = .eth then d.restartEth l
  else if d.laneWanted l then d.detect l rate final
  else d

theorem Dev.restartLane_eq (d : Dev) (l rate : Nat) (final : Bool) : d.restartLane l rate final = (d.laneStep l 0).restartRest l rate final := rfl

theorem Dev.laneStays_portConfig {l : Fin 52} (d : Dev) (p : Nat) : d.LaneStays l (d.portConfig p) :=
  (d.onLane_portConfig (l := l.val + 1) p).stays (by omega)

/-- The other lane of a port follows its mode and leaves this one alone. -/
theorem Dev.laneStays_followMode {l : Fin 52} (d : Dev) : d.LaneStays l (d.followMode (l / 2) (1 - l % 2)) := by
  unfold Dev.followMode
  extract_lets k x
  have hk : l.val ≠ k := by unfold k; omega
  split
  · split
    next h =>
      have hdown : (d.lane k).step = 0 := of_decide_eq_true (Bool.and_eq_true _ _ |>.mp h).1
      have hidle : (d.lane k).step ≠ 6 := by omega
      exact (d.detect_lane k 0 false hidle).1.stays hk
    next => exact .refl d
  · split
    · exact d.laneStays_laneStep hk (by decide)
    · exact .refl d

/-- Where the Ethernet rate changes, the lanes of quad 12 go down with this one. -/
theorem Dev.low_restartEth {l : Fin 52} (d : Dev) (h : (d.lane l).step ≤ 1) : d.Low l (d.restartEth l) := by
  unfold Dev.restartEth
  extract_lets was d1 rst d2 d3
  have h1 : d.Low l d1 := (show d.LaneStays l d1 from .of_same rfl rfl rfl).low h
  have hidle : (d1.lane l).step ≠ 6 := by have := h1.step; omega
  split
  · split
    · exact h1.trans (d1.low_detect l _ _ hidle)
    · exact h1
  · have h3 : d1.Low l d3 := by
      have hstays : d1.LaneStays l d3 := by
        refine .trans ?_ (Dev.laneStays_wrB _ _ _ (by unfold lnCnt a_LQ_LN_CNT a_LQ_QUAD_STAT; omega))
        exact .of_same rfl rfl rfl
      exact hstays.low h1.step
    refine List.foldlRecOn (motive := fun e => d.Low l e) _ _ (h1.trans h3) fun e he k _ => ?_
    by_cases hk : l.val = k
    · have hdown := e.low_laneStep l (step := 0) (by have := he.step; omega) (by omega)
      have hmark : (e.laneStep l 0).Low l ((e.laneStep l 0).setLane l { (e.laneStep l 0).lane l with unlocked := true }) := by
        refine (Dev.onLane_setLane _ _).low fun hl => ?_
        rw [Dev.lane_setLane_self _ _ _ hl]
        exact ⟨hdown.step, rfl, rfl⟩
      rw [← hk]
      exact (he.trans hdown).trans hmark
    · have hstays := (e.laneStays_laneStep hk (step := 0) (by decide)).trans
        ((Dev.onLane_setLane (l := k) (e.laneStep k 0) { (e.laneStep k 0).lane k with unlocked := true }).stays hk)
      exact he.trans (hstays.low he.step)

/-- A lane that is down is down or in receiver detect after the rest of its restart. -/
theorem Dev.low_restartRest {l : Fin 52} (d : Dev) (rate : Nat) (final : Bool) (h : (d.lane l).step ≤ 1) : d.Low l (d.restartRest l rate final) := by
  have hself : d.Low l d := (Dev.LaneStays.refl d).low h
  have hdetect {e : Dev} (he : d.Low l e) (rate : Nat) (final : Bool) : d.Low l (e.detect l rate final) :=
    he.trans (e.low_detect l rate final (by have := he.step; omega))
  unfold Dev.restartRest
  split
  · extract_lets p same kept d1 d2
    have h1 : d.LaneStays l d1 := d.laneStays_portConfig p
    have h2 : d1.LaneStays l d2 := by
      unfold d2
      split
      · exact .refl d1
      · exact d1.laneStays_followMode
    have hlow : d.Low l d2 := (h1.trans h2).low h
    split
    · split
      · exact hdetect hlow _ _
      · exact hdetect hlow _ _
    · exact hlow
  · split
    · exact d.low_restartEth h
    · split
      · exact hdetect hself _ _
      · exact hself

/-- A lane not in stage 5 that is restarted keeps its pause, its returns and its counts. -/
theorem Dev.low_restartLane {l : Fin 52} (d : Dev) (rate : Nat) (final : Bool) (h : (d.lane l).step ≠ 6) : d.Low l (d.restartLane l rate final) := by
  have hdown := d.low_laneStep l (step := 0) h (by omega)
  rw [Dev.restartLane_eq]
  exact hdown.trans (Dev.low_restartRest _ _ _ hdown.step)

/-- A lane in stage 5 that is restarted counts that it has left it. -/
theorem Dev.restartLane_of_active {l : Fin 52} (d : Dev) (rate : Nat) (final : Bool) (h : (d.lane l).step = 6) :
    ((d.restartLane l rate final).lane l).step ≤ 1 ∧
      (d.restartLane l rate final).rd (lnCnt l) = (d.inc (lnCnt l) f_LQ_LN_CNT_DOWN_CNT).rd (lnCnt l) := by
  have hl : l.val < d.lanes.length := Dev.lt_lanes_of_step (by omega)
  obtain ⟨since, f, n, a, t, g, hx⟩ := d.lane_laneMoved l 0 hl
  have hleave := Dev.laneStays_leaveActive (l := l) (d.laneMoved l 0) l
  have hshow := Dev.onLane_stageShown ((d.laneMoved l 0).leaveActive l) l 0
  have hstep : (d.laneStep l 0).lane l = (d.lane l).moved 0 since f n a t g := by
    rw [d.laneStep_of_below l 0 (by decide), if_pos h, Dev.lane, (Dev.stageShown_shows _ l 0).1]
    exact hleave.lane.trans hx
  have hcount : (d.laneStep l 0).rd (lnCnt l) = (d.inc (lnCnt l) f_LQ_LN_CNT_DOWN_CNT).rd (lnCnt l) := by
    rw [d.laneStep_of_below l 0 (by decide), if_pos h, hshow.rd _ (lnCnt_ne_lnStat l l) (lnCnt_ne_link l _), hleave.count,
      Dev.rd_inc_self, Dev.rd_inc_self, d.laneMoved_rd]
  have hrest := (d.laneStep l 0).low_restartRest (l := l) rate final (by rw [hstep]; exact Nat.zero_le 1)
  rw [Dev.restartLane_eq]
  exact ⟨hrest.step, hrest.count.trans hcount⟩

end Sys2Proof.Machine
end

section
/-! The steps of a lane's bring-up and the ways back (R133, R153, R154, R423 to R429). -/

namespace Sys2Proof.Machine

/-! ### Training (R425 to R428) -/

/-- A control word that holds leaves the taps as they are. -/
theorem Dev.obeyControl_hold (d : Dev) (l : Nat) : d.obeyControl l 0 =
    (d.setLane l { d.lane l with preDone := false, preStat := 0, postStat := 0 }).setTaps l (d.rdF (lnStat l) f_LQ_LN_STAT_PRE)
      (d.rdF (lnStat l) f_LQ_LN_STAT_POST) := by
  simp [Dev.obeyControl, tapRequest]

/-- Taps set to what PRE shows leave PRE. -/
theorem Dev.setTaps_pre (d : Dev) (l pre post : Nat) (h : pre < 32) : (d.setTaps l pre post).rdF (lnStat l) f_LQ_LN_STAT_PRE = pre := by
  refine (Dev.rdF_wrF_disjoint _ _ _ (.inr (by decide)) (by decide)).trans ((Dev.rdF_wrF_disjoint _ _ _ (.inl (by decide)) (by decide)).trans ?_)
  exact (d.rdF_wrF_self _ _ _ (by decide)).trans (Nat.mod_eq_of_lt h)

/-- The eighth frame after both sides are ready ends training. -/
theorem Dev.trainingFrame_last (d : Dev) (l : Nat) (f : TrainFrame) (hstep : (d.lane l).step = 2) (hextra : (d.lane l).extra = some 7)
    (hhold : f.control = 0) (hcontrol : f.controlN = ~~~ f.control) (hstatus : f.statusN = ~~~ f.status) :
    ∃ e, d.trainingFrame l f = e.laneStep l 3 ∧ d.OnLane l e ∧ (e.lane l).step = 2 ∧
      e.rdF (lnStat l) f_LQ_LN_STAT_PRE = d.rdF (lnStat l) f_LQ_LN_STAT_PRE := by
  have hl : l < d.lanes.length := Dev.lt_lanes_of_step (by omega)
  unfold Dev.trainingFrame
  rw [if_neg (by simp [hstep]), if_neg (by simp [hcontrol, hstatus])]
  extract_lets d1 d2 x y z d3 st c d4
  have h1 : d.OnLane l d1 ∧ d1.lane l = d.lane l ∧ d1.rdF (lnStat l) f_LQ_LN_STAT_PRE = d.rdF (lnStat l) f_LQ_LN_STAT_PRE := by
    unfold d1
    split
    · exact ⟨d.onLane_statB _ _, rfl, d.rdF_wrF_disjoint _ _ (.inr (by decide)) (by decide)⟩
    · exact ⟨.refl d, rfl, rfl⟩
  obtain ⟨hon1, hlane1, hpre1⟩ := h1
  have hl1 : l < d1.lanes.length := hon1.length ▸ hl
  have h2 : d2 = (d1.wrB (lnStat l) f_LQ_LN_STAT_CDR_LOCK true).obeyControl l 0 := by simp [d2, hhold]
  rw [Dev.obeyControl_hold] at h2
  have hon2 : d1.OnLane l d2 := by
    rw [h2]
    exact ((d1.onLane_statB _ _).trans (Dev.onLane_setLane _ _)).trans (Dev.onLane_setTaps _ _ _)
  have hx : x = { d.lane l with preDone := false, preStat := 0, postStat := 0 } := by
    rw [← hlane1, show x = d2.lane l from rfl, h2]
    exact Dev.lane_setLane_self (d1.wrB (lnStat l) f_LQ_LN_STAT_CDR_LOCK true) l _ hl1
  have hpre2 : d2.rdF (lnStat l) f_LQ_LN_STAT_PRE = d.rdF (lnStat l) f_LQ_LN_STAT_PRE := by
    rw [h2, Dev.setTaps_pre _ _ _ _ (fget_lt _ _), ← hpre1]
    exact d1.rdF_wrF_disjoint _ _ (.inr (by decide)) (by decide)
  have hy : y.extra = some 7 := (congrArg LaneSt.extra hx).trans hextra
  have hz : z.extra = some 8 ∧ z.step = 2 := by
    simp only [z, hy]
    exact ⟨trivial, (congrArg LaneSt.step hx).trans hstep⟩
  have hself : d4.lane l = z := d2.lane_setLane_self l z (hon2.length ▸ hl1)
  rw [if_pos hz.1]
  exact ⟨d4, rfl, ((hon1.trans hon2).trans (d2.onLane_setLane z)).trans (Dev.onLane_emit _ _), by rw [hself]; exact hz.2, hpre2⟩

/-! ### Block lock of an Ethernet lane (R423) -/

theorem Dev.retrainDone_of_idle (d : Dev) (l : Nat) (h : d.keel.pending = []) : d.retrainDone l = d := by
  simp [Dev.retrainDone, Dev.pendingCmd, h]

/-- An Ethernet lane comes up; no LANE_RETRAIN waits for it. -/
theorem Dev.laneStep_up (d : Dev) (l : Nat) (heth : laneUse l = .eth) (hstep : (d.lane l).step = 3) (hidle : d.keel.pending = []) :
    ((d.laneStep l 6).lane l).step = 6 ∧ (d.laneStep l 6).rdF (lnStat l) f_LQ_LN_STAT_STAGE = 5 ∧
      ∀ j, j ≠ l → (d.laneStep l 6).lane j = d.lane j := by
  have hl : l < d.lanes.length := Dev.lt_lanes_of_step (by omega)
  unfold Dev.laneStep
  extract_lets d1 x d2 back d3 d4 y up d5 d6 d7 d8
  have hx : x.step = 3 := hstep
  have h3 : d3 = d2 := if_neg (by omega)
  have h4 : d4 = d3 := if_neg (by omega)
  have h2 : d.OnLane l d2 := d.onLane_setLane _
  have hon4 : d.OnLane l d4 := by rw [h4, h3]; exact h2
  have hon6 : d.OnLane l d6 :=
    (hon4.trans (d4.onLane_setLane _)).trans (.trans (Dev.onLane_statB _ _ _) (.trans (Dev.onLane_stat _ _ _) (Dev.onLane_statB _ _ _)))
  have h7 : d7 = d6 := if_neg (by simp [heth])
  have h8 : d8 = d7.emit (.ethUp l d7.ethFec) := if_pos (by simp [heth])
  have hon8 : d.OnLane l d8 := by
    rw [h8, h7]
    exact hon6.trans (Dev.onLane_emit _ _)
  have hpending : d8.keel.pending = [] := by
    obtain ⟨ls, rs, out, fs, ps, he⟩ := hon8.rest
    rw [he]
    exact hidle
  have hlane : d8.lane l = d6.lane l := by rw [h8, h7]; rfl
  have hstat : d8.rdF (lnStat l) f_LQ_LN_STAT_STAGE = d6.rdF (lnStat l) f_LQ_LN_STAT_STAGE := by rw [h8, h7]; rfl
  rw [if_pos rfl, d8.retrainDone_of_idle l hpending, hlane, hstat]
  refine ⟨?_, ?_, hon8.lanes⟩
  · have hself : d6.lane l = _ := d4.lane_setLane_self l _ (hon4.length ▸ hl)
    rw [hself, show y = d4.lane l from rfl, h4, h3]
    exact congrArg LaneSt.step (d.lane_setLane_self l _ hl)
  · exact (Dev.rdF_wrF_disjoint _ _ _ (.inl (by decide)) (by decide)).trans (Dev.rdF_wrF_self _ _ _ _ (by decide))

/-! ### The delay measurement begins (R153 step 8) -/

theorem Dev.startEcho_lane (d : Dev) (l : Nat) (hl : l < d.lanes.length) (h : (d.lane l).step ≠ 6) :
    ((d.startEcho l).lane l).step = 5 ∧ ∀ k, k ≠ l → (d.startEcho l).lane k = d.lane k := by
  unfold Dev.startEcho
  extract_lets d1 y
  have h1 : d.OnLane l d1 := d.onLane_laneStep l 5 h (by decide)
  obtain ⟨since, f, n, a, t, g, hx⟩ := d.lane_laneStep l 5 h (by decide) hl
  have hl1 : l < d1.lanes.length := h1.length ▸ hl
  obtain ⟨-, -, hne, hself⟩ := (d1.setLane l { y with echoes := [], trips := [], count := 0 }).sendEcho_lane l
  obtain ⟨hstep, -⟩ := hself (by rw [Dev.setLane_length]; exact hl1)
  rw [Dev.lane_setLane_self _ _ _ hl1] at hstep
  exact ⟨hstep.trans (congrArg LaneSt.step hx), fun k hk => ((hne k hk).trans (d1.lane_setLane_ne l _ hk)).trans (h1.lanes k hk)⟩

/-! ### Restart with the lanes of the port as they are (R154) -/

theorem tptCfg_ne (l p : Nat) : a_TPT_CFG p ≠ lnStat l ∧ a_TPT_CFG p ≠ a_TPT_LINK (l / 2) := by
  unfold a_TPT_CFG lnStat a_LQ_LN_STAT a_TPT_LINK
  omega

/-- Settings in force follow from what is in force and from the NV image. -/
theorem Dev.inForce_congr {d e : Dev} (hforce : e.force = d.force) (hnv : e.nv = d.nv) (a : Nat) : e.inForce a = d.inForce a := by
  rw [Dev.inForce, Dev.inForce, Dev.dflt, Dev.dflt, hforce, hnv]

/-- A lane's move leaves TPT.CFG as written and in force. -/
theorem Dev.laneStep_tptCfg (d : Dev) (l p : Nat) {step : Nat} (h : (d.lane l).step ≠ 6) (hs : step ≠ 6) :
    (d.laneStep l step).rd (a_TPT_CFG p) = d.rd (a_TPT_CFG p) ∧ (d.laneStep l step).inForce (a_TPT_CFG p) = d.inForce (a_TPT_CFG p) := by
  have hon := d.onLane_laneStep l step h hs
  have hnv : (d.laneStep l step).nv = d.nv := by
    obtain ⟨ls, rs, out, fs, ps, he⟩ := hon.rest
    rw [he]
  exact ⟨hon.rd _ (tptCfg_ne l p).1 (tptCfg_ne l p).2, Dev.inForce_congr (d.laneStep_force l step h hs) hnv _⟩

/-- Where the port's lanes stay as they are, a restart outside stage 5 is work on its lane alone. -/
theorem Dev.onLane_restartLane {l : Fin 52} (d : Dev) (rate : Nat) (final : Bool) (h : (d.lane l).step ≠ 6) (heth : laneUse l ≠ .eth)
    (hkept : laneUse l = .tether → d.laneModeKept (l / 2) = true) : d.OnLane l (d.restartLane l rate final) := by
  have h0 : d.OnLane l (d.laneStep l 0) := d.onLane_laneStep l 0 h (by decide)
  have hlow := d.low_laneStep l (step := 0) h (by omega)
  have hdetect {e : Dev} (he : d.OnLane l e) (hidle : (e.lane l).step ≤ 1) (rate : Nat) (final : Bool) : d.OnLane l (e.detect l rate final) :=
    he.trans (e.detect_lane l rate final (by omega)).1
  rw [Dev.restartLane_eq]
  unfold Dev.restartRest
  split
  next huse =>
    extract_lets p same kept d1 d2
    have hmode : kept = true := by
      obtain ⟨hrd, hin⟩ := d.laneStep_tptCfg l p h (step := 0) (by decide)
      have hk := hkept huse
      unfold kept
      unfold Dev.laneModeKept Dev.rdF Dev.inF at hk ⊢
      rw [hrd, hin]
      exact hk
    have h2 : d2 = d1 := if_pos hmode
    have h1 : d.OnLane l d1 := h0.trans (Dev.onLane_portConfig _ p)
    have hidle : (d1.lane l).step ≤ 1 := ((Dev.laneStays_portConfig _ p).low hlow.step).step
    rw [h2]
    split
    · split
      · exact hdetect h1 hidle _ _
      · exact hdetect h1 hidle _ _
    · exact h1
  next =>
    split
    · exact hdetect h0 hlow.step _ _
    · exact h0

/-! ### Steps that have a limit (R153, R154) -/

/-- Only the steps of training, lock, capability exchange and delay measurement have a limit. -/
theorem Dev.stepLimit_step (d : Dev) {l n : Nat} (h : d.stepLimit l = some n) : 2 ≤ (d.lane l).step ∧ (d.lane l).step ≤ 5 := by
  unfold Dev.stepLimit at h
  split at h
  next htrain => omega
  next hlock => omega
  next hcap => omega
  next hecho => omega
  next => cases h

/-- The first and the second return in a row are counted; no error is reported. -/
theorem Dev.bringupReturn_early {l : Fin 52} (d : Dev) (hlo : 2 ≤ (d.lane l).step) (hhi : (d.lane l).step ≤ 5) (hfew : (d.lane l).returns < 2)
    (heth : laneUse l ≠ .eth) (hkept : laneUse l = .tether → d.laneModeKept (l / 2) = true) :
    ((d.bringupReturn l).lane l).step ≤ 1 ∧ ((d.bringupReturn l).lane l).returns = (d.lane l).returns + 1 ∧ (d.bringupReturn l).mrg = d.mrg := by
  unfold Dev.bringupReturn
  extract_lets x n rate e y
  have hl : l.val < d.lanes.length := Dev.lt_lanes_of_step (by omega)
  have hon : d.OnLane l e := d.onLane_restartLane rate false (by omega) heth hkept
  have hlow : d.Low l e := d.low_restartLane rate false (by omega)
  have hearly : n < 3 := by
    show (d.lane l).returns + 1 < 3
    omega
  rw [if_pos hearly, Dev.lane_setLane_self _ _ _ (hon.length ▸ hl)]
  obtain ⟨ls, rs, out, fs, ps, he⟩ := hon.rest
  exact ⟨hlow.step, rfl, (congrArg Dev.mrg he :)⟩

/-! ### A quad whose PLL loses lock (R429) -/

/-- A lane of the quad goes down until the PLL is locked again. -/
def Dev.pllDown (d : Dev) (l : Nat) : Dev :=
  if (d.lane l).step = 0 then d
  else
    let d := d.laneStep l 0
    d.setLane l { d.lane l with unlocked := true }

theorem Dev.pllDown_lane (d : Dev) (l : Nat) (h : (d.lane l).step ≠ 6) : d.OnLane l (d.pllDown l) ∧ ((d.pllDown l).lane l).step = 0 := by
  unfold Dev.pllDown
  split
  next hdown => exact ⟨.refl d, hdown⟩
  next hup =>
    extract_lets d1 y
    have hl : l < d.lanes.length := Dev.lt_lanes_of_step hup
    have h1 : d.OnLane l d1 := d.onLane_laneStep l 0 h (by decide)
    obtain ⟨since, f, n, a, t, g, hx⟩ := d.lane_laneStep l 0 h (by decide) hl
    refine ⟨h1.trans (d1.onLane_setLane _), ?_⟩
    rw [d1.lane_setLane_self l _ (h1.length ▸ hl)]
    exact congrArg LaneSt.step hx

/-- Lanes are down; the merge points, the resets and QUAD_STAT are as they were. -/
structure Dev.QuadDown (ks : List Nat) (d e : Dev) : Prop where
  mrg : e.mrg = d.mrg
  rst : e.rst = d.rst
  quad : ∀ q, e.rd (a_LQ_QUAD_STAT q) = d.rd (a_LQ_QUAD_STAT q)
  down : ∀ k ∈ ks, (e.lane k).step = 0
  other : ∀ k, k ∉ ks → e.lane k = d.lane k

theorem quadStat_ne (q l : Nat) : a_LQ_QUAD_STAT q ≠ lnStat l ∧ a_LQ_QUAD_STAT q ≠ a_TPT_LINK (l / 2) := by
  unfold a_LQ_QUAD_STAT lnStat a_LQ_LN_STAT a_TPT_LINK
  omega

theorem Dev.quadDown_foldl (ks : List Nat) (d : Dev) (h : ∀ k ∈ ks, (d.lane k).step ≠ 6) : d.QuadDown ks (ks.foldl Dev.pllDown d) := by
  induction ks generalizing d with
  | nil => exact ⟨rfl, rfl, fun _ => rfl, by simp, fun _ _ => rfl⟩
  | cons k ks ih =>
    obtain ⟨hon, hdown⟩ := d.pllDown_lane k (h k (by simp))
    obtain ⟨ls, rs, out, fs, ps, he⟩ := hon.rest
    have hrest : ∀ j ∈ ks, ((d.pllDown k).lane j).step ≠ 6 := by
      intro j hj
      by_cases hjk : j = k
      · rw [hjk, hdown]
        decide
      · rw [hon.lanes j hjk]
        exact h j (by simp [hj])
    obtain ⟨hmrg, hrst, hquad, hdowns, hother⟩ := ih (d.pllDown k) hrest
    refine ⟨hmrg.trans (by rw [he]), hrst.trans (by rw [he]), fun q => (hquad q).trans (hon.rd _ (quadStat_ne q k).1 (quadStat_ne q k).2), ?_, ?_⟩
    · intro j hj
      by_cases hjs : j ∈ ks
      · exact hdowns j hjs
      · obtain rfl : j = k := by simpa [hjs] using hj
        rw [List.foldl_cons, hother j hjs, hdown]
    · intro j hj
      obtain ⟨hjk, hjs⟩ : j ≠ k ∧ j ∉ ks := by simpa using hj
      exact (hother j hjs).trans (hon.lanes j hjk)

/-- What a PLL that loses lock leaves before its lanes go down. -/
def Dev.pllLost (d : Dev) (q : Nat) : Dev :=
  let a := a_LQ_QUAD_STAT q
  let d := ((d.wrB a f_LQ_QUAD_STAT_PLL_LOCK false).wrB a f_LQ_QUAD_STAT_SSC false).inc a f_LQ_QUAD_STAT_UNLOCK_CNT
  { d with rst := { d.rst with clkGood := d.rst.clkGood &&& ~~~ BitVec.ofNat 40 (2 ^ (3 + q)) } }

theorem Dev.pllUnlock_locked (d : Dev) (q : Nat) (h : d.rdB (a_LQ_QUAD_STAT q) f_LQ_QUAD_STAT_PLL_LOCK = true) :
    d.pllUnlock q = (quadLanes q).foldl Dev.pllDown ((d.pllLost q).reportErr 0x25 (laneOrigin (4 * q)) q) := if_pos h

theorem Dev.pllLost_shows (d : Dev) (q : Fin 13) : (d.pllLost q).rdB (a_LQ_QUAD_STAT q) f_LQ_QUAD_STAT_PLL_LOCK = false ∧
    (d.pllLost q).clockGood (3 + q) = false ∧ (d.pllLost q).plainErr 0x25 = d.plainErr 0x25 := by
  have hmap : a_ERR_MAP 0x25 ≠ a_LQ_QUAD_STAT q := by
    unfold a_ERR_MAP a_LQ_QUAD_STAT
    omega
  refine ⟨?lock, ?clock, Dev.plainErr_congr ?plain⟩
  case lock =>
    have hcount (e : Dev) (a : Nat) : (e.inc a f_LQ_QUAD_STAT_UNLOCK_CNT).rdB a f_LQ_QUAD_STAT_PLL_LOCK = e.rdB a f_LQ_QUAD_STAT_PLL_LOCK := by
      rw [Dev.rdB, Dev.rd_inc_self, fbit, fincSat, fget_fset_ne _ _ _ _ (.inl (by decide)) (by decide)]
      rfl
    exact (hcount _ _).trans ((Dev.rdB_wrF_disjoint _ _ _ (.inl (by decide)) (by decide)).trans (Dev.rdB_wrB_self _ _ _ _ (by decide) (by decide)))
  case clock =>
    have hq := q.isLt
    simp only [Dev.clockGood, Dev.pllLost, BitVec.getLsbD_and, BitVec.getLsbD_not, BitVec.getLsbD_ofNat, Nat.testBit_two_pow_self]
    simp
  case plain => exact (Dev.rd_inc_ne _ _ _ hmap).trans ((Dev.rd_wrB_ne _ _ _ hmap).trans (Dev.rd_wrB_ne _ _ _ hmap))

/-! ### The statement -/

/-- Settles O45: the ways forward are moves of one lane; the ways back are restarts, after which the lane is low. -/
theorem laneBringUp : Obligations.LaneBringUp := by
  intro s dt
  refine ⟨?detect, ?train, ?align, ?alignLoss, ?lockLoss, ?timeout, ?pauseEnd, ?signal, ?block, ?pll⟩
  case detect =>
    intro l hstep hpause heth hclock
    have hidle : ((s.dev.elapse dt).lane l).step ≠ 6 := by
      show (s.dev.lane l).step ≠ 6
      omega
    have hl : l.val < (s.dev.elapse dt).lanes.length := Dev.lt_lanes_of_step (d := s.dev) (by omega)
    obtain ⟨since, f, n, a, t, g, hx⟩ := (s.dev.elapse dt).lane_laneStep l 2 hidle (by decide) hl
    refine makes_of_after_eq (d := (s.dev.elapse dt).laneStep l 2) rfl (if_pos ?_)
      ⟨by rw [hx]; rfl, ((s.dev.elapse dt).laneStep_stat l 2 hidle (by decide)).1, ((s.dev.elapse dt).onLane_laneStep l 2 hidle (by decide)).lanes⟩
    have hstep' : ((s.dev.elapse dt).lane l).step = 1 := hstep
    have hpause' : ((s.dev.elapse dt).lane l).pause = none := hpause
    cases huse : laneUse l with
    | tether =>
      obtain ⟨t, ht, hle⟩ := hclock huse
      have ht' : ((s.dev.elapse dt).port (l / 2)).clockAt = some t := ht
      simp [hstep', hpause', ht', hle]
    | ridge => simp [hstep', hpause']
    | pcie => simp [hstep', hpause']
    | eth => exact absurd huse heth
  case train =>
    intro l f hstep hextra hhold hcontrol hstatus
    obtain ⟨e, heq, hon, hstep', hpre⟩ := (s.dev.elapse dt).trainingFrame_last l f hstep hextra hhold hcontrol hstatus
    have hl : l.val < e.lanes.length := Dev.lt_lanes_of_step (by omega)
    obtain ⟨since, f, n, a, t, g, hx⟩ := e.lane_laneStep l 3 (by omega) (by decide) hl
    obtain ⟨-, hlock, hpre'⟩ := e.laneStep_stat l 3 (by omega) (by decide)
    exact makes_of_after_eq rfl heq
      ⟨by rw [hx]; rfl, hlock, hpre'.trans hpre, (hon.trans (e.onLane_laneStep l 3 (by omega) (by decide))).lanes⟩
  case align =>
    intro l blocks hstep hlen hall
    have hidle : ((s.dev.elapse dt).lane l).step ≠ 6 := by
      show (s.dev.lane l).step ≠ 6
      omega
    have hl : l.val < (s.dev.elapse dt).lanes.length := Dev.lt_lanes_of_step (d := s.dev) (by omega)
    have hgo : (((s.dev.elapse dt).lane l).step ≠ 3 || blocks.length < 3 || !blocks.all isAlign) = false := by
      rw [hall, show ((s.dev.elapse dt).lane l).step = 3 from hstep]
      simp [hlen]
    by_cases hfinal : laneUse l = .tether ∧ (s.dev.lane l).final = true
    · have hfinal' : laneUse l = .tether ∧ ((s.dev.elapse dt).lane l).final = true := hfinal
      obtain ⟨hfive, hne⟩ := (s.dev.elapse dt).startEcho_lane l hl hidle
      rw [if_pos hfinal]
      exact makes_of_after_eq rfl ((if_neg (by rw [hgo]; decide)).trans (if_pos (by simpa using hfinal'))) ⟨hfive, hne⟩
    · have hfinal' : ¬ (laneUse l = .tether ∧ ((s.dev.elapse dt).lane l).final = true) := hfinal
      obtain ⟨since, f, n, a, t, g, hx⟩ := (s.dev.elapse dt).lane_laneStep l 4 hidle (by decide) hl
      rw [if_neg hfinal]
      exact makes_of_after_eq rfl ((if_neg (by rw [hgo]; decide)).trans (if_neg (by simpa using hfinal')))
        ⟨by rw [hx]; rfl, ((s.dev.elapse dt).onLane_laneStep l 4 hidle (by decide)).lanes⟩
  case alignLoss =>
    intro l missed hlow hhigh
    refine ⟨fun hfour => ?_, fun hfew => makes_of_after_eq rfl (if_pos hfew) rfl⟩
    have hlost : (s.dev.elapse dt).loseLock l = _ := if_pos hlow
    have hdown := (s.dev.elapse dt).low_restartLane (l := l.castLE (by decide)) ((s.dev.elapse dt).firstRate l) false
      (by show (s.dev.lane l).step ≠ 6; omega)
    exact makes_of_after_eq rfl ((if_neg (Nat.not_lt.mpr hfour)).trans hlost) ⟨hdown.step, hdown.count⟩
  case lockLoss =>
    intro l hactive _ _
    have hlost : (s.dev.elapse dt).loseLock l = _ := if_pos (by show 3 ≤ (s.dev.lane l).step; omega)
    obtain ⟨hstep, hcount⟩ := (s.dev.elapse dt).restartLane_of_active (l := l) ((s.dev.elapse dt).firstRate l) false hactive
    exact makes_of_after_eq rfl hlost ⟨hstep, (congrArg (fget · _) hcount).trans (Dev.rdF_inc_self _ _ _ _ (by decide))⟩
  case timeout =>
    intro l n hlimit hdue hfew hkept
    obtain ⟨hlo, hhi⟩ := s.dev.stepLimit_step hlimit
    have heth : laneUse l ≠ .eth := by
      have hl := l.isLt
      unfold laneUse
      rw [if_pos hl]
      split <;> decide
    have hlimit' : (s.dev.elapse dt).stepLimit l = some n := hlimit
    have hdue' : ((s.dev.elapse dt).lane l).since + n ≤ (s.dev.elapse dt).refNs := hdue
    refine makes_of_after_eq (d := (s.dev.elapse dt).bringupReturn l) rfl (by simp only [hlimit', if_pos hdue']) ?_
    exact (s.dev.elapse dt).bringupReturn_early (l := l.castLE (by decide)) hlo hhi hfew heth hkept
  case pauseEnd =>
    intro l t hpause hdue hlow
    have hl : l.val < (s.dev.elapse dt).lanes.length := Dev.lt_lanes_of_ne_reset (d := s.dev) fun h => by simp [h, LaneSt.reset] at hpause
    have hpause' : ((s.dev.elapse dt).lane l).pause = some t := hpause
    obtain ⟨e, he, hnone, hstep⟩ : ∃ e : Dev, e = (s.dev.elapse dt).setLane l { (s.dev.elapse dt).lane l with pause := none } ∧
        (e.lane l).pause = none ∧ (e.lane l).step ≤ 1 := by
      refine ⟨_, rfl, ?_, ?_⟩
      · rw [Dev.lane_setLane_self _ _ _ hl]
      · rw [Dev.lane_setLane_self _ _ _ hl]
        exact hlow
    have hdown := e.low_restartLane (l := l.castLE (by decide)) (if laneUse l = .ridge then (e.lane l).rate else 0) false
      (by show (e.lane l).step ≠ 6; omega)
    refine makes_of_after_eq rfl ?_ ⟨hdown.pause.trans hnone, hdown.step⟩
    simp only [hpause', if_pos hdue, ← he]
    rfl
  case signal =>
    intro k hused hstep
    have hidle : ((s.dev.elapse dt).lane (48 + k)).step ≠ 6 := by
      show (s.dev.lane (48 + k)).step ≠ 6
      omega
    have hl : 48 + k.val < (s.dev.elapse dt).lanes.length := Dev.lt_lanes_of_step (d := s.dev) (by omega)
    obtain ⟨since, f, n, a, t, g, hx⟩ := (s.dev.elapse dt).lane_laneStep (48 + k) 3 hidle (by decide) hl
    have hgo : ((s.dev.elapse dt).ethUsed k && ((s.dev.elapse dt).lane (48 + k)).step = 1) = true := by
      rw [show (s.dev.elapse dt).ethUsed k = true from hused, show ((s.dev.elapse dt).lane (48 + k)).step = 1 from hstep]
      rfl
    exact makes_of_after_eq rfl (if_pos hgo) ⟨by rw [hx]; rfl, ((s.dev.elapse dt).onLane_laneStep (48 + k) 3 hidle (by decide)).lanes⟩
  case block =>
    intro k hstep hidle
    have heth : laneUse (48 + k.val) = .eth := by
      have hk := k.isLt
      simp only [laneUse]
      rw [if_neg (by omega), if_neg (by omega), if_neg (by omega)]
    exact makes_of_after_eq rfl (if_pos hstep) ((s.dev.elapse dt).laneStep_up (48 + k) heth hstep hidle)
  case pll =>
    intro q hlock hidle hplain
    obtain ⟨hoff, hclock, hmap⟩ := (s.dev.elapse dt).pllLost_shows q
    have hplain' : ((s.dev.elapse dt).pllLost q).plainErr 0x25 = true := hmap.trans hplain
    obtain ⟨hlanes, hrd, hfly⟩ := Dev.reportErr_leaves (laneOrigin (4 * q)) q hplain' (by decide)
    have hrst : (((s.dev.elapse dt).pllLost q).reportErr 0x25 (laneOrigin (4 * q)) q).rst = ((s.dev.elapse dt).pllLost q).rst := by
      rw [Dev.reportErr_of_plain _ _ _ _ hplain' (by decide)]
      rfl
    obtain ⟨hmrg', hrst', hquad', hdown, -⟩ := Dev.quadDown_foldl (quadLanes q)
      (((s.dev.elapse dt).pllLost q).reportErr 0x25 (laneOrigin (4 * q)) q)
      (fun k hk => by rw [Dev.lane, hlanes]; exact hidle k hk)
    refine makes_of_after_eq rfl ((s.dev.elapse dt).pllUnlock_locked q hlock) ⟨?_, ?_, hdown, ?_⟩
    · rw [Dev.rdB, hquad', hrd]
      exact hoff
    · rw [Dev.clockGood, hrst', hrst]
      exact hclock
    · rw [hmrg', hfly]
      rfl

end Sys2Proof.Machine
end

section
/-! Writes of registers whose bits set something off: TPT.CTRL, TIME.TT_CFG, HBM.PR_CTRL, LQ.EYE_CTRL (R9, R154, R372, R401, R402, R434, R435). -/

namespace Sys2Proof.Machine

/-! ### Bytes of a word written -/

theorem length_leBytes (k n : Nat) : (leBytes k n).length = k := by
  induction k generalizing n with
  | zero => rfl
  | succ k ih => simp [leBytes, ih]

theorem leNat_leBytes (k n : Nat) : leNat (leBytes k n) = n % 256 ^ k := by
  induction k generalizing n with
  | zero => simp [leBytes, leNat, Nat.mod_one]
  | succ k ih =>
    have hbyte : (BitVec.ofNat 8 (n % 256)).toNat = n % 256 := Nat.mod_eq_of_lt (Nat.mod_lt n (by decide))
    rw [leBytes, leNat, ih, hbyte, pow_succ', Nat.mod_mul]

/-- The bytes of a number come through an access of their length. -/
theorem leNat_padTo_leBytes (k n : Nat) : leNat (padTo ((leBytes k n).take k) k) = n % 256 ^ k := by
  have hlen := length_leBytes k n
  have hpad : padTo ((leBytes k n).take k) k = leBytes k n := by
    rw [List.take_of_length_le hlen.le, padTo, hlen, Nat.sub_self]
    exact List.append_nil _
  rw [hpad, leNat_leBytes]

/-! ### One register written -/

/-- An access of n bytes at an address reaches one whole part from its low end, and what it writes applies at once. -/
abbrev StrobeAt (a n : Nat) (p : Part) : Prop :=
  sizeOk a n = true ∧ inTbl a = false ∧ inRng a = false ∧ inAon a = false ∧ accessParts a n = some [p] ∧ p.pends = false ∧
    p.lo = 0 ∧ p.at_ = 0

/-- A field of the bits written that can be set takes them. -/
theorem storeFields_takes {r : Reg} {wm : W64} {x : FieldRow} (old new : W64) (hx : x ∈ r.fields) (hm : wm &&& x.fld.mask ≠ 0)
    (hacc : x.acc = .w1s ∨ x.acc = .rw) : (storeFields r wm false (fun _ => false) old new).2.2 = true := by
  have hkeep (s : W64 × Bool × Bool) (y : FieldRow) (h : s.2.2 = true) : (storeStep r wm false (fun _ => false) new s y).2.2 = true := by
    simp [storeStep, h]
  have hkeeps (l : List FieldRow) (s : W64 × Bool × Bool) (h : s.2.2 = true) : (l.foldl (storeStep r wm false (fun _ => false) new) s).2.2 = true :=
    List.foldlRecOn l _ (motive := fun s => s.2.2 = true) h fun s hs y _ => hkeep s y hs
  have htake (s : W64 × Bool × Bool) : (storeStep r wm false (fun _ => false) new s x).2.2 = true := by
    have hm' : ¬ wm &&& x.fld.mask = 0#64 := hm
    rcases hacc with h | h <;> simp [storeStep, writeField, h, hm']
  have hfold (l : List FieldRow) (s : W64 × Bool × Bool) (h : x ∈ l) : (l.foldl (storeStep r wm false (fun _ => false) new) s).2.2 = true := by
    obtain ⟨l1, l2, rfl⟩ := List.append_of_mem h
    rw [List.foldl_append, List.foldl_cons]
    exact hkeeps l2 _ (htake _)
  rw [storeFields_eq_foldl]
  exact hfold r.fields _ hx

/-- The bits that reach a register of which a whole part is written: those of the data, but for 1s of W1C bits set in the cycle. -/
theorem Dev.reaches_whole (d : Dev) {a n : Nat} {p : Part} (h : StrobeAt a n p) {w : W64} (hw : w &&& p.mask = w) :
    d.reaches p w = w &&& ~~~(masksAt d.cycle.flags p.addr &&& p.reg.accMask .w1c) := by
  obtain ⟨-, -, -, -, -, -, hlo, hat⟩ := h
  have hlay : p.lay w = w := by simp [Part.lay, hlo, hat, hw]
  rw [Dev.reaches, hlay]

theorem Dev.reaches_of_no_w1c (d : Dev) {a n : Nat} {p : Part} (h : StrobeAt a n p) {w : W64} (hw : w &&& p.mask = w)
    (hclear : p.reg.accMask .w1c = 0) : d.reaches p w = w := by
  rw [d.reaches_whole h hw, hclear, show masksAt d.cycle.flags p.addr &&& 0 = 0#64 from BitVec.and_zero, BitVec.not_zero, BitVec.and_allOnes]

/-- What a write to a part has stored when its register acts: `c` is what the cycle notes of bits asked for. -/
def Dev.stored (d : Dev) (p : Part) (w : W64) (c : CycleSt) : Dev :=
  { d.wr p.addr (storeFields p.reg p.mask false (fun _ => false) (d.rd p.addr) (d.reaches p w)).1 with cycle := c }

/-- A write to a part that is not refused and takes bits sets off what the part does, and no more. -/
theorem Dev.writePart_stored (d : Dev) (p : Part) (w : W64) (hlock : d.isLocked p.unit = false) (hrefuse : d.writeRefused p .host = false)
    (hwpu : p.unit ≠ .wpu) (hpends : p.pends = false) (x : FieldRow) (hx : x ∈ p.reg.fields) (hm : p.mask &&& x.fld.mask ≠ 0)
    (hacc : x.acc = .w1s ∨ x.acc = .rw) : ∃ c bad, d.writePart p w .host =
      ((d.stored p w c).writeEffect p.unit p.addr (p.index.headD 0) p.mask (d.reaches p w) (d.rd p.addr) .host, bad, true) := by
  have htook := storeFields_takes (d.rd p.addr) (d.reaches p w) hx hm hacc
  have hdir : (d.partRefused p (d.reaches p w) .host && p.unit == .wpu) = false := by simp [hwpu]
  unfold Dev.writePart
  rw [if_neg (by simp [hrefuse])]
  simp only [hdir, hlock, Bool.false_and, hpends, htook, Bool.not_true, Bool.false_eq_true, if_false, Dev.stored]
  exact ⟨_, _, rfl⟩

/-- A plain report of what was discarded is seen in SEQ and on the way to the error merge point alone. -/
theorem Dev.lockViolation_eq (d : Dev) (a : Nat) (src : AccSrc) (h : d.plainErr 0x0D = true) :
    ∃ q m, d.lockViolation a src = { d with seqs := q, mrg := m } := by
  rw [Dev.lockViolation, Dev.addrErr, d.reportErr_of_plain 0x0D _ _ h (by decide)]
  exact ⟨_, _, rfl⟩

/-- A host write of a register that acts: what the register sets off decides what holds after it. -/
theorem makes_of_strobe {i : Instr} {s : State} {a n v : Nat} {p : Part} {w : W64} {P : Dev → Prop} (hexec : exec i s = .next (s.hostWrite a n v))
    (hat : StrobeAt a n p) (hw : BitVec.ofNat 64 (v % 256 ^ n) = w) (htakes : s.dev.takesWrites p.unit = true)
    (hrefuse : s.dev.writeRefused p .host = false) (hwpu : p.unit ≠ .wpu) (hpipe : ∀ k, p.unit ≠ .pipe k)
    (x : FieldRow) (hx : x ∈ p.reg.fields) (hm : p.mask &&& x.fld.mask ≠ 0) (hacc : x.acc = .w1s ∨ x.acc = .rw)
    (hquiet : ∀ (d : Dev) q m, P d → P { d with seqs := q, mrg := m })
    (heffect : ∀ c, ∃ e, (s.dev.stored p w c).writeEffect p.unit p.addr (p.index.headD 0) p.mask (s.dev.reaches p w) (s.dev.rd p.addr) .host = e ∧
      P e ∧ e.plainErr 0x0D = true ∧ e.established = false) : Makes i s P := by
  obtain ⟨hsize, htbl, hrng, haon, hparts, hpends, -, -⟩ := hat
  simp only [Dev.takesWrites, Bool.and_eq_true, Bool.not_eq_true'] at htakes
  obtain ⟨⟨hreach, hlock⟩, halone⟩ := htakes
  obtain ⟨c, bad, hpart⟩ := s.dev.writePart_stored p w hlock hrefuse hwpu hpends x hx hm hacc
  obtain ⟨e, he, hP, hplain, hpair⟩ := heffect c
  rw [he] at hpart
  obtain ⟨f, hf, hend⟩ := s.dev.endWrite_regWrite_single w .host haon hparts hreach
  have htwins : e.writeTwins p w .host = e := by
    unfold Dev.writeTwins
    split
    next k hk => exact absurd hk (hpipe k)
    next => rfl
  have hfe : f = e := by
    rw [hpart, htwins, Dev.mirrorWrite_of_alone _ _ _ _ hpair, or_self] at hf
    exact hf
  refine makes_of_access hexec ?_
  rw [Dev.busAccess_write _ _ hsize htbl hrng, leNat_padTo_leBytes, hw]
  rcases hend with h | h
  · rw [h, hfe]
    exact hP
  · obtain ⟨q, m, hlog⟩ := e.lockViolation_eq a .host hplain
    rw [h, hfe, hlog]
    exact hquiet e q m hP

/-! ### The registers -/

/-- The parts that the strobes of O41 write. -/
def tptCtrlPart (p : Fin 16) : Part := ⟨a_TPT_CTRL p, .tpt p, r_TPT_CTRL, [], 0, 4, 0⟩
def ttCfgPart (k : Fin 8) : Part := ⟨a_TIME_TT_CFG k, .time, r_TIME_TT_CFG, [k], 0, 8, 0⟩
def prCtrlPart (st : Fin 2) : Part := ⟨a_HBM_PR_CTRL st, .hbm st, r_HBM_PR_CTRL, [], 0, 8, 0⟩
def eyeCtrlPart (q : Fin 13) (k : Fin 4) : Part := ⟨a_LQ_EYE_CTRL q k, .lq q, r_LQ_EYE_CTRL, [k], 0, 4, 0⟩

theorem strobeAt_tptCtrl : ∀ p : Fin 16, StrobeAt (a_TPT_CTRL p) 4 (tptCtrlPart p) := by decide +kernel
theorem strobeAt_ttCfg : ∀ k : Fin 8, StrobeAt (a_TIME_TT_CFG k) 8 (ttCfgPart k) := by decide +kernel
theorem strobeAt_prCtrl : ∀ st : Fin 2, StrobeAt (a_HBM_PR_CTRL st) 8 (prCtrlPart st) := by decide +kernel
theorem strobeAt_eyeCtrl : ∀ (q : Fin 13) (k : Fin 4), StrobeAt (a_LQ_EYE_CTRL q k) 4 (eyeCtrlPart q k) := by decide +kernel

/-- A word of 8 bytes is written as it is, one of 4 bytes with zeros above. -/
theorem ofNat_bytes8 (data : W64) : BitVec.ofNat 64 (data.toNat % 256 ^ 8) = data := by
  apply BitVec.eq_of_toNat_eq
  have := data.isLt
  rw [BitVec.toNat_ofNat]
  omega

theorem ofNat_bytes4 (data : W32) : BitVec.ofNat 64 (data.toNat % 256 ^ 4) = data.setWidth 64 := by
  apply BitVec.eq_of_toNat_eq
  have := data.isLt
  simp only [BitVec.toNat_ofNat, BitVec.toNat_setWidth]
  omega

theorem and_mask4 (p : Part) (w : W32) (hlo : p.lo = 0) (hn : p.n = 4) : w.setWidth 64 &&& p.mask = w.setWidth 64 := by
  have hmask : p.mask = (BitVec.allOnes 32).setWidth 64 := by
    rw [Part.mask, hlo, hn]
    decide
  rw [hmask, ← BitVec.setWidth_and, BitVec.and_allOnes]

theorem Dev.rd_stored_self (d : Dev) (p : Part) (w : W64) (c : CycleSt) :
    (d.stored p w c).rd p.addr = (storeFields p.reg p.mask false (fun _ => false) (d.rd p.addr) (d.reaches p w)).1 := d.rd_wr_self _ _

theorem Dev.rd_stored_ne (d : Dev) (p : Part) (w : W64) (c : CycleSt) {b : Nat} (h : b ≠ p.addr) : (d.stored p w c).rd b = d.rd b := d.rd_wr_ne _ h

/-! ### Time triggers armed (R372) -/

/-- Arming a trigger whose start is ahead sets its first instant. -/
theorem Dev.ttCfgWrite_ahead (d : Dev) (k : Nat) {data : W64} (hoff : d.rdB (a_TIME_TT_CFG k) f_TIME_TT_CFG_EN = false)
    (hon : fbit data f_TIME_TT_CFG_EN = true) (h : d.now.toNat < (d.rd (a_TIME_TT_START k)).toNat) :
    d.ttCfgWrite k (BitVec.allOnes 64) data =
      (d.wr (a_TIME_TT_CFG k) data).setTt k (some ((d.rd (a_TIME_TT_START k)).toNat, (d.rd (a_TIME_TT_START k)).toNat)) := by
  have hstart : (d.wr (a_TIME_TT_CFG k) data).rd (a_TIME_TT_START k) = d.rd (a_TIME_TT_START k) :=
    d.rd_wr_ne _ (by unfold a_TIME_TT_START a_TIME_TT_CFG; omega)
  have hold : fbit (d.rd (a_TIME_TT_CFG k)) f_TIME_TT_CFG_EN = false := hoff
  have hnow : (d.wr (a_TIME_TT_CFG k) data).now = d.now := rfl
  simp only [Dev.ttCfgWrite, blend_allOnes, hon, hold, hstart, hnow, if_neg (Nat.not_le.mpr h)]
  rfl

/-- One whose start is past is late and disarmed. -/
theorem Dev.ttCfgWrite_past (d : Dev) (k : Nat) {data : W64} (hoff : d.rdB (a_TIME_TT_CFG k) f_TIME_TT_CFG_EN = false)
    (hon : fbit data f_TIME_TT_CFG_EN = true) (h : (d.rd (a_TIME_TT_START k)).toNat ≤ d.now.toNat) :
    d.ttCfgWrite k (BitVec.allOnes 64) data =
      (((d.wr (a_TIME_TT_CFG k) data).ttDisarm k).flag (a_TIME_TT_STAT k) f_TIME_TT_STAT_LATE).raiseEvt 193 := by
  have hstart : (d.wr (a_TIME_TT_CFG k) data).rd (a_TIME_TT_START k) = d.rd (a_TIME_TT_START k) :=
    d.rd_wr_ne _ (by unfold a_TIME_TT_START a_TIME_TT_CFG; omega)
  have hold : fbit (d.rd (a_TIME_TT_CFG k)) f_TIME_TT_CFG_EN = false := hoff
  have hnow : (d.wr (a_TIME_TT_CFG k) data).now = d.now := rfl
  simp only [Dev.ttCfgWrite, blend_allOnes, hon, hold, hstart, hnow, if_pos h]
  rfl

theorem Dev.writeEffect_ttCfg (d : Dev) (k : Nat) (wm data old : W64) (src : AccSrc) :
    d.writeEffect .time (a_TIME_TT_CFG k) k wm data old src = (d.wr (a_TIME_TT_CFG k) old).ttCfgWrite k wm data := by
  unfold Dev.writeEffect
  dsimp only
  rw [if_neg (by unfold a_TIME_TT_CFG a_TIME_CTRL; omega), if_neg (by unfold a_TIME_TT_CFG a_TIME_PPS_OUT; omega), if_pos rfl]

/-! ### Partial retention (R401, R402) -/

/-- A write of HBM.PR_CTRL acts on EXIT, then on GO. -/
theorem Dev.writeEffect_prCtrl (d : Dev) (st : Fin 2) (i : Nat) (wm data old : W64) (src : AccSrc) :
    let d' := (d.wrB (a_HBM_PR_CTRL st) f_HBM_PR_CTRL_GO false).wrB (a_HBM_PR_CTRL st) f_HBM_PR_CTRL_EXIT false
    d.writeEffect (.hbm st) (a_HBM_PR_CTRL st) i wm data old src =
      (let d := if fbit data f_HBM_PR_CTRL_EXIT then d'.prExit st else d'
       if fbit data f_HBM_PR_CTRL_GO then d.prGo st else d) := if_pos rfl

theorem StackSt.endRetention_retained (x : StackSt) (retired now : Nat) : (x.endRetention retired now).retained = false := by
  unfold StackSt.endRetention
  split
  · rfl
  next h => simpa using h

theorem Dev.stack_setStack_ne (d : Dev) {s t : Nat} (x : StackSt) (h : t ≠ s) : (d.setStack s x).stack t = d.stack t := lget_lset_ne _ _ _ h

/-- The end of retention concerns its stack alone. -/
theorem Dev.prExit_ends (d : Dev) (s : Nat) : ((d.prExit s).stack s).retained = false ∧ ∀ t, t ≠ s → (d.prExit s).stack t = d.stack t := by
  refine ⟨?_, fun t ht => d.stack_setStack_ne _ ht⟩
  unfold Dev.prExit Dev.setStack
  rw [Dev.stack, lget_lset]
  split
  · exact StackSt.endRetention_retained _ _ _
  next h =>
    rw [lget_of_length_le _ (by simpa using h)]
    rfl

/-- The channels of a stack that retention drops. -/
def Dev.dropped (d : Dev) (s keep : Nat) : List Nat := (List.range 32).filter (fun p => !keep.testBit p && !(d.retired s).testBit p)

/-- The sum of the bits of channels in order has just those bits. -/
theorem testBit_bitSum (d : Dev) (s keep p : Nat) :
    (((d.dropped s keep).map (2 ^ ·)).foldl (· + ·) 0).testBit p = true ↔ p ∈ d.dropped s keep := by
  have hsorted : (d.dropped s keep).SortedLT := (List.pairwise_lt_range.filter _).sortedLT
  rw [← List.sum_eq_foldl, ← Nat.mem_bitIndices, Nat.bitIndices_sum_map_two_pow hsorted]

theorem mem_dropped (d : Dev) {s keep p : Nat} (hp : p < 32) (hkeep : keep.testBit p = false) (hin : (d.retired s).testBit p = false) :
    p ∈ d.dropped s keep := by
  simp [Dev.dropped, hp, hkeep, hin]

/-- Retention begins in STANDBY: what it drops is lost, and of the registers PR_CTRL and PC_STAT of the stack alone change. -/
theorem Dev.prGo_standby (d : Dev) (s : Nat) (hs : d.mode.starting = false) (hc : d.mode.cur = .standby) (hplain : d.plainErr 0x0B = true)
    (hmap : a_ERR_MAP 0x0B ≠ a_HBM_PR_CTRL s ∧ a_ERR_MAP 0x0B ≠ a_HBM_PC_STAT s) :
    (d.prGo s).rdF (a_HBM_PR_CTRL s) f_HBM_PR_CTRL_ERR = 0 ∧
      (∀ p ∈ d.dropped s (d.rdF (a_HBM_PR_CTRL s) f_HBM_PR_CTRL_RET_MASK),
        ((d.prGo s).rdF (a_HBM_PC_STAT s) f_HBM_PC_STAT_LOST).testBit p = true ∧ (s, p) ∈ (d.prGo s).hbmLost) ∧
      ∀ b, b ≠ a_HBM_PR_CTRL s → b ≠ a_HBM_PC_STAT s → (d.prGo s).rd b = d.rd b := by
  unfold Dev.prGo
  rw [if_neg (by simp [hs, hc])]
  extract_lets d1 keep gone mask d2 y d3 d4 d5
  have h1 (b : Nat) (hb : b ≠ a_HBM_PR_CTRL s) : d1.rd b = d.rd b := Dev.rd_wrF_ne _ _ _ hb
  have hkeep : keep = d.rdF (a_HBM_PR_CTRL s) f_HBM_PR_CTRL_RET_MASK := Dev.rdF_wrF_disjoint _ _ _ (.inr (by decide)) (by decide)
  have h2 (b : Nat) : d2.rd b = d1.rd b := by
    refine iter_leaves (π := (·.rd b)) (fun p e => ?_) 32 d1
    split <;> rfl
  have hstat : a_HBM_PR_CTRL s ≠ a_HBM_PC_STAT s := by
    unfold a_HBM_PR_CTRL a_HBM_PC_STAT
    omega
  have h5 (b : Nat) (hb : b ≠ a_HBM_PC_STAT s) : d5.rd b = d1.rd b := (Dev.rd_flag_ne d3 _ _ hb).trans (h2 b)
  have hplain5 : d5.plainErr 0x0B = true := (Dev.plainErr_congr ((h5 _ hmap.2).trans (h1 _ hmap.1))).trans hplain
  have hend : (if gone.isEmpty then d5 else d5.reportErr 0x0B (44 + s) (s * 2 ^ 32 + mask)).regs = d5.regs ∧
      (if gone.isEmpty then d5 else d5.reportErr 0x0B (44 + s) (s * 2 ^ 32 + mask)).nv = d5.nv ∧
      (if gone.isEmpty then d5 else d5.reportErr 0x0B (44 + s) (s * 2 ^ 32 + mask)).hbmLost = d5.hbmLost := by
    split
    · exact ⟨rfl, rfl, rfl⟩
    · rw [Dev.reportErr_of_plain _ _ _ _ hplain5 (by decide)]
      exact ⟨rfl, rfl, rfl⟩
  obtain ⟨hregs, hnv, hlost⟩ := hend
  have hrd (b : Nat) := Dev.rd_congr hregs hnv b
  refine ⟨?err, fun p hp => ⟨?bit, ?pair⟩, fun b hb hb' => (hrd b).trans ((h5 b hb').trans (h1 b hb))⟩
  case err =>
    rw [Dev.rdF, hrd, h5 _ hstat]
    exact Dev.rdF_wrF_self _ _ _ _ (by decide)
  case bit =>
    have hmask : mask.testBit p = true := (testBit_bitSum d s _ p).mpr (hkeep ▸ hp)
    have hp32 : p < 32 := List.mem_range.mp (List.mem_filter.mp hp).1
    have hflag : d5.rdF (a_HBM_PC_STAT s) f_HBM_PC_STAT_LOST = (d3.rdF (a_HBM_PC_STAT s) f_HBM_PC_STAT_LOST ||| mask) % 2 ^ 32 :=
      Dev.rdF_wrF_self _ _ _ _ (by decide)
    rw [Dev.rdF, hrd, ← Dev.rdF, hflag, Nat.testBit_mod_two_pow, Nat.testBit_or, hmask]
    simp [hp32]
  case pair =>
    have hgone : p ∈ gone := by
      show p ∈ d.dropped s keep
      rw [hkeep]
      exact hp
    rw [hlost]
    exact List.mem_append_right _ (List.mem_map_of_mem hgone)

/-! ### Eye scans (R435) -/

theorem eyeCtrl_eq (q : Fin 13) (k : Fin 4) : eyeCtrl (q * 4 + k) = a_LQ_EYE_CTRL q k := by
  have hk := k.isLt
  unfold eyeCtrl
  rw [show (q.val * 4 + k.val) / 4 = q by omega, show (q.val * 4 + k.val) % 4 = k by omega]

/-- A write of LQ.EYE_CTRL with GO, where no scan runs, starts one or is refused. -/
theorem Dev.writeEffect_eyeCtrl (d : Dev) (q : Fin 13) (k : Fin 4) (wm data old : W64) (src : AccSrc) (hgo : fbit data f_LQ_EYE_CTRL_GO = true)
    (hold : fbit old f_LQ_EYE_CTRL_GO = false) :
    let e := d.wrB (a_LQ_EYE_CTRL q k) f_LQ_EYE_CTRL_GO false
    d.writeEffect (.lq q) (a_LQ_EYE_CTRL q k) k wm data old src =
      if d.laneActive (q * 4 + k) then (e.wrF (a_LQ_EYE_CTRL q k) f_LQ_EYE_CTRL_ERR 0).wrB (a_LQ_EYE_CTRL q k) f_LQ_EYE_CTRL_GO true
      else e.wrF (a_LQ_EYE_CTRL q k) f_LQ_EYE_CTRL_ERR 1 := by
  intro e
  have hidle : e.rdB (a_LQ_EYE_CTRL q k) f_LQ_EYE_CTRL_GO = false := d.rdB_wrB_self _ _ _ (by decide) (by decide)
  have heffect : d.writeEffect (.lq q) (a_LQ_EYE_CTRL q k) k wm data old src = e.eyeGo (q * 4 + k) src := by
    unfold Dev.writeEffect
    simp only [hgo, hold, if_true]
    rfl
  rw [heffect, Dev.eyeGo, eyeCtrl_eq, hidle]
  rfl

/-! ### Lanes retrained (R434) -/

theorem blend_same (m v : W64) : blend m v v = v := by
  unfold blend
  rw [← BitVec.and_or_distrib_left, BitVec.or_not_self, BitVec.and_allOnes]

/-- Bringing a register's own address into force, where it holds what is in force, changes nothing there. -/
theorem Dev.inForce_bringFrom_same (d : Dev) (a : Nat) (e : Eff) (h : d.rd a = d.inForce a) :
    (d.bringFrom d.regs e (fun b => b = a)).inForce a = d.inForce a := by
  have hsrc : (d.regs.find a).getD (d.dflt a) = d.inForce a := h
  refine List.foldlRecOn (motive := fun f : RegStore => (f.find a).getD (d.dflt a) = d.inForce a) _ _ rfl fun f hf b hb => ?_
  obtain rfl : b = a := of_decide_eq_true (List.mem_filter.mp hb).2
  split
  · exact hf
  · dsimp only
    split
    · exact hf
    · rw [RegStore.find_put_self, hsrc, hf, blend_same]
      rfl

theorem Dev.inForce_bridle (d : Dev) (p : Nat) : (d.bridle p).inForce = d.inForce := by
  unfold Dev.bridle
  extract_lets x
  repeat' split
  all_goals rfl

/-- Settings written that are in force are in force after a bring-up. -/
theorem Dev.inForce_portConfig (d : Dev) (p : Nat) (h : d.rd (a_TPT_CFG p) = d.inForce (a_TPT_CFG p)) :
    (d.portConfig p).inForce (a_TPT_CFG p) = d.inForce (a_TPT_CFG p) := by
  rw [Dev.portConfig, Dev.inForce_bridle, d.inForce_bringFrom_same _ _ h]

/-- A lane in use that is restarted outside stage 5 under settings in force is in receiver detect at the rate asked for. -/
theorem Dev.restartLane_same (d : Dev) (l rate : Nat) (final : Bool) (h : (d.lane l).step ≠ 6) (huse : laneUse l = .tether)
    (hcfg : d.rd (a_TPT_CFG (l / 2)) = d.inForce (a_TPT_CFG (l / 2))) (hin : d.laneInUse (l / 2) (l % 2) = true) :
    d.restartLane l rate final = ((d.laneStep l 0).portConfig (l / 2)).detect l rate final := by
  obtain ⟨hrd, hforce⟩ := d.laneStep_tptCfg l (l / 2) h (step := 0) (by decide)
  have hsame : (d.laneStep l 0).rd (a_TPT_CFG (l / 2)) = (d.laneStep l 0).inForce (a_TPT_CFG (l / 2)) := by rw [hrd, hforce, hcfg]
  have hkept : (d.laneStep l 0).laneModeKept (l / 2) = true := by simp [Dev.laneModeKept, Dev.rdF, Dev.inF, hsame]
  have hused : ((d.laneStep l 0).portConfig (l / 2)).laneInUse (l / 2) (l % 2) = true := by
    rw [Dev.laneInUse, Dev.inF, Dev.inForce_portConfig _ _ hsame, hforce]
    exact hin
  rw [Dev.restartLane_eq, Dev.restartRest, if_pos huse]
  simp only [hkept, hused, hsame, if_true]

/-- A request in stage 1 to 4 is counted as an abort; the lane is in receiver detect at its rate. -/
theorem Dev.retrain_bringUp (d : Dev) {l : Fin 52} (hlo : 1 ≤ (d.lane l).step) (hhi : (d.lane l).step < 6) (huse : laneUse l = .tether)
    (hcfg : d.rd (a_TPT_CFG (l / 2)) = d.inForce (a_TPT_CFG (l / 2))) (hin : d.laneInUse (l / 2) (l % 2) = true) :
    (d.inc (lnCnt l) f_LQ_LN_CNT_ABORT_CNT).OnLane l (d.retrain l) ∧ ((d.retrain l).lane l).step = 1 ∧
      ((d.retrain l).lane l).rate = (d.lane l).rate := by
  have hl : l.val < d.lanes.length := Dev.lt_lanes_of_step (by omega)
  have hcnt : a_TPT_CFG (l / 2) ≠ lnCnt l := by
    unfold a_TPT_CFG lnCnt a_LQ_LN_CNT
    omega
  obtain ⟨e, he⟩ : ∃ e, e = d.inc (lnCnt l) f_LQ_LN_CNT_ABORT_CNT := ⟨_, rfl⟩
  have hlane : e.lane l = d.lane l := by rw [he]; rfl
  have hidle : (e.lane l).step ≠ 6 := by rw [hlane]; omega
  have hrd : e.rd (a_TPT_CFG (l / 2)) = d.rd (a_TPT_CFG (l / 2)) := by rw [he]; exact Dev.rd_inc_ne _ _ _ hcnt
  have hforce : e.inForce = d.inForce := by rw [he]; rfl
  have hretrain : d.retrain l = e.restartLane l (d.lane l).rate (d.lane l).final := by
    rw [he, Dev.retrain]
    simp only [if_pos (And.intro hlo hhi)]
  have hsame : e.rd (a_TPT_CFG (l / 2)) = e.inForce (a_TPT_CFG (l / 2)) := by rw [hrd, hforce, hcfg]
  have hrestart := e.restartLane_same l (d.lane l).rate (d.lane l).final hidle huse hsame (by rw [Dev.laneInUse, Dev.inF, hforce]; exact hin)
  have hlow := e.low_laneStep l (step := 0) hidle (by omega)
  have hdown := ((Dev.laneStays_portConfig _ (l / 2)).low hlow.step).step
  have hon : e.OnLane l ((e.laneStep l 0).portConfig (l / 2)) := (e.onLane_laneStep l 0 hidle (by decide)).trans (Dev.onLane_portConfig _ _)
  obtain ⟨hdetect, hself⟩ := ((e.laneStep l 0).portConfig (l / 2)).detect_lane l (d.lane l).rate (d.lane l).final (by omega)
  obtain ⟨hstep, hrate, -, -⟩ := hself (by rw [hon.length, he]; exact hl)
  rw [hretrain, hrestart, ← he]
  exact ⟨hon.trans hdetect, hstep, hrate⟩

end Sys2Proof.Machine
end

section
/-! What the writes that set something off make: O41. -/

namespace Sys2Proof.Machine

/-! ### What the strobes leave alone -/

theorem Dev.unpaired_of_takesWrites {d : Dev} {u : RUnit} (h : d.takesWrites u = true) : d.established = false := by
  simp only [Dev.takesWrites, Bool.and_eq_true, Bool.not_eq_true'] at h
  exact h.2

/-- A block whose ERR.MAP of LOCK_VIOLATION and RDG.STAT read as before logs and mirrors as before. -/
theorem Dev.logs_of_rd {d e : Dev} (hplain : d.plainErr 0x0D = true) (hpair : d.established = false)
    (h : ∀ a, a < 0x90000 ∨ a = a_RDG_STAT → e.rd a = d.rd a) : e.plainErr 0x0D = true ∧ e.established = false :=
  ⟨(Dev.plainErr_congr (h _ (.inl (by decide)))).trans hplain, by rw [Dev.established, Dev.rdB, h _ (.inr rfl)]; exact hpair⟩

/-! ### Lanes retrained -/

/-- RETRAIN0 alone on a lane in use whose quad is up retrains it. -/
theorem Dev.writeEffect_retrain0 (d : Dev) (p : Fin 16) (wm old : W64) (src : AccSrc) (huse : d.laneInUse p 0 = true) (hup : d.quadUp (2 * p) = true) :
    let e := (d.wrB (a_TPT_CTRL p) f_TPT_CTRL_RETRAIN0 false).wrB (a_TPT_CTRL p) f_TPT_CTRL_RETRAIN1 false
    d.writeEffect (.tpt p) (a_TPT_CTRL p) 0 wm 1 old src = e.retrain (2 * p) := by
  intro e
  have hquad : a_LQ_QUAD_STAT (2 * p / 4) ≠ a_TPT_CTRL p := by
    unfold a_LQ_QUAD_STAT a_TPT_CTRL
    omega
  have hstat : e.rd (a_LQ_QUAD_STAT (2 * p / 4)) = d.rd (a_LQ_QUAD_STAT (2 * p / 4)) := by
    rw [Dev.rd_wrB_ne _ _ _ hquad, Dev.rd_wrB_ne _ _ _ hquad]
  have hused : e.laneInUse p 0 = true := huse
  have hquadUp : e.quadUp (2 * p) = true := by
    rw [Dev.quadUp, Dev.rdB, hstat]
    exact hup
  have h0 : fbit ((1 : W32).setWidth 64) f_TPT_CTRL_RETRAIN0 = true := by decide
  have h1 : fbit ((1 : W32).setWidth 64) f_TPT_CTRL_RETRAIN1 = false := by decide
  have hctrl : e.tptCtrlWrite p 1 = e.retrain (2 * p) := by
    simp only [Dev.tptCtrlWrite, h0, h1, Dev.retrainUsed, hused, Bool.true_or, Nat.add_zero, hquadUp, Bool.and_self, if_true,
      Bool.false_eq_true, if_false]
  rw [← hctrl]
  exact if_pos rfl

/-- The first lane of a port, told to retrain in stage 1 to 4, counts it and is in receiver detect at its rate; the second stays. -/
theorem Dev.retrain_port (d : Dev) (p : Fin 16) (huse : d.laneInUse p 0 = true) (hlo : 1 ≤ (d.lane (2 * p)).step) (hhi : (d.lane (2 * p)).step < 6)
    (hcfg : d.rd (a_TPT_CFG p) = d.inForce (a_TPT_CFG p)) :
    ((d.retrain (2 * p)).rdF (lnCnt (2 * p)) f_LQ_LN_CNT_ABORT_CNT = min (d.rdF (lnCnt (2 * p)) f_LQ_LN_CNT_ABORT_CNT + 1) 65535 ∧
      ((d.retrain (2 * p)).lane (2 * p)).step = 1 ∧ ((d.retrain (2 * p)).lane (2 * p)).rate = (d.lane (2 * p)).rate ∧
      (d.retrain (2 * p)).lane (2 * p + 1) = d.lane (2 * p + 1)) ∧
    ∀ a, a < 0x90000 ∨ a = a_RDG_STAT → (d.retrain (2 * p)).rd a = d.rd a := by
  have hp := p.isLt
  obtain ⟨l, hl⟩ : ∃ l : Fin 52, l.val = 2 * p := ⟨⟨2 * p, by omega⟩, rfl⟩
  have hport : l.val / 2 = p := by omega
  have hfirst : l.val % 2 = 0 := by omega
  have htether : laneUse l = .tether := by
    unfold laneUse
    rw [if_pos (by omega)]
  obtain ⟨hon, hstep, hrate⟩ := d.retrain_bringUp (l := l) (by rwa [hl]) (by rwa [hl]) htether (by rwa [hport]) (by rwa [hport, hfirst])
  rw [hl] at hon hstep hrate
  have hcount : ((d.retrain (2 * p)).rdF (lnCnt (2 * p)) f_LQ_LN_CNT_ABORT_CNT) =
      (d.inc (lnCnt (2 * p)) f_LQ_LN_CNT_ABORT_CNT).rdF (lnCnt (2 * p)) f_LQ_LN_CNT_ABORT_CNT := by
    rw [Dev.rdF, hon.rd _ (lnCnt_ne_lnStat _ _) (lnCnt_ne_link _ _), Dev.rdF]
  refine ⟨⟨hcount.trans (Dev.rdF_inc_self _ _ _ _ (by decide)), hstep, hrate, hon.lanes _ (by omega)⟩, fun a ha => ?_⟩
  unfold a_RDG_STAT at ha
  have hcnt : a ≠ lnCnt (2 * p) := by
    unfold lnCnt a_LQ_LN_CNT
    omega
  have hstat : a ≠ lnStat (2 * p) := by
    unfold lnStat a_LQ_LN_STAT
    omega
  have hlink : a ≠ a_TPT_LINK (2 * p / 2) := by
    unfold a_TPT_LINK
    omega
  exact (hon.rd a hstat hlink).trans (d.rd_inc_ne _ _ hcnt)

theorem tptCtrlPart_bits : ∀ p : Fin 16, (tptCtrlPart p).mask &&& f_TPT_CTRL_RETRAIN0.mask ≠ 0 ∧ 1 &&& (tptCtrlPart p).mask = 1 ∧
    (tptCtrlPart p).reg.accMask .w1c = 0 := by decide +kernel

theorem makes_tptRetrain {s : State} (hplain : s.dev.plainErr 0x0D = true) (p : Fin 16) (htakes : s.dev.takesWrites (.tpt p) = true)
    (huse : s.dev.laneInUse p 0 = true) (hlo : 1 ≤ (s.dev.lane (2 * p)).step) (hhi : (s.dev.lane (2 * p)).step < 6)
    (hup : s.dev.quadUp (2 * p) = true) (hcfg : s.dev.rd (a_TPT_CFG p) = s.dev.inForce (a_TPT_CFG p)) :
    Makes (.tptRetrain p 1) s (fun d => d.rdF (lnCnt (2 * p)) f_LQ_LN_CNT_ABORT_CNT = min (s.dev.rdF (lnCnt (2 * p)) f_LQ_LN_CNT_ABORT_CNT + 1) 65535 ∧
      (d.lane (2 * p)).step = 1 ∧ (d.lane (2 * p)).rate = (s.dev.lane (2 * p)).rate ∧ d.lane (2 * p + 1) = s.dev.lane (2 * p + 1)) := by
  have hpair := Dev.unpaired_of_takesWrites htakes
  have hat := strobeAt_tptCtrl p
  obtain ⟨hgo, hone, hclear⟩ := tptCtrlPart_bits p
  refine makes_of_strobe rfl hat (w := 1) (by decide) htakes (by simp [Dev.writeRefused, hpair, tptCtrlPart]) nofun nofun
    ⟨f_TPT_CTRL_RETRAIN0, .w1s, false, 0, .atOnce⟩ (.tail _ (.head _)) hgo (.inl rfl) (fun _ _ _ h => h) fun c => ?_
  rw [s.dev.reaches_of_no_w1c hat hone hclear]
  obtain ⟨d, hd⟩ : ∃ d, d = s.dev.stored (tptCtrlPart p) 1 c := ⟨_, rfl⟩
  obtain ⟨e, he⟩ : ∃ e, e = (d.wrB (a_TPT_CTRL p) f_TPT_CTRL_RETRAIN0 false).wrB (a_TPT_CTRL p) f_TPT_CTRL_RETRAIN1 false := ⟨_, rfl⟩
  have hdrd (b : Nat) (hb : b ≠ a_TPT_CTRL p) : d.rd b = s.dev.rd b := by
    rw [hd]
    exact s.dev.rd_stored_ne _ _ c hb
  have hrd (b : Nat) (hb : b ≠ a_TPT_CTRL p) : e.rd b = s.dev.rd b := by
    rw [he, Dev.rd_wrB_ne _ _ _ hb, Dev.rd_wrB_ne _ _ _ hb, hdrd b hb]
  have hlanes : e.lane = s.dev.lane := by rw [he, hd]; rfl
  have hforce : e.inForce = s.dev.inForce := by rw [he, hd]; rfl
  have hquad : a_LQ_QUAD_STAT (2 * p / 4) ≠ a_TPT_CTRL p := by
    unfold a_LQ_QUAD_STAT a_TPT_CTRL
    omega
  have hset : a_TPT_CFG p ≠ a_TPT_CTRL p := by
    unfold a_TPT_CFG a_TPT_CTRL
    omega
  have hcnt : lnCnt (2 * p) ≠ a_TPT_CTRL p := by
    unfold lnCnt a_LQ_LN_CNT a_TPT_CTRL
    omega
  have hquadUp : d.quadUp (2 * p) = true := by
    rw [Dev.quadUp, Dev.rdB, hdrd _ hquad, hd]
    exact hup
  obtain ⟨hret, hkept⟩ := e.retrain_port p (by rw [Dev.laneInUse, Dev.inF, hforce]; exact huse) (by rwa [hlanes]) (by rwa [hlanes])
    (by rwa [hrd _ hset, hforce])
  have hcount : e.rdF (lnCnt (2 * p)) f_LQ_LN_CNT_ABORT_CNT = s.dev.rdF (lnCnt (2 * p)) f_LQ_LN_CNT_ABORT_CNT := by
    rw [Dev.rdF, hrd _ hcnt, Dev.rdF]
  rw [hlanes, hcount] at hret
  refine ⟨e.retrain (2 * p), ?_, hret, Dev.logs_of_rd hplain hpair fun b hb => (hkept b hb).trans (hrd b ?_)⟩
  · rw [← hd, he]
    exact d.writeEffect_retrain0 p _ _ _ (by rw [hd]; exact huse) hquadUp
  · unfold a_RDG_STAT at hb
    unfold a_TPT_CTRL
    omega

/-! ### Time triggers armed -/

theorem ttCfgPart_bits : ∀ k : Fin 8, (ttCfgPart k).mask = BitVec.allOnes 64 ∧ (ttCfgPart k).mask &&& f_TIME_TT_CFG_EN.mask ≠ 0 ∧
    (ttCfgPart k).reg.accMask .w1c = 0 := by decide +kernel

/-- A write of TIME.TT_CFG makes what the register's rule makes of it, from the value before. -/
theorem makes_ttArm {s : State} (hplain : s.dev.plainErr 0x0D = true) (k : Fin 8) (data : W64) (htakes : s.dev.takesWrites .time = true)
    {P : Dev → Prop} (hquiet : ∀ (d : Dev) q m, P d → P { d with seqs := q, mrg := m })
    (h : ∀ d : Dev, d.clk = s.dev.clk → d.rd = s.dev.rd → P (d.ttCfgWrite k (BitVec.allOnes 64) data) ∧
      ∀ a, a < 0x90000 ∨ a = a_RDG_STAT → (d.ttCfgWrite k (BitVec.allOnes 64) data).rd a = d.rd a) : Makes (.ttArm k data) s P := by
  have hpair := Dev.unpaired_of_takesWrites htakes
  have hat := strobeAt_ttCfg k
  obtain ⟨hmask, hen, hclear⟩ := ttCfgPart_bits k
  have hrate : a_TIME_TT_CFG k ≠ a_TIME_RATE := by
    unfold a_TIME_TT_CFG a_TIME_RATE
    omega
  refine makes_of_strobe rfl hat (ofNat_bytes8 data) htakes (by simp [Dev.writeRefused, hpair, ttCfgPart, hrate]) nofun nofun
    ⟨f_TIME_TT_CFG_EN, .rw, false, 0, .atOnce⟩ (.head _) hen (.inr rfl) hquiet fun c => ?_
  rw [s.dev.reaches_of_no_w1c hat (by rw [hmask, BitVec.and_allOnes]) hclear, hmask]
  obtain ⟨d, hd⟩ : ∃ d, d = (s.dev.stored (ttCfgPart k) data c).wr (a_TIME_TT_CFG k) (s.dev.rd (a_TIME_TT_CFG k)) := ⟨_, rfl⟩
  have hrd : d.rd = s.dev.rd := by
    funext b
    by_cases hb : b = a_TIME_TT_CFG k
    · rw [hb, hd, Dev.rd_wr_self]
    · rw [hd, Dev.rd_wr_ne _ _ hb]
      exact s.dev.rd_stored_ne _ _ c hb
  obtain ⟨hP, hkept⟩ := h d (by rw [hd]; rfl) hrd
  exact ⟨_, (Dev.writeEffect_ttCfg _ k _ _ _ _).trans (by rw [hd]; rfl), hP,
    Dev.logs_of_rd hplain hpair fun a ha => (hkept a ha).trans (by rw [hrd])⟩

/-- TT_CFG and TT_STAT lie apart from what logs and mirrors. -/
theorem ttCfg_apart {a k : Nat} (ha : a < 0x90000 ∨ a = a_RDG_STAT) (hk : k < 8) : a ≠ a_TIME_TT_CFG k ∧ a ≠ a_TIME_TT_STAT k := by
  unfold a_RDG_STAT at ha
  unfold a_TIME_TT_CFG a_TIME_TT_STAT
  omega

theorem makes_ttArm_ahead {s : State} (hplain : s.dev.plainErr 0x0D = true) (k : Fin 8) (data : W64) (htakes : s.dev.takesWrites .time = true)
    (hoff : s.dev.rdB (a_TIME_TT_CFG k) f_TIME_TT_CFG_EN = false) (hon : fbit data f_TIME_TT_CFG_EN = true)
    (hahead : s.dev.now.toNat < (s.dev.rd (a_TIME_TT_START k)).toNat) :
    Makes (.ttArm k data) s (fun d => d.clk = { s.dev.clk with
        ttNext := lset s.dev.clk.ttNext k (some ((s.dev.rd (a_TIME_TT_START k)).toNat, (s.dev.rd (a_TIME_TT_START k)).toNat)) } ∧
      d.rdB (a_TIME_TT_CFG k) f_TIME_TT_CFG_EN = true) := by
  refine makes_ttArm hplain k data htakes (fun _ _ _ h => h) fun d hclk hrd => ?_
  have hnow : d.now = s.dev.now := by rw [Dev.now, hclk]; rfl
  rw [d.ttCfgWrite_ahead k (by rw [Dev.rdB, hrd]; exact hoff) hon (by rw [hnow, hrd]; exact hahead), hrd]
  refine ⟨⟨?clk, ?en⟩, fun a ha => (d.rd_wr_ne _ (ttCfg_apart ha k.isLt).1).trans (by rw [hrd])⟩
  case clk =>
    rw [← hclk]
    rfl
  case en =>
    show fbit ((d.wr (a_TIME_TT_CFG k) data).rd (a_TIME_TT_CFG k)) _ = true
    rw [Dev.rd_wr_self, hon]

theorem makes_ttArm_past {s : State} (hplain : s.dev.plainErr 0x0D = true) (k : Fin 8) (data : W64) (htakes : s.dev.takesWrites .time = true)
    (hoff : s.dev.rdB (a_TIME_TT_CFG k) f_TIME_TT_CFG_EN = false) (hon : fbit data f_TIME_TT_CFG_EN = true)
    (hpast : (s.dev.rd (a_TIME_TT_START k)).toNat ≤ s.dev.now.toNat) :
    Makes (.ttArm k data) s (fun d => d.clk = { s.dev.clk with ttNext := lset s.dev.clk.ttNext k none } ∧
      d.rdB (a_TIME_TT_CFG k) f_TIME_TT_CFG_EN = false ∧ d.rdB (a_TIME_TT_STAT k) f_TIME_TT_STAT_LATE = true) := by
  refine makes_ttArm hplain k data htakes (fun _ _ _ h => h) fun d hclk hrd => ?_
  have hnow : d.now = s.dev.now := by rw [Dev.now, hclk]; rfl
  rw [d.ttCfgWrite_past k (by rw [Dev.rdB, hrd]; exact hoff) hon (by rw [hnow, hrd]; exact hpast)]
  obtain ⟨e, he⟩ : ∃ e, e = (d.wr (a_TIME_TT_CFG k) data).setTt k none := ⟨_, rfl⟩
  obtain ⟨v, hv⟩ := ((e.wrB (a_TIME_TT_CFG k) f_TIME_TT_CFG_EN false).flag (a_TIME_TT_STAT k) f_TIME_TT_STAT_LATE).raiseEvt_eq 193
  have hstat : a_TIME_TT_CFG k ≠ a_TIME_TT_STAT k := by
    unfold a_TIME_TT_CFG a_TIME_TT_STAT
    omega
  rw [Dev.ttDisarm, ← he, hv]
  refine ⟨⟨?clk, ?en, ?late⟩, fun a ha => ?apart⟩
  case clk =>
    rw [← hclk, he]
    rfl
  case en =>
    exact (congrArg (fbit · f_TIME_TT_CFG_EN) (Dev.rd_flag_ne _ _ _ hstat)).trans (Dev.rdB_wrB_self _ _ _ _ (by decide) (by decide))
  case late => exact Dev.rdB_flag_self _ _ _ (by decide) rfl
  case apart =>
    obtain ⟨hcfg, hst⟩ := ttCfg_apart ha k.isLt
    refine (Dev.rd_flag_ne _ _ _ hst).trans ((Dev.rd_wrB_ne _ _ _ hcfg).trans ?_)
    rw [he]
    exact d.rd_wr_ne _ hcfg

/-! ### Partial retention begun and ended -/

theorem prCtrlPart_bits : ∀ st : Fin 2, (prCtrlPart st).mask = BitVec.allOnes 64 ∧ (prCtrlPart st).mask &&& f_HBM_PR_CTRL_RET_MASK.mask ≠ 0 ∧
    (prCtrlPart st).reg.accMask .w1c = 0 := by decide +kernel

/-- RET_MASK is stored as written, whatever bits set something off. -/
theorem retMask_storeFields (old new : W64) :
    fget (storeFields r_HBM_PR_CTRL (BitVec.allOnes 64) false (fun _ => false) old new).1 f_HBM_PR_CTRL_RET_MASK = fget new f_HBM_PR_CTRL_RET_MASK := by
  rw [storeFields_eq_foldl]
  simp only [r_HBM_PR_CTRL, List.foldl_cons, List.foldl_nil, storeStep, Bool.false_and, Bool.false_eq_true, if_false]
  iterate 4 rw [writeField_unlocked _ _ _ _ (by decide) (by decide), fget_fset_ne _ _ _ _ (.inr (by decide)) (by decide)]
  exact fget_writeField_self _ _ _ _ (by decide) (by decide)

/-- A write of HBM.PR_CTRL makes what EXIT and GO set off, under the RET_MASK written. -/
theorem makes_prCtrl {i : Instr} {s : State} (hplain : s.dev.plainErr 0x0D = true) (st : Fin 2) (data : W64)
    (hexec : exec i s = .next (s.hostWrite (a_HBM_PR_CTRL st) 8 data.toNat)) (htakes : s.dev.takesWrites (.hbm st) = true) {P : Dev → Prop}
    (hquiet : ∀ (d : Dev) q m, P d → P { d with seqs := q, mrg := m })
    (h : ∀ d : Dev, d.mode = s.dev.mode → d.mem = s.dev.mem → d.hbmLost = s.dev.hbmLost →
      (∀ a, a ≠ a_HBM_PR_CTRL st → d.rd a = s.dev.rd a) →
      d.rdF (a_HBM_PR_CTRL st) f_HBM_PR_CTRL_RET_MASK = fget data f_HBM_PR_CTRL_RET_MASK →
      ∃ e, (let d := if fbit data f_HBM_PR_CTRL_EXIT then d.prExit st else d
        if fbit data f_HBM_PR_CTRL_GO then d.prGo st else d) = e ∧ P e ∧
        ∀ a, a ≠ a_HBM_PR_CTRL st → a ≠ a_HBM_PC_STAT st → e.rd a = d.rd a) : Makes i s P := by
  have hpair := Dev.unpaired_of_takesWrites htakes
  have hat := strobeAt_prCtrl st
  obtain ⟨hmask, hret, hclear⟩ := prCtrlPart_bits st
  refine makes_of_strobe hexec hat (ofNat_bytes8 data) htakes (by simp [Dev.writeRefused, hpair, prCtrlPart]) nofun nofun
    ⟨f_HBM_PR_CTRL_RET_MASK, .rw, false, 0, .commit .prGo⟩ (.head _) hret (.inr rfl) hquiet fun c => ?_
  have hreach := s.dev.reaches_of_no_w1c hat (w := data) (by rw [hmask, BitVec.and_allOnes]) hclear
  rw [hreach]
  obtain ⟨x, hx⟩ : ∃ x, x = s.dev.stored (prCtrlPart st) data c := ⟨_, rfl⟩
  obtain ⟨d, hd⟩ : ∃ d, d = (x.wrB (a_HBM_PR_CTRL st) f_HBM_PR_CTRL_GO false).wrB (a_HBM_PR_CTRL st) f_HBM_PR_CTRL_EXIT false := ⟨_, rfl⟩
  have hrd (b : Nat) (hb : b ≠ a_HBM_PR_CTRL st) : d.rd b = s.dev.rd b := by
    rw [hd, Dev.rd_wrB_ne _ _ _ hb, Dev.rd_wrB_ne _ _ _ hb, hx]
    exact s.dev.rd_stored_ne _ _ c hb
  have hkeep : d.rdF (a_HBM_PR_CTRL st) f_HBM_PR_CTRL_RET_MASK = fget data f_HBM_PR_CTRL_RET_MASK := by
    have hstored : x.rd (a_HBM_PR_CTRL st) = (storeFields r_HBM_PR_CTRL (BitVec.allOnes 64) false (fun _ => false)
        (s.dev.rd (a_HBM_PR_CTRL st)) data).1 := by
      have hself := s.dev.rd_stored_self (prCtrlPart st) data c
      rw [hmask, hreach, ← hx] at hself
      exact hself
    rw [hd, Dev.wrB, Dev.rdF_wrF_disjoint _ _ _ (.inr (by decide)) (by decide), Dev.wrB, Dev.rdF_wrF_disjoint _ _ _ (.inr (by decide)) (by decide),
      Dev.rdF, hstored, retMask_storeFields]
  obtain ⟨e, he, hP, hkept⟩ := h d (by rw [hd, hx]; rfl) (by rw [hd, hx]; rfl) (by rw [hd, hx]; rfl) hrd hkeep
  refine ⟨e, ?_, hP, Dev.logs_of_rd hplain hpair fun a ha => ?_⟩
  · rw [← he, hd, ← hx]
    exact x.writeEffect_prCtrl st _ _ _ _ _
  · unfold a_RDG_STAT at ha
    have hne : a ≠ a_HBM_PR_CTRL st ∧ a ≠ a_HBM_PC_STAT st := by
      unfold a_HBM_PR_CTRL a_HBM_PC_STAT
      omega
    exact (hkept a hne.1 hne.2).trans (hrd a hne.1)

theorem makes_prGo_standby {s : State} (hplain : s.dev.plainErr 0x0D = true) (st : Fin 2) (data : W64) (htakes : s.dev.takesWrites (.hbm st) = true)
    (hgo : fbit data f_HBM_PR_CTRL_GO = true) (hexit : fbit data f_HBM_PR_CTRL_EXIT = false) (hstart : s.dev.mode.starting = false)
    (hcur : s.dev.mode.cur = .standby) (hlost : s.dev.plainErr 0x0B = true) :
    Makes (.prGo st data) s (fun d => d.rdF (a_HBM_PR_CTRL st) f_HBM_PR_CTRL_ERR = 0 ∧ ∀ p : Fin 32,
      fget data f_HBM_PR_CTRL_RET_MASK / 2 ^ p.val % 2 = 0 → (s.dev.retired st).testBit p = false →
        (d.rdF (a_HBM_PC_STAT st) f_HBM_PC_STAT_LOST).testBit p = true ∧ (st.val, p.val) ∈ d.hbmLost) := by
  refine makes_prCtrl hplain st data rfl htakes (fun _ _ _ h => h) fun d hmode hmem _ hrd hkeep => ?_
  simp only [hgo, hexit, Bool.false_eq_true, if_false, if_true]
  have hmap : a_ERR_MAP 0x0B ≠ a_HBM_PR_CTRL st ∧ a_ERR_MAP 0x0B ≠ a_HBM_PC_STAT st := by
    unfold a_ERR_MAP a_HBM_PR_CTRL a_HBM_PC_STAT
    omega
  obtain ⟨herr, hdrop, hkept⟩ := d.prGo_standby st (by rw [hmode, hstart]) (by rw [hmode, hcur])
    ((Dev.plainErr_congr (hrd _ hmap.1)).trans hlost) hmap
  refine ⟨_, rfl, ⟨herr, fun p hp hretired => hdrop p ?_⟩, hkept⟩
  have hout : (fget data f_HBM_PR_CTRL_RET_MASK).testBit p = false := by
    rw [Nat.testBit_eq_decide_div_mod_eq, hp]
    rfl
  rw [hkeep]
  exact mem_dropped d p.isLt hout (by rw [Dev.retired, hmem]; exact hretired)

theorem makes_prGo_refused {s : State} (hplain : s.dev.plainErr 0x0D = true) (st : Fin 2) (data : W64) (htakes : s.dev.takesWrites (.hbm st) = true)
    (hgo : fbit data f_HBM_PR_CTRL_GO = true) (hexit : fbit data f_HBM_PR_CTRL_EXIT = false) (hcur : s.dev.mode.cur ≠ .standby) :
    Makes (.prGo st data) s (fun d => d.rdF (a_HBM_PR_CTRL st) f_HBM_PR_CTRL_ERR = 1 ∧ d.mem = s.dev.mem ∧ d.hbmLost = s.dev.hbmLost) := by
  refine makes_prCtrl hplain st data rfl htakes (fun _ _ _ h => h) fun d hmode hmem hlost hrd _ => ?_
  have hrefused : d.prGo st = d.wrF (a_HBM_PR_CTRL st) f_HBM_PR_CTRL_ERR 1 := if_pos (by simp [hmode, hcur])
  simp only [hgo, hexit, Bool.false_eq_true, if_false, if_true, hrefused]
  exact ⟨_, rfl, ⟨Dev.rdF_wrF_self _ _ _ _ (by decide), hmem, hlost⟩, fun a ha _ => Dev.rd_wrF_ne _ _ _ ha⟩

theorem makes_prExit {s : State} (hplain : s.dev.plainErr 0x0D = true) (st : Fin 2) (data : W64) (htakes : s.dev.takesWrites (.hbm st) = true)
    (hgo : fbit data f_HBM_PR_CTRL_GO = false) (hexit : fbit data f_HBM_PR_CTRL_EXIT = true) :
    Makes (.prExit st data) s (fun d => (d.stack st).retained = false ∧ d.hbmLost = s.dev.hbmLost ∧ d.stack (1 - st) = s.dev.stack (1 - st)) := by
  refine makes_prCtrl hplain st data rfl htakes (fun _ _ _ h => h) fun d _ hmem hlost _ _ => ?_
  simp only [hgo, hexit, Bool.false_eq_true, if_false, if_true]
  obtain ⟨hend, hother⟩ := d.prExit_ends st
  refine ⟨_, rfl, ⟨hend, hlost, ?_⟩, fun _ _ _ => rfl⟩
  rw [hother _ (by omega), Dev.stack, hmem, Dev.stack]

/-! ### Eye scans started and refused -/

theorem eyeCtrlPart_bits : ∀ (q : Fin 13) (k : Fin 4), (eyeCtrlPart q k).mask &&& f_LQ_EYE_CTRL_GO.mask ≠ 0 ∧
    (eyeCtrlPart q k).reg.accMask .w1c &&& f_LQ_EYE_CTRL_GO.mask = 0 := by decide +kernel

/-- A field reads the same where only bits outside it are cleared. -/
theorem fget_and_not_of_apart (w m n : W64) (f : Fld) (h : n &&& f.mask = 0) (hf : f.lo + f.w ≤ 64) : fget (w &&& ~~~(m &&& n)) f = fget w f := by
  apply Nat.eq_of_testBit_eq
  intro i
  rw [testBit_fget, testBit_fget]
  by_cases hi : i < f.w
  · have hin : f.lo + i < 64 := by omega
    have hmask : f.mask.getLsbD (f.lo + i) = true := by simp [f.testBit_mask _ hin, hi]
    have hclear : (n &&& f.mask).getLsbD (f.lo + i) = false := by rw [h]; exact BitVec.getLsbD_zero
    rw [BitVec.getLsbD_and, hmask, Bool.and_true] at hclear
    simp only [BitVec.getLsbD_and, BitVec.getLsbD_not, hclear, hin, decide_true, Bool.and_false, Bool.not_false, Bool.and_true]
  · simp [hi]

/-- GO written where no scan runs makes what starting a scan makes, LQ.EYE_CTRL else as written. -/
theorem makes_eyeGo {s : State} (hplain : s.dev.plainErr 0x0D = true) (q : Fin 13) (k : Fin 4) (data : W32) (htakes : s.dev.takesWrites (.lq q) = true)
    (hgo : fbit (data.setWidth 64) f_LQ_EYE_CTRL_GO = true) (hidle : s.dev.rdB (a_LQ_EYE_CTRL q k) f_LQ_EYE_CTRL_GO = false) {P : Dev → Prop}
    (hquiet : ∀ (d : Dev) q m, P d → P { d with seqs := q, mrg := m })
    (h : ∀ d : Dev, d.lanes = s.dev.lanes → d.rdB (a_LQ_EYE_CTRL q k) f_LQ_EYE_CTRL_GO = false → ∃ e,
      (if s.dev.laneActive (q * 4 + k) then (d.wrF (a_LQ_EYE_CTRL q k) f_LQ_EYE_CTRL_ERR 0).wrB (a_LQ_EYE_CTRL q k) f_LQ_EYE_CTRL_GO true
        else d.wrF (a_LQ_EYE_CTRL q k) f_LQ_EYE_CTRL_ERR 1) = e ∧ P e ∧ ∀ a, a ≠ a_LQ_EYE_CTRL q k → e.rd a = d.rd a) :
    Makes (.eyeGo q k data) s P := by
  have hpair := Dev.unpaired_of_takesWrites htakes
  have hat := strobeAt_eyeCtrl q k
  obtain ⟨hbit, happart⟩ := eyeCtrlPart_bits q k
  refine makes_of_strobe rfl hat (ofNat_bytes4 data) htakes (by simp [Dev.writeRefused, hpair, eyeCtrlPart]) nofun nofun
    ⟨f_LQ_EYE_CTRL_GO, .w1s, false, 0, .atOnce⟩ (.head _) hbit (.inl rfl) hquiet fun c => ?_
  have hreach : fbit (s.dev.reaches (eyeCtrlPart q k) (data.setWidth 64)) f_LQ_EYE_CTRL_GO = true := by
    rw [s.dev.reaches_whole hat (and_mask4 _ data rfl rfl), fbit, fget_and_not_of_apart _ _ _ _ happart (by decide)]
    exact hgo
  obtain ⟨x, hx⟩ : ∃ x, x = s.dev.stored (eyeCtrlPart q k) (data.setWidth 64) c := ⟨_, rfl⟩
  have heffect := x.writeEffect_eyeCtrl q k (eyeCtrlPart q k).mask _ (s.dev.rd (a_LQ_EYE_CTRL q k)) .host hreach hidle
  have hactive : x.laneActive = s.dev.laneActive := by rw [hx]; rfl
  obtain ⟨e, he, hP, hkept⟩ := h (x.wrB (a_LQ_EYE_CTRL q k) f_LQ_EYE_CTRL_GO false) (by rw [hx]; rfl) (x.rdB_wrB_self _ _ _ (by decide) (by decide))
  refine ⟨e, ?_, hP, Dev.logs_of_rd hplain hpair fun a ha => ?_⟩
  · rw [← he, ← hactive, ← hx]
    exact heffect
  · unfold a_RDG_STAT at ha
    have hne : a ≠ a_LQ_EYE_CTRL q k := by
      unfold a_LQ_EYE_CTRL
      omega
    rw [hkept a hne, Dev.rd_wrB_ne _ _ _ hne, hx]
    exact s.dev.rd_stored_ne _ _ c hne

theorem makes_eyeGo_active {s : State} (hplain : s.dev.plainErr 0x0D = true) (q : Fin 13) (k : Fin 4) (data : W32)
    (htakes : s.dev.takesWrites (.lq q) = true) (hgo : fbit (data.setWidth 64) f_LQ_EYE_CTRL_GO = true)
    (hidle : s.dev.rdB (a_LQ_EYE_CTRL q k) f_LQ_EYE_CTRL_GO = false) (hactive : s.dev.laneActive (q * 4 + k) = true) :
    Makes (.eyeGo q k data) s (fun d => d.rdB (a_LQ_EYE_CTRL q k) f_LQ_EYE_CTRL_GO = true ∧ d.rdF (a_LQ_EYE_CTRL q k) f_LQ_EYE_CTRL_ERR = 0 ∧
      d.lanes = s.dev.lanes) := by
  refine makes_eyeGo hplain q k data htakes hgo hidle (fun _ _ _ h => h) fun d hlanes _ => ?_
  rw [if_pos hactive]
  refine ⟨_, rfl, ⟨Dev.rdB_wrB_self _ _ _ _ (by decide) (by decide), ?_, hlanes⟩, fun a ha => ?_⟩
  · rw [Dev.wrB, Dev.rdF_wrF_disjoint _ _ _ (.inl (by decide)) (by decide), Dev.rdF_wrF_self _ _ _ _ (by decide)]
    rfl
  · rw [Dev.rd_wrB_ne _ _ _ ha, Dev.rd_wrF_ne _ _ _ ha]

theorem makes_eyeGo_refused {s : State} (hplain : s.dev.plainErr 0x0D = true) (q : Fin 13) (k : Fin 4) (data : W32)
    (htakes : s.dev.takesWrites (.lq q) = true) (hgo : fbit (data.setWidth 64) f_LQ_EYE_CTRL_GO = true)
    (hidle : s.dev.rdB (a_LQ_EYE_CTRL q k) f_LQ_EYE_CTRL_GO = false) (hactive : s.dev.laneActive (q * 4 + k) = false) :
    Makes (.eyeGo q k data) s (fun d => d.rdB (a_LQ_EYE_CTRL q k) f_LQ_EYE_CTRL_GO = false ∧ d.rdF (a_LQ_EYE_CTRL q k) f_LQ_EYE_CTRL_ERR = 1 ∧
      d.lanes = s.dev.lanes) := by
  refine makes_eyeGo hplain q k data htakes hgo hidle (fun _ _ _ h => h) fun d hlanes hstopped => ?_
  simp only [hactive, Bool.false_eq_true, if_false]
  refine ⟨_, rfl, ⟨?_, Dev.rdF_wrF_self _ _ _ _ (by decide), hlanes⟩, fun a ha => Dev.rd_wrF_ne _ _ _ ha⟩
  rw [Dev.rdB_wrF_disjoint _ _ _ (.inr (by decide)) (by decide), hstopped]

/-! ### O41 -/

/-- Settles O41: each strobe is a host write of one whole part of a register, which acts as its block's rule says. -/
theorem edgeStrobes : Obligations.EdgeStrobes := by
  intro s hplain
  refine ⟨?retrain, ?arm, ?go, ?exit, ?eye⟩
  case retrain =>
    intro p htakes huse hlo hhi _ hup hcfg
    exact makes_tptRetrain hplain p htakes huse hlo hhi hup hcfg
  case arm =>
    intro k data htakes hoff hon
    exact ⟨makes_ttArm_ahead hplain k data htakes hoff hon, makes_ttArm_past hplain k data htakes hoff hon⟩
  case go =>
    intro st data htakes hgo hexit
    exact ⟨makes_prGo_standby hplain st data htakes hgo hexit, makes_prGo_refused hplain st data htakes hgo hexit⟩
  case exit =>
    intro st data htakes hgo hexit
    exact makes_prExit hplain st data htakes hgo hexit
  case eye =>
    intro q k data htakes hgo hidle
    exact ⟨makes_eyeGo_active hplain q k data htakes hgo hidle, makes_eyeGo_refused hplain q k data htakes hgo hidle⟩

end Sys2Proof.Machine
end

section
/-! Why LINE_LABEL need not hold the line it takes in (R218). Thresholding writes a held line back by its number, so where a line of the same number is
held already, the line taken in is written over with the older one. What falls due in the same step cannot hide that, as it would leave a unit in
reset or an error on its way. -/

namespace Sys2Proof.Machine

/-! ### What falls due either shows or leaves segmentation alone -/

/-- FATAL_ERR either leaves a unit held, or is absorbed, which leaves segmentation and the merge points alone. -/
theorem Dev.assertReset_fatalErr_seg (d : Dev) :
    (d.assertReset .fatalErr).rst.held ≠ [] ∨ ((d.assertReset .fatalErr).seg = d.seg ∧ (d.assertReset .fatalErr).mrg = d.mrg) := by
  simp only [Dev.assertReset]
  split
  next => exact .inl (by simp [Dev.resetAll, ResetSt.reset, allUnits])
  next =>
    split
    next =>
      split
      next => exact .inr ⟨rfl, rfl⟩
      next => exact .inl (Dev.resetWide_held_ne_nil _ _ _)
    next =>
      split
      next => exact .inr ⟨rfl, rfl⟩
      next => exact .inr ⟨rfl, rfl⟩

theorem Dev.fatalAsserted_seg (d : Dev) (hheld : d.fatalAsserted.rst.held = []) :
    d.fatalAsserted.seg = d.seg ∧ d.fatalAsserted.mrg = d.mrg := by
  unfold Dev.fatalAsserted at hheld ⊢
  split at hheld
  next h =>
    rw [if_pos h]
    exact (Dev.assertReset_fatalErr_seg _).resolve_left (not_not_intro hheld)
  next h =>
    rw [if_neg h]
    exact ⟨rfl, rfl⟩

/-- Where no unit is held and no error is on its way after what falls due, that has left segmentation alone. -/
theorem Dev.settle_seg (d : Dev) (hheld : d.settle.rst.held = []) (hfly : d.settle.mrg.err.fly = []) : d.settle.seg = d.seg := by
  rw [d.settle_eq] at hheld hfly ⊢
  have hidle := (Dev.idleResets_eq_or_held d.profileReported.fatalAsserted).resolve_right (not_not_intro hheld)
  rw [hidle] at hheld hfly ⊢
  obtain ⟨hseg, hmrg⟩ := d.profileReported.fatalAsserted_seg hheld
  rw [hmrg] at hfly
  rw [hseg, d.profileReported_eq_or_fly.resolve_right (not_not_intro hfly)]

theorem State.put_seg (s : State) (d : Dev) : (s.put d).dev.seg = d.seg := by
  obtain ⟨m, hm⟩ := s.put_dev d
  rw [hm]

/-- A command that leaves no unit held and no error on its way makes blocks with one segmentation alone. -/
theorem seg_of_makes {c : Instr} {s : State} {e : Dev} {P : Dev → Prop} (hexec : exec c s = .next (s.put e)) (hheld : e.rst.held = [])
    (hfly : e.mrg.err.fly = []) (h : Makes c s P) : ∃ d, P d ∧ d.seg = e.seg := by
  obtain ⟨d, hd, hP⟩ := h
  have hput : s.put d.settle = s.put e := Host.Outcome.next.inj (hd.symm.trans hexec)
  have hrst : d.settle.rst = e.rst := by rw [← s.put_rst, hput, s.put_rst]
  have hmrg : d.settle.mrg = e.mrg := by rw [← s.put_mrg, hput, s.put_mrg]
  have hseg : d.settle.seg = e.seg := by rw [← s.put_seg, hput, s.put_seg]
  exact ⟨d, hP, by rw [← hseg, d.settle_seg (by rw [hrst, hheld]) (by rw [hmrg, hfly])]⟩

/-! ### The counterexample -/

/-- Mosaic line 8, of no columns, waits to be taken in. -/
def lineRepeated : MosLine :=
  ⟨⟨100, 0, 17, false, false⟩, ⟨8, 100, 0, 0, 7, 0, 0, false, false, false, false, false, .none_⟩, 0, 0, none, none, 0, 0, []⟩

/-- A line 8 of the same acquisition is held, with one invalid sample in region 0. -/
def lineHeld : SegLine := ⟨{ lineRepeated with samples := [none] }, [some 0], [none], [none], [0], false, false, 0⟩

/-- Segmentation has labelled the line 8 that it holds, and thresholding has yet to advance to it. -/
def lineHeldTwice : Dev := { Dev.reset with
  rst := { ResetSt.reset with held := [] }
  seg := { SegSt.reset with run := some 0, entry := some 0, at_ := 7, arrived := [lineRepeated], hist := [lineHeld], prev := some (8, []) } }

/-- The block that LINE_LABEL makes of it. -/
def lineWrittenOver : Dev := lineHeldTwice.lineLabel (State.hbmRead ⟨lineHeldTwice, [], []⟩)

theorem lineHeldTwice_facts : lineHeldTwice.segOver = false ∧ lineHeldTwice.plainErr 0x1E = true := by decide +kernel

theorem lineWrittenOver_facts : lineWrittenOver.calm = true ∧ lineWrittenOver.rst.held = [] ∧ lineWrittenOver.mrg.err.fly = [] ∧
    (lineWrittenOver.seg.hist.map (·.line)).head? = some lineHeld.line := by
  decide +kernel

/-- The line taken in is thresholded to no effect, but the older one, thresholded before it, is written back in both places. -/
theorem exec_lineLabel_heldTwice :
    exec (.lineLabel 0) ⟨lineHeldTwice, [], []⟩ = .next (State.put ⟨lineHeldTwice, [], []⟩ lineWrittenOver) := by
  rw [← lineWrittenOver.settle_of_calm lineWrittenOver_facts.1]
  rfl

/-- Refutes O48, in its clause about LINE_LABEL: where segmentation holds a line 8 already, the line 8 taken in is not the newest line held after
it, as the older one is written over it. The statement does not ask that the lines held bear different numbers. -/
theorem not_lineStages : ¬ Obligations.LineStages := by
  intro h
  obtain ⟨-, -, -, -, hlabel, -⟩ := h ⟨lineHeldTwice, [], []⟩ 0
  obtain ⟨hover, hplain⟩ := lineHeldTwice_facts
  obtain ⟨-, hheld, hfly, hline⟩ := lineWrittenOver_facts
  obtain ⟨d, ⟨-, -, hnewest, -⟩, hseg⟩ := seg_of_makes exec_lineLabel_heldTwice hheld hfly (hlabel lineRepeated [] rfl (.inl hover) rfl hplain)
  rw [hseg, hline] at hnewest
  exact absurd hnewest (by decide)

end Sys2Proof.Machine
end

section
/-! Writes of registers whose bits ask for something that a course boundary, a line or the writer of the loft brings: COEF_CTRL, CM_CTRL, REP_CAPTURE,
BANK_CTRL, ROLL_CTRL, LOFT_CTRL (R9, R168, R169, R222, R228, R250, R251, R264, R274). -/

namespace Sys2Proof.Machine

/-! ### Fields that a write leaves alone -/

/-- No write of the register changes the bits of f: every field that shares bits with it is read-only. -/
def Reg.fixes (r : Reg) (f : Fld) : Bool :=
  r.fields.all (fun x => x.acc = .ro || f.lo + f.w ≤ x.fld.lo || x.fld.lo + x.fld.w ≤ f.lo)

/-- A write of a field reaches no bits outside it, and none at all where it is read-only. -/
theorem fget_writeField_apart (x : FieldRow) (wm : W64) (locked first : Bool) (old new : W64) {f : Fld} (hf : f.lo + f.w ≤ 64)
    (h : x.acc = .ro ∨ f.lo + f.w ≤ x.fld.lo ∨ x.fld.lo + x.fld.w ≤ f.lo) : fget (writeField x wm locked first old new).1 f = fget old f := by
  by_cases hm : wm &&& x.fld.mask = 0
  · rw [writeField, if_pos hm]
  · rcases h with hro | happart
    · simp only [writeField, if_neg hm, hro]
    · have hset (n : Nat) : fget (fset old x.fld n) f = fget old f := fget_fset_ne _ _ _ _ happart hf
      simp only [writeField, if_neg hm]
      cases x.acc <;> cases locked <;> cases first <;> simp [hset]

theorem fget_storeFields_of_fixes {r : Reg} {f : Fld} (h : r.fixes f = true) (hf : f.lo + f.w ≤ 64) (wm old new : W64) :
    fget (storeFields r wm false (fun _ => false) old new).1 f = fget old f := by
  rw [storeFields_eq_foldl]
  refine List.foldlRecOn r.fields _ (motive := fun s : W64 × Bool × Bool => fget s.1 f = fget old f) rfl fun s hs x hx => ?_
  have hx' := List.all_eq_true.mp h x hx
  simp only [Bool.or_eq_true, decide_eq_true_eq, or_assoc] at hx'
  rw [← hs]
  exact fget_writeField_apart x wm _ false s.1 new hf hx'

/-! ### One register written -/

/-- The block e is d with the register of a part written: what no write changes of it stands there, and all else is as it was. -/
def Dev.Written (d : Dev) (p : Part) (e : Dev) : Prop :=
  ∃ v c q, e = { d.wr p.addr v with cycle := c, nextRst := q } ∧ ∀ f, p.reg.fixes f = true → f.lo + f.w ≤ 64 → fget v f = fget (d.rd p.addr) f

theorem Dev.Written.rd_ne {d e : Dev} {p : Part} (h : d.Written p e) {b : Nat} (hb : b ≠ p.addr) : e.rd b = d.rd b := by
  obtain ⟨v, c, q, rfl, -⟩ := h
  exact d.rd_wr_ne v hb

theorem Dev.Written.rdF_fixed {d e : Dev} {p : Part} (h : d.Written p e) {f : Fld} (hfix : p.reg.fixes f = true) (hf : f.lo + f.w ≤ 64) :
    e.rdF p.addr f = d.rdF p.addr f := by
  obtain ⟨v, c, q, rfl, hkept⟩ := h
  exact (congrArg (fget · f) (d.rd_wr_self p.addr v)).trans (hkept f hfix hf)

theorem Dev.Written.same {d e : Dev} {p : Part} (h : d.Written p e) :
    e.cls = d.cls ∧ e.seg = d.seg ∧ e.mode = d.mode ∧ e.tab = d.tab ∧ e.inForce = d.inForce ∧ e.spare = d.spare := by
  obtain ⟨v, c, q, rfl, -⟩ := h
  exact ⟨rfl, rfl, rfl, rfl, rfl, rfl⟩

/-- An access of n bytes at an address reaches one part, apart from what logs and mirrors, in which a bit can be asked for. -/
abbrev ActsAt (a n : Nat) (p : Part) : Prop :=
  sizeOk a n = true ∧ inTbl a = false ∧ inRng a = false ∧ inAon a = false ∧ accessParts a n = some [p] ∧ 0x90000 ≤ p.addr ∧ p.addr ≠ a_RDG_STAT ∧
    ∃ x ∈ p.reg.fields, p.mask &&& x.fld.mask ≠ 0 ∧ x.acc = .w1s

/-- A write to a part that takes bits sets off what the part does, also where some of them take effect at the next reset. -/
theorem Dev.writePart_written (d : Dev) (p : Part) (w : W64) (hlock : d.isLocked p.unit = false) (hrefuse : d.writeRefused p .host = false)
    (hwpu : p.unit ≠ .wpu) (htakes : ∃ x ∈ p.reg.fields, p.mask &&& x.fld.mask ≠ 0 ∧ x.acc = .w1s) : ∃ e bad, d.Written p e ∧
      d.writePart p w .host = (e.writeEffect p.unit p.addr (p.index.headD 0) p.mask (d.reaches p w) (d.rd p.addr) .host, bad, true) := by
  obtain ⟨x, hx, hm, hacc⟩ := htakes
  have htook := storeFields_takes (d.rd p.addr) (d.reaches p w) hx hm (.inl hacc)
  have hdir : (d.partRefused p (d.reaches p w) .host && p.unit == .wpu) = false := by simp [hwpu]
  have hkept (f : Fld) (h : p.reg.fixes f = true) (hf : f.lo + f.w ≤ 64) := fget_storeFields_of_fixes h hf p.mask (d.rd p.addr) (d.reaches p w)
  unfold Dev.writePart
  rw [if_neg (by simp [hrefuse])]
  simp only [hdir, hlock, Bool.false_and, htook, Bool.not_true, Bool.false_eq_true, if_false]
  refine ⟨_, _, ?_, rfl⟩
  split
  · exact ⟨_, _, _, rfl, hkept⟩
  · exact ⟨_, _, _, rfl, hkept⟩

/-- A host write of a register that acts, and changes no register but its own: what it sets off decides what holds after it. -/
theorem makes_of_written {i : Instr} {s : State} {a n v : Nat} {p : Part} {w : W64} {P : Dev → Prop} (hexec : exec i s = .next (s.hostWrite a n v))
    (hat : ActsAt a n p) (hw : BitVec.ofNat 64 (v % 256 ^ n) = w) (hplain : s.dev.plainErr 0x0D = true) (htakes : s.dev.takesWrites p.unit = true)
    (hrefuse : s.dev.writeRefused p .host = false) (hwpu : p.unit ≠ .wpu) (htwins : ∀ e : Dev, e.spare = s.dev.spare → e.writeTwins p w .host = e)
    (hquiet : ∀ (d : Dev) q m, P d → P { d with seqs := q, mrg := m })
    (h : ∀ d, s.dev.Written p d → ∃ e, d.writeEffect p.unit p.addr (p.index.headD 0) p.mask (s.dev.reaches p w) (s.dev.rd p.addr) .host = e ∧
      P e ∧ e.spare = d.spare ∧ ∀ b, b ≠ p.addr → e.rd b = d.rd b) : Makes i s P := by
  obtain ⟨hsize, htbl, hrng, haon, hparts, hlow, hrdg, hbit⟩ := hat
  have hpair := Dev.unpaired_of_takesWrites htakes
  simp only [Dev.takesWrites, Bool.and_eq_true, Bool.not_eq_true'] at htakes
  obtain ⟨⟨hreach, hlock⟩, -⟩ := htakes
  obtain ⟨d, bad, hd, hpart⟩ := s.dev.writePart_written p w hlock hrefuse hwpu hbit
  obtain ⟨e, he, hP, hspare, hrd⟩ := h d hd
  rw [he] at hpart
  have hlogs : e.plainErr 0x0D = true ∧ e.established = false := Dev.logs_of_rd hplain hpair fun b hb => by
    have hne : b ≠ p.addr := by
      rintro rfl
      omega
    rw [hrd b hne, hd.rd_ne hne]
  obtain ⟨-, -, -, -, -, hspare'⟩ := hd.same
  have hsame : e.writeTwins p w .host = e := htwins e (hspare.trans hspare')
  obtain ⟨f, hf, hend⟩ := s.dev.endWrite_regWrite_single w .host haon hparts hreach
  have hfe : f = e := by
    rw [hpart, hsame, Dev.mirrorWrite_of_alone _ _ _ _ hlogs.2, or_self] at hf
    exact hf
  refine makes_of_access hexec ?_
  rw [Dev.busAccess_write _ _ hsize htbl hrng, leNat_padTo_leBytes, hw]
  rcases hend with h | h
  · rw [h, hfe]
    exact hP
  · obtain ⟨q, m, hlog⟩ := e.lockViolation_eq a .host hlogs.1
    rw [h, hfe, hlog]
    exact hquiet e q m hP

/-! ### The registers -/

/-- The parts that the strobes write: the registers of this section, whole. -/
def coefCtrlPart (n : Fin 17) : Part := ⟨a_PIPE_COEF_CTRL n, .pipe n, r_PIPE_COEF_CTRL, [], 0, 4, 0⟩
def cmCtrlPart : Part := ⟨a_SEG_CM_CTRL, .seg, r_SEG_CM_CTRL, [], 0, 4, 0⟩
def repCapturePart : Part := ⟨a_SEG_REP_CAPTURE, .seg, r_SEG_REP_CAPTURE, [], 0, 8, 0⟩
def bankCtrlPart : Part := ⟨a_CLS_BANK_CTRL, .cls, r_CLS_BANK_CTRL, [], 0, 4, 0⟩
def rollCtrlPart : Part := ⟨a_CLS_ROLL_CTRL, .cls, r_CLS_ROLL_CTRL, [], 0, 8, 0⟩
def loftCtrlPart : Part := ⟨a_CLS_LOFT_CTRL, .cls, r_CLS_LOFT_CTRL, [], 0, 8, 0⟩

theorem actsAt_coefCtrl : ∀ n : Fin 17, ActsAt (a_PIPE_COEF_CTRL n) 4 (coefCtrlPart n) := by decide +kernel
theorem strobeAt_cmCtrl : StrobeAt a_SEG_CM_CTRL 4 cmCtrlPart := by decide +kernel
theorem actsAt_repCapture : ActsAt a_SEG_REP_CAPTURE 8 repCapturePart := by decide +kernel
theorem actsAt_bankCtrl : ActsAt a_CLS_BANK_CTRL 4 bankCtrlPart := by decide +kernel
theorem actsAt_rollCtrl : ActsAt a_CLS_ROLL_CTRL 8 rollCtrlPart := by decide +kernel
theorem actsAt_loftCtrl : ActsAt a_CLS_LOFT_CTRL 8 loftCtrlPart := by decide +kernel

/-- The bits written to a part without W1C fields reach it all. -/
theorem Dev.reaches_of_lay (d : Dev) {p : Part} {w : W64} (hlay : p.lay w = w) (hclear : p.reg.accMask .w1c = 0) : d.reaches p w = w := by
  rw [Dev.reaches, hlay, hclear, show masksAt d.cycle.flags p.addr &&& 0 = 0#64 from BitVec.and_zero, BitVec.not_zero, BitVec.and_allOnes]

theorem Part.lay_word4 (p : Part) (data : W32) (hlo : p.lo = 0) (hn : p.n = 4) (hat : p.at_ = 0) : p.lay (data.setWidth 64) = data.setWidth 64 := by
  have h := and_mask4 p data hlo hn
  simp [Part.lay, hlo, hat, h]

theorem Part.lay_word8 (p : Part) (data : W64) (hlo : p.lo = 0) (hn : p.n = 8) (hat : p.at_ = 0) : p.lay data = data := by
  have hmask : p.mask = BitVec.allOnes 64 := by
    rw [Part.mask, hlo, hn]
    decide
  rw [Part.lay, hlo, hat, hmask, BitVec.and_allOnes, Nat.mul_zero, BitVec.ushiftRight_zero, BitVec.shiftLeft_zero]

/-! ### What the registers set off -/

/-- A write of COEF_CTRL acts on MARK, then on SWAP. -/
theorem Dev.writeEffect_coefCtrl (d : Dev) (n : Fin 17) (i : Nat) (wm data old : W64) (src : AccSrc) :
    let d' := (d.wrB (a_PIPE_COEF_CTRL n) f_PIPE_COEF_CTRL_MARK false).wrB (a_PIPE_COEF_CTRL n) f_PIPE_COEF_CTRL_SWAP
      (fbit old f_PIPE_COEF_CTRL_SWAP)
    d.writeEffect (.pipe n) (a_PIPE_COEF_CTRL n) i wm data old src =
      (let d := if fbit data f_PIPE_COEF_CTRL_MARK then d'.coefMark n else d'
       if fbit data f_PIPE_COEF_CTRL_SWAP then d.coefSwap n else d) := if_pos rfl

theorem Dev.writeEffect_cmCtrl (d : Dev) (i : Nat) (wm data old : W64) (src : AccSrc) : d.writeEffect .seg a_SEG_CM_CTRL i wm data old src = d := by
  unfold Dev.writeEffect
  dsimp only
  rw [if_neg (by decide)]

theorem Dev.writeEffect_repCapture (d : Dev) (i : Nat) (wm data old : W64) (src : AccSrc) (hgo : fbit data f_SEG_REP_CAPTURE_GO = true) :
    d.writeEffect .seg a_SEG_REP_CAPTURE i wm data old src = (d.wrB a_SEG_REP_CAPTURE f_SEG_REP_CAPTURE_GO false).captureGo := by
  unfold Dev.writeEffect
  dsimp only
  rw [if_pos rfl, if_pos hgo]

/-- A write of BANK_CTRL acts on MARK, then on SWAP. -/
theorem Dev.writeEffect_bankCtrl (d : Dev) (i : Nat) (wm data old : W64) (src : AccSrc) :
    let d' := (d.wrB a_CLS_BANK_CTRL f_CLS_BANK_CTRL_MARK false).wrB a_CLS_BANK_CTRL f_CLS_BANK_CTRL_SWAP (fbit old f_CLS_BANK_CTRL_SWAP)
    d.writeEffect .cls a_CLS_BANK_CTRL i wm data old src =
      (let d := if fbit data f_CLS_BANK_CTRL_MARK then d'.bankMark else d'
       if fbit data f_CLS_BANK_CTRL_SWAP then d.bankSwap else d) := by
  intro d'
  unfold Dev.writeEffect
  dsimp only
  rw [if_pos rfl]

theorem Dev.writeEffect_rollCtrl (d : Dev) (i : Nat) (wm data old : W64) (src : AccSrc) (hnow : fbit data f_CLS_ROLL_CTRL_NOW = true) :
    d.writeEffect .cls a_CLS_ROLL_CTRL i wm data old src =
      { d.wrB a_CLS_ROLL_CTRL f_CLS_ROLL_CTRL_NOW false with cls := { d.cls with rollDue := d.cls.rollDue ++ [⟨0, none, 0, none⟩] } } := by
  unfold Dev.writeEffect
  dsimp only
  rw [if_neg (by decide), if_pos rfl, if_pos hnow]
  rfl

/-- A write of LOFT_CTRL acts on RESUME, then on FREEZE. -/
theorem Dev.writeEffect_loftCtrl (d : Dev) (i : Nat) (wm data old : W64) (src : AccSrc) :
    let d' := (d.wrB a_CLS_LOFT_CTRL f_CLS_LOFT_CTRL_RESUME false).wrB a_CLS_LOFT_CTRL f_CLS_LOFT_CTRL_FREEZE false
    d.writeEffect .cls a_CLS_LOFT_CTRL i wm data old src =
      (let d := if fbit data f_CLS_LOFT_CTRL_RESUME then d'.loftResume else d'
       if fbit data f_CLS_LOFT_CTRL_FREEZE then d.loftFreeze else d) := by
  intro d'
  unfold Dev.writeEffect
  dsimp only
  rw [if_neg (by decide), if_neg (by decide), if_pos rfl]

end Sys2Proof.Machine
end

section
/-! What those writes make: O40. -/

namespace Sys2Proof.Machine

/-! ### Coefficient banks (R168, R169) -/

theorem Dev.rdF_wrB_disjoint (d : Dev) (a : Nat) {f g : Fld} (b : Bool) (h : g.lo + g.w ≤ f.lo ∨ f.lo + f.w ≤ g.lo) (hg : g.lo + g.w ≤ 64) :
    (d.wrB a f b).rdF a g = d.rdF a g := Dev.rdF_wrF_disjoint _ _ _ h hg

/-- MARK sets LOADED of the bank not in force of a set that is not wide. -/
theorem Dev.coefMark_narrow (d : Dev) (n : Nat) (hwide : d.inB (a_PIPE_COEF_CTRL n) f_PIPE_COEF_CTRL_WIDE = false) :
    ((d.coefMark n).rdF (a_PIPE_COEF_CTRL n) f_PIPE_COEF_CTRL_LOADED).testBit (1 - d.rdF (a_PIPE_COEF_CTRL n) f_PIPE_COEF_CTRL_IN_FORCE) = true ∧
      (d.coefMark n).rdB (a_PIPE_COEF_CTRL n) f_PIPE_COEF_CTRL_SWAP = d.rdB (a_PIPE_COEF_CTRL n) f_PIPE_COEF_CTRL_SWAP ∧
      (d.coefMark n).spare = d.spare ∧ ∀ b, b ≠ a_PIPE_COEF_CTRL n → (d.coefMark n).rd b = d.rd b := by
  have hbank : d.rdF (a_PIPE_COEF_CTRL n) f_PIPE_COEF_CTRL_IN_FORCE < 2 := fget_lt _ _
  simp only [Dev.coefMark, hwide, Bool.false_eq_true, if_false]
  refine ⟨?_, Dev.rdB_wrF_disjoint _ _ _ (.inl (by decide)) (by decide), rfl, fun b hb => Dev.rd_wrF_ne _ _ _ hb⟩
  rw [Dev.rdF_wrF_self _ _ _ _ (by decide), Nat.testBit_mod_two_pow, Nat.testBit_or]
  split
  next h => simp [h, Nat.testBit]
  next h => simp [show d.rdF (a_PIPE_COEF_CTRL n) f_PIPE_COEF_CTRL_IN_FORCE = 1 by omega]

theorem Dev.writeTwins_alone {d e : Dev} (n : Fin 17) (w : W64) (hspare : e.spare = d.spare) (h : d.pipeTwins n = [n.val]) :
    e.writeTwins (coefCtrlPart n) w .host = e := by
  have htwins : e.pipeTwins n = [n.val] := by
    rw [← h]
    unfold Dev.pipeTwins
    rw [hspare]
  simp [Dev.writeTwins, coefCtrlPart, htwins]

theorem coefCtrlPart_bits (n : Fin 17) : (coefCtrlPart n).reg.accMask .w1c = 0 ∧ (coefCtrlPart n).reg.fixes f_PIPE_COEF_CTRL_IN_FORCE = true ∧
    (coefCtrlPart n).reg.fixes f_PIPE_COEF_CTRL_LOADED = true := by
  revert n
  decide +kernel

/-- A write of COEF_CTRL makes what MARK and SWAP set off, with SWAP as it was before. -/
theorem makes_coefCtrl {i : Instr} {s : State} (hplain : s.dev.plainErr 0x0D = true) (n : Fin 17) (data : W32)
    (hexec : exec i s = .next (s.hostWrite (a_PIPE_COEF_CTRL n) 4 data.toNat)) (htakes : s.dev.takesWrites (.pipe n) = true)
    (halone : s.dev.pipeTwins n = [n.val]) {P : Dev → Prop} (hquiet : ∀ (d : Dev) q m, P d → P { d with seqs := q, mrg := m })
    (h : ∀ d : Dev, d.inB (a_PIPE_COEF_CTRL n) f_PIPE_COEF_CTRL_WIDE = s.dev.inB (a_PIPE_COEF_CTRL n) f_PIPE_COEF_CTRL_WIDE →
      (∀ b, b ≠ a_PIPE_COEF_CTRL n → d.rd b = s.dev.rd b) →
      d.rdF (a_PIPE_COEF_CTRL n) f_PIPE_COEF_CTRL_IN_FORCE = s.dev.rdF (a_PIPE_COEF_CTRL n) f_PIPE_COEF_CTRL_IN_FORCE →
      d.rdF (a_PIPE_COEF_CTRL n) f_PIPE_COEF_CTRL_LOADED = s.dev.rdF (a_PIPE_COEF_CTRL n) f_PIPE_COEF_CTRL_LOADED →
      d.rdB (a_PIPE_COEF_CTRL n) f_PIPE_COEF_CTRL_SWAP = s.dev.rdB (a_PIPE_COEF_CTRL n) f_PIPE_COEF_CTRL_SWAP →
      ∃ e, (let d := if fbit (data.setWidth 64) f_PIPE_COEF_CTRL_MARK then d.coefMark n else d
        if fbit (data.setWidth 64) f_PIPE_COEF_CTRL_SWAP then d.coefSwap n else d) = e ∧ P e ∧ e.spare = d.spare ∧
        ∀ b, b ≠ a_PIPE_COEF_CTRL n → e.rd b = d.rd b) : Makes i s P := by
  have hpair := Dev.unpaired_of_takesWrites htakes
  obtain ⟨hclear, hfix, hfix'⟩ := coefCtrlPart_bits n
  refine makes_of_written hexec (actsAt_coefCtrl n) (ofNat_bytes4 data) hplain htakes (by simp [Dev.writeRefused, hpair, coefCtrlPart]) nofun
    (fun e he => Dev.writeTwins_alone n _ he halone) hquiet fun x hx => ?_
  rw [s.dev.reaches_of_lay (Part.lay_word4 _ data rfl rfl rfl) hclear]
  obtain ⟨d, hd⟩ : ∃ d, d = (x.wrB (a_PIPE_COEF_CTRL n) f_PIPE_COEF_CTRL_MARK false).wrB (a_PIPE_COEF_CTRL n) f_PIPE_COEF_CTRL_SWAP
    (s.dev.rdB (a_PIPE_COEF_CTRL n) f_PIPE_COEF_CTRL_SWAP) := ⟨_, rfl⟩
  have hrd (b : Nat) (hb : b ≠ a_PIPE_COEF_CTRL n) : d.rd b = x.rd b := by rw [hd, Dev.rd_wrB_ne _ _ _ hb, Dev.rd_wrB_ne _ _ _ hb]
  obtain ⟨-, -, -, -, hforce, -⟩ := hx.same
  have hform : d.inB (a_PIPE_COEF_CTRL n) f_PIPE_COEF_CTRL_WIDE = s.dev.inB (a_PIPE_COEF_CTRL n) f_PIPE_COEF_CTRL_WIDE := by
    rw [Dev.inB, Dev.inB, ← hforce, hd]
    rfl
  have hbank : d.rdF (a_PIPE_COEF_CTRL n) f_PIPE_COEF_CTRL_IN_FORCE = s.dev.rdF (a_PIPE_COEF_CTRL n) f_PIPE_COEF_CTRL_IN_FORCE := by
    rw [hd, Dev.rdF_wrB_disjoint _ _ _ (.inr (by decide)) (by decide), Dev.rdF_wrB_disjoint _ _ _ (.inr (by decide)) (by decide)]
    exact hx.rdF_fixed hfix (by decide)
  have hloaded : d.rdF (a_PIPE_COEF_CTRL n) f_PIPE_COEF_CTRL_LOADED = s.dev.rdF (a_PIPE_COEF_CTRL n) f_PIPE_COEF_CTRL_LOADED := by
    rw [hd, Dev.rdF_wrB_disjoint _ _ _ (.inr (by decide)) (by decide), Dev.rdF_wrB_disjoint _ _ _ (.inr (by decide)) (by decide)]
    exact hx.rdF_fixed hfix' (by decide)
  obtain ⟨e, he, hP, hspare, hkept⟩ := h d hform (fun b hb => (hrd b hb).trans (hx.rd_ne hb)) hbank hloaded
    (by rw [hd, Dev.rdB_wrB_self _ _ _ _ (by decide) (by decide)])
  refine ⟨e, ?_, hP, by rw [hspare, hd]; rfl, fun b hb => (hkept b hb).trans (hrd b hb)⟩
  rw [← he, hd]
  exact x.writeEffect_coefCtrl n _ _ _ _ _

theorem makes_coefMark {s : State} (hplain : s.dev.plainErr 0x0D = true) (n : Fin 17) (data : W32) (htakes : s.dev.takesWrites (.pipe n) = true)
    (halone : s.dev.pipeTwins n = [n.val]) (hwide : s.dev.inB (a_PIPE_COEF_CTRL n) f_PIPE_COEF_CTRL_WIDE = false)
    (hmark : fbit (data.setWidth 64) f_PIPE_COEF_CTRL_MARK = true) (hswap : fbit (data.setWidth 64) f_PIPE_COEF_CTRL_SWAP = false) :
    Makes (.coefMark n data) s (fun d => (d.rdF (a_PIPE_COEF_CTRL n) f_PIPE_COEF_CTRL_LOADED).testBit
        (1 - s.dev.rdF (a_PIPE_COEF_CTRL n) f_PIPE_COEF_CTRL_IN_FORCE) = true ∧
      d.rdB (a_PIPE_COEF_CTRL n) f_PIPE_COEF_CTRL_SWAP = s.dev.rdB (a_PIPE_COEF_CTRL n) f_PIPE_COEF_CTRL_SWAP ∧
      ∀ b, b ≠ a_PIPE_COEF_CTRL n → d.rd b = s.dev.rd b) := by
  refine makes_coefCtrl hplain n data rfl htakes halone (fun _ _ _ h => h) fun d hform hrd hbank _ hpend => ?_
  simp only [hmark, hswap, Bool.false_eq_true, if_false, if_true]
  obtain ⟨hbit, hsame, hspare, hkept⟩ := d.coefMark_narrow n (hform.trans hwide)
  exact ⟨_, rfl, ⟨hbank ▸ hbit, hsame.trans hpend, fun b hb => (hkept b hb).trans (hrd b hb)⟩, hspare, hkept⟩

theorem makes_coefSwap {s : State} (hplain : s.dev.plainErr 0x0D = true) (n : Fin 17) (data : W32) (htakes : s.dev.takesWrites (.pipe n) = true)
    (halone : s.dev.pipeTwins n = [n.val]) (hwide : s.dev.inB (a_PIPE_COEF_CTRL n) f_PIPE_COEF_CTRL_WIDE = false)
    (hmark : fbit (data.setWidth 64) f_PIPE_COEF_CTRL_MARK = false) (hswap : fbit (data.setWidth 64) f_PIPE_COEF_CTRL_SWAP = true) :
    Makes (.coefSwap n data) s (fun d => d.rdB (a_PIPE_COEF_CTRL n) f_PIPE_COEF_CTRL_SWAP = true ∧
      d.rdF (a_PIPE_COEF_CTRL n) f_PIPE_COEF_CTRL_LOADED = s.dev.rdF (a_PIPE_COEF_CTRL n) f_PIPE_COEF_CTRL_LOADED ∧
      ∀ b, b ≠ a_PIPE_COEF_CTRL n → d.rd b = s.dev.rd b) := by
  refine makes_coefCtrl hplain n data rfl htakes halone (fun _ _ _ h => h) fun d hform hrd _ hloaded _ => ?_
  have hwaits : d.coefSwap n = d.wrB (a_PIPE_COEF_CTRL n) f_PIPE_COEF_CTRL_SWAP true := if_neg (by simp [hform, hwide])
  simp only [hmark, hswap, hwaits, Bool.false_eq_true, if_false, if_true]
  have hkept (b : Nat) (hb : b ≠ a_PIPE_COEF_CTRL n) := d.rd_wrB_ne f_PIPE_COEF_CTRL_SWAP true hb
  exact ⟨_, rfl, ⟨Dev.rdB_wrB_self _ _ _ _ (by decide) (by decide),
    (d.rdF_wrB_disjoint _ _ (.inr (by decide)) (by decide)).trans hloaded, fun b hb => (hkept b hb).trans (hrd b hb)⟩, rfl, hkept⟩

/-! ### The column model's clears and the capture (R222, R228) -/

/-- A clear asked for is gathered with those that wait. -/
theorem fget_cmCtrl_stored (old : W64) (data : W32) :
    fget (storeFields r_SEG_CM_CTRL cmCtrlPart.mask false (fun _ => false) old (data.setWidth 64)).1 f_SEG_CM_CTRL_CLEAR =
      fget old f_SEG_CM_CTRL_CLEAR ||| data.toNat % 2 ^ 16 := by
  have hmask : ¬ cmCtrlPart.mask &&& f_SEG_CM_CTRL_CLEAR.mask = 0 := by decide
  have hnew : fget (data.setWidth 64) f_SEG_CM_CTRL_CLEAR = data.toNat % 2 ^ 16 := by
    have := data.isLt
    simp only [fget, BitVec.toNat_setWidth, Nat.shiftRight_zero]
    omega
  have hlt := Nat.or_lt_two_pow (fget_lt old f_SEG_CM_CTRL_CLEAR) (fget_lt (data.setWidth 64) f_SEG_CM_CTRL_CLEAR)
  simp only [storeFields, r_SEG_CM_CTRL, List.foldl_cons, List.foldl_nil, writeField, if_neg hmask, and_mask4 cmCtrlPart data rfl rfl,
    Bool.false_eq_true, if_false]
  rw [fget_fset_self _ _ _ (by decide), Nat.mod_eq_of_lt hlt, hnew]

theorem makes_cmClear {s : State} (hplain : s.dev.plainErr 0x0D = true) (data : W32) (htakes : s.dev.takesWrites .seg = true) :
    Makes (.cmClear data) s (fun d => d.seg = s.dev.seg ∧
      d.rdF a_SEG_CM_CTRL f_SEG_CM_CTRL_CLEAR = (s.dev.rdF a_SEG_CM_CTRL f_SEG_CM_CTRL_CLEAR) ||| (data.toNat % 2 ^ 16)) := by
  have hpair := Dev.unpaired_of_takesWrites htakes
  refine makes_of_strobe rfl strobeAt_cmCtrl (ofNat_bytes4 data) htakes (by simp [Dev.writeRefused, hpair, cmCtrlPart]) nofun nofun
    ⟨f_SEG_CM_CTRL_CLEAR, .w1s, false, 0, .course⟩ (.head _) (by decide) (.inl rfl) (fun _ _ _ h => h) fun c => ?_
  refine ⟨_, Dev.writeEffect_cmCtrl _ _ _ _ _ _, ⟨rfl, ?_⟩, Dev.logs_of_rd hplain hpair fun a ha => s.dev.rd_stored_ne _ _ c ?_⟩
  · refine (congrArg (fget · f_SEG_CM_CTRL_CLEAR) (s.dev.rd_stored_self cmCtrlPart _ c)).trans ?_
    rw [s.dev.reaches_of_lay (Part.lay_word4 _ data rfl rfl rfl) (by decide)]
    exact fget_cmCtrl_stored _ _
  · rintro rfl
    revert ha
    decide

/-- A capture starts in CALIBRATE. -/
theorem Dev.captureGo_calibrate (d : Dev) (hstart : d.mode.starting = false) (hcur : d.mode.cur = .calibrate) :
    d.captureGo = (({ d with seg := { d.seg with capture := some ⟨false, 0, []⟩ } } : Dev).wrF a_SEG_REP_CAPTURE f_SEG_REP_CAPTURE_ERR 0).wrB
      a_SEG_REP_CAPTURE f_SEG_REP_CAPTURE_BUSY true := if_pos (by simp [hstart, hcur])

theorem Dev.captureGo_refused (d : Dev) (hcur : d.mode.cur ≠ .calibrate) : d.captureGo = d.wrF a_SEG_REP_CAPTURE f_SEG_REP_CAPTURE_ERR 1 :=
  if_neg (by simp [hcur])

/-- GO written makes what starting a capture makes. -/
theorem makes_repCaptureGo {s : State} (hplain : s.dev.plainErr 0x0D = true) (data : W64) (htakes : s.dev.takesWrites .seg = true)
    (hgo : fbit data f_SEG_REP_CAPTURE_GO = true) {P : Dev → Prop} (hquiet : ∀ (d : Dev) q m, P d → P { d with seqs := q, mrg := m })
    (h : ∀ d : Dev, d.mode = s.dev.mode → d.seg = s.dev.seg →
      ∃ e, d.captureGo = e ∧ P e ∧ e.spare = d.spare ∧ ∀ b, b ≠ a_SEG_REP_CAPTURE → e.rd b = d.rd b) : Makes (.repCaptureGo data) s P := by
  have hpair := Dev.unpaired_of_takesWrites htakes
  have happart : repCapturePart.reg.accMask .w1c &&& f_SEG_REP_CAPTURE_GO.mask = 0 := by decide
  refine makes_of_written rfl actsAt_repCapture (ofNat_bytes8 data) hplain htakes (by simp [Dev.writeRefused, hpair, repCapturePart]) nofun
    (fun _ _ => rfl) hquiet fun x hx => ?_
  have hreach : fbit (s.dev.reaches repCapturePart data) f_SEG_REP_CAPTURE_GO = true := by
    rw [Dev.reaches, Part.lay_word8 _ data rfl rfl rfl, fbit, fget_and_not_of_apart _ _ _ _ happart (by decide)]
    exact hgo
  obtain ⟨-, hseg, hmode, -⟩ := hx.same
  obtain ⟨e, he, hP, hspare, hkept⟩ := h (x.wrB a_SEG_REP_CAPTURE f_SEG_REP_CAPTURE_GO false) hmode hseg
  exact ⟨e, (x.writeEffect_repCapture _ _ _ _ _ hreach).trans he, hP, hspare, fun b hb => (hkept b hb).trans (Dev.rd_wrB_ne _ _ _ hb)⟩

theorem makes_repCaptureGo_calibrate {s : State} (hplain : s.dev.plainErr 0x0D = true) (data : W64) (htakes : s.dev.takesWrites .seg = true)
    (hgo : fbit data f_SEG_REP_CAPTURE_GO = true) (hstart : s.dev.mode.starting = false) (hcur : s.dev.mode.cur = .calibrate) :
    Makes (.repCaptureGo data) s (fun d => d.rdB a_SEG_REP_CAPTURE f_SEG_REP_CAPTURE_BUSY = true ∧ d.rdF a_SEG_REP_CAPTURE f_SEG_REP_CAPTURE_ERR = 0 ∧
      d.seg = { s.dev.seg with capture := some ⟨false, 0, []⟩ }) := by
  refine makes_repCaptureGo hplain data htakes hgo (fun _ _ _ h => h) fun d hmode hseg => ?_
  rw [d.captureGo_calibrate (by rw [hmode, hstart]) (by rw [hmode, hcur])]
  refine ⟨_, rfl, ⟨Dev.rdB_wrB_self _ _ _ _ (by decide) (by decide), ?_, by rw [← hseg]; rfl⟩, rfl, fun b hb => ?_⟩
  · rw [Dev.rdF_wrB_disjoint _ _ _ (.inl (by decide)) (by decide), Dev.rdF_wrF_self _ _ _ _ (by decide)]
    rfl
  · exact (Dev.rd_wrB_ne _ _ _ hb).trans (Dev.rd_wrF_ne _ _ _ hb)

theorem makes_repCaptureGo_refused {s : State} (hplain : s.dev.plainErr 0x0D = true) (data : W64) (htakes : s.dev.takesWrites .seg = true)
    (hgo : fbit data f_SEG_REP_CAPTURE_GO = true) (hcur : s.dev.mode.cur ≠ .calibrate) :
    Makes (.repCaptureGo data) s (fun d => d.rdF a_SEG_REP_CAPTURE f_SEG_REP_CAPTURE_ERR = 1 ∧ d.seg = s.dev.seg) := by
  refine makes_repCaptureGo hplain data htakes hgo (fun _ _ _ h => h) fun d hmode hseg => ?_
  rw [d.captureGo_refused (by rw [hmode]; exact hcur)]
  exact ⟨_, rfl, ⟨Dev.rdF_wrF_self _ _ _ _ (by decide), hseg⟩, rfl, fun b hb => Dev.rd_wrF_ne _ _ _ hb⟩

/-! ### Tree banks (R250, R251) -/

/-- LOADED of a bank reads as set. -/
theorem Dev.testBit_setLoaded (d : Dev) {b : Nat} (hb : b < 2) (on : Bool) :
    ((d.setLoaded b on).rdF a_CLS_BANK_CTRL f_CLS_BANK_CTRL_LOADED).testBit b = on := by
  have hset : ∀ v < 4, ∀ b < 2, ∀ on : Bool, ((if on then (if v.testBit b then v - 2 ^ b else v) + 2 ^ b
      else (if v.testBit b then v - 2 ^ b else v)) % 2 ^ 2).testBit b = on := by decide
  rw [Dev.setLoaded, Dev.rdF_wrF_self _ _ _ _ (by decide)]
  exact hset _ (fget_lt _ _) b hb on

/-- What validation finds lies in the tables alone. -/
theorem Dev.bankCheck_congr {d e : Dev} (h : d.tab = e.tab) (b : Nat) : d.bankCheck b = e.bankCheck b := by
  unfold Dev.bankCheck Dev.bankNodes Dev.bankRoot2 Dev.treeNode Dev.tabLe
  rw [h]

theorem Dev.bankWide_congr {d e : Dev} (h : d.tab = e.tab) (b : Nat) : d.bankWide b = e.bankWide b := by
  unfold Dev.bankWide Dev.bankNodes Dev.treeNode Dev.tabLe
  rw [h]

theorem Dev.bankMark_eq (d : Dev) : d.bankMark =
    (((d.wrF a_CLS_BANK_CTRL f_CLS_BANK_CTRL_VAL_ERR (d.bankCheck (1 - d.bankNow)).1).wrF a_CLS_BANK_CTRL f_CLS_BANK_CTRL_VAL_NODE
      (d.bankCheck (1 - d.bankNow)).2).setLoaded (1 - d.bankNow) (decide ((d.bankCheck (1 - d.bankNow)).1 = 0))) := rfl

/-- MARK shows what validation of the idle bank finds, and LOADED says whether it passes. -/
theorem Dev.bankMark_shows (d : Dev) :
    d.bankMark.cls = d.cls ∧ d.bankMark.rdF a_CLS_BANK_CTRL f_CLS_BANK_CTRL_VAL_ERR = (d.bankCheck (1 - d.bankNow)).1 % 16 ∧
      (d.bankMark.rdF a_CLS_BANK_CTRL f_CLS_BANK_CTRL_LOADED).testBit (1 - d.bankNow) = decide ((d.bankCheck (1 - d.bankNow)).1 = 0) ∧
      d.bankMark.spare = d.spare ∧ ∀ b, b ≠ a_CLS_BANK_CTRL → d.bankMark.rd b = d.rd b := by
  rw [d.bankMark_eq]
  refine ⟨rfl, ?_, Dev.testBit_setLoaded _ (by omega) _, rfl, fun b hb => ?_⟩
  · rw [Dev.setLoaded, Dev.rdF_wrF_disjoint _ _ _ (.inr (by decide)) (by decide), Dev.rdF_wrF_disjoint _ _ _ (.inl (by decide)) (by decide)]
    exact Dev.rdF_wrF_self _ _ _ _ (by decide)
  · exact (Dev.rd_wrF_ne _ _ _ hb).trans ((Dev.rd_wrF_ne _ _ _ hb).trans (Dev.rd_wrF_ne _ _ _ hb))

/-- A write of BANK_CTRL makes what MARK and SWAP set off, with SWAP as it was before. -/
theorem makes_bankCtrl {i : Instr} {s : State} (hplain : s.dev.plainErr 0x0D = true) (data : W32)
    (hexec : exec i s = .next (s.hostWrite a_CLS_BANK_CTRL 4 data.toNat)) (htakes : s.dev.takesWrites .cls = true) {P : Dev → Prop}
    (hquiet : ∀ (d : Dev) q m, P d → P { d with seqs := q, mrg := m })
    (h : ∀ d : Dev, d.cls = s.dev.cls → d.tab = s.dev.tab → d.bankNow = s.dev.bankNow →
      d.rdF a_CLS_BANK_CTRL f_CLS_BANK_CTRL_LOADED = s.dev.rdF a_CLS_BANK_CTRL f_CLS_BANK_CTRL_LOADED →
      d.rdB a_CLS_BANK_CTRL f_CLS_BANK_CTRL_SWAP = s.dev.rdB a_CLS_BANK_CTRL f_CLS_BANK_CTRL_SWAP →
      ∃ e, (let d := if fbit (data.setWidth 64) f_CLS_BANK_CTRL_MARK then d.bankMark else d
        if fbit (data.setWidth 64) f_CLS_BANK_CTRL_SWAP then d.bankSwap else d) = e ∧ P e ∧ e.spare = d.spare ∧
        ∀ b, b ≠ a_CLS_BANK_CTRL → e.rd b = d.rd b) : Makes i s P := by
  have hpair := Dev.unpaired_of_takesWrites htakes
  refine makes_of_written hexec actsAt_bankCtrl (ofNat_bytes4 data) hplain htakes (by simp [Dev.writeRefused, hpair, bankCtrlPart]) nofun
    (fun _ _ => rfl) hquiet fun x hx => ?_
  rw [s.dev.reaches_of_lay (Part.lay_word4 _ data rfl rfl rfl) (by decide)]
  obtain ⟨d, hd⟩ : ∃ d, d = (x.wrB a_CLS_BANK_CTRL f_CLS_BANK_CTRL_MARK false).wrB a_CLS_BANK_CTRL f_CLS_BANK_CTRL_SWAP
    (s.dev.rdB a_CLS_BANK_CTRL f_CLS_BANK_CTRL_SWAP) := ⟨_, rfl⟩
  have hrd (b : Nat) (hb : b ≠ a_CLS_BANK_CTRL) : d.rd b = x.rd b := by rw [hd, Dev.rd_wrB_ne _ _ _ hb, Dev.rd_wrB_ne _ _ _ hb]
  have hbank : d.bankNow = s.dev.bankNow := by
    rw [Dev.bankNow, hd, Dev.rdF_wrB_disjoint _ _ _ (.inr (by decide)) (by decide), Dev.rdF_wrB_disjoint _ _ _ (.inr (by decide)) (by decide)]
    exact hx.rdF_fixed (by decide) (by decide)
  have hloaded : d.rdF a_CLS_BANK_CTRL f_CLS_BANK_CTRL_LOADED = s.dev.rdF a_CLS_BANK_CTRL f_CLS_BANK_CTRL_LOADED := by
    rw [hd, Dev.rdF_wrB_disjoint _ _ _ (.inr (by decide)) (by decide), Dev.rdF_wrB_disjoint _ _ _ (.inr (by decide)) (by decide)]
    exact hx.rdF_fixed (by decide) (by decide)
  obtain ⟨hcls, -, -, htab, -, -⟩ := hx.same
  obtain ⟨e, he, hP, hspare, hkept⟩ := h d (by rw [hd]; exact hcls) (by rw [hd]; exact htab) hbank hloaded
    (by rw [hd, Dev.rdB_wrB_self _ _ _ _ (by decide) (by decide)])
  refine ⟨e, ?_, hP, by rw [hspare, hd]; rfl, fun b hb => (hkept b hb).trans (hrd b hb)⟩
  rw [← he, hd]
  exact x.writeEffect_bankCtrl _ _ _ _ _

theorem makes_bankMark {s : State} (hplain : s.dev.plainErr 0x0D = true) (data : W32) (htakes : s.dev.takesWrites .cls = true)
    (hmark : fbit (data.setWidth 64) f_CLS_BANK_CTRL_MARK = true) (hswap : fbit (data.setWidth 64) f_CLS_BANK_CTRL_SWAP = false) :
    Makes (.bankMark data) s (fun d => d.cls = s.dev.cls ∧ d.rdF a_CLS_BANK_CTRL f_CLS_BANK_CTRL_VAL_ERR = (s.dev.bankCheck (1 - s.dev.bankNow)).1 % 16 ∧
      (d.rdF a_CLS_BANK_CTRL f_CLS_BANK_CTRL_LOADED).testBit (1 - s.dev.bankNow) = ((s.dev.bankCheck (1 - s.dev.bankNow)).1 = 0)) := by
  refine makes_bankCtrl hplain data rfl htakes (fun _ _ _ h => h) fun d hcls htab hbank _ _ => ?_
  obtain ⟨hsame, herr, hbit, hspare, hkept⟩ := d.bankMark_shows
  rw [hbank, Dev.bankCheck_congr htab] at herr hbit
  simp only [hmark, hswap, Bool.false_eq_true, if_false, if_true]
  exact ⟨_, rfl, ⟨hsame.trans hcls, herr, by rw [hbit, decide_eq_true_eq]⟩, hspare, hkept⟩

theorem Dev.bankSwap_waits (d : Dev) (hloaded : (d.rdF a_CLS_BANK_CTRL f_CLS_BANK_CTRL_LOADED).testBit (1 - d.bankNow) = true)
    (hnarrow : d.bankWide (1 - d.bankNow) = false) :
    d.bankSwap = (d.wrF a_CLS_BANK_CTRL f_CLS_BANK_CTRL_ERR 0).wrB a_CLS_BANK_CTRL f_CLS_BANK_CTRL_SWAP true := by
  simp [Dev.bankSwap, hloaded, hnarrow]

theorem Dev.bankSwap_unloaded (d : Dev) (hloaded : (d.rdF a_CLS_BANK_CTRL f_CLS_BANK_CTRL_LOADED).testBit (1 - d.bankNow) = false) :
    d.bankSwap = d.wrF a_CLS_BANK_CTRL f_CLS_BANK_CTRL_ERR 1 := if_pos (by simp [hloaded])

theorem makes_bankSwap_loaded {s : State} (hplain : s.dev.plainErr 0x0D = true) (data : W32) (htakes : s.dev.takesWrites .cls = true)
    (hmark : fbit (data.setWidth 64) f_CLS_BANK_CTRL_MARK = false) (hswap : fbit (data.setWidth 64) f_CLS_BANK_CTRL_SWAP = true)
    (hbit : (s.dev.rdF a_CLS_BANK_CTRL f_CLS_BANK_CTRL_LOADED).testBit (1 - s.dev.bankNow) = true) (hnarrow : s.dev.bankWide (1 - s.dev.bankNow) = false) :
    Makes (.bankSwap data) s (fun d => d.rdB a_CLS_BANK_CTRL f_CLS_BANK_CTRL_SWAP = true ∧ d.rdF a_CLS_BANK_CTRL f_CLS_BANK_CTRL_ERR = 0 ∧
      d.bankNow = s.dev.bankNow ∧ d.cls = s.dev.cls) := by
  refine makes_bankCtrl hplain data rfl htakes (fun _ _ _ h => h) fun d hcls htab hbank hloaded _ => ?_
  have hwide : d.bankWide (1 - d.bankNow) = false := by rw [hbank, Dev.bankWide_congr htab, hnarrow]
  simp only [hmark, hswap, Bool.false_eq_true, if_false, if_true]
  rw [d.bankSwap_waits (by rw [hloaded, hbank, hbit]) hwide]
  refine ⟨_, rfl, ⟨Dev.rdB_wrB_self _ _ _ _ (by decide) (by decide), ?err, ?bank, hcls⟩, rfl, fun b hb => ?_⟩
  case err =>
    rw [Dev.rdF_wrB_disjoint _ _ _ (.inr (by decide)) (by decide), Dev.rdF_wrF_self _ _ _ _ (by decide)]
    rfl
  case bank =>
    rw [Dev.bankNow, Dev.rdF_wrB_disjoint _ _ _ (.inr (by decide)) (by decide), Dev.rdF_wrF_disjoint _ _ _ (.inl (by decide)) (by decide)]
    exact hbank
  · exact (Dev.rd_wrB_ne _ _ _ hb).trans (Dev.rd_wrF_ne _ _ _ hb)

theorem makes_bankSwap_unloaded {s : State} (hplain : s.dev.plainErr 0x0D = true) (data : W32) (htakes : s.dev.takesWrites .cls = true)
    (hmark : fbit (data.setWidth 64) f_CLS_BANK_CTRL_MARK = false) (hswap : fbit (data.setWidth 64) f_CLS_BANK_CTRL_SWAP = true)
    (hbit : (s.dev.rdF a_CLS_BANK_CTRL f_CLS_BANK_CTRL_LOADED).testBit (1 - s.dev.bankNow) = false) :
    Makes (.bankSwap data) s (fun d => d.rdB a_CLS_BANK_CTRL f_CLS_BANK_CTRL_SWAP = s.dev.rdB a_CLS_BANK_CTRL f_CLS_BANK_CTRL_SWAP ∧
      d.rdF a_CLS_BANK_CTRL f_CLS_BANK_CTRL_ERR = 1 ∧ d.cls = s.dev.cls) := by
  refine makes_bankCtrl hplain data rfl htakes (fun _ _ _ h => h) fun d hcls _ hbank hloaded hpend => ?_
  simp only [hmark, hswap, Bool.false_eq_true, if_false, if_true]
  rw [d.bankSwap_unloaded (by rw [hloaded, hbank, hbit])]
  exact ⟨_, rfl, ⟨(Dev.rdB_wrF_disjoint _ _ _ (.inl (by decide)) (by decide)).trans hpend, Dev.rdF_wrF_self _ _ _ _ (by decide), hcls⟩, rfl,
    fun b hb => Dev.rd_wrF_ne _ _ _ hb⟩

/-! ### Rolls (R274) -/

theorem makes_rollNow {s : State} (hplain : s.dev.plainErr 0x0D = true) (data : W64) (htakes : s.dev.takesWrites .cls = true)
    (hnow : fbit data f_CLS_ROLL_CTRL_NOW = true) :
    Makes (.rollNow data) s (fun d => d.cls = { s.dev.cls with rollDue := s.dev.cls.rollDue ++ [⟨0, none, 0, none⟩] } ∧
      d.rdB a_CLS_ROLL_CTRL f_CLS_ROLL_CTRL_NOW = false) := by
  have hpair := Dev.unpaired_of_takesWrites htakes
  refine makes_of_written rfl actsAt_rollCtrl (ofNat_bytes8 data) hplain htakes (by simp [Dev.writeRefused, hpair, rollCtrlPart]) nofun
    (fun _ _ => rfl) (fun _ _ _ h => h) fun x hx => ?_
  rw [s.dev.reaches_of_lay (Part.lay_word8 _ data rfl rfl rfl) (by decide)]
  obtain ⟨hcls, -⟩ := hx.same
  refine ⟨_, x.writeEffect_rollCtrl _ _ _ _ _ hnow, ⟨?_, x.rdB_wrB_self _ _ _ (by decide) (by decide)⟩, rfl, fun b hb => x.rd_wrB_ne _ _ hb⟩
  rw [← hcls]

/-! ### The loft (R264) -/

/-- A freeze with a delay waits, where none is in force or on its way. -/
theorem Dev.loftFreeze_waits (d : Dev) (hfrozen : d.cls.frozen = false) (hfree : d.cls.freeze = none)
    (hdelay : d.rdF a_CLS_LOFT_CFG f_CLS_LOFT_CFG_FREEZE_DELAY ≠ 0) :
    d.loftFreeze = { d with cls := { d.cls with freeze := some (d.rdF a_CLS_LOFT_CFG f_CLS_LOFT_CFG_FREEZE_DELAY) } } := by
  have hwaits : ¬ some (d.rdF a_CLS_LOFT_CFG f_CLS_LOFT_CFG_FREEZE_DELAY) = some 0 := by simpa using hdelay
  rw [Dev.loftFreeze, if_neg (by simp [hfrozen, hfree]), Dev.loftStop, if_neg hwaits]

/-- A write of LOFT_CTRL makes what RESUME and FREEZE set off. -/
theorem makes_loftCtrl {i : Instr} {s : State} (hplain : s.dev.plainErr 0x0D = true) (data : W64)
    (hexec : exec i s = .next (s.hostWrite a_CLS_LOFT_CTRL 8 data.toNat)) (htakes : s.dev.takesWrites .cls = true) {P : Dev → Prop}
    (hquiet : ∀ (d : Dev) q m, P d → P { d with seqs := q, mrg := m })
    (h : ∀ d : Dev, d.cls = s.dev.cls → (∀ b, b ≠ a_CLS_LOFT_CTRL → d.rd b = s.dev.rd b) →
      d.rdB a_CLS_LOFT_CTRL f_CLS_LOFT_CTRL_FROZEN = s.dev.rdB a_CLS_LOFT_CTRL f_CLS_LOFT_CTRL_FROZEN →
      ∃ e, (let d := if fbit data f_CLS_LOFT_CTRL_RESUME then d.loftResume else d
        if fbit data f_CLS_LOFT_CTRL_FREEZE then d.loftFreeze else d) = e ∧ P e ∧ e.spare = d.spare ∧
        ∀ b, b ≠ a_CLS_LOFT_CTRL → e.rd b = d.rd b) : Makes i s P := by
  have hpair := Dev.unpaired_of_takesWrites htakes
  refine makes_of_written hexec actsAt_loftCtrl (ofNat_bytes8 data) hplain htakes (by simp [Dev.writeRefused, hpair, loftCtrlPart]) nofun
    (fun _ _ => rfl) hquiet fun x hx => ?_
  rw [s.dev.reaches_of_lay (Part.lay_word8 _ data rfl rfl rfl) (by decide)]
  obtain ⟨d, hd⟩ : ∃ d, d = (x.wrB a_CLS_LOFT_CTRL f_CLS_LOFT_CTRL_RESUME false).wrB a_CLS_LOFT_CTRL f_CLS_LOFT_CTRL_FREEZE false := ⟨_, rfl⟩
  have hrd (b : Nat) (hb : b ≠ a_CLS_LOFT_CTRL) : d.rd b = x.rd b := by rw [hd, Dev.rd_wrB_ne _ _ _ hb, Dev.rd_wrB_ne _ _ _ hb]
  have hfrozen : d.rdB a_CLS_LOFT_CTRL f_CLS_LOFT_CTRL_FROZEN = s.dev.rdB a_CLS_LOFT_CTRL f_CLS_LOFT_CTRL_FROZEN := by
    rw [hd, Dev.rdB_wrB_ne _ _ _ (.inr (by decide)) (by decide), Dev.rdB_wrB_ne _ _ _ (.inr (by decide)) (by decide)]
    exact congrArg (· != 0) (hx.rdF_fixed (f := f_CLS_LOFT_CTRL_FROZEN) (by decide) (by decide))
  obtain ⟨hcls, -⟩ := hx.same
  obtain ⟨e, he, hP, hspare, hkept⟩ := h d (by rw [hd]; exact hcls) (fun b hb => (hrd b hb).trans (hx.rd_ne hb)) hfrozen
  refine ⟨e, ?_, hP, by rw [hspare, hd]; rfl, fun b hb => (hkept b hb).trans (hrd b hb)⟩
  rw [← he, hd]
  exact x.writeEffect_loftCtrl _ _ _ _ _

theorem makes_loftFreeze {s : State} (hplain : s.dev.plainErr 0x0D = true) (data : W64) (htakes : s.dev.takesWrites .cls = true)
    (hfreeze : fbit data f_CLS_LOFT_CTRL_FREEZE = true) (hresume : fbit data f_CLS_LOFT_CTRL_RESUME = false) (hfrozen : s.dev.cls.frozen = false)
    (hfree : s.dev.cls.freeze = none) (hdelay : s.dev.rdF a_CLS_LOFT_CFG f_CLS_LOFT_CFG_FREEZE_DELAY ≠ 0) :
    Makes (.loftFreeze data) s (fun d => d.cls = { s.dev.cls with freeze := some (s.dev.rdF a_CLS_LOFT_CFG f_CLS_LOFT_CFG_FREEZE_DELAY) } ∧
      d.rdB a_CLS_LOFT_CTRL f_CLS_LOFT_CTRL_FROZEN = s.dev.rdB a_CLS_LOFT_CTRL f_CLS_LOFT_CTRL_FROZEN) := by
  refine makes_loftCtrl hplain data rfl htakes (fun _ _ _ h => h) fun d hcls hrd hshown => ?_
  have hsame : d.rdF a_CLS_LOFT_CFG f_CLS_LOFT_CFG_FREEZE_DELAY = s.dev.rdF a_CLS_LOFT_CFG f_CLS_LOFT_CFG_FREEZE_DELAY := by
    rw [Dev.rdF, hrd _ (by decide), Dev.rdF]
  simp only [hfreeze, hresume, Bool.false_eq_true, if_false, if_true]
  rw [d.loftFreeze_waits (by rw [hcls, hfrozen]) (by rw [hcls, hfree]) (by rwa [hsame]), hsame, hcls]
  exact ⟨_, rfl, ⟨rfl, hshown⟩, rfl, fun _ _ => rfl⟩

theorem makes_loftResume {s : State} (hplain : s.dev.plainErr 0x0D = true) (data : W64) (htakes : s.dev.takesWrites .cls = true)
    (hfreeze : fbit data f_CLS_LOFT_CTRL_FREEZE = false) (hresume : fbit data f_CLS_LOFT_CTRL_RESUME = true) :
    Makes (.loftResume data) s (fun d => d.cls = { s.dev.cls with freeze := none, frozen := false } ∧
      d.rdB a_CLS_LOFT_CTRL f_CLS_LOFT_CTRL_FROZEN = false) := by
  refine makes_loftCtrl hplain data rfl htakes (fun _ _ _ h => h) fun d hcls _ _ => ?_
  simp only [hfreeze, hresume, Bool.false_eq_true, if_false, if_true]
  exact ⟨_, rfl, ⟨by rw [← hcls]; rfl, Dev.rdB_wrB_self _ _ _ _ (by decide) (by decide)⟩, rfl, fun b hb => Dev.rd_wrB_ne _ _ _ hb⟩

/-! ### O40 -/

/-- Settles O40: each strobe is a host write of one register, which acts on that register and on the state it asks of alone. -/
theorem courseStrobes : Obligations.CourseStrobes := by
  intro s hplain hseg hcls
  refine ⟨?coef, ?clear, ?capture, ?mark, ?swap, ?roll, ?freeze, ?resume⟩
  case coef =>
    intro n data htakes halone hwide
    exact ⟨makes_coefMark hplain n data htakes halone hwide, makes_coefSwap hplain n data htakes halone hwide⟩
  case clear => exact fun data => makes_cmClear hplain data hseg
  case capture =>
    intro data hgo
    exact ⟨makes_repCaptureGo_calibrate hplain data hseg hgo, makes_repCaptureGo_refused hplain data hseg hgo⟩
  case mark => exact fun data => makes_bankMark hplain data hcls
  case swap =>
    intro data hmark hswap
    exact ⟨makes_bankSwap_loaded hplain data hcls hmark hswap, makes_bankSwap_unloaded hplain data hcls hmark hswap⟩
  case roll => exact fun data => makes_rollNow hplain data hcls
  case freeze => exact fun data => makes_loftFreeze hplain data hcls
  case resume => exact fun data => makes_loftResume hplain data hcls

end Sys2Proof.Machine
end

section
/-! The Thatch engines at work (R277 to R285): what an engine's work makes without cycles, and what it leaves of the block. -/

namespace Sys2Proof.Machine

/-! ### Output that is written, and an engine that waits (R280, R281) -/

section
variable (x : EngSt)

/-- Output goes out as far as the destination has room. -/
theorem EngSt.spill_eq : x.spill = ({ x with todo := x.todo.drop (x.room - x.wrote), wrote := x.wrote + min (x.room - x.wrote) x.todo.length },
    x.todo.take (x.room - x.wrote)) := by
  have hdrop : x.todo.drop (min (x.room - x.wrote) x.todo.length) = x.todo.drop (x.room - x.wrote) := by
    rcases Nat.le_total (x.room - x.wrote) x.todo.length with h | h
    · rw [Nat.min_eq_left h]
    · rw [Nat.min_eq_right h, List.drop_length, List.drop_eq_nil_of_le h]
  simp only [EngSt.spill, List.length_take, hdrop]

@[simp] theorem EngSt.spill_job : x.spill.1.job = x.job := rfl
@[simp] theorem EngSt.spill_ends : x.spill.1.ends = x.ends := rfl
@[simp] theorem EngSt.spill_save : x.spill.1.save = x.save := rfl
@[simp] theorem EngSt.spill_got : x.spill.1.got = x.got := rfl
@[simp] theorem EngSt.spill_need (j : ThaJob) : x.spill.1.need j = x.need j := rfl

end

theorem levelRate_pos (l : Fin 10) : 0 < levelRate l := by
  revert l
  decide

theorem ceilDiv_pos {a b : Nat} (ha : 0 < a) (hb : 0 < b) : 0 < ceilDiv a b := Nat.div_pos (by omega) hb

section
variable {x : EngSt} {j : ThaJob} (hjob : x.job = some j)
include hjob

/-- An engine whose output waits, whose end block is made or whose save is asked for does no more than write. -/
theorem EngSt.work_of_closed (fuel c : Nat) (w : List Byte) (h : x.spill.1.todo ≠ [] ∨ x.ends = true ∨ x.save.isSome = true) :
    x.work (fuel + 1) c w = (x.spill.1, c, w ++ x.spill.2) := by
  have hstop : (!x.spill.1.todo.isEmpty || x.ends || x.save.isSome) = true := by
    rcases h with h | h | h <;> simp [h]
  have hjob' : x.spill.1.job = some j := hjob
  simp only [EngSt.work, hjob', EngSt.spill_ends, EngSt.spill_save, hstop, if_true]

/-- Without cycles an engine that lacks input of its next block does no more than write. -/
theorem EngSt.work_of_lacking (fuel : Nat) (w : List Byte) (hinput : j.input ≠ []) (hgot : x.got < 100 * x.need j) :
    x.work (fuel + 1) 0 w = (x.spill.1, 0, w ++ x.spill.2) := by
  by_cases hclosed : x.spill.1.todo ≠ [] ∨ x.ends = true ∨ x.save.isSome = true
  · exact EngSt.work_of_closed hjob fuel 0 w hclosed
  · have hgoes : (!x.spill.1.todo.isEmpty || x.ends || x.save.isSome) = false := by simpa [and_assoc] using hclosed
    have hjob' : x.spill.1.job = some j := hjob
    have hcost : 0 < ceilDiv (100 * x.need j - x.got) (levelRate j.level) := ceilDiv_pos (by omega) (levelRate_pos j.level)
    simp only [EngSt.work, hjob', EngSt.spill_ends, EngSt.spill_save, EngSt.spill_need, EngSt.spill_got, hgoes, List.isEmpty_iff, hinput, hcost,
      if_true, Bool.false_eq_true, if_false, Nat.zero_mul, Nat.add_zero]
    rw [← hjob']
    rfl

/-- Once all its input is in blocks an engine makes its end block, which needs no cycles, and writes of it what finds room. -/
theorem EngSt.work_of_no_input (fuel c : Nat) (w : List Byte) (htodo : x.spill.1.todo = []) (hends : x.ends = false) (hsave : x.save = none)
    (hinput : j.input = []) :
    x.work (fuel + 2) c w = ({ x.spill.1 with todo := x.enc.endBlock, ends := true }.spill.1, c,
      w ++ x.spill.2 ++ { x.spill.1 with todo := x.enc.endBlock, ends := true }.spill.2) := by
  have hgoes : (!x.spill.1.todo.isEmpty || x.ends || x.save.isSome) = false := by simp [htodo, hends, hsave]
  have hjob' : x.spill.1.job = some j := hjob
  have hstep : x.work (fuel + 2) c w = { x.spill.1 with todo := x.enc.endBlock, ends := true }.work (fuel + 1) c (w ++ x.spill.2) := by
    rw [EngSt.work]
    simp only [hjob', EngSt.spill_ends, EngSt.spill_save, hgoes, hinput, List.isEmpty_nil, if_true, Bool.false_eq_true, if_false]
    rfl
  rw [hstep]
  exact EngSt.work_of_closed (x := { x.spill.1 with todo := x.enc.endBlock, ends := true }) hjob fuel c _ (.inr (.inl rfl))

end

/-- A block that is coded leaves of its engine what does not belong to the stream: the place of the job and its mode, and what was written. -/
theorem EngSt.codeBlock_leaves {x : EngSt} {j : ThaJob} (hjob : x.job = some j) (n : Nat) :
    (∃ rest, (x.codeBlock j n).job = some { j with input := rest }) ∧ (x.codeBlock j n).wrote = x.wrote ∧ (x.codeBlock j n).room = x.room ∧
      (x.codeBlock j n).at_ = x.at_ ∧ (x.codeBlock j n).busy = x.busy ∧ (x.codeBlock j n).save = x.save := by
  unfold EngSt.codeBlock
  split
  split
  · exact ⟨⟨j.input, hjob⟩, rfl, rfl, rfl, rfl, rfl⟩
  · exact ⟨⟨_, rfl⟩, rfl, rfl, rfl, rfl, rfl⟩

/-! ### What work on an engine leaves of the block -/

/-- Work on engine e: of the registers it changes its STAT and CNT alone, and outside them the engines, what the clients used, what goes to the stacks
and the record of the cycle. -/
structure Dev.OnEngine (e : Nat) (d f : Dev) : Prop where
  rest : ∃ es rs b ws c, f = { d with tha := { d.tha with engines := es }, regs := rs, bal := b, hbmw := ws, cycle := c }
  length : f.tha.engines.length = d.tha.engines.length
  rd : ∀ b, b ≠ a_THA_ENG_STAT e → b ≠ a_THA_ENG_CNT e → f.rd b = d.rd b

theorem engStat_ne_engCnt (e k : Nat) : a_THA_ENG_STAT e ≠ a_THA_ENG_CNT k := by
  unfold a_THA_ENG_STAT a_THA_ENG_CNT
  omega

section
variable {e : Nat}

theorem Dev.OnEngine.refl (d : Dev) : d.OnEngine e d := ⟨⟨_, _, _, _, _, rfl⟩, rfl, fun _ _ _ => rfl⟩

theorem Dev.OnEngine.trans {d f g : Dev} (h : d.OnEngine e f) (k : f.OnEngine e g) : d.OnEngine e g := by
  obtain ⟨es, rs, b, ws, c, hf⟩ := h.rest
  obtain ⟨es', rs', b', ws', c', hg⟩ := k.rest
  exact ⟨⟨es', rs', b', ws', c', by rw [hg, hf]⟩, k.length.trans h.length, fun a ha hb => (k.rd a ha hb).trans (h.rd a ha hb)⟩

theorem Dev.OnEngine.same {d f : Dev} (h : d.OnEngine e f) : f.clk = d.clk ∧ f.out = d.out ∧ f.mrg = d.mrg ∧ f.tha.saved = d.tha.saved := by
  obtain ⟨es, rs, b, ws, c, hf⟩ := h.rest
  subst hf
  exact ⟨rfl, rfl, rfl, rfl⟩

theorem Dev.OnEngine.el {d f : Dev} (h : d.OnEngine e f) : f.el = d.el := by
  obtain ⟨hclk, -⟩ := h.same
  rw [Dev.el, hclk, Dev.el]

variable (d : Dev)

/-- Setting an engine stores it, and shows it in its STAT. -/
theorem Dev.setEngine_eq (x : EngSt) (state : Nat) :
    ∃ v, d.setEngine e x state = ({ d with tha := { d.tha with engines := lset d.tha.engines e x } } : Dev).wr (a_THA_ENG_STAT e) v := by
  unfold Dev.setEngine
  extract_lets _ d' a
  split
  exact ⟨_, by simp only [Dev.wrB, Dev.wrF, Dev.wr_wr]; rfl⟩

@[simp] theorem Dev.setEngine_tha (x : EngSt) (state : Nat) :
    (d.setEngine e x state).tha = { d.tha with engines := lset d.tha.engines e x } := by
  obtain ⟨v, h⟩ := d.setEngine_eq (e := e) x state
  rw [h, Dev.wr_tha]

@[simp] theorem Dev.setEngine_hbmw (x : EngSt) (state : Nat) : (d.setEngine e x state).hbmw = d.hbmw := by
  obtain ⟨v, h⟩ := d.setEngine_eq (e := e) x state
  rw [h, Dev.wr_hbmw]

@[simp] theorem Dev.setEngine_el (x : EngSt) (state : Nat) : (d.setEngine e x state).el = d.el := by
  obtain ⟨v, h⟩ := d.setEngine_eq (e := e) x state
  rw [h, Dev.el, Dev.wr_clk, Dev.el]

theorem Dev.engine_setEngine_self (x : EngSt) (state : Nat) (he : e < d.tha.engines.length) : (d.setEngine e x state).engine e = x := by
  rw [Dev.engine, Dev.setEngine_tha, lget_lset_self _ _ _ he]

theorem Dev.rd_setEngine_ne (x : EngSt) (state : Nat) {b : Nat} (hb : b ≠ a_THA_ENG_STAT e) : (d.setEngine e x state).rd b = d.rd b := by
  obtain ⟨v, h⟩ := d.setEngine_eq (e := e) x state
  rw [h, Dev.rd_wr_ne _ _ hb]
  rfl

theorem Dev.onEngine_setEngine (x : EngSt) (state : Nat) : d.OnEngine e (d.setEngine e x state) := by
  refine ⟨?_, by simp [lset], fun b hb _ => d.rd_setEngine_ne x state hb⟩
  obtain ⟨v, h⟩ := d.setEngine_eq (e := e) x state
  exact ⟨_, _, _, _, _, h⟩

/-- STAT shows the state of its engine. -/
theorem Dev.setEngine_state (x : EngSt) (state : Nat) :
    (d.setEngine e x state).rdF (a_THA_ENG_STAT e) f_THA_ENG_STAT_STATE = state % 16 := by
  unfold Dev.setEngine
  extract_lets _ d' a
  split
  rw [Dev.rdF_wrF_disjoint _ _ _ (.inr (by decide)) (by decide), Dev.rdF_wrB_disjoint _ _ _ (.inr (by decide)) (by decide),
    Dev.rdF_wrF_disjoint _ _ _ (.inr (by decide)) (by decide), Dev.rdF_wrF_self _ _ _ _ (by decide)]
  rfl

/-- STAT shows the job of its engine. -/
theorem Dev.setEngine_shows {x : EngSt} {j : ThaJob} (hjob : x.job = some j) (state : Nat) :
    (d.setEngine e x state).rdF (a_THA_ENG_STAT e) f_THA_ENG_STAT_CLIENT = j.client ∧
    (d.setEngine e x state).rdB (a_THA_ENG_STAT e) f_THA_ENG_STAT_MODE = j.bounded ∧
    (d.setEngine e x state).rdF (a_THA_ENG_STAT e) f_THA_ENG_STAT_LEVEL = if j.compress then j.level.val else 0 := by
  simp only [Dev.setEngine, hjob]
  refine ⟨?client, ?mode, ?level⟩
  case client =>
    rw [Dev.rdF_wrF_disjoint _ _ _ (.inr (by decide)) (by decide), Dev.rdF_wrB_disjoint _ _ _ (.inr (by decide)) (by decide),
      Dev.rdF_wrF_self _ _ _ _ (by decide)]
    exact Nat.mod_eq_of_lt (by have := j.client.isLt; dsimp only; omega)
  case mode =>
    rw [Dev.rdB_wrF_disjoint _ _ _ (.inr (by decide)) (by decide), Dev.rdB_wrB_self _ _ _ _ (by decide) (by decide)]
  case level =>
    rw [Dev.rdF_wrF_self _ _ _ _ (by decide)]
    exact Nat.mod_eq_of_lt (by have := j.level.isLt; split <;> (dsimp only; omega))

theorem Dev.onEngine_noteShort (c : Nat) : d.OnEngine e (d.noteShort c) := by
  unfold Dev.noteShort
  split
  · exact .refl d
  · exact ⟨⟨_, _, _, _, _, rfl⟩, rfl, fun _ _ _ => rfl⟩

theorem Dev.onEngine_charge (c : Nat) (x : Demand) : d.OnEngine e (d.charge c x) := ⟨⟨_, _, _, _, _, rfl⟩, rfl, fun _ _ _ => rfl⟩

theorem Dev.onEngine_hbmPut (a : Nat) (bs : List Byte) : d.OnEngine e (d.hbmPut a bs) := by
  unfold Dev.hbmPut
  split
  · exact ⟨⟨_, _, _, _, _, rfl⟩, rfl, fun _ _ _ => rfl⟩
  · exact .refl d

theorem Dev.onEngine_inc (f : Fld) (n : Nat) : d.OnEngine e (d.inc (a_THA_ENG_CNT e) f n) :=
  ⟨⟨_, _, _, _, _, rfl⟩, rfl, fun _ _ hb => d.rd_inc_ne f n hb⟩

theorem Dev.onEngine_engWrote (j : ThaJob) (x y : EngSt) (w : List Byte) (cycles : Nat) : d.OnEngine e (d.engWrote e j x y w cycles) := by
  unfold Dev.engWrote
  extract_lets c units d1 d2
  have h2 : d.OnEngine e d2 := by
    unfold d2
    split
    · exact d.onEngine_charge _ _
    · exact (d.onEngine_charge _ _).trans (Dev.onEngine_hbmPut _ _ _)
  exact h2.trans ((Dev.onEngine_inc _ _ _).trans (Dev.onEngine_inc _ _ _))

theorem Dev.onEngine_engRun : d.OnEngine e (d.engRun e) := by
  unfold Dev.engRun
  extract_lets x
  split
  · exact .refl d
  · extract_lets c n
    split
    · split
      · exact (d.onEngine_noteShort _).trans (Dev.onEngine_setEngine _ _ _)
      · split
        · exact d.onEngine_setEngine _ _
        · exact d.onEngine_setEngine _ _
    · split
      extract_lets short f
      refine .trans ?_ (Dev.onEngine_setEngine _ _ _)
      split
      · exact (d.onEngine_engWrote _ _ _ _ _).trans (Dev.onEngine_noteShort _ _)
      · exact d.onEngine_engWrote _ _ _ _ _

end

/-! ### What an engine writes -/

section
variable (d : Dev) (e : Nat) (j : ThaJob) (x y : EngSt) (w : List Byte) (cycles : Nat)

@[simp] theorem Dev.engWrote_tha : (d.engWrote e j x y w cycles).tha = d.tha := by
  unfold Dev.engWrote Dev.hbmPut
  extract_lets c units d1 d2
  simp only [Dev.inc_tha, d2]
  split
  · rfl
  · split <;> rfl

/-- Where nothing is written, nothing goes to the stacks. -/
theorem Dev.engWrote_nil_hbmw : (d.engWrote e j x y [] cycles).hbmw = d.hbmw := rfl

/-- What is written goes to the job's destination, behind what was written before. -/
theorem Dev.engWrote_hbmw (hw : w ≠ []) (hfits : j.dst + x.wrote + w.length ≤ hbmBytes) :
    (d.engWrote e j x y w cycles).hbmw = d.hbmw ++ [(j.dst + x.wrote, w)] := by
  simp [Dev.engWrote, Dev.hbmPut, hw, hfits, Dev.charge]

/-- CNT counts the KiB of input that were begun meanwhile. -/
theorem Dev.engWrote_inKib : (d.engWrote e j x y w cycles).rdF (a_THA_ENG_CNT e) f_THA_ENG_CNT_IN_KIB =
    min (d.rdF (a_THA_ENG_CNT e) f_THA_ENG_CNT_IN_KIB + (y.coded / 1024 - x.coded / 1024)) (2 ^ 32 - 1) := by
  unfold Dev.engWrote Dev.hbmPut
  extract_lets c units d1 d2
  have hrd : d2.rd (a_THA_ENG_CNT e) = d.rd (a_THA_ENG_CNT e) := by
    unfold d2
    split
    · rfl
    · split <;> rfl
  have hout (f : Dev) (n : Nat) : (f.inc (a_THA_ENG_CNT e) f_THA_ENG_CNT_OUT_KIB n).rdF (a_THA_ENG_CNT e) f_THA_ENG_CNT_IN_KIB =
      f.rdF (a_THA_ENG_CNT e) f_THA_ENG_CNT_IN_KIB := f.rdF_wrF_disjoint _ _ (.inr (by decide)) (by decide)
  rw [hout, Dev.rdF_inc_self _ _ _ _ (by decide), Dev.rdF, hrd, Dev.rdF]

end

/-! ### An engine that works (R277, R281) -/

section
variable {d : Dev} {e : Nat} (he : e < d.tha.engines.length)
include he

/-- An engine whose job has been worked on has worked up to now. -/
theorem Dev.engRun_at (hjob : ((d.engRun e).engine e).job ≠ none) : ((d.engRun e).engine e).at_ = d.el := by
  have hself (f : Dev) (hf : d.OnEngine e f) (x : EngSt) (state : Nat) : (f.setEngine e x state).engine e = x :=
    f.engine_setEngine_self x state (by rw [hf.length]; exact he)
  revert hjob
  unfold Dev.engRun
  extract_lets x
  split
  next hnone => exact fun h => absurd hnone h
  next j hsome =>
    extract_lets c n
    split
    · split
      · rw [hself _ (d.onEngine_noteShort c)]
        exact fun _ => rfl
      · split
        · rw [hself _ (.refl d)]
          exact fun h => absurd rfl h
        · rw [hself _ (.refl d)]
          exact fun _ => rfl
    · split
      extract_lets short f
      have hf : d.OnEngine e f := d.onEngine_engWrote _ _ _ _ _
      have hg : d.OnEngine e (if short = true then f.noteShort c else f) := by
        split
        · exact hf.trans (Dev.onEngine_noteShort _ _)
        · exact hf
      rw [hself _ hg]
      exact fun _ => hf.el

end

section
variable {d : Dev} {e : Nat} {x : EngSt} {j : ThaJob} (hjob : x.job = some j) (hbusy : x.busy = false)
include hjob hbusy

/-- An engine whose output waits for room stays stalled, whatever cycles it had. -/
theorem Dev.engRun_stalled (hx : d.engine e = x) (htodo : x.todo ≠ []) (hfull : x.room = x.wrote) :
    d.engRun e = (d.engWrote e j x x [] 0).setEngine e { x with at_ := d.el } 3 := by
  have hspill : x.spill = (x, []) := by simp [EngSt.spill_eq, show x.room - x.wrote = 0 by omega]
  have hwork (c : Nat) : x.work (jobSteps j) c [] = (x, c, []) := by
    rw [jobSteps, EngSt.work_of_closed hjob _ _ _ (.inl (by rw [hspill]; exact htodo)), hspill]
    rfl
  simp [Dev.engRun, hx, hjob, hbusy, hwork, htodo, EngSt.state, (d.onEngine_engWrote (e := e) j x x [] 0).el]

/-- An engine set now works without cycles: what it writes by that is all that it does. -/
theorem Dev.engRun_set (he : e < d.tha.engines.length) (hat : x.at_ = d.el) (state : Nat) {y : EngSt} {w : List Byte}
    (hwork : x.work (jobSteps j) 0 [] = (y, 0, w)) :
    (d.setEngine e x state).engRun e =
      ((d.setEngine e x state).engWrote e j x y w 0).setEngine e { y with at_ := d.el } (y.state j false) := by
  have hcycles : (d.setEngine e x state).thaCycles j.client.val d.el = 0 := by simp [Dev.thaCycles]
  have hel : ((d.setEngine e x state).engWrote e j x y w 0).el = d.el :=
    ((d.onEngine_setEngine x state).trans (Dev.onEngine_engWrote _ j x y w 0)).el
  simp [Dev.engRun, d.engine_setEngine_self x state he, hjob, hbusy, hcycles, hwork, hat, hel]

end

end Sys2Proof.Machine
end

section
/-! The jobs of the Thatch engines: O53. -/

namespace Sys2Proof.Machine

/-! ### An engine set to work -/

theorem EngSt.state_lt (x : EngSt) (j : ThaJob) (short : Bool) : x.state j short < 16 := by
  unfold EngSt.state
  repeat' split
  all_goals decide

/-- STATE of an engine that is not short of its budget: stalled while output waits, and otherwise what its job is (R296). -/
theorem EngSt.state_eq (x : EngSt) (j : ThaJob) : x.state j false = if x.todo ≠ [] then 3 else if j.compress then 1 else 2 := by
  simp [EngSt.state]

/-- An engine set works without cycles: its state, what goes to the stacks, and what STAT shows. -/
theorem Dev.engRun_set_makes {d : Dev} {e : Nat} {x y : EngSt} {j : ThaJob} {w : List Byte} (he : e < d.tha.engines.length) (hjob : x.job = some j)
    (hbusy : x.busy = false) (hat : x.at_ = d.el) (hwork : x.work (jobSteps j) 0 [] = (y, 0, w)) (state : Nat) {f : Dev}
    (hf : f = (d.setEngine e x state).engRun e) :
    f.tha = { d.tha with engines := lset d.tha.engines e { y with at_ := d.el } } ∧
    (j.dst + x.wrote + w.length ≤ hbmBytes → f.hbmw = d.hbmw ++ if w = [] then [] else [(j.dst + x.wrote, w)]) ∧
    f.rdF (a_THA_ENG_STAT e) f_THA_ENG_STAT_STATE = y.state j false ∧ d.OnEngine e f := by
  have hon : d.OnEngine e f := by
    rw [hf]
    exact (d.onEngine_setEngine x state).trans (Dev.onEngine_engRun _)
  rw [Dev.engRun_set hjob hbusy he hat state hwork] at hf
  refine ⟨?tha, fun hfits => ?hbmw, ?shown, hon⟩
  case tha => rw [hf, Dev.setEngine_tha, Dev.engWrote_tha, Dev.setEngine_tha, lset_lset]
  case hbmw =>
    rw [hf, Dev.setEngine_hbmw]
    split
    next hnil => rw [hnil, Dev.engWrote_nil_hbmw, Dev.setEngine_hbmw, List.append_nil]
    next hsome => rw [Dev.engWrote_hbmw _ _ _ _ _ _ _ hsome hfits, Dev.setEngine_hbmw]
  case shown => rw [hf, Dev.setEngine_state, Nat.mod_eq_of_lt (y.state_lt j false)]

/-! ### A job placed (R277, R281) -/

/-- RATIO as a job takes it. -/
def Dev.ratioNow (d : Dev) : Nat := if d.rdF a_THA_CFG f_THA_CFG_RATIO = 0 then 64 else min (d.rdF a_THA_CFG f_THA_CFG_RATIO) 4096

/-- The output that stands by as a job is placed. -/
def jobStandsBy (j : ThaJob) (ratio : Nat) : List Byte :=
  if j.compress then streamHeader j.level j.kind j.input.length else (thatchDecode ratio j.outMax j.input).out

/-- A job's output before it has had a cycle. -/
def jobFirst (j : ThaJob) (ratio : Nat) : List Byte :=
  if j.compress then streamHeader j.level j.kind j.input.length ++ (if j.input = [] then (StreamSt.start j.level).endBlock else [])
  else (thatchDecode ratio j.outMax j.input).out

/-- An engine as a job is placed on it. -/
def EngSt.placed (j : ThaJob) (ratio el : Nat) : EngSt :=
  { EngSt.reset with
    job := some j, ratio := ratio, enc := .start j.level, room := j.room, at_ := el, ends := !j.compress
    cur := if j.compress && j.bounded then (streamHeader j.level j.kind j.input.length).length else 0, todo := jobStandsBy j ratio }

theorem Dev.jobStart_of_idle {d : Dev} {e : Nat} {j : ThaJob} (hjob : (d.engine e).job = none) (hown : (d.engine e).own = none)
    (hreach : d.reachable .tha = true) (hlimit : j.compress = false ∨ j.bounded = false ∨ 1024 ≤ j.outLimit) :
    d.jobStart e j = (d.setEngine e (EngSt.placed j d.ratioNow d.el) ((EngSt.placed j d.ratioNow d.el).state j false)).engRun e := by
  have htaken : (!d.engIdle e || !d.reachable .tha || (j.compress && j.bounded && decide (j.outLimit < 1024))) = false := by
    rcases hlimit with h | h | h <;> simp [Dev.engIdle, hjob, hown, hreach, h]
  rw [Dev.jobStart, htaken, if_neg Bool.false_ne_true]
  rfl

/-- Where a job is a decompression or has input, all its first output stands by. -/
theorem jobFirst_eq_standsBy {j : ThaJob} (h : j.compress = false ∨ j.input ≠ []) (ratio : Nat) : jobFirst j ratio = jobStandsBy j ratio := by
  unfold jobFirst jobStandsBy
  rcases h with h | h <;> simp [h]

/-- A compression without input goes on from its header to its end block. -/
theorem jobFirst_of_no_input {j : ThaJob} (hc : j.compress = true) (hin : j.input = []) (ratio : Nat) :
    jobFirst j ratio = jobStandsBy j ratio ++ (StreamSt.start j.level).endBlock := by
  simp [jobFirst, jobStandsBy, hc, hin]

theorem EngSt.need_placed_pos {j : ThaJob} (h : j.input ≠ []) (ratio el : Nat) : 0 < (EngSt.placed j ratio el).need j := by
  have hpos (l : List Nat) (hl : ∀ n ∈ l, 0 < n) : ∀ m, 0 < m → 0 < l.foldl min m := by
    induction l with
    | nil => exact fun m hm => hm
    | cons n l ih =>
      obtain ⟨hn, hl⟩ := List.forall_mem_cons.mp hl
      exact fun m hm => ih hl (min m n) (by omega)
  refine hpos _ (fun n hn => ?_) _ (by have := List.length_pos_of_ne_nil h; omega)
  obtain ⟨f, hf, rfl⟩ := List.mem_map.mp hn
  have hlt := of_decide_eq_true (List.mem_filter.mp hf).2
  omega

/-- An engine that began a job as it writes what its destination takes of the first output: what waits, and what it keeps of the job. -/
structure EngSt.Began (y : EngSt) (j : ThaJob) (first : List Byte) : Prop where
  job : y.job = some j
  enc : y.enc = .start j.level
  wrote : y.wrote = min j.room first.length
  todo : y.todo = [] ↔ first.length ≤ j.room
  room : y.room = j.room
  coded : y.coded = 0
  busy : y.busy = false
  save : y.save = none

/-- An engine on which a job is placed writes its first output as far as the destination has room. -/
theorem EngSt.placed_work (j : ThaJob) (ratio el : Nat) : ∃ y : EngSt,
    (EngSt.placed j ratio el).work (jobSteps j) 0 [] = (y, 0, (jobFirst j ratio).take j.room) ∧ y.Began j (jobFirst j ratio) := by
  have hjob : (EngSt.placed j ratio el).job = some j := rfl
  have hspill : (EngSt.placed j ratio el).spill =
      ({ EngSt.placed j ratio el with todo := (jobStandsBy j ratio).drop j.room, wrote := min j.room (jobStandsBy j ratio).length },
        (jobStandsBy j ratio).take j.room) := by
    simp [EngSt.spill_eq, EngSt.placed, EngSt.reset]
  by_cases hall : j.compress = false ∨ j.input ≠ []
  · have hwork : (EngSt.placed j ratio el).work (jobSteps j) 0 [] = ((EngSt.placed j ratio el).spill.1, 0, [] ++ (EngSt.placed j ratio el).spill.2) := by
      rcases hall with hc | hin
      · exact EngSt.work_of_closed hjob _ _ _ (.inr (.inl (by simp [EngSt.placed, hc])))
      · exact EngSt.work_of_lacking hjob _ _ hin (by have := EngSt.need_placed_pos hin ratio el; simp only [EngSt.placed, EngSt.reset] at *; omega)
    rw [jobFirst_eq_standsBy hall, hwork, hspill]
    exact ⟨_, rfl, rfl, rfl, rfl, List.drop_eq_nil_iff, rfl, rfl, rfl, rfl⟩
  · obtain ⟨hc, hin⟩ : j.compress = true ∧ j.input = [] := by simpa using hall
    rw [jobFirst_of_no_input hc hin]
    rcases Nat.lt_or_ge j.room (jobStandsBy j ratio).length with hlong | hshort
    · have htodo : (EngSt.placed j ratio el).spill.1.todo ≠ [] := by simpa [hspill] using hlong
      refine ⟨(EngSt.placed j ratio el).spill.1, ?work, ?began⟩
      case work =>
        rw [jobSteps, EngSt.work_of_closed hjob _ _ _ (.inl htodo), hspill, List.take_append_of_le_length (by omega)]
        rfl
      case began =>
        rw [hspill] at htodo ⊢
        exact ⟨rfl, rfl, by simp; omega, iff_of_false htodo (by simp; omega), rfl, rfl, rfl, rfl⟩
    · have htodo : (EngSt.placed j ratio el).spill.1.todo = [] := by simpa [hspill] using hshort
      rw [jobSteps, EngSt.work_of_no_input hjob _ _ _ htodo (by simp [EngSt.placed, hc]) rfl hin, hspill, EngSt.spill_eq]
      refine ⟨_, Prod.ext rfl (Prod.ext rfl ?work), rfl, rfl, ?wrote, ?todo, rfl, rfl, rfl, rfl⟩
      case work => simp [EngSt.placed, List.take_append, List.take_of_length_le hshort, Nat.min_eq_right hshort]
      case wrote => simp [EngSt.placed]; omega
      case todo => simp [EngSt.placed]; omega

/-- A job placed on an idle engine: the engine, what goes to the stacks, and what the registers show. -/
theorem Dev.jobStart_makes {d : Dev} {e : Nat} {j : ThaJob} (he : e < d.tha.engines.length) (hjob : (d.engine e).job = none)
    (hown : (d.engine e).own = none) (hreach : d.reachable .tha = true) (hlimit : j.compress = false ∨ j.bounded = false ∨ 1024 ≤ j.outLimit)
    {first : List Byte} (hfirst : first = jobFirst j d.ratioNow) :
    (∃ x : EngSt, (d.jobStart e j).tha = { d.tha with engines := lset d.tha.engines e x } ∧ x.Began j first ∧ x.at_ = d.el) ∧
    (0 < min j.room first.length → j.dst + min j.room first.length ≤ hbmBytes → (d.jobStart e j).hbmw = d.hbmw ++ [(j.dst, first.take j.room)]) ∧
    (d.jobStart e j).rdF (a_THA_ENG_STAT e) f_THA_ENG_STAT_STATE = (if j.room < first.length then 3 else if j.compress then 1 else 2) ∧
    (d.jobStart e j).rdF (a_THA_ENG_STAT e) f_THA_ENG_STAT_CLIENT = j.client ∧ (d.jobStart e j).rdB (a_THA_ENG_STAT e) f_THA_ENG_STAT_MODE = j.bounded ∧
    (d.jobStart e j).rdF (a_THA_ENG_STAT e) f_THA_ENG_STAT_LEVEL = (if j.compress then j.level.val else 0) ∧ d.OnEngine e (d.jobStart e j) := by
  obtain ⟨y, hwork, hy⟩ := EngSt.placed_work j d.ratioNow d.el
  rw [← hfirst] at hwork hy
  have hstart := Dev.jobStart_of_idle hjob hown hreach hlimit
  obtain ⟨htha, hput, hstate, hon⟩ := Dev.engRun_set_makes he rfl rfl rfl hwork _ hstart
  obtain ⟨hclient, hmode, hlevel⟩ := Dev.setEngine_shows (e := e)
    ((d.setEngine e (EngSt.placed j d.ratioNow d.el) ((EngSt.placed j d.ratioNow d.el).state j false)).engWrote e j (EngSt.placed j d.ratioNow d.el) y
      (first.take j.room) 0) (x := { y with at_ := d.el }) hy.job (y.state j false)
  rw [← Dev.engRun_set rfl rfl he rfl _ hwork, ← hstart] at hclient hmode hlevel
  refine ⟨⟨_, htha, ⟨hy.job, hy.enc, hy.wrote, hy.todo, hy.room, hy.coded, hy.busy, hy.save⟩, rfl⟩, fun hpos hfits => ?hbmw, ?shown, hclient,
    hmode, hlevel, hon⟩
  case hbmw =>
    have hsome : first.take j.room ≠ [] := List.ne_nil_of_length_pos (by rwa [List.length_take])
    rw [hput (by rwa [List.length_take]), if_neg hsome]
    rfl
  case shown =>
    rw [hstate, y.state_eq]
    simp only [ne_eq, hy.todo, Nat.not_le]

/-! ### A stalled engine that gets room (R281, R285) -/

theorem Dev.engSave_of_unasked {d : Dev} {e : Nat} (h : (d.engine e).save = none) : d.engSave e = d := by
  unfold Dev.engSave
  extract_lets x
  split
  next haddr => exact absurd (haddr.symm.trans h) (by simp)
  next => rfl

/-- A stalled engine as it gets room. -/
def EngSt.given (x : EngSt) (room el : Nat) : EngSt := { x with room := x.room + room, at_ := el }

section
variable {x : EngSt} (hfull : x.room = x.wrote)
include hfull

/-- What waited goes out as far as the new room goes. -/
theorem EngSt.spill_given (room el : Nat) : (x.given room el).spill =
    ({ x.given room el with todo := x.todo.drop room, wrote := x.wrote + min room x.todo.length }, x.todo.take room) := by
  simp [EngSt.spill_eq, EngSt.given, show x.room + room - x.wrote = room by omega]

/-- An engine that has made its end block, or lacks input, needs cycles for more. -/
theorem EngSt.work_given {j : ThaJob} (hjob : x.job = some j) (hmore : x.ends = true ∨ (j.input ≠ [] ∧ x.got < 100 * x.need j)) (room el : Nat) :
    (x.given room el).work (jobSteps j) 0 [] =
      ({ x.given room el with todo := x.todo.drop room, wrote := x.wrote + min room x.todo.length }, 0, x.todo.take room) := by
  have hjob' : (x.given room el).job = some j := hjob
  have hwork : (x.given room el).work (jobSteps j) 0 [] = ((x.given room el).spill.1, 0, [] ++ (x.given room el).spill.2) := by
    rcases hmore with hends | ⟨hin, hgot⟩
    · exact EngSt.work_of_closed hjob' _ _ _ (.inr (.inl hends))
    · exact EngSt.work_of_lacking hjob' _ _ hin hgot
  rw [hwork, EngSt.spill_given hfull]
  rfl

variable {d : Dev} {e : Nat} {j : ThaJob} (he : e < d.tha.engines.length) (hx : d.engine e = x) (hjob : x.job = some j) (hbusy : x.busy = false)
  (htodo : x.todo ≠ [])
include he hx hjob hbusy htodo

/-- An engine that stays stalled is as it was, but for the time to which it has worked. -/
theorem Dev.engRun_stalled_makes : (d.engRun e).engine e = { x with at_ := d.el } ∧
    (d.engRun e).tha = { d.tha with engines := lset d.tha.engines e { x with at_ := d.el } } ∧ (d.engRun e).hbmw = d.hbmw := by
  rw [Dev.engRun_stalled hjob hbusy hx htodo hfull]
  refine ⟨?_, ?_, ?_⟩
  · rw [Dev.engine_setEngine_self _ _ _ (by rwa [Dev.engWrote_tha])]
  · rw [Dev.setEngine_tha, Dev.engWrote_tha]
  · rw [Dev.setEngine_hbmw, Dev.engWrote_nil_hbmw]

theorem Dev.engResume_of_stalled (room : Nat) : d.engResume e room =
    (((d.engRun e).setEngine e (x.given room d.el) ((x.given room d.el).state j false)).engRun e).engSave e := by
  obtain ⟨heng, -, -⟩ := Dev.engRun_stalled_makes hfull he hx hjob hbusy htodo
  unfold Dev.engResume
  simp only [heng, hjob, EngSt.given]

/-- A stalled engine that gets room writes as much as fits, and needs cycles for more. -/
theorem Dev.engResume_makes (hsave : x.save = none) (hmore : x.ends = true ∨ (j.input ≠ [] ∧ x.got < 100 * x.need j)) (room : Nat) :
    (d.engResume e room).tha = { d.tha with engines := lset d.tha.engines e { x with
      room := x.room + room, todo := x.todo.drop room, wrote := x.wrote + min room x.todo.length, at_ := d.el } } ∧
    (0 < room → j.dst + x.wrote + min room x.todo.length ≤ hbmBytes →
      (d.engResume e room).hbmw = d.hbmw ++ [(j.dst + x.wrote, x.todo.take room)]) ∧
    (d.engResume e room).rdF (a_THA_ENG_STAT e) f_THA_ENG_STAT_STATE = (if room < x.todo.length then 3 else if j.compress then 1 else 2) ∧
    d.OnEngine e (d.engResume e room) := by
  have hrun : d.OnEngine e (d.engRun e) := d.onEngine_engRun
  obtain ⟨-, hruntha, hrunhbmw⟩ := Dev.engRun_stalled_makes hfull he hx hjob hbusy htodo
  have hgo := Dev.engResume_of_stalled hfull he hx hjob hbusy htodo room
  obtain ⟨g, hg⟩ : ∃ g, g = ((d.engRun e).setEngine e (x.given room d.el) ((x.given room d.el).state j false)).engRun e := ⟨_, rfl⟩
  obtain ⟨htha, hput, hstate, hon⟩ := Dev.engRun_set_makes (by rwa [hrun.length]) (x := x.given room d.el) hjob hbusy hrun.el.symm
    (EngSt.work_given hfull hjob hmore room d.el) _ hg
  rw [hruntha, lset_lset, hrun.el] at htha
  rw [← hg, Dev.engSave_of_unasked (by rw [Dev.engine, htha, lget_lset_self _ _ _ he]; exact hsave)] at hgo
  rw [hgo]
  refine ⟨htha, fun hroom hfits => ?hbmw, ?shown, hrun.trans hon⟩
  case hbmw =>
    have hsome : x.todo.take room ≠ [] := by simp [htodo, Nat.ne_of_gt hroom]
    rw [hput (by rwa [List.length_take]), if_neg hsome, hrunhbmw]
    rfl
  case shown => simp [hstate, EngSt.state_eq]

end

/-! ### A state saved and restored (R284, R285) -/

theorem EngSt.length_context (x : EngSt) (bounded : Bool) : (x.context bounded).length = 256 := by simp [EngSt.context]

/-- A save that waits for nothing is made: the state goes to the stacks, where it is kept, and the engine shows that. -/
theorem Dev.engSave_makes {d : Dev} {e : Nat} {x : EngSt} {j : ThaJob} {addr : Nat} (hx : d.engine e = x) (hjob : x.job = some j)
    (hsave : x.save = some addr) (htodo : x.todo = []) (hfits : addr + 256 + 2 ^ levelWindow j.level ≤ hbmBytes) :
    (d.engSave e).hbmw = d.hbmw ++ [(addr, x.context j.bounded ++ (x.enc.hist.take (2 ^ levelWindow j.level)).reverse)] ∧
    (d.engSave e).tha = { d.tha with
      engines := lset d.tha.engines e { x with save := none, busy := true, leaving := true }
      saved := alSet d.tha.saved addr { x with save := none, got := 0 } } ∧
    (d.engSave e).rdF (a_THA_ENG_STAT e) f_THA_ENG_STAT_STATE = 4 := by
  have hroom : addr + (x.context j.bounded ++ (x.enc.hist.take (2 ^ levelWindow j.level)).reverse).length ≤ hbmBytes := by
    rw [List.length_append, x.length_context, List.length_reverse, List.length_take]
    omega
  simp only [Dev.engSave, hx, hjob, hsave, htodo, List.isEmpty_nil, Bool.not_true, Bool.false_eq_true, if_false, Dev.hbmPut, hroom, if_true]
  exact ⟨by rw [Dev.setEngine_hbmw]; rfl, by rw [Dev.setEngine_tha]; rfl, Dev.setEngine_state _ _ _⟩

/-- An engine set with a save asked for writes what waits, and then its state goes to the stacks. -/
theorem Dev.engRun_engSave_makes {d : Dev} {e : Nat} {z : EngSt} {j : ThaJob} {addr : Nat} (he : e < d.tha.engines.length) (hjob : z.job = some j)
    (hbusy : z.busy = false) (hat : z.at_ = d.el) (hsave : z.save = some addr) (hroom : z.wrote + z.todo.length ≤ z.room)
    (hput : j.dst + z.wrote + z.todo.length ≤ hbmBytes) (hfits : addr + 256 + 2 ^ levelWindow j.level ≤ hbmBytes) (state : Nat) {f : Dev}
    (hf : f = ((d.setEngine e z state).engRun e).engSave e) :
    f.hbmw = d.hbmw ++ (if z.todo = [] then [] else [(j.dst + z.wrote, z.todo)]) ++
      [(addr, z.context j.bounded ++ (z.enc.hist.take (2 ^ levelWindow j.level)).reverse)] ∧
    f.tha = { d.tha with
      engines := lset d.tha.engines e { z with todo := [], wrote := z.wrote + z.todo.length, save := none, busy := true, leaving := true }
      saved := alSet d.tha.saved addr { z with todo := [], wrote := z.wrote + z.todo.length, save := none, got := 0 } } ∧
    f.rdF (a_THA_ENG_STAT e) f_THA_ENG_STAT_STATE = 4 := by
  have hspill : z.spill = ({ z with todo := [], wrote := z.wrote + z.todo.length }, z.todo) := by
    have hle : z.todo.length ≤ z.room - z.wrote := by omega
    simp [EngSt.spill_eq, hle]
  have hwork : z.work (jobSteps j) 0 [] = ({ z with todo := [], wrote := z.wrote + z.todo.length }, 0, z.todo) := by
    rw [jobSteps, EngSt.work_of_closed hjob _ _ _ (.inr (.inr (by rw [hsave]; rfl))), hspill]
    rfl
  obtain ⟨g, hg⟩ : ∃ g, g = (d.setEngine e z state).engRun e := ⟨_, rfl⟩
  obtain ⟨hgtha, hghbmw, -, -⟩ := Dev.engRun_set_makes he hjob hbusy hat hwork state hg
  have hgeng : g.engine e = { z with todo := [], wrote := z.wrote + z.todo.length } := by
    rw [Dev.engine, hgtha, lget_lset_self _ _ _ he, ← hat]
  obtain ⟨hhbmw, htha, hstate⟩ := Dev.engSave_makes hgeng hjob hsave rfl hfits
  rw [hf, ← hg]
  exact ⟨by rw [hhbmw, hghbmw hput]; rfl, by rw [htha, hgtha, lset_lset], hstate⟩

/-- An engine whose block in progress a save has ended at `pos` bytes of it, or at what it has taken for certain (R285; log entry 114). -/
def EngSt.flushedAt (x : EngSt) (j : ThaJob) (pos : Nat) : EngSt :=
  if min (max (x.got / 100) pos) (x.need j) = 0 then x else x.codeBlock j (min (max (x.got / 100) pos) (x.need j))

theorem EngSt.flushedAt_leaves {x : EngSt} {j : ThaJob} (hjob : x.job = some j) (pos : Nat) :
    (∃ rest, (x.flushedAt j pos).job = some { j with input := rest }) ∧ (x.flushedAt j pos).wrote = x.wrote ∧ (x.flushedAt j pos).room = x.room ∧
      (x.flushedAt j pos).at_ = x.at_ ∧ (x.flushedAt j pos).busy = x.busy ∧ (x.flushedAt j pos).save = x.save := by
  unfold EngSt.flushedAt
  split
  · exact ⟨⟨j.input, hjob⟩, rfl, rfl, rfl, rfl, rfl⟩
  · exact EngSt.codeBlock_leaves hjob _

/-- A save that is taken ends the block in progress. -/
theorem Dev.askSave_of_taken {d : Dev} {e addr : Nat} {x : EngSt} {j : ThaJob} (hx : (d.engRun e).engine e = x) (hjob : x.job = some j)
    (htaken : (!j.compress || x.busy || x.ends || x.save.isSome || (((d.engRun e).mem.closed || (d.engRun e).mem.retire.isSome) &&
      hitsRefuge (d.engRun e).mapOrder addr (256 + 2 ^ levelWindow j.level))) = false) (pos : Nat) :
    d.askSave e pos addr = (((d.engRun e).setEngine e { x.flushedAt j pos with save := some addr }
      (EngSt.state { x.flushedAt j pos with save := some addr } j false)).engRun e).engSave e := by
  unfold Dev.askSave
  simp only [hx, hjob, htaken, Bool.false_eq_true, if_false, EngSt.flushedAt]

section
variable {d : Dev} {e pos addr : Nat} {x y : EngSt} {j : ThaJob} (he : e < d.tha.engines.length) (hx : x = (d.engRun e).engine e)
  (hjob : x.job = some j) (hbusy : x.busy = false) (hsave : x.save = none) (hy : y = x.flushedAt j pos)
include he hx hjob hbusy hsave hy

/-- A compression asked for its state ends its block, writes it, and sends the state to the stacks. -/
theorem Dev.askSave_makes (hcompress : j.compress = true) (hends : x.ends = false) (hroom : x.wrote + y.todo.length ≤ x.room)
    (hput : j.dst + x.wrote + y.todo.length ≤ hbmBytes) (hfits : addr + 256 + 2 ^ levelWindow j.level ≤ hbmBytes)
    (hopen : (((d.engRun e).mem.closed || (d.engRun e).mem.retire.isSome) &&
      hitsRefuge (d.engRun e).mapOrder addr (256 + 2 ^ levelWindow j.level)) = false) :
    (d.askSave e pos addr).hbmw = (d.engRun e).hbmw ++ (if y.todo = [] then [] else [(j.dst + x.wrote, y.todo)]) ++
      [(addr, y.context j.bounded ++ (y.enc.hist.take (2 ^ levelWindow j.level)).reverse)] ∧
    (d.askSave e pos addr).tha = { (d.engRun e).tha with
      engines := lset (d.engRun e).tha.engines e { y with todo := [], wrote := x.wrote + y.todo.length, busy := true, leaving := true }
      saved := alSet (d.engRun e).tha.saved addr { y with todo := [], wrote := x.wrote + y.todo.length, got := 0 } } ∧
    (d.askSave e pos addr).rdF (a_THA_ENG_STAT e) f_THA_ENG_STAT_STATE = 4 := by
  have hon : d.OnEngine e (d.engRun e) := d.onEngine_engRun
  have hat : x.at_ = (d.engRun e).el := by
    rw [hon.el, hx]
    exact Dev.engRun_at he (by rw [← hx, hjob]; simp)
  obtain ⟨⟨rest, hyjob⟩, hywrote, hyroom, hyat, hybusy, hysave⟩ := EngSt.flushedAt_leaves hjob pos
  have hgo := Dev.askSave_of_taken hx.symm hjob (by rw [hopen, hcompress, hbusy, hends, hsave]; rfl) pos
  rw [← hy] at hgo hyjob hywrote hyroom hyat hybusy hysave
  obtain ⟨hhbmw, htha, hstate⟩ := Dev.engRun_engSave_makes (lt_of_lt_of_eq he hon.length.symm) (z := { y with save := some addr }) hyjob
    (hybusy.trans hbusy) (hyat.trans hat) rfl (by rw [hywrote, hyroom]; exact hroom) (by rw [hywrote]; exact hput) hfits _ hgo
  rw [hywrote] at hhbmw htha
  exact ⟨hhbmw, by rw [htha, ← hsave, ← hysave], hstate⟩

end

/-- An engine reads nothing that is uncorrectable where nothing is. -/
theorem Dev.hbmGot_of_good {d : Dev} (h : d.mem.bad = []) (a n : Nat) : d.hbmGot a n = { d with hbmr := d.hbmr ++ [(a, n)] } := by
  simp [Dev.hbmGot, h]

/-- A saved state comes to an idle engine. -/
theorem Dev.engRestore_makes {d : Dev} {e addr : Nat} {p : Nat × EngSt} {j : ThaJob} (rd : Nat → Nat → List Byte)
    (hfind : d.tha.saved.find? (fun p => p.1 = addr) = some p) (hpjob : p.2.job = some j) (hjob : (d.engine e).job = none)
    (hown : (d.engine e).own = none) (hreach : d.reachable .tha = true) (hgood : d.mem.bad = []) :
    (d.engRestore rd e addr).tha = { d.tha with engines := lset d.tha.engines e { p.2 with
      enc := p.2.readBack j.bounded (rd addr (256 + (p.2.enc.hist.take (2 ^ levelWindow j.level)).length))
      at_ := d.el, busy := true, leaving := false } } ∧
    (d.engRestore rd e addr).rdF (a_THA_ENG_STAT e) f_THA_ENG_STAT_STATE = 5 ∧
    ∀ b, b ≠ a_THA_ENG_STAT e → (d.engRestore rd e addr).rd b = d.rd b := by
  have htakes : (!d.engIdle e || !d.reachable .tha) = false := by simp [Dev.engIdle, hjob, hown, hreach]
  unfold Dev.engRestore
  simp only [hfind, hpjob, htakes, Bool.false_eq_true, if_false, Dev.hbmGot_of_good hgood]
  exact ⟨by rw [Dev.setEngine_tha]; rfl, Dev.setEngine_state _ _ _, fun b hb => Dev.rd_setEngine_ne _ _ _ hb⟩

/-! ### The end of a job (R284, R294) -/

theorem Dev.jobDone_of_no_job {d : Dev} {e : Nat} (h : (d.engine e).job = none) : d.jobDone e = (d, 0) := by simp [Dev.jobDone, h]

/-- When its state has left, an engine is idle. -/
theorem Dev.engRun_leaves {d : Dev} {e : Nat} {j : ThaJob} (hjob : (d.engine e).job = some j) (hbusy : (d.engine e).busy = true)
    (hleaving : (d.engine e).leaving = true) (h0 : d.exhausted j.client (.hbm 0) = false) (h1 : d.exhausted j.client (.hbm 1) = false) :
    d.engRun e = d.setEngine e .reset 0 := by
  simp [Dev.engRun, hjob, hbusy, hleaving, h0, h1]

theorem Dev.jobEnd_of_left {d : Dev} {e : Nat} {j : ThaJob} (he : e < d.tha.engines.length) (hjob : (d.engine e).job = some j)
    (hbusy : (d.engine e).busy = true) (hleaving : (d.engine e).leaving = true) (h0 : d.exhausted j.client (.hbm 0) = false)
    (h1 : d.exhausted j.client (.hbm 1) = false) : d.jobEnd e = d.setEngine e .reset 0 := by
  have hidle : ((d.setEngine e .reset 0).engine e).job = none := by rw [d.engine_setEngine_self _ _ he]; rfl
  simp [Dev.jobEnd, Dev.engRun_leaves hjob hbusy hleaving h0 h1, Dev.jobDone_of_no_job hidle]

/-- A block whose engine e has written w, the last output of its job, and given the job's result. -/
def Dev.jobGiven (d : Dev) (e : Nat) (j : ThaJob) (x y : EngSt) (w : List Byte) (status taken : Nat) : Dev :=
  ((d.engWrote e j x { y with coded := taken } w 0).setEngine e .reset 0).emit (.thatch e status taken y.wrote)

/-- Of what work on an engine leaves alone, a job's result is what shows outside. -/
theorem Dev.jobGiven_engRun (d : Dev) (e : Nat) (j : ThaJob) (x y : EngSt) (w : List Byte) (status taken : Nat) :
    ((d.engRun e).jobGiven e j x y w status taken).out = d.out ++ [.thatch e status taken y.wrote] ∧
    ((d.engRun e).jobGiven e j x y w status taken).mrg = d.mrg ∧
    ∀ b, b ≠ a_THA_ENG_STAT e → b ≠ a_THA_ENG_CNT e → ((d.engRun e).jobGiven e j x y w status taken).rd b = d.rd b := by
  have hon : d.OnEngine e (((d.engRun e).engWrote e j x { y with coded := taken } w 0).setEngine e .reset 0) :=
    d.onEngine_engRun.trans (.trans (Dev.onEngine_engWrote _ _ _ _ _ _) (Dev.onEngine_setEngine _ _ _))
  obtain ⟨-, hout, hmrg, -⟩ := hon.same
  exact ⟨congrArg (· ++ _) hout, hmrg, hon.rd⟩

theorem Dev.jobGiven_tha (d : Dev) (e : Nat) (j : ThaJob) (x y : EngSt) (w : List Byte) (status taken : Nat) :
    (d.jobGiven e j x y w status taken).tha = { d.tha with engines := lset d.tha.engines e .reset } := by
  rw [Dev.jobGiven, Dev.emit_tha, Dev.setEngine_tha, Dev.engWrote_tha]

theorem Dev.jobGiven_hbmw {d : Dev} {e : Nat} {j : ThaJob} {x y : EngSt} {w : List Byte} {status taken : Nat} (hw : w ≠ [])
    (hfits : j.dst + x.wrote + w.length ≤ hbmBytes) :
    (d.jobGiven e j x y w status taken).hbmw = d.hbmw ++ [(j.dst + x.wrote, w)] := by
  rw [Dev.jobGiven, Dev.emit_hbmw, Dev.setEngine_hbmw, Dev.engWrote_hbmw _ _ _ _ _ _ _ hw hfits]

theorem Dev.jobGiven_shows (d : Dev) (e : Nat) (j : ThaJob) (x y : EngSt) (w : List Byte) (status taken : Nat) :
    (d.jobGiven e j x y w status taken).rdF (a_THA_ENG_STAT e) f_THA_ENG_STAT_STATE = 0 ∧
    (d.jobGiven e j x y w status taken).rdF (a_THA_ENG_CNT e) f_THA_ENG_CNT_IN_KIB =
      min (d.rdF (a_THA_ENG_CNT e) f_THA_ENG_CNT_IN_KIB + (taken / 1024 - x.coded / 1024)) (2 ^ 32 - 1) := by
  refine ⟨Dev.setEngine_state _ _ _, Eq.trans ?_ (d.engWrote_inKib e j x { y with coded := taken } w 0)⟩
  exact congrArg (fget · f_THA_ENG_CNT_IN_KIB) (Dev.rd_setEngine_ne _ _ _ (engStat_ne_engCnt e e).symm)

/-- A job all of whose output finds room ends, and its result is given. -/
theorem Dev.jobDone_ends {d : Dev} {e : Nat} {x y : EngSt} {j : ThaJob} {left : Nat} {w : List Byte} {r : DecResult} (hx : x = d.engine e)
    (hjob : x.job = some j) (hbusy : x.busy = false) (hbudget : d.exhausted j.client .tha = false)
    (hwork : x.work (jobSteps j) (100 * j.input.length) [] = (y, left, w)) (htodo : y.todo = []) (hends : y.ends = true)
    (hr : r = thatchDecode x.ratio j.outMax j.input) :
    d.jobDone e = (d.jobGiven e j x y w (if j.compress then 0 else r.status) (if j.compress then y.coded else r.consumed),
      if j.compress then 0 else r.status) := by
  unfold Dev.jobDone
  simp only [← hx, hjob, hbusy, hbudget, hwork, htodo, hends, ← hr, List.isEmpty_nil, Bool.not_true, Bool.or_self, Bool.false_eq_true, if_false]
  cases j.compress <;> rfl

/-- A decompression that failed is counted, its status shown, and one entry more is on its way. -/
theorem Dev.decodeFailed_makes {d : Dev} (hplain : d.plainErr 0x1F = true) (status : Nat) :
    (d.decodeFailed status).tha = d.tha ∧ (d.decodeFailed status).out = d.out ∧
    (d.decodeFailed status).rdF a_THA_DEC_STAT f_THA_DEC_STAT_LAST_ERR = status % 16 ∧
    (d.decodeFailed status).mrg.err.fly.length = d.mrg.err.fly.length + 1 := by
  unfold Dev.decodeFailed
  extract_lets f
  obtain ⟨g, hg⟩ : ∃ g, g = (d.inc a_THA_DEC_STAT f).wrF a_THA_DEC_STAT f_THA_DEC_STAT_LAST_ERR status := ⟨_, rfl⟩
  have hplain' : g.plainErr 0x1F = true := by
    rw [← hplain, hg]
    exact Dev.plainErr_congr ((Dev.rd_wrF_ne _ _ _ (by decide)).trans (Dev.rd_inc_ne _ _ _ (by decide)))
  obtain ⟨-, hrd, hfly⟩ := Dev.reportErr_leaves 40 status hplain' (by decide)
  rw [← hg]
  refine ⟨?tha, ?out, ?last, ?fly⟩
  case tha => rw [g.reportErr_of_plain _ _ _ hplain' (by decide), hg]; rfl
  case out => rw [g.reportErr_of_plain _ _ _ hplain' (by decide), hg]; rfl
  case last =>
    rw [Dev.rdF, hrd, ← Dev.rdF, hg, Dev.rdF_wrF_self _ _ _ _ (by decide)]
    rfl
  case fly => rw [hfly, hg]; rfl

section
variable {d : Dev} {e : Nat} {j : ThaJob} {x y : EngSt} {w : List Byte} {status taken : Nat}
  (hdone : (d.engRun e).jobDone e = ((d.engRun e).jobGiven e j x y w status taken, status))
include hdone

/-- A job that ended well gave its result, and nothing more. -/
theorem Dev.jobEnd_given (hok : status = 0) :
    (d.jobEnd e).tha = { (d.engRun e).tha with engines := lset (d.engRun e).tha.engines e .reset } ∧
    (w ≠ [] → j.dst + x.wrote + w.length ≤ hbmBytes → (d.jobEnd e).hbmw = (d.engRun e).hbmw ++ [(j.dst + x.wrote, w)]) ∧
    (d.jobEnd e).out = d.out ++ [.thatch e 0 taken y.wrote] ∧
    (d.jobEnd e).rdF (a_THA_ENG_STAT e) f_THA_ENG_STAT_STATE = 0 ∧
    (d.jobEnd e).rdF (a_THA_ENG_CNT e) f_THA_ENG_CNT_IN_KIB =
      min ((d.engRun e).rdF (a_THA_ENG_CNT e) f_THA_ENG_CNT_IN_KIB + (taken / 1024 - x.coded / 1024)) (2 ^ 32 - 1) ∧
    (d.jobEnd e).mrg = d.mrg := by
  subst hok
  have hend : d.jobEnd e = (d.engRun e).jobGiven e j x y w 0 taken := by simp only [Dev.jobEnd, hdone, if_true]
  obtain ⟨hout, hmrg, -⟩ := d.jobGiven_engRun e j x y w 0 taken
  obtain ⟨hstate, hcnt⟩ := (d.engRun e).jobGiven_shows e j x y w 0 taken
  rw [hend]
  exact ⟨Dev.jobGiven_tha _ _ _ _ _ _ _ _, Dev.jobGiven_hbmw, hout, hstate, hcnt, hmrg⟩

/-- A job that failed gave its result, and is reported. -/
theorem Dev.jobEnd_failed (hfail : status ≠ 0) (hplain : d.plainErr 0x1F = true) :
    (d.jobEnd e).tha = { (d.engRun e).tha with engines := lset (d.engRun e).tha.engines e .reset } ∧
    (d.jobEnd e).out = d.out ++ [.thatch e status taken y.wrote] ∧
    (d.jobEnd e).rdF a_THA_DEC_STAT f_THA_DEC_STAT_LAST_ERR = status % 16 ∧ (d.jobEnd e).mrg.err.fly.length = d.mrg.err.fly.length + 1 := by
  have hend : d.jobEnd e = ((d.engRun e).jobGiven e j x y w status taken).decodeFailed status := by simp only [Dev.jobEnd, hdone, if_neg hfail]
  obtain ⟨hout, hmrg, hrd⟩ := d.jobGiven_engRun e j x y w status taken
  have herr : a_ERR_MAP 0x1F ≠ a_THA_ENG_STAT e ∧ a_ERR_MAP 0x1F ≠ a_THA_ENG_CNT e := by
    unfold a_ERR_MAP a_THA_ENG_STAT a_THA_ENG_CNT
    omega
  obtain ⟨htha, hout', hlast, hfly⟩ := Dev.decodeFailed_makes ((Dev.plainErr_congr (hrd _ herr.1 herr.2)).trans hplain) status
  rw [hend]
  exact ⟨htha.trans (Dev.jobGiven_tha _ _ _ _ _ _ _ _), hout'.trans hout, hlast, by rw [hfly, hmrg]⟩

end

/-! ### O53 -/

/-- Settles O53: a start, room gained and a save each set the engine, which then works without cycles (`Dev.engRun_set`); an end gives what the work
made. -/
theorem thatchJobs : Obligations.ThatchJobs := by
  intro s dt e hlen
  have he : e.val < (s.dev.elapse dt).tha.engines.length := lt_of_lt_of_eq e.isLt hlen.symm
  refine ⟨?start, ?resume, ?save, ?left, ?restore, ?ended⟩
  case start =>
    intro j first hjob hown hreach hlimit hfirst
    obtain ⟨⟨x, htha, hx, hat⟩, hhbmw, hstate, hclient, hmode, hlevel, hon⟩ :=
      Dev.jobStart_makes (d := s.dev.elapse dt) he hjob hown hreach hlimit hfirst
    exact makes_of_after rfl ⟨⟨x, htha, hx.job, hx.enc, hx.wrote, hx.todo, hx.room, hx.coded, hat, hx.busy, hx.save⟩, hhbmw, hstate, hclient, hmode,
      hlevel, hon.rd⟩
  case resume =>
    intro j room x hx hjob hbusy hsave htodo hfull hmore
    obtain ⟨htha, hhbmw, hstate, hon⟩ :=
      Dev.engResume_makes (d := s.dev.elapse dt) hfull he hx hjob hbusy htodo hsave hmore room
    exact makes_of_after rfl ⟨htha, hhbmw, hstate, hon.rd⟩
  case save =>
    rintro j pos addr _ x y rfl hx hjob hcompress hbusy hends hsave - hy hroom hput hfits hopen
    exact makes_of_after rfl (Dev.askSave_makes he hx hjob hbusy hsave hy hcompress hends hroom hput hfits hopen)
  case left =>
    intro j hjob hbusy hleaving h0 h1
    refine makes_of_after (f := fun d => d.jobEnd e) rfl ?_
    rw [Dev.jobEnd_of_left he hjob hbusy hleaving h0 h1]
    obtain ⟨-, hout, -⟩ := ((s.dev.elapse dt).onEngine_setEngine (e := e) .reset 0).same
    exact ⟨Dev.setEngine_tha _ _ _, Dev.setEngine_state _ _ _, hout⟩
  case restore =>
    intro addr p j hfind hpjob hjob hown hreach hgood
    exact makes_of_after rfl (Dev.engRestore_makes (d := s.dev.elapse dt) s.hbmRead hfind hpjob hjob hown hreach hgood)
  case ended =>
    rintro j _ x y left w r rfl hx hjob hbusy hbudget hwork htodo hends hr taken
    have hdone := Dev.jobDone_ends hx hjob hbusy hbudget hwork htodo hends hr
    refine ⟨fun hok => ?given, fun hdec hfail hplain => ?failed⟩
    case given =>
      have hstatus : (if j.compress then 0 else r.status) = 0 := by rcases hok with h | h <;> simp [h]
      exact makes_of_after rfl (Dev.jobEnd_given hdone hstatus)
    case failed =>
      simp only [hdec, Bool.false_eq_true, if_false] at hdone
      exact makes_of_after rfl (Dev.jobEnd_failed hdone hfail hplain)

end Sys2Proof.Machine
end

section
/-! The TBL window (R316): what an access through it comes to, where it lies within the table selected. -/

namespace Sys2Proof.Machine

section
variable (d : Dev)

/-- A host write of whole words to the TBL window is a write through it. -/
theorem Dev.busAccess_tblWrite {a : Nat} {data : List Byte} (ht : inTbl a = true) (hs : tblSizeOk a data.length = true) :
    d.busAccess ⟨false, true, a, data.length, data⟩ [] = Dev.endWrite (d.tblWrite a data .host) := by
  have hbytes : padTo data data.length = data := by simp [padTo, zeros]
  simp [Dev.busAccess, Dev.bar0Write, ht, hs, hbytes]

/-- A host read of 4 or 8 aligned bytes of the TBL window is a read through it. -/
theorem Dev.busAccess_tblRead {a n : Nat} (ht : inTbl a = true) (hs : sizeOk a n = true) :
    d.busAccess ⟨false, false, a, n, []⟩ [] =
      Dev.endRead ((d.tblRead a n .host).1, BitVec.ofNat 64 (leNat (d.tblRead a n .host).2.1), (d.tblRead a n .host).2.2) := by
  simp [Dev.busAccess, Dev.bar0Read, ht, hs]

/-- A bank that is marked no more changes a register alone. -/
theorem Dev.unload_eq (t i b : Nat) : ∃ r, d.unload t i b = { d with regs := r } := by
  unfold Dev.unload
  split
  case h_1 | h_2 | h_3 =>
    extract_lets a v
    split
    · exact ⟨_, rfl⟩
    · exact ⟨_, rfl⟩
  all_goals exact ⟨_, rfl⟩

end

section
variable {d : Dev} {a t i b page : Nat} (hsel : d.tblSel = (t, i, b, page)) (hreach : d.reachable (tabUnit t i) = true)
include hsel hreach

/-- A write within an unlocked table that is held once stores its bytes. -/
theorem Dev.tblWrite_stores {data : List Byte} (src : AccSrc) (hfits : page + (a - tblBase) + data.length ≤ d.tabSize t i b)
    (hopen : d.tabLocked t i b = false) (htwin : d.tabTwins t i = [i]) :
    ∃ r, d.tblWrite a data src = ({ d with
      regs := r, tab := d.tab.writeBytes tabDefault (tabAddr t i b (page + (a - tblBase))) data }, .ok) := by
  have hin : ¬ (d.tabSize t i b + 3) / 4 * 4 < page + (a - tblBase) + data.length := by omega
  have htake : data.take (d.tabSize t i b - (page + (a - tblBase))) = data := List.take_of_length_le (by omega)
  obtain ⟨r, hr⟩ := d.unload_eq t i b
  refine ⟨r, ?_⟩
  simp only [Dev.tblWrite, hsel, hin, hreach, hopen, Dev.tabStore, htwin, List.foldl_cons, List.foldl_nil, hr, htake, Dev.tabWrite, if_false,
    Bool.not_true, Bool.false_eq_true]

/-- A write to a locked table is reported and stores nothing. -/
theorem Dev.tblWrite_locked {data : List Byte} (src : AccSrc) (hfits : page + (a - tblBase) + data.length ≤ d.tabSize t i b)
    (hlocked : d.tabLocked t i b = true) :
    d.tblWrite a data src = (d.reportErr 0x0D (originOf (tabUnit t i)) (addrInfo a src), .locked) := by
  have hin : ¬ (d.tabSize t i b + 3) / 4 * 4 < page + (a - tblBase) + data.length := by omega
  simp only [Dev.tblWrite, hsel, hin, hreach, hlocked, if_false, if_true, Bool.not_true, Bool.false_eq_true]

/-- A read within a table other than the column model answers the table's bytes. -/
theorem Dev.tblRead_bytes {n : Nat} (src : AccSrc) (hfits : page + (a - tblBase) + n ≤ d.tabSize t i b) (ht : t ≠ 0x10) :
    d.tblRead a n src = (d, d.tab.readBytes tabDefault (tabAddr t i b (page + (a - tblBase))) n, .ok) := by
  have hin : ¬ (d.tabSize t i b + 3) / 4 * 4 < page + (a - tblBase) + n := by omega
  have hall : min n (d.tabSize t i b - (page + (a - tblBase))) = n := by omega
  simp [Dev.tblRead, Dev.tabBytes, hsel, hin, hreach, ht, hall, zeros]

end

/-- Settles O34: `Dev.tblWrite_stores`, `Dev.tblWrite_locked` and `Dev.tblRead_bytes` say what the access comes to. -/
theorem tableWindow : Obligations.TableWindow := by
  intro s a data t i b page htbl hsel hreach
  refine ⟨?stores, ?locked, ?read⟩
  case stores =>
    intro hsize hfits hopen htwin
    obtain ⟨r, hr⟩ := Dev.tblWrite_stores hsel hreach .host hfits hopen htwin
    refine makes_of_access rfl ?_
    rw [s.dev.busAccess_tblWrite htbl hsize, hr]
    exact ⟨rfl, rfl⟩
  case locked =>
    intro hsize hfits hlocked hplain
    refine makes_of_access rfl ?_
    rw [s.dev.busAccess_tblWrite htbl hsize, Dev.tblWrite_locked hsel hreach .host hfits hlocked]
    have hfly := (Dev.reportErr_leaves (originOf (tabUnit t i)) (addrInfo a .host) hplain (by decide)).2.2
    rw [s.dev.reportErr_of_plain _ _ _ hplain (by decide)] at hfly ⊢
    exact ⟨rfl, rfl, hfly⟩
  case read =>
    intro n hsize ht hfits
    refine makes_of_access rfl ?_
    rw [s.dev.busAccess_tblRead htbl hsize, Dev.tblRead_bytes hsel hreach .host hfits ht]
    exact ⟨rfl, rfl, rfl⟩

end Sys2Proof.Machine
end

section
/-! Work on one ring (R306 to R315): its context and what the device keeps of it, reading ahead, completions and their messages. -/

namespace Sys2Proof.Machine

/-! ### The context of a ring and what the device keeps of it -/

section
variable (d : Dev) (r k : Nat)

@[simp] theorem Dev.ring_setRing_self (c : RingCtx) : (d.setRing r c).ring r = c := alGet_alSet_self _ _ _ _

@[simp] theorem Dev.ringRun_setRun_self (x : RingRun) : (d.setRun r x).ringRun r = x := alGet_alSet_self _ _ _ _

@[simp] theorem Dev.ring_setRun (x : RingRun) : (d.setRun r x).ring k = d.ring k := rfl

@[simp] theorem Dev.ringRun_setRing (c : RingCtx) : (d.setRing r c).ringRun k = d.ringRun k := rfl

@[simp] theorem Dev.ring_chargeRing (c : RingCtx) (client n : Nat) : (d.chargeRing c client n).ring k = d.ring k := by
  unfold Dev.chargeRing
  split <;> rfl

@[simp] theorem Dev.ringRun_chargeRing (c : RingCtx) (client n : Nat) : (d.chargeRing c client n).ringRun k = d.ringRun k := by
  unfold Dev.chargeRing
  split <;> rfl

@[simp] theorem Dev.mem_chargeRing (c : RingCtx) (client n : Nat) : (d.chargeRing c client n).mem = d.mem := by
  unfold Dev.chargeRing
  split <;> rfl

/-- Reading ahead changes no context. -/
@[simp] theorem Dev.ring_prefetch : (d.prefetch r).ring k = d.ring k := by
  unfold Dev.prefetch
  extract_lets c x want client read
  split
  · rfl
  · have hread : read.ring k = d.ring k := List.foldlRecOn (motive := fun e : Dev => e.ring k = d.ring k) _ _ rfl fun _ he _ _ => he
    rw [Dev.ring_setRun, Dev.ring_chargeRing, hread]

end

/-! ### What work on a ring leaves alone -/

/-- Work on ring r that reports and reads ahead: the fragments in its buffer stay, what went out stays out, and of the block the ballast and the paths
of the host alone change, but for what the host has programmed. -/
structure Dev.RingWork (r : Nat) (d e : Dev) : Prop where
  rest : ∃ host bal out, e = { d with host := host, bal := bal, out := out }
  out : d.out <+: e.out
  frags : (e.ringRun r).frags = (d.ringRun r).frags
  buf : (e.ringRun r).buf = (d.ringRun r).buf
  ctl : e.host.ctl = d.host.ctl

section
variable {r : Nat} (d : Dev)

theorem Dev.RingWork.refl : d.RingWork r d := ⟨⟨_, _, _, rfl⟩, List.prefix_refl _, rfl, rfl, rfl⟩

variable {d} in
theorem Dev.RingWork.trans {e f : Dev} (h : d.RingWork r e) (k : e.RingWork r f) : d.RingWork r f := by
  obtain ⟨host, bal, out, he⟩ := h.rest
  obtain ⟨host', bal', out', hf⟩ := k.rest
  exact ⟨⟨host', bal', out', by rw [hf, he]⟩, h.out.trans k.out, k.frags.trans h.frags, k.buf.trans h.buf, k.ctl.trans h.ctl⟩

theorem Dev.ringWork_setRing (k : Nat) (c : RingCtx) : d.RingWork r (d.setRing k c) := ⟨⟨_, _, _, rfl⟩, List.prefix_refl _, rfl, rfl, rfl⟩

theorem Dev.ringWork_setRun {x : RingRun} (hfrags : x.frags = (d.ringRun r).frags) (hbuf : x.buf = (d.ringRun r).buf) :
    d.RingWork r (d.setRun r x) :=
  ⟨⟨_, _, _, rfl⟩, List.prefix_refl _, by rw [Dev.ringRun_setRun_self, hfrags], by rw [Dev.ringRun_setRun_self, hbuf], rfl⟩

theorem Dev.ringWork_charge (client : Nat) (x : Demand) : d.RingWork r (d.charge client x) := ⟨⟨_, _, _, rfl⟩, List.prefix_refl _, rfl, rfl, rfl⟩

theorem Dev.ringWork_hostGet (a : Nat) (best : Bool) (n : Nat) : d.RingWork r (d.hostGet a best n) :=
  ⟨⟨_, _, _, rfl⟩, List.prefix_append _ _, rfl, rfl, rfl⟩

theorem Dev.ringWork_hostPut (a : Nat) (ro best : Bool) (bs : List Byte) : d.RingWork r (d.hostPut a ro best bs) :=
  ⟨⟨_, _, _, rfl⟩, List.prefix_append _ _, rfl, rfl, rfl⟩

theorem Dev.ringWork_chargeRing (c : RingCtx) (client n : Nat) : d.RingWork r (d.chargeRing c client n) := by
  unfold Dev.chargeRing
  split
  · exact .refl d
  · exact d.ringWork_charge _ _

/-- What a ring in host memory writes there. -/
theorem Dev.ringWork_ringWriteMem {c : RingCtx} (hloc : c.loc = false) (a : Nat) (payload best : Bool) (bs : List Byte) :
    d.RingWork r (d.ringWriteMem c a payload best bs) := by
  simp only [Dev.ringWriteMem, hloc, Bool.false_eq_true, if_false]
  split
  · exact .refl d
  · exact d.ringWork_hostPut _ _ _ _

theorem Dev.ringWork_msix (v : Nat) : d.RingWork r (d.msix v) := by
  unfold Dev.msix
  split
  · exact ⟨⟨_, _, _, rfl⟩, List.prefix_append _ _, rfl, rfl, rfl⟩
  · split
    · exact .refl d
    · exact ⟨⟨_, _, _, rfl⟩, List.prefix_refl _, rfl, rfl, rfl⟩

theorem Dev.ringWork_ringIrq : d.RingWork r (d.ringIrq r) := by
  unfold Dev.ringIrq Dev.ringMessage
  extract_lets c told
  split
  · split
    · exact .refl d
    · exact .trans (.trans (d.ringWork_setRing _ _) (Dev.ringWork_msix _ _)) (Dev.ringWork_setRun _ rfl rfl)
  · exact .refl d

theorem Dev.ringWork_prefetch : d.RingWork r (d.prefetch r) := by
  unfold Dev.prefetch
  extract_lets c x want client read
  split
  · exact .refl d
  · have hread : d.RingWork r read :=
      List.foldlRecOn (motive := fun e => d.RingWork r e) _ _ (.refl d) fun e he k _ => he.trans (e.ringWork_hostGet _ _ _)
    have hcharged := hread.trans (read.ringWork_chargeRing c client ((want - x.fetched) * c.descSize))
    exact hcharged.trans (Dev.ringWork_setRun _ hcharged.frags.symm hcharged.buf.symm)

theorem Dev.ringWork_descDone : d.RingWork r (d.descDone r) := by
  unfold Dev.descDone
  extract_lets c moved x
  have hmoved : d.RingWork r moved := d.ringWork_setRing r _
  refine .trans (.trans (hmoved.trans ?_) (Dev.ringWork_ringIrq _)) (Dev.ringWork_prefetch _)
  exact moved.ringWork_setRun rfl rfl

/-- A descriptor used: HEAD of its ring is one further. -/
theorem Dev.descDone_ring_head : ((d.descDone r).ring r).head = (d.ring r).head + 1 := by
  rw [(d.descDone_head r).head, Dev.ring_setRing_self]

end

end Sys2Proof.Machine
end

section
/-! Delivery to a ring in host memory (R308 to R311, R315): the buffer that completes, the coalescing timer, and the first fragment of a buffer. -/

namespace Sys2Proof.Machine

/-! ### A buffer that completes, and the coalescing timer (R311, R315) -/

/-- The block whose ring r has written its buffer in progress to host memory and begun no other. -/
def Dev.bufferPut (d : Dev) (r : Nat) : Dev :=
  (d.setRun r { d.ringRun r with buf := [], frags := 0, best := false }).hostPut ((d.ringRun r).posted.headD 0).toNat (d.ring r).ro
    (d.ringRun r).best (d.ringRun r).buf

section
variable {d : Dev} {r : Nat}

theorem Dev.bufferPut_frags : ((d.bufferPut r).ringRun r).frags = 0 :=
  congrArg RingRun.frags (d.ringRun_setRun_self r { d.ringRun r with buf := [], frags := 0, best := false })

/-- After the payload come the write-back and what the descriptor used brings with it. -/
theorem Dev.completeBuffer_makes (htyp : (d.ring r).typ = 1) (hloc : (d.ring r).loc = false) (hfrags : (d.ringRun r).frags ≠ 0)
    (hbuf : (d.ringRun r).buf ≠ []) (flushed : Bool) :
    (d.bufferPut r).RingWork r (d.completeBuffer r flushed) ∧ ((d.completeBuffer r flushed).ring r).head = (d.ring r).head + 1 := by
  have htyp4 : (d.ring r).typ ≠ 4 := by rw [htyp]; decide
  have hput : (d.setRun r { d.ringRun r with buf := [], frags := 0, best := false }).ringWriteMem (d.ring r) ((d.ringRun r).posted.headD 0).toNat
      true (d.ringRun r).best (d.ringRun r).buf = d.bufferPut r := by
    simp [Dev.ringWriteMem, hloc, hbuf, Dev.bufferPut]
  unfold Dev.completeBuffer
  extract_lets c x begun h run put back
  rw [if_neg hfrags, if_neg htyp4, show put = _ from hput]
  have hback : (d.bufferPut r).RingWork r ((d.bufferPut r).ringWriteMem c (c.descAddr + 8) false (11 ≤ x.client) back) :=
    Dev.ringWork_ringWriteMem _ hloc _ _ _ _
  refine ⟨(hback.trans (Dev.ringWork_chargeRing _ c x.client back.length)).trans (Dev.ringWork_descDone _), ?_⟩
  rw [Dev.descDone_ring_head, Dev.ring_chargeRing]
  simp only [Dev.ringWriteMem, show c.loc = false from hloc, Bool.false_eq_true, if_false]
  split <;> rfl

/-- A ring whose message may leave sends it and is disarmed, with nothing left to report. -/
theorem Dev.ringMessage_sends {v : Fin 2048} (hvector : (d.ring r).vector = BitVec.ofNat 16 v.val) (hopen : d.msixOpen v.val = true) :
    ((d.ringMessage r).ring r).armed = false ∧ ((d.ringMessage r).ringRun r).unrep = 0 ∧ (d.ringMessage r).out = d.out ++ [.msix v.val] := by
  have hv : (d.ring r).vector.toNat = v.val := by
    rw [hvector, BitVec.toNat_ofNat]
    exact Nat.mod_eq_of_lt (by omega)
  have hany : (d.ring r).vector ≠ 0xFFFF := by
    intro h
    rw [h] at hv
    have := v.isLt
    simp at hv
    omega
  have hsend : (d.setRing r { d.ring r with armed := false }).msix v.val = (d.setRing r { d.ring r with armed := false }).emit (.msix v.val) :=
    if_pos hopen
  simp only [Dev.ringMessage, if_neg hany, hv, hsend]
  refine ⟨?_, by rw [Dev.ringRun_setRun_self], rfl⟩
  exact congrArg RingCtx.armed (d.ring_setRing_self r { d.ring r with armed := false })

end

/-! ### The first fragment of a buffer (R307, R308) -/

/-- The header of a fragment of an item with n payload bytes (R308). -/
def RingItem.fragHeader (x : RingItem) (flags n : Nat) : List Byte :=
  [BitVec.ofNat 8 x.content, BitVec.ofNat 8 flags, 0, 0] ++ leBytes 4 n ++ leBytes 4 x.objId.toNat ++ leBytes 4 x.fseq ++ leBytes 8 x.off ++
    leBytes 8 x.tag.toNat

/-- The flags of the last fragment of an item: whether it is the item's first, whether the item is cut short, and whether items before it were lost. -/
def RingItem.lastFlags (x : RingItem) (dropped : Bool) : Nat := (if x.fseq = 0 then 1 else 0) + 2 + (if x.trunc then 4 else 0) + (if dropped then 8 else 0)

theorem RingItem.length_fragHeader (x : RingItem) (flags n : Nat) : (x.fragHeader flags n).length = 32 := by
  simp [RingItem.fragHeader, length_leBytes]

section
variable {d : Dev} {r : Nat} {x : RingItem}

/-- The last fragment of an item, the first of an empty buffer: the buffer holds its header and its payload, and ITEMS counts the item. -/
theorem Dev.putFragment_begins (hfrags : (d.ringRun r).frags = 0) (hbuf : (d.ringRun r).buf = []) (hlast : (d.ring r).flushLast = false)
    (hcontent : x.content ≠ 5) (payload : List Byte) :
    let e := d.putFragment r x payload true
    (e.ringRun r).frags = 1 ∧ (e.ring r).items = (d.ring r).items + 1 ∧
      (∃ flags, (e.ringRun r).buf = x.fragHeader flags payload.length ++ padMul payload 8) ∧ e.mem = d.mem := by
  intro e
  have he : ∃ flags k, k.frags = 1 ∧ k.buf = x.fragHeader flags payload.length ++ padMul payload 8 ∧
      e = (((d.setRun r k).chargeRing (d.ring r) (contentClient x.content) (x.fragHeader flags payload.length ++ padMul payload 8).length).setRing r
        { d.ring r with items := (d.ring r).items + 1 }) := by
    refine ⟨x.lastFlags (d.ringRun r).dropped, { d.ringRun r with
      buf := x.fragHeader (x.lastFlags (d.ringRun r).dropped) payload.length ++ padMul payload 8, frags := 1, bufAt := d.el, dropped := false
      client := contentClient x.content, best := (d.ringRun r).best || decide (11 ≤ contentClient x.content) }, rfl, rfl, ?_⟩
    simp [e, Dev.putFragment, RingItem.fragHeader, RingItem.lastFlags, hfrags, hbuf, hlast, hcontent]
  obtain ⟨flags, k, hk, hkbuf, he⟩ := he
  rw [he]
  simp only [Dev.ringRun_setRing, Dev.ringRun_chargeRing, Dev.ringRun_setRun_self, Dev.ring_setRing_self, Dev.setRing_mem, Dev.mem_chargeRing]
  exact ⟨hk, trivial, ⟨flags, hkbuf⟩, rfl⟩

/-- Ring r delivers to host memory: a buffer posted at an aligned address is empty, and transfers run. -/
structure Dev.EmptyBuffer (d : Dev) (r : Nat) : Prop where
  typ : (d.ring r).typ = 1
  loc : (d.ring r).loc = false
  outbound : d.outboundOk = true
  posted : (d.ring r).posted ≠ 0
  frags : (d.ringRun r).frags = 0
  buf : (d.ringRun r).buf = []
  addr : ((d.ringRun r).posted.headD 0).toNat % 64 = 0

section
variable (h : d.EmptyBuffer r)
include h

theorem Dev.EmptyBuffer.hasBuffer : d.hasBuffer r = true := by
  simp [Dev.hasBuffer, h.typ, h.loc, h.outbound, h.posted]

/-- Descriptors are read ahead as the buffer is opened, and the context stays. -/
theorem Dev.EmptyBuffer.openBuffer (rd : Nat → Nat → List Byte) : ∃ e, d.openBuffer rd r = (e, 0) ∧ d.RingWork r e ∧ e.ring r = d.ring r := by
  have hread : d.RingWork r (d.prefetch r) := d.ringWork_prefetch
  refine ⟨(d.prefetch r).setRun r { d.ringRun r with fetched := ((d.prefetch r).ringRun r).fetched }, ?_, ?_, ?_⟩
  · simpa [Dev.openBuffer, h.typ, h.loc, h.frags] using h.addr
  · exact hread.trans (Dev.ringWork_setRun _ hread.frags.symm hread.buf.symm)
  · rw [Dev.ring_setRun, Dev.ring_prefetch]

/-- An unfragmented item that fits begins the buffer. -/
theorem Dev.EmptyBuffer.place (rd : Nat → Nat → List Byte) (hwhole : x.isObject = false)
    (hfits : 32 + (padMul x.body 8).length ≤ 2 ^ (d.ring r).log2Buf.toNat) :
    ∃ e, d.place rd r x = (e.putFragment r x x.body true, x, .done) ∧ d.RingWork r e ∧ e.ring r = d.ring r := by
  obtain ⟨e, hopen, hwork, hring⟩ := h.openBuffer rd
  have hsize : d.bufSize r = 2 ^ (d.ring r).log2Buf.toNat := by simp [Dev.bufSize, h.typ]
  refine ⟨e, ?_, hwork, hring⟩
  simp [Dev.place, h.buf, h.hasBuffer, hopen, hwhole, hsize, hfits]

end

end

end Sys2Proof.Machine
end

section
/-! What the sources of objects leave alone as they go on (R267, R318 to R320): rings and what the device keeps of them. -/

namespace Sys2Proof.Machine

/-- Rings stay, and so do the memory controllers, where no word of the stacks is bad. -/
structure Dev.RingsStay (d e : Dev) : Prop where
  stay : d.mem.bad = [] → e.host.rings = d.host.rings ∧ e.host.runs = d.host.runs ∧ e.mem.bad = []

section
variable {d e : Dev}

/-- A change elsewhere in the block. -/
theorem Dev.RingsStay.of_same (hrings : e.host.rings = d.host.rings) (hruns : e.host.runs = d.host.runs) (hmem : e.mem = d.mem) :
    d.RingsStay e :=
  ⟨fun h => ⟨hrings, hruns, hmem ▸ h⟩⟩

theorem Dev.RingsStay.refl (d : Dev) : d.RingsStay d := .of_same rfl rfl rfl

theorem Dev.RingsStay.trans {f : Dev} (h : d.RingsStay e) (k : e.RingsStay f) : d.RingsStay f := by
  refine ⟨fun hd => ?_⟩
  obtain ⟨hrings, hruns, he⟩ := h.stay hd
  obtain ⟨krings, kruns, hf⟩ := k.stay he
  exact ⟨krings.trans hrings, kruns.trans hruns, hf⟩

theorem Dev.RingsStay.iter {f : Nat → Dev → Dev} (h : ∀ i (d : Dev), d.RingsStay (f i d)) (n : Nat) (d : Dev) :
    d.RingsStay (Sys2Proof.Machine.iter n f d) :=
  List.foldlRecOn (List.range n) _ (motive := fun e => d.RingsStay e) (.refl d) (fun e he i _ => he.trans (h i e))

theorem Dev.RingsStay.ring (h : d.RingsStay e) (hd : d.mem.bad = []) (r : Nat) : e.ring r = d.ring r := by
  rw [Dev.ring, (h.stay hd).1, Dev.ring]

theorem Dev.RingsStay.ringRun (h : d.RingsStay e) (hd : d.mem.bad = []) (r : Nat) : e.ringRun r = d.ringRun r := by
  rw [Dev.ringRun, (h.stay hd).2.1, Dev.ringRun]

end

section
variable (d : Dev)

/-! ### Responses and ends of commands -/

theorem Dev.ringsStay_respond (opcode : Nat) (h : EnvHdr) (status : Nat) (interim : Bool) (line : W64) (body : List Byte) :
    d.RingsStay (d.respond opcode h status interim line body) := by
  simp only [Dev.respond, Dev.ridge]
  split
  · split
    · exact .of_same rfl rfl rfl
    · exact .of_same rfl rfl rfl
  · split
    · exact .of_same rfl rfl rfl
    · exact .of_same rfl rfl rfl

theorem Dev.ringsStay_answer (id : Nat) (cmd : Cmd) (h : EnvHdr) (status : Nat) (line : W64) (body : List Byte) :
    d.RingsStay (d.answer id cmd h status line body) := by
  unfold Dev.answer
  split
  · exact .of_same rfl rfl rfl
  · exact (d.ringsStay_respond cmd.opcode h status false line body).trans (.of_same rfl rfl rfl)

theorem Dev.ringsStay_finalResp (id : Nat) (cmd : Cmd) (h : EnvHdr) (status : Nat) (line : W64) (body : List Byte) :
    d.RingsStay (d.finalResp id cmd h status line body) := by
  unfold Dev.finalResp
  split
  · exact d.ringsStay_answer ..
  · split
    · refine .trans ?_ (Dev.ringsStay_answer ..)
      exact .of_same rfl rfl rfl
    · exact .of_same rfl rfl rfl

theorem Dev.ringsStay_finish (id status : Nat) (line : W64) (body : List Byte) : d.RingsStay (d.finish id status line body) := by
  unfold Dev.finish
  split
  · exact .refl d
  · refine .trans ?_ (Dev.ringsStay_finalResp ..)
    exact .of_same rfl rfl rfl

/-! ### What objects and engines take -/

theorem Dev.ringsStay_noteShort (c : Nat) : d.RingsStay (d.noteShort c) := by
  unfold Dev.noteShort
  split
  · exact .refl d
  · exact .of_same rfl rfl rfl

theorem Dev.ringsStay_hbmGot (a n : Nat) : d.RingsStay (d.hbmGot a n) := by
  refine ⟨fun hd => ?_⟩
  rw [Dev.hbmGot_of_good hd]
  exact ⟨rfl, rfl, hd⟩

theorem Dev.ringsStay_hbmPut (a : Nat) (bs : List Byte) : d.RingsStay (d.hbmPut a bs) := by
  unfold Dev.hbmPut
  split
  · exact .of_same rfl rfl rfl
  · exact .refl d

theorem Dev.ringsStay_growObject (content obj : Nat) (bs : List Byte) (complete trunc : Bool) :
    d.RingsStay (d.growObject content obj bs complete trunc) := .of_same rfl rfl rfl

theorem Dev.ringsStay_setEngine (e : Nat) (x : EngSt) (state : Nat) : d.RingsStay (d.setEngine e x state) := by
  obtain ⟨v, h⟩ := d.setEngine_eq (e := e) x state
  rw [h]
  exact .of_same rfl rfl rfl

theorem Dev.ringsStay_claimEngine (c level : Nat) : d.RingsStay (d.claimEngine c level) := by
  unfold Dev.claimEngine
  split
  · exact d.ringsStay_setEngine ..
  · exact .refl d

theorem Dev.ringsStay_freeOwn (c : Nat) : d.RingsStay (d.freeOwn c) := by
  refine .iter (fun e d => ?_) _ _
  split
  · split
    · exact d.ringsStay_setEngine ..
    · exact .refl d
  · exact .refl d

/-! ### The recorder (R318, R319) -/

theorem Dev.ringsStay_growObject_rec (x : RecSt) (content obj : Nat) (bs : List Byte) (complete trunc : Bool) :
    d.RingsStay (({ d with cls := { d.cls with rec_ := x } } : Dev).growObject content obj bs complete trunc) := .of_same rfl rfl rfl

theorem Dev.ringsStay_stagePut (bs : List Byte) (complete trunc : Bool) : d.RingsStay (d.stagePut bs complete trunc) :=
  .trans (.trans (d.ringsStay_hbmPut _ _) (Dev.ringsStay_hbmPut _ _ _)) (Dev.ringsStay_growObject_rec _ _ _ _ _ _ _)

theorem Dev.ringsStay_closeSegment (trunc : Bool) : d.RingsStay (d.closeSegment trunc) := by
  unfold Dev.closeSegment
  split
  · exact .refl d
  · refine .trans (.trans ?_ (Dev.ringsStay_freeOwn _ 7)) (Dev.ringsStay_stagePut ..)
    exact .of_same rfl rfl rfl

theorem Dev.ringsStay_recWaiting (w : Bool) : d.RingsStay (d.recWaiting w) := .of_same rfl rfl rfl

theorem Dev.ringsStay_recStart : d.RingsStay d.recStart := by
  unfold Dev.recStart
  extract_lets n level src src' begun engaged waiting shown item made
  have hengaged : begun.RingsStay engaged := by
    unfold engaged
    split
    · exact .refl _
    · exact begun.ringsStay_claimEngine ..
  have hbegun : d.RingsStay begun := .of_same rfl rfl rfl
  have hmade : engaged.RingsStay made := .of_same rfl rfl rfl
  exact ((hbegun.trans hengaged).trans hmade).trans (made.ringsStay_stagePut ..)

theorem Dev.ringsStay_recBoundary : d.RingsStay d.recBoundary := by
  unfold Dev.recBoundary
  split
  · extract_lets n
    split
    · exact (d.ringsStay_closeSegment _).trans (Dev.ringsStay_recStart _)
    · exact .of_same rfl rfl rfl
  · split
    · exact .refl d
    · exact d.ringsStay_recStart

theorem Dev.ringsStay_recRead (rd : Nat → Nat → List Byte) : d.RingsStay (d.recRead rd) := by
  unfold Dev.recRead
  split
  · exact .refl d
  · extract_lets popped taken read x a size lo hi slot bytes
    have htaken : d.RingsStay taken := .of_same rfl rfl rfl
    split
    · exact (htaken.trans (taken.ringsStay_closeSegment _)).trans (Dev.ringsStay_recWaiting _ _)
    · split
      · exact d.ringsStay_noteShort _
      · split
        · exact .refl d
        · have hread : d.RingsStay read := by
            unfold read
            split
            · exact htaken.trans taken.ringsStay_recBoundary
            · exact htaken
          split
          · exact hread.trans (.of_same rfl rfl rfl)
          · split
            split
            · exact hread.trans ((read.ringsStay_closeSegment _).trans (.of_same rfl rfl rfl))
            · refine hread.trans (.trans ((read.ringsStay_hbmGot a size).trans ?_) (Dev.ringsStay_stagePut ..))
              exact .of_same rfl rfl rfl

/-! ### Exports and crops (R267, R320) -/

theorem Dev.ringsStay_exportCheck : d.RingsStay d.exportCheck := by
  unfold Dev.exportCheck
  split
  · exact .refl d
  · split
    · refine .trans ?_ (Dev.ringsStay_finish ..)
      exact .of_same rfl rfl rfl
    · exact .refl d

theorem Dev.ringsStay_exportCut : d.RingsStay d.exportCut := by
  unfold Dev.exportCut
  split
  · exact .refl d
  · split
    · refine .trans ?_ (Dev.ringsStay_exportCheck _)
      exact .of_same rfl rfl rfl
    · exact .refl d

theorem Dev.ringsStay_exportPump (rd : Nat → Nat → List Byte) : d.RingsStay (d.exportPump rd) := by
  unfold Dev.exportPump
  split
  · exact .refl d
  · refine .iter (fun _ d => ?_) _ _
    split
    · exact .refl d
    · split
      · exact .refl d
      · split
        · exact d.ringsStay_exportCut
        · split
          · exact .refl d
          · split
            · exact d.ringsStay_noteShort _
            · exact (d.ringsStay_hbmGot _ _).trans (.of_same rfl rfl rfl)

theorem Dev.ringsStay_cropLine (rd : Nat → Nat → List Byte) (c : Crop) : d.RingsStay (d.cropLine rd c).1 := by
  unfold Dev.cropLine
  split
  · exact .refl d
  · extract_lets l acquired x a n row read units charged
    split
    · exact .refl d
    · split
      · exact .refl d
      · split
        · exact d.ringsStay_noteShort _
        · have hread : d.RingsStay read := by
            unfold read
            split
            · exact d.ringsStay_hbmGot a n
            · exact .refl d
          exact hread.trans (.of_same rfl rfl rfl)

theorem Dev.ringsStay_cropPump (rd : Nat → Nat → List Byte) (c : Crop) : d.RingsStay (d.cropPump rd c).1 :=
  List.foldlRecOn (motive := fun p : Dev × Crop => d.RingsStay p.1) _ _ (.refl d) fun p hp _ _ => hp.trans (p.1.ringsStay_cropLine rd p.2)

theorem Dev.ringsStay_cropGo (rd : Nat → Nat → List Byte) : d.RingsStay (d.cropGo rd) := by
  unfold Dev.cropGo
  split
  next c _ _ =>
    split
    · exact (d.ringsStay_cropPump rd c).trans (.of_same rfl rfl rfl)
    · exact .refl d
  next => exact .refl d

/-- The sources of objects that go on leave every ring alone. -/
theorem Dev.ringsStay_feedSources (rd : Nat → Nat → List Byte) : d.RingsStay (d.feedSources rd) := by
  have hcrop := d.ringsStay_cropGo rd
  have hexport := (d.cropGo rd).ringsStay_exportPump rd
  have hrec : ((d.cropGo rd).exportPump rd).RingsStay (((d.cropGo rd).exportPump rd).recPump rd) := .iter (fun _ d => d.ringsStay_recRead rd) _ _
  exact ((hcrop.trans hexport).trans hrec).trans (Dev.ringsStay_exportCheck _)

end

end Sys2Proof.Machine
end

section
namespace Sys2Proof.Machine

/-! ### O37 -/

section
variable {d : Dev} {r i : Nat} {x : RingItem}

/-- An unfragmented item that fits is placed as the first fragment of an empty buffer; what follows leaves the rings alone. -/
theorem Dev.EmptyBuffer.ringDeliver (h : d.EmptyBuffer r) (rd : Nat → Nat → List Byte) (hen : (d.ring r).en = true)
    (hstage : (d.ringRun r).stage = []) (hnext : nextItem r d.host.queue = some i) (hx : d.host.queue[i]? = some x) (hwhole : x.isObject = false)
    (hfits : 32 + (padMul x.body 8).length ≤ 2 ^ (d.ring r).log2Buf.toNat) (hdma : d.exhausted (contentClient x.content) .dma = false) :
    ∃ e, d.RingWork r e ∧ e.ring r = d.ring r ∧ (e.putFragment r x x.body true).RingsStay (d.ringDeliver rd r true) := by
  have hfor : d.nextFor r = some (x, some i) := by simp [Dev.nextFor, hstage, hnext, hx]
  have hshort : d.ringShort (d.ring r) (contentClient x.content) = false := by simp [Dev.ringShort, h.typ, h.loc, hdma]
  obtain ⟨e, hplace, hwork, hring⟩ := h.place rd hwhole hfits
  have htaken : d.ringDeliver rd r true = ({ e.putFragment r x x.body true with
      host := { (e.putFragment r x x.body true).host with
        queue := setQueue (e.putFragment r x x.body true).host.queue i none } } : Dev).feedSources rd := by
    simp [Dev.ringDeliver, hen, h.typ, h.loc, hfor, h.hasBuffer, hshort, Dev.deliverItem, hplace]
  refine ⟨e, hwork, hring, ?_⟩
  rw [htaken]
  refine .trans ?_ (Dev.ringsStay_feedSources _ rd)
  exact .of_same rfl rfl rfl

end

/-- Settles O37: an item that fits begins the buffer (`Dev.EmptyBuffer.ringDeliver`, `Dev.putFragment_begins`), a flush writes it out before its descriptor
is used (`Dev.completeBuffer_makes`), and the coalescing timer sends the ring's message (`Dev.ringMessage_sends`). -/
theorem ringsDeliver : Obligations.RingsDeliver := by
  intro s dt r hen htyp hloc hout
  refine ⟨?deliver, ?flush, ?timer⟩
  case deliver =>
    intro i x hposted hlast hstage hfrags hbuf hgood haddr hnext hx hwhole hfits hdma
    have hempty : (s.dev.elapse dt).EmptyBuffer r := ⟨htyp, hloc, hout, hposted, hfrags, hbuf, haddr⟩
    obtain ⟨e, hwork, hring, hstay⟩ := hempty.ringDeliver s.hbmRead hen hstage hnext hx hwhole hfits hdma
    have hcontent : x.content ≠ 5 := by
      rintro h
      simp [RingItem.isObject, h] at hwhole
    have hflush : (e.ring r).flushLast = false := by rw [hring]; exact hlast
    obtain ⟨hone, hitems, ⟨flags, hbytes⟩, hmem⟩ :=
      Dev.putFragment_begins (hwork.frags.trans hfrags) (hwork.buf.trans hbuf) hflush hcontent x.body
    have hbad : (e.putFragment r x x.body true).mem.bad = [] := by
      obtain ⟨_, _, _, he⟩ := hwork.rest
      rw [hmem, he]
      exact hgood
    refine makes_of_after rfl ?_
    rw [hstay.ringRun hbad, hstay.ring hbad, hone, hitems, hbytes, hring]
    refine ⟨rfl, rfl, ?_, rfl, ?_⟩
    · rw [List.length_append, x.length_fragHeader]
    · rw [List.drop_left' (x.length_fragHeader flags x.body.length)]
  case flush =>
    intro hfrags hbuf hdue
    obtain ⟨hwork, hhead⟩ := Dev.completeBuffer_makes (d := s.dev.elapse dt) htyp hloc hfrags hbuf true
    have hflushed : (s.dev.elapse dt).bufferFlush r = (s.dev.elapse dt).completeBuffer r true := by
      refine if_pos ?_
      have htyp4 : ((s.dev.elapse dt).ring r).typ ≠ 4 := by rw [show ((s.dev.elapse dt).ring r).typ = 1 from htyp]; decide
      simp only [htyp4, if_false, Bool.and_eq_true, decide_eq_true_eq, Bool.or_eq_true]
      exact ⟨⟨⟨hen, hfrags⟩, hdue⟩, .inr hout⟩
    refine makes_of_after (f := fun d => d.bufferFlush r) rfl ?_
    rw [hflushed]
    obtain ⟨rest, hrest⟩ := hwork.out
    exact ⟨hwork.frags.trans Dev.bufferPut_frags, hhead, rest, hrest.symm⟩
  case timer =>
    intro v hvector harmed hcoal hunrep hdue hopen
    have hsent : (s.dev.elapse dt).ringTimer r = (s.dev.elapse dt).ringMessage r := by
      refine if_pos ?_
      simp only [Bool.and_eq_true, decide_eq_true_eq]
      refine ⟨⟨⟨⟨hen, harmed⟩, ?_⟩, hunrep⟩, hdue⟩
      exact fun h => hcoal (BitVec.eq_of_toNat_eq h)
    refine makes_of_after (f := fun d => d.ringTimer r) rfl ?_
    rw [hsent]
    exact Dev.ringMessage_sends hvector hopen

end Sys2Proof.Machine
end

section
/-! DMA copies (R314), the conditions under which outbound transfers run, and the messages that wait for them (R302, R315). -/

namespace Sys2Proof.Machine

/-! ### Copies (R314) -/

/-- Work on a ring leaves what the addresses of a copy are checked against. -/
theorem Dev.RingWork.checks {r : Nat} {d e : Dev} (h : d.RingWork r e) (a n : Nat) :
    e.outside a n = d.outside a n ∧ e.copyLocked a n = d.copyLocked a n := by
  obtain ⟨host, bal, out, rfl⟩ := h.rest
  exact ⟨rfl, rfl⟩

theorem Dev.RingWork.same {r : Nat} {d e : Dev} (h : d.RingWork r e) : e.mem = d.mem ∧ e.hbmw = d.hbmw := by
  obtain ⟨host, bal, out, rfl⟩ := h.rest
  exact ⟨rfl, rfl⟩

/-- The requests that bytes go out in depend on what the host has programmed alone. -/
theorem Dev.hostPut_out {d e : Dev} (h : e.host.ctl = d.host.ctl) (a : Nat) (ro best : Bool) (bs : List Byte) :
    (e.hostPut a ro best bs).out = e.out ++ (({ d with out := [] } : Dev).hostPut a ro best bs).out := by
  simp only [Dev.hostPut, h, List.nil_append]

/-- Ring r has read descriptors ahead, and is charged for a copy of n bytes. -/
def Dev.copyBegun (d : Dev) (r n : Nat) : Dev := (d.prefetch r).charge 20 { hbmUnits n with dma := units64 n }

theorem Dev.copyBegun_makes (d : Dev) (r n : Nat) : d.RingWork r (d.copyBegun r n) ∧ (d.copyBegun r n).ring r = d.ring r :=
  ⟨d.ringWork_prefetch.trans (Dev.ringWork_charge _ _ _), d.ring_prefetch r r⟩

/-- The descriptor of a copy that went well is written back, and used. -/
def Dev.copyDone (d : Dev) (r : Nat) (c : RingCtx) : Dev :=
  ((d.ringWriteMem c (c.descAddr + 24) false true [BitVec.ofNat 8 c.phase]).chargeRing c 20 1).descDone r

section
variable {d : Dev} {r : Nat}

theorem Dev.copyDone_makes {c : RingCtx} (hloc : c.loc = false) :
    d.RingWork r (d.copyDone r c) ∧ ((d.copyDone r c).ring r).head = (d.ring r).head + 1 := by
  refine ⟨((Dev.ringWork_ringWriteMem d hloc _ _ _ _).trans (Dev.ringWork_chargeRing _ _ _ _)).trans (Dev.ringWork_descDone _), ?_⟩
  rw [Dev.copyDone, Dev.descDone_ring_head, Dev.ring_chargeRing]
  simp [Dev.ringWriteMem, hloc, Dev.hostPut, Dev.ring]

/-- A copy on an enabled ring in host memory passes every check of R314. -/
structure Dev.CopyReady (d : Dev) (r : Nat) (desc : List Byte) (host hbm n : Nat) : Prop where
  en : (d.ring r).en = true
  typ : (d.ring r).typ = 3
  posted : (d.ring r).posted ≠ 0
  loc : (d.ring r).loc = false
  outbound : d.outboundOk = true
  hostAt : leAt desc 0 8 = host ∧ host % 64 = 0
  hbmAt : leAt desc 8 8 = hbm ∧ hbm % 64 = 0
  size : leAt desc 16 4 = n ∧ n % 64 = 0 ∧ 64 ≤ n ∧ n ≤ 16777216
  inside : d.outside hbm n = false
  budget : ∀ k ∈ [BalRes.dma, .hbm 0, .hbm 1], d.exhausted 20 k = false
  unlocked : (leAt desc 20 1).testBit 0 = false → d.copyLocked hbm n = false

/-- Such a copy passes all checks: what it reads and writes, then the write-back. -/
theorem Dev.CopyReady.dmaCopy {desc : List Byte} {host hbm n : Nat} (h : d.CopyReady r desc host hbm n) (rd : Nat → Nat → List Byte)
    (data : List Byte) : d.dmaCopy rd r desc data true =
      (if (leAt desc 20 1).testBit 0 then ((d.copyBegun r n).hbmGot hbm n).hostPut host false true (rd hbm n)
       else ((d.copyBegun r n).hostGet host true n).hbmPut hbm (padTo (data.take n) n)).copyDone r (d.ring r) := by
  obtain ⟨hen, htyp, hposted, hloc, hout, ⟨hhost, hhost64⟩, ⟨hhbm, hhbm64⟩, ⟨hn, hn64, hmin, hmax⟩, hin, hbudget, hopen⟩ := h
  obtain ⟨hout1, hlock1⟩ := (d.ringWork_prefetch (r := r)).checks hbm n
  have hsize : ¬ (n < 64 ∨ 16777216 < n) := by omega
  have hdma := hbudget .dma (by simp)
  have hhbm0 := hbudget (.hbm 0) (by simp)
  have hhbm1 := hbudget (.hbm 1) (by simp)
  generalize hdir : (leAt desc 20 1).testBit 0 = outward at hopen ⊢
  have hlocked : outward = false → (d.prefetch r).copyLocked hbm n = false := fun h => hlock1.trans (hopen h)
  cases outward
  all_goals simp [Dev.dmaCopy, Dev.copyBegun, Dev.copyDone, hen, htyp, hposted, hloc, hout, hdma, hhbm0, hhbm1, hhost, hhbm, hn, hhost64, hhbm64, hn64, hsize,
    hout1, hin, hlocked, hdir]

/-- A copy into the stacks stores the bytes read. -/
theorem Dev.CopyReady.copies_in {desc : List Byte} {host hbm n : Nat} (h : d.CopyReady r desc host hbm n) (rd : Nat → Nat → List Byte)
    (data : List Byte) (hdir : (leAt desc 20 1).testBit 0 = false) :
    (d.dmaCopy rd r desc data true).hbmw = d.hbmw ++ [(hbm, padTo (data.take n) n)] ∧
      ((d.dmaCopy rd r desc data true).ring r).head = (d.ring r).head + 1 := by
  have hfits : hbm + (padTo (data.take n) n).length ≤ hbmBytes := by
    have hin := h.inside
    simp only [Dev.outside, Bool.or_eq_false_iff, decide_eq_false_iff_not] at hin
    simp only [padTo, zeros, List.length_append, List.length_take, List.length_replicate]
    omega
  obtain ⟨hread, hring⟩ := d.copyBegun_makes r n
  rw [h.dmaCopy, hdir, if_neg Bool.false_ne_true, Dev.hbmPut, if_pos hfits]
  generalize d.copyBegun r n = e at hread hring ⊢
  have hgot := hread.trans (e.ringWork_hostGet host true n)
  obtain ⟨hdone, hhead⟩ := Dev.copyDone_makes (r := r) h.loc
    (d := { e.hostGet host true n with hbmw := (e.hostGet host true n).hbmw ++ [(hbm, padTo (data.take n) n)] })
  exact ⟨hdone.same.2.trans (congrArg (· ++ _) hgot.same.2), hhead.trans (congrArg (fun c : RingCtx => c.head + 1) hring)⟩

/-- A copy out of the stacks sends what they hold. -/
theorem Dev.CopyReady.copies_out {desc : List Byte} {host hbm n : Nat} (h : d.CopyReady r desc host hbm n) (rd : Nat → Nat → List Byte)
    (data : List Byte) (hdir : (leAt desc 20 1).testBit 0 = true) (hgood : d.mem.bad = []) :
    (∃ pre post, (d.dmaCopy rd r desc data true).out = pre ++ (({ d with out := [] } : Dev).hostPut host false true (rd hbm n)).out ++ post) ∧
      ((d.dmaCopy rd r desc data true).ring r).head = (d.ring r).head + 1 ∧ (d.dmaCopy rd r desc data true).hbmw = d.hbmw := by
  obtain ⟨hread, hring⟩ := d.copyBegun_makes r n
  have hgood' : (d.copyBegun r n).mem.bad = [] := by rw [hread.same.1, hgood]
  rw [h.dmaCopy, hdir, if_pos rfl, Dev.hbmGot_of_good hgood']
  generalize d.copyBegun r n = e at hread hring ⊢
  obtain ⟨hdone, hhead⟩ := Dev.copyDone_makes (r := r) h.loc (d := ({ e with hbmr := e.hbmr ++ [(hbm, n)] } : Dev).hostPut host false true (rd hbm n))
  obtain ⟨post, hpost⟩ := hdone.out
  refine ⟨⟨e.out, post, ?_⟩, hhead.trans (congrArg (fun c : RingCtx => c.head + 1) hring), hdone.same.2.trans hread.same.2⟩
  exact hpost.symm.trans (congrArg (· ++ post) (Dev.hostPut_out hread.ctl host false true (rd hbm n)))

end

/-! ### Messages that leave (R302, R315) -/

/-- What a loop sends goes out in order, and nothing else changes. -/
theorem Dev.foldl_emit {α : Type} (g : α → Out) (l : List α) (d : Dev) :
    l.foldl (fun d x => d.emit (g x)) d = { d with out := d.out ++ l.map g } := by
  induction l generalizing d with
  | nil => simp
  | cons x l ih =>
    rw [List.foldl_cons, ih]
    simp [Dev.emit]

section
variable {d : Dev}

/-- Once outbound transfers run, the messages whose vectors are open leave, and the others stay pending. -/
theorem Dev.msixFlush_eq (h : d.outboundOk = true) : d.msixFlush = { d with
    host := { d.host with msixPend := d.host.msixPend.filter (fun v => !d.msixOpen v) }
    out := d.out ++ (d.host.msixPend.filter d.msixOpen).map .msix } := by
  simp [Dev.msixFlush, h, Dev.foldl_emit]

/-- A message may leave (R300, R302). -/
theorem Dev.msixOpen_iff {v : Nat} : d.msixOpen v = true ↔
    d.outboundOk = true ∧ d.host.ctl.msixOn = true ∧ d.host.ctl.masked = false ∧ v ∈ d.host.unmasked := by
  simp [Dev.msixOpen, and_assoc]

theorem Dev.msixFlush_sends (h : d.outboundOk = true) {v : Nat} (hv : v ∈ d.host.msixPend) (hopen : d.msixOpen v = true) :
    .msix v ∈ d.msixFlush.out ∧ v ∉ d.msixFlush.host.msixPend := by
  rw [Dev.msixFlush_eq h]
  exact ⟨List.mem_append_right _ (List.mem_map_of_mem (List.mem_filter.mpr ⟨hv, hopen⟩)), by simp [hopen]⟩

end

/-! ### Lanes of the host link that go down (R302, R423) -/

/-- A lane of the host link that goes down to receiver detect: it is not in stage 5, and neither the host's paths nor another lane changes. -/
theorem Dev.laneStep_pcie (d : Dev) {l : Nat} (hl : laneUse l = .pcie) :
    (d.laneStep l 1).host = d.host ∧ ((d.laneStep l 1).lane l).step ≠ 6 ∧ ∀ k, k ≠ l → (d.laneStep l 1).lane k = d.lane k := by
  have hmoved := d.onLane_laneMoved l 1
  have hlow : ((d.laneMoved l 1).lane l).step ≠ 6 := by
    by_cases hin : l < d.lanes.length
    · obtain ⟨_, _, _, _, _, _, h⟩ := d.lane_laneMoved l 1 hin
      rw [h]
      exact (by decide : (1 : Nat) ≠ 6)
    · have hout : (d.laneMoved l 1).lane l = .reset := lget_of_length_le _ (by rw [hmoved.length]; omega)
      rw [hout]
      decide
  have hleft : ∀ e : Dev, (e.leaveActive l).host = e.host ∧ (e.leaveActive l).lanes = e.lanes := by
    intro e
    simp only [Dev.leaveActive, Dev.abortEye, hl, reduceCtorEq, if_false]
    split <;> exact ⟨rfl, rfl⟩
  have hshown : ∀ e : Dev, (e.stageShown l 1).host = e.host ∧ (e.stageShown l 1).lanes = e.lanes := by
    intro e
    simp only [Dev.stageShown, hl, reduceCtorEq, if_false]
    exact ⟨rfl, rfl⟩
  have hmovedHost : (d.laneMoved l 1).host = d.host := by
    obtain ⟨_, _, h⟩ := d.laneMoved_eq l 1
    rw [h]
  have hdown : ∀ e : Dev, e = (if (d.lane l).step = 6 then (d.laneMoved l 1).leaveActive l else d.laneMoved l 1) →
      (e.stageShown l 1).host = d.host ∧ (e.stageShown l 1).lanes = (d.laneMoved l 1).lanes := by
    rintro _ rfl
    rw [(hshown _).1, (hshown _).2]
    split
    · exact ⟨(hleft _).1.trans hmovedHost, (hleft _).2⟩
    · exact ⟨hmovedHost, rfl⟩
  rw [d.laneStep_of_below l 1 (by decide)]
  generalize he : (if (d.lane l).step = 6 then (d.laneMoved l 1).leaveActive l else d.laneMoved l 1) = e
  obtain ⟨hhost, hlanes⟩ := hdown e he.symm
  have hlane : (e.stageShown l 1).lane = (d.laneMoved l 1).lane := by
    funext k
    rw [Dev.lane, hlanes, Dev.lane]
  rw [hlane]
  exact ⟨hhost, hlow, hmoved.lanes⟩

/-- Lane k of the host link goes down where it was up. -/
def Dev.hostLaneDown (d : Dev) (k : Nat) : Dev := if (d.lane (40 + k)).step = 6 then d.laneStep (40 + k) 1 else d

theorem Dev.setLink_down (d : Dev) : d.setLink .linkDown false =
    (List.range 8).foldl Dev.hostLaneDown { d with host := { d.host with linkUp := false } } := rfl

theorem Dev.hostLaneDown_makes (d : Dev) {k : Nat} (hk : k < 8) : (d.hostLaneDown k).host = d.host ∧ ((d.hostLaneDown k).lane (40 + k)).step ≠ 6 ∧
    ∀ l, (d.lane l).step ≠ 6 → ((d.hostLaneDown k).lane l).step ≠ 6 := by
  have huse : laneUse (40 + k) = .pcie := by
    unfold laneUse
    rw [if_neg (by omega), if_neg (by omega), if_pos (by omega)]
  unfold Dev.hostLaneDown
  split
  · obtain ⟨hhost, hdown, hothers⟩ := d.laneStep_pcie huse
    refine ⟨hhost, hdown, fun l h => ?_⟩
    by_cases hl : l = 40 + k
    · rw [hl]; exact hdown
    · rw [hothers l hl]; exact h
  · exact ⟨rfl, by assumption, fun _ h => h⟩

/-- Lanes of the host link go down one after another, and none comes up. -/
theorem Dev.hostLanesDown (ks : List Nat) (hks : ∀ k ∈ ks, k < 8) (d : Dev) :
    (ks.foldl Dev.hostLaneDown d).host = d.host ∧ (∀ k ∈ ks, ((ks.foldl Dev.hostLaneDown d).lane (40 + k)).step ≠ 6) ∧
      ∀ l, (d.lane l).step ≠ 6 → ((ks.foldl Dev.hostLaneDown d).lane l).step ≠ 6 := by
  induction ks generalizing d with
  | nil => exact ⟨rfl, by simp, fun _ h => h⟩
  | cons k ks ih =>
    obtain ⟨hhost, hdown, hstay⟩ := d.hostLaneDown_makes (hks k (by simp))
    obtain ⟨ihhost, ihdown, ihstay⟩ := ih (fun j hj => hks j (by simp [hj])) (d.hostLaneDown k)
    refine ⟨ihhost.trans hhost, fun j hj => ?_, fun l h => ihstay l (hstay l h)⟩
    rcases List.mem_cons.mp hj with rfl | hj
    · exact ihstay _ hdown
    · exact ihdown j hj

/-! ### O38 -/

/-- Settles O38: a copy whose checks pass stores or sends its bytes (`Dev.CopyReady.dmaCopy`), the conditions are set as they stand, with the lanes of
a link that is down (`Dev.hostLanesDown`), and open messages leave (`Dev.msixFlush_sends`). -/
theorem copiesAndMessages : Obligations.CopiesAndMessages := by
  intro s dt
  refine ⟨?copy, makes_of_after rfl rfl, makes_of_after rfl rfl, ?linkDown, ?resume, ?unmask⟩
  case copy =>
    intro r desc data host hbm n hen htyp hposted hloc hout hhost hhbm hn hhost64 hhbm64 hn64 hmin hmax hin hbudget
    have hready (hopen : (leAt desc 20 1).testBit 0 = false → s.dev.copyLocked hbm n = false) : (s.dev.elapse dt).CopyReady r desc host hbm n :=
      ⟨hen, htyp, hposted, hloc, hout, ⟨hhost, hhost64⟩, ⟨hhbm, hhbm64⟩, ⟨hn, hn64, hmin, hmax⟩, hin, hbudget, hopen⟩
    refine ⟨fun hdir hopen => ?into, fun hdir hgood => ?out⟩
    case into => exact makes_of_after (f := fun d => d.dmaCopy s.hbmRead r desc data true) rfl ((hready fun _ => hopen).copies_in _ _ hdir)
    case out =>
      have hlock : (leAt desc 20 1).testBit 0 = false → s.dev.copyLocked hbm n = false := fun h => by rw [hdir] at h; cases h
      exact makes_of_after (f := fun d => d.dmaCopy s.hbmRead r desc data true) rfl ((hready hlock).copies_out _ _ hdir hgood)
  case linkDown =>
    obtain ⟨hhost, hdown, -⟩ :=
      Dev.hostLanesDown (List.range 8) (fun k hk => List.mem_range.mp hk) { s.dev.elapse dt with host := { s.dev.host with linkUp := false } }
    exact makes_of_after (f := fun d => d.setLink .linkDown false) rfl ⟨hhost, fun k hk => hdown k (List.mem_range.mpr hk)⟩
  case resume =>
    intro ctl hd0 hlink hon hunmasked
    have hout : ({ s.dev.elapse dt with host := { s.dev.host with ctl := ctl, busMaster := true } } : Dev).outboundOk = true := by
      simp [Dev.outboundOk, hd0, hlink]
    refine makes_of_after rfl ⟨?_, ?_, fun v hv hvec => ?_⟩
    · exact congrArg (fun d : Dev => d.host.busMaster) (Dev.msixFlush_eq hout)
    · exact congrArg (fun d : Dev => d.host.ctl) (Dev.msixFlush_eq hout)
    · exact Dev.msixFlush_sends hout hv (Dev.msixOpen_iff.mpr ⟨hout, hon, hunmasked, by simpa using hvec⟩)
  case unmask =>
    intro v hout hon hunmasked hv
    have hmember : v.val ∈ s.dev.host.unmasked.filter (fun x => x ≠ v.val) ++ [v.val] := List.mem_append_right _ (by simp)
    have hset : ({ s.dev.elapse 0 with host := { s.dev.host with
        unmasked := s.dev.host.unmasked.filter (fun x => x ≠ v.val) ++ [v.val] } } : Dev).outboundOk = true := hout
    obtain ⟨hsent, hgone⟩ := Dev.msixFlush_sends hset hv (Dev.msixOpen_iff.mpr ⟨hout, hon, hunmasked, hmember⟩)
    refine makes_of_after (f := fun d => d.msixMask v false) rfl ⟨hsent, hgone, ?_⟩
    rw [show (s.dev.elapse 0).msixMask v false = _ from Dev.msixFlush_eq hset]
    exact hmember

end Sys2Proof.Machine
end

section
/-! Live views on the Ethernet ports (R323 to R327): the view in a slot, what leaves for it, and what sending a frame asks of the block. -/

namespace Sys2Proof.Machine

/-! ### What work on views leaves alone -/

/-- Work on views: of the registers VIEW_STAT alone changes, and outside them the views and what goes out. -/
structure Dev.ViewWork (d e : Dev) : Prop where
  rest : ∃ rs vs out, e = { d with regs := rs, views := vs, out := out }
  rd : ∀ b, b ≠ a_ETH_VIEW_STAT → e.rd b = d.rd b

section
variable (d : Dev)

theorem Dev.ViewWork.refl : d.ViewWork d := ⟨⟨_, _, _, rfl⟩, fun _ _ => rfl⟩

variable {d} in
theorem Dev.ViewWork.trans {e f : Dev} (h : d.ViewWork e) (k : e.ViewWork f) : d.ViewWork f := by
  obtain ⟨rs, vs, out, he⟩ := h.rest
  obtain ⟨rs', vs', out', hf⟩ := k.rest
  exact ⟨⟨rs', vs', out', by rw [hf, he]⟩, fun b hb => (k.rd b hb).trans (h.rd b hb)⟩

/-- Views and what goes out change, and VIEW_STAT shows the slots in use. -/
theorem Dev.viewWork_showViews (vs : List View) (out : List Out) : d.ViewWork ({ d with views := vs, out := out } : Dev).showViews :=
  ⟨⟨_, _, _, rfl⟩, fun _ hb => Dev.rd_wr_ne _ _ hb⟩

theorem Dev.viewWork_setView (v : View) : d.ViewWork (d.setView v) := d.viewWork_showViews _ _

end

section
variable {d e : Dev} (h : d.ViewWork e)
include h

theorem Dev.ViewWork.same : e.cls = d.cls ∧ e.clk = d.clk ∧ e.mem = d.mem ∧ e.bal = d.bal ∧ e.tha = d.tha ∧ e.lanes = d.lanes ∧ e.rst = d.rst := by
  obtain ⟨rs, vs, out, rfl⟩ := h.rest
  exact ⟨rfl, rfl, rfl, rfl, rfl, rfl, rfl⟩

theorem Dev.ViewWork.freeEngine : e.freeEngine = d.freeEngine := by
  obtain ⟨rs, vs, out, rfl⟩ := h.rest
  rfl

theorem Dev.ViewWork.ethMbps (p : Nat) : e.ethMbps p = d.ethMbps p := by
  obtain ⟨rs, vs, out, rfl⟩ := h.rest
  rfl

theorem Dev.ViewWork.rdF {b : Nat} (hb : b ≠ a_ETH_VIEW_STAT) (g : Fld) : e.rdF b g = d.rdF b g := congrArg (fget · g) (h.rd b hb)

theorem Dev.ViewWork.rdB {b : Nat} (hb : b ≠ a_ETH_VIEW_STAT) (g : Fld) : e.rdB b g = d.rdB b g := congrArg (fbit · g) (h.rd b hb)

theorem Dev.ViewWork.isHeld (u : RUnit) : e.isHeld u = d.isHeld u := by
  obtain ⟨rs, vs, out, rfl⟩ := h.rest
  rfl

theorem Dev.ViewWork.now : e.now = d.now := by
  obtain ⟨rs, vs, out, rfl⟩ := h.rest
  rfl

theorem Dev.ViewWork.el : e.el = d.el := by
  obtain ⟨rs, vs, out, rfl⟩ := h.rest
  rfl

/-- DEST lies behind VIEW_STAT. -/
theorem Dev.ViewWork.viewPort (v : View) : e.viewPort v = d.viewPort v := by
  have hdest : ∀ x, a_ETH_DEST x ≠ a_ETH_VIEW_STAT := fun x => by unfold a_ETH_DEST a_ETH_VIEW_STAT; omega
  unfold Dev.viewPort
  split
  · rw [h.rdF (hdest _)]
  · rfl

/-! ### Budgets (R70): they lie outside the Ethernet ports' registers -/

theorem Dev.ViewWork.schedulable (r : BalRes) : e.schedulable r = d.schedulable r := by
  obtain ⟨-, -, hmem, -⟩ := h.same
  cases r with
  | hbm s =>
    have htrn : a_HBM_TRN_STAT s ≠ a_ETH_VIEW_STAT := by unfold a_HBM_TRN_STAT a_ETH_VIEW_STAT; omega
    simp only [Dev.schedulable, Dev.stackUnits, Dev.retired, hmem, h.rdB htrn]
  | tha => rfl
  | keel => rfl
  | dma => rfl

theorem Dev.ViewWork.budgetOf {c : Nat} (hc : c < 24) (r : BalRes) : e.budgetOf c r = d.budgetOf c r := by
  have hactive : a_BAL_ACTIVE c ≠ a_ETH_VIEW_STAT := by unfold a_BAL_ACTIVE a_ETH_VIEW_STAT; omega
  have hthm : a_THM_STAT ≠ a_ETH_VIEW_STAT := by decide
  unfold Dev.budgetOf
  simp only [h.rdF hactive, h.rdB hthm]

theorem Dev.ViewWork.shareOf {c : Nat} (hc : c < 24) (r : BalRes) : e.shareOf c r = d.shareOf c r := by
  have hall : (List.range 11).map (fun k => e.budgetOf k r) = (List.range 11).map (fun k => d.budgetOf k r) :=
    List.map_congr_left fun k hk => h.budgetOf (by have := List.mem_range.mp hk; omega) r
  simp only [Dev.shareOf, hall, h.budgetOf hc, h.schedulable]

theorem Dev.ViewWork.usedBy {c : Nat} (hc : c < 24) : e.usedBy c = d.usedBy c := by
  obtain ⟨-, -, -, hbal, -⟩ := h.same
  have hshare : e.shareOf c = d.shareOf c := funext (h.shareOf hc)
  unfold Dev.usedBy
  rw [hbal, h.el, hshare]

theorem Dev.ViewWork.exhausted {c : Nat} (hc : c < 24) (r : BalRes) : e.exhausted c r = d.exhausted c r := by
  have hall : (List.range 24).map (fun k => Demand.of (e.usedBy k) r) = (List.range 24).map (fun k => Demand.of (d.usedBy k) r) :=
    List.map_congr_left fun k hk => by rw [h.usedBy (List.mem_range.mp hk)]
  simp only [Dev.exhausted, hall, h.schedulable, h.budgetOf hc, h.usedBy hc]

end

/-! ### The view in a slot -/

section
variable {d : Dev} {k : Nat} {v : View}

theorem Dev.slot_of_viewAt (h : d.viewAt k = some v) : v.slot = k := by
  simpa using List.find?_some h

/-- A view that takes a slot is the view in it. -/
theorem Dev.viewAt_setView (d : Dev) (v : View) : (d.setView v).viewAt v.slot = some v := by
  have hnone : (d.views.filter (fun x => x.slot ≠ v.slot)).find? (fun x => x.slot = v.slot) = none := by simp
  show (d.views.filter (fun x => x.slot ≠ v.slot) ++ [v]).find? (fun x => x.slot = v.slot) = some v
  rw [List.find?_append, hnone]
  simp

theorem Dev.viewSend_eq (d : Dev) (v : View) (bytes : List Byte) : ∃ o, d.viewSend v bytes = d.emit o := by
  unfold Dev.viewSend
  split <;> exact ⟨_, rfl⟩

/-- Datagrams that leave go out, and nothing else changes. -/
theorem Dev.foldl_viewSend (v : View) (l : List (Nat × Nat × List Byte)) (d : Dev) :
    ∃ out, l.foldl (fun d p => d.viewSend v p.2.2) d = { d with out := d.out ++ out } ∧ (l = [] → out = []) := by
  induction l generalizing d with
  | nil => exact ⟨[], by simp, fun _ => rfl⟩
  | cons p l ih =>
    obtain ⟨o, ho⟩ := d.viewSend_eq v p.2.2
    obtain ⟨out, hout, -⟩ := ih (d.emit o)
    refine ⟨o :: out, ?_, by simp⟩
    rw [List.foldl_cons, ho, hout]
    simp [Dev.emit]

/-- Datagrams due by now leave: the view stays but for what it has still to send. -/
theorem Dev.viewFlush_makes (h : d.viewAt k = some v) :
    d.ViewWork (d.viewFlush k) ∧ ∃ todo tile, (d.viewFlush k).viewAt k = some { v with todo := todo, tile := tile } := by
  obtain ⟨out, hsent, -⟩ := Dev.foldl_viewSend v (v.todo.filter (fun p => decide (p.1 ≤ d.el))) d
  simp only [Dev.viewFlush, h, hsent]
  split
  · exact ⟨⟨⟨_, _, _, rfl⟩, fun _ _ => rfl⟩, _, _, h⟩
  · obtain rfl := Dev.slot_of_viewAt h
    exact ⟨d.viewWork_showViews _ _, _, _, Dev.viewAt_setView _ { v with todo := _, tile := _ }⟩

/-- A slot becomes free; nothing leaves for it where nothing is left to send. -/
theorem Dev.dropView_makes (h : d.viewAt k = some v) :
    (d.dropView k).views = d.views.filter (fun x => x.slot ≠ k) ∧ (v.todo = [] → (d.dropView k).out = d.out) := by
  simp only [Dev.dropView, h]
  generalize hsend : (v.todo.filter (fun p => decide (p.1 ≤ d.el)) ++ v.todo.filter _) = l
  obtain ⟨out, hsent, hnone⟩ := Dev.foldl_viewSend v l d
  rw [hsent]
  refine ⟨rfl, fun htodo => ?_⟩
  have hl : l = [] := by rw [← hsend, htodo]; rfl
  show d.out ++ out = d.out
  rw [hnone hl, List.append_nil]

end

/-- A lease that has ended frees its view's slot. -/
theorem Dev.viewExpire_ended {d : Dev} {k : Nat} {v : View} (hview : d.viewAt k = some v) (hdest : v.dest = none)
    (hended : v.lease + 5000000000 ≤ d.el) : d.viewExpire k = d.dropView k := by
  simp [Dev.viewExpire, hview, hdest, hended]

/-! ### Messages of subscribers (R323, R324) -/

/-- The view that a SUBSCRIBE message asks for, in slot k. -/
def Dev.subscribed (d : Dev) (f : UdpFrame) (k : Nat) : View :=
  ⟨k, none, BitVec.ofNat 32 (leAt f.payload 18 4), leAt f.payload 4 4, leAt f.payload 8 4, leAt f.payload 12 1, leAt f.payload 13 1,
    leAt f.payload 14 2, f.srcIp, BitVec.ofNat 16 (leAt f.payload 16 2), f.srcMac, f.port, d.el, 0,
    d.now.toNat / framePeriod (leAt f.payload 13 1), 0, [], none⟩

section
variable {d : Dev} {f : UdpFrame} (hheld : d.isHeld .eth = false) (hip : f.dstIp.toNat = d.portIp f.port) (hup : d.ethMbps f.port ≠ 0)
include hheld hip hup

section
variable {k : Nat} (hmsg : isViewMsg f 2 22 = true)
  (hfree : (List.range 32).find? (fun k => !(d.rdF a_ETH_VIEW_RSV f_ETH_VIEW_RSV_RSV).testBit k && (d.viewAt k).isNone) = some k)
include hmsg hfree

/-- An accepted subscription takes the slot that is free. -/
theorem Dev.subscribe_accepted (hacl : d.aclOk f.srcIp = true)
    (hstatus : d.viewStatus (leAt f.payload 4 4) (leAt f.payload 8 4) (leAt f.payload 12 1) (leAt f.payload 13 1) (leAt f.payload 14 2) = 0) :
    (d.subscribe f).views = d.views.filter (fun x => x.slot ≠ k) ++ [d.subscribed f k] := by
  simp [Dev.subscribe, hheld, hip, hup, hmsg, hfree, hacl, hstatus, Dev.subscribed, Dev.setView, Dev.showViews, Dev.viewAck, Dev.sendUdp]

/-- A subscription from outside VIEW_ACL is counted and answered. -/
theorem Dev.subscribe_refused (hacl : d.aclOk f.srcIp = false) :
    (d.subscribe f).views = d.views ∧ (d.subscribe f).rdF a_ETH_VIEW_STAT f_ETH_VIEW_STAT_REFUSED_CNT =
      min (d.rdF a_ETH_VIEW_STAT f_ETH_VIEW_STAT_REFUSED_CNT + 1) (2 ^ f_ETH_VIEW_STAT_REFUSED_CNT.w - 1) := by
  have hcount := d.rdF_inc_self a_ETH_VIEW_STAT f_ETH_VIEW_STAT_REFUSED_CNT 1 (by decide)
  simp only [Dev.subscribe, hheld, hip, hup, hmsg, hfree, hacl, Bool.or_self, Bool.not_true, Bool.not_false, ne_eq,
    not_true_eq_false, decide_false, Bool.false_eq_true, if_false, if_true, OfNat.ofNat_ne_zero, not_false_eq_true]
  exact ⟨rfl, hcount⟩

end

/-- A RENEW or UNSUBSCRIBE of a subscriber's view acts on it, and is answered. -/
theorem Dev.onView_acts {v : View} {kind : Nat} (hmsg : isViewMsg f kind 5 = true) (hacl : d.aclOk f.srcIp = true)
    (hview : d.viewAt (leAt f.payload 4 1) = some v) (hdest : v.dest = none) (go : Dev → View → Dev) :
    (d.onView f kind go).views = (go d v).views := by
  simp [Dev.onView, hheld, hip, hup, hmsg, hacl, hview, hdest, Dev.viewAck, Dev.sendUdp]

end

/-! ### Frames sent (R325) -/

/-- A frame's view is the view in its slot, with the frame counted. -/
theorem Dev.sendFrame_eq (d : Dev) (rd : Nat → Nat → List Byte) (v : View) (n : Nat) :
    ∃ (e : Dev) (x : View), d.sendFrame rd v n = (e.setView x).viewFlush x.slot ∧ x.slot = v.slot ∧ x.frame = v.frame + 1 ∧ x.last = v.last :=
  ⟨_, _, rfl, rfl, rfl, rfl⟩

theorem Dev.sendFrame_makes (d : Dev) (rd : Nat → Nat → List Byte) (v : View) (n : Nat) :
    ∃ x, (d.sendFrame rd v n).viewAt v.slot = some x ∧ x.frame = v.frame + 1 ∧ x.last = v.last := by
  obtain ⟨e, x, hsend, hslot, hframe, hlast⟩ := d.sendFrame_eq rd v n
  obtain ⟨-, todo, tile, hview⟩ := Dev.viewFlush_makes (e.viewAt_setView x)
  exact ⟨{ x with todo := todo, tile := tile }, by rw [hsend, ← hslot, hview], hframe, hlast⟩

/-- An instant of view v has come, and nothing that R325 or R277 names keeps its frame of line n back. -/
structure Dev.FrameDue (d : Dev) (v : View) (n : Nat) : Prop where
  held : d.isHeld .eth = false
  instant : d.now.toNat / framePeriod v.rate ≠ v.last
  newest : d.cls.newest = some n
  idle : v.busyUntil ≤ d.el
  up : d.ethMbps (d.viewPort v) ≠ 0
  engine : d.freeEngine ≠ none
  budget : ∀ r ∈ [BalRes.hbm 0, .hbm 1, .tha], d.exhausted 5 r = false

/-- Sending what is due beforehand keeps no frame back. -/
theorem Dev.ViewWork.frameDue {d e : Dev} (h : d.ViewWork e) {v : View} {n : Nat} (hdue : d.FrameDue v n) (todo : List (Nat × Nat × List Byte))
    (tile : Option Nat) : e.FrameDue { v with todo := todo, tile := tile } n where
  held := h.isHeld _ ▸ hdue.held
  instant := h.now ▸ hdue.instant
  newest := h.same.1 ▸ hdue.newest
  idle := h.el ▸ hdue.idle
  up := by rw [h.ethMbps, h.viewPort]; exact hdue.up
  engine := h.freeEngine ▸ hdue.engine
  budget := fun r hr => (h.exhausted (by decide) r).trans (hdue.budget r hr)

/-- With nothing to keep it back the frame is sent, and the instant is the view's last. -/
theorem Dev.viewFrame_of_flushed {d : Dev} {k n : Nat} {v : View} (hview : (d.viewFlush k).viewAt k = some v) (hdue : (d.viewFlush k).FrameDue v n)
    (rd : Nat → Nat → List Byte) : d.viewFrame rd k =
      ((d.viewFlush k).setView { v with last := (d.viewFlush k).now.toNat / framePeriod v.rate }).sendFrame rd
        { v with last := (d.viewFlush k).now.toNat / framePeriod v.rate } n := by
  unfold Dev.viewFrame
  generalize d.viewFlush k = e at *
  obtain ⟨hheld, hinstant, hnewest, hidle, hup, hengine, hbudget⟩ := hdue
  have hset := e.viewWork_setView { v with last := e.now.toNat / framePeriod v.rate }
  have hport := hset.viewPort { v with last := e.now.toNat / framePeriod v.rate }
  have hup' : e.ethMbps (e.viewPort { v with last := e.now.toNat / framePeriod v.rate }) ≠ 0 := hup
  have hnewest' : (e.setView { v with last := e.now.toNat / framePeriod v.rate }).cls.newest = some n := hnewest
  simp [hview, hheld, hinstant, hnewest', hset.el, Nat.not_lt.mpr hidle, hport, hset.ethMbps, hup', hset.freeEngine, hengine, hset.exhausted, hbudget]

/-- A frame that is due makes its view count on. -/
theorem Dev.viewFrame_makes {d : Dev} {k n : Nat} {v : View} (hview : d.viewAt k = some v) (hdue : d.FrameDue v n) (rd : Nat → Nat → List Byte) :
    ∃ x, (d.viewFrame rd k).viewAt k = some x ∧ x.frame = v.frame + 1 ∧ x.last = d.now.toNat / framePeriod v.rate := by
  obtain ⟨hflush, todo, tile, hflushed⟩ := Dev.viewFlush_makes hview
  obtain rfl := Dev.slot_of_viewAt hview
  rw [Dev.viewFrame_of_flushed hflushed (hflush.frameDue hdue todo tile) rd, hflush.now]
  exact Dev.sendFrame_makes _ rd _ n

/-! ### Other frames (R321) -/

section
variable {d : Dev} {port : Nat} (hheld : d.isHeld .eth = false)
include hheld

theorem Dev.frameDrop_eq : d.frameDrop false = { d with host := { d.host with ethDropped := d.host.ethDropped + 1 } } := by
  simp [Dev.frameDrop, hheld]

variable (hup : d.ethMbps port ≠ 0)
include hup

/-- A request for a port's own address is answered with the 28 bytes of RFC 826. -/
theorem Dev.arpReply_own {target sender : W32} (mac : BitVec 48) (hown : target.toNat = d.portIp port) :
    ∃ bytes, d.arpReply port target sender mac = d.emit (.eth port sender mac 0 bytes) ∧ bytes.length = 28 := by
  simp only [Dev.arpReply, hheld, hup, hown, Bool.false_or, decide_false, Bool.false_eq_true, if_false, ne_eq, not_true_eq_false]
  exact ⟨_, rfl, by simp [netBytes, length_leBytes]⟩

theorem Dev.arpReply_other {target sender : W32} (mac : BitVec 48) (hother : target.toNat ≠ d.portIp port) :
    d.arpReply port target sender mac = d.frameDrop false := by
  simp [Dev.arpReply, hheld, hup, hother]

theorem Dev.echoReply_own {f : UdpFrame} (hown : f.dstIp.toNat = d.portIp port) : d.echoReply port f =
    d.emit (.eth port f.srcIp f.srcMac 0 ([0, 0] ++ netBytes 2 (inetSum ([0, 0, 0, 0] ++ f.payload)) ++ f.payload)) := by
  simp [Dev.echoReply, hheld, hup, hown]

end

/-! ### O52 -/

/-- Settles O52: messages act on the view in their slot, a frame that is due is sent and counted (`Dev.viewFrame_makes`), and other frames are
answered or counted. -/
theorem ethernetPorts : Obligations.EthernetPorts := by
  intro s dt hheld
  refine ⟨?subscribe, ?message, ?slot, ?arp, ?echo, ?discard⟩
  case subscribe =>
    intro f k hmsg hip hup hfree
    refine ⟨fun hacl hstatus => ?accepted, fun hacl => ?refused⟩
    case accepted =>
      exact makes_of_after (f := fun d => d.subscribe f) rfl ⟨(s.dev.elapse dt).subscribed f k,
        Dev.subscribe_accepted (d := s.dev.elapse dt) hheld hip hup hmsg hfree hacl hstatus, rfl, rfl, rfl, rfl, rfl, rfl, rfl⟩
    case refused =>
      exact makes_of_after (f := fun d => d.subscribe f) rfl (Dev.subscribe_refused (d := s.dev.elapse dt) hheld hip hup hmsg hfree hacl)
  case message =>
    intro f v hip hup hacl hview hdest
    refine ⟨fun hmsg => ?renew, fun hmsg => ?unsubscribe⟩
    case renew =>
      exact makes_of_after rfl (Dev.onView_acts (d := s.dev.elapse dt) hheld hip hup hmsg hacl hview hdest _)
    case unsubscribe =>
      have hdrop : (s.dev.elapse dt).viewAt v.slot = some v := Dev.slot_of_viewAt hview ▸ hview
      exact makes_of_after rfl ((Dev.onView_acts (d := s.dev.elapse dt) hheld hip hup hmsg hacl hview hdest _).trans (Dev.dropView_makes hdrop).1)
  case slot =>
    intro k v hview
    refine ⟨fun hdest hended => ?expiry, fun n hinstant hnewest hidle hup hgood hengine hhbm0 hhbm1 htha => ?frame⟩
    case expiry =>
      exact makes_of_after_eq (f := fun d => d.viewExpire k) rfl (Dev.viewExpire_ended (d := s.dev.elapse dt) hview hdest hended)
        (Dev.dropView_makes (d := s.dev.elapse dt) hview)
    case frame =>
      have hdue : (s.dev.elapse dt).FrameDue v n := ⟨hheld, hinstant, hnewest, hidle, hup, hengine, by simp [hhbm0, hhbm1, htha]⟩
      exact makes_of_after (f := fun d => d.viewFrame s.hbmRead k) rfl (Dev.viewFrame_makes (d := s.dev.elapse dt) hview hdue _)
  case arp =>
    intro p target sender mac hup
    exact ⟨fun hown => makes_of_after rfl (Dev.arpReply_own (d := s.dev.elapse dt) hheld hup mac hown),
      fun hother => makes_of_after rfl
        ((Dev.arpReply_other (d := s.dev.elapse dt) hheld hup mac hother).trans (Dev.frameDrop_eq (d := s.dev.elapse dt) hheld))⟩
  case echo =>
    intro p f hup hown
    exact makes_of_after rfl (Dev.echoReply_own (d := s.dev.elapse dt) hheld hup hown)
  case discard =>
    intro p
    exact ⟨makes_of_after_eq rfl (if_pos p.isLt) (Dev.frameDrop_eq (d := s.dev.elapse dt) hheld),
      makes_of_after_eq rfl (if_pos p.isLt) ((s.dev.elapse dt).rdF_inc_self _ _ 1 (by decide))⟩

end Sys2Proof.Machine
end

section
/-! Envelopes as bytes (R332, R348 to R356): what is read at each place of the bytes of a command, and the command read back whole. -/

namespace Sys2Proof.Machine

/-! ### Numbers read from bytes that were joined -/

theorem slice_append_right {p : List Byte} {o : Nat} (q : List Byte) (n : Nat) (h : p.length ≤ o) :
    slice (p ++ q) o n = slice q (o - p.length) n := by
  simp [slice, List.drop_append, List.drop_eq_nil_of_le h]

theorem slice_append_left {p : List Byte} {o n : Nat} (q : List Byte) (h : o + n ≤ p.length) : slice (p ++ q) o n = slice p o n := by
  have hlen : n ≤ (p.drop o).length := by rw [List.length_drop]; omega
  rw [slice, slice, List.drop_append_of_le_length (by omega), List.take_append_of_le_length hlen]

theorem leAt_append_right {p : List Byte} {o : Nat} (q : List Byte) (n : Nat) (h : p.length ≤ o) :
    leAt (p ++ q) o n = leAt q (o - p.length) n := by
  rw [leAt, leAt, slice_append_right q n h]

theorem leAt_append_left {p : List Byte} {o n : Nat} (q : List Byte) (h : o + n ≤ p.length) : leAt (p ++ q) o n = leAt p o n := by
  rw [leAt, leAt, slice_append_left q h]

/-- The first byte read is the byte itself. -/
theorem leAt_cons_zero (b : Byte) (q : List Byte) : leAt (b :: q) 0 1 = b.toNat := by simp [leAt, slice, leNat]

theorem leAt_cons_pos (b : Byte) (q : List Byte) {o : Nat} (n : Nat) (h : 0 < o) : leAt (b :: q) o n = leAt q (o - 1) n :=
  leAt_append_right (p := [b]) q n h

/-- A number is read back from its bytes. -/
theorem leAt_leBytes_nat (k n : Nat) (q : List Byte) : leAt (leBytes k n ++ q) 0 k = n % 256 ^ k := by
  have hlen := length_leBytes k n
  rw [leAt_append_left q (by omega), leAt, slice, List.drop_zero, List.take_of_length_le hlen.le, leNat_leBytes]

/-- A word is read back from its bytes. -/
theorem leAt_leBytes {w : Nat} (k : Nat) (x : BitVec w) (q : List Byte) (h : 2 ^ w ≤ 256 ^ k) : leAt (leBytes k x.toNat ++ q) 0 k = x.toNat := by
  rw [leAt_leBytes_nat, Nat.mod_eq_of_lt (x.isLt.trans_le h)]

theorem leAt_leBytes_self {w : Nat} (k : Nat) (x : BitVec w) (h : 2 ^ w ≤ 256 ^ k) : leAt (leBytes k x.toNat) 0 k = x.toNat := by
  simpa using leAt_leBytes k x [] h

theorem leAt_leBytes_skip {k o : Nat} (x : Nat) (q : List Byte) (n : Nat) (h : k ≤ o) : leAt (leBytes k x ++ q) o n = leAt q (o - k) n := by
  rw [leAt_append_right q n (by rwa [length_leBytes]), length_leBytes]

/-- Entry i of a list is read where its bytes lie. -/
theorem leAt_entry {α : Type} {f : α → List Byte} {k m : Nat} {es : List α} {a q : List Byte} (hk : ∀ x, (f x).length = k)
    (ha : a.drop m = es.flatMap f ++ q) {i o n : Nat} (hi : i < es.length) (h : o + n ≤ k) :
    leAt a (m + (k * i + o)) n = leAt (f es[i]) o n := by
  have hdrop : leAt a (m + (k * i + o)) n = leAt (es.flatMap f ++ q) (k * i + o) n := by
    rw [← ha, leAt, leAt, slice, slice, List.drop_drop]
  rw [hdrop]
  clear hdrop ha
  induction es generalizing i with
  | nil => exact absurd hi (by simp)
  | cons x es ih =>
    rw [List.flatMap_cons, List.append_assoc]
    cases i with
    | zero => exact (congrArg (leAt _ · n) (by simp)).trans (leAt_append_left _ (by rw [hk]; exact h))
    | succ i =>
      rw [leAt_append_right _ _ (by rw [hk, Nat.mul_succ]; omega), hk]
      exact (congrArg (leAt _ · n) (by rw [Nat.mul_succ]; omega)).trans (ih (by simpa using hi))

/-- Entries read one after the other make the list again. -/
theorem map_range_entries {α : Type} {g : Nat → α} {es : List α} (h : ∀ i (hi : i < es.length), g i = es[i]) :
    (List.range es.length).map g = es :=
  List.ext_getElem (by simp) fun i _ hi => by simp [h i hi]

end Sys2Proof.Machine

namespace Sys2Proof

open Machine

/-! ### Arguments -/

theorem testBit_flags (a b c d : Bool) : let n := (BitVec.ofNat 8 (bitN a 0 + bitN b 1 + bitN c 2 + bitN d 3)).toNat
    n.testBit 0 = a ∧ n.testBit 1 = b ∧ n.testBit 2 = c ∧ n.testBit 3 = d ∧ n < 16 := by
  revert a b c d; decide

theorem testBit_flags_three (a b c : Bool) : let n := (BitVec.ofNat 8 (bitN a 0 + bitN b 1 + bitN c 2)).toNat
    n.testBit 0 = a ∧ n.testBit 1 = b ∧ n.testBit 2 = c := by
  revert a b c; decide

theorem testBit_flags_two (a b : Bool) : let n := (BitVec.ofNat 8 (bitN a 0 + bitN b 1)).toNat
    n.testBit 0 = a ∧ n.testBit 1 = b := by
  revert a b; decide

theorem length_flatMap_entries {α : Type} {f : α → List Byte} {k : Nat} (hk : ∀ x, (f x).length = k) (es : List α) :
    (es.flatMap f).length = k * es.length := by
  simp [List.length_flatMap, hk, Nat.mul_comm]

/-- The command fits an envelope: its argument bytes have a length that the header can hold, and FUSE_PROGRAM has a level for each of its 16
sources. -/
def Cmd.Fits (c : Cmd) : Prop := c.args.length < 2 ^ 16 - 32 ∧ ∀ ls, c = .fuseProgram ls → ls.length = 16

/-! The lists (R349, R354). -/

/-- The bytes of a REG_READ entry. -/
def RegSel.bytes (e : RegSel) : List Byte := leBytes 4 e.addr.toNat ++ [e.size, 0, 0, 0]

/-- The bytes of a REG_WRITE entry. -/
def RegPut.bytes (e : RegPut) : List Byte := leBytes 4 e.addr.toNat ++ [e.size, 0, 0, 0] ++ leBytes 8 e.value.toNat

theorem RegSel.length_bytes (e : RegSel) : e.bytes.length = 8 := by simp [RegSel.bytes, length_leBytes]
theorem RegPut.length_bytes (e : RegPut) : e.bytes.length = 16 := by simp [RegPut.bytes, length_leBytes]

theorem Cmd.args_regRead (es : List RegSel) : (Cmd.regRead es).args = padTo (leBytes 2 es.length) 8 ++ es.flatMap RegSel.bytes := rfl
theorem Cmd.args_regWrite (es : List RegPut) : (Cmd.regWrite es).args = padTo (leBytes 2 es.length) 8 ++ es.flatMap RegPut.bytes := rfl

theorem length_padTo_leBytes {k n : Nat} (x : Nat) (h : k ≤ n) : (padTo (leBytes k x) n).length = n := by
  simp [padTo, zeros, length_leBytes]; omega

/-- The count of a list leads it. -/
theorem leAt_count {n : Nat} (q : List Byte) (h : n < 2 ^ 16) : leAt (padTo (leBytes 2 n) 8 ++ q) 0 2 = n := by
  rw [padTo, List.append_assoc, leAt_leBytes_nat]
  exact Nat.mod_eq_of_lt h

theorem Cmd.length_args_regRead (es : List RegSel) : (Cmd.regRead es).args.length = 8 + 8 * es.length := by
  rw [Cmd.args_regRead, List.length_append, length_padTo_leBytes _ (by decide), length_flatMap_entries RegSel.length_bytes]

theorem Cmd.length_args_regWrite (es : List RegPut) : (Cmd.regWrite es).args.length = 8 + 16 * es.length := by
  rw [Cmd.args_regWrite, List.length_append, length_padTo_leBytes _ (by decide), length_flatMap_entries RegPut.length_bytes]

theorem Cmd.length_args_camRegWrite (p : Byte) (a : W32) (ws : List W32) :
    (Cmd.camRegWrite p a ws).args.length = 8 + (4 * ws.length + 7) / 8 * 8 := by
  have hws := length_flatMap_entries (f := fun w : W32 => leBytes 4 w.toNat) (fun w => length_leBytes 4 _) ws
  simp [Cmd.args, padMul, zeros, length_leBytes, -List.length_flatMap, hws]
  omega

theorem Cmd.leAt_count_camRegWrite (p : Byte) (a : W32) {ws : List W32} (h : ws.length < 2 ^ 16) :
    leAt (Cmd.camRegWrite p a ws).args 2 2 = ws.length := by
  simp [Cmd.args, padMul, leAt_cons_pos, leAt_leBytes_nat]
  omega

theorem Cmd.drop_args_camRegWrite (p : Byte) (a : W32) (ws : List W32) :
    ∃ q, (Cmd.camRegWrite p a ws).args.drop 8 = ws.flatMap (fun w => leBytes 4 w.toNat) ++ q := by
  have hhead : ([p, 0] ++ leBytes 2 ws.length ++ leBytes 4 a.toNat).length = 8 := by simp [length_leBytes]
  have heq : (Cmd.camRegWrite p a ws).args = ([p, 0] ++ leBytes 2 ws.length ++ leBytes 4 a.toNat) ++
      (ws.flatMap (fun w => leBytes 4 w.toNat) ++ _) := List.append_assoc _ _ _
  exact ⟨_, by rw [heq, List.drop_left' hhead]⟩

theorem Cmd.ofArgs_regRead {es : List RegSel} (h : es.length < 2 ^ 16) : Cmd.ofArgs 0x04 (Cmd.regRead es).args = some (.regRead es) := by
  have hdrop : (Cmd.regRead es).args.drop 8 = es.flatMap RegSel.bytes ++ [] := by
    rw [Cmd.args_regRead, List.drop_left' (length_padTo_leBytes _ (by decide)), List.append_nil]
  have hcount : leAt (Cmd.regRead es).args 0 2 = es.length := leAt_count _ h
  simp only [Cmd.ofArgs, hcount]
  rw [map_range_entries fun i hi => ?_]
  have haddr := leAt_entry RegSel.length_bytes hdrop hi (show 0 + 4 ≤ 8 by decide)
  have hsize := leAt_entry RegSel.length_bytes hdrop hi (show 4 + 1 ≤ 8 by decide)
  rw [Nat.add_zero] at haddr
  rw [← Nat.add_assoc, Nat.add_right_comm] at hsize
  rw [haddr, hsize]
  simp [RegSel.bytes, leAt_leBytes, leAt_leBytes_skip, leAt_cons_zero]

theorem Cmd.ofArgs_regWrite {es : List RegPut} (h : es.length < 2 ^ 16) : Cmd.ofArgs 0x05 (Cmd.regWrite es).args = some (.regWrite es) := by
  have hdrop : (Cmd.regWrite es).args.drop 8 = es.flatMap RegPut.bytes ++ [] := by
    rw [Cmd.args_regWrite, List.drop_left' (length_padTo_leBytes _ (by decide)), List.append_nil]
  have hcount : leAt (Cmd.regWrite es).args 0 2 = es.length := leAt_count _ h
  simp only [Cmd.ofArgs, hcount]
  rw [map_range_entries fun i hi => ?_]
  have haddr := leAt_entry RegPut.length_bytes hdrop hi (show 0 + 4 ≤ 16 by decide)
  have hsize := leAt_entry RegPut.length_bytes hdrop hi (show 4 + 1 ≤ 16 by decide)
  have hvalue := leAt_entry RegPut.length_bytes hdrop hi (show 8 + 8 ≤ 16 by decide)
  rw [Nat.add_zero] at haddr
  rw [← Nat.add_assoc, Nat.add_right_comm] at hsize hvalue
  rw [haddr, hsize, hvalue]
  simp [RegPut.bytes, leAt_leBytes, leAt_leBytes_self, leAt_leBytes_skip, leAt_cons_zero, leAt_cons_pos]

theorem Cmd.ofArgs_camRegWrite (p : Byte) (a : W32) {ws : List W32} (h : ws.length < 2 ^ 16) :
    Cmd.ofArgs 0x31 (Cmd.camRegWrite p a ws).args = some (.camRegWrite p a ws) := by
  obtain ⟨q, hdrop⟩ := Cmd.drop_args_camRegWrite p a ws
  have hport : leAt (Cmd.camRegWrite p a ws).args 0 1 = p.toNat := leAt_cons_zero _ _
  have haddr : leAt (Cmd.camRegWrite p a ws).args 4 4 = a.toNat := by
    simp [Cmd.args, padMul, leAt_cons_pos, leAt_leBytes_skip, leAt_leBytes]
  simp only [Cmd.ofArgs, Cmd.leAt_count_camRegWrite p a h, hport, haddr]
  rw [map_range_entries fun i hi => ?_]
  · simp
  · have hword := leAt_entry (fun w : W32 => length_leBytes 4 w.toNat) hdrop hi (show 0 + 4 ≤ 4 by decide)
    rw [Nat.add_zero] at hword
    rw [hword]
    simp [leAt_leBytes_self]

/-- The arguments of a command read as the command they came from. -/
theorem Cmd.ofArgs_args (c : Cmd) (h : c.Fits) : Cmd.ofArgs c.opcode c.args = some c := by
  obtain ⟨hlen, hfuse⟩ := h
  cases c with
  | regRead es => exact Cmd.ofArgs_regRead (by rw [Cmd.length_args_regRead] at hlen; omega)
  | regWrite es => exact Cmd.ofArgs_regWrite (by rw [Cmd.length_args_regWrite] at hlen; omega)
  | camRegWrite p a ws => exact Cmd.ofArgs_camRegWrite p a (by rw [Cmd.length_args_camRegWrite] at hlen; omega)
  | fuseProgram ls => simp [Cmd.opcode, Cmd.args, Cmd.ofArgs, hfuse ls rfl]
  | tableLoad t | tableRead t =>
    simp [Cmd.opcode, Cmd.args, Cmd.ofArgs, leAt_cons_zero, leAt_cons_pos, leAt_leBytes, leAt_leBytes_self, leAt_leBytes_skip, testBit_flags_three,
      -Nat.testBit_zero, -BitVec.toNat_ofNat]
  | fwStage x | nvWrite x =>
    simp [Cmd.opcode, Cmd.args, Cmd.ofArgs, leAt_cons_zero, leAt_cons_pos, leAt_leBytes, leAt_leBytes_self, leAt_leBytes_skip, testBit_flags_two,
      -Nat.testBit_zero, -BitVec.toNat_ofNat]
  | _ =>
    simp [Cmd.opcode, Cmd.args, Cmd.ofArgs, padTo, zeros, length_leBytes, List.replicate, leAt_cons_zero, leAt_cons_pos,
      leAt_leBytes, leAt_leBytes_self, leAt_leBytes_skip]

/-- The opcode and the counts say how many argument bytes there are. -/
theorem argLen_args (c : Cmd) (h : c.Fits) : argLen c.opcode c.args = some c.args.length := by
  obtain ⟨hlen, hfuse⟩ := h
  cases c with
  | regRead es =>
    have hcount : leAt (Cmd.regRead es).args 0 2 = es.length := leAt_count _ (by rw [Cmd.length_args_regRead] at hlen; omega)
    simp [argLen, Cmd.opcode, hcount, Cmd.length_args_regRead]
  | regWrite es =>
    have hcount : leAt (Cmd.regWrite es).args 0 2 = es.length := leAt_count _ (by rw [Cmd.length_args_regWrite] at hlen; omega)
    simp [argLen, Cmd.opcode, hcount, Cmd.length_args_regWrite]
  | camRegWrite p a ws =>
    have hcount := Cmd.leAt_count_camRegWrite p a (ws := ws) (by rw [Cmd.length_args_camRegWrite] at hlen; omega)
    simp [argLen, Cmd.opcode, hcount, Cmd.length_args_camRegWrite]
  | fuseProgram ls => simp [argLen, Cmd.opcode, Cmd.args, hfuse ls rfl]
  | _ => simp [argLen, Cmd.opcode, Cmd.args, padTo, zeros, length_leBytes]

/-! ### Envelopes -/

/-- The 32 bytes before the arguments (R332). -/
def envFront (c : Cmd) (h : EnvHdr) : List Byte :=
  padTo (leBytes 2 c.opcode ++ leBytes 2 (32 + c.args.length) ++ leBytes 4 h.tag.toNat ++
    [1, BitVec.ofNat 8 (bitN h.noDefer 0 + bitN h.barrier 1 + bitN h.quiet 2 + bitN h.noInterim 3)] ++ leBytes 2 h.timeoutMs.toNat) 32

theorem envBytes_eq (c : Cmd) (h : EnvHdr) : envBytes c h = envFront c h ++ c.args := rfl

theorem length_envFront (c : Cmd) (h : EnvHdr) : (envFront c h).length = 32 := by
  simp [envFront, padTo, zeros, length_leBytes]

theorem length_envBytes (c : Cmd) (h : EnvHdr) : (envBytes c h).length = 32 + c.args.length := by
  rw [envBytes_eq, List.length_append, length_envFront]

theorem envHeader_envBytes (c : Cmd) (h : EnvHdr) : envHeader h.mailbox (envBytes c h) = h := by
  simp [envHeader, envBytes_eq, envFront, padTo, leAt_cons_zero, leAt_cons_pos, leAt_leBytes, leAt_leBytes_skip, testBit_flags,
      -Nat.testBit_zero, -BitVec.toNat_ofNat]

theorem readEnvelope_envBytes {c : Cmd} (h : EnvHdr) (hfit : c.Fits) : readEnvelope (32 + c.args.length) (envBytes c h) = .ok c := by
  obtain ⟨hlen, -⟩ := id hfit
  have hop : c.opcode < 2 ^ 16 := by cases c <;> simp [Cmd.opcode]
  have hdrop : (envBytes c h).drop 32 = c.args := by rw [envBytes_eq, List.drop_left' (length_envFront c h)]
  have hcode : leAt (envBytes c h) 0 2 = c.opcode := by
    simp [envBytes_eq, envFront, padTo, leAt_leBytes_nat]
    omega
  have hsize : leAt (envBytes c h) 2 2 = 32 + c.args.length := by
    simp [envBytes_eq, envFront, padTo, leAt_leBytes_nat, leAt_leBytes_skip]
    omega
  have hversion : leAt (envBytes c h) 8 1 = 1 := by
    simp [envBytes_eq, envFront, padTo, leAt_leBytes_skip, leAt_cons_zero]
  have hflags : ¬ 16 ≤ leAt (envBytes c h) 9 1 := by
    simp [envBytes_eq, envFront, padTo, leAt_leBytes_skip, leAt_cons_zero, leAt_cons_pos, testBit_flags, -BitVec.toNat_ofNat]
  have hzero : slice (envBytes c h) 12 20 = zeros 20 := by
    rw [envBytes_eq, slice_append_left _ (by rw [length_envFront]), envFront, padTo, slice_append_right _ _ (by simp [length_leBytes])]
    simp [length_leBytes, zeros, slice]
  simp [readEnvelope, hversion, hflags, hzero, zeros, hsize, hcode, hdrop, argLen_args c hfit, Cmd.ofArgs_args c hfit]

end Sys2Proof

namespace Sys2Proof.Machine

/-- Settles O15: the front of the envelope and the arguments each read as what they were written from. -/
theorem envelopeRoundTrip : Obligations.EnvelopeRoundTrip := by
  intro c h hlen hfuse
  rw [length_envBytes] at hlen ⊢
  exact ⟨readEnvelope_envBytes h ⟨by omega, hfuse⟩, envHeader_envBytes c h⟩

end Sys2Proof.Machine
end

section
/-! Table loads and reads that have been accepted (R352, R353): what the end of a command leaves alone, and what the transfer does before it. -/

namespace Sys2Proof.Machine

/-! ### The end of a command (R336, R342) -/

/-- The block has noted the end of a command and answered it: outside the Keel, the rings, the pair's counts and the response registers nothing
moves, and what went out before has gone out. -/
def Dev.Replied (d e : Dev) : Prop := ∃ seqs regs cycle host pair keel o,
  e = { d with seqs := seqs, regs := regs, cycle := cycle, host := host, pair := pair, keel := keel, out := d.out ++ o }

theorem Dev.Replied.refl (d : Dev) : d.Replied d := ⟨d.seqs, d.regs, d.cycle, d.host, d.pair, d.keel, [], by simp⟩

theorem Dev.Replied.trans {d e f : Dev} (h : d.Replied e) (k : e.Replied f) : d.Replied f := by
  obtain ⟨_, _, _, _, _, _, o, rfl⟩ := h
  obtain ⟨seqs, regs, cycle, host, pair, keel, o', rfl⟩ := k
  exact ⟨seqs, regs, cycle, host, pair, keel, o ++ o', by simp⟩

theorem Dev.Replied.of_quiet (d : Dev) (seqs regs cycle host pair keel) :
    d.Replied { d with seqs := seqs, regs := regs, cycle := cycle, host := host, pair := pair, keel := keel } :=
  ⟨seqs, regs, cycle, host, pair, keel, [], by simp⟩

theorem Dev.Replied.same {d e : Dev} (h : d.Replied e) : e.tab = d.tab ∧ e.hbmw = d.hbmw ∧ e.mrg = d.mrg ∧ d.out <+: e.out := by
  obtain ⟨_, _, _, _, _, _, o, rfl⟩ := h
  exact ⟨rfl, rfl, rfl, o, rfl⟩

theorem Dev.replied_ridge (d : Dev) (typ : Nat) (body : List Byte) : d.Replied (d.ridge typ body) := by
  simp only [Dev.ridge]
  split
  · exact .refl d
  · exact ⟨d.seqs, d.regs, d.cycle, d.host, _, d.keel, [_], rfl⟩

theorem Dev.replied_respond (d : Dev) (opcode : Nat) (h : EnvHdr) (status : Nat) (interim : Bool) (line : W64) (body : List Byte) :
    d.Replied (d.respond opcode h status interim line body) := by
  have hstamp : d.Replied (d.mkStamp 63 d.now).2 := .of_quiet d _ _ _ _ _ _
  refine hstamp.trans ?_
  simp only [Dev.respond]
  split
  · exact Dev.replied_ridge _ _ _
  · split
    · exact .of_quiet _ _ _ _ _ _ _
    · exact .of_quiet _ _ _ _ _ _ _

theorem Dev.replied_keel (d : Dev) (k : Keel) : d.Replied { d with keel := k } := .of_quiet d _ _ _ _ _ k

theorem Dev.replied_answer (d : Dev) (id : Nat) (cmd : Cmd) (h : EnvHdr) (status : Nat) (line : W64) (body : List Byte) :
    d.Replied (d.answer id cmd h status line body) := by
  unfold Dev.answer
  refine .trans ?_ (Dev.replied_keel _ _)
  split
  · exact .refl d
  · exact d.replied_respond _ _ _ _ _ _

theorem Dev.replied_finalResp (d : Dev) (id : Nat) (cmd : Cmd) (h : EnvHdr) (status : Nat) (line : W64) (body : List Byte) :
    d.Replied (d.finalResp id cmd h status line body) := by
  unfold Dev.finalResp
  split
  · exact d.replied_answer _ _ _ _ _ _
  · split
    · exact (d.replied_keel _).trans (Dev.replied_answer _ _ _ _ _ _ _)
    · exact d.replied_keel _

theorem Dev.replied_finish (d : Dev) (id status : Nat) (line : W64) (body : List Byte) : d.Replied (d.finish id status line body) := by
  unfold Dev.finish
  split
  · exact .refl d
  · exact (d.replied_keel _).trans (Dev.replied_finalResp _ _ _ _ _ _ _)

/-! ### TABLE_LOAD (R353) -/

/-- Bytes stored in a table that is held once: its bank is no longer marked, which is a register's matter. -/
theorem Dev.tabStore_eq (d : Dev) {t i : Nat} (b o : Nat) {bs : List Byte} (htwin : d.tabTwins t i = [i])
    (hfits : o + bs.length ≤ d.tabSize t i b) :
    ∃ r, d.tabStore t i b o bs = { d with regs := r, tab := d.tab.writeBytes tabDefault (tabAddr t i b o) bs } := by
  have htake : bs.take (d.tabSize t i b - o) = bs := List.take_of_length_le (by omega)
  obtain ⟨r, hr⟩ := d.unload_eq t i b
  exact ⟨r, by simp only [Dev.tabStore, htwin, List.foldl_cons, List.foldl_nil, hr, htake, Dev.tabWrite]⟩

/-- A transfer that is not refused lies within its table. -/
theorem Dev.fits_of_tabRefusal {d : Dev} {t : TableXfer} {write : Bool} (h : d.tabRefusal t write = 0) :
    t.offset.toNat + t.len.toNat ≤ d.tabSize t.table.toNat t.inst.toNat t.bank.toNat := by
  by_contra hlt
  simp [Dev.tabRefusal, not_le.mp hlt] at h

/-- A partial load whose bytes are there stores them and ends (R352). -/
theorem Dev.tableLoaded_part (d : Dev) (p : PendCmd) {t : TableXfer} {bytes : List Byte} (hplain : t.thatch = false) (hpart : t.part = true)
    (hbytes : bytes.length = t.len.toNat) (hlen : t.len ≠ 0) (hopen : d.tabRefusal t true = 0)
    (htwin : d.tabTwins t.table.toNat t.inst.toNat = [t.inst.toNat]) :
    (d.tableLoaded p t bytes).tab =
        d.tab.writeBytes tabDefault (tabAddr t.table.toNat t.inst.toNat t.bank.toNat t.offset.toNat) bytes ∧
      (d.tableLoaded p t bytes).keel.pending = d.keel.pending.filter (fun q => q.id ≠ p.id) := by
  have hfits := Dev.fits_of_tabRefusal hopen
  obtain ⟨r, hr⟩ := d.tabStore_eq t.bank.toNat t.offset.toNat htwin (hbytes ▸ hfits)
  have hloaded : d.tableLoaded p t bytes = (d.tabStore t.table.toNat t.inst.toNat t.bank.toNat t.offset.toNat bytes).finish p.id 0 noLine
      (loadResult 0 0 t.len.toNat 0) := by
    simp [Dev.tableLoaded, hplain, hpart, hbytes, show ¬ t.len = 0#32 from hlen, hopen]
  rw [hloaded, hr]
  exact ⟨(Dev.replied_finish _ _ _ _ _).same.1, (Dev.finish_leaves _ _ _ _ _).2⟩

/-- The oldest load's bytes come from host memory (R301, R353). -/
theorem Dev.loadDone_host (d : Dev) (rd : Nat → Nat → List Byte) (src : List Byte) {p : PendCmd} {t : TableXfer}
    (hp : d.pendingCmd (fun c => match c with | .tableLoad _ => true | _ => false) = some p) (hcmd : p.cmd = .tableLoad t)
    (hloc : t.loc = false) (hplain : t.thatch = false) (hout : d.outboundOk = true) :
    d.loadDone rd src = ((d.charge 15 ⟨0, 0, 0, 0, units64 t.srcLen.toNat⟩).hostGet t.addr.toNat true t.srcLen.toNat).tableLoaded p t
      (padTo (src.take t.srcLen.toNat) t.srcLen.toNat) := by
  unfold Dev.loadDone
  split
  next hnone => exact Option.noConfusion rfl (heq_of_eq (hnone.symm.trans hp))
  next q hq =>
    obtain rfl : q = p := Option.some.inj (hq.symm.trans hp)
    simp only [hcmd, hloc, hplain, hout, Bool.false_and, Bool.false_eq_true, if_false, Bool.not_true]

theorem length_padTo_take (bs : List Byte) (n : Nat) : (padTo (bs.take n) n).length = n := by
  simp [padTo, zeros]

/-! ### TABLE_READ (R352) -/

section
variable {d : Dev} {p : PendCmd} {t : TableXfer} (hp : d.pendingCmd (fun c => match c with | .tableRead _ => true | _ => false) = some p)
  (hcmd : p.cmd = .tableRead t)
include hp hcmd

/-- The oldest read, with the bytes of the table that it asks for. -/
theorem Dev.readDone_eq {bs : List Byte} (hbs : d.tabBytes t.table.toNat t.inst.toNat t.bank.toNat t.offset.toNat t.len.toNat = bs) :
    d.readDone =
      if t.loc && d.repLocked t.addr.toNat bs.length then (d.noteLocked p.h t false 0x15).finish p.id 0x15 noLine []
      else if t.loc then ((d.charge 22 (hbmUnits bs.length)).hbmPut t.addr.toNat bs).finish p.id 0 noLine (leBytes 4 bs.length)
      else if !d.outboundOk then d
      else ((d.charge 22 ⟨0, 0, 0, 0, units64 bs.length⟩).hostPut t.addr.toNat false true bs).finish p.id 0 noLine (leBytes 4 bs.length) := by
  unfold Dev.readDone
  split
  next hnone => exact Option.noConfusion rfl (heq_of_eq (hnone.symm.trans hp))
  next q hq =>
    obtain rfl : q = p := Option.some.inj (hq.symm.trans hp)
    simp only [hcmd, hbs]

theorem Dev.readDone_host {bs : List Byte} (hbs : d.tabBytes t.table.toNat t.inst.toNat t.bank.toNat t.offset.toNat t.len.toNat = bs)
    (hloc : t.loc = false) (hout : d.outboundOk = true) :
    d.readDone.tab = d.tab ∧ (∃ post, d.readDone.out = d.out ++ ((({ d with out := [] } : Dev).hostPut t.addr.toNat false true bs).out ++ post)) ∧
      d.readDone.keel.pending = d.keel.pending.filter (fun q => q.id ≠ p.id) := by
  rw [Dev.readDone_eq hp hcmd hbs]
  simp only [hloc, hout, Bool.false_and, Bool.false_eq_true, if_false, Bool.not_true]
  let e := d.charge 22 ⟨0, 0, 0, 0, units64 bs.length⟩
  obtain ⟨htab, -, -, post, hpost⟩ := (Dev.replied_finish (e.hostPut t.addr.toNat false true bs) p.id 0 noLine (leBytes 4 bs.length)).same
  have hput := Dev.hostPut_out (d := d) (e := e) rfl t.addr.toNat false true bs
  refine ⟨htab, ⟨post, ?_⟩, (Dev.finish_leaves _ _ _ _ _).2⟩
  rw [← hpost, hput, List.append_assoc]
  rfl

theorem Dev.readDone_stored {bs : List Byte} (hbs : d.tabBytes t.table.toNat t.inst.toNat t.bank.toNat t.offset.toNat t.len.toNat = bs)
    (hloc : t.loc = true) (hfits : t.addr.toNat + bs.length ≤ hbmBytes) (hfree : d.repLocked t.addr.toNat bs.length = false) :
    d.readDone.tab = d.tab ∧ d.readDone.hbmw = d.hbmw ++ [(t.addr.toNat, bs)] ∧
      d.readDone.keel.pending = d.keel.pending.filter (fun q => q.id ≠ p.id) := by
  rw [Dev.readDone_eq hp hcmd hbs]
  simp only [hloc, hfree, Bool.and_false, Bool.false_eq_true, if_false, if_true, Dev.hbmPut, if_pos hfits]
  obtain ⟨htab, hstored, -, -⟩ := (Dev.replied_finish ({ d.charge 22 (hbmUnits bs.length) with
    hbmw := (d.charge 22 (hbmUnits bs.length)).hbmw ++ [(t.addr.toNat, bs)] } : Dev) p.id 0 noLine (leBytes 4 bs.length)).same
  exact ⟨htab, hstored, (Dev.finish_leaves _ _ _ _ _).2⟩

/-- The repeat bank in force is written by no read (R227). -/
theorem Dev.readDone_locked {bs : List Byte} (hbs : d.tabBytes t.table.toNat t.inst.toNat t.bank.toNat t.offset.toNat t.len.toNat = bs)
    (hloc : t.loc = true) (hlocked : d.repLocked t.addr.toNat bs.length = true) (hplain : d.plainErr 0x0D = true) :
    d.readDone.tab = d.tab ∧ d.readDone.hbmw = d.hbmw ∧ d.readDone.mrg.err.fly.length = d.mrg.err.fly.length + 1 ∧
      d.readDone.keel.pending = d.keel.pending.filter (fun q => q.id ≠ p.id) := by
  rw [Dev.readDone_eq hp hcmd hbs]
  simp only [hloc, hlocked, Bool.and_self, if_true, Dev.noteLocked]
  obtain ⟨-, -, hfly⟩ := Dev.reportErr_leaves 43 (addrInfo t.addr.toNat (.mailbox p.h.mailbox)) hplain (by decide)
  have hrep := d.reportErr_of_plain 0x0D 43 (addrInfo t.addr.toNat (.mailbox p.h.mailbox)) hplain (by decide)
  simp only [Bool.false_eq_true, if_false]
  generalize d.reportErr 0x0D 43 (addrInfo t.addr.toNat (.mailbox p.h.mailbox)) = e at hfly hrep
  obtain ⟨htab, hstored, hmrg, -⟩ := (e.replied_finish p.id 0x15 noLine []).same
  have hend := (e.finish_leaves p.id 0x15 noLine []).2
  rw [htab, hstored, hmrg, hend]
  exact ⟨hrep ▸ rfl, hrep ▸ rfl, hfly, hrep ▸ rfl⟩

end

/-- Settles O35: the bytes move as R301 has it, and then the command ends, which moves none. -/
theorem tableTransfers : Obligations.TableTransfers := by
  intro s dt p t
  refine ⟨?load, fun hp hcmd => ⟨?host, ?inside⟩⟩
  case load =>
    intro src hp hcmd hloc hplain hpart hsrc hlen hout hopen htwin
    refine makes_of_after_eq rfl ((s.dev.elapse dt).loadDone_host s.hbmRead src hp hcmd hloc hplain hout) ?_
    exact Dev.tableLoaded_part _ p hplain hpart ((length_padTo_take _ _).trans (congrArg _ hsrc)) hlen hopen htwin
  case host =>
    intro hloc hout
    refine makes_of_after rfl ?_
    obtain ⟨htab, ⟨post, hpost⟩, hpending⟩ := Dev.readDone_host (d := s.dev.elapse dt) hp hcmd rfl hloc hout
    exact ⟨htab, ⟨s.dev.out, post, hpost.trans (List.append_assoc _ _ _).symm⟩, hpending⟩
  case inside =>
    intro hloc hfits
    refine ⟨fun hfree => makes_of_after rfl ?_, fun hlocked hplain => makes_of_after rfl ?_⟩
    · exact Dev.readDone_stored (d := s.dev.elapse dt) hp hcmd rfl hloc hfits hfree
    · exact Dev.readDone_locked (d := s.dev.elapse dt) hp hcmd rfl hloc hlocked hplain

end Sys2Proof.Machine
end

section
/-! Packets between partners whose turn has come (R329, R342, R439, R448, R449), and the token of authority (R452, R454, R455). -/

namespace Sys2Proof.Machine

/-! ### A packet in order (R439) -/

/-- The block with a packet of this TYPE received in order. -/
def Dev.received (d : Dev) (typ : Nat) : Dev := { d with pair := d.afterPacket typ }

/-- The packet awaited is delivered at once, and none that waited comes after it. -/
theorem Dev.ridgeIn_awaited (d : Dev) (rd : Nat → Nat → List Byte) (f8 : Nat) {typ : Nat} {pkt : List Byte} (h : d.awaits typ pkt = true) :
    d.ridgeIn rd f8 typ pkt = (d.received typ).ridgeDeliver rd f8 pkt := by
  simp only [Dev.awaits, Bool.and_eq_true, List.isEmpty_iff, beq_iff_eq] at h
  obtain ⟨⟨⟨⟨hon, hup⟩, hearly⟩, hok⟩, hseq⟩ := h
  by_cases hbulk : 0x90 ≤ typ
  · simp only [hbulk, decide_true] at hseq
    simp [Dev.ridgeIn, hon, hok, hbulk, hseq, hearly, Dev.ridgeDrain, Dev.received, Dev.afterPacket, Dev.setRxSeq, Dev.rxSeq]
  · simp only [hbulk, decide_false] at hseq
    have hlast : ridgeSeq pkt = d.pair.rxCtl := hseq
    simp [Dev.ridgeIn, hon, hok, hbulk, hearly, Dev.ridgeDrain, Dev.received, Dev.afterPacket, Dev.setRxSeq, hlast, Dev.rxSeq]

theorem pktOk_of_awaits {d : Dev} {typ : Nat} {pkt : List Byte} (h : d.awaits typ pkt = true) : ridgeOk typ pkt = true := by
  simp only [Dev.awaits, Bool.and_eq_true] at h
  obtain ⟨⟨-, hok⟩, -⟩ := h
  exact hok

theorem pktType_of_awaits {d : Dev} {typ : Nat} {pkt : List Byte} (h : d.awaits typ pkt = true) : pktType pkt = typ := by
  have hok := pktOk_of_awaits h
  simp only [ridgeOk, Bool.and_eq_true, decide_eq_true_eq] at hok
  obtain ⟨⟨htype, -⟩, -⟩ := hok
  exact htype

/-- The command of an awaited packet makes what its delivery makes. -/
theorem makes_of_packet {c : Instr} {s : State} {dt typ : Nat} {pkt : List Byte} {d : Dev} {P : Dev → Prop}
    (hc : exec c s = s.ridgePacket dt 0 typ pkt) (ha : s.dev.awaits typ pkt = true)
    (hd : ((s.dev.elapse dt).received typ).ridgeDeliver s.hbmRead 0 pkt = d) (hp : P d) : Makes c s P :=
  makes_of_after_eq hc (((s.dev.elapse dt).ridgeIn_awaited s.hbmRead 0 ha).trans hd) hp

/-- And so does an AUTH packet with the code of its command. -/
theorem makes_of_auth {c : Instr} {s : State} {dt code : Nat} {pkt : List Byte} {d : Dev} {P : Dev → Prop}
    (hc : exec c s = s.authPacket dt code pkt) (hcode : leAt (pktPayload pkt) 0 1 = code) (ha : s.dev.awaits 0x86 pkt = true)
    (hd : ((s.dev.elapse dt).received 0x86).authIn (pktPayload pkt) = d) (hp : P d) : Makes c s P := by
  have hauth (e : Dev) : e.ridgeDeliver s.hbmRead 0 pkt = e.authIn (pktPayload pkt) := by simp only [Dev.ridgeDeliver, pktType_of_awaits ha]
  refine makes_of_after_eq hc (?_ : (if _ then _ else _ : Dev) = d) hp
  rw [if_pos hcode, (s.dev.elapse dt).ridgeIn_awaited s.hbmRead 0 ha, hauth, hd]

/-! ### ENVELOPE (R329, R342) -/

theorem length_payload_le {typ : Nat} {pkt : List Byte} {n : Nat} (hlen : ∀ m, ridgeLenOk typ m = true → m ≤ n) (hok : ridgeOk typ pkt = true) :
    (pktPayload pkt).length ≤ n := by
  simp only [ridgeOk, Bool.and_eq_true] at hok
  obtain ⟨⟨-, hok⟩, -⟩ := hok
  refine le_trans ?_ (hlen _ hok)
  simp [pktPayload, slice]

theorem Dev.hbmPut_of_fits (d : Dev) {a : Nat} {bs : List Byte} (h : a + bs.length ≤ hbmBytes) :
    d.hbmPut a bs = { d with hbmw := d.hbmw ++ [(a, bs)] } := if_pos h

/-- The Keel's area, with 64 envelopes and their descriptors, lies in the stacks. -/
theorem keelArea_fits {i n : Nat} (hi : i < 64) (hn : n ≤ 4096) : keelSlot i + n ≤ hbmBytes ∧ keelBase + 16 * i + 16 ≤ hbmBytes := by
  have harea : Config.keelArea % 704 < 704 := Nat.mod_lt _ (by decide)
  unfold keelSlot keelBase hbmBytes
  omega

/-- The block with the stacks' new bytes to be stored, an envelope noted for mailbox 15 and one more descriptor in ring 15. -/
def Dev.boxed (d : Dev) (b : List Byte) : Dev :=
  let i := (d.ring 15).tail.toNat % 64
  ({ d with
    hbmw := d.hbmw ++ [(keelSlot i, b)] ++ [(keelBase + 16 * i, padTo (leBytes 8 (keelSlot i) ++ leBytes 2 b.length) 16)]
    pair := { d.pair with box := d.pair.box ++ [(d.effectFirst, (d.rd a_WPU_LINE_CNT).toNat)] } } : Dev).setRing 15
      { d.ring 15 with tail := (d.ring 15).tail + 1 }

/-- An envelope without a stamp is posted to mailbox 15. -/
theorem Dev.envelopeIn_posts (d : Dev) {b : List Byte} (hest : d.established = true) (hzero : ∀ x ∈ slice b 12 20, x = 0)
    (hroom : d.pair.box.length < 64) (hen : (d.ring 15).en = true) (hlen : b.length ≤ 4064) : d.envelopeIn b = d.boxed b := by
  have hall : (slice b 12 20).all (fun x => x = 0) = true := by simpa using hzero
  have hi : (d.ring 15).tail.toNat % 64 < 64 := Nat.mod_lt _ (by decide)
  obtain ⟨hslot, hdesc⟩ := keelArea_fits (n := b.length) hi (by omega)
  unfold Dev.envelopeIn
  extract_lets c i d1
  have h1 : d1 = { d with
      hbmw := d.hbmw ++ [(keelSlot i, b)] ++ [(keelBase + 16 * i, padTo (leBytes 8 (keelSlot i) ++ leBytes 2 b.length) 16)] } := by
    unfold d1
    rw [d.hbmPut_of_fits hslot, Dev.hbmPut_of_fits _ (by simpa [padTo, zeros, length_leBytes] using hdesc)]
  rw [if_neg (by simp [hest]), if_pos hall, if_pos (by simp [hroom, hen])]
  clear_value d1
  subst h1
  rfl

/-- The partner's response to a command that has not ended here waits for it. -/
theorem Dev.envelopeIn_keeps (d : Dev) {b : List Byte} {f : Fwd} (hest : d.established = true) (hsome : ∃ x ∈ slice b 12 20, x ≠ 0)
    (hfinal : leAt b 23 1 = 0) (hf : d.keel.fwd.find? (fun f => f.id = leAt b 16 4) = some f) (hmine : f.mine = none) (hok : leAt b 20 2 = 0) :
    d.envelopeIn b = { d with keel := { d.keel with
      fwd := d.keel.fwd.map (fun (g : Fwd) => if g.id = leAt b 16 4 then { g with theirs := some 0 } else g) } } := by
  have hall : (slice b 12 20).all (fun x => x = 0) = false := by simpa using hsome
  simp only [Dev.envelopeIn, hest, hall, hfinal, Bool.not_true, Bool.false_eq_true, if_false, ne_eq, not_true_eq_false, Dev.partnerAnswer, hf, hmine,
    hok]
  split
  · rw [if_neg (by simp)]
    rfl
  · rfl

/-! ### RECORD and XSEG (R448, R449) -/

theorem Dev.recordIn_enters (d : Dev) (b : List Byte) (hest : d.established = true) (hauth : d.authority = true) :
    d.recordIn b = d.fly .pair ⟨stampOf b, BitVec.ofNat 16 (leAt b 12 2), .pairRec d.pair.recon d.el b⟩ := by
  simp [Dev.recordIn, hest, hauth]

/-- A further segment of an open line that its partner has forwarded joins the line's slot. -/
theorem Dev.xsegIn_joins (d : Dev) {b : List Byte} {p i : Nat} {x : Slot} (hest : d.established = true) (hp : leAt b 0 4 = p) (hlt : p < 16)
    (hi : (d.port p).slots.findIdx? (fun s => s.desc.line % 2 ^ 32 = leAt (slice b 4 16) 4 4) = some i) (hx : (d.port p).slots[i]? = some x)
    (hsegs : x.segs ≠ []) (huse : d.vcUse x.desc.ctx p (pktVc (slice b 4 16)) = .pixel)
    (hdt : leAt (slice b 4 16) 14 1 = d.cF x.desc.ctx (a_TPT_CFG p) f_TPT_CFG_PIX_DT)
    (hfit : leAt (slice b 4 16) 8 4 + (b.drop 32).length ≤ d.lineBytes x.desc.ctx p)
    (hnew : covered x.segs (leAt (slice b 4 16) 8 4) (b.drop 32).length = false) :
    d.xsegIn b = d.setPort p { d.port p with slots := (d.port p).slots.set i (x.withSeg (slice b 4 16) (b.drop 32)) } := by
  have htake : d.xsegIn b = d.takeSeg p (slice b 4 16) (b.drop 32) := by simp [Dev.xsegIn, hest, hp, Nat.not_le.mpr hlt]
  rw [htake, d.takeSeg_pixel (b.drop 32) hi hx hsegs huse, d.pixelSeg_joins hsegs hdt hfit hnew]

/-! ### AUTH OFFER and AUTH RELEASE (R452, R454) -/

theorem Dev.regs_ridge (d : Dev) (typ : Nat) (body : List Byte) : (d.ridge typ body).regs = d.regs := by
  simp only [Dev.ridge]
  split <;> rfl

theorem Dev.out_ridge (d : Dev) (typ : Nat) (body : List Byte) (hctl : typ < 0x90) (hup : d.ridgeLanes false ≠ 0) :
    (d.ridge typ body).out = d.out ++ [.ridge typ (packet typ 0 (leBytes 4 d.pair.txCtl.toNat) body)] := by
  have hbulk : decide (0x90 ≤ typ) = false := decide_eq_false (by omega)
  simp [Dev.ridge, hbulk, hup, Dev.emit]

/-- The partner as it agrees to take authority: at a course boundary while it acquires. -/
def Dev.agreed (d : Dev) : Dev := if d.acquiring then { d with pair := { d.pair with hand := some (0, true, some 0) } } else d

theorem Dev.offerIn_accepts (d : Dev) (hpart : d.isPartner = true) (hsplit : d.split = false) :
    d.offerIn = d.agreed.ridge 0x86 (padTo [2] 16) := by
  simp only [Dev.offerIn, hpart, hsplit, Bool.not_true, Bool.or_self, Bool.false_eq_true, if_false, Dev.agreed]

/-- The partner's registers as it takes authority. -/
theorem Dev.takeAuthority_takes (d : Dev) (hplain : d.plainErr 0x2B = true) :
    (d.takeAuthority).authority = true ∧ d.takeAuthority.rd a_RDG_POS_OFS = 0 ∧ d.takeAuthority.pair.hand = d.pair.hand ∧
      d.takeAuthority.pair.moved = some (d.el, true, false) ∧
      d.takeAuthority.rdF a_RDG_CNT1 f_RDG_CNT1_TAKEOVER_CNT =
        min (d.rdF a_RDG_CNT1 f_RDG_CNT1_TAKEOVER_CNT + 1) (2 ^ f_RDG_CNT1_TAKEOVER_CNT.w - 1) ∧
      d.takeAuthority.mrg.err.fly.length = d.mrg.err.fly.length + 1 := by
  unfold Dev.takeAuthority
  extract_lets next u ofs d1 pair wpu d2
  let e := d2.inc a_RDG_CNT1 f_RDG_CNT1_TAKEOVER_CNT
  have hmap : a_ERR_MAP 0x2B = 0x410AC := rfl
  have hrd {a : Nat} (hstat : a ≠ a_RDG_STAT) (hofs : a ≠ a_RDG_POS_OFS) : d2.rd a = d.rd a :=
    (Dev.rd_wr_ne _ _ hofs).trans ((Dev.rd_wr_ne _ _ hstat).trans (Dev.rd_wr_ne _ _ hstat))
  have hstat : e.rd a_RDG_STAT = ((d.wrB a_RDG_STAT f_RDG_STAT_AUTHORITY true).wrB a_RDG_STAT f_RDG_STAT_UNVERIFIED false).rd a_RDG_STAT :=
    (Dev.rd_inc_ne _ _ _ (by decide)).trans (Dev.rd_wr_ne _ _ (by decide))
  have hplain' : e.plainErr 0x2B = true := by
    have hmapped : e.rd (a_ERR_MAP 0x2B) = d.rd (a_ERR_MAP 0x2B) := (Dev.rd_inc_ne _ _ _ (by decide)).trans (hrd (by decide) (by decide))
    rw [← hplain, Dev.plainErr, Dev.plainErr, hmapped]
  rw [e.reportErr_of_plain 0x2B 46 0 hplain' (by decide)]
  refine ⟨?_, ?_, rfl, rfl, ?_, ?_⟩
  · show fbit (e.rd a_RDG_STAT) f_RDG_STAT_AUTHORITY = true
    rw [hstat]
    exact (Dev.rdB_wrB_ne _ _ _ (by decide) (by decide)).trans (Dev.rdB_wrB_self _ _ _ _ (by decide) (by decide))
  · exact (Dev.rd_inc_ne _ _ _ (by decide)).trans (Dev.rd_wr_self _ _ _)
  · refine (Dev.rdF_inc_self d2 _ _ _ (by decide)).trans ?_
    rw [Dev.rdF, hrd (by decide) (by decide), Dev.rdF]
  · show (_ ++ [_] : List Item).length = _
    rw [List.length_append]
    rfl

/-! ### AUTH ACCEPT (R454): what the end of a command leaves of time and of the pair -/

theorem Dev.hand_respond (d : Dev) (opcode : Nat) (h : EnvHdr) (status : Nat) (interim : Bool) (line : W64) (body : List Byte) :
    (d.respond opcode h status interim line body).pair.hand = d.pair.hand := by
  simp only [Dev.respond]
  split
  · exact Dev.hand_ridge ..
  · split <;> rfl

theorem Dev.hand_answer (d : Dev) (id : Nat) (cmd : Cmd) (h : EnvHdr) (status : Nat) (line : W64) (body : List Byte) :
    (d.answer id cmd h status line body).pair.hand = d.pair.hand := by
  unfold Dev.answer
  split
  · rfl
  · exact d.hand_respond ..

theorem Dev.hand_finalResp (d : Dev) (id : Nat) (cmd : Cmd) (h : EnvHdr) (status : Nat) (line : W64) (body : List Byte) :
    (d.finalResp id cmd h status line body).pair.hand = d.pair.hand := by
  unfold Dev.finalResp
  split
  · exact d.hand_answer ..
  · split
    · exact Dev.hand_answer ..
    · rfl

theorem Dev.hand_finish (d : Dev) (id status : Nat) (line : W64) (body : List Byte) : (d.finish id status line body).pair.hand = d.pair.hand := by
  unfold Dev.finish
  split
  · rfl
  · exact Dev.hand_finalResp ..

theorem Dev.Replied.clk {d e : Dev} (h : d.Replied e) : e.clk = d.clk := by
  obtain ⟨_, _, _, _, _, _, o, rfl⟩ := h
  rfl

/-- Between two states commands have ended: the elapsed time and an agreed handover stay, and no command has become pending. -/
structure Dev.Ends (d e : Dev) : Prop where
  time : e.clk.el = d.clk.el
  hand : e.pair.hand = d.pair.hand
  pending : ∀ q ∈ e.keel.pending, q ∈ d.keel.pending

theorem Dev.Ends.el {d e : Dev} (h : d.Ends e) : e.el = d.el := by rw [Dev.el, h.time, Dev.el]

theorem Dev.Ends.refl (d : Dev) : d.Ends d := ⟨rfl, rfl, fun _ hq => hq⟩

theorem Dev.Ends.trans {d e f : Dev} (h : d.Ends e) (k : e.Ends f) : d.Ends f :=
  ⟨k.time.trans h.time, k.hand.trans h.hand, fun q hq => h.pending q (k.pending q hq)⟩

theorem Dev.Ends.foldl {α : Type} {f : Dev → α → Dev} (h : ∀ (d : Dev) x, d.Ends (f d x)) (l : List α) (d : Dev) : d.Ends (l.foldl f d) :=
  List.foldlRecOn (motive := fun e => d.Ends e) l f (.refl d) fun _ he x _ => he.trans (h _ x)

theorem Dev.ends_answer (d : Dev) (id : Nat) (cmd : Cmd) (h : EnvHdr) (status : Nat) (line : W64) (body : List Byte) :
    d.Ends (d.answer id cmd h status line body) :=
  ⟨by rw [(d.replied_answer ..).clk], d.hand_answer .., fun q hq => by rwa [d.answer_pending] at hq⟩

theorem Dev.ends_finish (d : Dev) (id status : Nat) (line : W64) (body : List Byte) : d.Ends (d.finish id status line body) :=
  ⟨by rw [(d.replied_finish ..).clk], d.hand_finish .., fun q hq => by
    rw [(d.finish_leaves id status line body).2] at hq
    exact List.mem_of_mem_filter hq⟩

theorem Dev.ends_loadProfile (d : Dev) (m : Nat) : d.Ends (d.loadProfile m) := by
  refine ⟨by rw [(d.rests_loadProfile (fun _ => True) (fun _ => trivial) m).clk], ?_, fun q hq => by rwa [d.keel_loadProfile] at hq⟩
  unfold Dev.loadProfile
  split
  · refine (iter_leaves (π := fun e => e.pair.hand) (fun c e => ?_) _ _).trans ?_ <;> rfl
  · rfl

theorem Dev.ends_endService (d : Dev) (id status : Nat) (line : W64) (body : List Byte) : d.Ends (d.endService id status line body) := by
  unfold Dev.endService
  refine .trans ?_ (Dev.ends_finish ..)
  split
  · refine .trans ?_ (Dev.ends_loadProfile _ _)
    exact ⟨rfl, rfl, fun _ hq => hq⟩
  · exact .refl d

/-- As authority goes, an agreed handover is dropped, and what needed authority ends. -/
theorem Dev.cancelOwned_ends (d : Dev) (h : d.pair.hand = none) : d.Ends d.cancelOwned := by
  unfold Dev.cancelOwned
  extract_lets gone keel d1 d2 l mode clk pair d3
  have h1 : d.Ends d1 := ⟨rfl, rfl, fun _ hq => hq⟩
  have h2 : d1.Ends d2 := .foldl (fun e f => by
    split
    · exact e.ends_answer ..
    · exact .refl e) gone d1
  have h3 : d2.Ends d3 := ⟨rfl, ((h1.trans h2).hand.trans h).symm, fun _ hq => hq⟩
  exact ((h1.trans h2).trans h3).trans (.foldl (fun e p => e.ends_endService ..) l d3)

/-- Outputs at rest are levels sent out and nothing else. -/
theorem Dev.outputsIdle_leaves {β : Type} {π : Dev → β} (hπ : ∀ (d : Dev) o, π (d.emit o) = π d) (d : Dev) : π d.outputsIdle = π d := by
  unfold Dev.outputsIdle
  refine (iter_leaves (π := π) (fun n e => ?_) _ _).trans
    ((iter_leaves (π := π) (fun n e => ?_) _ _).trans (iter_leaves (π := π) (fun n e => ?_) _ _))
  · extract_lets busy high
    split
    · exact hπ ..
    · rfl
  · split
    · split
      · rfl
      · exact hπ ..
    · rfl
  · split
    · rfl
    · exact hπ ..

/-- The device that gives authority up is the partner from this instant, and nothing has become pending. -/
theorem Dev.giveAuthority_gives (d : Dev) (h : d.pair.hand = none) :
    d.giveAuthority.authority = false ∧ d.giveAuthority.pair.hand = none ∧ d.giveAuthority.pair.moved = some (d.el, false, false) ∧
      ∀ q ∈ d.giveAuthority.keel.pending, q ∈ d.keel.pending := by
  have hends := d.cancelOwned_ends h
  let e := d.cancelOwned
  let g := (e.wrB a_RDG_STAT f_RDG_STAT_AUTHORITY false).wr a_RDG_POS_OFS (BitVec.ofInt 64 e.pair.kept)
  have heq : d.giveAuthority = ({ g with pair := { g.pair with moved := some (e.el, false, false), kept := 0 } } : Dev).outputsIdle := rfl
  rw [heq]
  refine ⟨?_, ?_, ?_, fun q hq => ?_⟩
  · refine (Dev.outputsIdle_leaves (π := Dev.authority) (fun _ _ => rfl) _).trans ?_
    show fbit (g.rd a_RDG_STAT) f_RDG_STAT_AUTHORITY = false
    rw [Dev.rd_wr_ne _ _ (by decide)]
    exact Dev.rdB_wrB_self _ _ _ _ (by decide) (by decide)
  · exact (Dev.outputsIdle_leaves (π := fun d => d.pair.hand) (fun _ _ => rfl) _).trans (hends.hand.trans h)
  · refine (Dev.outputsIdle_leaves (π := fun d => d.pair.moved) (fun _ _ => rfl) _).trans ?_
    show some (e.el, false, false) = _
    rw [hends.el]
  · rw [Dev.outputsIdle_leaves (π := Dev.keel) (fun _ _ => rfl)] at hq
    exact hends.pending q hq

theorem Dev.authority_ridge (d : Dev) (typ : Nat) (body : List Byte) : (d.ridge typ body).authority = d.authority :=
  congrArg (fbit · f_RDG_STAT_AUTHORITY) ((d.rests_ridge (fun _ => False) typ body).rd a_RDG_STAT not_false)

theorem Dev.moved_ridge (d : Dev) (typ : Nat) (body : List Byte) : (d.ridge typ body).pair.moved = d.pair.moved := by
  simp only [Dev.ridge]
  split
  · rfl
  · show (if _ then _ else _ : PairSt).moved = _
    split <;> rfl

/-- An accepted handover that waits for no course moves authority at once and ends its command. -/
theorem Dev.acceptIn_now (d : Dev) {id : Nat} (hhand : d.pair.hand = some (id, false, none)) (hauth : d.authority = true) :
    d.acceptIn.authority = false ∧ d.acceptIn.pair.hand = none ∧ d.acceptIn.pair.moved = some (d.el, false, false) ∧
      ∀ q ∈ d.acceptIn.keel.pending, q.id ≠ id := by
  let e : Dev := { d with pair := { d.pair with hand := none } }
  let f := e.finish id 0 noLine []
  have heq : d.acceptIn = f.giveAuthority.ridge 0x86 (releaseBody d.now) := by
    simp only [Dev.acceptIn, hhand, hauth, Bool.not_true, Bool.false_eq_true, if_false]
    rfl
  have hends : e.Ends f := e.ends_finish ..
  obtain ⟨hgone, hnone, hmoved, hpending⟩ := f.giveAuthority_gives hends.hand
  rw [heq]
  refine ⟨?_, ?_, ?_, fun q hq => ?_⟩
  · exact (Dev.authority_ridge _ _ _).trans hgone
  · exact (Dev.hand_ridge _ _ _).trans hnone
  · rw [Dev.moved_ridge, hmoved, hends.el]
    rfl
  · rw [Dev.keel_ridge] at hq
    have hq' := hpending q hq
    rw [(e.finish_leaves id 0 noLine []).2] at hq'
    simpa using List.of_mem_filter hq'

/-- An accepted handover at a course boundary is noted with its instant. -/
theorem Dev.acceptIn_later (d : Dev) {id : Nat} (hhand : d.pair.hand = some (id, true, none)) (hauth : d.authority = true) :
    d.acceptIn = { d with pair := { d.pair with hand := some (id, true, some d.now) } } := by
  simp only [Dev.acceptIn, hhand, hauth, if_true]

/-! ### The statement -/

/-- Settles O56: a packet in order does what its TYPE and code say and no more, written out for each. -/
theorem pairPackets : Obligations.PairPackets := by
  intro s dt pkt b el
  refine ⟨fun ha hest => ⟨fun hzero hroom hen => ?post, fun f hsome hfinal hf hmine hok => ?keep⟩, fun ha hest hauth => ?record,
    fun p i x ha hest hp hi hx hsegs huse hdt hfit hnew => ?xseg, fun ha => ⟨?offer, ?accept, ?release, ?safe⟩⟩
  case post =>
    have hdeliver (e : Dev) : e.ridgeDeliver s.hbmRead 0 pkt = e.envelopeIn b := by simp only [Dev.ridgeDeliver, pktType_of_awaits ha, b]
    have hlen : b.length ≤ 4064 := length_payload_le (fun m hm => by simp [ridgeLenOk] at hm; omega) (pktOk_of_awaits ha)
    have hroom' : ((s.dev.elapse dt).received 0x85).pair.box.length < 64 := hroom
    refine makes_of_packet rfl ha ((hdeliver _).trans (((s.dev.elapse dt).received 0x85).envelopeIn_posts hest hzero hroom' hen hlen)) ?_
    refine ⟨rfl, List.mem_append_left _ (List.mem_append_right _ (List.mem_singleton.mpr rfl)), ?_, rfl, rfl⟩
    rw [Dev.boxed, Dev.ring_setRing_self]
    rfl
  case keep =>
    have hdeliver (e : Dev) : e.ridgeDeliver s.hbmRead 0 pkt = e.envelopeIn b := by simp only [Dev.ridgeDeliver, pktType_of_awaits ha, b]
    exact makes_of_packet rfl ha
      ((hdeliver _).trans (((s.dev.elapse dt).received 0x85).envelopeIn_keeps hest hsome hfinal hf hmine hok)) ⟨rfl, rfl⟩
  case record =>
    have hdeliver (e : Dev) : e.ridgeDeliver s.hbmRead 0 pkt = e.recordIn b := by simp only [Dev.ridgeDeliver, pktType_of_awaits ha, b]
    exact makes_of_packet rfl ha ((hdeliver _).trans (((s.dev.elapse dt).received 0x90).recordIn_enters b hest hauth)) ⟨rfl, rfl, rfl⟩
  case xseg =>
    have hdeliver (e : Dev) : e.ridgeDeliver s.hbmRead 0 pkt = e.xsegIn b := by simp only [Dev.ridgeDeliver, pktType_of_awaits ha, b]
    have hport : p.val < s.dev.ports.length := Dev.lt_ports_of_ne_reset fun h => by simp [h, PortSt.reset] at hx
    have hi' : i < (s.dev.port p).slots.length := (List.getElem?_eq_some_iff.mp hx).1
    refine makes_of_packet rfl ha
      ((hdeliver _).trans (((s.dev.elapse dt).received 0x91).xsegIn_joins hest hp p.isLt hi hx hsegs huse hdt hfit hnew)) ⟨?_, rfl⟩
    rw [Dev.port_setPort_self ((s.dev.elapse dt).received 0x91) _ _ hport]
    show Option.map _ (((s.dev.port p).slots.set i _)[i]?) = _
    rw [List.getElem?_set_self hi']
    rfl
  case offer =>
    intro hcode hpart hsplit hlanes
    let d := (s.dev.elapse dt).received 0x86
    have hin : d.authIn b = d.agreed.ridge 0x86 (padTo [2] 16) := by
      simp only [Dev.authIn, hcode]
      exact d.offerIn_accepts hpart hsplit
    have hagreed : d.agreed.regs = s.dev.regs ∧ d.agreed.out = s.dev.out ∧ d.agreed.pair.txCtl = s.dev.pair.txCtl ∧
        d.agreed.lanes = s.dev.lanes ∧ d.agreed.pair.hand = (if s.dev.acquiring then some (0, true, some 0) else s.dev.pair.hand) := by
      have hacq : d.acquiring = s.dev.acquiring := rfl
      unfold Dev.agreed
      rw [hacq]
      split <;> exact ⟨rfl, rfl, rfl, rfl, rfl⟩
    obtain ⟨hregs, hout, hseq, hlane, hhand⟩ := hagreed
    have hlanes' : d.agreed.ridgeLanes false ≠ 0 := by rwa [Dev.ridgeLanes, hlane]
    refine makes_of_auth rfl hcode ha hin ⟨?_, ?_, ?_⟩
    · rw [Dev.regs_ridge, hregs]
    · rw [Dev.hand_ridge, hhand]
    · rw [Dev.out_ridge _ _ _ (by decide) hlanes', hout, hseq]
  case accept =>
    intro id hcode hauth
    let d := (s.dev.elapse dt).received 0x86
    have hin : d.authIn b = d.acceptIn := by simp only [Dev.authIn, hcode]
    refine ⟨fun hhand => ?_, fun hhand => ?_⟩
    · exact makes_of_auth rfl hcode ha (hin.trans (d.acceptIn_later hhand hauth)) ⟨rfl, rfl⟩
    · exact makes_of_auth rfl hcode ha hin (d.acceptIn_now hhand hauth)
  case release =>
    intro hcode hpart hplain
    let d := (s.dev.elapse dt).received 0x86
    have hin : d.authIn b = ({ d with pair := { d.pair with hand := none } } : Dev).takeAuthority := by
      have hpart' : d.isPartner = true := hpart
      simp only [Dev.authIn, hcode, Dev.releaseIn, hpart', Bool.not_true, Bool.false_eq_true, if_false]
    exact makes_of_auth rfl hcode ha hin (Dev.takeAuthority_takes _ hplain)
  case safe =>
    intro hcode hpart hstart
    let d := (s.dev.elapse dt).received 0x86
    have hin : d.authIn b = d.enterSafe (leAt b 1 1) := by
      have hpart' : d.isPartner = true := hpart
      simp only [Dev.authIn, hcode, Dev.safeIn, hpart', if_true]
    have hkeeps := d.keeps_enterSafe (leAt b 1 1) hstart
    exact makes_of_auth rfl hcode ha hin ⟨hkeeps.cur, hkeeps.safeCause⟩

end Sys2Proof.Machine
end

section
/-! Commands that are answered at once (R336, R346): what their answers go by, and NOP, INFO, CMD_QUERY, CAL_READ and REG_READ (R349, R518). -/

namespace Sys2Proof.Machine

/-! ### What an answer goes by, and what it leaves -/

/-- A final response moves no register but the count of responses dropped. -/
theorem Dev.rd_answer (d : Dev) (id : Nat) (cmd : Cmd) (h : EnvHdr) (status : Nat) (line : W64) (body : List Byte) {a : Nat}
    (ha : a ≠ a_MBX_STAT) : (d.answer id cmd h status line body).rd a = d.rd a := by
  unfold Dev.answer
  split
  · rfl
  · exact (d.rests_respond (fun b => b = a_MBX_STAT) rfl _ _ _ _ _ _).rd a ha

theorem Dev.rd_finalResp (d : Dev) (id : Nat) (cmd : Cmd) (h : EnvHdr) (status : Nat) (line : W64) (body : List Byte) {a : Nat}
    (ha : a ≠ a_MBX_STAT) : (d.finalResp id cmd h status line body).rd a = d.rd a := by
  unfold Dev.finalResp
  split
  · exact d.rd_answer _ _ _ _ _ _ ha
  · split
    · exact Dev.rd_answer _ _ _ _ _ _ _ ha
    · rfl

/-- What the answer to a command goes by: the numbering of commands, those that the partner runs, the item rings, and where the mailboxes other than
15 respond. -/
structure Dev.Serves (d e : Dev) : Prop where
  nextId : e.keel.nextId = d.keel.nextId
  fwd : d.keel.fwd = [] → e.keel.fwd = []
  ring : ∀ r, 16 ≤ r → e.ring r = d.ring r
  mbxCfg : ∀ a, 0x50000 ≤ a → a < 0x50078 → e.rd a = d.rd a

theorem Dev.Keeps.serves {d e : Dev} (h : d.Keeps e) : d.Serves e := ⟨h.nextId, h.fwd, h.ring, h.mbxCfg⟩

theorem Dev.Serves.refl (d : Dev) : d.Serves d := ⟨rfl, id, fun _ _ => rfl, fun _ _ _ => rfl⟩

theorem Dev.Serves.trans {d e f : Dev} (h : d.Serves e) (k : e.Serves f) : d.Serves f where
  nextId := k.nextId.trans h.nextId
  fwd hd := k.fwd (h.fwd hd)
  ring r hr := (k.ring r hr).trans (h.ring r hr)
  mbxCfg a hlo hhi := (k.mbxCfg a hlo hhi).trans (h.mbxCfg a hlo hhi)

/-- A change of registers outside the mailboxes and of what the Keel, the rings and the pair do not hold. -/
theorem Dev.Serves.of_same {d e : Dev} (hkeel : e.keel = d.keel) (hrings : e.host.rings = d.host.rings)
    (hrd : ∀ a, 0x50000 ≤ a → a < 0x50078 → e.rd a = d.rd a) : d.Serves e :=
  ⟨by rw [hkeel], by rw [hkeel]; exact id, fun r _ => by rw [Dev.ring, Dev.ring, hrings], hrd⟩

section
variable {o e : Dev} {h : EnvHdr} {cmd : Cmd}

/-- A command that started ends with its answer, whatever it did on the way that does not concern answers. -/
theorem answered_of_serves (he : (o.taken h cmd).Serves e) (hs : o.starts h cmd = true) (status : Nat) (line : W64) (body : List Byte) :
    Answered o (e.finalResp o.keel.nextId cmd h status line body) h cmd status line body := by
  have hfwd : e.keel.fwd = [] := he.fwd (show o.keel.fwd = [] from Dev.fwd_of_starts hs)
  rw [Dev.finalResp_of_alone _ hfwd]
  refine answered_of_answer _ _ _ he.nextId he.ring fun a hlo hhi => ?_
  exact (he.mbxCfg a hlo hhi).trans (o.rd_taken h cmd (by unfold a_MBX_MB_STAT; omega))

/-- A command that does nothing but answer. -/
theorem answered_of_taken (hs : o.starts h cmd = true) (status : Nat) (body : List Byte) :
    let d := (o.taken h cmd).finalResp o.keel.nextId cmd h status noLine body
    SameRegs o d h ∧ Answered o d h cmd status noLine body := by
  refine ⟨fun b hb hstat => ?_, answered_of_serves (.refl _) hs _ _ _⟩
  exact (Dev.rd_finalResp _ _ _ _ _ _ _ hstat).trans (o.rd_taken h cmd hb)

end

section
variable {o : Dev} {h : EnvHdr}

/-! ### NOP, INFO, CMD_QUERY (R346, R349) and CAL_READ (R518) -/

theorem Dev.submit_nop (hs : o.starts h .nop = true) :
    o.submit h .nop = (o.taken h .nop).finalResp o.keel.nextId .nop h 0 noLine [] := Dev.submit_of_starts o h _ hs

theorem Dev.submit_info (hs : o.starts h .info = true) (hest : o.established = false) :
    o.submit h .info = (o.taken h .info).finalResp o.keel.nextId .info h 0 noLine
      (leBytes 4 (o.rd a_DEV_ID).toNat ++ leBytes 4 o.keel.bankA.version.toNat ++ leBytes 4 o.keel.bankB.version.toNat ++
        [if o.keel.bankInB then 1 else 0, if o.keel.idle.verified then 1 else 0, 0, 0] ++ leBytes 8 o.now.toNat ++ leBytes 2 o.clk.epoch.toNat ++
        [0]) := by
  have hest' := (o.checksAlike_taken h .info).established.trans hest
  have hid := o.rd_taken h .info (a := a_DEV_ID) (by unfold a_DEV_ID a_MBX_MB_STAT; omega)
  rw [Dev.submit_of_starts o h _ hs]
  show Dev.runInfo _ _ = _
  simp only [Dev.runInfo, Dev.done, hest', hid, Bool.not_false, if_true]
  rfl

theorem Dev.submit_cmdQuery {m : Byte} {tag : W32} (hs : o.starts h (.cmdQuery m tag) = true) :
    o.submit h (.cmdQuery m tag) = (o.taken h (.cmdQuery m tag)).runQuery (o.takenCmd h (.cmdQuery m tag)) m.toNat tag :=
  Dev.submit_of_starts o h _ hs

/-- What CMD_QUERY finds is what the Keel held before it was taken. -/
theorem Dev.queryHits_taken (cmd : Cmd) (m : Nat) (tag : W32) : (o.taken h cmd).queryHits m tag = o.queryHits m tag := rfl

theorem Dev.submit_calRead {item : BitVec 16} {x : CalItem} (hs : o.starts h (.calRead item) = true) (hitem : item.toNat < 0x600)
    (hx : o.calFind item.toNat = some x) (hlen : x.coefs.length ≤ 1000) :
    o.submit h (.calRead item) = (o.taken h (.calRead item)).finalResp o.keel.nextId (.calRead item) h 0 noLine
      (padTo (leBytes 4 x.count) 8 ++ leBytes 8 x.time.toNat ++ padTo (leBytes 2 x.coefs.length) 8 ++
        x.coefs.flatMap (fun c => leBytes 4 c.toNat)) := by
  have hx' : (o.taken h (.calRead item)).calFind item.toNat = some x := hx
  rw [Dev.submit_of_starts o h _ hs]
  show Dev.runCalRead _ _ _ = _
  simp only [Dev.runCalRead, hx', if_neg (Nat.not_le.mpr hitem), List.take_of_length_le hlen]
  rfl

/-! ### REG_READ (R43, R349) -/

theorem unitAt_mbStat (m : Fin 16) : unitAt (a_MBX_MB_STAT m) = some .mbx := by revert m; decide

/-- What a register shows does not depend on the command being taken. -/
theorem Dev.value_taken (cmd : Cmd) {u : RUnit} {a : Nat} (i : Nat) (hu : u ∈ [RUnit.bal, .cal, .tha, .eth, .pcx, .wpu, .dsp, .time])
    (ha : a ≠ a_MBX_MB_STAT h.mailbox) : (o.taken h cmd).value u a i = o.value u a i := by
  have hrd := o.rd_taken h cmd ha
  have hsvc : (o.taken h cmd).svcReg = o.svcReg := by
    unfold Dev.svcReg
    rw [o.rd_taken h cmd (by unfold a_CAL_SVC_STAT a_MBX_MB_STAT; omega)]
    rfl
  simp only [List.mem_cons, List.not_mem_nil, or_false] at hu
  rcases hu with rfl | rfl | rfl | rfl | rfl | rfl | rfl | rfl <;> simp only [Dev.value, hrd, hsvc] <;> rfl

/-- The counter that taking a command raises is not in another register. -/
theorem CycleSt.filter_raise (c : CycleSt) {a : Nat} (f : Fld) (before n : Nat) {p : Part} (ha : a ≠ p.addr) :
    (c.raise a f before n).raised.filter p.counts = c.raised.filter p.counts := by
  have hnot {r : Raised} (hr : r.addr = a) : p.counts r = false := by simp [Part.counts, hr, ha]
  unfold CycleSt.raise
  extract_lets mine
  split
  · show (List.map _ c.raised).filter _ = _
    induction c.raised with
    | nil => rfl
    | cons r rs ih =>
      rw [List.map_cons, List.filter_cons, List.filter_cons, ih]
      split
      next hm =>
        simp only [mine, Bool.and_eq_true, decide_eq_true_eq] at hm
        obtain ⟨⟨hr, -⟩, -⟩ := hm
        simp [hnot hr, hnot (r := { r with times := r.times + n }) hr]
      next => rfl
  · simp [List.filter_append, hnot]

theorem Dev.filter_raised_taken (cmd : Cmd) {p : Part} (hp : a_MBX_MB_STAT h.mailbox ≠ p.addr) :
    (o.taken h cmd).cycle.raised.filter p.counts = o.cycle.raised.filter p.counts := CycleSt.filter_raise _ _ _ _ hp

/-- The mailboxes' configuration lies in the window of their unit. -/
theorem unitAt_mailbox {a : Nat} (hlo : 0x50000 ≤ a) (hhi : a < 0x50078) : unitAt a = some .mbx := by
  have hk : a / 0x10000 = 5 := by omega
  simp [unitAt, hk]

/-- A read moves registers alone, and what the cycle notes of counters. -/
theorem Dev.clearPart_eq (d : Dev) (p : Part) : ∃ regs cycle, d.clearPart p = { d with regs := regs, cycle := cycle } := by
  unfold Dev.clearPart Dev.clearPart.peak
  split
  · split
    · exact ⟨_, _, rfl⟩
    · split
      · exact ⟨_, _, rfl⟩
      · exact ⟨_, _, rfl⟩
  · exact ⟨d.regs, d.cycle, rfl⟩

/-- The units of O59 whose registers REG_READ is stated for. -/
abbrev answeredUnits : List RUnit := [.bal, .cal, .tha, .eth, .pcx, .wpu, .dsp, .time]

section
variable {a n : Nat} {p : Part} (hp : accessParts a n = some [p])
include hp

/-- What a read of a part answers and leaves does not depend on the command being taken. -/
theorem Dev.readPart_taken (cmd : Cmd) (hu : p.unit ∈ answeredUnits) :
    (o.taken h cmd).readPart p = o.readPart p ∧ (o.taken h cmd).leftBy p = o.leftBy p := by
  have hne := addr_ne_of_unitAt hp hu (unitAt_mbStat h.mailbox) (by decide)
  have hraised := Dev.filter_raised_taken (o := o) cmd hne
  have hvalue := Dev.value_taken (o := o) (h := h) cmd (p.index.headD 0) hu hne.symm
  have hrd := o.rd_taken h cmd hne.symm
  constructor
  · simp only [Dev.readPart, hraised, hvalue]
  · simp only [Dev.leftBy, hraised, hrd]

theorem Dev.submit_regRead {e : RegSel} (hs : o.starts h (.regRead [e]) = true) (ha : e.addr.toNat = a) (hn : e.size.toNat = n)
    (hsize : sizeOk a n = true) (ht : inTbl a = false) (hr : inRng a = false) (hon : inAon a = false) (hreach : o.reachable p.unit = true)
    (hu : p.unit ∈ answeredUnits) (hj : p.unit = .tha → ∀ k < 16, (o.engine k).job = none) :
    o.submit h (.regRead [e]) = ((o.taken h (.regRead [e])).clearPart p).finalResp o.keel.nextId (.regRead [e]) h 0 noLine
      (padTo (leBytes 2 1) 8 ++ leBytes 8 (o.readPart p).toNat) := by
  have hreach' := ((o.checksAlike_taken h (.regRead [e])).reachable p.unit).trans hreach
  have hread := (o.taken h (.regRead [e])).regRead_single (.mailbox h.mailbox) hon hp hreach' hj
  have hval := (Dev.readPart_taken (o := o) (h := h) hp (.regRead [e]) hu).1
  have hentry : (o.taken h (.regRead [e])).readEntry h.mailbox e = ((o.taken h (.regRead [e])).clearPart p, .ok (o.readPart p)) := by
    simp only [Dev.readEntry, ha, hn, hsize, ht, hr, hread, hval, Bool.not_true, Bool.false_eq_true, if_false, if_true]
  rw [Dev.submit_of_starts o h _ hs]
  show Dev.runRegRead (o.taken h (.regRead [e])) (o.takenCmd h (.regRead [e])) [e] = _
  simp only [Dev.runRegRead, Dev.takenCmd, Dev.readEntries, hentry, List.length_cons, List.length_nil, List.flatMap_cons, List.flatMap_nil,
    List.append_nil]

/-- A read touches registers of its unit, and nothing that answers go by. -/
theorem Dev.serves_clearPart (d : Dev) (hu : p.unit ∈ answeredUnits) : d.Serves (d.clearPart p) := by
  obtain ⟨⟨-, hother⟩, -⟩ := d.setsOnly_clearPart hp (List.mem_append_left [RUnit.mbx] hu)
  obtain ⟨regs, cycle, heq⟩ := d.clearPart_eq p
  refine .of_same (by rw [heq]) (by rw [heq]) fun b hlo hhi => hother b ?_
  exact addr_ne_of_unitAt hp hu (unitAt_mailbox hlo hhi) (by decide)

end

end

end Sys2Proof.Machine
end

section
/-! REG_WRITE as a command (R9, R341): what its write moves, and its answer. -/

namespace Sys2Proof.Machine

/-! ### The write -/

/-- A write to a unit that does no more than R9 says moves registers, and what the cycle and the next reset note of them. -/
theorem Dev.writePart_eq_of_storing (d : Dev) (p : Part) (data : W64) (src : AccSrc) (hu : p.unit ∈ storingUnits) :
    ∃ regs cycle next, (d.writePart p data src).1 = { d with regs := regs, cycle := cycle, nextRst := next } := by
  unfold Dev.writePart
  split
  · exact ⟨d.regs, d.cycle, d.nextRst, rfl⟩
  · extract_lets a wm new old part dirKept again src
    split
    next v bad took _ =>
    extract_lets bad' d1 d2 d3
    split
    · exact ⟨d.regs, d.cycle, d.nextRst, rfl⟩
    · have h3 : ∃ regs cycle next, d3 = { d with regs := regs, cycle := cycle, nextRst := next } := by
        unfold d3
        split
        · exact ⟨_, _, _, rfl⟩
        · exact ⟨_, _, _, rfl⟩
      rwa [Dev.writeEffect_of_storing _ _ _ _ _ _ _ hu]

theorem Dev.serves_plainErr (d : Dev) {code : Nat} (origin info : Nat) (hplain : d.plainErr code = true) (hc : code ∉ [0x01, 0x02, 0x03, 0x43]) :
    d.Serves (d.reportErr code origin info) := by
  rw [d.reportErr_of_plain code origin info hplain hc]
  exact ((d.keeps_mkStamp origin d.now).trans (Dev.keeps_fly _ _ _)).serves

/-- A write within one register of such a unit that takes writes: the register is set, LOCK_VIOLATION is reported or not, and what answers go by
stays. -/
theorem Dev.regWrite_storing (d : Dev) {a n : Nat} (data : W64) (src : AccSrc) {p : Part} (hon : inAon a = false)
    (hp : accessParts a n = some [p]) (hu : p.unit ∈ storingUnits) (ht : d.takesWrites p.unit = true) (hplain : d.plainErr 0x0D = true) :
    ∃ e acc, d.regWrite a n data src = (e, acc) ∧ (acc = .ok ∨ acc = .locked) ∧ d.Serves e ∧
      d.SetsOnly e p.addr (storeFields p.reg p.mask false (fun _ => false) (d.rd p.addr) (d.reaches p data)).1 := by
  simp only [Dev.takesWrites, Bool.and_eq_true, Bool.not_eq_true'] at ht
  obtain ⟨⟨hr, hl⟩, he⟩ := ht
  let w := (d.writePart p data src).1
  have hset : d.SetsOnly w p.addr _ := d.setsOnly_writePart p data src hu he hl
  have hserves : d.Serves w := by
    obtain ⟨regs, cycle, next, heq⟩ := d.writePart_eq_of_storing p data src hu
    have hkeel : w.keel = d.keel := by simp only [w, heq]
    have hrings : w.host.rings = d.host.rings := by simp only [w, heq]
    exact .of_same hkeel hrings fun b hlo hhi =>
      hset.2 b (addr_ne_of_unitAt hp hu (unitAt_mailbox hlo hhi) (by decide))
  have he' : w.established = false := (hset.established (addr_ne_of_unitAt hp hu (v := .rdg) rfl (by decide))).trans he
  have hplain' : w.plainErr 0x0D = true := (hset.plainErr (addr_ne_of_unitAt hp hu (v := .err) rfl (by decide))).trans hplain
  have htook (b : Bool) : (if b then (w.writeTwins p data src).mirrorWrite p data src else w) = w := by
    rw [Dev.writeTwins_of_storing _ p data src hu, Dev.mirrorWrite_of_alone _ p data src he', ite_self]
  obtain ⟨own, bad, hwrite⟩ : ∃ own bad : Bool,
      d.regWrite a n data src = (if own then w.lockViolation a src else w, if bad then .locked else .ok) := by
    simp only [Dev.regWrite, hon, hp, hr, List.any_cons, List.any_nil, Bool.not_true, Bool.or_false, Bool.false_eq_true, if_false,
      List.foldl_cons, List.foldl_nil, Bool.false_or]
    rw [htook]
    exact ⟨_, _, rfl⟩
  refine ⟨_, _, hwrite, by cases bad <;> simp, ?_⟩
  cases own with
  | false => exact ⟨hserves, hset⟩
  | true =>
    obtain ⟨hregs, hnv, -, -⟩ := w.addrErr_of_plain 0x0D a src hplain' (by decide)
    exact ⟨hserves.trans (w.serves_plainErr _ _ hplain' (by decide)), hset.congr hregs hnv⟩

/-! ### The command -/

section
variable {o : Dev} {h : EnvHdr}

theorem CycleSt.flags_raise (c : CycleSt) (a : Nat) (f : Fld) (before n : Nat) : (c.raise a f before n).flags = c.flags := by
  unfold CycleSt.raise
  extract_lets mine
  split
  · rfl
  · rfl

/-- Taking a command sets no bit, so a write stores what it would have stored before. -/
theorem Dev.reaches_taken (cmd : Cmd) (p : Part) (data : W64) : (o.taken h cmd).reaches p data = o.reaches p data := by
  have hflags : (o.taken h cmd).cycle.flags = o.cycle.flags := CycleSt.flags_raise _ _ _ _ _
  simp only [Dev.reaches, hflags]

/-- A REG_WRITE of one entry in a device outside a pair: its register is set, and it is answered with what came of it (R341). -/
theorem Dev.submit_regWrite {a n : Nat} {p : Part} {x : RegPut} (hp : accessParts a n = some [p]) (hs : o.starts h (.regWrite [x]) = true)
    (ha : x.addr.toNat = a) (hn : x.size.toNat = n) (hsize : sizeOk a n = true) (ht : inTbl a = false) (hr : inRng a = false)
    (hon : inAon a = false) (hu : p.unit ∈ storingUnits) (htakes : o.takesWrites p.unit = true) (hplain : o.plainErr 0x0D = true) :
    ∃ e st k, o.submit h (.regWrite [x]) = e.finalResp o.keel.nextId (.regWrite [x]) h st noLine (leBytes 2 k) ∧
      (st = 0 ∧ k = 1 ∨ st = 0x15 ∧ k = 0) ∧ (o.taken h (.regWrite [x])).Serves e ∧
      (o.taken h (.regWrite [x])).SetsOnly e p.addr
        (storeFields p.reg p.mask false (fun _ => false) (o.rd p.addr) (o.reaches p x.value)).1 := by
  have halike := o.checksAlike_taken h (.regWrite [x])
  have htaken := o.rd_taken h (.regWrite [x]) (addr_ne_of_unitAt hp hu (unitAt_mbStat h.mailbox) (by decide)).symm
  have hmap := o.rd_taken h (.regWrite [x]) (a := a_ERR_MAP 0x0D) (by unfold a_MBX_MB_STAT; simp [a_ERR_MAP]; omega)
  have htakes' : (o.taken h (.regWrite [x])).takesWrites p.unit = true := by
    rw [← htakes, Dev.takesWrites, Dev.takesWrites, halike.reachable, halike.isLocked, halike.established]
  have hplain' : (o.taken h (.regWrite [x])).plainErr 0x0D = true := by rw [← hplain, Dev.plainErr, Dev.plainErr, hmap]
  obtain ⟨e, acc, hwrite, hacc, hserves, hset⟩ :=
    (o.taken h (.regWrite [x])).regWrite_storing (n := n) x.value (.mailbox h.mailbox) hon hp hu htakes' hplain'
  rw [htaken, Dev.reaches_taken] at hset
  have hsolo : o.established = false := by
    simp only [Dev.takesWrites, Bool.and_eq_true, Bool.not_eq_true'] at htakes
    exact htakes.2
  have hsolo' := halike.established.trans hsolo
  have hsoloE : e.established = false :=
    (hset.established (addr_ne_of_unitAt hp hu (v := .rdg) rfl (by decide))).trans hsolo'
  have hentry : (o.taken h (.regWrite [x])).writeEntry h.mailbox x = (e, acc.status) := by
    simp only [Dev.writeEntry, ha, hn, hsize, ht, hr, hwrite, Dev.isPartner, hsolo', Bool.not_true, Bool.false_and, Bool.false_eq_true, if_false]
  have hone (st k : Nat) (hentries : (o.taken h (.regWrite [x])).writeEntries h.mailbox [x] = (e, k, st)) :
      o.submit h (.regWrite [x]) = e.finalResp o.keel.nextId (.regWrite [x]) h st noLine (leBytes 2 k) := by
    rw [Dev.submit_of_starts o h _ hs]
    show Dev.runRegWrite (o.taken h (.regWrite [x])) (o.takenCmd h (.regWrite [x])) [x] = _
    simp only [Dev.runRegWrite, Dev.takenCmd, hentries, Dev.sameLine, Dev.sendsOn, hsoloE, Bool.false_and, Bool.false_eq_true, if_false]
  rcases hacc with rfl | rfl
  · exact ⟨e, 0, 1, hone 0 1 (by simp [Dev.writeEntries, hentry, Access.status]), .inl ⟨rfl, rfl⟩, hserves, hset⟩
  · exact ⟨e, 0x15, 0, hone 0x15 0 (by simp [Dev.writeEntries, hentry, Access.status]), .inr ⟨rfl, rfl⟩, hserves, hset⟩

end

end Sys2Proof.Machine
end

section
/-! Commands of class I beyond registers: ROLL_NEXT, views, SERVICE_ABORT and the configuration window (R274, R354, R355, R491). -/

namespace Sys2Proof.Machine

section
variable {o e : Dev} {h : EnvHdr}

/-! ### CMD_QUERY, REG_READ and REG_WRITE (R346, R349) -/

theorem Dev.runQuery_none {d : Dev} {m : Nat} {tag : W32} (t : Taken) (hits : d.queryHits m tag = []) : d.runQuery t m tag = d.done t (zeros 16) := by
  simp [Dev.runQuery, hits]

theorem Dev.runQuery_one {d : Dev} {m : Nat} {tag : W32} (t : Taken) {x : QueryHit} (hits : d.queryHits m tag = [x]) :
    d.runQuery t m tag = d.done t (leBytes 2 x.opcode ++ leBytes 2 x.status ++ [x.state, 0, 0, 0] ++ leBytes 8 x.line.toNat) := by
  simp [Dev.runQuery, hits]

/-- An answer after one register has been set: that register and the mailboxes' counts apart, all are as they were. -/
theorem Dev.SetsOnly.answered {cmd : Cmd} {a : Nat} {v : W64} (hset : (o.taken h cmd).SetsOnly e a v) (hstat : a ≠ a_MBX_STAT) (id : Nat)
    (status : Nat) (line : W64) (body : List Byte) :
    (e.finalResp id cmd h status line body).rd a = v ∧
      ∀ b, b ≠ a → b ≠ a_MBX_MB_STAT h.mailbox → b ≠ a_MBX_STAT → (e.finalResp id cmd h status line body).rd b = o.rd b := by
  refine ⟨(Dev.rd_finalResp _ _ _ _ _ _ _ hstat).trans hset.1, fun b hb hbox hbstat => ?_⟩
  exact (Dev.rd_finalResp _ _ _ _ _ _ _ hbstat).trans ((hset.2 b hb).trans (o.rd_taken h cmd hbox))

theorem Dev.regRead_answers {a n : Nat} {p : Part} {x : RegSel} (hp : accessParts a n = some [p]) (hs : o.starts h (.regRead [x]) = true)
    (ha : x.addr.toNat = a) (hn : x.size.toNat = n) (hsize : sizeOk a n = true) (ht : inTbl a = false) (hr : inRng a = false)
    (hon : inAon a = false) (hreach : o.reachable p.unit = true) (hu : p.unit ∈ answeredUnits)
    (hj : p.unit = .tha → ∀ k < 16, (o.engine k).job = none) :
    let d := o.submit h (.regRead [x])
    Answered o d h (.regRead [x]) 0 noLine (padTo (leBytes 2 1) 8 ++ leBytes 8 (o.readPart p).toNat) ∧ d.rd p.addr = o.leftBy p ∧
      ∀ b, b ≠ p.addr → b ≠ a_MBX_MB_STAT h.mailbox → b ≠ a_MBX_STAT → d.rd b = o.rd b := by
  intro d
  have hset := ((o.taken h (.regRead [x])).setsOnly_clearPart hp (List.mem_append_left [RUnit.mbx] hu)).1
  rw [(Dev.readPart_taken (o := o) (h := h) hp _ hu).2] at hset
  have hstat : p.addr ≠ a_MBX_STAT := (addr_ne_of_unitAt hp hu (v := .mbx) rfl (by decide)).symm
  simp only [d, Dev.submit_regRead hp hs ha hn hsize ht hr hon hreach hu hj]
  exact ⟨answered_of_serves (Dev.serves_clearPart hp _ hu) hs _ _ _, hset.answered hstat _ _ _ _⟩

theorem Dev.regWrite_answers {a n : Nat} {p : Part} {x : RegPut} (hp : accessParts a n = some [p]) (hs : o.starts h (.regWrite [x]) = true)
    (ha : x.addr.toNat = a) (hn : x.size.toNat = n) (hsize : sizeOk a n = true) (ht : inTbl a = false) (hr : inRng a = false)
    (hon : inAon a = false) (hu : p.unit ∈ storingUnits) (htakes : o.takesWrites p.unit = true) (hplain : o.plainErr 0x0D = true) :
    let d := o.submit h (.regWrite [x])
    (Answered o d h (.regWrite [x]) 0 noLine (leBytes 2 1) ∨ Answered o d h (.regWrite [x]) 0x15 noLine (leBytes 2 0)) ∧
      d.rd p.addr = (storeFields p.reg p.mask false (fun _ => false) (o.rd p.addr) (o.reaches p x.value)).1 ∧
      ∀ b, b ≠ p.addr → b ≠ a_MBX_MB_STAT h.mailbox → b ≠ a_MBX_STAT → d.rd b = o.rd b := by
  intro d
  obtain ⟨e, st, k, heq, hend, hserves, hset⟩ := Dev.submit_regWrite hp hs ha hn hsize ht hr hon hu htakes hplain
  have hstat : p.addr ≠ a_MBX_STAT := (addr_ne_of_unitAt hp hu (v := .mbx) rfl (by decide)).symm
  have hans := answered_of_serves hserves hs st noLine (leBytes 2 k)
  simp only [d, heq]
  refine ⟨?_, hset.answered hstat _ _ _ _⟩
  rcases hend with ⟨rfl, rfl⟩ | ⟨rfl, rfl⟩
  · exact .inl hans
  · exact .inr hans

/-! ### ROLL_NEXT (R274, R337) -/

/-- The block with one more roll due, for a command that waits or for none. -/
def Dev.rollAsked (d : Dev) (c : Option Nat) : Dev := { d with cls := { d.cls with rollDue := d.cls.rollDue ++ [⟨0, none, 0, c⟩] } }

theorem Dev.Replied.cls {d e : Dev} (h : d.Replied e) : e.cls = d.cls := by
  obtain ⟨_, _, _, _, _, _, _, rfl⟩ := h
  rfl

theorem Dev.rollNext_waits (hs : o.starts h .rollNext = true) (hon : o.reachable .cls = true) (hfree : o.cls.rolls.length < 2)
    (hacq : o.acquiring = true) :
    let d := o.submit h .rollNext
    SameRegs o d h ∧ Pends o d h .rollNext noLine ∧
      d.cls = { o.cls with rollDue := o.cls.rollDue ++ [⟨0, none, 0, some o.keel.nextId⟩] } := by
  intro d
  let t := o.taken h .rollNext
  have hon' : t.reachable .cls = true := ((o.checksAlike_taken h .rollNext).reachable _).trans hon
  have hfree' : ¬ 2 ≤ t.cls.rolls.length := Nat.not_le.mpr hfree
  have hacq' : t.acquiring = true := hacq
  let r := t.rollAsked (some o.keel.nextId)
  have hd : d = { r with keel := { r.keel with pending := r.keel.pending ++ [⟨o.keel.nextId, h, .rollNext, noLine, o.el⟩] } } := by
    simp only [d, Dev.submit_of_starts o h _ hs]
    show t.runRollNext (o.takenCmd h .rollNext) = _
    simp only [Dev.runRollNext, hon', hfree', hacq', Bool.not_true, Bool.false_eq_true, if_false, if_true]
    rfl
  rw [hd]
  exact ⟨fun b hb _ => o.rd_taken h .rollNext hb, ⟨rfl, List.mem_append_right _ (List.mem_singleton.mpr rfl)⟩, rfl⟩

theorem Dev.rollNext_answers (hs : o.starts h .rollNext = true) (hon : o.reachable .cls = true) (hfree : o.cls.rolls.length < 2)
    (hacq : o.acquiring = false) :
    let d := o.submit h .rollNext
    SameRegs o d h ∧ d.cls = { o.cls with rollDue := o.cls.rollDue ++ [⟨0, none, 0, none⟩] } ∧
      Answered o d h .rollNext 0 noLine (leBytes 4 (o.rdF a_CLS_ROLL_CTRL f_CLS_ROLL_CTRL_NEXT_ID)) := by
  intro d
  let t := o.taken h .rollNext
  have hon' : t.reachable .cls = true := ((o.checksAlike_taken h .rollNext).reachable _).trans hon
  have hfree' : ¬ 2 ≤ t.cls.rolls.length := Nat.not_le.mpr hfree
  have hacq' : t.acquiring = false := hacq
  have hnext : t.rdF a_CLS_ROLL_CTRL f_CLS_ROLL_CTRL_NEXT_ID = o.rdF a_CLS_ROLL_CTRL f_CLS_ROLL_CTRL_NEXT_ID :=
    congrArg (fget · _) (o.rd_taken h .rollNext (by unfold a_CLS_ROLL_CTRL a_MBX_MB_STAT; omega))
  have hd : d = (t.rollAsked none).finalResp o.keel.nextId .rollNext h 0 noLine
      (leBytes 4 (o.rdF a_CLS_ROLL_CTRL f_CLS_ROLL_CTRL_NEXT_ID)) := by
    simp only [d, Dev.submit_of_starts o h _ hs]
    show t.runRollNext (o.takenCmd h .rollNext) = _
    simp only [Dev.runRollNext, hon', hfree', hacq', hnext, Bool.not_true, Bool.false_eq_true, if_false]
    rfl
  have hserves : t.Serves (t.rollAsked none) := .of_same rfl rfl fun _ _ _ => rfl
  rw [hd]
  exact ⟨fun b hb hstat => (Dev.rd_finalResp _ _ _ _ _ _ _ hstat).trans (o.rd_taken h .rollNext hb),
    (Dev.replied_finalResp _ _ _ _ _ _ _).cls, answered_of_serves hserves hs _ _ _⟩

/-- A counter outside the mailboxes, raised on the way to the answer. -/
theorem Dev.serves_inc (d : Dev) {a : Nat} (f : Fld) (n : Nat) (ha : a < 0x50000 ∨ 0x50078 ≤ a) : d.Serves (d.inc a f n) :=
  .of_same rfl rfl fun b hlo hhi => Dev.rd_inc_ne _ _ _ (by omega)

theorem Dev.rollNext_refused (hs : o.starts h .rollNext = true) (hon : o.reachable .cls = true) (hfull : 2 ≤ o.cls.rolls.length) :
    let d := o.submit h .rollNext
    d.cls = o.cls ∧ Answered o d h .rollNext 0x17 noLine [] ∧ d.rdF a_CLS_ROLL_STAT f_CLS_ROLL_STAT_REFUSED_CNT =
      min (o.rdF a_CLS_ROLL_STAT f_CLS_ROLL_STAT_REFUSED_CNT + 1) (2 ^ f_CLS_ROLL_STAT_REFUSED_CNT.w - 1) := by
  intro d
  let t := o.taken h .rollNext
  have hon' : t.reachable .cls = true := ((o.checksAlike_taken h .rollNext).reachable _).trans hon
  have hfull' : 2 ≤ t.cls.rolls.length := hfull
  let c := t.inc a_CLS_ROLL_STAT f_CLS_ROLL_STAT_REFUSED_CNT
  have hcount : t.rdF a_CLS_ROLL_STAT f_CLS_ROLL_STAT_REFUSED_CNT = o.rdF a_CLS_ROLL_STAT f_CLS_ROLL_STAT_REFUSED_CNT :=
    congrArg (fget · _) (o.rd_taken h .rollNext (by unfold a_CLS_ROLL_STAT a_MBX_MB_STAT; omega))
  have hd : d = c.finalResp o.keel.nextId .rollNext h 0x17 noLine [] := by
    simp only [d, Dev.submit_of_starts o h _ hs]
    show t.runRollNext (o.takenCmd h .rollNext) = _
    simp only [Dev.runRollNext, hon', hfull', Bool.not_true, Bool.false_eq_true, if_false, if_true]
    rfl
  rw [hd]
  refine ⟨(Dev.replied_finalResp _ _ _ _ _ _ _).cls, answered_of_serves (t.serves_inc _ _ (by decide)) hs _ _ _, ?_⟩
  refine (congrArg (fget · _) (Dev.rd_finalResp c _ _ _ _ _ _ (by decide))).trans ?_
  refine (Dev.rdF_inc_self t _ _ 1 (by decide)).trans ?_
  rw [hcount]

/-! ### VIEW_RESERVE and VIEW_RELEASE (R354) -/

/-- The device's own change of VIEW_RSV moves no other register but the configuration's reference CRC (R492). -/
theorem Dev.ownChange_viewRsv (d : Dev) (v : Nat) :
    ∃ regs, d.ownChange (fun d => d.wrF a_ETH_VIEW_RSV f_ETH_VIEW_RSV_RSV v) = { d with regs := regs } ∧
      ({ d with regs := regs } : Dev).rdF a_ETH_VIEW_RSV f_ETH_VIEW_RSV_RSV = v % 2 ^ 32 ∧
      ∀ a, a ≠ a_ETH_VIEW_RSV → a ≠ a_CFG_CRC_REF → ({ d with regs := regs } : Dev).rd a = d.rd a := by
  unfold Dev.ownChange
  extract_lets d' diff
  have hself : d'.rdF a_ETH_VIEW_RSV f_ETH_VIEW_RSV_RSV = v % 2 ^ 32 := Dev.rdF_wrF_self _ _ _ _ (by decide)
  have hother {a : Nat} (ha : a ≠ a_ETH_VIEW_RSV) : d'.rd a = d.rd a := Dev.rd_wrF_ne _ _ _ ha
  split
  · exact ⟨d'.regs, rfl, hself, fun a ha _ => hother ha⟩
  · exact ⟨_, rfl, (Dev.rdF_wrF_ne d' _ _ _ (by decide)).trans hself, fun a ha hcrc => (Dev.rd_wrF_ne d' _ _ hcrc).trans (hother ha)⟩

theorem Dev.serves_regs (d : Dev) {regs : RegStore}
    (hrd : ∀ a, a ≠ a_ETH_VIEW_RSV → a ≠ a_CFG_CRC_REF → ({ d with regs := regs } : Dev).rd a = d.rd a) :
    d.Serves { d with regs := regs } :=
  .of_same rfl rfl fun a hlo hhi => hrd a (by unfold a_ETH_VIEW_RSV; omega) (by unfold a_CFG_CRC_REF; omega)

theorem Dev.ViewWork.serves {d e : Dev} (h : d.ViewWork e) : d.Serves e := by
  obtain ⟨rs, vs, out, rfl⟩ := h.rest
  exact .of_same rfl rfl fun a hlo hhi => h.rd a (by unfold a_ETH_VIEW_STAT; omega)

theorem Dev.Replied.views {d e : Dev} (h : d.Replied e) : e.views = d.views := by
  obtain ⟨_, _, _, _, _, _, _, rfl⟩ := h
  rfl

theorem Dev.Replied.viewAt {d e : Dev} (h : d.Replied e) (k : Nat) : e.viewAt k = d.viewAt k := by rw [Dev.viewAt, h.views, Dev.viewAt]

theorem Dev.viewAt_setView_ne (d : Dev) {v : View} {k : Nat} (hk : k ≠ v.slot) : (d.setView v).viewAt k = d.viewAt k := by
  show (d.views.filter (fun x => x.slot ≠ v.slot) ++ [v]).find? (fun x => x.slot = k) = d.views.find? (fun x => x.slot = k)
  have hlast : ¬ v.slot = k := fun hv => hk hv.symm
  have hsame : (fun x : View => decide (decide (x.slot ≠ v.slot) = true ∧ decide (x.slot = k) = true)) = fun x => decide (x.slot = k) := by
    funext x
    by_cases hx : x.slot = k
    · simp [hx, hk]
    · simp [hx]
  rw [List.find?_append, List.find?_filter, hsame]
  simp [hlast]

theorem Dev.argsOk_of_starts {cmd : Cmd} (hs : o.starts h cmd = true) : o.argsOk cmd = true := by
  simp only [Dev.starts, Bool.and_eq_true] at hs
  obtain ⟨⟨⟨⟨⟨-, hargs⟩, -⟩, -⟩, -⟩, -⟩ := hs
  exact hargs

theorem Dev.viewReserve_answers {v : ViewArgs} (hs : o.starts h (.viewReserve v) = true) (hon : o.reachable .eth = true)
    (hdest : o.rdF (a_ETH_DEST v.dest.toNat) f_ETH_DEST_IPV4 ≠ 0)
    (hstatus : o.viewStatus v.x0.toNat v.x1.toNat v.zoom.toNat v.rate.toNat v.hOut.toNat = 0) (hfree : o.viewAt v.slot.toNat = none) :
    let d := o.submit h (.viewReserve v)
    (d.rdF a_ETH_VIEW_RSV f_ETH_VIEW_RSV_RSV).testBit v.slot.toNat = true ∧ (d.viewAt v.slot.toNat).isSome = true ∧
      (∀ k, k ≠ v.slot.toNat → d.viewAt k = o.viewAt k) ∧
      Answered o d h (.viewReserve v) 0 noLine (leBytes 2 (wOut v.x0.toNat v.x1.toNat v.zoom.toNat) ++ leBytes 2 v.hOut.toNat) := by
  intro d
  let t := o.taken h (.viewReserve v)
  have hslot : v.slot.toNat < 32 := by
    have hargs := Dev.argsOk_of_starts hs
    simp only [Dev.argsOk, Bool.and_eq_true, decide_eq_true_eq] at hargs
    exact hargs.1
  have hon' : t.reachable .eth = true := ((o.checksAlike_taken h _).reachable _).trans hon
  have hdest' : t.rdF (a_ETH_DEST v.dest.toNat) f_ETH_DEST_IPV4 ≠ 0 := by
    rwa [Dev.rdF, o.rd_taken h _ (by unfold a_ETH_DEST a_MBX_MB_STAT; omega)]
  have hstatus' : t.viewStatus v.x0.toNat v.x1.toNat v.zoom.toNat v.rate.toNat v.hOut.toNat = 0 := hstatus
  have hfree' : t.viewAt v.slot.toNat = none := hfree
  obtain ⟨regs, hown, hrsv, hrd⟩ := t.ownChange_viewRsv (t.rdF a_ETH_VIEW_RSV f_ETH_VIEW_RSV_RSV ||| 2 ^ v.slot.toNat)
  let u : Dev := { t with regs := regs }
  have hown' : t.ownChange (fun d =>
      d.wrF a_ETH_VIEW_RSV f_ETH_VIEW_RSV_RSV (d.rdF a_ETH_VIEW_RSV f_ETH_VIEW_RSV_RSV ||| 2 ^ v.slot.toNat)) = u := hown
  let x : View := ⟨v.slot.toNat, some v.dest.toNat, 0, v.x0.toNat, v.x1.toNat, v.zoom.toNat, v.rate.toNat, v.hOut.toNat, 0, 0, 0, 0, u.el, 0,
    u.now.toNat / framePeriod v.rate.toNat, 0, [], none⟩
  have hd : d = (u.setView x).finalResp o.keel.nextId (.viewReserve v) h 0 noLine
      (leBytes 2 (wOut v.x0.toNat v.x1.toNat v.zoom.toNat) ++ leBytes 2 v.hOut.toNat) := by
    simp only [d, Dev.submit_of_starts o h _ hs]
    show t.runViewReserve (o.takenCmd h (.viewReserve v)) v = _
    have hreserve : t.viewReserve v = (u.setView x, 0, leBytes 2 (wOut v.x0.toNat v.x1.toNat v.zoom.toNat) ++ leBytes 2 v.hOut.toNat) := by
      simp only [Dev.viewReserve, hstatus', hfree', hdest', hown', decide_false, Bool.false_or, Option.isSome_none, Bool.false_eq_true, if_false,
        OfNat.zero_ne_ofNat]
      rfl
    simp only [Dev.runViewReserve, hon', hreserve, Bool.not_true, Bool.false_eq_true, if_false]
    rfl
  have hreplied := (u.setView x).replied_finalResp o.keel.nextId (.viewReserve v) h 0 noLine
    (leBytes 2 (wOut v.x0.toNat v.x1.toNat v.zoom.toNat) ++ leBytes 2 v.hOut.toNat)
  have hwork := u.viewWork_setView x
  rw [hd]
  refine ⟨?_, ?_, fun k hk => ?_, answered_of_serves ((t.serves_regs hrd).trans hwork.serves) hs _ _ _⟩
  · rw [Dev.rdF, Dev.rd_finalResp _ _ _ _ _ _ _ (by decide), hwork.rd _ (by decide)]
    show (u.rdF a_ETH_VIEW_RSV f_ETH_VIEW_RSV_RSV).testBit _ = true
    rw [hrsv, Nat.testBit_mod_two_pow, Nat.testBit_or, Nat.testBit_two_pow_self]
    simp [hslot]
  · rw [hreplied.viewAt, u.viewAt_setView x]
    rfl
  · rw [hreplied.viewAt, u.viewAt_setView_ne hk]
    rfl

/-- Work that ends a reservation's view. -/
theorem Dev.viewWork_dropView (d : Dev) (k : Nat) : d.ViewWork (d.dropView k) := by
  unfold Dev.dropView
  split
  · exact .refl d
  next v _ =>
    extract_lets begun tile rest d1
    obtain ⟨out, hsent, -⟩ := Dev.foldl_viewSend v (begun ++ rest) d
    have hd1 : d1 = { d with out := d.out ++ out } := hsent
    rw [hd1]
    exact d.viewWork_showViews _ _

theorem Dev.viewRelease_frees {k : Byte} (hs : o.starts h (.viewRelease k) = true) (hon : o.reachable .eth = true)
    (hrsv : (o.rdF a_ETH_VIEW_RSV f_ETH_VIEW_RSV_RSV).testBit k.toNat = true) :
    let d := o.submit h (.viewRelease k)
    (d.rdF a_ETH_VIEW_RSV f_ETH_VIEW_RSV_RSV).testBit k.toNat = false ∧ Answered o d h (.viewRelease k) 0 noLine [] := by
  intro d
  let t := o.taken h (.viewRelease k)
  have hon' : t.reachable .eth = true := ((o.checksAlike_taken h _).reachable _).trans hon
  have hsame : t.rdF a_ETH_VIEW_RSV f_ETH_VIEW_RSV_RSV = o.rdF a_ETH_VIEW_RSV f_ETH_VIEW_RSV_RSV :=
    congrArg (fget · _) (o.rd_taken h _ (by unfold a_ETH_VIEW_RSV a_MBX_MB_STAT; omega))
  obtain ⟨regs, hown, hset, hrd⟩ := t.ownChange_viewRsv (o.rdF a_ETH_VIEW_RSV f_ETH_VIEW_RSV_RSV ^^^ 2 ^ k.toNat)
  let u : Dev := { t with regs := regs }
  obtain ⟨e, he, hwork⟩ : ∃ e, t.viewRelease k.toNat = (e, 0) ∧ u.ViewWork e := by
    simp only [Dev.viewRelease, hsame, hrsv, hown, Bool.not_true, Bool.false_eq_true, if_false]
    refine ⟨_, rfl, ?_⟩
    split
    · split
      · exact u.viewWork_dropView _
      · exact .refl u
    · exact .refl u
  have hd : d = e.finalResp o.keel.nextId (.viewRelease k) h 0 noLine [] := by
    simp only [d, Dev.submit_of_starts o h _ hs]
    show t.runViewRelease (o.takenCmd h (.viewRelease k)) k.toNat = _
    simp only [Dev.runViewRelease, hon', he, Bool.not_true, Bool.false_eq_true, if_false]
    rfl
  rw [hd]
  refine ⟨?_, answered_of_serves ((t.serves_regs hrd).trans hwork.serves) hs _ _ _⟩
  rw [Dev.rdF, Dev.rd_finalResp _ _ _ _ _ _ _ (by decide), hwork.rd _ (by decide)]
  show (u.rdF a_ETH_VIEW_RSV f_ETH_VIEW_RSV_RSV).testBit _ = false
  rw [hset, Nat.testBit_mod_two_pow, Nat.testBit_xor, Nat.testBit_two_pow_self, hrsv]
  simp

theorem Dev.viewRelease_refused {k : Byte} (hs : o.starts h (.viewRelease k) = true) (hon : o.reachable .eth = true)
    (hrsv : (o.rdF a_ETH_VIEW_RSV f_ETH_VIEW_RSV_RSV).testBit k.toNat = false) :
    let d := o.submit h (.viewRelease k)
    d.views = o.views ∧ SameRegs o d h ∧ Answered o d h (.viewRelease k) 0x12 noLine [] := by
  intro d
  let t := o.taken h (.viewRelease k)
  have hon' : t.reachable .eth = true := ((o.checksAlike_taken h _).reachable _).trans hon
  have hsame : t.rdF a_ETH_VIEW_RSV f_ETH_VIEW_RSV_RSV = o.rdF a_ETH_VIEW_RSV f_ETH_VIEW_RSV_RSV :=
    congrArg (fget · _) (o.rd_taken h _ (by unfold a_ETH_VIEW_RSV a_MBX_MB_STAT; omega))
  have hd : d = t.finalResp o.keel.nextId (.viewRelease k) h 0x12 noLine [] := by
    simp only [d, Dev.submit_of_starts o h _ hs]
    show t.runViewRelease (o.takenCmd h (.viewRelease k)) k.toNat = _
    simp only [Dev.runViewRelease, hon', Dev.viewRelease, hsame, hrsv, Bool.not_true, Bool.not_false, Bool.false_eq_true, if_false, if_true]
    rfl
  rw [hd]
  exact ⟨(Dev.replied_finalResp _ _ _ _ _ _ _).views, answered_of_taken hs _ _⟩

/-! ### SERVICE_ABORT (R355) -/

theorem Dev.mode_dropService (d : Dev) : d.dropService.mode = d.mode := by
  unfold Dev.dropService
  extract_lets sp d0 d1 keep
  show d1.mode = d.mode
  unfold d1
  split
  · rfl
  · split <;> rfl

theorem Dev.Replied.mode {d e : Dev} (h : d.Replied e) : e.mode = d.mode := by
  obtain ⟨_, _, _, _, _, _, _, rfl⟩ := h
  rfl

theorem Dev.Replied.err {d e : Dev} (h : d.Replied e) : e.err = d.err := by
  obtain ⟨_, _, _, _, _, _, _, rfl⟩ := h
  rfl

theorem Dev.mode_loadProfile (d : Dev) (m : Nat) : (d.loadProfile m).mode = d.mode :=
  (d.rests_loadProfile (fun _ => True) (fun _ => trivial) m).mode

theorem Dev.service_abortService (d : Dev) : d.abortService.mode.service = none := by
  unfold Dev.abortService
  split
  next hnone => exact hnone
  next id _ => rw [(Dev.replied_finish _ _ _ _ _).mode, Dev.mode_dropService]

theorem Dev.serviceAbort_idle (hs : o.starts h .serviceAbort = true) (hnone : o.serviceOp = none) :
    let d := o.submit h .serviceAbort
    d.mode = o.mode ∧ SameRegs o d h ∧ Answered o d h .serviceAbort 0x12 noLine [] := by
  intro d
  let t := o.taken h .serviceAbort
  have hnone' : t.serviceOp = none := hnone
  have hd : d = t.finalResp o.keel.nextId .serviceAbort h 0x12 noLine [] := by
    simp only [d, Dev.submit_of_starts o h _ hs]
    show t.runAbort (o.takenCmd h .serviceAbort) = _
    simp only [Dev.runAbort, hnone']
    rfl
  rw [hd]
  exact ⟨(Dev.replied_finalResp _ _ _ _ _ _ _).mode, answered_of_taken hs _ _⟩

theorem Dev.serviceAbort_ends (hs : o.starts h .serviceAbort = true) {c : Cmd} (hop : o.serviceOp = some c) :
    let d := o.submit h .serviceAbort
    d.mode.service = none ∧ Answered o d h .serviceAbort 0 noLine (leBytes 2 c.opcode) := by
  intro d
  let t := o.taken h .serviceAbort
  have hop' : t.serviceOp = some c := hop
  let e := t.abortService.loadProfile t.mode.cur.code
  have hd : d = e.finalResp o.keel.nextId .serviceAbort h 0 noLine (leBytes 2 c.opcode) := by
    simp only [d, Dev.submit_of_starts o h _ hs]
    show t.runAbort (o.takenCmd h .serviceAbort) = _
    simp only [Dev.runAbort, hop']
    rfl
  have hserves : t.Serves e := (t.keeps_abortService.trans (Dev.keeps_loadProfile _ _)).serves
  rw [hd]
  refine ⟨?_, answered_of_serves hserves hs _ _ _⟩
  rw [(Dev.replied_finalResp _ _ _ _ _ _ _).mode, Dev.mode_loadProfile, Dev.service_abortService]

/-! ### CFG_OPEN and CFG_COMMIT (R491) -/

theorem Dev.windowReachable_taken (cmd : Cmd) : (o.taken h cmd).windowReachable = o.windowReachable := by
  rw [Dev.windowReachable, (o.checksAlike_taken h cmd).reachable, (o.checksAlike_taken h cmd).reachable, Dev.windowReachable]

theorem Dev.coveredReachable_taken (cmd : Cmd) : (o.taken h cmd).coveredReachable = o.coveredReachable := by
  have hreach : (o.taken h cmd).reachable = o.reachable := funext (o.checksAlike_taken h cmd).reachable
  rw [Dev.coveredReachable, hreach, Dev.coveredReachable]

/-- The counts of mailboxes are no part of the configuration. -/
theorem covered_not_boxStat : ∀ u ∈ unitsInOrder, ∀ r ∈ u.regs.filter (fun r => r.crc), ∀ a ∈ dimAddrs r.dims (u.base + r.off),
    a < 0x50200 ∨ 0x50280 ≤ a := by decide +kernel

theorem coveredOf_ne_mbStat {u : RUnit} (hu : u ∈ unitsInOrder) {p : Nat × Reg} (hp : p ∈ coveredOf u) (m : Fin 16) : p.1 ≠ a_MBX_MB_STAT m := by
  simp only [coveredOf, List.mem_mergeSort, List.mem_flatMap, List.mem_map] at hp
  obtain ⟨r, hr, a, ha, rfl⟩ := hp
  have hrange := covered_not_boxStat u hu r hr a ha
  have hm := m.isLt
  unfold a_MBX_MB_STAT
  simp only
  omega

/-- The CRC of the configuration does not depend on a command's being taken. -/
theorem Dev.configCrc_taken (cmd : Cmd) : (o.taken h cmd).configCrc = o.configCrc := by
  have hbytes : (o.taken h cmd).configBytes = o.configBytes :=
    List.flatMap_congr fun u hu => List.flatMap_congr fun p hp => by rw [o.rd_taken h cmd (coveredOf_ne_mbStat hu hp h.mailbox)]
  rw [Dev.configCrc, hbytes, Dev.configCrc]

theorem Dev.cfgOpen_opens (hon : o.windowReachable = true) (hs : o.starts h .cfgOpen = true) :
    let d := o.submit h .cfgOpen
    d.err.winOpen = some (o.err.winOpen.getD o.el) ∧ SameRegs o d h ∧ Answered o d h .cfgOpen 0 noLine [] := by
  intro d
  let t := o.taken h .cfgOpen
  have hon' : t.windowReachable = true := (Dev.windowReachable_taken _).trans hon
  obtain ⟨e, hd, hserves, hrd, hopen⟩ : ∃ e : Dev, d = e.finalResp o.keel.nextId .cfgOpen h 0 noLine [] ∧ t.Serves e ∧ (∀ a, e.rd a = t.rd a) ∧
      e.err.winOpen = some (o.err.winOpen.getD o.el) := by
    refine ⟨if t.err.winOpen.isSome then t else { t with err := { t.err with winOpen := some t.el, winLong := false } }, ?_, ?_⟩
    · simp only [d, Dev.submit_of_starts o h _ hs]
      show t.cmdCfgOpen (o.takenCmd h .cfgOpen) = _
      simp only [Dev.cmdCfgOpen, hon', Bool.not_true, Bool.false_eq_true, if_false]
      rfl
    · split
      next hsome =>
        obtain ⟨x, hx⟩ := Option.isSome_iff_exists.mp hsome
        have hx' : o.err.winOpen = some x := hx
        exact ⟨.refl t, fun _ => rfl, by rw [hx, hx']; rfl⟩
      next hnone =>
        have hx : t.err.winOpen = none := by simpa using hnone
        have hx' : o.err.winOpen = none := hx
        exact ⟨.of_same rfl rfl fun _ _ _ => rfl, fun _ => rfl, by rw [hx']; rfl⟩
  rw [hd]
  refine ⟨?_, fun b hb hstat => ?_, answered_of_serves hserves hs _ _ _⟩
  · rw [(Dev.replied_finalResp _ _ _ _ _ _ _).err, hopen]
  · rw [Dev.rd_finalResp _ _ _ _ _ _ _ hstat, hrd, o.rd_taken h _ hb]

theorem crcBit_lt {c : Nat} (hc : c < 2 ^ 32) : crcBit c < 2 ^ 32 := by
  unfold crcBit
  split
  · exact Nat.xor_lt_two_pow (by omega) (by decide)
  · omega

theorem crcByte_lt {c : Nat} (b : Byte) (hc : c < 2 ^ 32) : crcByte c b < 2 ^ 32 := by
  have hb : b.toNat < 2 ^ 32 := b.isLt.trans (by decide)
  exact crcBit_lt (crcBit_lt (crcBit_lt (crcBit_lt (crcBit_lt (crcBit_lt (crcBit_lt (crcBit_lt (Nat.xor_lt_two_pow hc hb))))))))

theorem crc32c_lt (bs : List Byte) : crc32c bs < 2 ^ 32 :=
  Nat.xor_lt_two_pow (List.foldlRecOn (motive := fun c => c < 2 ^ 32) bs crcByte (by decide) fun _ hc b _ => crcByte_lt b hc) (by decide)

/-- A commit makes the CRC of the configuration the reference, and closes the window. -/
theorem Dev.commitCrc_commits (d : Dev) :
    ∃ e, d.commitCrc = (e, d.configCrc) ∧ d.Serves e ∧ e.err.winOpen = none ∧ e.rdF a_CFG_CRC_REF f_CFG_CRC_REF_V = d.configCrc ∧
      e.rdB a_CFG_CRC_STAT f_CFG_CRC_STAT_MISMATCH = false := by
  refine ⟨_, rfl, .of_same rfl rfl fun a hlo hhi => ?_, rfl, ?_, Dev.rdB_wrB_self _ _ _ _ (by decide) (by decide)⟩
  · rw [Dev.rd_wrB_ne _ _ _ (by unfold a_CFG_CRC_STAT; omega)]
    exact (Dev.rd_wrF_ne _ _ _ (by unfold a_CFG_CRC_STAT; omega)).trans (Dev.rd_wrF_ne _ _ _ (by unfold a_CFG_CRC_REF; omega))
  · rw [Dev.rdF, Dev.rd_wrB_ne _ _ _ (by decide)]
    refine (Dev.rdF_wrF_ne _ _ f_CFG_CRC_REF_V _ (by decide)).trans ((Dev.rdF_wrF_self _ _ _ _ (by decide)).trans ?_)
    exact Nat.mod_eq_of_lt (crc32c_lt _)

theorem Dev.cfgCommit_commits (hon : o.windowReachable = true) (hcov : o.coveredReachable = true) (hs : o.starts h .cfgCommit = true) :
    let d := o.submit h .cfgCommit
    d.err.winOpen = none ∧ d.rdF a_CFG_CRC_REF f_CFG_CRC_REF_V = o.configCrc ∧ d.rdB a_CFG_CRC_STAT f_CFG_CRC_STAT_MISMATCH = false ∧
      Answered o d h .cfgCommit 0 noLine (leBytes 4 o.configCrc) := by
  intro d
  let t := o.taken h .cfgCommit
  have hon' : t.windowReachable = true := (Dev.windowReachable_taken _).trans hon
  have hcov' : t.coveredReachable = true := (Dev.coveredReachable_taken _).trans hcov
  have hcrc : t.configCrc = o.configCrc := Dev.configCrc_taken _
  obtain ⟨e, hcommit, hserves, hopen, href, hmismatch⟩ := t.commitCrc_commits
  rw [hcrc] at hcommit href
  have hd : d = e.finalResp o.keel.nextId .cfgCommit h 0 noLine (leBytes 4 o.configCrc) := by
    simp only [d, Dev.submit_of_starts o h _ hs]
    show t.cmdCfgCommit (o.takenCmd h .cfgCommit) = _
    simp only [Dev.cmdCfgCommit, hon', hcov', hcommit, Bool.not_true, Bool.or_self, Bool.false_eq_true, if_false]
    rfl
  rw [hd]
  refine ⟨?_, ?_, ?_, answered_of_serves hserves hs _ _ _⟩
  · rw [(Dev.replied_finalResp _ _ _ _ _ _ _).err, hopen]
  · rw [Dev.rdF, Dev.rd_finalResp _ _ _ _ _ _ _ (by decide)]
    exact href
  · rw [Dev.rdB, Dev.rd_finalResp _ _ _ _ _ _ _ (by decide)]
    exact hmismatch

end

end Sys2Proof.Machine
end

section
/-! What ends of commands, the end of an acquisition, SAFE_HOLD and reports leave alone of the event router: its registers (R63, R494). -/

namespace Sys2Proof.Machine

/-- The registers of the event router read as they did. -/
structure Dev.EvtStays (d e : Dev) : Prop where
  rd : ∀ a, 0x60000 ≤ a → a < 0x70000 → e.rd a = d.rd a

section
variable {d e f : Dev}

theorem Dev.EvtStays.refl (d : Dev) : d.EvtStays d := ⟨fun _ _ _ => rfl⟩

theorem Dev.EvtStays.trans (h : d.EvtStays e) (k : e.EvtStays f) : d.EvtStays f :=
  ⟨fun a hlo hhi => (k.rd a hlo hhi).trans (h.rd a hlo hhi)⟩

/-- A change outside the registers. -/
theorem Dev.EvtStays.of_same (hregs : e.regs = d.regs) (hnv : e.nv = d.nv) : d.EvtStays e := ⟨fun a _ _ => Dev.rd_congr hregs hnv a⟩

/-- What follows such a change. -/
theorem Dev.EvtStays.after (k : e.EvtStays f) (hregs : e.regs = d.regs) (hnv : e.nv = d.nv) : d.EvtStays f := (Dev.EvtStays.of_same hregs hnv).trans k

theorem Dev.EvtStays.foldl {α : Type} {f : Dev → α → Dev} (h : ∀ (d : Dev) x, d.EvtStays (f d x)) (xs : List α) (d : Dev) :
    d.EvtStays (xs.foldl f d) :=
  List.foldlRecOn xs f (motive := fun e => d.EvtStays e) (.refl d) fun e he x _ => he.trans (h e x)

theorem Dev.EvtStays.iter {f : Nat → Dev → Dev} (h : ∀ i (d : Dev), d.EvtStays (f i d)) (n : Nat) (d : Dev) :
    d.EvtStays (Sys2Proof.Machine.iter n f d) :=
  .foldl (fun d i => h i d) _ d

end

section
variable (d : Dev)

/-- A register outside the router's window is set. -/
theorem Dev.evtStays_wr {a : Nat} (v : W64) (h : a < 0x60000 ∨ 0x70000 ≤ a) : d.EvtStays (d.wr a v) :=
  ⟨fun _ hlo hhi => d.rd_wr_ne v (by omega)⟩

theorem Dev.evtStays_wrForce {a : Nat} (f : Fld) (n : Nat) (h : a < 0x60000 ∨ 0x70000 ≤ a) : d.EvtStays (d.wrForce a f n) :=
  ⟨fun _ hlo hhi => d.rd_wr_ne _ (by omega)⟩

theorem Dev.evtStays_emit (x : Out) : d.EvtStays (d.emit x) := .of_same rfl rfl

/-! ### Ends of commands -/

theorem Dev.evtStays_answer (id : Nat) (cmd : Cmd) (h : EnvHdr) (status : Nat) (line : W64) (body : List Byte) :
    d.EvtStays (d.answer id cmd h status line body) :=
  ⟨fun _ hlo _ => d.rd_answer _ _ _ _ _ _ (by unfold a_MBX_STAT; omega)⟩

theorem Dev.evtStays_finish (id status : Nat) (line : W64) (body : List Byte) : d.EvtStays (d.finish id status line body) := by
  unfold Dev.finish
  split
  · exact .refl d
  · exact ⟨fun _ hlo _ => Dev.rd_finalResp _ _ _ _ _ _ _ (by unfold a_MBX_STAT; omega)⟩

theorem Dev.evtStays_loadProfile (m : Nat) : d.EvtStays (d.loadProfile m) := ⟨fun _ hlo _ =>
  (d.rests_loadProfile (fun a => ∃ c, a = a_BAL_ACTIVE c) (fun c => ⟨c, rfl⟩) m).rd _ (by unfold a_BAL_ACTIVE; omega)⟩

theorem Dev.evtStays_endService (id status : Nat) (line : W64) (body : List Byte) : d.EvtStays (d.endService id status line body) := by
  unfold Dev.endService
  refine .trans ?_ (Dev.evtStays_finish ..)
  split
  · exact .after (Dev.evtStays_loadProfile _ _) rfl rfl
  · exact .refl d

/-! ### Pins -/

theorem Dev.evtStays_wpuPinsSafe : d.EvtStays d.wpuPinsSafe := by
  have hmko (e : Dev) : e.EvtStays e.mkoPinsSafe := by
    unfold Dev.mkoPinsSafe
    refine .trans ?_ (.iter (fun _ e => e.evtStays_emit _) _ _)
    exact .of_same rfl rfl
  unfold Dev.wpuPinsSafe
  refine .trans (.trans ?_ (hmko _)) (.iter (fun _ e => e.evtStays_emit _) _ _)
  exact .of_same rfl rfl

theorem Dev.evtStays_evioPinsSafe : d.EvtStays d.evioPinsSafe := by
  unfold Dev.evioPinsSafe
  refine .trans ?_ (.iter (fun n e => ?_) _ _)
  · exact .of_same rfl rfl
  · split
    · exact e.evtStays_emit _
    · exact .refl e

theorem Dev.evtStays_outputsIdle : d.EvtStays d.outputsIdle :=
  ⟨fun a _ _ => d.outputsIdle_leaves (π := (·.rd a)) fun _ _ => rfl⟩

/-! ### The end of an acquisition -/

theorem Dev.evtStays_hbmPut (a : Nat) (bs : List Byte) : d.EvtStays (d.hbmPut a bs) := by
  unfold Dev.hbmPut
  split
  · exact .of_same rfl rfl
  · exact .refl d

theorem Dev.evtStays_setEngine (e : Nat) (x : EngSt) (state : Nat) : d.EvtStays (d.setEngine e x state) := by
  have haddr : a_THA_ENG_STAT e < 0x60000 ∨ 0x70000 ≤ a_THA_ENG_STAT e := by unfold a_THA_ENG_STAT; omega
  unfold Dev.setEngine
  refine .trans (.trans (.trans (.trans ?_ (Dev.evtStays_wr _ _ haddr)) (Dev.evtStays_wr _ _ haddr)) (Dev.evtStays_wr _ _ haddr))
    (Dev.evtStays_wr _ _ haddr)
  exact .of_same rfl rfl

theorem Dev.evtStays_noteShort (c : Nat) : d.EvtStays (d.noteShort c) := by
  unfold Dev.noteShort
  split
  · exact .refl d
  · exact .of_same rfl rfl

theorem Dev.evtStays_inc {a : Nat} (f : Fld) (n : Nat) (h : a < 0x60000 ∨ 0x70000 ≤ a) : d.EvtStays (d.inc a f n) :=
  ⟨fun _ hlo hhi => d.rd_inc_ne _ _ (by omega)⟩

theorem Dev.evtStays_engWrote (e : Nat) (j : ThaJob) (x y : EngSt) (w : List Byte) (cycles : Nat) : d.EvtStays (d.engWrote e j x y w cycles) := by
  have haddr : a_THA_ENG_CNT e < 0x60000 ∨ 0x70000 ≤ a_THA_ENG_CNT e := by unfold a_THA_ENG_CNT; omega
  unfold Dev.engWrote
  refine .trans (.trans ?_ (Dev.evtStays_inc _ _ _ haddr)) (Dev.evtStays_inc _ _ _ haddr)
  split
  · exact .of_same rfl rfl
  · exact .after (Dev.evtStays_hbmPut ..) rfl rfl

theorem Dev.evtStays_engRun (e : Nat) : d.EvtStays (d.engRun e) := by
  unfold Dev.engRun
  extract_lets x
  split
  · exact .refl d
  · extract_lets c n
    split
    · split
      · exact .trans (d.evtStays_noteShort _) (Dev.evtStays_setEngine ..)
      · split
        · exact d.evtStays_setEngine ..
        · exact d.evtStays_setEngine ..
    · split
      extract_lets short e
      refine .trans ?_ (Dev.evtStays_setEngine ..)
      split
      · exact .trans (d.evtStays_engWrote ..) (Dev.evtStays_noteShort ..)
      · exact d.evtStays_engWrote ..

theorem Dev.evtStays_jobDone (e : Nat) : d.EvtStays (d.jobDone e).1 := by
  unfold Dev.jobDone
  extract_lets x
  split
  · exact .refl d
  · split
    · exact .refl d
    · split
      split
      · exact .trans (d.evtStays_engWrote ..) (Dev.evtStays_setEngine ..)
      · extract_lets r
        split
        exact .trans (.trans (d.evtStays_engWrote ..) (Dev.evtStays_setEngine ..)) (Dev.evtStays_emit ..)

theorem Dev.evtStays_stopJobs : d.EvtStays d.stopJobs := by
  have hfree (e : Dev) (c : Nat) : e.EvtStays (e.freeOwn c) := .iter (fun k e => by
    split
    · split
      · exact e.evtStays_setEngine ..
      · exact .refl e
    · exact .refl e) _ _
  have hgrow (e : Dev) (r : RecSt) (content obj : Nat) (bs : List Byte) (complete trunc : Bool) :
      e.EvtStays (({ e with cls := { e.cls with rec_ := r } } : Dev).growObject content obj bs complete trunc) := by
    refine .trans ?_ (.of_same rfl rfl : Dev.EvtStays _ (Dev.growObject _ _ _ _ _ _))
    exact .of_same rfl rfl
  have hstage (e : Dev) (bs : List Byte) (complete trunc : Bool) : e.EvtStays (e.stagePut bs complete trunc) :=
    .trans (.trans (e.evtStays_hbmPut _ _) (Dev.evtStays_hbmPut _ _ _)) (hgrow _ _ _ _ _ _ _)
  have hclose (e : Dev) (trunc : Bool) : e.EvtStays (e.closeSegment trunc) := by
    unfold Dev.closeSegment
    split
    · exact .refl e
    · refine .trans (.trans ?_ (hfree _ _)) (hstage _ _ _ _)
      exact .of_same rfl rfl
  have hstops (e : Dev) : e.EvtStays e.engineStops := .iter (fun k e => by
    split
    · exact .refl e
    · split
      · exact .refl e
      · extract_lets d' x
        refine (e.evtStays_engRun k).trans ?_
        split
        · exact .refl _
        · exact .trans (Dev.evtStays_setEngine ..) (Dev.evtStays_jobDone ..)) _ _
  unfold Dev.stopJobs
  refine .trans (.trans ?_ (hclose _ _)) (hstops _)
  exact .of_same rfl rfl

theorem Dev.evtStays_captureAbort : d.EvtStays d.captureAbort := by
  have haddr : a_SEG_REP_CAPTURE < 0x60000 ∨ 0x70000 ≤ a_SEG_REP_CAPTURE := by decide
  unfold Dev.captureAbort
  split
  · refine .trans (.trans ?_ (Dev.evtStays_wr _ _ haddr)) (Dev.evtStays_wr _ _ haddr)
    exact .of_same rfl rfl
  · exact .refl d

theorem Dev.evtStays_acqStops : d.EvtStays d.acqStops := by
  unfold Dev.acqStops
  refine .trans (.trans (.trans ?_ (Dev.evtStays_stopJobs _)) (Dev.evtStays_captureAbort _)) (.iter (fun n e => ?_) _ _)
  · exact .of_same rfl rfl
  · split
    · exact e.evtStays_wrForce _ _ (by unfold a_PIPE_ROLE; omega)
    · exact .refl e

theorem Dev.evtStays_closeAfterLast (bit : Nat) : d.EvtStays (d.closeAfterLast bit) := by
  unfold Dev.closeAfterLast
  split
  · exact .of_same rfl rfl
  · exact .refl d

/-! ### The pair -/

theorem Dev.evtStays_pairClosed : d.EvtStays d.pairClosed := by
  have hwaiting (e : Dev) (m : Fin 16) : e.EvtStays (e.cancelWaiting m) :=
    .after (.foldl (fun e _ => e.evtStays_answer ..) _ _) rfl rfl
  have halone (e : Dev) : e.EvtStays e.fwdAlone := .after (.foldl (fun e f => by
    split
    · exact e.evtStays_answer ..
    · exact .refl e) _ _) rfl rfl
  unfold Dev.pairClosed
  extract_lets d1 d2
  have h1 : d.EvtStays d1 := by
    unfold d1
    split
    · exact d.evtStays_wr _ (by decide)
    · exact .refl d
  have h2 : d1.EvtStays d2 := by
    unfold d2
    split
    · exact .of_same rfl rfl
    · exact .refl d1
  refine .trans (.trans ?_ (hwaiting _ _)) (halone _)
  exact (h1.trans h2).trans (.of_same rfl rfl)

theorem Dev.evtStays_cancelOwned : d.EvtStays d.cancelOwned := by
  unfold Dev.cancelOwned
  extract_lets gone k d1 d2 l m c p d3
  have h1 : d.EvtStays d1 := .of_same rfl rfl
  have h2 : d1.EvtStays d2 := .foldl (fun e f => by
    split
    · exact e.evtStays_answer ..
    · exact .refl e) _ _
  have h3 : d2.EvtStays d3 := .of_same rfl rfl
  exact ((h1.trans h2).trans h3).trans (.foldl (fun e p => e.evtStays_endService ..) _ _)

theorem Dev.evtStays_leavePair : d.EvtStays d.leavePair := by
  unfold Dev.leavePair
  split
  · exact .refl d
  · extract_lets ofs d1 hand d2 p d3 d4
    have h1 : d.EvtStays d1 := by
      unfold d1
      split
      · exact .refl d
      · exact d.evtStays_cancelOwned
    have h2 : d1.EvtStays d2 := .trans (.trans (.trans (d1.evtStays_wr _ (by decide)) (Dev.evtStays_wr _ _ (by decide)))
      (Dev.evtStays_wr _ _ (by decide))) (Dev.evtStays_wr _ _ (by decide))
    have h3 : d2.EvtStays d3 := .of_same rfl rfl
    have h4 : d3.EvtStays d4 := by
      unfold d4
      clear_value hand
      split
      · exact d3.evtStays_finish ..
      · exact .refl d3
    exact .trans (.trans (((h1.trans h2).trans h3).trans h4) (Dev.evtStays_pairClosed _)) (Dev.evtStays_outputsIdle _)

/-! ### SAFE_HOLD and reports -/

theorem Dev.evtStays_dropService : d.EvtStays d.dropService := by
  unfold Dev.dropService
  extract_lets sp d0 d1 keep
  have h1 : d.EvtStays d1 := by
    unfold d1
    split
    · exact .refl d
    · split
      · exact .of_same rfl rfl
      · exact .after (Dev.evtStays_wrForce _ _ _ (by unfold a_PIPE_ROLE; omega)) rfl rfl
  exact h1.trans (.of_same rfl rfl)

theorem Dev.evtStays_abortService : d.EvtStays d.abortService := by
  unfold Dev.abortService
  split
  · exact .refl d
  · refine .trans (.trans ?_ (Dev.evtStays_dropService _)) (Dev.evtStays_finish ..)
    exact .of_same rfl rfl

theorem Dev.evtStays_cancelMode : d.EvtStays d.cancelMode := by
  unfold Dev.cancelMode
  split
  · exact .refl d
  · extract_lets m d1
    have h1 : d.EvtStays d1 := .of_same rfl rfl
    split
    · exact h1
    · exact h1.trans (Dev.evtStays_finish ..)

theorem Dev.evtStays_enterSafe (cause : Nat) : d.EvtStays (d.enterSafe cause) := by
  unfold Dev.enterSafe
  extract_lets m was d1 d2 d3 m3 d4 d5 d6
  have h1 : d.EvtStays d1 := d.evtStays_wpuPinsSafe.trans (Dev.evtStays_evioPinsSafe _)
  have h3 : d1.EvtStays d3 := .trans (Dev.evtStays_cancelMode _) (Dev.evtStays_abortService _)
  have h4 : d3.EvtStays d4 := by
    unfold d4 Dev.alertFrom
    clear_value d3
    split
    · exact .of_same rfl rfl
    · exact .of_same rfl rfl
  have h5 : d4.EvtStays d5 := by
    unfold d5
    split
    · exact .trans d4.evtStays_acqStops (Dev.evtStays_closeAfterLast ..)
    · exact .refl d4
  have h6 := ((h1.trans h3).trans (h4.trans h5)).trans (d5.evtStays_loadProfile 7)
  split
  · exact .of_same rfl rfl
  · split
    · exact h1
    · split
      · exact h6.trans ⟨fun a _ _ => (Dev.rests_ridge (fun _ => False) _ _ _).rd a not_false⟩
      · exact h6

theorem Dev.evtStays_reportErr (code origin info : Nat) : d.EvtStays (d.reportErr code origin info) := by
  unfold Dev.reportErr Dev.reportAs
  extract_lets m own mapSafe mapRst fatal rst safe
  split
  next st d1 hstamp =>
  extract_lets entry err d2 d3 err' d4
  have h1 : d.EvtStays d1 := by
    have hd1 : d1 = (d.mkStamp origin d.now).2 := congrArg Prod.snd hstamp.symm
    rw [hd1]
    exact .of_same rfl rfl
  have h2 : d1.EvtStays d2 := by
    unfold d2
    split
    · exact ⟨fun a hlo _ => Dev.rd_flag_ne _ _ _ (by unfold a_ERR_STAT; omega)⟩
    · exact .refl d1
  have h3 : d2.EvtStays d3 := by
    unfold d3
    split
    · exact .trans (d2.evtStays_emit _) (Dev.evtStays_leavePair _)
    · exact .refl d2
  have h4 : d3.EvtStays d4 := by
    unfold d4
    split
    · exact .of_same rfl rfl
    · split
      · exact d3.evtStays_enterSafe 2
      · exact .refl d3
  exact ((h1.trans h2).trans (h3.trans h4)).trans (.of_same rfl rfl)

end

end Sys2Proof.Machine
end

section
/-! EVT_COMMIT (R385, R386): events that reached the router before fire under the old routing, which leaves alone what the answer goes by and the
register that shows the commit. -/

namespace Sys2Proof.Machine

/-- Events have reached consumers and the log: what answers go by has stayed, and so has EVT.COMMIT_STAT. -/
structure Dev.Fires (d e : Dev) : Prop where
  serves : d.Serves e
  commits : e.rd a_EVT_COMMIT_STAT = d.rd a_EVT_COMMIT_STAT

section
variable {d e f : Dev}

theorem Dev.Fires.refl (d : Dev) : d.Fires d := ⟨.refl d, rfl⟩

theorem Dev.Fires.trans (h : d.Fires e) (k : e.Fires f) : d.Fires f := ⟨h.serves.trans k.serves, k.commits.trans h.commits⟩

/-- A change outside the Keel, the rings and the registers. -/
theorem Dev.Fires.of_same (hkeel : e.keel = d.keel) (hrings : e.host.rings = d.host.rings) (hregs : e.regs = d.regs) (hnv : e.nv = d.nv) :
    d.Fires e :=
  ⟨.of_same hkeel hrings fun a _ _ => Dev.rd_congr hregs hnv a, Dev.rd_congr hregs hnv _⟩

theorem Dev.Fires.foldl {α : Type} {f : Dev → α → Dev} (h : ∀ (d : Dev) x, d.Fires (f d x)) (xs : List α) (d : Dev) : d.Fires (xs.foldl f d) :=
  List.foldlRecOn xs f (motive := fun e => d.Fires e) (.refl d) fun e he x _ => he.trans (h e x)

theorem Dev.Fires.iter {f : Nat → Dev → Dev} (h : ∀ i (d : Dev), d.Fires (f i d)) (n : Nat) (d : Dev) : d.Fires (Sys2Proof.Machine.iter n f d) :=
  .foldl (fun d i => h i d) _ d

end

section
variable (d : Dev)

/-- A register behind COMMIT_STAT is set. -/
theorem Dev.fires_wr {a : Nat} (v : W64) (h : 0x60018 < a) : d.Fires (d.wr a v) :=
  ⟨.of_same rfl rfl fun _ _ hhi => d.rd_wr_ne v (by omega), d.rd_wr_ne v (by unfold a_EVT_COMMIT_STAT; omega)⟩

theorem Dev.fires_inc {a : Nat} (f : Fld) (n : Nat) (h : 0x60018 < a) : d.Fires (d.inc a f n) :=
  ⟨.of_same rfl rfl fun _ _ hhi => d.rd_inc_ne _ _ (by omega), d.rd_inc_ne _ _ (by unfold a_EVT_COMMIT_STAT; omega)⟩

theorem Dev.fires_flag {a : Nat} (f : Fld) (n : Nat) (h : 0x60018 < a) : d.Fires (d.flag a f n) :=
  ⟨.of_same rfl rfl fun _ _ hhi => d.rd_flag_ne _ _ (by omega), d.rd_flag_ne _ _ (by unfold a_EVT_COMMIT_STAT; omega)⟩

/-! ### Reports -/

theorem Dev.serves_enterSafe (cause : Nat) : d.Serves (d.enterSafe cause) := by
  cases hs : d.mode.starting with
  | true => exact (d.keeps_enterSafe_of_starting cause hs).serves
  | false =>
    have hheld (c : BitVec 4) : d.Serves (d.heldSafe c) := .of_same rfl rfl fun _ _ _ => rfl
    exact (hheld _).trans (d.keeps_enterSafe cause hs).serves

theorem Dev.fires_reportErr (code origin info : Nat) : d.Fires (d.reportErr code origin info) := by
  refine ⟨?_, (d.evtStays_reportErr code origin info).rd _ (by decide) (by decide)⟩
  obtain ⟨e, x, hkeeps, heq | heq⟩ := d.reportErr_cases code origin info
  · rw [heq]
    exact (hkeeps.trans (e.keeps_fly .err x)).serves
  · rw [heq]
    exact (hkeeps.serves.trans (e.serves_enterSafe 2)).trans (Dev.keeps_fly _ .err x).serves

/-! ### Rate limit and storm guard (R387) -/

theorem Dev.fires_windowEnds (c : Nat) (gap : Bool) : d.Fires (d.windowEnds c gap) := by
  have haddr : 0x60018 < a_EVT_CH_CTRL c := by unfold a_EVT_CH_CTRL; omega
  unfold Dev.windowEnds
  extract_lets x v run d1
  have h1 : d.Fires d1 := .of_same rfl rfl rfl rfl
  split
  · exact .trans (.trans (h1.trans (d1.fires_wr _ haddr)) (Dev.fires_flag _ _ _ haddr)) (Dev.fires_reportErr ..)
  · exact .of_same rfl rfl rfl rfl

theorem Dev.fires_rateWindows : d.Fires d.rateWindows := by
  unfold Dev.rateWindows
  extract_lets k evt d1
  split
  · exact .refl d
  · exact .trans (e := d1) (.of_same rfl rfl rfl rfl) (.foldl (fun e c => e.fires_windowEnds ..) _ _)

theorem Dev.fires_rateTake (c : Nat) : d.Fires (d.rateTake c).1 := by
  unfold Dev.rateTake
  extract_lets lim x
  split
  · exact .refl d
  · split
    · exact .of_same rfl rfl rfl rfl
    · refine .trans ?_ (Dev.fires_inc _ _ _ (by unfold a_EVT_CH_STAT; omega))
      exact .of_same rfl rfl rfl rfl

/-! ### Consumers (R378) -/

theorem Dev.fires_conBlocked (i : Nat) : d.Fires (d.conBlocked i) := d.fires_inc _ _ (by unfold a_EVT_CON_STAT; omega)

theorem Dev.fires_conBusy (i : Nat) : d.Fires (d.conBusy i) := d.fires_inc _ _ (by unfold a_EVT_CON_STAT; omega)

theorem Dev.fires_evioSet (n : Nat) (active : Bool) (until_ : Option Nat) : d.Fires (d.evioSet n active until_) := by
  unfold Dev.evioSet
  extract_lets x d1
  split
  · exact .of_same rfl rfl rfl rfl
  · split
    · exact .of_same rfl rfl rfl rfl
    · exact .of_same rfl rfl rfl rfl

theorem Dev.fires_evioEvent (n : Nat) : d.Fires (d.evioEvent n) := by
  unfold Dev.evioEvent
  extract_lets c
  split <;> exact d.fires_evioSet ..

theorem Dev.fires_latchFrom (src : Nat) (p : Nat → Bool) : d.Fires (d.latchFrom src p) := by
  refine .iter (fun k e => ?_) _ _
  split
  · exact .trans (e.fires_wr _ (by unfold a_WPU_LATCH_POS; omega)) (Dev.fires_wr _ _ (by unfold a_WPU_LATCH_TIME; omega))
  · exact .refl e

theorem Dev.fires_strobeFrom (s src : Nat) : d.Fires (d.strobeFrom s src) := by
  unfold Dev.strobeFrom
  extract_lets c
  split
  · exact .of_same rfl rfl rfl rfl
  · exact .refl d

theorem Dev.fires_loftFreeze : d.Fires d.loftFreeze := by
  unfold Dev.loftFreeze Dev.loftStop
  split
  · exact .refl d
  · split
    · refine .trans ?_ (Dev.fires_wr _ _ (by decide))
      exact .of_same rfl rfl rfl rfl
    · exact .of_same rfl rfl rfl rfl

theorem Dev.fires_msix (v : Nat) : d.Fires (d.msix v) := by
  unfold Dev.msix
  split
  · exact .of_same rfl rfl rfl rfl
  · split
    · exact .refl d
    · exact .of_same rfl rfl rfl rfl

theorem Dev.fires_irqEvent (i : Nat) : d.Fires (d.irqEvent i) := by
  unfold Dev.irqEvent
  extract_lets v d1
  have h1 : d.Fires d1 := d.fires_flag _ _ (by decide)
  split
  · exact d.fires_conBusy _
  · split
    · exact h1.trans (d1.fires_msix _)
    · exact h1

theorem Dev.fires_consume (i : Nat) (time : W64) : d.Fires (d.consume i time) := by
  have hblocked := d.fires_conBlocked i
  have hbusy := d.fires_conBusy i
  unfold Dev.consume
  split
  case isTrue => -- an event pin
    split
    · exact hblocked
    · split
      · exact hbusy
      · exact d.fires_evioEvent i
  split
  case isTrue => -- a latch
    split
    · exact .refl d
    · exact d.fires_latchFrom ..
  split
  case isTrue => -- a strobe
    split
    · exact hblocked
    · split
      · exact .refl d
      · exact d.fires_strobeFrom ..
  split
  case isTrue => -- the mark of a repeat
    split
    · exact hblocked
    · split
      · exact hbusy
      · exact .of_same rfl rfl rfl rfl
  split
  case isTrue => -- a freeze of the loft
    split
    · exact hblocked
    · split
      · exact hbusy
      · exact d.fires_loftFreeze
  split
  case isTrue => -- a roll
    split
    · exact hblocked
    · split
      · exact hbusy
      · exact .of_same rfl rfl rfl rfl
  split
  · exact d.fires_irqEvent _
  · exact .refl d

theorem Dev.fires_deliverEvt (c cycle : Nat) (time : W64) : d.Fires (d.deliverEvt c cycle time) := by
  refine .foldl (fun e i => ?_) _ _
  split
  · exact .refl e
  · split
    · exact e.fires_inc _ _ (by unfold a_EVT_CON_STAT; omega)
    · refine .trans ?_ (Dev.fires_consume _ _ _)
      exact .of_same rfl rfl rfl rfl

/-! ### Channels (R380) -/

theorem Dev.fires_channelFire (c : Nat) : d.Fires (d.channelFire c) := by
  have hstat : 0x60018 < a_EVT_CH_STAT c := by unfold a_EVT_CH_STAT; omega
  unfold Dev.channelFire
  split
  · exact .refl d
  next ev _ =>
    extract_lets d1 mine left points sw n evt d2 d3
    have h3 : d.Fires d3 := .trans (.trans d.fires_rateWindows (.of_same rfl rfl rfl rfl : d1.Fires d2)) (d2.fires_inc _ _ hstat)
    split
    next d4 pass htake =>
    have h4 : d.Fires d4 := by
      have hd4 : d4 = (d3.rateTake c).1 := congrArg Prod.fst htake.symm
      rw [hd4]
      exact h3.trans (d3.fires_rateTake c)
    split
    · exact h4
    · extract_lets d5
      split
      next st d6 hstamp =>
      extract_lets body d7
      have h6 : d.Fires d6 := by
        have hd6 : d6 = (d5.mkStamp 22 ev.time).2 := congrArg Prod.snd hstamp.symm
        rw [hd6]
        exact (h4.trans (d4.fires_inc _ _ hstat)).trans (.of_same rfl rfl rfl rfl)
      have h7 : d.Fires d7 := by
        unfold d7
        split
        · exact h6.trans (.of_same rfl rfl rfl rfl)
        · exact h6
      exact h7.trans (d7.fires_deliverEvt ..)

theorem Dev.fires_fireAll : d.Fires d.fireAll := .foldl (fun e c => e.fires_channelFire c) _ _

/-! ### The commit (R385, R386) -/

theorem Dev.fires_evioCommitted (old : W64) (n : Nat) : d.Fires (d.evioCommitted old n) := by
  unfold Dev.evioCommitted
  extract_lets new wasOut isOut inv x
  split
  · exact d.fires_evioSet ..
  · split
    · exact .of_same rfl rfl rfl rfl
    · split
      · exact .of_same rfl rfl rfl rfl
      · exact .refl d

/-- A commit that no loop refuses counts GEN and clears LAST_REFUSED. -/
theorem Dev.evtCommit_commits (hloop : d.evtLoop = none) :
    ∃ e, d.evtCommit = (e, none) ∧ d.Serves e ∧
      e.rdF a_EVT_COMMIT_STAT f_EVT_COMMIT_STAT_GEN = (d.rdF a_EVT_COMMIT_STAT f_EVT_COMMIT_STAT_GEN + 1) % 2 ^ f_EVT_COMMIT_STAT_GEN.w ∧
      e.rdB a_EVT_COMMIT_STAT f_EVT_COMMIT_STAT_LAST_REFUSED = false := by
  let d1 := d.fireAll
  let d2 := d1.commit .evt
  let d3 := iter 32 (fun n e => e.evioCommitted (lget ((List.range 32).map (fun n => d1.inForce (a_EVT_EVIO_CFG n))) n 0) n) d2
  have h3 : d.Fires d3 :=
    .trans (.trans d.fires_fireAll (.of_same rfl rfl rfl rfl : d1.Fires d2)) (.iter (fun n e => e.fires_evioCommitted _ _) _ _)
  have hgen : d3.rdF a_EVT_COMMIT_STAT f_EVT_COMMIT_STAT_GEN = d.rdF a_EVT_COMMIT_STAT f_EVT_COMMIT_STAT_GEN := congrArg (fget · _) h3.commits
  refine ⟨(d3.wrF a_EVT_COMMIT_STAT f_EVT_COMMIT_STAT_GEN (d3.rdF a_EVT_COMMIT_STAT f_EVT_COMMIT_STAT_GEN + 1)).wrB a_EVT_COMMIT_STAT
    f_EVT_COMMIT_STAT_LAST_REFUSED false, ?_, h3.serves.trans (.of_same rfl rfl fun a hlo hhi => ?_), ?_, ?_⟩
  · simp only [Dev.evtCommit, hloop]
    rfl
  · exact (Dev.rd_wrB_ne _ _ _ (by unfold a_EVT_COMMIT_STAT; omega)).trans (Dev.rd_wrF_ne _ _ _ (by unfold a_EVT_COMMIT_STAT; omega))
  · rw [Dev.rdF_wrB_disjoint _ _ _ (by decide) (by decide), Dev.rdF_wrF_self _ _ _ _ (by decide), hgen]
  · exact Dev.rdB_wrB_self _ _ _ _ (by decide) (by decide)

end

section
variable {o : Dev} {h : EnvHdr}

/-- The router's registers do not tell that a command has been taken. -/
theorem Dev.evtLoop_taken (cmd : Cmd) : (o.taken h cmd).evtLoop = o.evtLoop := by
  have hrd {a : Nat} (ha : 0x60000 ≤ a) : (o.taken h cmd).rd a = o.rd a := o.rd_taken h cmd (by unfold a_MBX_MB_STAT; omega)
  have hsel (p : Nat) : (o.taken h cmd).rd (a_EVT_CON_SEL p) = o.rd (a_EVT_CON_SEL p) := hrd (by unfold a_EVT_CON_SEL; omega)
  have hsrc (c : Nat) : (o.taken h cmd).rd (a_EVT_CH_SRC c) = o.rd (a_EVT_CH_SRC c) := hrd (by unfold a_EVT_CH_SRC; omega)
  simp only [Dev.evtLoop, Dev.evtNodes, Dev.evtEdge, hsel, hsrc]

theorem Dev.evtCommit_done (hs : o.starts h .evtCommit = true) (hon : o.reachable .evt = true) (hloop : o.evtLoop = none) :
    let d := o.submit h .evtCommit
    Answered o d h .evtCommit 0 noLine [] ∧
      d.rdF a_EVT_COMMIT_STAT f_EVT_COMMIT_STAT_GEN = (o.rdF a_EVT_COMMIT_STAT f_EVT_COMMIT_STAT_GEN + 1) % 2 ^ f_EVT_COMMIT_STAT_GEN.w ∧
      d.rdB a_EVT_COMMIT_STAT f_EVT_COMMIT_STAT_LAST_REFUSED = false := by
  intro d
  let t := o.taken h .evtCommit
  have hon' : t.reachable .evt = true := ((o.checksAlike_taken h _).reachable _).trans hon
  have hcommits : t.rdF a_EVT_COMMIT_STAT f_EVT_COMMIT_STAT_GEN = o.rdF a_EVT_COMMIT_STAT f_EVT_COMMIT_STAT_GEN :=
    congrArg (fget · _) (o.rd_taken h _ (by unfold a_EVT_COMMIT_STAT a_MBX_MB_STAT; omega))
  obtain ⟨e, he, hserves, hgen, hlast⟩ := t.evtCommit_commits ((Dev.evtLoop_taken _).trans hloop)
  have hd : d = e.finalResp o.keel.nextId .evtCommit h 0 noLine [] := by
    simp only [d, Dev.submit_of_starts o h _ hs]
    show t.runEvtCommit (o.takenCmd h .evtCommit) = _
    simp only [Dev.runEvtCommit, hon', he, Bool.not_true, Bool.false_eq_true, if_false]
    rfl
  have hstat : d.rd a_EVT_COMMIT_STAT = e.rd a_EVT_COMMIT_STAT := by rw [hd, Dev.rd_finalResp _ _ _ _ _ _ _ (by decide)]
  rw [Dev.rdF, Dev.rdB, hstat]
  refine ⟨hd ▸ answered_of_serves hserves hs _ _ _, ?_, hlast⟩
  rw [← hcommits]
  exact hgen

theorem Dev.evtCommit_refused (hs : o.starts h .evtCommit = true) (hon : o.reachable .evt = true) {l : List Nat} (hloop : o.evtLoop = some l) :
    let d := o.submit h .evtCommit
    d.force = o.force ∧ d.evt = o.evt ∧ d.rdB a_EVT_COMMIT_STAT f_EVT_COMMIT_STAT_LAST_REFUSED = true ∧
      Answered o d h .evtCommit 0x3A noLine (leBytes 2 l.length ++ l.flatMap (fun c => leBytes 2 c)) := by
  intro d
  let t := o.taken h .evtCommit
  have hon' : t.reachable .evt = true := ((o.checksAlike_taken h _).reachable _).trans hon
  have hloop' : t.evtLoop = some l := (Dev.evtLoop_taken _).trans hloop
  let e := (t.inc a_EVT_COMMIT_STAT f_EVT_COMMIT_STAT_LOOP_CNT).wrB a_EVT_COMMIT_STAT f_EVT_COMMIT_STAT_LAST_REFUSED true
  have hd : d = e.finalResp o.keel.nextId .evtCommit h 0x3A noLine (leBytes 2 l.length ++ l.flatMap (fun c => leBytes 2 c)) := by
    simp only [d, Dev.submit_of_starts o h _ hs]
    show t.runEvtCommit (o.takenCmd h .evtCommit) = _
    simp only [Dev.runEvtCommit, hon', Dev.evtCommit, hloop', Bool.not_true, Bool.false_eq_true, if_false]
    rfl
  have hserves : t.Serves e := .of_same rfl rfl fun a hlo hhi =>
    (Dev.rd_wrB_ne _ _ _ (by unfold a_EVT_COMMIT_STAT; omega)).trans (Dev.rd_inc_ne _ _ _ (by unfold a_EVT_COMMIT_STAT; omega))
  obtain ⟨_, _, _, _, _, _, _, hreplied⟩ :=
    e.replied_finalResp o.keel.nextId .evtCommit h 0x3A noLine (leBytes 2 l.length ++ l.flatMap (fun c => leBytes 2 c))
  refine ⟨?_, ?_, ?_, hd ▸ answered_of_serves hserves hs _ _ _⟩
  · rw [hd, hreplied]
    rfl
  · rw [hd, hreplied]
    rfl
  · rw [hd, Dev.rdB, Dev.rd_finalResp _ _ _ _ _ _ _ (by decide)]
    exact Dev.rdB_wrB_self _ _ _ _ (by decide) (by decide)

end

/-! ### The statement -/

/-- Settles O59: each command of class I is taken, runs at once and ends with its answer; what it changes on the way leaves alone what the answer
goes by (`answered_of_serves`). -/
theorem envelopesAnswered : Obligations.EnvelopesAnswered := by
  intro s h o
  refine ⟨fun hs => ?nop, fun hs hest => ?info, fun m tag hs => ?query, fun item x hs hitem hx hlen => ?calRead,
    fun a n p hsize ht hr hon hp => ?registers, fun hs hon => ?roll, fun v hs hon hdest hstatus hfree => ?reserve,
    fun k hs hon => ?release, fun hs => ?abort, fun hwin hs => ?opens, fun hwin hcov hs => ?commit, fun hs hon => ?events⟩
  case nop =>
    refine makes_of_submit rfl ?_
    rw [Dev.submit_nop hs]
    exact (answered_of_taken hs _ _).symm
  case info =>
    refine makes_of_submit rfl ?_
    rw [Dev.submit_info hs hest]
    exact answered_of_taken hs _ _
  case query =>
    refine ⟨fun hits => makes_of_submit rfl ?_, fun x hits => makes_of_submit rfl ?_⟩
    · rw [Dev.submit_cmdQuery hs, Dev.runQuery_none _ ((Dev.queryHits_taken _ _ _).trans hits)]
      exact answered_of_taken hs _ _
    · rw [Dev.submit_cmdQuery hs, Dev.runQuery_one _ ((Dev.queryHits_taken _ _ _).trans hits)]
      exact answered_of_taken hs _ _
  case calRead =>
    refine makes_of_submit rfl ?_
    rw [Dev.submit_calRead hs hitem hx hlen]
    exact answered_of_taken hs _ _
  case registers =>
    exact ⟨fun e ha hn hs hreach _ hu hj => makes_of_submit rfl (Dev.regRead_answers hp hs ha hn hsize ht hr hon hreach hu hj),
      fun e ha hn hs htakes hplain hu => makes_of_submit rfl (Dev.regWrite_answers hp hs ha hn hsize ht hr hon hu htakes hplain)⟩
  case roll =>
    exact ⟨fun hfree hacq => makes_of_submit rfl (Dev.rollNext_waits hs hon hfree hacq),
      fun hfree hacq => makes_of_submit rfl (Dev.rollNext_answers hs hon hfree hacq),
      fun hfull => makes_of_submit rfl (Dev.rollNext_refused hs hon hfull)⟩
  case reserve => exact makes_of_submit rfl (Dev.viewReserve_answers hs hon hdest hstatus hfree)
  case release =>
    exact ⟨fun hrsv => makes_of_submit rfl (Dev.viewRelease_frees hs hon hrsv),
      fun hrsv => makes_of_submit rfl (Dev.viewRelease_refused hs hon hrsv)⟩
  case abort =>
    exact ⟨fun hnone => makes_of_submit rfl (Dev.serviceAbort_idle hs hnone), fun c hop => makes_of_submit rfl (Dev.serviceAbort_ends hs hop)⟩
  case opens => exact makes_of_submit rfl (Dev.cfgOpen_opens hwin hs)
  case commit => exact makes_of_submit rfl (Dev.cfgCommit_commits hwin hcov hs)
  case events =>
    exact ⟨fun hloop => makes_of_submit rfl (Dev.evtCommit_done hs hon hloop),
      fun l hloop => makes_of_submit rfl (Dev.evtCommit_refused hs hon hloop)⟩

end Sys2Proof.Machine
end
